-- ==== Sys2Proof/Word.lean ====
section
/-! DEFINITION. Word.lean: the byte and word types of the ZL4096 and the plainest operations on them. -/

namespace Sys2Proof

/-- A byte on a link, in a register or in a host-memory structure (R6). -/
abbrev Byte := BitVec 8

/-- A 32-bit register word (Set-up register map). -/
abbrev Word := BitVec 32

/-- `clamp(x, lo, hi)` of R5. -/
def clamp (x lo hi : Int) : Int := if x < lo then lo else if hi < x then hi else x

/-- A counter that saturates at `m` (R534). -/
def satAdd (m a b : Nat) : Nat := if m < a + b then m else a + b

/-- `ceil(a / b)`. -/
def ceilDiv (a b : Nat) : Nat := (a + b - 1) / b

/-- Bit `i` of a number, as 0 or 1. -/
def bitAt (x i : Nat) : Nat := x / 2 ^ i % 2

/-- Bits `hi..lo` of a number. -/
def bitsOf (x hi lo : Nat) : Nat := x / 2 ^ lo % 2 ^ (hi + 1 - lo)

/-- Whether bit `i` of a number is set. -/
def hasBit (x i : Nat) : Bool := bitAt x i == 1

/-- A list with entry `i` replaced; unchanged where there is no entry `i`. -/
def setAt {α : Type} (xs : List α) (i : Nat) (a : α) : List α := xs.set i a

/-- A list with entry `i` passed through `f`. -/
def modAt {α : Type} (xs : List α) (i : Nat) (f : α → α) : List α := xs.modify i f

end Sys2Proof
end

