-- ==== Sys2Proof/Syntax.lean ====
section
/-! DEFINITION. Syntax.lean: the commands and events that reach a ZL4096 from outside, one constructor per row of
spec/opcode_table.json, with the operands the spec gives each. Silnal frames come as bytes (R107); a command descriptor
comes as its fields, its 32-byte operand area and what its host-memory read returned (R397, R577). -/

namespace Sys2Proof

/-- A raster position RP[frame:line:sub] (R2). -/
structure RP where
  frame : BitVec 32
  line  : Nat
  sub   : Nat
  deriving DecidableEq, Repr

/-- What a host-memory read made for a command returned (R399 BUS_ERROR, R577: no read is made). -/
inductive HostRead where
  | none
  | data (bytes : List Byte)
  | busError
  deriving DecidableEq, Repr

/-- A command descriptor (R397) with what its operand read returned. `late`: it takes effect at a later aligned point
(R88), so its status is OK_LATE. -/
structure Cmd where
  tag      : BitVec 32
  timing   : BitVec 8
  dueFrame : BitVec 32
  dueLs    : BitVec 32
  ops      : List Byte
  position : BitVec 32
  seqWord  : BitVec 32
  late     : Bool
  host     : HostRead
  deriving DecidableEq, Repr

/-- A frame arriving on link port `port`: its bytes from the destination address to the FCS (R107); the words the port's
parser has read from the receive queue since the frame before (R221); the words of this frame whose parity fails when the
parser reads them, counted from 0 (R229); and the capture of its receive postmark on the device's own time count, in units
of 2^-16 ns, before correction (R169). -/
structure RxFrame where
  port  : Fin 8
  bytes : List Byte
  read  : Nat
  bad   : List Nat
  mark  : BitVec 64
  deriving DecidableEq, Repr

/-- What befalls the receive queue as a frame arrives: the words its parser has read since the frame before (R221), and the words of
this frame whose parity fails when they are read, counted from 0 (R229). -/
structure QueueUse where
  read : Nat
  bad  : List Nat
  deriving DecidableEq, Repr

/-- The frame of an LLDP_RECEIVED, whose postmark nothing uses. -/
def lldpFrame (p : Fin 8) (bs : List Byte) (q : QueueUse) : RxFrame := { port := p, bytes := bs, read := q.read, bad := q.bad, mark := 0 }

/-- A RING TIME frame's arrival (R65, R67): the device's own time count as the RP stands where the raster clock has it, and
the capture of the transmit postmark as the frame leaves again, before correction; both in units of 2^-16 ns. `follow`: the
bytes of the unbroken run of frames behind it in its insertion interval, with preambles and gaps (R145). -/
structure TimeRx where
  frame  : RxFrame
  follow : Nat
  now    : BitVec 64
  txMark : BitVec 64
  deriving DecidableEq, Repr

/-- A frame arriving on an ingest port: its bytes from the destination address to the last before the FCS, as they came in
(with SecTAG and ICV where they carry them, R174), and what the parser and parity did to the queue, as in RxFrame. -/
structure IngRx where
  port  : Fin 2
  bytes : List Byte
  read  : Nat
  bad   : List Nat
  deriving DecidableEq, Repr

/-- What the start-up sequence finds (R13, R529): the straps, REF, the engines' power-up tests, the output copies'
self-checks and the standby PLLs' lock tests (bit n: family n). -/
structure BootInputs where
  role1      : Bool
  role0      : Bool
  refPresent : Bool
  enginePass : List Bool
  copyPass   : List Bool
  pllPass    : Nat
  deriving DecidableEq, Repr

/-- What a PTP Announce says (R50): its domain, and the data set it announces: priority1, clock class, accuracy, variance,
priority2, grandmaster identity, steps removed, and the identity of the port that sent it. -/
structure Announce where
  domain    : Nat
  priority1 : Nat
  clockClass : Nat
  accuracy  : Nat
  variance  : Nat
  priority2 : Nat
  gm        : BitVec 64
  steps     : Nat
  sender    : BitVec 80
  deriving DecidableEq, Repr

/-- A completed PTP exchange (R50, R55, R56): the frames of the Sync or Follow_Up and of the Delay_Resp, the domain, the
master's times t1 and t4 in units of 2^-16 ns with the correction fields applied, the captures of the head's own postmarks
t2 (receive) and t3 (transmit) before correction, its time count now, and the PCS lane on which t2's start of frame came
with that lane's measured skew in ps (R171), and the Delay_Req as the client gave it to the port, without FCS. -/
structure PtpExchange where
  sync   : IngRx
  resp   : IngRx
  domain : Nat
  t1     : Nat
  t4     : Nat
  t2     : BitVec 64
  t3     : BitVec 64
  now    : BitVec 64
  lane   : Fin 20
  skew   : Nat
  req    : List Byte
  deriving DecidableEq, Repr

/-- A decoded LTC frame (R51, R52): its label, the LTC frames elapsed since 00:00:00:00, the LTC rate, the RP of the
start of its bit 0, and whether valid timecode has been decoded for 1 s. -/
structure LtcFrame where
  label   : BitVec 32
  count   : Nat
  rateNum : Nat
  rateDen : Nat
  start   : RP
  steady  : Bool
  deriving DecidableEq, Repr

/-- A MAC control frame on an ingest port (R160, R161): the bytes its queue is given, those before the FCS, and whether the FCS is
good. -/
structure MacControl where
  rx    : IngRx
  fcsOk : Bool
  deriving DecidableEq, Repr

/-- One sample row data segment of an ST 2110-20 packet (R181): row, pixel offset, pixels' components in order. -/
structure Srd where
  row    : Nat
  offset : Nat
  pixels : List (List Nat)
  deriving DecidableEq, Repr

/-- An ST 2110 packet (R181, R186): its frame, addresses, RTP fields and sample rows, and the head's PTP time at its
reception. -/
structure RtpPacket where
  rx          : IngRx
  dst         : BitVec 32
  src         : BitVec 32
  udp         : Nat
  version     : Nat
  payloadType : Nat
  fieldBit    : Bool
  udpLength   : Nat
  seq         : BitVec 32
  timestamp   : BitVec 32
  srds        : List Srd
  nowNs       : Nat
  deriving DecidableEq, Repr

/-- An ANSI E1.31 packet (R201, R202). -/
structure SacnPacket where
  rx         : IngRx
  dst        : BitVec 32
  univ       : Nat
  cid        : Nat
  priority   : Nat
  seq        : BitVec 8
  preview    : Bool
  terminated : Bool
  syncOrDisc : Bool
  slots      : List Byte
  deriving DecidableEq, Repr

/-- Why an ingest frame is not taken up by any protocol (R180). -/
inductive IngestOdd where
  | fragment
  | badChecksum
  | foreign
  | lldp
  | badFcs
  | runt
  | oversize
  deriving DecidableEq, Repr

/-- Where a register access comes from (R502, R537). -/
inductive Path where
  | bar0
  | testPort
  deriving DecidableEq, Repr

/-- A letterbox entry as a round reads it (R401). `entry = none`: the read met a host bus error (R402). -/
structure LetterWords where
  p   : BitVec 32
  c   : BitVec 32
  b   : BitVec 32
  seq : BitVec 32
  deriving DecidableEq, Repr

/-- What one letterbox round read (R402): the entries by node ID, how long it took, whether it was still reading when
the next was due, and the directory entries read in it (R391), by node ID. -/
structure RoundRead where
  entries  : List (Nat × Option LetterWords)
  durUs    : Nat
  overrun  : Bool
  dirs     : List (Nat × HostRead)
  deriving DecidableEq, Repr

/-- A read item of one pixel engine whose signatures differ (R347): the engine with the wrong value where a test or a
fault named it, the operation in the row order of R237, and whether parity in the engine's graph queue made it (R230). Of an item of FETCH,
UNPACK, LIN and HSCALE, the layer, the line of its source after any pre-decimation and the segment `s` of the row; of the others the
output segment (`y`, `s`). -/
structure Mismatch where
  engine : Fin 3
  op     : Fin 14
  y      : Nat
  s      : Nat
  parity : Bool
  layer  : Fin 8 := 0
  line   : Nat := 0
  deriving DecidableEq, Repr

/-- A frame-store word in error (R217): its bank and row, whether the error was beyond correction, and
where it lies (R214): the layer, its hold buffer or the content frame's, and the word offset in it. -/
structure StoreError where
  bank        : Nat
  row         : Nat
  uncorrected : Bool
  layer       : Fin 8
  hold        : Bool
  word        : Nat
  deriving DecidableEq, Repr

/-- How a SELFTEST round ended (R353). -/
inductive RoundEnd where
  | pass
  | fail (unitKind : Nat)
  | late
  deriving DecidableEq, Repr

/-- A word of the calibration store, by its address (R291), read with an error (R292). -/
structure CalError where
  word        : Nat
  uncorrected : Bool
  deriving DecidableEq, Repr

/-- A word of memory in error: of the calibration store, found by its scrub or a read (R292), of the frame store, found by the next
FETCH that reads it (R217), or of one of the other stores of R355, found by a read, with the segments the word feeds as (y, s) where
it was beyond correction. -/
inductive MemError where
  | cal (e : CalError)
  | store (e : StoreError)
  | other (beyond : Option (List (Nat × Nat)))
  deriving DecidableEq, Repr

/-- A frame that a transmit port could not finish (R157): the bytes that had left it, and the whole frame as it was received. -/
structure CutFrame where
  sent  : List Byte
  frame : List Byte
  deriving DecidableEq, Repr

/-- A port that has come up to its line code (R150, R171): link ports 0 to 7, ingest ports 8 and 9, with the skew in ps of each PCS lane
measured at an ingest port. -/
structure PortRise where
  port  : Fin 10
  skews : List Nat
  deriving DecidableEq, Repr

/-- Photodiode readings (R440, R441): X, Y, Z, DK and the window's length in RAST cycles. -/
structure Reading where
  x : Nat
  y : Nat
  z : Nat
  dk : Nat
  saturated : Nat
  cycles : Nat
  deriving DecidableEq, Repr

/-- One port's sweep of CAL_LINK (R461): the eye widths of its lanes before and after, the settings found. -/
structure LinkSweep where
  oldEyes  : List Nat
  newEyes  : List Nat
  settings : List Int
  locked   : Bool
  writeOk  : Bool
  deriving DecidableEq, Repr

/-- What the firmware found at the end of a collection (R466): the residual, the largest CIEDE2000 difference × 100; and whether the
write of the correction record succeeded. -/
structure ColourFit where
  residual : Nat
  writeOk  : Bool
  deriving DecidableEq, Repr

/-- What one CAL_METER step measured (R468). -/
structure MeterStep where
  newOffV  : Int
  newOffI  : Int
  residV   : Nat
  residI   : Nat
  writeOk  : Bool
  deriving DecidableEq, Repr

/-- A channel's measurements during its on-time (R436): STRn_D at its ball and STRn_S, in µV. -/
structure StringMeas where
  ch    : Nat
  drain : Nat
  sense : Nat
  deriving DecidableEq, Repr

/-- Measurements of the boost controller at one step (R436): BOOST_FB at its ball, in µV, and those of the channels. -/
structure BoostMeas where
  fb    : Nat
  chans : List StringMeas
  deriving DecidableEq, Repr

/-- How a FW_UPDATE STAGE ended (R500). -/
inductive StageEnd where
  | written
  | flashError
  | busError
  deriving DecidableEq, Repr

/-- The commands and events: one constructor per row of spec/opcode_table.json, in the table's order. -/
inductive Instr where
  | powerOnReset
  | brownOut
  | resetN
  | refLost
  | coreWatchdog
  | hostWatchdogExpiry
  | pcieReset
  | resetRelease (b : BootInputs)
  | readyForHost (us : Nat)
  | readyToLight
  | runEntry
  | pwrCtrlStartWrite (v : Word)
  | pwrResetWrite (v : Word)
  | powerStateSet (c : Cmd)
  | powerTransitionDone (us : Nat)
  | hibernatePowerDown
  | wakeN
  | wakeTimerExpiry
  | hvLow (cleared : Bool)
  | resetRequest (c : Cmd)
  | hostResetDelay
  | watchdogSet (c : Cmd)
  | feedLost (feed : Fin 2) (reverse : Bool) (mv : Nat)
  | feedRestored (feed : Fin 2) (mv : Nat)
  | feedProbe (shareA : Nat) (shareB : Nat) (lowCurrent : Bool)
  | feedShareLimit (share : Nat) (diffMv : Int)
  | timePeriodTick
  | linkDelayExchange (port : Fin 8) (t1 : BitVec 64)
  | delayReq (f : RxFrame) (t3 : BitVec 64)
  | delayResp (f : RxFrame)
  | timeFrame (t : TimeRx)
  | nodeAcquireComplete (rate : Int)
  | timeDirectionLost (pair : Fin 4) (dir : Fin 2)
  | timeHoldover
  | rasterReadopt
  | insertBacklog (pair : Fin 4) (dir : Fin 2)
  | ptpAnnounce (rx : IngRx) (a : Announce)
  | ptpMeasurement (m : PtpExchange)
  | ptpAnnounceTimeout
  | syncInEdge (falling : Bool)
  | syncEdgeMissing
  | ltcFrameDecoded (l : LtcFrame)
  | ltcLost
  | wclkLost
  | backwardStepResume
  | descriptorFetch (bytes : List Byte) (busErr : Bool) (host : HostRead)
  | alignedPointReached
  | frameBoundary
  | cutoffLineReached
  | compositionDeadline
  | compositionDone
  | subrefreshStart
  | heldRepeatStart
  | shutterEdge (window : Fin 4) (close : Bool)
  | pixSlice (f : RxFrame)
  | foreignFrame (f : RxFrame)
  | ctrlRead (f : RxFrame)
  | ctrlWrite (f : RxFrame)
  | readResp (f : RxFrame)
  | writeAck (f : RxFrame)
  | ctrlUnlistedOp (f : RxFrame)
  | bindRequest (f : RxFrame)
  | bindRequestTimer (pair : Fin 4)
  | bindAnswer (f : RxFrame)
  | assign (f : RxFrame)
  | partner (f : RxFrame)
  | closingLinkDown (pair : Fin 4)
  | replyCard (f : RxFrame)
  | mailbag (f : RxFrame)
  | proof (f : RxFrame)
  | fix (f : RxFrame)
  | remoteRdRequest (f : RxFrame)
  | remoteRdResponse (f : RxFrame)
  | remoteRdError (f : RxFrame)
  | remoteRdPost (f : RxFrame) (busErr : Bool)
  | heldRequestTimeout (node : BitVec 12)
  | hostReadTimeout (id : Nat)
  | noticeRepost
  | transmitUnderrun (port : Fin 8) (cut : CutFrame)
  | rxBlockError (f : RxFrame)
  | portUp (r : PortRise)
  | portDown (port : Fin 10) (cause : Nat)
  | fecModeDetected (port : Fin 8) (fec : Bool)
  | lldpReceived (port : Fin 8) (bytes : List Byte) (queue : QueueUse)
  | lldpSend (port : Fin 8)
  | eeeUnresolved (port : Fin 8)
  | lpiEntry (port : Fin 8)
  | lpiReceived (port : Fin 10)
  | lpiWakeDone (port : Fin 8)
  | pauseReceived (m : MacControl)
  | pauseExpiry (port : Fin 2)
  | queueMarkerWrite (port : Fin 10)
  | queueMarkerRead (port : Fin 10) (poison : Bool)
  | noticeWindowClose (code : BitVec 16) (subject : Nat)
  | mapCheckComplete
  | mapSwitchTimeout
  | st2110Packet (p : RtpPacket)
  | streamPathLost (slot : Fin 16) (port : Fin 2)
  | streamLost (slot : Fin 16)
  | sacnPacket (p : SacnPacket)
  | sacnSourceTimeout (univ : Nat) (cid : Nat)
  | arpRequest (rx : IngRx) (ip : BitVec 32) (fromMac : BitVec 48) (fromIp : BitVec 32)
  | igmpQuery (rx : IngRx)
  | ingestForeignFrame (rx : IngRx) (why : IngestOdd)
  | bulkEntryRead (bytes : List Byte) (lines : List HostRead)
  | bulkEntryComplete
  | signatureMismatch (m : Mismatch)
  | arbitrationDecided (loser : Option (Fin 3))
  | unitSelftestDone (pass : List Bool) (unitKind : Nat)
  | selftestRoundDone (engine : Fin 3) (how : RoundEnd)
  | fwEventLate (role : Fin 4) (lateUs : Nat) (due : RP)
  | outputCopyMismatch (pass0 : Bool) (pass1 : Bool)
  | pllFaultDetected (family : Fin 7)
  | outputHoldResume (gapNs : Nat)
  | pllRetest (family : Fin 7) (pass : Bool)
  | wearPassTimer
  | wearPassDone
  | calStoreScrub (e : MemError)
  | calStoreRepair
  | correctionRecordWrite
  | expoSaveTimer
  | expoSaveDone (ok : Bool)
  | ageingSample (worst : Nat)
  | eyeWidthSample (lane : Fin 16) (width : Nat)
  | segmentAmplitudeCheck (lane : Fin 16) (failed : Nat)
  | regulatorPhaseRemove (phase : Fin 6)
  | padLegFault (pad : Fin 98)
  | exhaustionPrediction
  | coreSelftest (core : Fin 5) (pass : Bool)
  | outputCopyRetire24h (copy : Fin 2)
  | calBankFillDone
  | holdBufferCopyDone (layer : Fin 8)
  | letterboxRound (r : RoundRead)
  | sortingWindowClose (kind : BitVec 8) (subject : BitVec 12)
  | storm
  | dmxBreak (port : Fin 16) (rxMismatch : Bool)
  | dmxSourceLost (port : Fin 16)
  | rdmResponse (port : Fin 16) (outcome : Fin 4) (bytes : List Byte)
  | rdmDiscoveryTimer (port : Fin 16) (uids : List Nat)
  | stringFault (ch : Fin 16) (cause : Fin 2)
  | stringRetry (ch : Fin 16) (good : Bool)
  | boostStep (m : BoostMeas)
  | boostLimit (cause : Fin 4) (need : Nat)
  | boostRestart
  | stringFeedbackProbe (dark : Reading) (readings : List (Nat × Reading)) (missed : Bool)
  | sensorWindowEnd (r : Reading)
  | patternWaitExpiry (engine : Fin 16)
  | fixtureRecordWrite (ok : Bool)
  | calStart (kind : Fin 3)
  | calLinkPortDone (r : LinkSweep)
  | calColourCollectionEnd (f : ColourFit)
  | calMeterHandover (m : MeterStep)
  | s0Pulse (input : Fin 2)
  | s0Glitch (input : Fin 2)
  | mainsZcCrossing (cycles : Nat)
  | mainsLost
  | meterSaveTimer
  | meterSaveDone (ok : Bool)
  | lifecycleSelfReset
  | dbgChallenge (nonce : List Byte) (nowMs : Nat)
  | dbgResponse (sig : List Byte) (nowMs : Nat)
  | dbgRequest (level : BitVec 2)
  | keyload (record : List Byte)
  | keyloadMakeCurrent (record : List Byte)
  | tapIntrusiveEntry
  | tapIntrusiveExit
  | registerWrite (addr : BitVec 16) (v : Word)
  | counterRead (addr : BitVec 16) (path : Path)
  | wideRegisterRead (addr : BitVec 16) (path : Path)
  | pxlExpoDataRead
  | pxlExpoDataWrite (v : Word)
  | fixRdmDataRead
  | outCtrlWrite (v : Word)
  | hifRingCfgWrite (v : Word)
  | nop (c : Cmd)
  | timeStepAuthorise (c : Cmd)
  | timeSetThreshold (c : Cmd)
  | timeQuery (c : Cmd)
  | schedCancel (c : Cmd)
  | shutterSet (c : Cmd)
  | portThresholdSet (c : Cmd)
  | portStatsQuery (c : Cmd)
  | macsecSaInstall (c : Cmd)
  | mapLoad (c : Cmd)
  | streamSet (c : Cmd)
  | streamQuery (c : Cmd)
  | layerSet (c : Cmd)
  | layerLutLoad (c : Cmd)
  | layerScalerLoad (c : Cmd)
  | ccmLoad (c : Cmd)
  | encLutLoad (c : Cmd)
  | wearSet (c : Cmd)
  | expoSave (c : Cmd)
  | outConfig (c : Cmd)
  | outProgLoad (c : Cmd)
  | outMapLoad (c : Cmd)
  | outEnable (c : Cmd)
  | redundancyQuery (c : Cmd)
  | redundancyTest (c : Cmd)
  | healthQuery (c : Cmd)
  | spareApply (c : Cmd)
  | dmxConfig (c : Cmd)
  | rdmRequest (c : Cmd)
  | stringConfig (c : Cmd)
  | patternLoad (c : Cmd)
  | patternControl (c : Cmd)
  | sensorQuery (c : Cmd)
  | calLink (c : Cmd)
  | calColour (c : Cmd)
  | calMeter (c : Cmd)
  | calCancel (c : Cmd)
  | energyQuery (c : Cmd)
  | meterConfig (c : Cmd)
  | energySave (c : Cmd)
  | keyLoad (c : Cmd)
  | keyRollover (c : Cmd)
  | lifecycleSet (c : Cmd)
  | fwUpdate (c : Cmd)
  | debugUnlock (c : Cmd)
  | meterSample (channel : Fin 6) (rawV : Int) (rawI : Int)
  | wclkInEdge (hz : Nat)
  | refReturn
  | hostReadComplete (id : Nat) (data : HostRead)
  | fwUpdateStageDone (how : StageEnd)
  | correctionRecordWriteDone (ok : Bool)
  | junctionTemperatureRead (tenths : Int)
  | feedPathLowShare (feed : Fin 2) (share : Nat)
  | reservedClassFrame (f : RxFrame)
  deriving DecidableEq, Repr

end Sys2Proof
end

