-- ==== Sys2Proof/Decode.lean ====
section
/-! DEFINITION. Decode.lean: the decoder over the rows of spec/opcode_table.json that give bits. No row of this block's
table gives any: a command comes from outside as the command it is, never as an instruction word. -/

namespace Sys2Proof

/-- The command an instruction word spells: none, since no row of the table gives bits. -/
def decodeTableWord (_nbits _w : Nat) : Option Instr := none

end Sys2Proof
end

