-- ==== Sys2Proof/Machine/State.lean ====
section
/-! DEFINITION. Machine/State.lean: everything the spec gives one ZL4096 to hold, as plain data. Each field's default is
its reset value: the value the spec states, or the value a log entry names. Positions of 32-bit ring indices and raster
frames are bit vectors (they wrap); counts, sizes and measured figures are numbers. -/

namespace Sys2Proof.Machine

/-- A finite map from numbers, in one canonical form: keys strictly rising, no entry equal to the default its reader
names. -/
abbrev NatMap (α : Type) := List (Nat × α)

/-- Why a step stops with a fault. No meaning of this model raises one: every row of the table has an effect. `unmapped`
is never raised (safe); it keeps the type inhabited for the host's interface. -/
inductive Fault where
  /-- Raised by no meaning; safe. -/
  | unmapped
  deriving DecidableEq, Repr

/-- Why a step has no meaning. -/
inductive Refusal where
  /-- Raised by exec's own arm of an instruction that has no meaning yet; safe. -/
  | notModelled (mnemonic : String)
  deriving DecidableEq, Repr

/-- The raster configuration (R41): rate_num, rate_den, lines; the reset values of the TIM_RASTER registers (R46). -/
structure Raster where
  num   : Nat := 60
  den   : Nat := 1
  lines : Nat := 1125
  deriving DecidableEq, Repr

/-- Time states (R54). -/
inductive TimeState where
  | free | acquire | track | locked | holdover | refused
  deriving DecidableEq, Repr

/-- The reference of a head (R42). `none`: the source code 3, which is invalid. -/
inductive TimeSource where
  | ptp | sync | free | none
  deriving DecidableEq, Repr

/-- A notice before it is a record (R400): its code and its payload bytes. -/
structure Notice where
  code    : BitVec 16
  payload : List Byte
  deriving DecidableEq, Repr

/-- A notice record with the position it has in the event ring (R400). `posted`: a node has sent it (R407). -/
structure NoticeRec where
  pos    : BitVec 32
  notice : Notice
  deriving DecidableEq, Repr

/-- A write of the device into host memory, directly or by a node's POST (R399, R400, R407, R409). -/
structure HostWrite where
  addr  : Nat
  bytes : List Byte
  deriving DecidableEq, Repr

/-- A completion the device wrote (R399). -/
structure Completion where
  opcode   : BitVec 8
  status   : BitVec 8
  tag      : BitVec 32
  effect   : Option RP
  result   : List Byte
  seqWord  : BitVec 32
  position : BitVec 32
  deriving DecidableEq, Repr

/-- A watermark (R410, R411). `note`: the position of the unacknowledged notice. `below`: the last sample lay below the
mark. -/
structure Watermark where
  armed  : Bool := true
  mark   : Nat := 0
  note   : Option (BitVec 32) := none
  shadow : Nat := 0
  cross  : Nat := 0
  peak   : Nat := 0
  level  : Nat := 0
  below  : Bool := true
  deriving DecidableEq, Repr

/-- One direction of one ring pair as its latest usable TIME frame left it (R67, R68, R69): `a` is the quantity of R67
for the direction, in 2^-16 ns. `at_`: the RP of its latest usable frame. `foreign`: the other configuration its frames carry
(R576), `foreignFrom` and `foreignAt` the RPs of the first and the latest of an unbroken run of them. -/
structure DirTime where
  seen     : Bool := false
  lost     : Bool := false
  at_      : Option RP := none
  a        : Int := 0
  linkSum  : Int := 0
  loop     : Option Int := none
  state    : Nat := 0
  source   : Nat := 0
  stepGen  : BitVec 8 := 0
  period   : Nat := 4
  raster   : Raster := {}
  head     : Nat := 0
  headNode : Nat := 0
  ltc      : BitVec 32 := 0xFFFFFFFF
  lambda   : Option Int := none
  lamLink  : Int := 0
  foreign  : Option Raster := none
  foreignFrom : Option RP := none
  foreignAt : Option RP := none
  deriving DecidableEq, Repr

/-- What a node keeps of a ring pair's TIME frames (R44, R69): whether frames of another configuration were reported and
when the latest came, whether its heads disagree and for how many periods they have agreed. -/
structure PairTime where
  conflict : Option RP := none
  disagree : Bool := false
  agreeRun : Nat := 0
  deriving DecidableEq, Repr

/-- The raster clock (R2, R45, R46): the RP, the 32 bits below its sub LSB, the raster it counts on, and the time a
backward step still holds it (R60), in ns. -/
structure Clock where
  rp     : RP := { frame := 0, line := 0, sub := 0 }
  frac   : Nat := 0
  raster : Raster := {}
  hold   : Option Nat := none
  deriving DecidableEq, Repr

/-- A master a PTP head hears (R50): its latest Announce. -/
structure Master where
  port : Nat
  ann  : Announce
  deriving DecidableEq, Repr

/-- The shared clock (Raster position and the shared clock). `off16`: the offset in 2^-16 ns, of which `offsetNs` is the whole
ns. `period`: the TIME period last received of the preferred direction (R64). `rates`: the rates of the last second, each with
the RP from which it held, oldest first (R74, R75). `masters`: the masters heard (R50). `presents`: P and C as the ASSIGNs of
each ring pair gave them (R90). `changed`: the time state has changed since the last boundary (R126). -/
structure Time where
  state      : TimeState := .free
  firstLock  : Bool := false
  everLocked : Bool := false
  source     : TimeSource := .ptp
  cfgInvalid : Bool := false
  offsetNs   : Int := 0
  off16      : Int := 0
  rate       : Int := 0
  meas       : Nat := 0
  lockRun    : Nat := 0
  jumpRun    : Nat := 0
  delays     : List Int := []
  pullLimit  : Bool := false
  threshold  : Nat := 1000
  stepGen    : BitVec 8 := 0
  stepFrame  : BitVec 32 := 0
  stepFrom   : Option RP := none
  stepDelta  : Int := 0
  stepCmd    : Option Cmd := none
  genSeen    : Option (BitVec 8) := none
  gm         : Option (BitVec 64) := none
  masters    : List Master := []
  ptpPort    : Nat := 0
  ptpNs      : Nat := 0
  path       : Nat := 3
  ltc        : Option LtcFrame := none
  label      : BitVec 32 := 0xFFFFFFFF
  ltcUnaligned : Bool := false
  wclkPhase  : Nat := 0
  wclkHz     : Nat := 0
  wclkSeen   : Bool := false
  wclkLost   : Bool := true
  edgesMissed : Nat := 0
  edgeFrame  : Option (BitVec 32) := none
  lastServo  : Option RP := none
  rates      : List (RP × Int) := []
  period     : Nat := 4
  follow     : Option Nat := none
  dirs       : List DirTime := List.replicate 8 {}
  pairs      : List PairTime := List.replicate 4 {}
  loops      : List (Option Int) := List.replicate 8 none
  presentP   : Nat := 2
  presentC   : Nat := 0
  presents   : List (Option (Nat × Nat)) := List.replicate 4 none
  changed    : Bool := false
  earlyFirst : Option (BitVec 32) := none
  earlyCount : Nat := 0
  lateCount  : Nat := 0
  boundary   : Option (BitVec 32) := none
  owed       : Option (BitVec 32) := none
  cutoff     : Option (BitVec 32) := none
  deadline   : Option (BitVec 32) := none
  fresh      : Nat := 0
  deriving DecidableEq, Repr

/-- An admitted command that has not yet taken effect (R86): opcode, descriptor, admission number; the point at which it
takes effect, the due RP it is ordered by, and whether it has been judged (R46: not before first lock). -/
structure Entry where
  op     : BitVec 8
  cmd    : Cmd
  adm    : Nat
  point  : RP
  due    : RP
  judged : Bool
  deriving DecidableEq, Repr

/-- A shutter window (R100, R101). `close`: where the open window closes; `later`: the close points of openings that came while it
was open. -/
structure Shutter where
  enabled : Bool := false
  openAt  : Nat := 0
  closeAt : Nat := 0
  divisor : Nat := 1
  phase   : Nat := 0
  isOpen  : Bool := false
  close   : Option RP := none
  later   : List RP := []
  action  : Nat := 0
  deriving DecidableEq, Repr

/-- A key rollover (R102, R103, R495): its frame k and the generation expected. -/
structure Rollover where
  k     : BitVec 32
  gen   : BitVec 32
  cmd   : Cmd
  deriving DecidableEq, Repr

/-- The schedule (Scheduling by raster position). `roll`: the pending KEY_ROLLOVER; `rolling`: the one whose point k has
passed with the next slot ready, until k + 1. -/
structure Sched where
  entries  : List Entry := []
  adm      : Nat := 0
  high     : Watermark := {}
  shutters : List Shutter := List.replicate 4 {}
  roll     : Option Rollover := none
  rolling  : Option Rollover := none
  deriving DecidableEq, Repr

/-- A frame that left, or waits to leave, a link or ingest port (R107, R153): its bytes with the FCS. -/
structure TxFrame where
  port    : Nat
  bytes   : List Byte
  stomped : Bool := false
  deriving DecidableEq, Repr

/-- An own larger frame waiting for an insertion interval (R144, R145, R146). `twin`: a copy is sent in the other
direction. `proof`: the display frame of a PROOF frame. `waits`: the consecutive insertion intervals it has waited through. -/
structure Waiting where
  frame : TxFrame
  twin  : Bool
  proof : Option (BitVec 32) := none
  waits : Nat := 0
  deriving DecidableEq, Repr

/-- A dead-letter marker (R226). -/
structure Marker where
  count : Nat
  first : RP
  deriving DecidableEq, Repr

/-- A word of a fall-through queue (R219): MARK, POISON, EOP, SOP, PARITY and the 32 bytes of DATA. -/
structure FtqWord where
  mark   : Bool
  poison : Bool
  eop    : Bool
  sop    : Bool
  parity : Bool
  data   : List Byte
  deriving DecidableEq, Repr

/-- A port's fall-through queue (R219 to R227, R233): `chain`, the 32 stages whose front the parser reads, and `intake`, what
has been committed behind them, both oldest first; the run of packets dropped for which no marker has been written; and its
watermark. -/
structure PortQueue where
  chain   : List FtqWord := []
  intake  : List FtqWord := []
  gap     : Option Marker := none
  high    : Watermark := {}
  deriving DecidableEq, Repr

/-- A link port (R148 to R168). `cutShort`: the frame whose forwarding by this port an underrun has ended (R157).
`quietTo`: where a head's own insertion interval ends (R145). `room`, `run`: the bytes a node may still insert in the interval that
passes, and those of the run of frames it must let pass first. -/
structure LinkPort where
  enabled   : Bool := false
  up        : Bool := false
  fec       : Bool := false
  mismatch  : Bool := false
  thresh    : Nat := 512
  stat      : List Nat := List.replicate 8 0
  partnerTw : Option Nat := none
  partnerTx : Nat := 0
  fecSeen   : Bool := false
  eeeOk     : Bool := false
  lpiTx     : Bool := false
  held      : List TxFrame := []
  backlog   : List Waiting := []
  reported  : Bool := false
  delays    : List Int := []
  t1        : Option (BitVec 64) := none
  dir       : Option Nat := none
  neighbour : Option (BitVec 12) := none
  timeSeq   : BitVec 32 := 0
  cardFrame : Option (BitVec 32) := none
  cutShort  : Option (List Byte) := none
  quietTo   : Option RP := none
  room      : Nat := 0
  run       : Nat := 0
  queue     : PortQueue := {}
  deriving DecidableEq, Repr

/-- A MACsec security association (R177, R178). -/
structure Sa where
  sak  : List Byte
  sci  : BitVec 64
  pn   : Nat
  an   : Nat
  low  : Nat := 0
  high : Bool := false
  deriving DecidableEq, Repr

/-- An ingest port (R148 to R178). `skew`: the measured skew of each PCS lane in ps (R171). `reports`: IGMP reports to be
repeated at the next one (R180). -/
structure IngPort where
  enabled  : Bool := false
  up       : Bool := false
  stat     : List Nat := List.replicate 8 0
  pause    : Nat := 0
  held     : List TxFrame := []
  rxSa     : List (Option Sa) := List.replicate 4 none
  txSa     : Option Sa := none
  txWait   : Option Sa := none
  groups   : List (BitVec 32) := []
  reports  : List (BitVec 32) := []
  skew     : List Nat := List.replicate 20 0
  queue    : PortQueue := {}
  deriving DecidableEq, Repr

/-- A ring of the system map (R30), with its member list. -/
structure RingEntry where
  dual    : Bool
  fec     : Bool
  headX   : Nat
  pairX   : Nat
  headY   : Nat
  pairY   : Nat
  members : List Nat
  deriving DecidableEq, Repr

/-- A node-table record (R31). -/
structure NodeRecord where
  nodeId      : BitVec 12
  role        : Nat
  headIndex   : Nat
  fingerprint : List Byte
  rings       : List Nat
  regionX     : Nat
  regionY     : Nat
  width       : Nat
  height      : Nat
  primaries   : Nat
  sliceBits   : Nat
  layers      : Nat
  dmxMask     : Nat
  deriving DecidableEq, Repr

/-- A slice-table entry (R32). -/
structure SliceEntry where
  head   : Nat
  stream : Nat
  node   : Nat
  layer  : Nat
  key    : Bool
  srcX   : Nat
  srcY   : Nat
  srcW   : Nat
  srcH   : Nat
  deriving DecidableEq, Repr

/-- A universe-table entry (R33). -/
structure UnivEntry where
  univ : Nat
  head : Nat
  port : Nat
  node : Nat
  deriving DecidableEq, Repr

/-- A system map that has been read (R29). -/
structure SysMap where
  generation : BitVec 32
  raster     : Raster
  headCount  : Nat
  rings      : List RingEntry
  nodes      : List NodeRecord
  slices     : List SliceEntry
  univs      : List UnivEntry
  deriving DecidableEq, Repr

/-- A MAP_LOAD on its way (R37 to R40). `adm`: its admission number (R96). `judged`: its due RP has been judged (R88, R575).
`sent`: its switch boundary has been set and its ASSIGNs sent. `map`: the checked map; `switchAt`: its switch boundary;
`tries`: boundaries passed without the partner's confirmation. -/
structure MapLoad where
  cmd      : Cmd
  adm      : Nat
  judged   : Bool
  sent     : Bool := false
  map      : Option SysMap := none
  switchAt : BitVec 32 := 0
  tries    : Nat := 0
  deriving DecidableEq, Repr

/-- What a partner's latest PARTNER frame said (R122). -/
structure PartnerInfo where
  flags     : Nat
  gen       : BitVec 32
  pendGen   : BitVec 32
  pendFrame : BitVec 32
  stepDue   : BitVec 64
  stepAt    : BitVec 32
  stepGen   : BitVec 8
  slots     : Nat
  crc       : BitVec 32
  content   : List (BitVec 32)
  loop      : BitVec 64
  stamp     : BitVec 32
  deriving DecidableEq, Repr

/-- One ring pair of a head (R22, R27, R38, R122, R344, R345). `bound`: fingerprints by position. `cards`: by node ID, the
generation that the node's latest reply card reports and the RP at which it came (R39). `own`: what the head's own PARTNER frame of the
latest boundary said, with which the partner's of that boundary is compared (R344). -/
structure HeadPair where
  bound      : NatMap (List Byte) := []
  partner    : Option PartnerInfo := none
  own        : Option PartnerInfo := none
  boundaries : Nat := 0
  closeDown  : Bool := false
  outOfStep  : Nat := 0
  inStep     : Nat := 8
  stepTold   : Bool := false
  feeding    : Bool := false
  cards      : NatMap (BitVec 32 × RP) := []
  genTold    : Bool := false
  deriving DecidableEq, Repr

/-- A fault report of a node waiting for a reply card (R125, R412). `subject = none`: the receiving head. -/
structure Report where
  kind    : BitVec 8
  subject : Option (BitVec 12)
  first   : RP
  deriving DecidableEq, Repr

/-- A record to come into force at a boundary (R121), and the ring pair it came by (R90). -/
structure NextRecord where
  pair    : Nat
  frame   : BitVec 32
  record  : NodeRecord
  gen     : BitVec 32
  headSet : BitVec 64
  p       : Nat
  c       : Nat
  deriving DecidableEq, Repr

/-- A BIND_ANSWER that waits for the next boundary (R126): the port it leaves by, and the head index, direction, destination and
pair of its header. -/
structure Answer where
  port : Nat
  head : Nat
  dir  : Nat
  dst  : Nat
  pair : Nat
  deriving DecidableEq, Repr

/-- Identity, binding and the map (Roles, rings and the system map). `told`: health, reason, time state, life-cycle state and
ALERT_N as the last boundary found them (R126). `others`: switches seen in ASSIGNs to other devices, as frame and generation
(R40). `triesOver`: a MAP_LOAD has been admitted since the map in force was (R39). `ends`: per pair and direction, the head index and node ID of the head that sends it, as its latest frame gave them
(R120, R138). -/
structure Topo where
  nodeId    : Option (BitVec 12) := none
  record    : Option NodeRecord := none
  gen       : BitVec 32 := 0
  headSet   : BitVec 64 := 0
  next      : List NextRecord := []
  map       : Option SysMap := none
  load      : Option MapLoad := none
  pairs     : List HeadPair := List.replicate 4 {}
  hopA      : Nat := 0
  hopB      : Nat := 0
  answers   : List Answer := []
  ends      : List (Option (Nat × Nat)) := List.replicate 8 none
  told      : Option (List Nat) := none
  lastCard  : Option (RP × List Report) := none
  others    : List (BitVec 32 × BitVec 32) := []
  triesOver : Bool := false
  deriving DecidableEq, Repr

/-- A de-duplication window (R133): its flow (class, ORIGIN, head index or source node). -/
structure DedupWin where
  cls    : Nat
  origin : Nat
  peer   : Nat
  hi     : BitVec 32
  seen   : Nat
  count  : Nat
  deriving DecidableEq, Repr

/-- The sequences a device gives its own flows and the windows on what it receives (R132 to R134). `pix`: per content
frame the sequences taken. `answered`: request sequences answered (R131). -/
structure Flows where
  next     : NatMap Nat := []
  wins     : List DedupWin := []
  pix      : List (BitVec 32 × List Nat) := []
  answered : List (BitVec 32) := []
  deriving DecidableEq, Repr

/-- A device's ring registers or directory entry (R390, R543). -/
structure RingCfg where
  cmdBase  : Nat := 0
  cplBase  : Nat := 0
  evtBase  : Nat := 0
  bulkBase : Nat := 0
  cmdLog2  : Nat := 6
  evtLog2  : Nat := 6
  bulkLog2 : Nat := 0
  enable   : Bool := false
  deriving DecidableEq, Repr

/-- An open sorting-office key (R413). -/
structure SortKey where
  kind    : BitVec 8
  subject : BitVec 12
  count   : Nat
  firstW  : BitVec 12
  lastW   : BitVec 12
  first   : RP
  deriving DecidableEq, Repr

/-- A one-second window (R578): code, subject, the details of the first event, the total. -/
structure RateWin where
  code    : BitVec 16
  subject : Nat
  detail  : List Byte
  tail    : List Byte
  count   : Nat
  allOnes : Bool := false
  deriving DecidableEq, Repr

/-- A REQUEST a head holds or reads for (R405, R406). -/
structure HeldReq where
  id     : Nat
  node   : BitVec 12
  seq    : BitVec 32
  addr   : Nat
  length : Nat
  pair   : Nat
  dir    : Nat
  waits  : Bool
  deriving DecidableEq, Repr

/-- A stream record (R182). -/
structure StreamRec where
  kind        : Nat
  layout      : Nat
  depth       : Nat
  paths       : Nat
  width       : Nat
  height      : Nat
  rateNum     : Nat
  rateDen     : Nat
  payloadType : Nat
  dst         : List (BitVec 32)
  src         : List (BitVec 32)
  udp         : List Nat
  window      : Nat
  align       : Int
  pitch       : Nat
  raw         : List Byte
  deriving DecidableEq, Repr

/-- A bulk entry taken (R199, R409): its buffer is free once `done`. `waits`: its content frame has
not begun. `reads`: the lines of its buffer still being read, each with the identity of its read; `strm`: the record they are cut under. -/
structure BulkEntry where
  pos     : BitVec 32
  slot    : Nat
  content : BitVec 32
  addr    : Nat
  tag     : BitVec 32
  status  : BitVec 8
  done    : Bool
  waits   : Bool := false
  reads   : List (Nat × Nat) := []
  strm    : Option StreamRec := none
  deriving DecidableEq, Repr

/-- The host interface (Host interface: rings, letterbox and notices). `posted`: when a node last sent a record for a slot, by the slot's
address; `toPost`: records that wait for their slot (R408). `old`: the ring registers under which the rings run that a write of
HIF_RING_CFG has replaced (R396, R544). -/
structure Hif where
  ring      : RingCfg := {}
  staged    : RingCfg := {}
  cfgPending : Bool := false
  started   : Bool := false
  rounds    : Bool := false
  pcieUp    : Bool := false
  f         : BitVec 32 := 0
  e         : BitVec 32 := 0
  p         : BitVec 32 := 0
  c         : BitVec 32 := 0
  b         : BitVec 32 := 0
  fetchB    : BitVec 32 := 0
  seqWord   : Option (BitVec 32) := none
  badP      : Option (BitVec 32) := none
  badB      : Option (BitVec 32) := none
  badE      : Option (BitVec 32) := none
  stale     : Option (BitVec 32) := none
  kept      : List Notice := []
  dropped   : Nat := 0
  dropFirst : Option RP := none
  unacked   : List NoticeRec := []
  round     : BitVec 32 := 0
  letters   : NatMap LetterWords := []
  rotate    : Nat := 0
  dirs      : NatMap RingCfg := []
  dirFailed : List Nat := []
  dirAsk    : List Nat := []
  held      : List HeldReq := []
  readId    : Nat := 0
  request   : List (BitVec 32) := []
  reqPos    : BitVec 32 := 0
  mailAll   : Bool := true
  bulk      : List BulkEntry := []
  reports   : List Report := []
  repWins   : List Report := []
  sort      : List SortKey := []
  lostKeys  : List (BitVec 8 × BitVec 12) := []
  lostReps  : Nat := 0
  lostFirst : Option RP := none
  wins      : List RateWin := []
  msix      : Nat := 0
  msixSent  : List Nat := []
  msixTable : List Word := List.replicate 32 0
  posted    : NatMap RP := []
  toPost    : List HostWrite := []
  old       : Option RingCfg := none
  bufE      : List Notice := []
  deriving DecidableEq, Repr

/-- Pixels received for one content frame of a slot (R191 to R195), in the order they came, the map its runs are cut under
(R197), and the runs that have been released or abandoned, as (slice entry, first pixel, group ordered within). -/
structure Assembly where
  content : BitVec 32
  record  : StreamRec
  map     : SysMap
  stamp   : Option (BitVec 32)
  rows    : List Srd
  done    : List (Nat × Nat × Nat)
  deriving DecidableEq, Repr

/-- The pixels a packet carried: its sequence number, content frame, and first and last pixel in raster order (R195). -/
structure Span where
  seq     : BitVec 32
  content : BitVec 32
  lo      : Nat
  last    : Nat
  deriving DecidableEq, Repr

/-- A merge of two paths (R186, R195): the highest number used, the first one while the window has not passed it, the numbers used
within the window, and the pixels their packets carried. -/
structure MergeState where
  hi    : Option (BitVec 32) := none
  first : Option (BitVec 32) := none
  used  : List (BitVec 32) := []
  spans : List Span := []
  deriving DecidableEq, Repr

/-- A stream slot (R182 to R195, R205). `hist`: records with the content frame each governs from, newest first (R184). `merge`: the
merge under the record in force, `before`: that under the record before it. `stamps`: content frames given to timestamps, in the order
they were given. -/
structure Slot where
  strm      : Option StreamRec := none
  hist      : List (BitVec 32 × Option StreamRec) := []
  merge     : MergeState := {}
  before    : MergeState := {}
  portHi    : List (Option (BitVec 32)) := [none, none]
  deliver   : List Bool := [false, false]
  lostPath  : List Bool := [false, false]
  lost      : Bool := false
  asm       : List Assembly := []
  stamps    : List (BitVec 32 × BitVec 32) := []
  lastC     : BitVec 32 := 0
  collided  : List (BitVec 32) := []
  lostCount : Nat := 0
  abandoned : Nat := 0
  offTime   : Nat := 0
  collisions : Nat := 0
  skew      : Nat := 0
  deriving DecidableEq, Repr

/-- A source of a universe (R202). `fresh`: it has delivered data in the present frame (R203). -/
structure SacnSource where
  cid      : Nat
  priority : Nat
  seq      : BitVec 8
  slots    : List Byte
  fresh    : Bool
  deriving DecidableEq, Repr

/-- A routed universe at a head (R202, R203). -/
structure Universe where
  univ    : Nat
  sources : List SacnSource
  deriving DecidableEq, Repr

/-- Ingest (Ingest and slicing). `maps`: the map each content frame is cut under, as known at its boundary (R197). -/
structure Ingest where
  slots : List Slot := List.replicate 16 {}
  univs : List Universe := []
  maps  : List (BitVec 32 × SysMap) := []
  deriving DecidableEq, Repr

/-- The source format fields of a layer record (R261). -/
structure SrcFmt where
  feed     : Nat
  layout   : Nat
  fillBits : Nat
  keyBits  : Nat
  srcW     : Nat
  srcH     : Nat
  deriving DecidableEq, Repr

/-- The display fields of a layer record (R261). -/
structure Disp where
  solid   : Bool
  style   : Nat
  opacity : Nat
  gx      : Nat
  gy      : Nat
  outW    : Nat
  outH    : Nat
  stepX   : Nat
  stepY   : Nat
  ox      : Nat
  oy      : Nat
  colour  : List Nat
  deriving DecidableEq, Repr

/-- Scaler coefficients (R280); `none` where the default tables stand. -/
structure Taps where
  ch : List (List Int)
  cv : List (List Int)
  deriving DecidableEq, Repr

/-- A layer (R259 to R285). `luts`: per channel, `none` for the default table. -/
structure Layer where
  present : Bool := false
  fmt     : SrcFmt := { feed := 0, layout := 0, fillBits := 8, keyBits := 0, srcW := 1, srcH := 1 }
  disp    : Disp := { solid := true, style := 2, opacity := 65535, gx := 0, gy := 0, outW := 1, outH := 1,
                      stepX := 65536, stepY := 65536, ox := 0, oy := 0, colour := [0, 0, 0, 0] }
  luts    : List (Option (List Nat)) := [none, none, none, none]
  taps    : Option Taps := none
  late    : Bool := false
  short   : Bool := false
  dh      : Nat := 1
  deriving DecidableEq, Repr

/-- A run written into a buffer region (R266). -/
structure StoredRun where
  first : Nat
  count : Nat
  data  : List Byte
  deriving DecidableEq, Repr

/-- A frame-store buffer (R209, R211, R266). `poison`: words of it read as poisoned (R217), by word offset. `place`: how many
substitutions of banks and rows govern where it lies; `moving`: a hold buffer being copied to its new place (R218). -/
structure Buffer where
  layer   : Nat
  content : BitVec 32
  fmt     : SrcFmt
  groups  : Nat
  hold    : Bool
  fill    : List StoredRun
  key     : List StoredRun
  fillN   : Nat
  keyN    : Nat
  poison  : List Nat
  place   : Nat := 0
  moving  : Bool := false
  deriving DecidableEq, Repr

/-- How a layer enters the graph of a display frame (R238, R283). -/
inductive LayerIn where
  | absent
  | solid
  | source (buf : Buffer)
  | hold (buf : Buffer)
  | clear
  | subst
  deriving DecidableEq, Repr

/-- Wear parameters, as the correction record holds them (R297, R299, R303, R310). `curves`: per primary, `none` where every entry is
65,536. -/
structure Wear where
  frozen   : Bool := false
  target   : List Nat := [52429, 52429, 52429, 52429]
  curves   : List (Option (List Nat)) := [none, none, none, none]
  kappa    : List Nat := [32768, 32768, 32768, 32768]
  firstRun : Option Nat := none
  deriving DecidableEq, Repr

/-- A phase-in of gains (R301): the display frame of its first step, and N. -/
structure PhaseIn where
  first : BitVec 32
  n     : Nat
  deriving DecidableEq, Repr

/-- A correction record in flash, by the values its bytes give (R303; Machine.corrImage). -/
structure CorrRec where
  seq      : BitVec 32
  primaries : Nat
  width    : Nat
  height   : Nat
  wear     : Wear
  encLuts  : List (Option (List Nat))
  matrix   : NatMap (List Int)
  deriving DecidableEq, Repr

/-- An exposure record in flash, by the values its bytes give (R303; Machine.expoImage). -/
structure ExpoRec where
  seq       : BitVec 32
  primaries : Nat
  width     : Nat
  height    : Nat
  runSecs   : Nat
  begun     : RP
  counters  : NatMap Nat
  deriving DecidableEq, Repr

/-- An exposure save in progress (R306, R311): its area and the EXPO_SAVE command it serves, if any. -/
structure ExpoSave where
  area : Nat
  cmd  : Option (RP × Cmd)
  erec : ExpoRec
  deriving DecidableEq, Repr

/-- Per-pixel correction, wear and exposure. Gains and matrices are per pixel primary and per pixel; entries equal to the
default (818 before any history, the identity matrix) are not listed. `gain`: the applied region, Gain B where `gainB` is set; `cand`: the
other (R291, R300). `lastRun`: RUN seconds at the latest accepted CAL_COLOUR result; `active`: its κ is in use; `told`: that has been
reported (R299). `poison`: words of the calibration store read as poisoned (R292). -/
structure Corr where
  matrix    : NatMap (List Int) := []
  encLuts   : List (Option (List Nat)) := [none, none, none, none]
  gain      : NatMap Nat := []
  cand      : NatMap Nat := []
  gainB     : Bool := false
  expo      : NatMap Nat := []
  wear      : Wear := {}
  lastRun   : Nat := 0
  active    : Bool := false
  told      : Bool := false
  passDue   : Bool := false
  passing   : Bool := false
  phase     : Option PhaseIn := none
  atLimit   : Nat := 0
  limit     : Watermark := {}
  poison    : List Nat := []
  corrRecs  : List (Option CorrRec) := [none, none]
  expoRecs  : List (Option ExpoRec) := [none, none]
  corrDirty : Bool := false
  corrWriting : Option (Nat × CorrRec) := none
  expoSave  : Option ExpoSave := none
  expoDue   : Bool := false
  expoCmds  : List (RP × Cmd) := []
  asideE    : Bool := false
  asideC    : Bool := false
  runNs     : Nat := 0
  runSecs   : Nat := 0
  savedAt   : Nat := 0
  deriving DecidableEq, Repr

/-- A layer's part of a graph: what it shows, its hold buffer where one may stand in for poisoned segments (R230), and the
settings it is composed under (R235). -/
structure GraphLayer where
  idx  : Nat
  what : LayerIn
  spare : Option Buffer
  disp : Disp
  luts : List (Option (List Nat))
  taps : Option Taps
  deriving DecidableEq, Repr

/-- The graph of one display frame (R235, R245): built at RP[f-1:C:0], never changed once built. `corr`: the correction settings it is
composed under. `voids`: output segments voided, as (y, s). `released`: how many of its segments, in (y, s) order, have been released
(R240); `gone`: those of them that were voids; `computed`: every segment has finished (R241). -/
structure Graph where
  frame    : BitVec 32
  record   : NodeRecord
  layers   : List GraphLayer
  corr     : Corr
  voids    : List (Nat × Nat)
  released : Nat := 0
  gone     : List (Nat × Nat) := []
  computed : Bool := false
  deriving DecidableEq, Repr

/-- A CCM_LOAD staged by admission until its commit, with the node record at admission (R293, R294). -/
structure Staging where
  adm    : Nat
  groups : Nat
  was    : NodeRecord
  deriving DecidableEq, Repr

/-- The frame store, the layers and the pixel graph. `layersOf`: the node ID the layers' settings are for. `shorts`: layers left short at step 1 of a content frame, with their
format (R213). `last`: the display frame composed last, `voids`: its voided segments. `outBuf`: code of pixel and primary (R242, R247); `proof`: last
PROOF value of each box and channel; `expoQueue`: copies EXPO keeps (R251); `graphQ`: the graph queues that hold words, by 5 × engine + queue
(R239); `upsets`: words of the frame store in error (R217). -/
structure Pixel where
  layers   : List Layer := List.replicate 8 {}
  layersOf : Option (BitVec 12) := none
  buffers  : List Buffer := []
  staging  : List Staging := []
  shorts   : List (BitVec 32 × Nat × SrcFmt) := []
  storeMark : Watermark := {}
  shortTold : Option (BitVec 32) := none
  mismatchTold : List (BitVec 32) := []
  graph    : Option Graph := none
  last     : Option (BitVec 32) := none
  voids    : List (Nat × Nat) := []
  load     : Watermark := {}
  shareLast : Nat := 0
  sharePeak : Nat := 0
  outBuf   : NatMap Nat := []
  proof    : NatMap Nat := []
  expoQueue : List (BitVec 32 × NatMap Nat) := []
  graphQ   : NatMap (List FtqWord) := []
  upsets   : List StoreError := []
  deriving DecidableEq, Repr

/-- A row set's settings (R316). -/
structure RowSet where
  n : Nat := 1
  g : Nat := 1
  b : Nat := 2
  deriving DecidableEq, Repr

/-- A group's settings (R316). -/
structure Group where
  enable  : Bool := false
  setB    : Bool := false
  dclkMul : Nat := 1024
  m       : Nat := 1
  deriving DecidableEq, Repr

/-- The output record in force (R316). -/
structure OutRec where
  count   : Nat := 1
  flags   : Nat := 0
  gclkEn  : Nat := 0
  phase   : Nat := 0
  gclkMul : Nat := 2048
  gclkSet : Nat := 0
  setA    : RowSet := {}
  setB    : RowSet := {}
  groups  : List Group := List.replicate 8 {}
  deriving DecidableEq, Repr

/-- A lane program (R321, R339): entry addresses of INIT, LOAD, FRAME, SUB and HOLD, and the 128 instruction words. -/
structure Program where
  entries : List Nat := [0, 0, 0, 0, 0]
  words   : List Word := List.replicate 128 0
  deriving DecidableEq, Repr

/-- Where a group's sequencer stands in a LOAD (R325, R326): it had run `periods` DCLK periods of it at `since`, and goes on once
`front` DCLK periods of timed sections have run from there. -/
structure LoadPos where
  group   : Nat
  periods : Nat
  since   : RP
  front   : Nat
  deriving DecidableEq, Repr

/-- Sections of a lane program that a group runs one behind the other from `start` on (R321): 0 INIT, 2 FRAME, 3 SUB, 4 HOLD, of the
program in force there. -/
structure SectionRun where
  group : Nat
  list  : List Nat
  start : RP
  prog  : Program
  deriving DecidableEq, Repr

/-- The LOAD of a display frame (R325, R328, R329): complete or not, when its last segment was released or voided, the map,
programs and layout it runs under, the codes it shifts, in map order (R319), and where each group stands in it. -/
structure Load where
  frame    : BitVec 32
  complete : Bool
  released : Option RP
  map      : List Word
  programs : List Program
  orec     : OutRec
  codes    : List Nat
  pos      : List LoadPos
  deriving DecidableEq, Repr

/-- A row scan begun (R330, R332): of row set B or A, its GCLK period count from 0 at `start`, under the settings in force there; `addr`:
the row address that stood there. -/
structure RowScan where
  setB  : Bool
  start : RP
  rows  : RowSet
  mul   : Nat
  addr  : Nat := 0
  deriving DecidableEq, Repr

/-- The output block (Output lanes, scan and PWM phase). `was`: the record that governs display frames before `since`.
`wanted`: an OUT_CTRL write waiting for its boundary. `autoStart`: the cause of a start owed at a boundary. `ready`: a frame
whose completed LOAD awaits its exchange while a later LOAD runs, with its codes. `late`: the frame held for its LOAD.
`memory`, `shown`: the display frame exchanged last and the codes of the drivers' active memory. `sections`: the timed sections and
INIT run last. `scans`: the row scans of the latest start, none once they have been ended; `governs`: the record they run under.
`heldNow`: the present sub-refresh has been counted as held. `resumed`: the end of the last output hold (R360). `mapFrom`: the boundary
at which an OUT_MAP_LOAD last changed banks (R329). `joint`: the check of R331 made for the commands of the present boundary, with the reason they fail with, if any. -/
structure Output where
  orec    : OutRec := {}
  was     : OutRec := {}
  since   : BitVec 32 := 0
  checked : Bool := true
  map     : List Word := []
  programs : List Program := List.replicate 8 {}
  running : Bool := false
  wanted  : Option Bool := none
  autoStart : Option Nat := some 1
  dark    : Option (BitVec 32) := none
  load    : Option Load := none
  ready   : Option (BitVec 32 × List Nat) := none
  late    : Option (BitVec 32) := none
  memory  : Option (BitVec 32) := none
  shown   : List Nat := []
  sub     : Nat := 0
  subFrame : BitVec 32 := 0
  scanning : Bool := false
  scans   : List RowScan := []
  joint   : Option (RP × Option Nat) := none
  heldN   : Nat := 0
  heldFirst : Nat := 0
  heldCause : Nat := 0
  sections : List SectionRun := []
  governs : OutRec := {}
  heldNow : Bool := false
  resumed : Option RP := none
  mapFrom : Option (BitVec 32) := none
  deriving DecidableEq, Repr

/-- Engine states (R346). -/
inductive EngState where
  | active | standby | retired | failed
  deriving DecidableEq, Repr

/-- Output-copy states (R371). -/
inductive CopyState where
  | driving | shadowing | retired | failed
  deriving DecidableEq, Repr

/-- A mismatch being arbitrated, repeated (R348, R351), or after repeats that differ waiting for the engines' self-tests, with
the REDUNDANCY_TEST it serves, if any, with the effect RP of that (R88). `voided`: the segments voided for it. -/
structure Arb where
  item    : Mismatch
  at_     : RP
  frame   : BitVec 32
  repeats : Bool
  testing : Bool
  cmd     : Option (RP × Cmd)
  voided  : Nat := 0
  deriving DecidableEq, Repr

/-- An output hold (R359). -/
structure OutHold where
  cause : Nat
  onset : RP
  deriving DecidableEq, Repr

/-- One VIN feed (R362 to R365). -/
structure Feed where
  present : Bool := true
  mv      : Nat := 3300
  fault   : Bool := false
  faults  : List Nat := []
  faulty  : Bool := false
  deriving DecidableEq, Repr

/-- Redundancy (Redundancy and switchover). `passes`: consecutive passing SELFTEST rounds of each engine; `retireLog`,
`copyLog`: the seconds of RUN of an engine's and a copy's retirements. `testCmds`, `probeCmds`: REDUNDANCY_TESTs that have taken
effect, at the RPs given, and not yet completed. `pllUse`: the PLL in use is the family's second;
`pllStandby`: the other one is good. -/
structure Redund where
  engines   : List EngState := [.active, .active, .standby]
  passes    : List Nat := [0, 0, 0]
  retireLog : List (List Nat) := [[], [], []]
  copies    : List CopyState := [.driving, .shadowing]
  copyPass  : List Nat := [0, 0]
  copyLog   : List (List Nat) := [[], []]
  arbs      : List Arb := []
  hold      : Option OutHold := none
  pllUse    : List Bool := List.replicate 7 false
  pllStandby : List Bool := List.replicate 7 true
  pllLocked : List Bool := List.replicate 7 false
  feeds     : List Feed := [{}, {}]
  share     : Nat := 500
  shareFar  : Bool := false
  probeCmds : List (RP × Cmd) := []
  switches  : Nat := 0
  holds     : Nat := 0
  unresolved : Nat := 0
  testCmds  : List (Nat × RP × Cmd) := []
  deriving DecidableEq, Repr

/-- Health states (R378). -/
inductive HealthState where
  | good | worn | replace
  deriving DecidableEq, Repr

/-- A spare brought in: its kind code (R379), its unit, and the second of RUN it was (R373, R377). -/
structure SpareUse where
  kind : Nat
  unit : Nat
  at_  : Nat
  deriving DecidableEq, Repr

/-- What the wear monitors saw in a day of RUN (R376), of which the daily means are made: of each lane the sum of its eye widths and the
number of samples, of each bank, port queue and NVM row the events counted. -/
structure DayLog where
  eyes   : List (Nat × Nat) := List.replicate 16 (0, 0)
  fs     : NatMap Nat := []
  cal    : NatMap Nat := []
  parity : NatMap Nat := []
  nvm    : NatMap Nat := []
  deriving DecidableEq, Repr

/-- Spares and wear (Spares, wear and the replace request), kept in NVM but for the counters. `run`: seconds of RUN.
`predicted`: bit k−1 for kind k (R380). `fsEcc`, `calEcc`: corrected and uncorrected errors of a bank.
`fsRowLog`: corrected errors of frame-store rows, as bank, row, second; `fsSubs`: the frame store's substitutions in order, as bank and
row, none for a whole bank (R218). `rowLog`: corrected errors of calibration-store rows, as bank, row, second. `repaired`: rows repaired under R292. `eyes`,
`eyeLow`, `eyeSwap`, `eyeBar`: per lane, the width, the run of samples below 200, a new slice on trial, no slice to be
spent (R376). `deferred`: the lanes of ingest ports whose substitution waits (R374); `sliceGone`: lanes whose slice failed with none
left (R384). `cores`: the core of each role (R255). `coreLog`: the seconds of RUN of each core's late events; `fwTold`: the frame
FW_EVENT_LATE was last reported in (R258). `out24`: output copies RETIRED for 24 h. `nvmBad`: NVM rows that failed with no spare row left
(R384). `today`, `days`: what the monitors saw today, and on the last 90 days of RUN before (R376). -/
structure Spares where
  run       : Nat := 0
  health    : HealthState := .good
  predicted : Nat := 0
  reason    : Nat := 0
  uses      : List SpareUse := []
  fsEcc     : NatMap (Nat × Nat) := []
  calEcc    : NatMap (Nat × Nat) := []
  fsRowLog  : List (Nat × Nat × Nat) := []
  fsSubs    : List (Nat × Option Nat) := []
  rowLog    : List (Nat × Nat × Nat) := []
  repaired  : List (Nat × Nat) := []
  fills     : List (Nat × Nat) := []
  eyes      : List Nat := List.replicate 16 1000
  eyeLow    : List Nat := List.replicate 16 0
  eyeSwap   : List Bool := List.replicate 16 false
  eyeBar    : List Bool := List.replicate 16 false
  deferred  : List Nat := []
  sliceGone : List Nat := []
  cores     : List Nat := [0, 1, 2, 3]
  coreLate  : List Nat := [0, 0, 0, 0, 0]
  coreLog   : List (List Nat) := List.replicate 5 []
  coreOut   : List Nat := []
  fwTold    : Option (BitVec 32) := none
  out24     : List Nat := []
  nvmWrites : NatMap Nat := []
  nvmSkip   : Nat := 0
  nvmBad    : List Nat := []
  ageing    : Nat := 0
  ageDays   : List Nat := []
  ageToday  : List Nat := []
  qParity   : List Nat := List.replicate 13 0
  parityLog : List (Nat × Nat) := []
  today     : DayLog := {}
  days      : List DayLog := []
  deriving DecidableEq, Repr

/-- A DMX port record (R421). -/
structure DmxRec where
  enable   : Bool := false
  rdm      : Bool := false
  persist  : Bool := false
  policy   : Nat := 0
  divisor  : Nat := 1
  phase    : Nat := 0
  offset   : Nat := 0
  brk      : Nat := 176
  mab      : Nat := 16
  slots    : Nat := 513
  gap      : Nat := 0
  share    : Nat := 8
  loss     : Nat := 30
  deriving DecidableEq, Repr

/-- A FIX frame kept for a port (R424). -/
structure FixData where
  stamp : BitVec 32
  data  : List Byte
  deriving DecidableEq, Repr

/-- An RDM transaction queued or under way (R429, R430): the command it serves, the RP at which that took effect, whether it
is discovery. -/
structure RdmJob where
  cmd      : Cmd
  at_      : RP
  message  : List Byte
  discover : Bool
  deriving DecidableEq, Repr

/-- A DMX port (R420 to R431). `engSlots`: slots written by an engine, as value and engine. `since`: packets sent since the
last transaction. `sent`: the bytes of the last packet or request; `packet`: when its break began and the record it goes by. -/
structure DmxPort where
  drec     : DmxRec := {}
  new      : Option FixData := none
  prev     : Option FixData := none
  lost     : Bool := false
  mism     : Nat := 0
  fault    : Bool := false
  engSlots : NatMap (Nat × Nat) := []
  jobs     : List RdmJob := []
  running  : Option RdmJob := none
  since    : Nat := 16
  resp     : List Byte := []
  uids     : List Nat := []
  overflow : Bool := false
  tn       : BitVec 8 := 0
  sent     : List Byte := []
  lastAt   : Option RP := none
  busyTo   : Option RP := none
  packet   : Option (RP × DmxRec) := none
  deriving DecidableEq, Repr

/-- What a pattern engine writes: a string channel, or a slot of a DMX port (R442). -/
inductive Target where
  | str (c : Nat)
  | slot (p n : Nat)
  deriving DecidableEq, Repr

/-- A fade (R442, R444). -/
structure Fade where
  target : Target
  from_  : Nat
  goal   : Nat
  start  : RP
  dur    : Nat
  ms     : Bool
  deriving DecidableEq, Repr

/-- Pattern engine states (R551). -/
inductive PatState where
  | stopped | running | waiting | faulted
  deriving DecidableEq, Repr

/-- A pattern engine (R442). `fadeWait`: a WAIT with FADES that still waits for its fades, as unit and duration. -/
structure PatEngine where
  prog     : List Word := List.replicate 64 0xE0000000
  auto     : Bool := false
  v        : List Nat := [0, 0, 0, 0]
  x        : Nat := 0
  t        : RP := { frame := 0, line := 0, sub := 0 }
  pc       : Nat := 0
  state    : PatState := .stopped
  fades    : List Fade := []
  fadeWait : Option (Bool × Nat) := none
  deriving DecidableEq, Repr

/-- A string channel (R432 to R439). `sampled`: v′ of the sub-refresh under way; `on`: its conduction in RAST cycles; `lit`: until when
it conducted last. -/
structure StrChan where
  enable   : Bool := false
  feedback : Bool := false
  sensor   : Nat := 0
  iset     : Nat := 0
  drainMax : Nat := 6000
  v        : Nat := 0
  sampled  : Nat := 0
  on       : Nat := 0
  trim     : Nat := 32768
  rref     : Option Int := none
  missed   : Nat := 0
  fault    : Option Nat := none
  lit      : Option RP := none
  deriving DecidableEq, Repr

/-- A fixture record (R449): port records, string operand blocks with r_ref, the autostart mask and the programs. -/
structure FixRec where
  seq   : BitVec 32 := 0
  ports : List DmxRec := List.replicate 16 {}
  strs  : List (List Byte × Option Int) := List.replicate 16 (List.replicate 32 0, none)
  auto  : List Bool := List.replicate 16 false
  progs : List (List Word) := List.replicate 16 (List.replicate 64 0xE0000000)
  deriving DecidableEq, Repr

/-- Fixtures (Fixtures: DMX, strings and pattern engines). `limited`, `stopped`: the conditions of BOOST_LIMIT. `sensor`:
SENSOR_QUERY commands with the RPs at which they took effect, the first being served from `sensorAt`. `image`: what the
next fixture record will hold; `recs`: the two copies in flash. `started`: the record has been put to work. -/
structure Fix where
  ports    : List DmxPort := List.replicate 16 {}
  strs     : List StrChan := List.replicate 16 {}
  pats     : List PatEngine := List.replicate 16 {}
  setpoint : Nat := 6000
  measured : Nat := 0
  neediest : Nat := 0
  limited  : Bool := false
  stopped  : Bool := false
  sensor   : List (RP × Cmd) := []
  sensorAt : RP := { frame := 0, line := 0, sub := 0 }
  skipped  : Nat := 0
  dirty    : Bool := false
  image    : FixRec := {}
  recs     : List (Option FixRec) := [none, none]
  loaded   : Bool := false
  started  : Bool := false
  deriving DecidableEq, Repr

/-- A calibration command running or waiting (R454): the RP at which it took effect, and that of its start. -/
structure CalJob where
  cmd   : Cmd
  at_   : RP
  start : RP
  deriving DecidableEq, Repr

/-- A setting being phased in (R458): the frame of its commit, the values before and after, N, and the steps made. -/
structure CalPhase where
  since : BitVec 32
  kind : Nat
  unit : Nat
  old  : List Int
  new  : List Int
  n    : Nat
  step : Nat
  deriving DecidableEq, Repr

/-- A reading pair of CAL_COLOUR (R464), with the sums of the codes shown over the patch. -/
structure CalPair where
  lit  : Reading
  dark : Reading
  sums : List Nat
  deriving DecidableEq, Repr

/-- A reading pair under way (R464): the lit window, then the dark one. -/
structure CalWin where
  sums : List Nat
  lit  : Option Reading
  deriving DecidableEq, Repr

/-- Calibration on command. Per kind (0 LINK, 1 COLOUR, 2 METER): the jobs, the marker in NVM (R459), the last quality figure.
`eq`, `offs`: the committed settings (NVM); `eqAt`, `offsAt`: those in force. `ports`, `eyes`, `commits`, `ended`: a CAL_LINK
under way. `chans`, `spare`, `resids`, `mCommit`: a CAL_METER under way. -/
structure Cal where
  running : List (Option CalJob) := [none, none, none]
  waiting : List (Option CalJob) := [none, none, none]
  marker  : List (Option (BitVec 32 × RP)) := [none, none, none]
  quality : List Nat := [0, 0, 0]
  eq      : List (List Int) := List.replicate 10 []
  eqAt    : List (List Int) := List.replicate 10 []
  offs    : List Int := List.replicate 12 0
  offsAt  : List Int := List.replicate 12 0
  phases  : List CalPhase := []
  ports   : List Nat := []
  eyes    : List Nat := List.replicate 10 0
  commits : Nat := 0
  ended   : Nat := 0
  pairs   : List CalPair := []
  win     : Option CalWin := none
  chans   : List Nat := []
  spare   : Option Nat := none
  resids  : List Nat := List.replicate 12 0
  mCommit : Nat := 0
  deriving DecidableEq, Repr

/-- A metering channel (R472 to R476): `imp` and `exp_` in units of 2^-40 LSB; the last 8,000 samples as (vc × v_fs, ic × i_fs), the
scales being those of the sample. -/
structure Channel where
  vfs     : Nat := 1000
  ifs     : Nat := 0
  k       : Nat := 0
  imp     : Nat := 0
  exp_    : Nat := 0
  recent  : List (Int × Int) := []
  deriving DecidableEq, Repr

/-- An S0 input (R477). `asked`: glitches since the last query (R485). -/
structure S0In where
  const  : Nat := 0
  energy : Nat := 0
  count  : Nat := 0
  rem    : Nat := 0
  glitch : Nat := 0
  asked  : Nat := 0
  deriving DecidableEq, Repr

/-- A saved metering slot (R480), with its row in the pool. -/
structure MeterSlot where
  seq    : BitVec 32
  imps   : List Nat
  exps   : List Nat
  s0e    : List Nat
  s0c    : List Nat
  wraps  : Nat
  row    : Nat
  deriving DecidableEq, Repr

/-- A metering save in progress (R481): what it writes, when it began, and the ENERGY_SAVE commands it serves with the RPs at
which they took effect. -/
structure MeterSave where
  slot  : MeterSlot
  begun : RP
  cmds  : List (RP × Cmd)
  deriving DecidableEq, Repr

/-- Energy metering. `byCmd`: a METER_CONFIG has taken effect since reset (R484). `crossings`: crossings accepted since reset
or the last MAINS_LOST, up to 2. `slot`: the newest valid slot in NVM; `row`: the next row of the pool; `savedRp`: when a save last
completed. -/
structure Meter where
  chans   : List Channel := List.replicate 6 {}
  s0      : List S0In := [{}, {}]
  wraps   : Nat := 0
  period  : Nat := 60
  tzc     : Nat := 50
  zcBoth  : Bool := false
  saveOnLoss : Bool := true
  byCmd   : Bool := false
  freq    : Nat := 0
  lastZc  : Option RP := none
  crossings : Nat := 0
  lost    : Bool := false
  seen    : Bool := false
  noHist  : Bool := true
  slot    : Option MeterSlot := none
  save    : Option MeterSave := none
  again   : Bool := false
  againCmds : List (RP × Cmd) := []
  row     : Nat := 0
  savedRp : Option RP := none
  deriving DecidableEq, Repr

/-- Life-cycle states (R488). -/
inductive Life where
  | blank | provisioned | sealed | returned | retired
  deriving DecidableEq, Repr

/-- A link key in a slot (R492). -/
structure LinkKey where
  key : List Byte
  gen : BitVec 32
  deriving DecidableEq, Repr

/-- A firmware image in an area (R497). `good`: header well formed and signature verified. -/
structure Image where
  sec   : Nat
  build : BitVec 32
  good  : Bool
  deriving DecidableEq, Repr

/-- A standing life-cycle journal entry (R490). -/
structure Journal where
  src : Life
  dst : Life
  tag : BitVec 32
  deriving DecidableEq, Repr

/-- A key record held until a rollover ends (R494): by a KEY_LOAD, or at the test port. -/
structure HeldKey where
  cmd : Option Cmd
  body : List Byte
  deriving DecidableEq, Repr

/-- The instructions of the test port (R556, R571); every other code acts as BYPASS. -/
inductive TapInstr where
  | extest | sample | idcode | clamp | highz | bypass | dbgChallenge | dbgResponse | keyload | dbgRequest
  deriving DecidableEq, Repr

/-- The test port's own registers (R556, R570 to R572): the instruction in force, what the instruction register captures, IDCODE,
the bypass bit, and the boundary register. -/
structure Tap where
  ir       : TapInstr := .idcode
  capture  : BitVec 8 := 0x01
  idcode   : BitVec 32 := 0x2409674B
  bypass   : Bool := false
  boundary : BitVec 516 := 0
  deriving DecidableEq, Repr

/-- Security (Life cycle, keys, debug and power combinations). `idPriv`: the private identity key, 0 where there is none.
`announce`: a SELECT has been made whose image has not yet started. `fails`: failed starts in a row. `staging`: FW_UPDATE
commands in order of service with the RPs at which they took effect, the first being the STAGE under way, whose image is
`stageImg`. `wasLevel`: the debug level before the last reset. `nonce`: the 32 bytes captured and when, in ms.
`backoff`, `backTo`, `backRp`: the wait after a failed response in s, when it ends in ms, and the RP at which it began.
`keyStat`: what KEYLOAD reads. `halted`: bit n, core n halted. -/
structure Sec where
  life      : Life := .provisioned
  journal   : Option Journal := none
  idPriv    : Nat := 1
  fingerprint : List Byte := [0x69, 0x8B, 0xEA, 0x63, 0xDC, 0x44, 0xA3, 0x44]
  cur       : Option LinkKey := none
  next      : Option LinkKey := none
  heldKeys  : List HeldKey := []
  rollback  : Nat := 0
  images    : List (Option Image) := [some { sec := 0, build := 0, good := true }, none]
  preferred : Nat := 0
  running   : Nat := 0
  noImage   : Bool := false
  trial     : Bool := false
  announce  : Bool := false
  fails     : Nat := 0
  staging   : List (RP × Cmd) := []
  stageImg  : Option Image := none
  permDraws : Nat := 0
  level     : Nat := 0
  wasLevel  : Nat := 0
  reqLevel  : BitVec 2 := 0
  nonce     : Option (List Byte × Nat) := none
  backoff   : Nat := 0
  backTo    : Nat := 0
  backRp    : Option RP := none
  keyStat   : Nat := 0
  intrusive : Bool := false
  tap       : Tap := {}
  halted    : Nat := 0
  setupLocked : Bool := false
  deriving DecidableEq, Repr

/-- Power states (R514, R515). -/
inductive PState where
  | run | quiet | standby | hibernate | startUp
  deriving DecidableEq, Repr

/-- The role in force (R13). -/
inductive Role where
  | node | head | headNode
  deriving DecidableEq, Repr

/-- A power transition that takes time (R516): where it leads and led from, its cause, its command, and the RP it began
at. -/
structure Transition where
  target : PState
  old    : PState
  cause  : Nat
  cmd    : Option Cmd
  at_    : RP
  deriving DecidableEq, Repr

/-- What the retention memory keeps through HIBERNATE (R518); the power settings stand in the AON domain's fields. -/
structure Retained where
  role    : Role
  nodeId  : Option (BitVec 12)
  record  : Option NodeRecord
  gen     : BitVec 32
  headSet : BitVec 64
  p       : Nat
  c       : Nat
  sched   : List Entry
  adm     : Nat
  roll    : Option Rollover
  rolling : Option Rollover
  f       : BitVec 32
  e       : BitVec 32
  seqs    : NatMap Nat
  rp      : RP
  deriving DecidableEq, Repr

/-- RESET_REQUESTs under way (R530): the commands not yet completed, the saves they still wait for, whether one has failed, whether a
RESET_REQUEST has completed. -/
structure HostReset where
  cmds   : List (Cmd × RP)
  expo   : Bool
  energy : Bool
  failed : Bool
  done   : Bool
  deriving DecidableEq, Repr

/-- Supply, reset and power (Supply, reset, clocks and start-up). `supplyLow`: held in reset by a brown-out. `boot`: what
start-up found, while it waits for REF at step 4. `bootLimit`: the time within which a start is to reach readiness, `none`
where REF was absent. `back`, `wakeTimer`: the return state and timer of HIBERNATE. `wdReset`: a watchdog reset waits for
its energy save. `wdQueued`: a watchdog action waits for a boundary. `wdSetAt`: the RP of the last
WATCHDOG_SET. `runNext`: the cause of a move to RUN at the next
boundary. `byWd`: the state was entered by the watchdog (R517). `resetAsked`: a CTRL WRITE has
asked for a reset that follows its acknowledgement. `woke`: a wake has not yet been followed by a first lock. -/
structure Power where
  inReset   : Bool := true
  supplyLow : Bool := false
  state     : PState := .startUp
  role      : Role := .node
  straps    : Nat := 0
  roleRes   : Bool := false
  boot      : Option BootInputs := none
  waitRef   : Bool := false
  refHere   : Bool := true
  readyHost : Bool := false
  readyLight : Bool := false
  start     : Bool := true
  everRun   : Bool := false
  hvLow     : Bool := false
  first     : Nat := 0
  mask      : Nat := 1
  trans     : Option Transition := none
  queued    : List Cmd := []
  wakeLatch : Option Nat := none
  wakeTimer : Nat := 0
  back      : PState := .run
  wdPeriod  : Nat := 0
  wdAction  : Nat := 0
  wdOn      : Bool := false
  wdSetAt   : Option RP := none
  wdQueued  : Bool := false
  wdReset   : Bool := false
  byWd      : Bool := false
  runNext   : Option Nat := none
  hostReset : Option HostReset := none
  resetAsked : Bool := false
  retained  : Option Retained := none
  bootLimit : Option Nat := some 25000
  woke      : Bool := false
  temp      : Int := 0
  powerOff  : Bool := false
  deriving DecidableEq, Repr

/-- The whole device. `regs` holds the written values of set-up registers and the counters that have no home of their
own, by word address. -/
structure Device where
  clk   : Clock := {}
  tim   : Time := {}
  sched : Sched := {}
  link  : List LinkPort := List.replicate 8 {}
  ing   : List IngPort := List.replicate 2 {}
  topo  : Topo := {}
  flows : Flows := {}
  hif   : Hif := {}
  gest  : Ingest := {}
  pxl   : Pixel := {}
  corr  : Corr := {}
  out   : Output := {}
  red   : Redund := {}
  spare : Spares := {}
  fix   : Fix := {}
  cal   : Cal := {}
  mtr   : Meter := {}
  sec   : Sec := {}
  pwr   : Power := {}
  regs  : NatMap Word := []
  wideHold : NatMap Word := []
  snap  : NatMap Word := []
  lastRead : Word := 0
  proofIn : List (BitVec 12 × BitVec 32 × List Byte) := []
  sent  : List TxFrame := []
  host  : List HostWrite := []
  comps : List Completion := []
  notes : List Notice := []
  deriving DecidableEq, Repr

/-- The machine: the device and the commands that wait, first in, first out. -/
structure State where
  dev     : Device := {}
  pending : List Instr := []
  deriving DecidableEq, Repr

/-- The machine right after reset: held in reset by the power-on cause, every field at the value above, no command
waiting. -/
def State.reset : State := {}

end Sys2Proof.Machine
end

