-- ==== Sys2Proof/Machine/Bytes.lean ====
section
/-! DEFINITION. Machine/Bytes.lean: fields in byte strings (R6), two's complement (R4), and finite maps from numbers. -/

namespace Sys2Proof.Machine

/-- The low `n` bytes of a number, least significant first (host memory and registers). -/
def leN : Nat → Nat → List Byte
  | 0, _ => []
  | n + 1, v => BitVec.ofNat 8 v :: leN n (v / 256)

/-- The low `n` bytes of a number, most significant first (the wire). -/
def beN (n v : Nat) : List Byte := (leN n v).reverse

/-- The number that little-endian bytes spell. -/
def fromLe (bs : List Byte) : Nat := bs.foldr (fun b a => b.toNat + 256 * a) 0

/-- The number that big-endian bytes spell. -/
def fromBe (bs : List Byte) : Nat := bs.foldl (fun a b => 256 * a + b.toNat) 0

/-- Bytes `off` to `off + n - 1`. -/
def cut (bs : List Byte) (off n : Nat) : List Byte := (bs.drop off).take n

/-- A little-endian field; bytes beyond the end read as absent. -/
def le (bs : List Byte) (off n : Nat) : Nat := fromLe (cut bs off n)

/-- A big-endian field. -/
def be (bs : List Byte) (off n : Nat) : Nat := fromBe (cut bs off n)

/-- `w`-bit two's complement read as an integer. -/
def signed (w x : Nat) : Int := if x < 2 ^ (w - 1) then x else (x : Int) - 2 ^ w

/-- An integer as `w`-bit two's complement. -/
def unsig (w : Nat) (x : Int) : Nat := (x % (2 ^ w : Int)).toNat

/-- An integer saturated at ±(2^31 − 1) (R78). -/
def sat31 (x : Int) : Int := clamp x (-2147483647) 2147483647

/-- `n` zero bytes. -/
def zeros (n : Nat) : List Byte := List.replicate n 0

/-- A byte string cut or filled with zeros to `n` bytes. -/
def fit (n : Nat) (bs : List Byte) : List Byte := (bs ++ zeros n).take n

/-- Entry `k` of a map, or `d`. -/
def mget {α : Type} (m : NatMap α) (k : Nat) (d : α) : α :=
  match m with
  | [] => d
  | (j, a) :: m => if j = k then a else mget m k d

/-- Entry `k` of a map, where there is one. -/
def mfind {α : Type} (m : NatMap α) (k : Nat) : Option α :=
  match m with
  | [] => none
  | (j, a) :: m => if j = k then some a else mfind m k

/-- A map without entry `k`. -/
def mdel {α : Type} (m : NatMap α) (k : Nat) : NatMap α := m.filter (fun e => e.1 != k)

/-- A map with entry `k` put in its place in rising order. -/
def mins {α : Type} (m : NatMap α) (k : Nat) (a : α) : NatMap α :=
  match m with
  | [] => [(k, a)]
  | (j, b) :: m => if k < j then (k, a) :: (j, b) :: m else if j = k then (k, a) :: m else (j, b) :: mins m k a

/-- A map with entry `k` set to `a`; an entry equal to the default `d` is not listed. -/
def mset {α : Type} [DecidableEq α] (m : NatMap α) (k : Nat) (d a : α) : NatMap α :=
  if a = d then mdel m k else mins m k a

/-- The `n` first numbers of a list, with zeros where it is short. -/
def nth (xs : List Nat) (i : Nat) : Nat := xs.getD i 0

/-- Entry `i` of a list of integers, or 0. -/
def nthI (xs : List Int) (i : Nat) : Int := xs.getD i 0

/-- An integer put in its place in a rising list. -/
def insertInt (a : Int) : List Int → List Int
  | [] => [a]
  | b :: r => if a ≤ b then a :: b :: r else b :: insertInt a r

/-- A list in rising order. -/
def sortInts (xs : List Int) : List Int := xs.foldr insertInt []

/-- The median of a list, the lower middle one where it has an even length; 0 where it is empty. -/
def median (xs : List Int) : Int := (sortInts xs).getD ((xs.length - 1) / 2) 0

/-- The last `n` entries of a list. -/
def lastN {α : Type} (n : Nat) (xs : List α) : List α := xs.drop (xs.length - n)

/-- A list with entry `i` made `a`, lengthened by `d` where it is short. -/
def putAt {α : Type} (xs : List α) (i : Nat) (d a : α) : List α :=
  if i < xs.length then xs.set i a else xs ++ List.replicate (i - xs.length) d ++ [a]

end Sys2Proof.Machine
end

