-- ==== Sys2Proof/Machine/Crypto.lean ====
section
/-! DEFINITION. Machine/Crypto.lean: the functions the spec names by their standards: CRC-32 (IEEE 802.3), AES-256 with
GCM and GMAC (NIST SP 800-38D), SHA-256, and ECDH and ECDSA on P-256. -/

namespace Sys2Proof.Machine

/-- One bit of the reflected CRC-32. -/
def crcBit (c : Nat) : Nat := if c % 2 = 1 then (c / 2) ^^^ 0xEDB88320 else c / 2

/-- One byte of the CRC-32. -/
def crcByte (c : Nat) (b : Byte) : Nat :=
  crcBit (crcBit (crcBit (crcBit (crcBit (crcBit (crcBit (crcBit (c ^^^ b.toNat))))))))

/-- The CRC-32 of IEEE 802.3 (R29, R107, R344). -/
def crc32 (bs : List Byte) : Nat := bs.foldl crcByte 0xFFFFFFFF ^^^ 0xFFFFFFFF

/-- The FCS bytes of a frame's other bytes: the CRC's low byte leaves first. -/
def fcs (bs : List Byte) : List Byte := leN 4 (crc32 bs)

/-- The stomped FCS (R153): every bit of the FCS inverted. -/
def stompedFcs (bs : List Byte) : List Byte := leN 4 (crc32 bs ^^^ 0xFFFFFFFF)

/-- Multiplication by x in GF(2^8). -/
def xtime (b : Nat) : Nat := if 128 ≤ b then (b * 2) ^^^ 0x11B else b * 2

/-- Multiplication in GF(2^8), over the `n` low bits of `b`. -/
def gmul : Nat → Nat → Nat → Nat
  | 0, _, _ => 0
  | n + 1, a, b => (if b % 2 = 1 then a else 0) ^^^ gmul n (xtime a) (b / 2)

/-- The inverse in GF(2^8): the 254th power. -/
def ginv (x : Nat) : Nat :=
  let sq := fun y => gmul 8 y y
  let x2 := sq x; let x4 := sq x2; let x8 := sq x4; let x16 := sq x8; let x32 := sq x16; let x64 := sq x32
  let x128 := sq x64
  gmul 8 x128 (gmul 8 x64 (gmul 8 x32 (gmul 8 x16 (gmul 8 x8 (gmul 8 x4 x2)))))

/-- A byte rotated left. -/
def rotl8 (x k : Nat) : Nat := (x * 2 ^ k) % 256 + x / 2 ^ (8 - k)

/-- The AES substitution. -/
def sbox (x : Nat) : Nat :=
  let b := ginv x
  b ^^^ rotl8 b 1 ^^^ rotl8 b 2 ^^^ rotl8 b 3 ^^^ rotl8 b 4 ^^^ 0x63

/-- The key words of AES-256, four bytes each, extended `n` words further. -/
def aesExpand : Nat → Nat → List (List Nat) → List (List Nat)
  | 0, _, ws => ws
  | n + 1, rcon, ws =>
    let i := ws.length
    let t := ws.getD (i - 1) []
    let t1 :=
      if i % 8 = 0 then
        match (t.drop 1 ++ t.take 1).map sbox with
        | a :: r => (a ^^^ rcon) :: r
        | [] => []
      else if i % 8 = 4 then t.map sbox else t
    let w := List.zipWith (· ^^^ ·) (ws.getD (i - 8) []) t1
    aesExpand n (if i % 8 = 0 then xtime rcon else rcon) (ws ++ [w])

/-- The four-byte words of a key. -/
def keyWords (k : List Byte) : List (List Nat) :=
  (List.range 8).map (fun i => (cut k (4 * i) 4).map BitVec.toNat)

/-- The round keys of AES-256: 15 of 16 bytes. -/
def aesKeys (k : List Byte) : List (List Nat) :=
  let ws := aesExpand 52 1 (keyWords k)
  (List.range 15).map (fun r => ((ws.drop (4 * r)).take 4).flatten)

/-- ShiftRows on 16 bytes in column order. -/
def shiftRows (s : List Nat) : List Nat :=
  (List.range 16).map (fun i => s.getD (i % 4 + 4 * ((i / 4 + i % 4) % 4)) 0)

/-- MixColumns on one column. -/
def mixColumn (c : List Nat) : List Nat :=
  let a := c.getD 0 0; let b := c.getD 1 0; let d := c.getD 2 0; let e := c.getD 3 0
  [xtime a ^^^ (xtime b ^^^ b) ^^^ d ^^^ e, a ^^^ xtime b ^^^ (xtime d ^^^ d) ^^^ e,
   a ^^^ b ^^^ xtime d ^^^ (xtime e ^^^ e), (xtime a ^^^ a) ^^^ b ^^^ d ^^^ xtime e]

/-- MixColumns. -/
def mixColumns (s : List Nat) : List Nat :=
  mixColumn (s.take 4) ++ mixColumn ((s.drop 4).take 4) ++ mixColumn ((s.drop 8).take 4) ++ mixColumn (s.drop 12)

/-- AES-256 of one block under a key. -/
def aes256 (key block : List Byte) : List Byte :=
  let ks := aesKeys key
  let add := fun (s : List Nat) (r : Nat) => List.zipWith (· ^^^ ·) s (ks.getD r [])
  let s0 := add (block.map BitVec.toNat) 0
  let s13 := (List.range 13).foldl (fun s r => add (mixColumns (shiftRows (s.map sbox))) (r + 1)) s0
  (add (shiftRows (s13.map sbox)) 14).map (BitVec.ofNat 8)

/-- Multiplication in GF(2^128) as GCM orders its bits, over the `n` low bits of `x`. -/
def gf128 : Nat → Nat → Nat → Nat → Nat
  | 0, _, _, z => z
  | n + 1, x, v, z =>
    let z' := if x / 2 ^ n % 2 = 1 then z ^^^ v else z
    gf128 n x (if v % 2 = 1 then (v / 2) ^^^ (0xE1 * 2 ^ 120) else v / 2) z'

/-- Bytes as blocks of 16, the last filled with zeros. -/
def blocks16 : Nat → List Byte → List (List Byte)
  | 0, _ => []
  | n + 1, bs => if bs.isEmpty then [] else fit 16 (bs.take 16) :: blocks16 n (bs.drop 16)

/-- GHASH of blocks under H. -/
def ghash (h : Nat) (bs : List (List Byte)) : Nat :=
  bs.foldl (fun y b => gf128 128 (y ^^^ fromBe b) h 0) 0

/-- GHASH of authenticated data, ciphertext and their lengths. -/
def ghashAC (h : Nat) (aad c : List Byte) : Nat :=
  ghash h (blocks16 (aad.length + 1) aad ++ blocks16 (c.length + 1) c ++ [beN 8 (8 * aad.length) ++ beN 8 (8 * c.length)])

/-- The pre-counter block of an IV. -/
def gcmJ0 (h : Nat) (iv : List Byte) : Nat :=
  if iv.length = 12 then fromBe iv * 2 ^ 32 + 1
  else ghash h (blocks16 (iv.length + 1) iv ++ [zeros 8 ++ beN 8 (8 * iv.length)])

/-- The GCM tag of authenticated data and ciphertext, 16 bytes. -/
def gcmTag (key iv aad c : List Byte) : List Byte :=
  let h := fromBe (aes256 key (zeros 16))
  beN 16 (fromBe (aes256 key (beN 16 (gcmJ0 h iv))) ^^^ ghashAC h aad c)

/-- The most significant 64 bits of the GMAC tag (R136, R496). -/
def gmac64 (key iv aad : List Byte) : List Byte := (gcmTag key iv aad []).take 8

/-- The counter block after `i` increments of its low 32 bits. -/
def inc32 (j i : Nat) : Nat := j / 2 ^ 32 * 2 ^ 32 + (j + i) % 2 ^ 32

/-- GCM's counter-mode keystream applied to data. -/
def gcmCrypt (key iv data : List Byte) : List Byte :=
  let h := fromBe (aes256 key (zeros 16))
  let j := gcmJ0 h iv
  let ks := ((List.range ((data.length + 15) / 16)).map (fun i => aes256 key (beN 16 (inc32 j (i + 1))))).flatten
  List.zipWith (· ^^^ ·) data ks

/-- The plaintext GCM opens, where its tag is good. -/
def gcmOpen (key iv aad c tag : List Byte) : Option (List Byte) :=
  if gcmTag key iv aad c = tag then some (gcmCrypt key iv c) else none

/-- A 32-bit word rotated right. -/
def rotr32 (x k : Nat) : Nat := x / 2 ^ k + x * 2 ^ (32 - k) % 2 ^ 32

/-- The round constants of SHA-256. -/
def sha256K : List Nat :=
  [0x428A2F98, 0x71374491, 0xB5C0FBCF, 0xE9B5DBA5, 0x3956C25B, 0x59F111F1, 0x923F82A4, 0xAB1C5ED5] ++
  [0xD807AA98, 0x12835B01, 0x243185BE, 0x550C7DC3, 0x72BE5D74, 0x80DEB1FE, 0x9BDC06A7, 0xC19BF174] ++
  [0xE49B69C1, 0xEFBE4786, 0x0FC19DC6, 0x240CA1CC, 0x2DE92C6F, 0x4A7484AA, 0x5CB0A9DC, 0x76F988DA] ++
  [0x983E5152, 0xA831C66D, 0xB00327C8, 0xBF597FC7, 0xC6E00BF3, 0xD5A79147, 0x06CA6351, 0x14292967] ++
  [0x27B70A85, 0x2E1B2138, 0x4D2C6DFC, 0x53380D13, 0x650A7354, 0x766A0ABB, 0x81C2C92E, 0x92722C85] ++
  [0xA2BFE8A1, 0xA81A664B, 0xC24B8B70, 0xC76C51A3, 0xD192E819, 0xD6990624, 0xF40E3585, 0x106AA070] ++
  [0x19A4C116, 0x1E376C08, 0x2748774C, 0x34B0BCB5, 0x391C0CB3, 0x4ED8AA4A, 0x5B9CCA4F, 0x682E6FF3] ++
  [0x748F82EE, 0x78A5636F, 0x84C87814, 0x8CC70208, 0x90BEFFFA, 0xA4506CEB, 0xBEF9A3F7, 0xC67178F2]

/-- The message schedule extended `n` words further. -/
def shaSchedule : Nat → List Nat → List Nat
  | 0, w => w
  | n + 1, w =>
    let i := w.length
    let a := w.getD (i - 15) 0; let b := w.getD (i - 2) 0
    let s0 := rotr32 a 7 ^^^ rotr32 a 18 ^^^ (a / 8)
    let s1 := rotr32 b 17 ^^^ rotr32 b 19 ^^^ (b / 1024)
    shaSchedule n (w ++ [(w.getD (i - 16) 0 + s0 + w.getD (i - 7) 0 + s1) % 2 ^ 32])

/-- One round of SHA-256 on its eight words. -/
def shaRound (st : List Nat) (kw : Nat) : List Nat :=
  let a := st.getD 0 0; let b := st.getD 1 0; let c := st.getD 2 0; let d := st.getD 3 0
  let e := st.getD 4 0; let f := st.getD 5 0; let g := st.getD 6 0; let h := st.getD 7 0
  let t1 := h + (rotr32 e 6 ^^^ rotr32 e 11 ^^^ rotr32 e 25) + ((e &&& f) ^^^ ((0xFFFFFFFF ^^^ e) &&& g)) + kw
  let t2 := (rotr32 a 2 ^^^ rotr32 a 13 ^^^ rotr32 a 22) + ((a &&& b) ^^^ (a &&& c) ^^^ (b &&& c))
  [(t1 + t2) % 2 ^ 32, a, b, c, (d + t1) % 2 ^ 32, e, f, g]

/-- One block of SHA-256. -/
def shaBlock (hs : List Nat) (blk : List Byte) : List Nat :=
  let w := shaSchedule 48 ((List.range 16).map (fun i => be blk (4 * i) 4))
  List.zipWith (fun x y => (x + y) % 2 ^ 32) hs ((List.zipWith (· + ·) sha256K w).foldl shaRound hs)

/-- Blocks of 64 bytes in turn. -/
def shaBlocks : Nat → List Nat → List Byte → List Nat
  | 0, hs, _ => hs
  | n + 1, hs, bs => if bs.isEmpty then hs else shaBlocks n (shaBlock hs (bs.take 64)) (bs.drop 64)

/-- SHA-256. -/
def sha256 (bs : List Byte) : List Byte :=
  let pad := bs ++ [0x80] ++ zeros ((119 - bs.length % 64) % 64) ++ beN 8 (8 * bs.length)
  (shaBlocks (pad.length / 64) [0x6A09E667, 0xBB67AE85, 0x3C6EF372, 0xA54FF53A, 0x510E527F, 0x9B05688C, 0x1F83D9AB,
    0x5BE0CD19] pad).flatMap (beN 4)

/-- The field prime of P-256. -/
def p256p : Nat := 0xFFFFFFFF00000001000000000000000000000000FFFFFFFFFFFFFFFFFFFFFFFF
/-- The order of P-256's base point. -/
def p256n : Nat := 0xFFFFFFFF00000000FFFFFFFFFFFFFFFFBCE6FAADA7179E84F3B9CAC2FC632551
/-- The constant b of P-256. -/
def p256b : Nat := 0x5AC635D8AA3A93E7B3EBBD55769886BC651D06B0CC53B0F63BCE3C3E27D2604B
/-- The base point of P-256. -/
def p256g : Nat × Nat :=
  (0x6B17D1F2E12C4247F8BCE6E563A440F277037D812DEB33A0F4A13945D898C296,
   0x4FE342E2FE1A7F9B8EE7EB4A7C0F9E162BCE33576B315ECECBB6406837BF51F5)

/-- A power modulo `m`, over the `n` low bits of the exponent. -/
def powMod : Nat → Nat → Nat → Nat → Nat
  | 0, _, _, m => 1 % m
  | n + 1, b, e, m =>
    let r := powMod n (b * b % m) (e / 2) m
    if e % 2 = 1 then r * b % m else r

/-- The inverse modulo a prime. -/
def invMod (a m : Nat) : Nat := powMod 256 a (m - 2) m

/-- Subtraction modulo `m`. -/
def subMod (a b m : Nat) : Nat := (a + (m - b % m)) % m

/-- Addition of points of P-256; `none` is the point at infinity. -/
def p256add (p q : Option (Nat × Nat)) : Option (Nat × Nat) :=
  match p, q with
  | none, q => q
  | p, none => p
  | some (x1, y1), some (x2, y2) =>
    if x1 = x2 ∧ (y1 + y2) % p256p = 0 then none
    else
      let l := if x1 = x2 then (3 * x1 * x1 + (p256p - 3)) * invMod (2 * y1) p256p % p256p
        else subMod y2 y1 p256p * invMod (subMod x2 x1 p256p) p256p % p256p
      let x := subMod (subMod (l * l) x1 p256p) x2 p256p
      some (x, subMod (l * subMod x1 x p256p) y1 p256p)

/-- A multiple of a point, over the `n` low bits of `k`. -/
def p256mul : Nat → Nat → Option (Nat × Nat) → Option (Nat × Nat)
  | 0, _, _ => none
  | n + 1, k, p =>
    let r := p256mul n (k / 2) (p256add p p)
    if k % 2 = 1 then p256add r p else r

/-- Whether a pair of coordinates is a point of P-256 (R494). -/
def p256on (x y : Nat) : Bool :=
  decide (x < p256p) && decide (y < p256p) &&
    (y * y % p256p == (x * x % p256p * x + (p256p - 3) * x + p256b) % p256p)

/-- The X coordinate shared by ECDH, where the point is one of P-256. -/
def ecdhX (priv x y : Nat) : Option Nat := (p256mul 256 priv (some (x, y))).map Prod.fst

/-- Whether an ECDSA P-256 signature over SHA-256 verifies. -/
def ecdsaOk (pub : Nat × Nat) (msg sig : List Byte) : Bool :=
  let r := be sig 0 32
  let s := be sig 32 32
  let e := fromBe (sha256 msg)
  let w := invMod s p256n
  let pt := p256add (p256mul 256 (e * w % p256n) (some p256g)) (p256mul 256 (r * w % p256n) (some pub))
  decide (0 < r) && decide (r < p256n) && decide (0 < s) && decide (s < p256n) && p256on pub.1 pub.2 &&
    (match pt with | some (x, _) => x % p256n == r | none => false)

end Sys2Proof.Machine
end

