-- ==== Sys2Proof/Config.lean ====
section
/-! DEFINITION. Config.lean: the values the spec leaves open (free values: constants with no body) and the constants it
names without giving them. -/

namespace Sys2Proof.Config

/-- What the servo demands, in 0.001 ppm, at its `n`th step (R57 bounds it and gives no law): a free value. -/
opaque servoDemand : Nat → Int

/-- The Renxis firmware-signing public key in ROM (R492): fixed, not stated. -/
opaque fwKey : Nat × Nat

/-- The Renxis debug-authority public key in ROM (R492): fixed, not stated. -/
opaque debugKey : Nat × Nat

/-- A value the spec leaves open, numbered by the step that meets it. -/
opaque freeValue : Nat → Nat

end Sys2Proof.Config
end

