-- ==== Sys2Proof/Machine/Raster.lean ====
section
/-! DEFINITION. Machine/Raster.lean: raster positions, their order and distance (R2, R47, R48), the raster clock (R45,
R46), and positions read from words and written to bytes (R78, R79). -/

namespace Sys2Proof.Machine

/-- Sub LSB in a frame. -/
def Raster.frameSub (r : Raster) : Nat := 65536 * r.lines

/-- Whether a raster configuration is valid (R41). -/
def Raster.valid (r : Raster) : Bool :=
  decide (100 ≤ r.lines) && decide (r.lines ≤ 8192) && decide (1 ≤ r.num) && decide (r.num ≤ 16777215) &&
  decide (1 ≤ r.den) && decide (r.den ≤ 65535) && decide (24000 * r.den ≤ 1001 * r.num) &&
  decide (r.num ≤ 240 * r.den)

/-- INC of R45, in units of 2^-32 sub per RAST cycle. -/
def Raster.inc (r : Raster) : Nat := 2 ^ 48 * (r.lines * r.num) / (297000000 * r.den)

/-- ns_of of R48. -/
def Raster.nsOf (r : Raster) (d : Int) : Int :=
  (d * r.den * 1000000000 * 2 + r.num * r.lines * 65536) / (r.num * r.lines * 65536 * 2)

/-- sub_of of R48. -/
def Raster.subOf (r : Raster) (t : Int) : Int :=
  (t * r.num * r.lines * 65536 * 2 + r.den * 1000000000) / (r.den * 1000000000 * 2)

end Sys2Proof.Machine

namespace Sys2Proof

open Machine

/-- The signed frame difference d of R47. -/
def frameDiff (a b : BitVec 32) : Int := (a - b).toInt

/-- Whether two RPs are unordered (R47). -/
def RP.unordered (a b : RP) : Bool := frameDiff a.frame b.frame == -2147483648

/-- The place of an RP in its frame, in sub LSB. -/
def RP.inFrame (a : RP) : Nat := 65536 * a.line + a.sub

/-- Whether `a` is before `b` (R47). -/
def RP.before (a b : RP) : Bool :=
  let d := frameDiff a.frame b.frame
  (d != -2147483648) && (decide (d < 0) || (d == 0 && (decide (a.line < b.line) || (a.line == b.line && decide (a.sub < b.sub)))))

/-- Whether RP `due` has been reached at RP `now`; an unordered RP counts as passed (R47). -/
def RP.reached (now due : RP) : Bool := !(now.before due)

/-- Whether `now` is after `due` or unordered with it (R88). -/
def RP.passed (now due : RP) : Bool := due.before now || now.unordered due

/-- The distance from `b` to `a` in sub LSB (R48). -/
def RP.dist (r : Raster) (a b : RP) : Int :=
  (frameDiff a.frame b.frame * r.lines + a.line - b.line) * 65536 + a.sub - b.sub

/-- The start of frame `f`. -/
def RP.start (f : BitVec 32) : RP := { frame := f, line := 0, sub := 0 }

/-- The RP that lies `n` sub LSB after `a`. -/
def RP.plus (r : Raster) (a : RP) (n : Int) : RP :=
  let t := a.inFrame + n
  let p := (t % (r.frameSub : Int)).toNat
  { frame := a.frame + BitVec.ofInt 32 (t / (r.frameSub : Int)), line := p / 65536, sub := p % 65536 }

/-- The line-and-sub word of an RP (R78). -/
def RP.ls (a : RP) : Nat := 65536 * a.line + a.sub

/-- An RP as 8 little-endian bytes (R79). -/
def RP.bytes (a : RP) : List Byte := leN 4 a.frame.toNat ++ leN 4 a.ls

/-- The RP two words spell: bits 28:16 of the second are the line. -/
def RP.ofWords (f ls : BitVec 32) : RP := { frame := f, line := bitsOf ls.toNat 28 16, sub := bitsOf ls.toNat 15 0 }

/-- No RP: all ones (R88, R399). -/
def noRp : List Byte := List.replicate 8 0xFF

/-- An effect RP in a record. -/
def rpOr (a : Option RP) : List Byte := match a with | some a => a.bytes | none => noRp

/-- The first frame f with RP[f:0:0] at or after `d` (R83). -/
def frameAfter (d : RP) : BitVec 32 := if d.line = 0 ∧ d.sub = 0 then d.frame else d.frame + 1

end Sys2Proof

namespace Sys2Proof.Machine

/-- A clock whose RP lies on its raster (R2). -/
def Clock.ok (c : Clock) : Bool := decide (c.rp.line < c.raster.lines) && decide (c.rp.sub < 65536)

/-- A clock set to an RP of its raster; one off the raster leaves it as it is. -/
def Clock.goTo (c : Clock) (rp : RP) : Clock :=
  if rp.line < c.raster.lines ∧ rp.sub < 65536 then { c with rp := rp, frac := 0 } else c

/-- A clock moved on to an RP, never back: where the RP has passed, it stays (R46). -/
def Clock.reach (c : Clock) (rp : RP) : Clock := if c.rp.before rp then c.goTo rp else c

/-- A clock restarted from RP[0:0:0] on a raster (R46). -/
def Clock.restart (c : Clock) (r : Raster) : Clock :=
  if 0 < r.lines then { rp := RP.start 0, frac := 0, raster := r, hold := none } else c

/-- An instant of a count that has ended at `c`, on the count of raster `r` that starts there (R46): as long before its start. -/
def Clock.rebase (c : Clock) (r : Raster) (p : RP) : RP :=
  RP.plus r (RP.start 0) (-(r.subOf (c.raster.nsOf (RP.dist c.raster c.rp p))))

/-- A clock with a hold begun or ended (R60). -/
def Clock.held (c : Clock) (ns : Option Nat) : Clock := { c with hold := ns }

/-- A clock moved by a time in 2^-16 ns, converted by R48. -/
def Clock.shift (c : Clock) (off16 : Int) : Clock :=
  let t : Int := c.frac + c.raster.subOf off16 * 65536
  { c.goTo (RP.plus c.raster c.rp (t / 2 ^ 32)) with frac := (t % 2 ^ 32).toNat }

/-- One RAST cycle (R45): the RP moves by INC, but not past `stop`, where one is given. -/
def Clock.tick (c : Clock) (stops : List RP) : Clock :=
  let t := c.frac + c.raster.inc
  let rp := RP.plus c.raster c.rp (t / 2 ^ 32)
  if stops.any (fun p => c.rp.before p && !(rp.before p)) then c
  else { c.goTo rp with frac := t % 2 ^ 32 }

/-- The reference RP at PTP time `t` in ns (R49). -/
def ptpRp (r : Raster) (t : Nat) : RP :=
  let u := t * r.num
  let per := 1000000000 * r.den
  let fAll := u / per
  let pos := 65536 * ((u - fAll * per) * r.lines) / per
  { frame := BitVec.ofNat 32 fAll, line := pos / 65536, sub := pos % 65536 }

/-- start_k of R99. -/
def subStart (r : Raster) (phase s k : Nat) : Nat := phase + 65536 * (k * r.lines) / s

end Sys2Proof.Machine
end

