-- ==== Sys2Proof/Machine/Frames.lean ====
section
/-! DEFINITION. Machine/Frames.lean: Silnal frames (R107, R111), their franking (R102, R136, R137), the sequences of a
device's own flows (R132, R134), and handing frames to the ports (R138, R144, R146). -/

namespace Sys2Proof.Machine

/-- Whether the device is in a head role (R13). -/
def Device.isHead (d : Device) : Bool := d.pwr.role != .node

/-- Whether the device lights a tile: a node, or a head and node (R13). -/
def Device.isNode (d : Device) : Bool := d.pwr.role != .head

/-- The reset value of a writable register word that has one other than zero (chapter Set-up register map). -/
def wordReset (a : Nat) : Nat :=
  if a = 0x0C10 then 500 else if a = 0x1410 then 100 else if a = 0x1414 then 10 else if a = 0x2200 then 20
  else if 0x2000 ≤ a ∧ a < 0x2200 ∧ a % 0x40 = 0x24 then 448
  else if a = 0x2830 ∨ a = 0x28B0 then 448
  else if a = 0x3004 then 60 else if a = 0x3008 then 1 else if a = 0x300C then 1125 else if a = 0x3010 then 1000
  else if a = 0x3014 then 4 else if a = 0x3018 then 127 else if a = 0x301C then 3 else if a = 0x3020 then 1
  else if a = 0x302C then 1 else if a = 0x3030 then 2 else if a = 0x3804 then 240 else if a = 0x3814 then 450
  else if a = 0x3850 then 1 else if a = 0x3854 then 240 else if a = 0x3858 then 0x00800000
  else if a = 0x4820 then 500 + 6000 * 65536 else if a = 0x4824 then 50 + 16384 * 65536
  else if a = 0x4830 then 10 else if a = 0x4848 then 0x01400000 else if a = 0x4810 then 0x7FF0
  else if a = 0x50F8 then 60 + 50 * 65536 + 2 ^ 25 else if 0x50C0 ≤ a ∧ a < 0x50F0 ∧ a % 8 = 0 then 1000 else if a = 0x4000 then 1 else 0

/-- The word a register holds. -/
def Device.word (d : Device) (a : Nat) : Nat := (mget d.regs a (BitVec.ofNat 32 (wordReset a))).toNat

/-- A register word set. -/
def Device.setWord (d : Device) (a v : Nat) : Device :=
  { d with regs := mset d.regs a (BitVec.ofNat 32 (wordReset a)) (BitVec.ofNat 32 v) }

/-- A 32-bit counter register raised by `n`, saturating (R534). -/
def Device.bump (d : Device) (a n : Nat) : Device := d.setWord a (satAdd 0xFFFFFFFF (d.word a) n)

/-- A bit field of a register word. -/
def Device.field (d : Device) (a hi lo : Nat) : Nat := bitsOf (d.word a) hi lo

/-- A value outside its range counts as the nearest one within it (R535). -/
def nearest (lo hi v : Nat) : Nat := if v < lo then lo else if hi < v then hi else v

/-- The head index the device was given (R16). -/
def Device.headIndex (d : Device) : Nat := d.field 0x0018 5 0

/-- The node ID in force; 0 while there is none (R111). -/
def Device.nodeNo (d : Device) : Nat := match d.topo.nodeId with | some n => n.toNat | none => 0

/-- Link port `p`. -/
def Device.port (d : Device) (p : Nat) : LinkPort := d.link.getD p {}

/-- A link port changed. -/
def Device.setPort (d : Device) (p : Nat) (f : LinkPort → LinkPort) : Device := { d with link := modAt d.link p f }

/-- The two ports of a pair. -/
def pairOf (p : Nat) : Nat := p / 2

/-- The other port of a port's pair. -/
def otherPort (p : Nat) : Nat := if p % 2 = 0 then p + 1 else p - 1

/-- Counts of a port's statistic classes (R167), kept up to 16. -/
def countStat (d : Device) (p cls : Nat) : Device :=
  if p < 8 then d.setPort p (fun l => { l with stat := modAt l.stat cls (fun n => satAdd 16 n 1) })
  else { d with ing := modAt d.ing (p - 8) (fun l => { l with stat := modAt l.stat cls (fun n => satAdd 16 n 1) }) }

/-- The 2-bit code of a count (R168). -/
def statCode (n : Nat) : Nat := if n = 0 then 0 else if n = 1 then 1 else if n < 16 then 2 else 3

/-- The 16 bits of a port's classes (R167). -/
def statWord (ns : List Nat) : Nat := (List.range 8).foldl (fun w k => w + statCode (nth ns k) * 4 ^ k) 0

/-- A Silnal header (R111). -/
structure Hdr where
  ver     : Nat := 1
  cls     : Nat
  head    : Nat := 0
  dir     : Nat := 0
  bcast   : Bool := false
  stream  : Nat := 0
  origin  : Nat := 0
  restart : Bool := false
  unasg   : Bool := false
  hop     : Nat := 1
  seq     : Nat := 0
  src     : Nat := 0
  dst     : Nat := 0
  stamp   : RP
  len     : Nat := 0
  pair    : Nat := 0
  deriving DecidableEq, Repr

/-- A flag as a number. -/
def bit (b : Bool) : Nat := if b then 1 else 0

/-- A header's 24 bytes. -/
def Hdr.bytes (h : Hdr) : List Byte :=
  beN 1 (h.ver * 16 + h.cls) ++ beN 1 (h.head * 4 + h.dir * 2 + bit h.bcast) ++
  beN 1 (h.stream * 16 + h.origin * 8 + bit h.restart * 4 + bit h.unasg * 2) ++ beN 1 h.hop ++ beN 4 h.seq ++
  beN 2 h.src ++ beN 2 h.dst ++ beN 4 h.stamp.frame.toNat ++ beN 4 h.stamp.ls ++ beN 2 h.len ++ beN 2 h.pair

/-- The header that 24 bytes spell; reserved bits are ignored (R7). -/
def hdrOf (b : List Byte) : Hdr :=
  { ver := be b 0 1 / 16, cls := be b 0 1 % 16, head := be b 1 1 / 4, dir := bitAt (be b 1 1) 1,
    bcast := hasBit (be b 1 1) 0, stream := be b 2 1 / 16, origin := bitAt (be b 2 1) 3, restart := hasBit (be b 2 1) 2,
    unasg := hasBit (be b 2 1) 1, hop := be b 3 1, seq := be b 4 4, src := be b 8 2 % 4096, dst := be b 10 2 % 4096,
    stamp := { frame := BitVec.ofNat 32 (be b 12 4), line := bitsOf (be b 16 4) 28 16, sub := be b 16 4 % 65536 },
    len := be b 20 2, pair := be b 22 2 % 4 }

/-- The destination address of R107. -/
def silnalDst : List Byte := [0x03, 0x5A, 0x4C, 0x00, 0x00, 0x01]

/-- The header of a received frame. -/
def rxHdr (f : RxFrame) : Hdr := hdrOf (cut f.bytes 14 24)

/-- The payload a received frame's header counts. -/
def rxPayload (f : RxFrame) : List Byte := cut f.bytes 38 (rxHdr f).len

/-- The IV of a frame (R136). -/
def frankIv (h : Hdr) : List Byte :=
  beN 1 (h.cls + 16 * h.origin + 32 * h.dir + 64 * bit h.unasg + 128 * bit h.bcast) ++ beN 1 (h.head + 64 * h.pair) ++
  beN 2 h.src ++ beN 2 (if h.bcast then 0 else h.dst) ++ zeros 2 ++ beN 4 h.seq ++ beN 4 h.stamp.frame.toNat

/-- Header, payload and pad with the bytes that change at every hop taken as zero (R136). -/
def frankData (h : Hdr) (hdr payload pad : List Byte) : List Byte :=
  let p := if h.cls = 3 ∧ be payload 0 1 = 0 then payload.take 32 ++ zeros 16 ++ payload.drop 48 else payload
  hdr.take 3 ++ [0] ++ hdr.drop 4 ++ p ++ pad

/-- The key that serves a stamp's frame (R102, R103, R495): from a rollover point on the next slot's, where it holds the
generation expected; none while the current slot is empty (R137). -/
def keyFor (d : Device) (stamp : BitVec 32) : Option LinkKey :=
  match d.sec.cur with
  | none => none
  | some cur =>
    match (match d.sched.rolling with | some r => some r | none => d.sched.roll) with
    | some r =>
      if 0 ≤ frameDiff stamp r.k then
        (match d.sec.next with | some k => if k.gen = r.gen then some k else some cur | none => some cur)
      else some cur
    | none => some cur

/-- The franking tag of a frame this device sends; all zeros where its current slot is empty (R137). -/
def frankTag (d : Device) (h : Hdr) (hdr payload pad : List Byte) : List Byte :=
  match keyFor d h.stamp.frame with
  | some k => gmac64 k.key (frankIv h) (frankData h hdr payload pad)
  | none => zeros 8

/-- Whether a received frame's franking tag is good (R137). -/
def frankGood (d : Device) (f : RxFrame) : Bool :=
  let h := rxHdr f
  let n := f.bytes.length
  if frameDiff h.stamp.frame d.clk.rp.frame = -2147483648 then false
  else match keyFor d h.stamp.frame with
    | some k =>
      gmac64 k.key (frankIv h) (frankData h (cut f.bytes 14 24) (rxPayload f) (cut f.bytes (38 + h.len) (n - 50 - h.len)))
        == cut f.bytes (n - 12) 8
    | none => false

/-- A device's source address on a port (R107). -/
def srcAddr (d : Device) (p : Nat) : List Byte :=
  [0x02, 0x5A, 0x4C] ++ beN 1 p ++ beN 2 (d.nodeNo + (if d.topo.nodeId.isNone then 0x8000 else 0))

/-- A whole frame: envelope, header, payload, pad, tag and FCS (R107). -/
def sealFrame (d : Device) (p : Nat) (h : Hdr) (payload : List Byte) : TxFrame :=
  let h := { h with len := payload.length }
  let pad := zeros (14 - payload.length)
  let body := silnalDst ++ srcAddr d p ++ [0x88, 0xB5] ++ h.bytes ++ payload ++ pad ++ frankTag d h h.bytes payload pad
  { port := p, bytes := body ++ fcs body }

/-- The key of a flow's numbering (R132). -/
def flowKey (cls origin pair : Nat) : Nat := cls * 8 + origin * 4 + pair

/-- The next sequence of a flow, as a number of frames originated since reset (R132). -/
def nextSeq (d : Device) (cls origin pair : Nat) : Nat := mget d.flows.next (flowKey cls origin pair) 0

/-- A flow after one more frame. -/
def usedSeq (d : Device) (cls origin pair : Nat) : Device :=
  let k := flowKey cls origin pair
  { d with flows := { d.flows with next := mset d.flows.next k 0 (mget d.flows.next k 0 + 1) } }

/-- A header numbered within its flow (R132, R134). -/
def numbered (h : Hdr) (n : Nat) : Hdr := { h with seq := n % 2 ^ 32, restart := decide (n < 64) }

/-- A frame that leaves a port. A port that is down sends none; one in low-power idle holds it for its wake (R150,
R166). -/
def tx (d : Device) (f : TxFrame) : Device :=
  if f.port < 8 then
    let l := d.port f.port
    if !l.up then d
    else if l.lpiTx then d.setPort f.port (fun l => { l with held := l.held ++ [f] })
    else { d with sent := d.sent ++ [f] }
  else { d with sent := d.sent ++ [f] }

/-- Whether a head's own insertion interval on a port still runs (R145). -/
def silent (d : Device) (p : Nat) : Bool :=
  match (d.port p).quietTo with | some e => d.clk.rp.before e | none => false

/-- Frames a head kept back on a port during its own insertion interval leave once that has ended, in order (R144). -/
def releasePort (d : Device) (p : Nat) : Device :=
  if silent d p then d
  else
    let ws := (d.port p).backlog
    ws.foldl (fun d w => tx d w.frame) (d.setPort p (fun l => { l with backlog := [], quietTo := none }))

/-- The same on every link port of a head. -/
def releasePorts (d : Device) : Device := if d.isHead then (List.range 8).foldl releasePort d else d

/-- An own frame handed to a port (R144 to R146). While one direction's backlog is reported, a node's frame for both directions goes
the other way only, unless both are (DESIGN CHOICE, log entry 104); frames of up to 128 bytes leave at once, larger ones wait for an
insertion interval. A head sends nothing on a direction during its own insertion interval there. -/
def sendOwn (d : Device) (f : TxFrame) (twin : Bool) (proof : Option (BitVec 32)) : Device :=
  let other := (d.port (otherPort f.port)).reported
  let keep := fun (d : Device) (twin : Bool) =>
    d.setPort f.port (fun l => { l with backlog := l.backlog ++ [{ frame := f, twin := twin, proof := proof }] })
  if d.isHead then
    (let d := releasePort d f.port
     if silent d f.port then keep d false else tx d f)
  else if twin && (d.port f.port).reported && !other then d
  else if f.bytes.length ≤ 128 then tx d f
  else keep d (twin && !other)

/-- The port of a pair from which frames of a direction leave a node (R23, R138). -/
def outPort (d : Device) (pair dir : Nat) : Option Nat :=
  if (d.port (2 * pair)).dir = some (1 - dir) then some (2 * pair)
  else if (d.port (2 * pair + 1)).dir = some (1 - dir) then some (2 * pair + 1)
  else if (d.port (2 * pair)).dir = some dir then some (2 * pair + 1)
  else if (d.port (2 * pair + 1)).dir = some dir then some (2 * pair)
  else none

/-- The direction in which a frame leaves by a port (R20, R23): A by an even port of a head and B by an odd one; at a node the one it
has learnt for the pair, else as at a head (DESIGN CHOICE, log entry 133). -/
def sendDir (d : Device) (p : Nat) : Nat :=
  if d.isHead then p % 2
  else match (d.port p).dir, (d.port (otherPort p)).dir with
    | some r, _ => 1 - r
    | none, some r => r
    | none, none => p % 2

/-- What a node holds of one direction of a pair. -/
def dirOf (d : Device) (pair dir : Nat) : DirTime := d.tim.dirs.getD (2 * pair + dir) {}

/-- The pairs a node uses (R24). -/
def nodePairs (d : Device) : List Nat :=
  match d.topo.record with
  | some r => (List.range 4).filter (fun p => nth r.rings p != 0xFFFF)
  | none => []

/-- The head, by index and node ID, at which direction `dir` of a pair ends (R138): the one that sends the other direction; one
that has not been heard is taken to be the only one heard, as on a single-head ring (DESIGN CHOICE, log entry 105). -/
def endOf (d : Device) (pair dir : Nat) : Option (Nat × Nat) :=
  match d.topo.ends.getD (2 * pair + (1 - dir)) none with
  | some e => some e
  | none => d.topo.ends.getD (2 * pair + dir) none

/-- One copy of a node's ORIGIN 1 frame in direction `dir` of a pair, addressed to the head at which it ends (R138); the payload
may name that head's node ID. -/
def nodeCopy (cls : Nat) (payload : Nat → List Byte) (stamp : RP) (twin : Bool) (proof : Option (BitVec 32))
    (n pair dir : Nat) (d : Device) : Device :=
  match outPort d pair dir, endOf d pair dir with
  | some p, some (head, node) =>
    let h : Hdr := { cls := cls, head := head, dir := dir, origin := 1, src := d.nodeNo, dst := node, stamp := stamp, pair := pair }
    sendOwn d (sealFrame d p (numbered h n) (payload node)) twin proof
  | _, _ => d

/-- A node's numbered ORIGIN 1 frame, once in each direction of each of its rings (R24, R138). -/
def nodeSendBy (cls : Nat) (payload : Nat → List Byte) (stamp : RP) (proof : Option (BitVec 32)) (d : Device) : Device :=
  (nodePairs d).foldl (fun d pair =>
    let n := nextSeq d cls 1 pair
    usedSeq (nodeCopy cls payload stamp true proof n pair 1 (nodeCopy cls payload stamp true proof n pair 0 d)) cls 1 pair) d

/-- The same with one payload for every head. -/
def nodeSend (cls : Nat) (payload : List Byte) (stamp : RP) (proof : Option (BitVec 32)) (d : Device) : Device :=
  nodeSendBy cls (fun _ => payload) stamp proof d

/-- The rings of a map that this head feeds: ring number, ring, its pair here, and whether it is head X. -/
def headRings (d : Device) (m : SysMap) : List (Nat × RingEntry × Nat × Bool) :=
  (m.rings.zipIdx).flatMap (fun (r, i) =>
    (if r.headX = d.headIndex then [(i, r, r.pairX, true)] else []) ++
    (if r.dual && (r.headY = d.headIndex) then [(i, r, r.pairY, false)] else []))

/-- The (port, direction) pairs on which a head sends on a ring (R138). -/
def headOuts (r : RingEntry) (pair : Nat) (isX : Bool) : List (Nat × Nat) :=
  if r.dual then (if isX then [(2 * pair, 0)] else [(2 * pair + 1, 1)]) else [(2 * pair, 0), (2 * pair + 1, 1)]

/-- The closing-link port of a head on a dual-head ring (R20, R139). -/
def closingPort (r : RingEntry) (pair : Nat) (isX : Bool) : Option Nat :=
  if r.dual then some (if isX then 2 * pair + 1 else 2 * pair) else none

/-- The map a head goes by: the one in force, or the one it is loading (R139). -/
def mapKnown (d : Device) : Option SysMap :=
  match d.topo.map with
  | some m => some m
  | none => match d.topo.load with | some l => l.map | none => none

/-- A head's numbered ORIGIN 0 frame on one ring, in every direction it sends there. -/
def headSend (cls : Nat) (bcast : Bool) (dst : Nat) (payload : List Byte) (stamp : RP) (r : RingEntry) (pair : Nat)
    (isX : Bool) (d : Device) : Device :=
  let n := nextSeq d cls 0 pair
  usedSeq ((headOuts r pair isX).foldl (fun d (p, dir) =>
    let h : Hdr := { cls := cls, head := d.headIndex, dir := dir, bcast := bcast, src := d.nodeNo, dst := dst,
                     stamp := stamp, pair := pair }
    sendOwn d (sealFrame d p (numbered h n) payload) false none) d) cls 0 pair

end Sys2Proof.Machine
end

