-- ==== Sys2Proof/Machine/Ops.lean ====
section
/-! DEFINITION. Machine/Ops.lean: the operations every family shares: notices and the event ring (R400, R407, R412),
completions (R399), one-second windows (R578), watermarks (R410, R411), and how a command changes the device. -/

namespace Sys2Proof.Machine

/-- A step's outcome. -/
abbrev Result := Host.Outcome State Fault Refusal

/-- A device with the raster clock of another. -/
def keepClk (d d' : Device) : Device := { d' with clk := d.clk }

/-- A change that leaves the raster clock alone. -/
def quiet (f : Device → Device) (d : Device) : Device := keepClk d (f d)

/-- A command that leaves the raster clock alone: everything else is as `f` says. -/
def act (f : Device → Device) (s : State) : Result := .next { s with dev := quiet f s.dev }

/-- A command of the time base, which may move the raster clock. -/
def clocked (f : Device → Device) (s : State) : Result := .next { s with dev := f s.dev }

/-- A device changed where a condition holds. -/
def when (c : Bool) (f : Device → Device) (d : Device) : Device := if c then f d else d

/-- Slots of the event ring. -/
def evtSlots (d : Device) : Nat := 2 ^ d.hif.ring.evtLog2

/-- Whether the device writes records: its rings have started and are enabled (R391, R396). -/
def served (d : Device) : Bool := d.hif.started && d.hif.ring.enable

/-- Whether the event ring has room at E (R393). -/
def evtRoom (d : Device) : Bool := decide ((d.hif.e - d.hif.c).toNat < evtSlots d)

/-- An MSI-X vector due at the end of the round (R415). -/
def vector (v : Nat) (d : Device) : Device :=
  if d.isHead && !hasBit d.hif.msix v then { d with hif := { d.hif with msix := d.hif.msix + 2 ^ v } } else d

/-- Bytes the device writes into host memory. -/
def hostWrite (addr : Nat) (bytes : List Byte) (d : Device) : Device :=
  { d with host := d.host ++ [{ addr := addr, bytes := bytes }] }

/-- Whether a node may send a record for the slot at `addr` (R408): 2 ms have passed since it last did. -/
def slotReady (d : Device) (addr : Nat) : Bool :=
  match mfind d.hif.posted addr with
  | some t => decide (2000000 ≤ d.clk.raster.nsOf (RP.dist d.clk.raster d.clk.rp t))
  | none => true

/-- A node's POST (R407). -/
def post (addr : Nat) (bytes : List Byte) (d : Device) : Device :=
  nodeSend 8 ([3, 0] ++ beN 2 bytes.length ++ beN 4 0 ++ beN 8 addr ++ bytes) d.clk.rp none
    { d with hif := { d.hif with posted := mins d.hif.posted addr d.clk.rp } }

/-- Records written to host memory: by a head itself, by a node in a POST (R407), once its slot is ready (R408). -/
def writeOut (addr : Nat) (bytes : List Byte) (d : Device) : Device :=
  if d.isHead then hostWrite addr bytes d
  else if slotReady d addr then post addr bytes d
  else { d with hif := { d.hif with toPost := d.hif.toPost ++ [{ addr := addr, bytes := bytes }] } }

/-- The records that waited for their slots, in order (R408): they leave at the next frame boundary or NOTICE_REPOST (DESIGN CHOICE, log
entry 164). -/
def flushPosts (d : Device) : Device :=
  d.hif.toPost.foldl (fun d w => writeOut w.addr w.bytes d)
    { d with hif := { d.hif with toPost := [], posted := d.hif.posted.filter (fun x => !(slotReady d x.1)) } }

/-- A notice record's 32 bytes (R400). -/
def noticeBytes (d : Device) (n : Notice) (pos : BitVec 32) : List Byte :=
  leN 2 n.code.toNat ++ leN 2 d.nodeNo ++ fit 24 n.payload ++ leN 4 pos.toNat

/-- The host address of position `pos` of the event ring. -/
def evtAddr (d : Device) (pos : BitVec 32) : Nat := d.hif.ring.evtBase + 32 * (pos.toNat % evtSlots d)

/-- A notice written at E; a node keeps it until C passes it (R407). -/
def writeNotice (n : Notice) (d : Device) : Device :=
  let e := d.hif.e
  let d := writeOut (evtAddr d e) (noticeBytes d n e) d
  let d := { d with hif := { d.hif with e := e + 1,
                                        unacked := if d.isHead then [] else d.hif.unacked ++ [{ pos := e, notice := n }] } }
  let d := vector 1 d
  if n.code.toNat = 1 ∨ n.code.toNat = 6 then vector 5 d else d

/-- EVENTS_LOST, with the number dropped and the RP of the first drop. -/
def eventsLost (d : Device) : Notice :=
  { code := 3, payload := leN 4 d.hif.dropped ++ rpOr d.hif.dropFirst }

/-- Kept notices written while there is room, at most `n` of them. -/
def flushKept : Nat → Device → Device
  | 0, d => d
  | n + 1, d =>
    match d.hif.kept with
    | k :: r => if evtRoom d then flushKept n (writeNotice k { d with hif := { d.hif with kept := r } }) else d
    | [] => d

/-- Room has returned (R400): the kept notices, then EVENTS_LOST. -/
def flushEvents (d : Device) : Device :=
  if served d then
    let d := flushKept 64 d
    if d.hif.kept.isEmpty && decide (0 < d.hif.dropped) && evtRoom d then
      writeNotice (eventsLost d) { d with hif := { d.hif with dropped := 0, dropFirst := none } }
    else d
  else d

/-- A notice for the event ring (R400): written at once, kept, or dropped and counted; while an EVENTS_LOST is owed, those that come
are among the dropped (DEDUCED, log entry 163). -/
def record (n : Notice) (d : Device) : Device :=
  if served d && d.hif.kept.isEmpty && (d.hif.dropped == 0) && evtRoom d then writeNotice n d
  else if decide (d.hif.kept.length < 64) && (d.hif.dropped == 0) then
    { d with hif := { d.hif with kept := d.hif.kept ++ [n] } }
  else { d with hif := { d.hif with dropped := satAdd 0xFFFFFFFF d.hif.dropped 1,
                                    dropFirst := some (d.hif.dropFirst.getD d.clk.rp) } }

/-- A notice reported. -/
def raise (code : Nat) (payload : List Byte) (d : Device) : Device :=
  let n : Notice := { code := BitVec.ofNat 16 code, payload := payload }
  record n { d with notes := d.notes ++ [n] }

/-- The position a notice raised now takes, or that of the EVENTS_LOST that will account for it (R411). -/
def nextPos (d : Device) : BitVec 32 := d.hif.e + BitVec.ofNat 32 d.hif.kept.length

/-- HIF_SORT_WINDOW in ms (R389, R412). -/
def sortWindow (d : Device) : Nat := nearest 1 1000 (d.field 0x1414 9 0)

/-- Whether a report's window is still open (R412). -/
def inWindow (d : Device) (r : Report) : Bool :=
  decide (d.clk.raster.nsOf (RP.dist d.clk.raster d.clk.rp r.first) < sortWindow d * 1000000)

/-- A notice of R412: a node raises it as a fault report of its next reply card, once per key and window; a head writes
its record. -/
def report (kind : Nat) (subject : Option (BitVec 12)) (code : Nat) (payload : List Byte) (d : Device) : Device :=
  if d.isHead then raise code payload d
  else
    let k := BitVec.ofNat 8 kind
    if d.hif.repWins.any (fun r => r.kind == k && r.subject == subject && inWindow d r) then d
    else
      let r : Report := { kind := k, subject := subject, first := d.clk.rp }
      { d with hif := { d.hif with
          reports := d.hif.reports ++ [r],
          repWins := d.hif.repWins.filter (fun x => !(x.kind == k && x.subject == subject)) ++ [r] } }

/-- A completion record's 64 bytes (R399). -/
def completionBytes (c : Completion) : List Byte :=
  leN 1 c.opcode.toNat ++ leN 1 c.status.toNat ++ zeros 2 ++ leN 4 c.tag.toNat ++ rpOr c.effect ++ fit 32 c.result ++
  leN 4 c.seqWord.toNat ++ zeros 8 ++ leN 4 c.position.toNat

/-- The completion of a command (R395, R399). -/
def complete (op : Nat) (c : Cmd) (status : Nat) (effect : Option RP) (result : List Byte) (d : Device) : Device :=
  let r : Completion := { opcode := BitVec.ofNat 8 op, status := BitVec.ofNat 8 status, tag := c.tag, effect := effect,
                          result := result, seqWord := c.seqWord, position := c.position }
  let d := { d with comps := d.comps ++ [r] }
  if d.hif.ring.enable then
    vector 0 (writeOut (d.hif.ring.cplBase + 64 * (c.position.toNat % 2 ^ d.hif.ring.cmdLog2)) (completionBytes r) d)
  else d

/-- EVENT_LATE (R88, R106): an R412 notice whose subject is the receiving head. -/
def eventLate (op : Nat) (c : Cmd) (effect : Option RP) (d : Device) : Device :=
  report 6 none 0x0110 (leN 1 op ++ zeros 3 ++ leN 4 c.tag.toNat ++ leN 4 c.dueFrame.toNat ++ leN 4 c.dueLs.toNat ++
    rpOr effect) d

/-- A command that took effect: OK, or OK_LATE with EVENT_LATE (R88). -/
def finish (op : Nat) (c : Cmd) (effect : RP) (result : List Byte) (d : Device) : Device :=
  let d := complete op c (if c.late then 1 else 0) (some effect) result d
  when c.late (eventLate op c (some effect)) d

/-- A command refused with a status and a reason, without effect. -/
def refuse (op : Nat) (c : Cmd) (status : Nat) (reason : List Byte) (d : Device) : Device :=
  complete op c status none reason d

/-- The effect RP of a BOUNDARY or DISPLAY command: the boundary of its frame (R88). -/
def boundaryRp (d : Device) : RP := RP.start d.clk.rp.frame

/-- An operand byte of a command. -/
def opB (c : Cmd) (off : Nat) : Nat := le c.ops off 1

/-- An operand field of `n` bytes. -/
def opN (c : Cmd) (off n : Nat) : Nat := le c.ops off n

/-- An event of a one-second window (R578): it opens a window, or adds to the one open. -/
def rateEvent (code subject : Nat) (detail tail : List Byte) (n : Nat) (allOnes : Bool) (d : Device) : Device :=
  let k := BitVec.ofNat 16 code
  if d.hif.wins.any (fun w => w.code == k && w.subject == subject) then
    { d with hif := { d.hif with wins := d.hif.wins.map (fun w =>
        if w.code == k && w.subject == subject then
          { w with count := satAdd 0xFFFFFFFF w.count n, allOnes := w.allOnes || allOnes } else w) } }
  else
    let w : RateWin := { code := k, subject := subject, detail := detail, tail := tail, count := satAdd 0xFFFFFFFF 0 n,
                         allOnes := allOnes }
    { d with hif := { d.hif with wins := d.hif.wins ++ [w] } }

/-- The watermarks: 0 the schedule, 1 to 8 the link queues, 9 and 10 the ingest queues, 11 the frame store, 12 the graph
load, 13 the pixels at their wear limit. -/
def wmGet (d : Device) (i : Nat) : Watermark :=
  if i = 0 then d.sched.high
  else if i ≤ 8 then (d.port (i - 1)).queue.high
  else if i ≤ 10 then (d.ing.getD (i - 9) {}).queue.high
  else if i = 11 then d.pxl.storeMark
  else if i = 12 then d.pxl.load
  else d.corr.limit

/-- A watermark put back. -/
def wmPut (d : Device) (i : Nat) (w : Watermark) : Device :=
  if i = 0 then { d with sched := { d.sched with high := w } }
  else if i ≤ 8 then d.setPort (i - 1) (fun l => { l with queue := { l.queue with high := w } })
  else if i ≤ 10 then { d with ing := modAt d.ing (i - 9) (fun l => { l with queue := { l.queue with high := w } }) }
  else if i = 11 then { d with pxl := { d.pxl with storeMark := w } }
  else if i = 12 then { d with pxl := { d.pxl with load := w } }
  else { d with corr := { d.corr with limit := w } }

/-- A watermark's notice code. -/
def wmCode (i : Nat) : Nat :=
  if i = 0 then 0x0111 else if i ≤ 10 then 0x1032 else if i = 11 then 0x30F0 else if i = 12 then 0x30E2 else 0x3014

/-- The bytes before the watermark fields: the port of a queue. -/
def wmPre (i : Nat) : List Byte := if 1 ≤ i ∧ i ≤ 10 then leN 1 (i - 1) ++ zeros 3 else []

/-- The mark a watermark's setting gives (R86, R233, R254, R298). -/
def wmMark (d : Device) (i : Nat) : Nat :=
  if i = 0 then 768
  else if i ≤ 8 then nearest 32 608 (d.field (0x2000 + 0x40 * (i - 1) + 0x24) 9 0)
  else if i ≤ 10 then nearest 32 608 (d.field (0x2830 + 0x80 * (i - 9)) 9 0)
  else if i = 11 then nearest 1 256 (d.field 0x3804 8 0)
  else if i = 12 then nearest 1 1000 (d.field 0x3814 9 0)
  else nearest 1 393216 (d.field 0x3850 18 0)

/-- A watermark notice (R410). -/
def wmNotice (i : Nat) (w : Watermark) (level count flags : Nat) (d : Device) : Device :=
  raise (wmCode i) (wmPre i ++ leN 4 w.mark ++ leN 4 level ++ leN 4 w.peak ++ leN 1 count ++ leN 1 flags) d

/-- A sample of a watched level (R411, steps 1 and 2). -/
def sample (i level : Nat) (d : Device) : Device :=
  let w := wmGet d i
  let w := { w with mark := if w.armed then wmMark d i else w.mark, peak := max w.peak level, level := level }
  let crossing := w.below && decide (w.mark ≤ level)
  let w := { w with below := decide (level < w.mark) }
  if crossing && w.armed then
    wmPut (wmNotice i w level 1 0 d) i { w with armed := false, note := some (nextPos d), peak := level }
  else if crossing then wmPut d i { w with shadow := satAdd 255 w.shadow 1, cross := level }
  else wmPut d i w

/-- A sample of the schedule's occupancy (R86). -/
def sampleSched (level : Nat) (d : Device) : Device := sample 0 level d

/-- A sample of the frame store's groups in use (R233). -/
def sampleStore (level : Nat) (d : Device) : Device := sample 11 level d

/-- A sample of the graph load (R254). -/
def sampleLoad (level : Nat) (d : Device) : Device := sample 12 level d

/-- A sample of the pixels at their wear limit (R298). -/
def sampleLimit (level : Nat) (d : Device) : Device := sample 13 level d

/-- A watermark notice acknowledged (R411, steps 3 and 4). -/
def wmAck (i : Nat) (d : Device) : Device :=
  let w := wmGet d i
  if w.armed then d
  else if 0 < w.shadow then
    wmPut (wmNotice i w w.cross w.shadow 1 d) i { w with shadow := 0, note := some (nextPos d), peak := w.level }
  else wmPut d i { w with armed := true, note := none, mark := wmMark d i,
                          below := decide (w.level < wmMark d i) }

/-- C has moved: watermark notices it has passed are acknowledged (R411). -/
def ackMarks (d : Device) : Device :=
  (List.range 14).foldl (fun d i =>
    match (wmGet d i).note with
    | some p => if 0 < frameDiff d.hif.c p then wmAck i d else d
    | none => d) d

/-- Every watermark notice acknowledged, as a start of the rings does (R396). -/
def ackAllMarks (d : Device) : Device :=
  (List.range 14).foldl (fun d i => if (wmGet d i).armed then d else wmAck i d) d

/-- The event consumer index C seen (R393, R400, R407, R411); one that gives more pending entries than the ring holds is
invalid and is reported once per value. -/
def seeC (c : BitVec 32) (d : Device) : Device :=
  if evtSlots d < (d.hif.e - c).toNat then
    if d.hif.badE = some c then d
    else raise 1 ([1, 0] ++ zeros 2 ++ leN 4 c.toNat) { d with hif := { d.hif with badE := some c } }
  else
    let d := { d with hif := { d.hif with c := c, badE := none,
                                          unacked := d.hif.unacked.filter (fun r => decide (frameDiff c r.pos ≤ 0)) } }
    ackMarks (flushEvents d)

/-- A value the spec leaves open taken at this step: the device with the count of such values advanced, and the value. -/
def freeNext (d : Device) : Nat × Device :=
  (Config.freeValue d.tim.fresh, { d with tim := { d.tim with fresh := d.tim.fresh + 1 } })

end Sys2Proof.Machine
end

