-- ==== Sys2Proof/Machine/Idle.lean ====
section
/-! DEFINITION. Machine/Idle.lean: the presentation settings in force (R90) and what a RAST cycle does while no command
waits (R45). -/

namespace Sys2Proof.Machine

/-- Half the lines of a raster, rounded down. -/
def halfLines (r : Raster) : Nat := r.lines / 2

/-- The cut-off line C in force: a node's from its assignment, a head's from TIM_PRESENT (R90). -/
def cutLine (d : Device) : Nat :=
  if d.pwr.role = .node then (if d.tim.presentC = 0 then d.clk.raster.lines / 4 else d.tim.presentC)
  else
    let c := d.field 0x3030 28 16
    if c = 0 then d.clk.raster.lines / 4 else c

/-- The presentation offset P in force (R90). -/
def presentP (d : Device) : Nat := if d.pwr.role = .node then d.tim.presentP else d.field 0x3030 2 0

/-- The instants of the present frame that a row of the table marks: the boundary, the cut-off and the deadline. -/
def instants (d : Device) : List RP :=
  let f := d.clk.rp.frame
  [{ frame := f, line := cutLine d, sub := 0 }, { frame := f, line := d.clk.raster.lines - 1, sub := 0 }, RP.start (f + 1)]

/-- One RAST cycle with no command waiting (R45): the RP runs on, unless the device is in reset or hibernating or a backward
step holds it (R60). It stops short of the instants that have rows of their own. -/
def idle (d : Device) : Device :=
  if d.pwr.inReset || d.pwr.powerOff || d.clk.hold.isSome then d else { d with clk := d.clk.tick (instants d) }

end Sys2Proof.Machine
end

