-- ==== Sys2Proof/Machine/Consist.lean ====
section
/-! DEFINITION. Machine/Consist.lean: the payloads of Silnal frames and their consistency, class by class (check 6 of R114;
R115 to R131). -/

namespace Sys2Proof.Machine

/-- Components per pixel of a layout (R116). -/
def comps (layout : Nat) : Nat := if layout = 0 then 3 else if layout = 1 then 4 else if layout = 2 then 2 else 1

/-- A slice header (R115). -/
structure SliceHdr where
  layer  : Nat
  first_ : Bool
  last_  : Bool
  layout : Nat
  bits   : Nat
  rectW  : Nat
  rectH  : Nat
  first  : Nat
  count  : Nat
  bytes  : Nat
  index  : Nat
  gen    : BitVec 32
  deriving DecidableEq, Repr

/-- The slice header that 26 bytes spell. -/
def sliceHdr (b : List Byte) : SliceHdr :=
  { layer := be b 0 1 % 8, first_ := hasBit (be b 1 1) 0, last_ := hasBit (be b 1 1) 1, layout := be b 2 1 / 16, bits := be b 3 1,
    rectW := be b 4 2, rectH := be b 6 2, first := be b 8 4, count := be b 12 2, bytes := be b 14 2, index := be b 16 4,
    gen := BitVec.ofNat 32 (be b 20 4) }

/-- Whether a bit count is one of the depths. -/
def depthOk (b : Nat) : Bool := b == 8 || b == 10 || b == 12 || b == 16

/-- Consistency of a PIX_SLICE (R115, R117, R133). -/
def sliceGood (h : Hdr) (b : List Byte) : Bool :=
  let s := sliceHdr b
  decide (s.layout ≤ 3) && depthOk s.bits && decide (1 ≤ s.rectW) && decide (s.rectW ≤ 8192) && decide (1 ≤ s.rectH) &&
  decide (s.rectH ≤ 4320) && decide (1 ≤ s.count) && decide (1 ≤ s.bytes) && decide (s.bytes ≤ 8192) &&
  s.bytes == ceilDiv (s.count * comps s.layout * s.bits) 8 && h.len == 26 + s.bytes &&
  decide (s.first + s.count ≤ s.rectW * s.rectH) && (s.first_ == (s.first == 0)) &&
  (s.last_ == (s.first + s.count == s.rectW * s.rectH)) &&
  (s.layout != 2 || (s.first % 2 == 0 && s.count % 2 == 0)) && decide (h.seq < 8192)

/-- Whether a CTRL frame has an operation. -/
def ctrlIs (op : Nat) (h : Hdr) (b : List Byte) : Bool := h.cls == 2 && be b 0 1 == op

/-- The shape of a READ, WRITE, READ_RESP or WRITE_ACK (R119): its ORIGIN, its status, and at least `least` entries. -/
def ctrlShape (origin least : Nat) (h : Hdr) (b : List Byte) : Bool :=
  h.origin == origin && decide (be b 1 1 ≤ 3 * origin) && !h.bcast && decide (least ≤ be b 2 2) && decide (be b 2 2 ≤ 256) && h.len == 8 + 8 * be b 2 2

/-- A node-table record (R31), little-endian in a map, big-endian in an ASSIGN. -/
def readNode (num : Nat → Nat → Nat) (fp : List Byte) : NodeRecord :=
  { nodeId := BitVec.ofNat 12 (num 0 2), role := num 2 1, headIndex := num 3 1, fingerprint := fp,
    rings := [num 0x0C 2, num 0x0E 2, num 0x10 2, num 0x12 2], regionX := num 0x14 4 % 2 ^ 20,
    regionY := num 0x18 4 % 2 ^ 20, width := num 0x1C 2, height := num 0x1E 2, primaries := num 0x20 1,
    sliceBits := num 0x21 1, layers := num 0x22 1, dmxMask := num 0x24 2 }

/-- The record of an ASSIGN (R121). -/
def assignNode (b : List Byte) : NodeRecord := readNode (fun o n => be b o n) (cut b 4 8)

/-- The ranges of a node record (R31). -/
def nodeRanges (n : NodeRecord) : Bool :=
  decide (n.role ≤ 2) && (n.role == 0 || decide (n.headIndex ≤ 63)) && decide (n.width ≤ 1024) && decide (n.height ≤ 512) &&
  (n.primaries == 3 || n.primaries == 4) && [8, 10, 12, 16].contains n.sliceBits && decide (2 ≤ n.layers) &&
  decide (n.layers ≤ 8)

/-- The ranges of an ASSIGN (R121). -/
def assignGood (d : Device) (h : Hdr) (b : List Byte) : Bool :=
  let p := be b 0x48 1
  let c := be b 0x4A 2
  h.origin == 0 && h.bcast && be b 1 1 == 0 && be b 2 2 == 0 && h.len == 80 && decide (2 ≤ p) && decide (p ≤ 4) && decide (1 ≤ c) &&
  decide (c ≤ halfLines d.clk.raster) && nodeRanges (assignNode (cut b 0x10 48)) &&
  decide (be b 0x10 2 < 65536)

/-- Whether a PARTNER frame is consistent (R114, R119, R122). -/
def partnerGood (h : Hdr) (b : List Byte) : Bool := h.origin == 0 && !h.bcast && be b 1 1 == 0 && be b 2 2 == 0 && h.len == 120

/-- Whether a byte is two BCD digits. -/
def bcd (v : Nat) : Bool := decide (v / 16 ≤ 9) && decide (v % 16 ≤ 9)

/-- Whether an LTC label is in its coding (R123): BCD with the drop-frame flag in bit 6 of its last byte, or all ones. -/
def labelGood (v : Nat) : Bool :=
  v == 0xFFFFFFFF || (bcd (v / 2 ^ 24) && bcd (v / 65536 % 256) && bcd (v / 256 % 256) && bcd (v % 64) && decide (v % 256 < 128))

/-- Whether a TIME payload's kind, hop count and coded fields are good (R123, R124, check 6 of R114). -/
def timeShape (h : Hdr) (b : List Byte) : Bool :=
  if be b 0 1 = 0 then
    h.hop != 0 && decide (be b 1 1 % 16 ≤ 5) && decide (bitsOf (be b 1 1) 5 4 ≤ 2) && labelGood (be b 28 4)
  else decide (be b 0 1 ≤ 2) && h.hop == 0

/-- Whether a reply card is consistent (R125; check 6 of R114): its coded fields, its length, and in each fault report the kind
and a first RP that lies on the raster (R2). -/
def cardGood (r : Raster) (b : List Byte) : Bool :=
  let n := be b 0x4A 1
  b.length == 76 + 12 * n && decide (n ≤ 16) && decide (be b 0 1 ≤ 2) && decide (be b 1 1 ≤ 2) && decide (be b 3 1 % 16 ≤ 5) &&
  decide (be b 0x0E 1 ≤ 4) &&
  (List.range n).all (fun i => decide (1 ≤ be b (78 + 12 * i) 1) && decide (be b (78 + 12 * i) 1 ≤ 14) &&
    decide (bitsOf (be b (84 + 12 * i) 4) 28 16 < r.lines))

/-- Whether a MAILBAG is consistent (R128). -/
def mailGood (h : Hdr) (b : List Byte) : Bool := decide (be b 4 2 ≤ 448) && h.len == 8 + 20 * be b 4 2

/-- Consistency of a PROOF frame (R113, R117, R129). -/
def proofGood (h : Hdr) (b : List Byte) : Bool :=
  let p := be b 0 1
  let boxes := be b 2 2 * be b 4 2
  let first := be b 6 4
  let n := be b 0x0A 2
  let bytes := be b 0x0C 2
  (p == 3 || p == 4) && decide (1 ≤ n) && bytes == n * p && decide (bytes ≤ 8192) && h.len == 26 + bytes &&
  decide (first + n ≤ boxes) && (hasBit (be b 1 1) 0 == (first == 0)) && (hasBit (be b 1 1) 1 == (first + n == boxes))

/-- Whether a FIX is consistent (R130, R424). -/
def fixGood (d : Device) (h : Hdr) (b : List Byte) : Bool :=
  let n := be b 4 2
  decide (be b 0 1 ≤ 15) && decide (1 ≤ be b 2 2) && decide (be b 2 2 ≤ 63999) && decide (1 ≤ n) && decide (n ≤ 513) &&
  decide (be b 6 1 ≤ 200) && h.len == 10 + n &&
  (match d.topo.record with | some r => hasBit r.dmxMask (be b 0 1) | none => false)

/-- Whether a REMOTE_RD is consistent (R131). -/
def remoteGood (h : Hdr) (b : List Byte) : Bool :=
  let k := be b 0 1; let n := be b 2 2
  let len := decide (1 ≤ n) && decide (n ≤ 8192)
  let plain := be b 1 1 == 0
  if k = 0 then h.origin == 1 && len && h.len == 16 && plain && be b 4 4 == 0
  else if k = 1 then h.origin == 0 && len && h.len == 16 + n && plain
  else if k = 2 then h.origin == 0 && len && h.len == 16 && decide (1 ≤ be b 1 1) && decide (be b 1 1 ≤ 3)
  else if k = 3 then h.origin == 1 && len && h.len == 16 + n && n % 32 == 0 && plain && be b 4 4 == 0
  else false

/-- Whether a CTRL frame is consistent (R119, R121, R122): its ORIGIN, addressing, count and length as its op states; an op above
6 is not judged. PARTNER comes over the closing link and nothing else does (R139). -/
def ctrlGood (d : Device) (closing : Bool) (h : Hdr) (b : List Byte) : Bool :=
  let op := be b 0 1
  (closing == (op == 6)) &&
  (if op ≤ 1 then ctrlShape 0 1 h b
   else if op ≤ 3 then ctrlShape 1 0 h b
   else if op = 4 then h.origin == 0 && h.bcast && be b 1 1 == 0 && be b 2 2 == 0 && h.len == 8
   else if op = 5 then assignGood d h b
   else if op = 6 then partnerGood h b
   else true)

/-- Check 6 of R114 on a frame of any class: the consistency its class's section states. -/
def classGood (d : Device) (closing : Bool) (h : Hdr) (b : List Byte) : Bool :=
  if h.cls = 1 then sliceGood h b
  else if h.cls = 2 then ctrlGood d closing h b
  else if h.cls = 3 then timeShape h b
  else if h.cls = 4 then cardGood d.clk.raster b
  else if h.cls = 5 then mailGood h b
  else if h.cls = 6 then proofGood h b
  else if h.cls = 7 then fixGood d h b
  else remoteGood h b

/-- Whether a frame belongs to a flow with a window (R133): PIX_SLICE has a map of its own, TIME frames and frames with
UNASSIGNED set are not de-duplicated, answers to a REQUEST are by request sequence. -/
def windowed (h : Hdr) (b : List Byte) : Bool :=
  h.cls != 1 && h.cls != 3 && !h.unasg && !(h.cls == 8 && (be b 0 1 == 1 || be b 0 1 == 2))

end Sys2Proof.Machine
end

