-- ==== Sys2Proof/Machine/Queues.lean ====
section
/-! DEFINITION. Machine/Queues.lean: the fall-through queues behind the ports (R219 to R233): words and parity, packets written
and rewound, dropped packets and dead-letter markers, and what the parser reads. Port `p` is 0 to 7 for L0 to L7, 8 and 9 for
IG0 and IG1 (R179). -/

namespace Sys2Proof.Machine

/-- Ingest port `p`, 0 or 1. -/
def Device.ingPort (d : Device) (p : Nat) : IngPort := d.ing.getD p {}

/-- An ingest port changed. -/
def setIng (p : Nat) (f : IngPort → IngPort) (d : Device) : Device := { d with ing := modAt d.ing p f }

/-- The address of a link port's register. -/
def lnkReg (p off : Nat) : Nat := 0x2000 + 0x40 * p + off

/-- The address of an ingest port's register. -/
def ingReg (p off : Nat) : Nat := 0x2800 + 0x80 * p + off

/-- The queue of a port. -/
def queueOf (d : Device) (p : Nat) : PortQueue := if p < 8 then (d.port p).queue else (d.ingPort (p - 8)).queue

/-- The queue of a port changed. -/
def setQueue (p : Nat) (f : PortQueue → PortQueue) (d : Device) : Device :=
  if p < 8 then d.setPort p (fun l => { l with queue := f l.queue }) else setIng (p - 8) (fun l => { l with queue := f l.queue }) d

/-- Whether a list of flags holds an odd number of set ones. -/
def oddOf (bs : List Bool) : Bool := bs.foldl (fun a b => a != b) false

/-- Whether a number's low `n` bits hold an odd number of ones. -/
def oddBits (n v : Nat) : Bool := oddOf ((List.range n).map (fun i => hasBit v i))

/-- The even parity of a word over DATA, SOP, EOP and MARK (R219). -/
def ftqParity (data : List Byte) (sop eop mark : Bool) : Bool :=
  oddOf ([sop, eop, mark] ++ data.map (fun b => oddBits 8 b.toNat))

/-- A word of a packet as it is written (R219, R229). -/
def ftqWord (data : List Byte) (sop eop mark : Bool) : FtqWord :=
  let data := fit 32 data
  { mark := mark, poison := false, eop := eop, sop := sop, parity := ftqParity data sop eop mark, data := data }

/-- The words a packet of `n` bytes takes: 32 bytes to a word (R220). -/
def ftqCount (n : Nat) : Nat := ceilDiv n 32

/-- A packet's words (R219): SOP on the first, EOP on the last, the rest of the last zero; the words that `bad` names hold an
upset that the parser's parity check will find (R229). -/
def packetWords (bs : List Byte) (bad : List Nat) : List FtqWord :=
  let n := ftqCount bs.length
  (List.range n).map (fun i =>
    let w := ftqWord (cut bs (32 * i) 32) (i == 0) (i + 1 == n) false
    if bad.contains i then { w with parity := !w.parity } else w)

/-- Whether a word fails its parity check (R229). -/
def FtqWord.fails (w : FtqWord) : Bool := w.parity != ftqParity w.data w.sop w.eop w.mark

/-- Stages of a chain (R221). -/
def chainStages : Nat := 32

/-- Words of an intake (R222). -/
def intakeWords : Nat := 576

/-- Words a port queue holds (R220). -/
def queueRoom : Nat := chainStages + intakeWords

/-- The words in a queue, front first. -/
def PortQueue.words (q : PortQueue) : List FtqWord := q.chain ++ q.intake

/-- The words a queue holds, intake and chain (R233). -/
def PortQueue.used (q : PortQueue) : Nat := q.chain.length + q.intake.length

/-- A queue whose committed words are `ws`: the foremost fill the chain, the rest stay in the intake (R221, R222). -/
def PortQueue.hold (q : PortQueue) (ws : List FtqWord) : PortQueue :=
  { q with chain := ws.take chainStages, intake := ws.drop chainStages }

/-- A queue after the parser has read `n` words, none past a marker, which QUEUE_MARKER_READ reads (R221, R227). -/
def PortQueue.drain (q : PortQueue) (n : Nat) : PortQueue :=
  let ahead := (q.words.takeWhile (fun w => !w.mark)).length
  q.hold (q.words.drop (min n ahead))

/-- A marker's word (R226). -/
def markerWord (p : Nat) (m : Marker) : FtqWord :=
  ftqWord (zeros 19 ++ leN 1 p ++ beN 4 m.first.ls ++ beN 4 m.first.frame.toNat ++ beN 4 m.count) true true true

/-- The marker a word holds. -/
def markerOf (w : FtqWord) : Marker :=
  { count := be w.data 28 4,
    first := RP.ofWords (BitVec.ofNat 32 (be w.data 24 4)) (BitVec.ofNat 32 (be w.data 20 4)) }

/-- A packet dropped by a full queue (R225, R226): counted for the marker that will stand for it. -/
def queueDrop (d : Device) (p : Nat) : Device :=
  setQueue p (fun q => { q with gap := some (match q.gap with
    | some m => { m with count := satAdd 0xFFFFFFFF m.count 1 }
    | none => { count := 1, first := d.clk.rp }) }) d

/-- The watermark of a port's queue. -/
def queueMark (p : Nat) : Nat := min p 9 + 1

/-- The words of a port's queue sampled (R233). -/
def queueSample (p level : Nat) (d : Device) : Device := sample (queueMark p) (min queueRoom level) d

/-- A dead-letter marker written at the gap where a place is free (R226). -/
def markerWriteFx (p : Nat) (d : Device) : Device :=
  let q := queueOf d p
  match q.gap with
  | some m =>
    if q.used < queueRoom then
      queueSample p (q.used + 1) (setQueue p (fun q => { q.hold (q.words ++ [markerWord p m]) with gap := none }) d)
    else d
  | none => d

/-- A packet's arrival at a queue: the device, and whether the packet was dropped (R225). -/
structure Arrival where
  full : Bool
  dev  : Device

/-- A packet written (R221 to R226): after the words the parser has read have left, and after the marker of a gap before it; one
for which there is no place is dropped whole. -/
def queueWrite (p : Nat) (bs : List Byte) (read : Nat) (bad : List Nat) (d : Device) : Arrival :=
  let d := setQueue p (fun q => q.drain read) d
  let d := markerWriteFx p (queueSample p (queueOf d p).used d)
  let ws := packetWords bs bad
  let used := (queueOf d p).used
  let d := queueSample p (used + ws.length) d
  if queueRoom < used + ws.length then { full := true, dev := queueDrop d p }
  else { full := false, dev := setQueue p (fun q => q.hold (q.words ++ ws)) d }

/-- A packet found bad at its end rewound: its words are removed (R224). -/
def queueRewind (p n : Nat) (d : Device) : Device :=
  setQueue p (fun q => q.hold (q.words.take (q.used - n))) d

/-- The packet written last, as bytes, removed or left as it proved (R224). -/
def queueVerdict (p : Nat) (bs : List Byte) (bad : Bool) (a : Arrival) : Device :=
  if bad && !a.full then queueRewind p (ftqCount bs.length) a.dev else a.dev

/-- One event more of a day's count (R376). -/
def dayCount (k n : Nat) (m : NatMap Nat) : NatMap Nat := mset m k 0 (mget m k 0 + n)

/-- Parity failures of a queue counted in HLT_QUEUE_PARITY, with the second of RUN (R229, R376). -/
def parityCount (q n : Nat) (d : Device) : Device :=
  { d with spare := { d.spare with qParity := modAt d.spare.qParity q (fun k => satAdd 255 k n),
                                   parityLog := d.spare.parityLog ++ List.replicate n (q, d.spare.run),
                                   today := { d.spare.today with parity := dayCount q n d.spare.today.parity } } }

/-- The address of a port's QPOISON register. -/
def qpoisonReg (p : Nat) : Nat := if p < 8 then lnkReg p 0x20 else ingReg (p - 8) 0x2C

/-- A packet that the parser discards for poison (R229, R230): its failures and the packet are counted, and QUEUE_POISON opens or
adds to its second (R234, R578). -/
def poisoned (p n : Nat) (d : Device) : Device :=
  rateEvent 0x1031 p (leN 1 p ++ zeros 3) [] 1 false ((parityCount p n d).bump (qpoisonReg p) 1)

/-- The words of a packet whose parity fails as the parser reads it. -/
def failing (bs : List Byte) (bad : List Nat) : Nat := ((packetWords bs bad).filter FtqWord.fails).length

/-- The address of a port's QDROP register. -/
def qdropReg (p : Nat) : Nat := if p < 8 then lnkReg p 0x1C else ingReg (p - 8) 0x28

/-- QUEUE_MARKER_READ (R227, R229): the parser has read all before the first marker; its count is added, or 1 where it is
poisoned. -/
def markerReadFx (p : Nat) (poison : Bool) (d : Device) : Device :=
  match (queueOf d p).words.dropWhile (fun w => !w.mark) with
  | w :: r =>
    let m := markerOf w
    let n := if poison then 1 else m.count
    let d := setQueue p (fun q => q.hold r) d
    rateEvent 0x1030 p (leN 1 p ++ zeros 3) m.first.bytes n poison (queueSample p r.length (d.bump (qdropReg p) n))
  | [] => d

end Sys2Proof.Machine
end

