-- ==== Sys2Proof/Machine/Sched.lean ====
section
/-! DEFINITION. Machine/Sched.lean: alignment classes (R83, R84), admission, lateness and the horizon (R81, R86 to R88),
evaluation at first lock (R575), the order of events that fall together (R96), steps (R98) and shutter windows (R100). -/

namespace Sys2Proof.Machine

/-- The alignment classes (R83). -/
inductive AlignClass where
  | boundary | display | exact
  deriving DecidableEq, Repr

/-- The opcodes of the index (R416). -/
def opListed (op : Nat) : Bool :=
  decide (op ≤ 5) || (decide (0x10 ≤ op) && decide (op ≤ 0x12)) || op == 0x1F || op == 0x20 || op == 0x21 ||
  (decide (0x30 ≤ op) && decide (op ≤ 0x36)) || (decide (0x40 ≤ op) && decide (op ≤ 0x43)) ||
  (decide (0x50 ≤ op) && decide (op ≤ 0x53)) || (decide (0x60 ≤ op) && decide (op ≤ 0x65)) ||
  (decide (0x70 ≤ op) && decide (op ≤ 0x73)) || (decide (0x78 ≤ op) && decide (op ≤ 0x7A)) ||
  (decide (0x80 ≤ op) && decide (op ≤ 0x84)) || (decide (0x88 ≤ op) && decide (op ≤ 0x8A))

/-- An opcode's class, as its chapter states it; BOUNDARY where none is stated (R84). -/
def classOf (op : Nat) : AlignClass :=
  if 0x30 ≤ op ∧ op ≤ 0x34 then .display
  else if op = 0x00 ∨ op = 0x04 ∨ op = 0x11 ∨ op = 0x21 ∨ op = 0x36 ∨ op = 0x50 ∨ op = 0x52 ∨ op = 0x61 ∨ op = 0x64 ∨
    op = 0x65 ∨ (0x70 ≤ op ∧ op ≤ 0x73) ∨ op = 0x78 ∨ op = 0x7A ∨ op = 0x80 ∨ op = 0x82 ∨ op = 0x83 ∨ op = 0x84 ∨
    op = 0x8A then .exact
  else .boundary

/-- Whether NOW is set (R80). -/
def isNow (c : Cmd) : Bool := hasBit c.timing.toNat 0

/-- Whether DISCARD_LATE is set (R80). -/
def discardLate (c : Cmd) : Bool := hasBit c.timing.toNat 1

/-- A command's due RP. -/
def dueRp (c : Cmd) : RP := RP.ofWords c.dueFrame c.dueLs

/-- Whether a due RP lies on the raster (R81). -/
def dueGood (r : Raster) (c : Cmd) : Bool :=
  decide (bitsOf c.dueLs.toNat 28 16 < r.lines) && decide (c.dueLs.toNat < 2 ^ 29)

/-- The aligned point of a due RP (R83). -/
def alignedPoint (cls : AlignClass) (due : RP) : RP :=
  match cls with
  | .exact => due
  | _ => RP.start (frameAfter due)

/-- The commit point of a due RP (R83). -/
def commitPoint (d : Device) (cls : AlignClass) (due : RP) : RP :=
  match cls with
  | .exact => due
  | .boundary => RP.start (frameAfter due)
  | .display => { frame := frameAfter due - 1, line := cutLine d, sub := 0 }

/-- The first frame whose boundary is still to come at the present RP: this frame's while the RP stands on it and its work
has not been done. -/
def nextBoundary (d : Device) : BitVec 32 :=
  let f := d.clk.rp.frame
  if d.clk.rp.line = 0 ∧ d.clk.rp.sub = 0 ∧ d.tim.boundary ≠ some f then f else f + 1

/-- The first display frame whose commit point is still to come. -/
def nextDisplay (d : Device) : BitVec 32 :=
  let f := d.clk.rp.frame
  let p : RP := { frame := f, line := cutLine d, sub := 0 }
  if !(p.before d.clk.rp) ∧ d.tim.cutoff ≠ some (f + 1) then f + 1 else f + 2

/-- The next aligned point whose commit point has not passed (R88). -/
def nextPoint (d : Device) (cls : AlignClass) : RP :=
  match cls with
  | .exact => d.clk.rp
  | .boundary => RP.start (nextBoundary d)
  | .display => RP.start (nextDisplay d)

/-- Whether a commit point has passed: the RP is after it or unordered with it (R88); a command admitted once the instant's work has
been done comes in a later RAST cycle, so its RP counts as after (DEDUCED, log entry 110). -/
def commitPassed (d : Device) (cls : AlignClass) (due : RP) : Bool :=
  let p := commitPoint d cls due
  d.clk.rp.passed p ||
    (match cls with
     | .exact => false
     | .boundary => p == d.clk.rp && d.tim.boundary == some p.frame
     | .display => p == d.clk.rp && d.tim.cutoff == some (p.frame + 1))

/-- Whether an aligned point lies beyond the horizon of 2^24 frames (R87). -/
def tooEarly (d : Device) (p : RP) : Bool :=
  ({ d.clk.rp with frame := d.clk.rp.frame + 16777216 } : RP).before p

/-- The places of the schedule in use (R86): admitted commands that have not yet taken effect, a waiting MAP_LOAD, KEY_LOADs held
until a rollover ends and queued POWER_STATE_SETs among them. A calibration (R454) or FW_UPDATE (R500) that waits behind another after
its point counts as having taken effect (DESIGN CHOICE, log entry 144). -/
def schedPlaces (d : Device) : Nat :=
  d.sched.entries.length + bit d.topo.load.isSome + (d.sec.heldKeys.filter (fun k => k.cmd.isSome)).length + d.pwr.queued.length

/-- The occupied places sampled (R86). -/
def schedSample (d : Device) : Device := sampleSched (schedPlaces d) d

/-- A command put into the schedule (R86). -/
def put (op : Nat) (c : Cmd) (adm : Nat) (point due : RP) (isJudged : Bool) (d : Device) : Device :=
  let e : Entry := { op := BitVec.ofNat 8 op, cmd := c, adm := adm, point := point, due := due, judged := isJudged }
  { d with sched := { d.sched with entries := d.sched.entries ++ [e] } }

/-- A command placed in the schedule, and its occupied places sampled (R86). -/
def place (op : Nat) (c : Cmd) (adm : Nat) (point due : RP) (isJudged : Bool) (d : Device) : Device :=
  schedSample (put op c adm point due isJudged d)

/-- A late command (R88). A rollover that HIBERNATE overslept takes effect as it would have (R495). -/
def late (op : Nat) (c : Cmd) (adm : Nat) (due : RP) (d : Device) : Device :=
  if op = 0x81 ∧ d.pwr.woke then put op c adm (nextPoint d .boundary) due true d
  else if discardLate c then eventLate op c none (refuse op c 2 [] d)
  else put op { c with late := true } adm (nextPoint d (classOf op)) due true d

/-- A command judged against the present RP and raster (R80, R81, R87, R88, R575). LIFECYCLE_SET does its work at its admission (R490),
however far ahead its due RP lies (DEDUCED, log entry 127). -/
def judge (op : Nat) (c : Cmd) (adm : Nat) (d : Device) : Device :=
  let cls := classOf op
  let due := dueRp c
  if isNow c then put op c adm (nextPoint d cls) (nextPoint d cls) true d
  else if !(dueGood d.clk.raster c) then refuse op c 4 [] d
  else if commitPassed d cls due then late op c adm due d
  else if tooEarly d (alignedPoint cls due) then refuse op c 8 [] d
  else put op c adm (if op = 0x82 then d.clk.rp else alignedPoint cls due) due true d

/-- The pending rollover as the schedule has it (R80, R81, R495): the KEY_ROLLOVER admitted last of those judged, whose frame is that of
its aligned point. One that is held unjudged gives none; a rollover known before a wake stands while its command is held. -/
def syncRoll (d : Device) : Device :=
  let es := d.sched.entries.filter (fun e => e.op == 0x81)
  let e := (es.filter (fun e => e.judged)).foldl
    (fun (w : Option Entry) e => match w with | some x => if x.adm < e.adm then some e else some x | none => some e) none
  { d with sched := { d.sched with roll := match e with
      | some e => some { k := e.point.frame, gen := BitVec.ofNat 32 (opN e.cmd 0 4), cmd := e.cmd }
      | none => d.sched.roll.filter (fun r => es.any (fun e => e.cmd == r.cmd)) } }

/-- The staging groups of commands no longer admitted freed (R293, R294). -/
def tidyStaging (d : Device) : Device :=
  { d with pxl := { d.pxl with staging := d.pxl.staging.filter (fun s => d.sched.entries.any (fun e => e.adm == s.adm)) } }

/-- The pending commands that pass a test complete CANCELLED. -/
def cancelWhere (p : Entry → Bool) (d : Device) : Device :=
  let es := d.sched.entries.filter p
  let d := { d with sched := { d.sched with entries := d.sched.entries.filter (fun e => !(p e)) } }
  let d := tidyStaging (schedSample d)
  syncRoll (es.foldl (fun d e => complete e.op.toNat e.cmd 3 none [] d) d)

/-- Whether a KEY_ROLLOVER has been replaced by one scheduled since (R103, R495). -/
def rollReplaced (d : Device) (e : Entry) : Bool :=
  e.op == 0x81 && e.judged && d.sched.entries.any (fun x => x.op == 0x81 && x.judged && decide (e.adm < x.adm))

/-- A KEY_ROLLOVER replaced completes CANCELLED (R103, R495). -/
def rollLatest (d : Device) : Device := if d.sched.entries.any (rollReplaced d) then cancelWhere (rollReplaced d) d else syncRoll d

/-- A command admitted: judged, or held unevaluated until first lock (R46). A KEY_ROLLOVER that is scheduled replaces the one
pending. -/
def admitCmd (op : Nat) (c : Cmd) (d : Device) : Device :=
  let adm := d.sched.adm
  let d := { d with sched := { d.sched with adm := adm + 1 } }
  let d := if d.tim.firstLock then judge op c adm d else put op c adm (dueRp c) (dueRp c) false d
  schedSample (when (decide (op = 0x81)) rollLatest d)

/-- The status with which a MAP_LOAD's due RP is refused when it is judged (R81, R87, R88), if it is. -/
def loadRefusal (c : Cmd) (d : Device) : Option Nat :=
  if isNow c then none
  else if !(dueGood d.clk.raster c) then some 4
  else if commitPassed d .boundary (dueRp c) then (if discardLate c then some 2 else none)
  else if tooEarly d (alignedPoint .boundary (dueRp c)) then some 8
  else none

/-- A MAP_LOAD refused with a status: one that is late is reported (R88). -/
def loadRefused (st : Nat) (c : Cmd) (d : Device) : Device :=
  if st = 2 then eventLate 0x1F c none (refuse 0x1F c 2 [] d) else refuse 0x1F c st [] d

/-- A MAP_LOAD with its lateness found (R88). -/
def loadTimed (c : Cmd) (d : Device) : Cmd :=
  { c with late := c.late || (!(isNow c) && commitPassed d .boundary (dueRp c)) }

/-- A MAP_LOAD held unevaluated judged at a first lock (R575). -/
def judgeLoad (d : Device) : Device :=
  match d.topo.load with
  | some l =>
    if l.judged then d
    else match loadRefusal l.cmd d with
      | some st => loadRefused st l.cmd { d with topo := { d.topo with load := none } }
      | none => { d with topo := { d.topo with load := some { l with cmd := loadTimed l.cmd d, judged := true } } }
  | none => d

/-- The admission number of the MAP_LOAD on its way. -/
def loadAdm (d : Device) : Nat := match d.topo.load with | some l => l.adm | none => 0

/-- The evaluation of held commands at a first lock, in admission order, a MAP_LOAD in its turn (R575). -/
def evaluateHeld (d : Device) : Device :=
  let es := d.sched.entries.filter (fun e => !e.judged)
  let a := loadAdm d
  let d := { d with sched := { d.sched with entries := d.sched.entries.filter (fun e => e.judged) } }
  let d := (es.filter (fun e => decide (e.adm < a))).foldl (fun d e => judge e.op.toNat e.cmd e.adm d) d
  let d := (es.filter (fun e => decide (a ≤ e.adm))).foldl (fun d e => judge e.op.toNat e.cmd e.adm d) (judgeLoad d)
  schedSample (rollLatest (tidyStaging d))

/-- Admitted commands that have not taken effect become unevaluated again (R576); what is known of a rollover goes with the old count. -/
def unjudge (d : Device) : Device :=
  { d with sched := { d.sched with entries := d.sched.entries.map (fun e => { e with judged := false }), roll := none } }

/-- A command whose aligned point a forward step skipped (R80, R98): late, unless NOW is set. -/
def skippedEntry (e : Entry) (d : Device) : Device :=
  if isNow e.cmd then
    let p := nextPoint d (classOf e.op.toNat)
    put e.op.toNat e.cmd e.adm p p true d
  else late e.op.toNat e.cmd e.adm e.due d

/-- The point at which an entry is committed (R83). -/
def entryCommit (d : Device) (e : Entry) : RP :=
  if classOf e.op.toNat = .display then { frame := e.point.frame - 1, line := cutLine d, sub := 0 } else e.point

/-- The commands whose aligned points a forward step from `was` skipped (R98); those of the boundary at which it was made take their
turn there (R96). -/
def afterStep (was : RP) (d : Device) : Device :=
  let gone := fun (e : Entry) => e.judged && d.clk.rp.passed (entryCommit d e) && entryCommit d e != was
  let es := d.sched.entries.filter gone
  let d := { d with sched := { d.sched with entries := d.sched.entries.filter (fun e => !(gone e)) } }
  schedSample (syncRoll (tidyStaging (es.foldl (fun d e => skippedEntry e d) d)))

/-- The rank of a class at one aligned point (R96). -/
def classRank (op : BitVec 8) : Nat :=
  match classOf op.toNat with
  | .boundary => 0
  | .display => 1
  | .exact => 2

/-- Whether entry `a` takes effect before entry `b` (R96): by aligned point, class, due RP, admission. -/
def entryFirst (a b : Entry) : Bool :=
  if a.point.before b.point then true
  else if b.point.before a.point then false
  else if classRank a.op < classRank b.op then true
  else if classRank b.op < classRank a.op then false
  else if a.due.before b.due then true
  else if b.due.before a.due then false
  else decide (a.adm < b.adm)

/-- The first of a list of entries in the order of R96. -/
def firstEntry : List Entry → Option Entry
  | [] => none
  | e :: es =>
    match firstEntry es with
    | none => some e
    | some x => some (if entryFirst x e then x else e)

/-- The next BOUNDARY or EXACT command to come due. -/
def nextEntry (d : Device) : Option Entry :=
  firstEntry (d.sched.entries.filter (fun e => e.judged && classOf e.op.toNat != .display))

/-- A schedule without one entry. -/
def dropEntry (e : Entry) (d : Device) : Device :=
  { d with sched := { d.sched with entries := d.sched.entries.filter (fun x => x.adm != e.adm) } }

/-- Whether a pending command bears a tag and is not the SCHED_CANCEL itself (R104, R105). -/
def cancellable (tag self : BitVec 32) (c : Cmd) : Bool := c.tag == tag && c.position != self

/-- SHUTTER_SET (R100, R104): a window already open keeps its close point (R101). -/
def shutterSetFx (c : Cmd) (d : Device) : Device :=
  let w := opB c 0; let dv := opB c 2; let ph := opB c 3; let o := opN c 4 4; let cl := opN c 8 4
  if 3 < w ∨ dv < 1 ∨ 16 < dv ∨ dv ≤ ph ∨ d.clk.raster.frameSub ≤ o ∨ d.clk.raster.frameSub ≤ cl then refuse 5 c 4 [] d
  else
    finish 5 c (boundaryRp d) [] { d with sched := { d.sched with shutters := modAt d.sched.shutters w (fun s =>
      { s with enabled := hasBit (opB c 1) 0, divisor := dv, phase := ph, openAt := o, closeAt := cl }) } }

/-- NOP (R398). -/
def nopFx (c : Cmd) (d : Device) : Device := finish 0 c d.clk.rp [] d

/-- Whether a shutter window opens in frame `f` (R100). -/
def windowFrame (s : Shutter) (f : BitVec 32) : Bool := s.enabled && f.toNat % s.divisor == s.phase

/-- The next close of a window after its opening at `o` in frame `f` (R100). -/
def closePoint (r : Raster) (s : Shutter) (f : BitVec 32) : RP :=
  RP.plus r (RP.start (if s.closeAt ≤ s.openAt then f + 1 else f)) s.closeAt

/-- The next opening of a window at or after the present RP. Where the frame number wraps (R101) a window of divisor 13 stays away
for the longest, 22 frames. -/
def openPoint (d : Device) (s : Shutter) : RP :=
  let f := d.clk.rp.frame
  let here := RP.plus d.clk.raster (RP.start f) s.openAt
  let f0 := if here.before d.clk.rp then f + 1 else f
  let k := ((List.range 33).find? (fun i => windowFrame s (f0 + BitVec.ofNat 32 i))).getD 0
  RP.plus d.clk.raster (RP.start (f0 + BitVec.ofNat 32 k)) s.openAt

end Sys2Proof.Machine
end

