-- ==== Sys2Proof/Machine/Rx.lean ====
section
/-! DEFINITION. Machine/Rx.lean: receiving Silnal frames: the checks of R114, the port queue (R224 to R226), forwarding
(R138 to R142), de-duplication (R133). -/

namespace Sys2Proof.Machine

/-- A frame's length as received. -/
def rxLen (f : RxFrame) : Nat := f.bytes.length

/-- What the wire-side checks find (check 1 of R114; R151 to R154). -/
inductive WireCheck where
  | good | runt | oversize | badFcs | stomped
  deriving DecidableEq, Repr

/-- Check 1 of R114. -/
def wireCheck (f : RxFrame) : WireCheck :=
  let n := rxLen f
  let body := f.bytes.take (n - 4)
  let tail := f.bytes.drop (n - 4)
  if n ≤ 63 then .runt
  else if 9217 ≤ n then .oversize
  else if tail = fcs body then .good
  else if tail = stompedFcs body then .stomped
  else .badFcs

/-- Whether the envelope is a Silnal frame's (R107, R108). -/
def silnalEnvelope (f : RxFrame) : Bool := cut f.bytes 0 6 == silnalDst && cut f.bytes 12 2 == [0x88, 0xB5]

/-- Whether a frame is a MAC control frame (R162). -/
def isMacControl (f : RxFrame) : Bool := cut f.bytes 12 2 == [0x88, 0x08]

/-- Whether a frame is an LLDPDU (R108, R164). -/
def isLldp (f : RxFrame) : Bool :=
  cut f.bytes 0 6 == [0x01, 0x80, 0xC2, 0x00, 0x00, 0x0E] && cut f.bytes 12 2 == [0x88, 0xCC]

/-- A frame counted in LNK_MALFORMED. -/
def malformed (p : Nat) (d : Device) : Device := d.bump (lnkReg p 0x10) 1

/-- Whether the frame's version is 1 and its class one of R113. -/
def classKnown (h : Hdr) : Bool := h.ver == 1 && decide (1 ≤ h.cls) && decide (h.cls ≤ 8)

/-- The payload limits of a class (R113). -/
def classLimits (cls : Nat) : Nat × Nat :=
  if cls = 1 then (27, 8218) else if cls = 2 then (8, 2056) else if cls = 3 then (56, 56) else if cls = 4 then (76, 268)
  else if cls = 5 then (8, 8968) else if cls = 6 then (27, 8218) else if cls = 7 then (11, 523) else (16, 8208)

/-- Whether a class's ORIGIN and addressing are as R113 states. -/
def classShape (h : Hdr) : Bool :=
  if h.cls = 1 ∨ h.cls = 7 then h.origin == 0 && !h.bcast
  else if h.cls = 2 then true
  else if h.cls = 3 ∨ h.cls = 5 then h.origin == 0 && h.bcast
  else if h.cls = 4 ∨ h.cls = 6 then h.origin == 1 && !h.bcast
  else !h.bcast

/-- Check 4 of R114: R110 and the limits of R113, and the stamp's line (R112). -/
def lengthGood (f : RxFrame) : Bool :=
  let h := rxHdr f
  let (lo, hi) := classLimits h.cls
  decide (rxLen f = max 64 (50 + h.len)) && decide (h.len ≤ 9166) && decide (lo ≤ h.len) && decide (h.len ≤ hi)

/-- The lines of the raster a received frame is judged by (R112): those of the device's own, or, at a node, in a RING TIME frame
those the frame carries: whether they are those the node follows, R44, R70 and R576 judge. -/
def stampLines (d : Device) (h : Hdr) (b : List Byte) : Nat :=
  if h.cls = 3 ∧ be b 0 1 = 0 ∧ !d.isHead then be b 18 2 else d.clk.raster.lines

/-- The part of check 6 common to every class: ORIGIN, addressing and the stamp's line (R112, R113). -/
def shapeGood (d : Device) (h : Hdr) (b : List Byte) : Bool := classShape h && decide (h.stamp.line < stampLines d h b)

/-- The role a head has on a link port: its ring and whether the port is the closing link's. -/
def headPort (d : Device) (p : Nat) : Option (Bool) :=
  match mapKnown d with
  | some m =>
    match (headRings d m).find? (fun (_, _, pair, _) => pair == pairOf p) with
    | some (_, r, pair, isX) => some (closingPort r pair isX == some p)
    | none => none
  | none => none

/-- Whether a port is this head's closing-link port. -/
def isClosing (d : Device) (p : Nat) : Bool := d.isHead && headPort d p == some true

/-- Whether a device of this life-cycle state only forwards (R488, R498). -/
def forwardOnly (d : Device) : Bool := d.sec.life == .blank || d.sec.life == .retired || d.sec.noImage

/-- Whether a frame is unicast to the device's node ID (R140). -/
def unicastTo (d : Device) (h : Hdr) : Bool :=
  !h.bcast && (match d.topo.nodeId with | some n => h.dst == n.toNat | none => false)

/-- Whether the device would accept a frame addressed so (R17, R19, R140). -/
def wouldAccept (d : Device) (h : Hdr) : Bool :=
  !(forwardOnly d) && (h.bcast || (unicastTo d h && (h.origin == 1 || hasBit d.topo.headSet.toNat h.head)))

/-- The node ID by which a head's partner addresses it: its own, or, before its first map is in force, the one the map it loads
gives it (R39, R122, R139). -/
def partnerSelf (d : Device) : Option Nat :=
  match d.topo.nodeId with
  | some n => some n.toNat
  | none => match mapKnown d with
    | some m => (m.nodes.find? (fun n => n.role != 0 && n.headIndex == d.headIndex)).map (fun n => n.nodeId.toNat)
    | none => none

/-- Whether the closing link may carry a frame to this head (R139): a TIME frame, or a CTRL frame unicast to it. -/
def closingCarries (d : Device) (h : Hdr) : Bool :=
  classKnown h && ((h.cls == 3 && h.bcast) || (h.cls == 2 && !h.bcast && partnerSelf d == some h.dst))

/-- Whether the device forwards frames round the ring: a node does; a head terminates its rings (R138). -/
def forwards (d : Device) : Bool := !d.isHead || forwardOnly d

/-- The bytes of a frame with the byte at `off` replaced. -/
def setByte (bs : List Byte) (off : Nat) (v : Nat) : List Byte := bs.set off (BitVec.ofNat 8 v)

/-- Bytes with a stretch replaced. -/
def splice (bs : List Byte) (off : Nat) (new : List Byte) : List Byte := bs.take off ++ new ++ bs.drop (off + new.length)

/-- A frame as it leaves a forwarder (R140, R152, R153): hop count raised, FCS recomputed or stomped. -/
def forwarded (f : RxFrame) (w : WireCheck) (edit : List Byte → List Byte) (out : Nat) : TxFrame :=
  let b := if rxLen f ≤ 9216 then f.bytes.take (rxLen f - 4) else f.bytes.take 9212
  let b := edit (setByte b 17 ((be b 17 1 + 1) % 256))
  match w with
  | .good => { port := out, bytes := b ++ fcs b }
  | _ => { port := out, bytes := b ++ stompedFcs b, stomped := true }

/-- Own frames flushed into an insertion interval (R145), oldest first, while they fit: those that wait on, and those that
leave. -/
def flushInto : Nat → List Waiting → List Waiting × List TxFrame
  | _, [] => ([], [])
  | room, w :: ws =>
    let n := w.frame.bytes.length + 20
    if n ≤ room then
      let (rest, out) := flushInto (room - n) ws
      (rest, w.frame :: out)
    else (w :: ws, [])

/-- A node's own frames inserted into the rest of the interval that passes a port (R145, R146). -/
def insertNow (p : Nat) (d : Device) : Device :=
  let l := d.port p
  let (rest, out) := flushInto l.room l.backlog
  let d := out.foldl tx d
  d.setPort p (fun l => { l with backlog := rest.map (fun w => { w with waits := w.waits + 1 }), room := 0, run := 0,
                                 reported := l.reported && !rest.isEmpty })

/-- `n` bytes of the run of frames in an interval have left a port: the device's own frames follow the last of them (R145). -/
def runPassed (p n : Nat) (d : Device) : Device :=
  let l := d.port p
  if l.run = 0 then d
  else if l.run ≤ n then insertNow p d
  else d.setPort p (fun l => { l with run := l.run - n })

/-- A frame discarded at hop count 255 (R142): counted, and HOP_LIMIT reported (R147). -/
def hopLimit (p : Nat) (h : Hdr) (d : Device) : Device :=
  rateEvent 0x1021 (pairOf p) (leN 1 (pairOf p) ++ leN 1 h.dir ++ leN 2 h.src) [] 1 false (malformed p d)

/-- A frame forwarded to the other port of its pair (R138, R140, R142). -/
def forwardFrame (f : RxFrame) (w : WireCheck) (edit : List Byte → List Byte) (d : Device) : Device :=
  let h := rxHdr f
  let p := f.port.val
  if !(forwards d) || unicastTo d h || h.hop == 0 || w == .runt then d
  else if (d.port (otherPort p)).cutShort = some f.bytes then
    -- an underrun has ended this frame on the port it leaves by (R157)
    runPassed (otherPort p) (rxLen f + 20) (d.setPort (otherPort p) (fun l => { l with cutShort := none }))
  else if h.hop = 255 then hopLimit p h d
  else runPassed (otherPort p) (rxLen f + 20) (tx d (forwarded f w edit (otherPort p)))

/-- The bytes of a frame that the port queue carries: those before the FCS, at most 9,212 (R220, R224). -/
def queueBytes (f : RxFrame) : List Byte := f.bytes.take (min (rxLen f - 4) 9212)

/-- A node learns which direction a port receives from the frames that travel the ring (R23); delay frames do not. -/
def learnDir (f : RxFrame) (d : Device) : Device :=
  when (!d.isHead && (rxHdr f).hop != 0) (fun d => d.setPort f.port.val (fun l => { l with dir := some (rxHdr f).dir })) d

/-- A node learns which head sends a direction from the ORIGIN 0 frames it receives (R120, R138). -/
def learnEnd (p : Nat) (h : Hdr) (d : Device) : Device :=
  when (!d.isHead && h.origin == 0 && h.hop != 0)
    (fun d => { d with topo := { d.topo with ends := setAt d.topo.ends (2 * pairOf p + h.dir) (some (h.head, h.src)) } }) d

/-- What becomes of a frame after the checks: the device, and the header and payload of a frame that passed checks 1 to 5
and the common part of check 6 and is for this device. -/
structure Taken where
  dev : Device
  got : Option (Hdr × List Byte)

/-- A frame's wire errors counted in the port's statistic classes (R108, R167). -/
def countWire (p : Nat) (w : WireCheck) (d : Device) : Device :=
  match w with
  | .runt => countStat d p 1
  | .oversize => countStat d p 2
  | .badFcs => countStat d p 0
  | .stomped => d.bump (lnkReg p 0x18) 1
  | .good => d

/-- A frame that its receiver drops at a point of R114 (R224, R230): counted as poisoned where it is and was not dropped by a
full queue, else as `count` says. -/
def leave (f : RxFrame) (full : Bool) (count : Device → Device) (d : Device) : Taken :=
  let n := failing (queueBytes f) f.bad
  { dev := if full then d else if 0 < n then poisoned f.port.val n d else count d, got := none }

/-- A frame that a check at its end finds bad: rewound and counted (R114, R224). -/
def rewound (f : RxFrame) (full : Bool) (count : Device → Device) (d : Device) : Taken :=
  { dev := count (if full then d else queueRewind f.port.val (ftqCount (queueBytes f).length) d), got := none }

/-- Whether a frame is a PARTNER frame that reaches a head by another port than its closing link's (R139). -/
def partnerAstray (d : Device) (f : RxFrame) : Bool :=
  let h := rxHdr f
  d.isHead && !(forwardOnly d) && !(isClosing d f.port.val) && classKnown h && h.cls == 2 && decide (0 < h.len) &&
    be (rxPayload f) 0 1 == 6

/-- What the checks after the forwarding decision leave of a frame that is good on the wire (R114): `full`, it was dropped by
the port queue. On the closing link nothing passes but what R139 lists, and a PARTNER frame passes on no other port. -/
def frameChecks (f : RxFrame) (full : Bool) (d : Device) : Taken :=
  let p := f.port.val
  let h := rxHdr f
  let closing := isClosing d p && !(forwardOnly d)
  if (closing && !(closingCarries d h)) || partnerAstray d f then leave f full (malformed p) d
  else if !closing && (!(classKnown h) || !(wouldAccept d h)) then leave f full id d
  else if !(lengthGood f) then rewound f full (when (!full) (malformed p)) d
  else if !(frankGood d f) then rewound f full (fun d => countStat d p 5) d
  else if full || decide (0 < failing (queueBytes f) f.bad) then leave f full id d
  else if !(shapeGood d h (rxPayload f)) then { dev := malformed p d, got := none }
  else { dev := learnEnd p h d, got := some (h, rxPayload f) }

/-- A frame forwarded (R138), where its envelope is a Silnal frame's. -/
def framePassed (f : RxFrame) (w : WireCheck) (edit : List Byte → List Byte) (d : Device) : Device :=
  if silnalEnvelope f then forwardFrame f w edit d else d

/-- Receiving a frame on a link port (R114, R140, R224, R225): counted, forwarded with `edit` applied, and taken where it is
for this device and good. -/
def takeFrame (f : RxFrame) (edit : List Byte → List Byte) (d : Device) : Taken :=
  let p := f.port.val
  if !(d.port p).up then { dev := d, got := none }
  else
    let w := wireCheck f
    let a := queueWrite p (queueBytes f) f.read f.bad (countWire p w d)
    if w = .good ∧ isLldp f then leave f a.full id a.dev
    else if w = .good ∧ !(silnalEnvelope f) then
      leave f a.full (fun d => d.bump (lnkReg p 0x0C) 1) (when (isMacControl f) (fun d => countStat d p 4) a.dev)
    else if w = .runt then rewound f a.full id a.dev
    else if w ≠ .good then rewound f a.full id (framePassed f w edit a.dev)
    else frameChecks f a.full (learnDir f (framePassed f w edit a.dev))

/-- The verdict of the de-duplication window (R133). -/
inductive Dedup where
  | fresh | duplicate | tooOld
  deriving DecidableEq, Repr

/-- The gap events of a window that advances by `d` (R133): numbers it passes by 64 without having accepted them, none
before the first accepted. -/
def gapEvents (w : DedupWin) (d : Nat) : Nat :=
  ((List.range 64).filter (fun i => decide (64 ≤ d + i) && decide (i ≤ w.count) && !hasBit w.seen i)).length + (d - 64)

/-- The procedure of R133 on one window. -/
def dedupWin (w : DedupWin) (seq : BitVec 32) (restart : Bool) : Dedup × DedupWin × Nat :=
  let d := frameDiff seq w.hi
  if 0 < d then
    let n := d.toNat
    (.fresh, { w with hi := seq, seen := if 64 ≤ n then 1 else w.seen * 2 ^ n % 2 ^ 64 + 1, count := w.count + n }, gapEvents w n)
  else if -64 < d then
    let i := (-d).toNat
    if hasBit w.seen i then (.duplicate, w, 0) else (.fresh, { w with seen := w.seen + 2 ^ i }, 0)
  else if restart then (.fresh, { w with hi := seq, seen := 1, count := 0 }, 0)
  else (.tooOld, w, 0)

/-- Gap events counted in statistic class 6 of a port. -/
def countGaps (p n : Nat) (d : Device) : Device :=
  if n = 0 then d else d.setPort p (fun l => { l with stat := modAt l.stat 6 (fun c => satAdd 16 c n) })

/-- De-duplication of a numbered frame (R133, check 7): whether it is taken. -/
def dedup (p cls origin peer : Nat) (seq : BitVec 32) (restart : Bool) (d : Device) : Bool × Device :=
  let mine := fun (w : DedupWin) => w.cls == cls && w.origin == origin && w.peer == peer
  match d.flows.wins.find? mine with
  | none =>
    let w : DedupWin := { cls := cls, origin := origin, peer := peer, hi := seq, seen := 1, count := 0 }
    (true, { d with flows := { d.flows with wins := d.flows.wins ++ [w] } })
  | some w =>
    let (v, w', g) := dedupWin w seq restart
    let d := { d with flows := { d.flows with wins := d.flows.wins.map (fun x => if mine x then w' else x) } }
    match v with
    | .fresh => (true, countGaps p g d)
    | _ => (false, d.bump (lnkReg p 0x14) 1)

/-- De-duplication of a frame by its header: ORIGIN 0 flows by head index, ORIGIN 1 flows by source node. -/
def dedupHdr (p : Nat) (h : Hdr) (d : Device) : Bool × Device :=
  if h.unasg then (true, d)
  else dedup p h.cls h.origin (if h.origin = 0 then h.head else h.src) (BitVec.ofNat 32 h.seq) h.restart d

/-- A frame of any class received: the device, the header and payload of one that is for it and good, and whether
de-duplication finds it new. -/
structure Seen where
  dev   : Device
  got   : Option (Hdr × List Byte)
  fresh : Bool

/-- Receiving a frame of any class (R114): the checks of takeFrame, the consistency of its class (check 6), and the window of
its flow (check 7, R133). -/
def takeClass (f : RxFrame) (edit : List Byte → List Byte) (d : Device) : Seen :=
  let p := f.port.val
  let t := takeFrame f edit d
  match t.got with
  | some (h, b) =>
    if !(classGood t.dev (isClosing d p) h b) then { dev := malformed p t.dev, got := none, fresh := false }
    else if windowed h b then
      (let (ok, d) := dedupHdr p h t.dev
       { dev := d, got := some (h, b), fresh := ok })
    else { dev := t.dev, got := some (h, b), fresh := true }
  | none => { dev := t.dev, got := none, fresh := false }

/-- What a good, new frame does, where it is one that `mine` names. -/
def takeNumbered (f : RxFrame) (mine : Hdr → List Byte → Bool) (fx : Hdr → List Byte → Device → Device) (d : Device) : Device :=
  let t := takeClass f id d
  match t.got with
  | some (h, b) => if t.fresh && mine h b then fx h b t.dev else t.dev
  | none => t.dev

/-- No window of a source (R134). -/
def clearSource (node : Nat) (d : Device) : Device :=
  { d with flows := { d.flows with wins := d.flows.wins.filter (fun w => !(w.origin == 1 && w.peer == node)) } }

end Sys2Proof.Machine
end

