-- ==== Sys2Proof/Machine/Macsec.lean ====
section
/-! DEFINITION. Machine/Macsec.lean: frames leaving an ingest port, under PAUSE (R160) and MACsec (R173 to R175), and the
MACsec checks of received ones (R174). -/

namespace Sys2Proof.Machine

/-- Whether MACsec is enabled on an ingest port (R173). -/
def macsecOn (d : Device) (p : Nat) : Bool := hasBit (d.word (ingReg p 0x1C)) 0

/-- The VALIDATE setting, 0 STRICT, 1 CHECK, 2 DISABLED (R535: a value outside the range is used as the nearest). -/
def macsecValidate (d : Device) (p : Nat) : Nat := nearest 0 2 (d.field (ingReg p 0x1C) 2 1)

/-- A statistic class of an ingest port. -/
def countIng (p cls : Nat) (d : Device) : Device := countStat d (p + 8) cls

/-- A transmit packet number used (R175): MACSEC_PN_HIGH once per SA, MACSEC_PN_EXHAUSTED after the last. -/
def usePn (p : Nat) (d : Device) : Device :=
  match (d.ingPort p).txSa with
  | some sa =>
    if !(macsecOn d p) || decide (0xFFFFFFFF < sa.pn) then d
    else
      let told := leN 1 (p + 8) ++ leN 1 1 ++ leN 1 sa.an
      let high := decide (0xC0000000 ≤ sa.pn) && !sa.high
      let d := setIng p (fun l => { l with txSa := some { sa with pn := sa.pn + 1, high := sa.high || high } }) d
      let d := when high (raise 0x1004 told) d
      when (sa.pn == 0xFFFFFFFF) (raise 0x1005 told) d
  | none => d

/-- A frame's bytes, without FCS, protected under a transmit SA (R173): SecTAG with explicit SCI, GCM-AES-256 over the rest. -/
def protectFrame (sa : Sa) (bs : List Byte) : List Byte :=
  let body := bs.drop 12
  let tag : List Byte := [0x88, 0xE5] ++ beN 1 (0x2C + sa.an) ++ beN 1 (if body.length < 48 then body.length else 0) ++
    beN 4 sa.pn ++ beN 8 sa.sci.toNat
  let iv := beN 8 sa.sci.toNat ++ beN 4 sa.pn
  let aad := bs.take 12 ++ tag
  let c := gcmCrypt sa.sak iv body
  aad ++ c ++ gcmTag sa.sak iv aad c

/-- A frame starting on an ingest port (R173, R175, R178): protected under the transmit SA active as it starts, while MACsec is
enabled; none leaves unprotected or past the last packet number. -/
def startIngest (p : Nat) (bs : List Byte) (d : Device) : Device :=
  if macsecOn d p then
    match (d.ingPort p).txSa with
    | some sa =>
      if 0xFFFFFFFF < sa.pn then d
      else
        let b := protectFrame sa bs
        usePn p (tx d { port := p + 8, bytes := b ++ fcs b })
    | none => d
  else tx d { port := p + 8, bytes := bs ++ fcs bs }

/-- A frame of an ingest port (R150, R160): none where the port is down; held, not yet protected, while a pause is in force. -/
def sendIngest (p : Nat) (bs : List Byte) (d : Device) : Device :=
  let l := d.ingPort p
  if !l.up then d
  else if 0 < l.pause then setIng p (fun l => { l with held := l.held ++ [{ port := p + 8, bytes := bs }] }) d
  else startIngest p bs d

/-- Whether a port with MACsec enabled may send at all (R175): it has an active transmit SA with a packet number left. -/
def canSend (p : Nat) (d : Device) : Bool :=
  !(macsecOn d p) || (match (d.ingPort p).txSa with | some sa => decide (sa.pn ≤ 0xFFFFFFFF) | none => false)

/-- Whether a received frame carries a SecTAG (R173). -/
def tagged (bs : List Byte) : Bool := cut bs 12 2 == [0x88, 0xE5]

/-- The association number of a SecTAG. -/
def tagAn (bs : List Byte) : Nat := be bs 14 1 % 4

/-- The packet number of a SecTAG. -/
def tagPn (bs : List Byte) : Nat := be bs 16 4

/-- The explicit SCI of a SecTAG; none where it is implicit (R173). -/
def tagSci (bs : List Byte) : Option (BitVec 64) := if hasBit (be bs 14 1) 5 then some (BitVec.ofNat 64 (be bs 20 8)) else none

/-- Whether a frame is one of a receive SA (R173, R174): the SCI, where it is explicit, is the receive channel's, and the ICV is
that of GCM-AES-256 under the SA's key; without the E bit the data is authenticated and not encrypted. -/
def icvGood (sa : Sa) (bs : List Byte) : Bool :=
  let n := if (tagSci bs).isSome then 28 else 20
  let aad := bs.take n
  let body := (bs.drop n).take (bs.length - n - 16)
  let iv := beN 8 sa.sci.toNat ++ beN 4 (tagPn bs)
  let tag := if hasBit (be bs 14 1) 3 then gcmTag sa.sak iv aad body else gcmTag sa.sak iv (aad ++ body) []
  decide (n + 16 ≤ bs.length) && (match tagSci bs with | some c => c == sa.sci | none => true) &&
    tag == bs.drop (bs.length - 16)

/-- The MACsec checks of a received frame (R174): whether it goes on. -/
def secCheck (p : Nat) (bs : List Byte) (d : Device) : Bool × Device :=
  if !(macsecOn d p) || macsecValidate d p == 2 then
    if tagged bs then (false, d.bump 0x2900 1) else (true, d)
  else if !(tagged bs) then
    if macsecValidate d p = 1 then (true, d) else (false, countIng p 5 d)
  else
    match (d.ingPort p).rxSa.getD (tagAn bs) none with
    | none => (false, countIng p 5 d)
    | some sa =>
      if !(icvGood sa bs) then (false, countIng p 5 d)
      else if tagPn bs < max sa.low (sa.pn - d.word (ingReg p 0x20)) ∨ 0xFFFFFFFF < sa.pn then
        (false, (countIng p 5 d).bump (ingReg p 0x24) 1)
      else (true, setIng p (fun l => { l with rxSa := setAt l.rxSa (tagAn bs) (some { sa with pn := max sa.pn (tagPn bs + 1) }) }) d)

/-- Receiving a frame on an ingest port (R174, R220 to R230): whether it reaches its protocol. A MACsec failure is rewound, a frame
for which the queue has no place is dropped, a poisoned one is discarded. -/
def ingestIn (x : IngRx) (d : Device) : Bool × Device :=
  let p := x.port.val
  if !(d.ingPort p).up then (false, d)
  else
    let a := queueWrite (p + 8) x.bytes x.read x.bad d
    let (ok, d) := secCheck p x.bytes a.dev
    let n := failing x.bytes x.bad
    if !ok then (false, if a.full then d else queueRewind (p + 8) (ftqCount x.bytes.length) d)
    else if a.full then (false, d)
    else if 0 < n then (false, poisoned (p + 8) n d)
    else (true, d)

/-- What a frame does that reaches its protocol. -/
def fromIngest (x : IngRx) (f : Device → Device) (d : Device) : Device :=
  let (ok, d) := ingestIn x d
  if ok then f d else d

end Sys2Proof.Machine
end

