-- ==== Sys2Proof/Machine/Time.lean ====
section
/-! DEFINITION. Machine/Time.lean: the shared clock: TIME frames, link delays, references, the servo, first lock, refused
jumps and steps (R49 to R78). -/

namespace Sys2Proof.Machine

/-- A time state's code (R54). -/
def timeCode (t : TimeState) : Nat :=
  match t with
  | .free => 0 | .acquire => 1 | .track => 2 | .locked => 3 | .holdover => 4 | .refused => 5

/-- A source's code (R123). -/
def sourceCode (t : TimeSource) : Nat := match t with | .ptp => 0 | .sync => 1 | .free => 2 | .none => 3

/-- The shared clock changed. -/
def setTime (f : Time → Time) (d : Device) : Device := { d with tim := f d.tim }

/-- A time state entered; a change is noted for the next boundary's reply card (R126). -/
def Time.enter (s : TimeState) (t : Time) : Time := { t with state := s, changed := t.changed || t.state != s }

/-- The time in ns that has passed since an RP. -/
def passedNs (d : Device) (p : RP) : Int := d.clk.raster.nsOf (RP.dist d.clk.raster d.clk.rp p)

/-- The offset of R56 in ns: a reference RP minus the device's own RP. -/
def refOffset (d : Device) (ref : RP) : Int := d.clk.raster.nsOf (RP.dist d.clk.raster ref d.clk.rp)

/-! ### Postmarks (R169 to R172) -/

/-- A link port's postmark corrections in 0.1 ns (R170): transmit and receive. -/
def lnkCorr (fec : Bool) : Nat × Nat := if fec then (406, 2353) else (142, 227)

/-- An ingest port's postmark corrections in 0.1 ns (R170): transmit and receive. -/
def ingCorr (fec : Bool) : Nat × Nat := if fec then (420, 1394) else (180, 314)

/-- A time in 0.1 ns in units of 2^-16 ns, rounded down (DESIGN CHOICE, log entry 112). -/
def tenths16 (n : Nat) : Nat := n * 65536 / 10

/-- A time in ps in units of 2^-16 ns, rounded down (DESIGN CHOICE, log entry 112). -/
def ps16 (n : Int) : Int := n * 65536 / 1000

/-- A link port's receive postmark, corrected (R169). -/
def rxPost (d : Device) (p : Nat) (mark : BitVec 64) : BitVec 64 := mark - BitVec.ofNat 64 (tenths16 (lnkCorr (d.port p).fec).2)

/-- A link port's transmit postmark, corrected (R169). -/
def txPost (d : Device) (p : Nat) (mark : BitVec 64) : BitVec 64 := mark + BitVec.ofNat 64 (tenths16 (lnkCorr (d.port p).fec).1)

/-- Whether an ingest port runs RS-FEC (R149). -/
def ingFec (d : Device) (p : Nat) : Bool := hasBit (d.word (ingReg p 0)) 0

/-- ING_PTP_ASYM in ps; a value outside its range counts as the nearest within it (R172, R535). -/
def ptpAsym (d : Device) (p : Nat) : Int := clamp (signed 32 (d.word (ingReg p 0x18))) (-100000) 100000

/-- An ingest port's receive postmark for PTP, corrected by R170, by the skew of the PCS lane it came on (R171), and by
ING_PTP_ASYM (R172). -/
def ingRxPost (d : Device) (p lane : Nat) (mark : BitVec 64) : BitVec 64 :=
  mark - BitVec.ofNat 64 (tenths16 (ingCorr (ingFec d p)).2) -
    BitVec.ofInt 64 (ps16 ((nth (d.ingPort p).skew lane : Int) + ptpAsym d p))

/-- An ingest port's transmit postmark, corrected (R170). -/
def ingTxPost (d : Device) (p : Nat) (mark : BitVec 64) : BitVec 64 := mark + BitVec.ofNat 64 (tenths16 (ingCorr (ingFec d p)).1)

/-- A device without its own TIME settings: a node measures in TIME periods of its preferred direction (R64). -/
def dirSet (pair dir : Nat) (f : DirTime → DirTime) (d : Device) : Device :=
  setTime (fun t => { t with dirs := modAt t.dirs (2 * pair + dir) f }) d

/-- What a node keeps of a pair's TIME frames. -/
def pairTime (d : Device) (pair : Nat) : PairTime := d.tim.pairs.getD pair {}

/-- A pair's record changed. -/
def pairSet (pair : Nat) (f : PairTime → PairTime) (d : Device) : Device :=
  setTime (fun t => { t with pairs := modAt t.pairs pair f }) d

/-- The preferred direction of a pair (R69): A, unless head X's state is not LOCKED while head Y's is; the other where
only it is present. -/
def prefDir (d : Device) (pair : Nat) : Nat :=
  let a := dirOf d pair 0
  let b := dirOf d pair 1
  if a.seen && !b.seen then 0
  else if b.seen && !a.seen then 1
  else if a.state != 3 && b.state == 3 then 1 else 0

/-- A node's offset by one pair (R67, R69), in 2^-16 ns: the path's code, the offset, and whether the lambdas are to be
stored. Both directions present without a valid loop give path LINKSUM, by the preferred direction, even where its lambda is
stored (DESIGN CHOICE, log entry 113: the rule's STORED branch names one direction present, and its last branch does not say
which direction it takes). -/
def pairOffset (d : Device) (pair : Nat) : Option (Nat × Int × Bool) :=
  let a := dirOf d pair 0
  let b := dirOf d pair 1
  let x := dirOf d pair (prefDir d pair)
  let alone := match x.lambda with
    | some l => some (1, l - x.a, false)
    | none => some (2, x.linkSum - x.a, false)
  if a.seen && b.seen && !(pairTime d pair).disagree then
    match x.loop with
    | some l => some (0, (l - a.a - b.a) / 2, true)
    | none => some (2, x.linkSum - x.a, false)
  else if a.seen || b.seen then alone
  else none

/-- The pair a node takes its time from (R69): the lowest that offers path BOTH, else the lowest that offers any. -/
def timePair (d : Device) : Option Nat :=
  match (List.range 4).find? (fun p => match pairOffset d p with | some (0, _, _) => true | _ => false) with
  | some p => some p
  | none => (List.range 4).find? (fun p => (pairOffset d p).isSome)

/-- The head of a node's preferred direction, as a fault report's subject (R412). -/
def prefHead (d : Device) : Option (BitVec 12) :=
  match timePair d with
  | some p => some (BitVec.ofNat 12 (dirOf d p (prefDir d p)).headNode)
  | none => none

/-- The lambdas of path BOTH stored (R67). -/
def storeLambdas (pair : Nat) (off : Int) (d : Device) : Device :=
  let put := fun (x : DirTime) => { x with lambda := some (x.a + off), lamLink := x.linkSum }
  dirSet pair 1 put (dirSet pair 0 put d)

/-- The TIME period in force, in units of 62.5 µs (R64): a node keeps the one last received of its preferred direction. -/
def timePeriod (d : Device) : Nat := if d.isHead then nearest 1 16 (d.field 0x3014 4 0) else d.tim.period

/-- The TIME period in force in ns. -/
def periodNs (d : Device) : Int := timePeriod d * 62500

/-- Whether an instant lies less than two TIME periods back: no period has passed without it. -/
def recently (d : Device) (p : Option RP) : Bool :=
  match p with | some p => decide (passedNs d p < 2 * periodNs d) | none => false

/-- The jump threshold in force in ns (R44, R58). -/
def jumpThreshold (d : Device) : Nat := nearest 100 1000000 d.tim.threshold

/-- Rates of the last second: those that ended more than a second before `now` are forgotten. -/
def recentRates (r : Raster) (now : RP) : List (RP × Int) → List (RP × Int)
  | a :: b :: rest => if 1000000000 ≤ r.nsOf (RP.dist r now b.1) then recentRates r now (b :: rest) else a :: b :: rest
  | l => l

/-- How much of the last second has passed since an RP, in ns. -/
def inSecond (r : Raster) (now p : RP) : Int := clamp (r.nsOf (RP.dist r now p)) 0 1000000000

/-- The rates of the last second, each times the ns it held. -/
def rateArea (r : Raster) (now : RP) : List (RP × Int) → Int
  | [] => 0
  | [a] => inSecond r now a.1 * a.2
  | a :: b :: rest => (inSecond r now a.1 - inSecond r now b.1) * a.2 + rateArea r now (b :: rest)

/-- The mean of the device's rate over the last second, or over what there is since its first lock (R74, R75; log entry 109). -/
def meanRate (d : Device) : Int :=
  match d.tim.rates with
  | a :: _ =>
    let n := inSecond d.clk.raster d.clk.rp a.1
    if n = 0 then d.tim.rate else rateArea d.clk.raster d.clk.rp d.tim.rates / n
  | [] => d.tim.rate

/-- The rate set, and kept for the mean of the last second. -/
def setRate (rate : Int) (d : Device) : Device :=
  setTime (fun t => { t with rate := rate, rates := recentRates d.clk.raster d.clk.rp (t.rates ++ [(d.clk.rp, rate)]) }) d

/-- A measurement has been made now: the slew of the next one counts from here (R57). -/
def measured (d : Device) : Device := setTime (fun t => { t with lastServo := some d.clk.rp }) d

/-- The servo (R57): the rate moves towards what it demands, within the slew since the measurement before and within ±200 ppm; a
demand beyond the pull is reported once per entry to the limit, by its low 32 bits (DESIGN CHOICE, log entry 135). Rates are in 0.001 ppm; `slew` in 0.001 ppm per second. -/
def servo (slew : Nat) (d : Device) : Device :=
  let want := Config.servoDemand d.tim.fresh
  let since := match d.tim.lastServo with | some p => (passedNs d p).toNat | none => 0
  let step : Int := (since * slew / 1000000000 : Nat)
  let rate := clamp (clamp want (d.tim.rate - step) (d.tim.rate + step)) (-200000) 200000
  let tooFar := decide (200000 < want) || decide (want < -200000)
  let d' := setRate rate (setTime (fun t => { t with fresh := t.fresh + 1, pullLimit := tooFar }) d)
  when (tooFar && !d.tim.pullLimit) (raise 0x0105 (leN 4 (unsig 32 want))) d'

/-- A device enters LOCKED (R55, R59, R71). -/
def enterLocked (d : Device) : Device :=
  let was := d.tim.state
  raise 0x0101 (leN 1 (timeCode was))
    (setTime (fun t => { t.enter .locked with everLocked := true, lockRun := 0, jumpRun := 0, meas := 0 }) d)

/-- A device enters REFUSED (R59). -/
def enterRefused (off : Int) (d : Device) : Device :=
  raise 0x0102 (leN 8 (unsig 64 off) ++ d.clk.rp.bytes)
    (setTime (fun t => { t.enter .refused with lockRun := 0, jumpRun := 0, meas := 0 }) d)

/-- A measurement judged after first lock (R55, R58, R59, R71, R76): `lockNs` and `lockN` are the lock window's offset and
length; `off16` is in 2^-16 ns, of which a register or notice gives the whole ns, rounded down (DESIGN CHOICE, log entry 135). -/
def judgeOffset (lockNs lockN slew : Nat) (off16 : Int) (d : Device) : Device :=
  let big := decide (jumpThreshold d * 65536 < off16.natAbs)
  let d := setTime (fun t => { t with off16 := off16, offsetNs := off16 / 65536 }) d
  measured (match d.tim.state with
  | .track =>
    let run := if off16.natAbs < lockNs * 65536 then d.tim.lockRun + 1 else 0
    let d := servo slew (setTime (fun t => { t with lockRun := run }) d)
    if lockN ≤ run then enterLocked d else d
  | .locked =>
    if big then
      let run := d.tim.jumpRun + 1
      if 4 ≤ run then enterRefused (off16 / 65536) d else setTime (fun t => { t with jumpRun := run }) d
    else servo slew (setTime (fun t => { t with jumpRun := 0 }) d)
  | .refused =>
    let run := if big then 0 else d.tim.lockRun + 1
    let d := setTime (fun t => { t with lockRun := run }) d
    if 16 ≤ run then enterLocked d else d
  | .holdover =>
    let bad := d.tim.jumpRun + bit big
    let n := d.tim.meas + 1
    if 16 ≤ n then
      if bad = 0 then setTime (fun t => { t.enter .track with meas := 0, jumpRun := 0, lockRun := 0 }) d
      else enterRefused (off16 / 65536) d
    else setTime (fun t => { t with meas := n, jumpRun := bad }) d
  | _ => d)

/-- Arrivals kept against a clock carried over to the clock that stands `off16` further on (R67, R71), in 2^-16 ns. -/
def dirsMoved (off16 : Int) (ds : List DirTime) : List DirTime := ds.map (fun x => { x with a := x.a + off16 })

/-- The RPs that stand for past instants, moved by `n` sub with the count (R60, R71). -/
def marksBy (r : Raster) (n : Int) (t : Time) : Time :=
  let mv := fun (p : RP) => RP.plus r p n
  { t with
    lastServo := t.lastServo.map mv, rates := t.rates.map (fun x => (mv x.1, x.2)),
    ltc := t.ltc.map (fun l => { l with start := mv l.start }),
    dirs := t.dirs.map (fun x => { x with at_ := x.at_.map mv, foreignFrom := x.foreignFrom.map mv, foreignAt := x.foreignAt.map mv }),
    pairs := t.pairs.map (fun x => { x with conflict := x.conflict.map mv }) }

/-- No past instant of a count that has ended (R46). -/
def unmarked (t : Time) : Time :=
  { t with
    boundary := none, owed := none, cutoff := none, deadline := none, lastServo := none, rates := [],
    dirs := t.dirs.map (fun x => { x with at_ := none, foreign := none, foreignFrom := none, foreignAt := none }),
    pairs := t.pairs.map (fun x => { x with conflict := none }) }

/-- What a device holds as past instants, each made another RP (R2, R46). -/
def pastMoved (mv : RP → RP) (d : Device) : Device :=
  let rep := fun (r : Report) => { r with first := mv r.first }
  let queue := fun (q : PortQueue) => { q with gap := q.gap.map (fun m => { m with first := mv m.first }) }
  { d with
    tim := { d.tim with ltc := d.tim.ltc.map (fun l => { l with start := mv l.start }) },
    hif := { d.hif with
      reports := d.hif.reports.map rep, repWins := d.hif.repWins.map rep, dropFirst := d.hif.dropFirst.map mv,
      lostFirst := d.hif.lostFirst.map mv, posted := d.hif.posted.map (fun x => (x.1, mv x.2)), sort := d.hif.sort.map (fun k => { k with first := mv k.first }) },
    link := d.link.map (fun l => { l with quietTo := none, queue := queue l.queue }),
    ing := d.ing.map (fun l => { l with queue := queue l.queue }),
    topo := { d.topo with pairs := d.topo.pairs.map (fun p => { p with cards := p.cards.map (fun x => (x.1, x.2.1, mv x.2.2)) }) },
    mtr := { d.mtr with lastZc := d.mtr.lastZc.map mv } }

/-- A device whose RP restarts from RP[0:0:0] on a raster (R46): nothing of the count that ends survives but how long ago its instants
lie, which the new count gives (DEDUCED, log entry 134), and no sub-refresh of it is to come. -/
def restarted (r : Raster) (d : Device) : Device :=
  let d' := pastMoved (d.clk.rebase r) d
  { d' with clk := d.clk.restart r, tim := unmarked d'.tim, out := { d.out with subFrame := 0 - 1, sub := 256 } }

/-- The clock after a step of `off16`, in 2^-16 ns, made now (R60): set forward, or held. An offset of 0, for which the rule gives
no direction, is made as a forward step of 0 (DESIGN CHOICE, log entry 114). -/
def steppedClock (off16 : Int) (c : Clock) : Clock :=
  if 0 ≤ off16 then c.shift off16 else c.held (some (off16 / 65536).natAbs)

/-- What a step made leaves (R60, R61, R98): LOCKED, TIME_STEPPED, a head's generation and step frame, and the commands it
skipped late. `off`: Δ in whole ns, rounded down (DESIGN CHOICE, log entry 135). -/
def stepDone (off : Int) (was : RP) (d : Device) : Device :=
  let d := raise 0x0103 (leN 8 (unsig 64 off) ++ was.bytes ++ d.clk.rp.bytes)
    (setTime (fun t => { t.enter .locked with
      everLocked := true, lockRun := 0, jumpRun := 0, meas := 0, stepFrom := none,
      stepGen := if d.isHead then t.stepGen + 1 else t.stepGen,
      stepFrame := if d.isHead then d.clk.rp.frame else t.stepFrame }) d)
  afterStep was d

/-- The RPs that stand for past instants of the output, moved by `n` sub with the count (R60). -/
def outMarksBy (r : Raster) (n : Int) (o : Output) : Output :=
  let mv := fun (p : RP) => RP.plus r p n
  { o with
    scans := o.scans.map (fun s => { s with start := mv s.start }),
    sections := o.sections.map (fun s => { s with start := mv s.start }),
    resumed := o.resumed.map mv,
    load := o.load.map (fun l =>
      { l with released := l.released.map mv, pos := l.pos.map (fun p => { p with since := mv p.since }) }) }

/-- The RPs that stand for past instants of the fixtures, moved by `n` sub with the count (R60, R423). -/
def fixMarksBy (mv : RP → RP) (x : Fix) : Fix :=
  { x with
    ports := x.ports.map (fun p => { p with busyTo := p.busyTo.map mv, packet := p.packet.map (fun q => (mv q.1, q.2)) }),
    strs := x.strs.map (fun s => { s with lit := s.lit.map mv }) }

/-- A device whose RP has moved by `n` sub in a step: what it holds as past instants moves with it. -/
def marksMoved (n : Int) (d : Device) : Device :=
  setTime (marksBy d.clk.raster n) { d with
    out := outMarksBy d.clk.raster n d.out, fix := fixMarksBy (fun p => RP.plus d.clk.raster p n) d.fix }

/-- What a forward step does to the output (R328, R333): the sub-refresh in progress ends, and a LOAD is complete only once it has had
the time it needs. -/
def outStepped (d : Device) : Device :=
  let o := d.out
  { d with out := { o with scanning := false, scans := [], load := o.load.map (fun l => { l with complete := false }) } }

/-- A step made now (R60): a forward one is whole; a backward one ends when its hold does. The arrivals kept of a node's TIME
frames are carried over to the clock after it, as at a first lock (DEDUCED, log entry 19). Where the RP stands on a boundary whose work
has not been done, a forward step leaves that work owed (DEDUCED, log entry 128). -/
def makeStep (off16 : Int) (d : Device) : Device :=
  let was := d.clk.rp
  let here := nextBoundary d
  let d1 := setTime (fun t => { t with dirs := dirsMoved off16 t.dirs }) { d with clk := steppedClock off16 d.clk }
  if 0 ≤ off16 then
    quiet (fun d => outStepped (stepDone (off16 / 65536) was (marksMoved (RP.dist d.clk.raster d.clk.rp was)
      (when (was == RP.start here) (setTime (fun t => { t with owed := some (t.owed.getD here) })) d)))) d1
  else setTime (fun t => { t with stepFrom := some was, stepDelta := off16 / 65536 }) d1

/-- BACKWARD_STEP_RESUME: the hold ends (R60). -/
def resumeFx (d : Device) : Device :=
  match d.clk.hold with
  | none => d
  | some _ =>
    let was := d.tim.stepFrom.getD d.clk.rp
    let d1 := { d with clk := d.clk.held none }
    quiet (fun d =>
      let d := stepDone d.tim.stepDelta was (marksMoved (d.clk.raster.subOf d.tim.stepDelta) d)
      match d.tim.stepCmd with
      | some c => finish 1 c d.clk.rp [] (setTime (fun t => { t with stepCmd := none }) d)
      | none => d) d1

/-- Whether this head's step needs a partner's confirmation: it has a dual-head ring whose closing link is up (R62). -/
def stepNeedsPartner (d : Device) : Bool :=
  d.isHead && (match d.topo.map with
    | some m => (headRings d m).any (fun (_, r, pair, _) => r.dual && !((d.topo.pairs.getD pair {}).closeDown))
    | none => false)

/-- Whether the partner of every dual-head ring with its closing link up confirms the same due RP and boundary (R62). -/
def stepConfirmed (d : Device) (due : RP) : Bool :=
  match d.topo.map with
  | some m => (headRings d m).all (fun (_, r, pair, _) =>
      let hp := d.topo.pairs.getD pair {}
      !r.dual || hp.closeDown || (match hp.partner with
        | some i => hasBit i.flags 2 && i.stepDue == BitVec.ofNat 64 (due.frame.toNat * 2 ^ 32 + due.ls) &&
            i.stepAt == d.clk.rp.frame
        | none => false))
  | none => true

/-- Whether an authorised step waits for a partner's confirmation at the present boundary (R62). -/
def stepHolds (c : Cmd) (d : Device) : Bool :=
  let m := opN c 0 4
  d.tim.state == .refused && (m == 0 || decide (d.tim.off16.natAbs ≤ m * 65536)) && stepNeedsPartner d && !(stepConfirmed d (dueRp c))

/-- An authorised step made or refused at the present boundary (R60, R77). The offset measured at that boundary is the one measured
last (DESIGN CHOICE, log entry 115: the rule names no measurement made at the boundary itself). -/
def tryStep (c : Cmd) (maxStep : Nat) (d : Device) : Device :=
  let off16 := d.tim.off16
  if d.tim.state ≠ .refused then quiet (refuse 1 c 6 []) d
  else if 0 < maxStep ∧ maxStep * 65536 < off16.natAbs then quiet (refuse 1 c 9 []) d
  else
    let at_ := d.clk.rp
    let d := makeStep off16 d
    if 0 ≤ off16 then quiet (finish 1 c at_ []) d
    else quiet (setTime (fun t => { t with stepCmd := some c })) d

/-- TIME_STEP_AUTHORISE (R60, R62, R77): one that waits for a partner keeps its place in the schedule, at the next boundary. -/
def timeStepFx (c : Cmd) (d : Device) : Device :=
  if stepHolds c d then
    quiet (fun d => place 1 c d.sched.adm (RP.start (d.clk.rp.frame + 1)) (dueRp c) true
      { d with sched := { d.sched with adm := d.sched.adm + 1 } }) d
  else tryStep c (opN c 0 4) d

/-- TIME_SET_THRESHOLD (R77): the register of the threshold reads it too (R535). -/
def timeThresholdFx (c : Cmd) (d : Device) : Device :=
  let v := opN c 0 4
  if v < 100 ∨ 1000000 < v then refuse 2 c 4 [] d
  else finish 2 c (boundaryRp d) [] ((setTime (fun t => { t with threshold := v }) d).setWord 0x3010 v)

/-- The result of TIME_QUERY (R78). -/
def timeResult (d : Device) : List Byte :=
  leN 1 (timeCode d.tim.state) ++ leN 1 d.tim.path ++ zeros 2 ++ leN 4 (unsig 32 (sat31 d.tim.offsetNs)) ++
  leN 4 (unsig 32 d.tim.rate) ++ d.clk.rp.bytes

/-- TIME_QUERY (R77, R78). -/
def timeQueryFx (c : Cmd) (d : Device) : Device := finish 3 c (boundaryRp d) (timeResult d) d

/-- The payload of a RING TIME frame (R63, R123): its origin is the RP at the row, taken as the corrected transmit postmark on every port
(DESIGN CHOICE, log entry 137). -/
def timePayload (d : Device) (loop : Option Int) : List Byte :=
  leN 1 0 ++ beN 1 (timeCode d.tim.state + 16 * sourceCode d.tim.source) ++ beN 1 d.tim.stepGen.toNat ++
  beN 1 (timePeriod d) ++ beN 4 d.tim.stepFrame.toNat ++ beN 4 d.clk.rp.frame.toNat ++ beN 4 d.clk.rp.ls ++
  beN 2 (d.clk.frac / 65536) ++ beN 2 d.clk.raster.lines ++ beN 4 d.clk.raster.num ++ beN 2 d.clk.raster.den ++ zeros 2 ++
  beN 4 d.tim.label.toNat ++ zeros 16 ++
  (match loop with | some l => beN 8 (unsig 64 l) | none => List.replicate 8 0xFF)

/-- A TIME frame originated on a port (R132, R138); one with UNASSIGNED set carries the fingerprint in place of a sequence. A head
sends none during its own insertion interval there (R144, R145). -/
def sendTime (p dir pair hop : Nat) (payload : List Byte) (d : Device) : Device :=
  let n := (d.port p).timeSeq.toNat
  let unasg := d.topo.nodeId.isNone && !d.isHead
  let h : Hdr := { cls := 3, head := if d.isHead then d.headIndex else 0, dir := dir, bcast := true, hop := hop,
                   seq := if unasg then be d.sec.fingerprint 0 4 else n, restart := !unasg && decide (n < 64), unasg := unasg,
                   src := d.nodeNo, stamp := d.clk.rp, pair := pair }
  if unasg then
    if (d.port p).cardFrame = some d.clk.rp.frame then d
    else tx (d.setPort p (fun l => { l with cardFrame := some d.clk.rp.frame })) (sealFrame d p h payload)
  else sendOwn (d.setPort p (fun l => { l with timeSeq := l.timeSeq + 1 })) (sealFrame d p h payload) false none

/-- The mean of two measurements of a loop, or the one there is (R66). -/
def loopMean (a b : Option Int) : Option Int :=
  match a, b with
  | some a, some b => some ((a + b) / 2)
  | some a, none => some a
  | none, b => b

/-- The ring a head knows on a pair, and whether it is its head X. -/
def ringOn (d : Device) (pair : Nat) : Option (RingEntry × Bool) :=
  match mapKnown d with
  | some m => ((headRings d m).find? (fun (_, _, q, _) => q == pair)).map (fun (_, r, _, x) => (r, x))
  | none => none

/-- The loop a head carries on a pair's ring (R66): the mean of both measurements, or the one there is. On a dual-head ring the
half of the other direction is the partner's, as its PARTNER frames give it. -/
def carriedLoop (d : Device) (pair : Nat) : Option Int :=
  let own := fun (dir : Nat) => d.tim.loops.getD (2 * pair + dir) none
  let partner := match (d.topo.pairs.getD pair {}).partner with
    | some i => if i.loop.toNat = 2 ^ 64 - 1 then none else some i.loop.toInt
    | none => none
  match ringOn d pair with
  | some (r, isX) =>
    if r.dual then loopMean (own (if isX then 0 else 1)) partner else loopMean (own 0) (own 1)
  | none => loopMean (own 0) (own 1)

/-- The (pair, port, direction) triples on which a head sends TIME frames: those of its rings; every pair as a single-head
ring while it knows no map (R34). -/
def timeOuts (d : Device) : List (Nat × Nat × Nat) :=
  match mapKnown d with
  | some m => (headRings d m).flatMap (fun (_, r, pair, isX) => (headOuts r pair isX).map (fun (p, dir) => (pair, p, dir)))
  | none => (List.range 4).flatMap (fun pair => [(pair, 2 * pair, 0), (pair, 2 * pair + 1, 1)])

/-- A link port woken from low-power idle (R163, R166): the frames it held leave, in order. -/
def wakePort (p : Nat) (d : Device) : Device :=
  let fs := (d.port p).held
  fs.foldl tx (d.setPort p (fun l => { l with lpiTx := false, held := [] }))

/-- A head's RING TIME frame on a port (R63, R145, R166): the port has been woken in time for it, and its own insertion interval
follows it. -/
def sendRing (p dir pair : Nat) (d : Device) : Device :=
  let d := sendTime p dir pair 1 (timePayload d (carriedLoop d pair)) (releasePort (wakePort p d) p)
  let gap := d.clk.raster.subOf (periodNs d * 3 / 32)
  d.setPort p (fun l => { l with quietTo := some (RP.plus d.clk.raster d.clk.rp gap) })

/-- TIME_PERIOD_TICK (R63): a head's RING TIME frames, unless its configuration is invalid (R43). -/
def timeTickFx (d : Device) : Device :=
  if d.isHead && !d.tim.cfgInvalid && !(forwardOnly d) && !d.pwr.inReset then
    (timeOuts d).foldl (fun d (pair, p, dir) => sendRing p dir pair d) d
  else d

/-- TIME_PERIOD_TICK. -/
def execTimePeriodTick (s : State) : Result := act timeTickFx s

/-- LINK_DELAY_EXCHANGE (R65): a DELAY_REQ with its own transmit postmark, whose capture is `t1`. A device that may send no second
frame with UNASSIGNED set on the port in this raster frame (R126) leaves the exchange out (DESIGN CHOICE, log entry 107). A head whose
settings are invalid makes it all the same: the TIME frames of R43 are taken as those of R63 (DESIGN CHOICE, log entry 138). -/
def delayExchangeFx (p : Nat) (t1 : BitVec 64) (d : Device) : Device :=
  let t1 := txPost d p t1
  sendTime p (sendDir d p) (pairOf p) 0 ([1] ++ zeros 31 ++ beN 8 t1.toNat ++ zeros 16)
    (d.setPort p (fun l => { l with t1 := some t1 }))

/-- LINK_DELAY_EXCHANGE. -/
def execLinkDelayExchange (port : Fin 8) (t1 : BitVec 64) (s : State) : Result := act (delayExchangeFx port.val t1) s

/-- A TIME frame of one kind taken from a port. -/
def takeTime (f : RxFrame) (kind : Nat) (edit : List Byte → List Byte) (d : Device) : Seen :=
  let t := takeClass f edit d
  match t.got with
  | some (h, b) => if h.cls = 3 ∧ be b 0 1 = kind then t else { t with got := none }
  | none => t

/-- The neighbour a delay frame names (R412). -/
def neighbour (p : Nat) (h : Hdr) (d : Device) : Device :=
  d.setPort p (fun l => { l with neighbour := if h.unasg then none else some (BitVec.ofNat 12 h.src) })

/-- DELAY_REQ (R65): answered with the receive and transmit postmarks, whose captures are the frame's and `t3`. -/
def delayReqFx (f : RxFrame) (t3 : BitVec 64) (d : Device) : Device :=
  let p := f.port.val
  let t := takeTime f 1 id d
  match t.got with
  | some (h, b) =>
    sendTime p (sendDir d p) (pairOf p) 0 ([2] ++ zeros 31 ++ cut b 32 8 ++ beN 8 (rxPost d p f.mark).toNat ++ beN 8 (txPost d p t3).toNat)
      (neighbour p h t.dev)
  | none => t.dev

/-- DELAY_REQ. -/
def execDelayReq (f : RxFrame) (t3 : BitVec 64) (s : State) : Result := act (delayReqFx f t3) s

/-- DELAY_RESP (R65): the delay of the exchange under way, kept among the last 8. -/
def delayRespFx (f : RxFrame) (d : Device) : Device :=
  let t := takeTime f 2 id d
  match t.got with
  | some (h, b) =>
    let p := f.port.val
    let t1 := BitVec.ofNat 64 (be b 32 8)
    let t2 := BitVec.ofNat 64 (be b 40 8)
    let t3 := BitVec.ofNat 64 (be b 48 8)
    let delay : Int := ((rxPost d p f.mark - t1).toInt - (t3 - t2).toInt) / 2
    (neighbour p h t.dev).setPort p (fun l =>
      if l.t1 = some t1 then { l with t1 := none, delays := lastN 8 (l.delays ++ [delay]) } else l)
  | none => t.dev

/-- DELAY_RESP. -/
def execDelayResp (f : RxFrame) (s : State) : Result := act (delayRespFx f) s

/-- The delay of a port's link (R65): the median of the last 8 results. -/
def linkDelay (d : Device) (p : Nat) : Int := median (d.port p).delays

/-- A RING TIME frame as it leaves a forwarder by port `out` (R65): its residence raised by the transmit postmark minus the receive
postmark, each corrected, and its link_sum by the delay of the link it came by. -/
def timeEdit (t : TimeRx) (out : Nat) (d : Device) (bs : List Byte) : List Byte :=
  if be bs 14 1 % 16 = 3 ∧ be bs 38 1 = 0 then
    let stay := (txPost d out t.txMark - rxPost d t.frame.port.val t.frame.mark).toInt
    let bs := splice bs 70 (beN 8 (unsig 64 (signed 64 (be bs 70 8) + stay)))
    splice bs 78 (beN 8 (unsig 64 (be bs 78 8 + linkDelay d t.frame.port.val)))
  else bs

/-- The raster a TIME payload carries. -/
def timeRaster (b : List Byte) : Raster := { num := be b 20 4, den := be b 24 2, lines := be b 18 2 }

/-- The origin of a TIME payload. -/
def timeOrigin (b : List Byte) : RP :=
  { frame := BitVec.ofNat 32 (be b 8 4), line := bitsOf (be b 12 4) 28 16, sub := be b 12 4 % 65536 }

/-- The quantity a or b of R67, in 2^-16 ns: the own RP at the corrected receive postmark, taken back by R48 from where the RP
stands, minus the origin, minus residence. -/
def timeArrival (d : Device) (t : TimeRx) (b : List Byte) : Int :=
  let r := d.clk.raster
  let ago := (t.now - rxPost d t.frame.port.val t.frame.mark).toInt
  let d16 := RP.dist r d.clk.rp (timeOrigin b) * 65536 + d.clk.frac / 65536 - r.subOf ago - be b 16 2
  r.nsOf d16 - signed 64 (be b 32 8)

/-- PROOF frames more than two display frames old leave the backlog (R146). -/
def dropOldProof (f : BitVec 32) (ws : List Waiting) : List Waiting :=
  ws.filter (fun w => match w.proof with | some g => decide (frameDiff f g ≤ 2) | none => true)

/-- The insertion interval of a node's port after a TIME frame has left it (R64, R145, R146): the run of frames that follows it passes
first, then the device's own frames fill what is left. -/
def insertion (p follow : Nat) (d : Device) : Device :=
  let room := timePeriod d * 1171875 / 64
  let d := d.setPort p (fun l => { l with backlog := dropOldProof d.clk.rp.frame l.backlog, room := room - follow, run := follow })
  if follow = 0 then insertNow p d else d

/-- A head's use of a RING TIME frame that has come round (R66, R139): its own gives the loop; a partner's goes on over the
closing link, unless its hop count is 255 (R142). -/
def headTime (t : TimeRx) (h : Hdr) (b : List Byte) (d : Device) : Device :=
  let p := t.frame.port.val
  let pair := pairOf p
  if h.head = d.headIndex then
    let meas := timeArrival d t b - (if isClosing d p then linkDelay d p else 0)
    setTime (fun m => { m with loops := setAt m.loops (2 * pair + h.dir) (some meas) }) d
  else if isClosing d p then d
  else match headPort d p with
    | some _ =>
      (match mapKnown d with
       | some m =>
         (match (headRings d m).find? (fun (_, _, q, _) => q == pair) with
          | some (_, r, q, isX) =>
            (match closingPort r q isX with
             | some c => if h.hop = 255 then hopLimit p h d else tx d (forwarded t.frame .good (timeEdit t c d) c)
             | none => d)
          | none => d)
       | none => d)
    | none => d

/-- Whether a RING TIME frame is one a node treats as present (R63): the head LOCKED, HOLDOVER or REFUSED, or FREE by
source. -/
def headReady (b : List Byte) : Bool :=
  let st := be b 1 1 % 16
  st == 3 || st == 4 || st == 5 || bitsOf (be b 1 1) 5 4 == 2

/-- Whether a node takes the raster of a frame on `pair` before its first lock (R44): at its first usable frame, or from a lower pair. One
that has come back from ACQUIRE to FREE (R75) takes it from any pair (DESIGN CHOICE, log entry 139). -/
def adopts (d : Device) (pair : Nat) (r : Raster) : Bool :=
  d.tim.state == .free ||
    (!d.tim.firstLock && d.clk.raster != r && (match d.tim.follow with | some q => decide (pair < q) | none => true))

/-- Whether a ready head's TIME payload is of no use by itself: its period, its raster or its origin's line (R41, R64, R70). -/
def timeUnusable (b : List Byte) : Bool :=
  let period := be b 3 1 % 32
  let r := timeRaster b
  decide (period < 1) || decide (16 < period) || decide (r.lines ≤ (timeOrigin b).line) || !r.valid

/-- Whether a raster differs from the configuration the node follows (R70); before it has adopted one it follows none. -/
def otherRaster (d : Device) (r : Raster) : Bool := d.tim.follow.isSome && d.clk.raster != r

/-- Whether R70 has a node forward a RING TIME frame unchanged: one it discards for its franking, its period, its origin's line
or its raster. -/
def timeUnchanged (f : RxFrame) (d : Device) : Bool :=
  let b := rxPayload f
  !d.isHead && !(forwardOnly d) &&
    (!(frankGood d f) || timeUnusable b || (!(headReady b && adopts d (pairOf f.port.val) (timeRaster b)) && otherRaster d (timeRaster b)))

/-- P and C as the assignment by a ring pair gave them, where it has (R90). -/
def presentOf (pair : Nat) (d : Device) : Device :=
  match d.tim.presents.getD pair none with
  | some (p, c) => setTime (fun t => { t with presentP := p, presentC := c }) d
  | none => d

/-- A node's clock on adopting a raster (R44, R46): restarted at its first usable frame and at each change of the adoption; one
that comes back from FREE to the same configuration runs on, as it does after a wake until the new first lock (R518). P and C are
those the pair's assignment gave (R90). -/
def adoptRaster (pair : Nat) (r : Raster) (d : Device) : Device :=
  let keep := d.clk.raster == r && (d.pwr.woke || d.tim.follow.isSome)
  let d := if keep then d else restarted r d
  quiet (presentOf pair) (quiet (setTime (fun t => { t.enter .acquire with
    follow := some pair, meas := 0, lockRun := 0, dirs := t.dirs.map (fun x => { x with seen := false }) })) d)

/-- A usable TIME frame of a configuration the node does not follow (R44, R70, R576): reported once per pair, and again only after
64 TIME periods without one. A run of them is broken by frames of another configuration on the pair, and by two periods without
any. -/
def foreignRaster (pair dir : Nat) (r : Raster) (d : Device) : Device :=
  let now := d.clk.rp
  let told := match (pairTime d pair).conflict with | some p => decide (passedNs d p < 64 * periodNs d) | none => false
  let y := dirOf d pair (1 - dir)
  let mixed := y.foreign.isSome && y.foreign != some r && recently d y.foreignAt
  let d := when mixed (dirSet pair (1 - dir) (fun y => { y with foreign := none, foreignFrom := none, foreignAt := none })) d
  let x := dirOf d pair dir
  let goes := decide (x.foreign = some r) && !mixed && recently d x.foreignAt
  let d := dirSet pair dir (fun x =>
    { x with foreign := some r, foreignAt := some now, foreignFrom := if goes then x.foreignFrom else some now }) d
  when (!told) (raise 0x0109 (leN 1 (d.tim.follow.getD pair) ++ leN 1 pair)) (pairSet pair (fun x => { x with conflict := some now }) d)

/-- A direction's latest usable frame kept (R67, R68): a stored lambda moves with a change of link_sum above 2 ns. The preferred
direction's period is the one in force (R64). -/
def keepDir (pair : Nat) (t : TimeRx) (h : Hdr) (b : List Byte) (d : Device) : Device :=
  let own := be b 40 8 + linkDelay d t.frame.port.val
  let loop := be b 48 8
  let d := dirSet pair h.dir (fun x =>
    let moved := decide (131072 < (own - x.lamLink).natAbs)
    { x with
      seen := true, lost := false, at_ := some d.clk.rp, a := timeArrival d t b, linkSum := own,
      loop := if loop = 2 ^ 64 - 1 then none else some (signed 64 loop), state := be b 1 1 % 16,
      source := bitsOf (be b 1 1) 5 4, stepGen := BitVec.ofNat 8 (be b 2 1), period := be b 3 1 % 32,
      raster := timeRaster b, head := h.head, headNode := h.src, ltc := BitVec.ofNat 32 (be b 28 4),
      foreign := none, foreignFrom := none, foreignAt := none,
      lambda := x.lambda.map (fun l => if moved then l + (own - x.lamLink) else l),
      lamLink := if moved then own else x.lamLink }) d
  when (timePair d == some pair && prefDir d pair == h.dir) (setTime (fun m => { m with period := be b 3 1 % 32 })) d

/-- The heads' disagreement (R69): entered when the two directions' offsets differ by more than 50 ns, left after 16 consecutive
periods in which both came and agreed within it. The notice gives direction A's offset minus direction B's, in whole ns rounded down,
by its low 32 bits (DESIGN CHOICE, log entry 135). -/
def headsAgree (pair : Nat) (d : Device) : Device :=
  let a := dirOf d pair 0
  let b := dirOf d pair 1
  let q := pairTime d pair
  let both := a.seen && b.seen && recently d a.at_ && recently d b.at_
  match both, a.lambda, b.lambda with
  | true, some la, some lb =>
    let diff : Int := (la - a.a) - (lb - b.a)
    if 50 * 65536 < diff.natAbs then
      when (!q.disagree) (raise 0x0107 (leN 1 pair ++ leN 4 (unsig 32 (diff / 65536))))
        (pairSet pair (fun x => { x with disagree := true, agreeRun := 0 }) d)
    else if q.disagree then
      pairSet pair (fun x => { x with disagree := decide (x.agreeRun + 1 < 16), agreeRun := x.agreeRun + 1 }) d
    else d
  | _, _, _ => pairSet pair (fun x => { x with agreeRun := 0 }) d

/-- What a pair's record takes once per TIME period, on a usable frame of its preferred direction (R69). -/
def pairPeriod (pair dir : Nat) (d : Device) : Device := if prefDir d pair ≠ dir then d else headsAgree pair d

/-- The offset a single direction gives: STORED where it has a lambda, else LINKSUM (R67). -/
def dirOffset (x : DirTime) : Int := match x.lambda with | some l => l - x.a | none => x.linkSum - x.a

/-- Whether a node has made its first lock and follows a head. -/
def steady (t : TimeState) : Bool := t == .track || t == .locked || t == .refused || t == .holdover

/-- A node's measurement from a usable frame (R61, R67, R69, R71): it runs once per TIME period, on the preferred direction's
frame. At a change of the step generation the other direction's latest frame is still of the old one: the node steps by the
preferred direction alone (DESIGN CHOICE, log entry 111). -/
def nodeMeasure (pair dir : Nat) (d : Device) : Device :=
  match timePair d with
  | none => d
  | some q =>
    if q ≠ pair ∨ prefDir d pair ≠ dir then d
    else
      let x := dirOf d pair dir
      let d := quiet (setTime (fun t => { t with label := x.ltc })) d
      if steady d.tim.state && d.tim.genSeen.isSome && d.tim.genSeen != some x.stepGen then
        makeStep (dirOffset x) (quiet (fun d => dirSet pair (1 - dir) (fun y => { y with seen := false })
          (setTime (fun t => { t with genSeen := some x.stepGen }) d)) d)
      else
        quiet (fun d =>
          let d := setTime (fun t => { t with genSeen := some x.stepGen }) d
          match pairOffset d pair with
          | some (path, off, store) =>
            let d := when store (storeLambdas pair off) d
            let d := setTime (fun t => { t with path := path, off16 := off, offsetNs := off / 65536 }) d
            if d.tim.state = .acquire then setTime (fun t => { t with meas := t.meas + 1 }) d
            else judgeOffset 25 64 20000 off d
          | none => d) d

/-- A node's use of a RING TIME frame (R63, R70): one with a bad period, line or raster, or of a raster the node does not follow, is
discarded and counted whatever its head's state; one of a head that is not ready is treated as absent. -/
def nodeTime (t : TimeRx) (h : Hdr) (b : List Byte) (d : Device) : Device :=
  let p := t.frame.port.val
  let pair := pairOf p
  let r := timeRaster b
  if timeUnusable b then quiet (malformed p) d
  else if !(headReady b) then when (otherRaster d r) (quiet (malformed p)) d
  else
    let d := if adopts d pair r then adoptRaster pair r d else d
    if d.clk.raster ≠ r then quiet (fun d => foreignRaster pair h.dir r (malformed p d)) d
    else
      nodeMeasure pair h.dir (quiet (fun d => pairPeriod pair h.dir (keepDir pair t h b d)) d)

/-- What a RING TIME frame's payload is when a node forwards it (R65, R70). -/
def timeOnward (t : TimeRx) (d : Device) (b : List Byte) : List Byte :=
  if timeUnchanged t.frame d then b else timeEdit t (otherPort t.frame.port.val) d b

/-- Whether a node forwards a frame as a RING TIME frame, with an insertion interval behind it (R140, R145), whatever it makes of it
itself; before its first usable TIME frame it has no interval running (R64). -/
def intervalPasses (f : RxFrame) (d : Device) : Bool :=
  let h := rxHdr f
  !d.isHead && d.tim.follow.isSome && (d.port f.port.val).up && silnalEnvelope f && wireCheck f != .runt && h.cls == 3 && h.hop != 0 &&
    h.hop != 255 && be (rxPayload f) 0 1 == 0

/-- TIME_FRAME (R65 to R71): forwarded with its own frames inserted behind it, and used for time. -/
def timeFrameFx (t : TimeRx) (d : Device) : Device :=
  let p := t.frame.port.val
  let k := takeTime t.frame 0 (timeOnward t d) d
  let d1 := keepClk d k.dev
  match k.got with
  | some (h, b) =>
    if d.isHead then quiet (headTime t h b) d1
    else quiet (fun e => when (intervalPasses t.frame e) (insertion (otherPort p) t.follow) e) (nodeTime t h b d1)
  | none => quiet (when (intervalPasses t.frame d1) (insertion (otherPort p) t.follow)) d1

/-- TIME_DIRECTION_LOST (R70): a direction of a pair that carries time in the other; the head of one that has never been heard is
not known, so the report is of the receiving head (DESIGN CHOICE, log entry 116). -/
def directionLostFx (pair dir : Nat) (d : Device) : Device :=
  let x := dirOf d pair dir
  let y := dirOf d pair (1 - dir)
  if d.isHead || x.lost || !(x.seen || y.seen || y.lost) then d
  else
    report 2 (x.at_.map (fun _ => BitVec.ofNat 12 x.headNode)) 0x0106 (leN 1 pair ++ leN 1 dir)
      (dirSet pair dir (fun x => { x with seen := false, lost := true }) d)

/-- TIME_DIRECTION_LOST. -/
def execTimeDirectionLost (pair : Fin 4) (dir : Fin 2) (s : State) : Result := act (directionLostFx pair.val dir.val) s

/-- HOLDOVER entered from TRACK, LOCKED or REFUSED (R74, R75): the rate is frozen at its mean over the last second. -/
def enterHoldover (cause : Nat) (subject : Option (BitVec 12)) (d : Device) : Device :=
  report 1 subject 0x0104 (leN 1 cause)
    (setRate (meanRate d) (setTime (fun t => { t.enter .holdover with meas := 0, jumpRun := 0, lockRun := 0 }) d))

/-- A reference or TIME frames lost (R55, R74, R75): ACQUIRE returns to FREE. -/
def timeLost (cause : Nat) (subject : Option (BitVec 12)) (d : Device) : Device :=
  match d.tim.state with
  | .acquire => setTime (fun t => { t.enter .free with meas := 0, delays := [], lockRun := 0 }) d
  | .track => enterHoldover cause subject d
  | .locked => enterHoldover cause subject d
  | .refused => enterHoldover cause subject d
  | _ => d

/-- TIME_HOLDOVER (R75). -/
def execTimeHoldover (s : State) : Result :=
  act (fun d => if d.isHead then d
    else
      let subject := prefHead d
      timeLost 2 subject (setTime (fun t => { t with dirs := t.dirs.map (fun x => { x with seen := false }) }) d)) s

/-- The first `n` frames of a list that have a copy in the other direction, no longer having one (R146). -/
def untwin : Nat → List Waiting → List Waiting
  | _, [] => []
  | 0, ws => ws
  | n + 1, w :: ws => if w.twin then { w with twin := false } :: untwin n ws else w :: untwin (n + 1) ws

/-- INSERT_BACKLOG (R146): own frames have waited through 16 intervals; reported once, and waiting frames whose copy goes the other
way are removed, those copies standing for them. -/
def insertBacklogFx (pair dir : Nat) (d : Device) : Device :=
  match outPort d pair dir with
  | none => d
  | some p =>
    let l := d.port p
    if d.isHead || l.reported || !(l.backlog.any (fun w => decide (16 ≤ w.waits))) then d
    else
      let bytes := l.backlog.foldl (fun n w => n + w.frame.bytes.length) 0
      let gone := (l.backlog.filter (fun w => w.twin)).length
      let d := d.setPort p (fun l => { l with backlog := l.backlog.filter (fun w => !w.twin), reported := true })
      let d := d.setPort (otherPort p) (fun l => { l with backlog := (untwin gone l.backlog.reverse).reverse })
      report 4 none 0x1020 (leN 1 pair ++ leN 1 dir ++ leN 4 bytes)
        (d.setPort p (fun l => { l with reported := !l.backlog.isEmpty }))

/-- INSERT_BACKLOG. -/
def execInsertBacklog (pair : Fin 4) (dir : Fin 2) (s : State) : Result := act (insertBacklogFx pair.val dir.val) s

/-- Whether a head takes reference measurements (R54, R514): after its first entry to RUN, in RUN or QUIET. One whose settings are
invalid (R43) takes none: it stays in FREE, so it evaluates none of its held commands, until the next reset (DESIGN CHOICE, log
entry 117). -/
def measures (d : Device) (src : TimeSource) : Bool :=
  d.isHead && d.pwr.everRun && d.tim.source == src && !d.tim.cfgInvalid

/-- TIM_PTP_DOMAIN (R42). -/
def ptpDomain (d : Device) : Nat := nearest 0 127 (d.field 0x3018 7 0)

/-- The data set of an Announce, in the order in which the best master clock algorithm compares it (R50; PRESUMED, log entry
108). -/
def dataSet (a : Announce) : List Nat := [a.priority1, a.clockClass, a.accuracy, a.variance, a.priority2, a.gm.toNat]

/-- Whether a list of numbers comes before another, the first difference deciding. -/
def listBefore : List Nat → List Nat → Bool
  | a :: as, b :: bs => decide (a < b) || (a == b && listBefore as bs)
  | _, _ => false

/-- Whether master `a` is preferred to `b` (R50): under one grandmaster IG0 before IG1, then by the steps removed; else by their data
sets; then by the sender. -/
def masterFirst (a b : Master) : Bool :=
  if a.ann.gm = b.ann.gm then listBefore [a.port, a.ann.steps, a.ann.sender.toNat] [b.port, b.ann.steps, b.ann.sender.toNat]
  else listBefore (dataSet a.ann) (dataSet b.ann)

/-- The master selected among those heard on both ports (R50). -/
def bestMaster : List Master → Option Master
  | [] => none
  | m :: ms =>
    match bestMaster ms with
    | none => some m
    | some x => some (if masterFirst x m then x else m)

/-- The masters heard are now `ms`: the best of them is selected, with the port it is heard on; a change of grandmaster is reported
(R50). -/
def selectMaster (ms : List Master) (d : Device) : Device :=
  match bestMaster ms with
  | none => setTime (fun t => { t with masters := ms }) d
  | some best =>
    let gm := best.ann.gm
    let d' := setTime (fun t => { t with masters := ms, gm := some gm, ptpPort := best.port }) d
    match d.tim.gm with
    | some o => when (o != gm) (raise 0x010A (leN 8 o.toNat ++ leN 8 gm.toNat)) d'
    | none => d'

/-- PTP_ANNOUNCE (R50, R55): one of the domain, on a port that runs PTP, is kept, and the best master heard is selected. -/
def ptpAnnounceFx (rx : IngRx) (a : Announce) (d : Device) : Device :=
  let port := rx.port.val
  fromIngest rx (fun d =>
    if !(measures d .ptp) || !hasBit (d.field 0x301C 1 0) port || d.pwr.state == .standby || a.domain != ptpDomain d then d
    else
      setTime (fun t => if t.state = .free then t.enter .acquire else t)
        (selectMaster (d.tim.masters.filter (fun m => !(m.port == port && m.ann.sender == a.sender)) ++ [{ port := port, ann := a }]) d)) d

/-- The masters heard on a port are heard no longer (R50): its announces have timed out, or it is down; one heard on the other port
takes over. -/
def mastersGone (port : Nat) (d : Device) : Device :=
  if d.tim.masters.any (fun m => m.port == port) then selectMaster (d.tim.masters.filter (fun m => m.port != port)) d else d

/-- PTP_ANNOUNCE. -/
def execPtpAnnounce (rx : IngRx) (a : Announce) (s : State) : Result := act (ptpAnnounceFx rx a) s

/-- Whether a path delay is accepted (R55): within 4 times the median absolute deviation of the last 16, once there are
16. -/
def delayAccepted (delays : List Int) (x : Int) : Bool :=
  if delays.length < 16 then true
  else
    let m := median delays
    let mad := median (delays.map (fun v => ((v - m).natAbs : Int)))
    decide (((x - m).natAbs : Int) ≤ 4 * mad)

/-- What a first lock does once the RP stands where the lock puts it (R46, R55, R71, R575): TRACK, no instant of the new count
has been worked, and the held commands are evaluated. -/
def lockTaken (rate : Int) (d : Device) : Device :=
  evaluateHeld (setTime (fun t =>
    { t.enter .track with
      firstLock := true, rate := rate, rates := [(d.clk.rp, rate)], lastServo := some d.clk.rp, meas := 0, lockRun := 0,
      jumpRun := 0, boundary := none, owed := none, cutoff := none, deadline := none })
    { d with out := { d.out with subFrame := d.clk.rp.frame - 1, sub := 256 } })

/-- A head's first lock (R46, R55): the RP is set once, the rate estimate is 0 ppm, TRACK. -/
def headFirstLock (rp : RP) (d : Device) : Device :=
  let was := d.clk.rp
  quiet (fun d => lockTaken 0 (setTime (marksBy d.clk.raster (RP.dist d.clk.raster d.clk.rp was)) d)) { d with clk := d.clk.goTo rp }

/-- The frames of a PTP exchange (R50, R174, R175): the Sync is received and the Delay_Req sent on the port in use, and the
Delay_Resp received; no exchange can be made where the port may send nothing. -/
def ptpFrames (m : PtpExchange) (d : Device) : Bool × Device :=
  let p := m.sync.port.val
  let (a, d) := ingestIn m.sync d
  let wanted := measures d .ptp && d.pwr.state != .standby && m.domain == ptpDomain d && p == d.tim.ptpPort && canSend p d
  let d := when (a && wanted) (startIngest p m.req) d
  let (b, d) := ingestIn m.resp d
  (a && wanted && b && m.resp.port == m.sync.port, setIng p (fun l => { l with skew := setAt l.skew m.lane.val m.skew }) d)

/-- The path delay of a PTP exchange (R55), in 2^-16 ns. -/
def ptpDelay (m : PtpExchange) (d : Device) : Int :=
  let p := m.sync.port.val
  ((m.t4 : Int) - m.t1 - (ingTxPost d p m.t3 - ingRxPost d p m.lane.val m.t2).toInt) / 2

/-- The PTP time now, in whole ns (R49): that of the master at t1, the path delay, and what has passed since t2. -/
def ptpNow (m : PtpExchange) (d : Device) : Nat :=
  ((m.t1 + ptpDelay m d + (m.now - ingRxPost d m.sync.port.val m.lane.val m.t2).toInt) / 65536).toNat

/-- A PTP measurement made (R50, R55, R56): its path delay and offset. -/
def ptpTaken (m : PtpExchange) (d : Device) : Device :=
  let delay := ptpDelay m d
  let ns := ptpNow m d
  let good := delayAccepted d.tim.delays delay
  let d := quiet (setTime (fun t => { t with delays := lastN 16 (t.delays ++ [delay]), ptpNs := ns })) d
  if !good then d
  else match d.tim.state with
    | .free => d
    | .acquire =>
      if 8 ≤ d.tim.meas + 1 then headFirstLock (ptpRp d.clk.raster ns) d
      else quiet (setTime (fun t => { t with meas := t.meas + 1 })) d
    | _ => quiet (fun d => judgeOffset 100 16 10000 (refOffset d (ptpRp d.clk.raster ns) * 65536) d) d

/-- PTP_MEASUREMENT (R50, R55, R56): made where the three frames of the exchange are. -/
def ptpMeasurementFx (m : PtpExchange) (d : Device) : Device :=
  let d1 := keepClk d (ptpFrames m d).2
  if (ptpFrames m d).1 then ptpTaken m d1 else d1

/-- PTP_MEASUREMENT. -/
def execPtpMeasurement (m : PtpExchange) (s : State) : Result := clocked (ptpMeasurementFx m) s

/-- PTP_ANNOUNCE_TIMEOUT (R50, R74): the announces of the port in use have timed out; a master heard on the other port takes over, and
with none the reference is lost (DESIGN CHOICE, log entry 176: the row names no port). -/
def announceTimeoutFx (d : Device) : Device :=
  if !(measures d .ptp) then d
  else
    let d := mastersGone d.tim.ptpPort d
    if d.tim.masters.isEmpty then timeLost 0 none d else d

/-- PTP_ANNOUNCE_TIMEOUT. -/
def execPtpAnnounceTimeout (s : State) : Result := act announceTimeoutFx s

/-- The frame an edge is for (R51, R74), `rp` being the RP that TIM_SYNC_OFFSET after it: the first multiple of TIM_SYNC_DIV whose
window, one line after its start, has not closed. -/
def edgeFrameAt (rp : RP) (div : Nat) : BitVec 32 :=
  let f := if rp.line < 1 ∨ (rp.line = 1 ∧ rp.sub = 0) then rp.frame else rp.frame + 1
  BitVec.ofNat 32 (ceilDiv f.toNat div * div)

/-- k of R51: the raster rate as a multiple of an accepted LTC rate. -/
def ltcRatio (r : Raster) (l : LtcFrame) : Option Nat :=
  let known := [(24, 1), (25, 1), (30, 1), (30000, 1001)].any (fun (n, m) => l.rateNum * m == n * l.rateDen)
  if known then ((List.range 10).map (· + 1)).find? (fun k => r.num * l.rateDen == k * r.den * l.rateNum) else none

/-- LTC frames in a day at an LTC's rate and counting (R51). -/
def ltcDay (l : LtcFrame) : Int := if hasBit l.label.toNat 6 then 2589408 else ceilDiv l.rateNum l.rateDen * 86400

/-- The frame number a SYNC head takes at first lock (R51), and whether LTC gave it. `start`: the RP, on the provisional count, at
which the frame that the edge marks starts. -/
def syncFrame (d : Device) (start : RP) : Int × Bool :=
  match d.tim.ltc with
  | some l =>
    match ltcRatio d.clk.raster l with
    | some k =>
      if d.field 0x302C 0 0 = 1 ∧ l.steady then
        let r := d.clk.raster
        let per : Int := r.frameSub
        let n := passedNs d l.start * l.rateNum / (1000000000 * l.rateDen)
        let begun := RP.plus r l.start (r.subOf (n * 1000000000 * l.rateDen / l.rateNum))
        let j := (2 * RP.dist r start begun + per) / (2 * per)
        (k * ((l.count + n + j / k) % ltcDay l) + j % k, true)
      else (0, false)
    | none => (0, false)
  | none => (0, false)

/-- TIM_SYNC_OFFSET in ns: the frame an edge marks starts that long after the edge (R51). -/
def syncOffset (d : Device) : Int := signed 32 (d.word 0x3028)

/-- SYNC_IN_EDGE (R51, R55, R58, R74). -/
def syncEdgeFx (falling : Bool) (d : Device) : Device :=
  if !(measures d .sync) || (falling != (d.field 0x3024 0 0 == 1)) then d
  else
    let r := d.clk.raster
    let div := nearest 1 16 (d.field 0x3020 4 0)
    let off := r.subOf (syncOffset d)
    let f := edgeFrameAt (RP.plus r d.clk.rp off) div
    if d.tim.edgeFrame = some f ∧ d.tim.firstLock then d
    else
      let d := quiet (setTime (fun t => { t with edgeFrame := some f, edgesMissed := 0 })) d
      match d.tim.state with
      | .free => quiet (setTime (fun t => { t.enter .acquire with meas := 0 })) d
      | .acquire =>
        if 8 ≤ d.tim.meas + 1 then
          let (n, known) := syncFrame d (RP.plus r d.clk.rp off)
          let rp := RP.plus r (RP.start (BitVec.ofInt 32 n)) (-off)
          headFirstLock rp (quiet (setTime (fun t => { t with ltcUnaligned := !known })) d)
        else quiet (setTime (fun t => { t with meas := t.meas + 1 })) d
      | _ =>
        let ref := RP.plus r (RP.start f) (-off)
        quiet (fun d => judgeOffset 100 16 10000 (refOffset d ref * 65536) d) d

/-- SYNC_IN_EDGE. -/
def execSyncInEdge (falling : Bool) (s : State) : Result := clocked (syncEdgeFx falling) s

/-- SYNC_EDGE_MISSING (R74): the third in a row loses the reference. -/
def syncMissingFx (d : Device) : Device :=
  if !(measures d .sync) then d
  else
    let n := d.tim.edgesMissed + 1
    let d := setTime (fun t => { t with edgesMissed := n }) d
    if n = 3 then timeLost 1 none d else d

/-- SYNC_EDGE_MISSING. -/
def execSyncEdgeMissing (s : State) : Result := act syncMissingFx s

/-- LTC_FRAME_DECODED (R52): the label of the raster frames that start while it is in progress. -/
def execLtcFrameDecoded (l : LtcFrame) (s : State) : Result :=
  act (fun d => if d.isHead && d.field 0x302C 0 0 == 1 then setTime (fun t => { t with ltc := some l }) d else d) s

/-- LTC_LOST (R52). -/
def execLtcLost (s : State) : Result :=
  act (fun d => if d.isHead && d.tim.ltc.isSome then
      raise 0x010B [] (setTime (fun t => { t with ltc := none, label := 0xFFFFFFFF }) d) else d) s

/-- WCLK_IN_EDGE (R53): the first edge at or after the frame's start gives the phase. -/
def wclkEdgeFx (hz : Nat) (d : Device) : Device :=
  if !d.isHead then d
  else setTime (fun t => { t with wclkHz := hz, wclkLost := false, wclkSeen := true,
                                  wclkPhase := if t.wclkSeen && !t.wclkLost then t.wclkPhase else d.clk.rp.inFrame }) d

/-- WCLK_IN_EDGE. -/
def execWclkInEdge (hz : Nat) (s : State) : Result := act (wclkEdgeFx hz) s

/-- WCLK_LOST (R53). -/
def execWclkLost (s : State) : Result :=
  act (fun d => if d.isHead && !d.tim.wclkLost then
      raise 0x010C [] (setTime (fun t => { t with wclkHz := 0, wclkPhase := 0, wclkLost := true, wclkSeen := false }) d)
    else d) s

/-- TIME_SET_THRESHOLD. -/
def execTimeSetThreshold (c : Cmd) (s : State) : Result := act (timeThresholdFx c) s

/-- TIME_QUERY. -/
def execTimeQuery (c : Cmd) (s : State) : Result := act (timeQueryFx c) s

/-- SHUTTER_SET. -/
def execShutterSet (c : Cmd) (s : State) : Result := act (shutterSetFx c) s

/-- NOP. -/
def execNop (c : Cmd) (s : State) : Result := act (nopFx c) s

end Sys2Proof.Machine
end

