-- ==== Sys2Proof/Machine/Map.lean ====
section
/-! DEFINITION. Machine/Map.lean: the system map: its layout (R29 to R33), its checks (R34) with the ring load rule (R35),
loading it (R36 to R40), and the assignments it gives (R121). -/

namespace Sys2Proof.Machine

/-- The result of checking a map: a check code with an entry index, or the map. -/
inductive MapVerdict where
  | bad (code idx : Nat)
  | good (m : SysMap)

/-- The index where the failing item is no table entry (R34). -/
def noIndex : Nat := 0xFFFFFFFF

/-- A ring entry with its member list (R30). -/
def readRing (b : List Byte) (off : Nat) : RingEntry :=
  { dual := hasBit (le b off 1) 0, fec := hasBit (le b off 1) 1, headX := le b (off + 1) 1, pairX := le b (off + 2) 1,
    headY := le b (off + 3) 1, pairY := le b (off + 4) 1,
    members := (List.range (le b (off + 5) 1)).map (fun i => le b (le b (off + 8) 4 + 2 * i) 2 % 4096) }

/-- A node record of a map's bytes. -/
def mapNode (b : List Byte) (off : Nat) : NodeRecord := readNode (fun o n => le b (off + o) n) (cut b (off + 4) 8)

/-- A slice-table entry (R32); bits 15:12 of its node_id, of which the table says nothing, are ignored (DESIGN CHOICE, log entry
118). -/
def readSlice (b : List Byte) (off : Nat) : SliceEntry :=
  { head := le b off 1, stream := le b (off + 1) 1, node := le b (off + 2) 2 % 4096, layer := le b (off + 4) 1,
    key := hasBit (le b (off + 5) 1) 0, srcX := le b (off + 8) 2, srcY := le b (off + 10) 2, srcW := le b (off + 12) 2,
    srcH := le b (off + 14) 2 }

/-- A universe-table entry (R33); bits 15:12 of its node_id are ignored (DESIGN CHOICE, log entry 118). -/
def readUniv (b : List Byte) (off : Nat) : UnivEntry :=
  { univ := le b off 2, head := le b (off + 2) 1, port := le b (off + 3) 1, node := le b (off + 4) 2 % 4096 }

/-- A map's tables as its header places them. -/
def readMap (b : List Byte) : SysMap :=
  { generation := BitVec.ofNat 32 (le b 0x0C 4),
    raster := { num := le b 0x10 4, den := le b 0x14 4, lines := le b 0x18 2 }, headCount := le b 0x1A 1,
    rings := (List.range (le b 0x1C 2)).map (fun i => readRing b (le b 0x20 4 + 16 * i)),
    nodes := (List.range (le b 0x1E 2)).map (fun i => mapNode b (le b 0x24 4 + 48 * i)),
    slices := (List.range (le b 0x2C 4)).map (fun i => readSlice b (le b 0x28 4 + 16 * i)),
    univs := (List.range (le b 0x34 4)).map (fun i => readUniv b (le b 0x30 4 + 8 * i)) }

/-- The stretches a map's tables and member lists take: first byte, length, entry index. One with no entries takes none, wherever its
offset points (DESIGN CHOICE, log entry 140). -/
def mapSpans (b : List Byte) : List (Nat × Nat × Nat) :=
  let tables := [(le b 0x20 4, 16 * le b 0x1C 2, noIndex), (le b 0x24 4, 48 * le b 0x1E 2, noIndex),
    (le b 0x28 4, 16 * le b 0x2C 4, noIndex), (le b 0x30 4, 8 * le b 0x34 4, noIndex)]
  let lists := (List.range (le b 0x1C 2)).map (fun i =>
    let r := le b 0x20 4 + 16 * i
    (le b (r + 8) 4, 2 * le b (r + 5) 1, i))
  (tables ++ lists).filter (fun (_, n, _) => n != 0)

/-- Check 0x03 of R34: every stretch after the header and before the CRC, no two overlapping. A member list that fails gives its
ring's index, a table none (DESIGN CHOICE, log entry 119). -/
def spansBad (spans : List (Nat × Nat × Nat)) (total : Nat) : Option Nat :=
  match spans.find? (fun (o, n, _) => decide (o < 64) || decide (total - 4 < o + n)) with
  | some (_, _, i) => some i
  | none =>
    match spans.zipIdx.find? (fun ((o, n, _), j) => (spans.take j).any (fun (p, m, _) => decide (o < p + m) && decide (p < o + n))) with
    | some ((_, _, i), _) => some i
    | none => none

/-- The first entry of a table that fails a test. -/
def firstBad {α : Type} (xs : List α) (ok : α → Bool) : Option Nat := xs.findIdx? (fun x => !(ok x))

/-- Check 0x04 of R34: counts, coded fields, the raster. -/
def rangesBad (m : SysMap) : Option Nat :=
  if m.headCount < 1 ∨ 64 < m.headCount ∨ 256 < m.rings.length ∨ m.nodes.length < 1 ∨ 4096 < m.nodes.length ∨ !m.raster.valid
      ∨ (m.rings.isEmpty ∧ !(m.nodes.length == 1 && m.nodes.all (fun n => n.role == 2))) then some noIndex
  else match firstBad m.rings (fun r => decide (r.headX ≤ 63) && decide (r.pairX ≤ 3) && decide (r.headY ≤ 63) && decide (r.pairY ≤ 3)) with
    | some i => some i
    | none => match firstBad m.nodes nodeRanges with
      | some i => some i
      | none => match firstBad m.slices (fun s => decide (s.head ≤ 63) && decide (s.stream ≤ 15) && decide (1 ≤ s.layer) &&
            decide (s.layer ≤ 7) && decide (1 ≤ s.srcW) && decide (s.srcW ≤ 8192) && decide (1 ≤ s.srcH) && decide (s.srcH ≤ 4320)) with
        | some i => some i
        | none => firstBad m.univs (fun u => decide (1 ≤ u.univ) && decide (u.univ ≤ 63999) && decide (u.head ≤ 63) &&
            decide (u.port ≤ 15))

/-- The heads of a map. -/
def mapHeads (m : SysMap) : List NodeRecord := m.nodes.filter (fun n => n.role != 0)

/-- Check 0x05 of R34. Where a check covers several tables or conditions, the index is that of the first failing entry of the first of
them in this order: rings, nodes, slices, universes for 0x04; the order of the node IDs, then the head indices for 0x05; rings, then
nodes for 0x06 (DESIGN CHOICE, log entry 141). -/
def idsBad (m : SysMap) : Option Nat :=
  match firstBad m.nodes.zipIdx (fun (n, i) => i == 0 || (match m.nodes[i - 1]? with
      | some p => decide (p.nodeId.toNat < n.nodeId.toNat) | none => true)) with
  | some i => some i
  | none => match firstBad m.nodes.zipIdx (fun (n, i) => n.role == 0 ||
        !((m.nodes.take i).any (fun p => p.role != 0 && p.headIndex == n.headIndex))) with
    | some i => some i
    | none => if (mapHeads m).length = m.headCount then none else some noIndex

/-- The record of a head index. -/
def headRec (m : SysMap) (h : Nat) : Option NodeRecord := (mapHeads m).find? (fun n => n.headIndex == h)

/-- The record of a node ID. -/
def nodeRec (m : SysMap) (id : Nat) : Option NodeRecord := m.nodes.find? (fun n => n.nodeId.toNat == id)

/-- The (head, pair) ends a ring takes. -/
def ringEnds (r : RingEntry) : List (Nat × Nat) := if r.dual then [(r.headX, r.pairX), (r.headY, r.pairY)] else [(r.headX, r.pairX)]

/-- Check 0x06 of R34. -/
def ringsBad (m : SysMap) : Option Nat :=
  match firstBad m.rings.zipIdx (fun (r, i) =>
      (ringEnds r).all (fun (h, p) => match headRec m h with | some n => nth n.rings p == i | none => false) &&
      (ringEnds r).all (fun e => !((m.rings.take i).any (fun q => (ringEnds q).contains e))) &&
      r.members.all (fun id => match nodeRec m id with | some n => n.role == 0 && n.rings.contains i | none => false) &&
      r.members.eraseDups.length == r.members.length) with
  | some i => some i
  | none => firstBad m.nodes (fun n => n.rings.zipIdx.all (fun (q, p) => q == 0xFFFF || (match m.rings[q]? with
      | some r => if n.role = 0 then r.members.contains n.nodeId.toNat && (n.rings.filter (· == q)).length == 1
                  else (ringEnds r).contains (n.headIndex, p)
      | none => false)))

/-- Check 0x07 of R34: the shapes of R20 and the size of R21. A single-head ring whose head_y or pair_y differs fails it too (DESIGN
CHOICE, log entry 120: R30 names no check code). -/
def shapesBad (m : SysMap) : Option Nat :=
  firstBad m.rings (fun r => decide (1 ≤ r.members.length) &&
    (if r.dual then decide (r.members.length ≤ 253) && r.headX != r.headY
     else decide (r.members.length ≤ 254) && r.headX == r.headY && r.pairX == r.pairY))

/-- Bits per frame that a node loads a ring with (R35). -/
def nodeLoad (n : NodeRecord) : Nat :=
  let p := ceilDiv (n.width * n.height * n.primaries * n.sliceBits) 8
  let q := ceilDiv (n.width * n.height) 16 * n.primaries
  8 * ((p + 96 * ceilDiv p 8192) + (q + 96 * ceilDiv q 8192))

/-- Whether a ring passes the ring load rule (R35). -/
def ringLoadOk (m : SysMap) (r : RingEntry) : Bool :=
  let load := (r.members.map (fun id => match nodeRec m id with | some n => nodeLoad n | none => 0)).sum
  decide (load * m.raster.num ≤ 20000000000 * m.raster.den)

/-- Check 0x08 of R34. -/
def sizesBad (m : SysMap) : Option Nat :=
  firstBad m.nodes (fun n => decide (n.width * n.height * n.primaries ≤ 393216) && decide (n.regionX + n.width ≤ 1048576) &&
    decide (n.regionY + n.height ≤ 1048576))

/-- Check 0x0A of R34. -/
def slicesBad (m : SysMap) : Option Nat :=
  firstBad m.slices (fun s => match nodeRec m s.node with
    | some n => decide (0 < n.width) && decide (s.layer < n.layers) | none => false)

/-- Check 0x0B of R34. -/
def univsBad (m : SysMap) : Option Nat :=
  firstBad m.univs.zipIdx (fun (u, i) =>
    let before := m.univs.take i
    decide ((before.filter (fun v => v.head == u.head)).length < 4096) &&
    !(before.any (fun v => v.head == u.head && v.univ == u.univ)) &&
    !(before.any (fun v => v.node == u.node && v.port == u.port)) &&
    (match nodeRec m u.node with | some n => hasBit n.dmxMask u.port | none => false))

/-- Whether a fingerprint is zero. -/
def fpZero (fp : List Byte) : Bool := fp.all (fun b => b == 0)

/-- A head's own entry in a map (R16). -/
def ownEntry (d : Device) (m : SysMap) : Option NodeRecord := headRec m d.headIndex

/-- The index of a head's own entry in the node table. -/
def ownIndex (d : Device) (m : SysMap) : Nat :=
  (m.nodes.findIdx? (fun n => n.role != 0 && n.headIndex == d.headIndex)).getD noIndex

/-- The raster configuration the set-up registers hold (R41). -/
def rasterRegs (d : Device) : Raster := { num := d.field 0x3004 23 0, den := d.field 0x3008 15 0, lines := d.field 0x300C 13 0 }

/-- The comparison of check 0x0C (R41): the rates as ratios, and the lines. -/
def sameRaster (a b : Raster) : Bool := a.num * b.den == b.num * a.den && a.lines == b.lines

/-- The checks of R34, in order. -/
def checkMap (d : Device) (b : List Byte) (bufLen : Nat) : MapVerdict :=
  let total := le b 8 4
  if cut b 0 4 ≠ [0x5A, 0x4C, 0x53, 0x4D] ∨ le b 4 2 ≠ 0x0100 ∨ le b 6 2 ≠ 64 then .bad 1 noIndex
  else if total < 128 ∨ 16777216 < total ∨ bufLen < total ∨ crc32 (b.take (total - 4)) ≠ le b (total - 4) 4 then .bad 2 noIndex
  else match spansBad (mapSpans b) total with
    | some i => .bad 3 i
    | none =>
      let m := readMap b
      match rangesBad m with
      | some i => .bad 4 i
      | none => match idsBad m with
        | some i => .bad 5 i
        | none => match ringsBad m with
          | some i => .bad 6 i
          | none => match shapesBad m with
            | some i => .bad 7 i
            | none => match sizesBad m with
              | some i => .bad 8 i
              | none => match firstBad m.rings (ringLoadOk m) with
                | some i => .bad 9 i
                | none => match slicesBad m with
                  | some i => .bad 0x0A i
                  | none => match univsBad m with
                    | some i => .bad 0x0B i
                    | none =>
                      if !(sameRaster m.raster (rasterRegs d)) then .bad 0x0C noIndex
                      else match ownEntry d m with
                        | some n => if fpZero n.fingerprint ∨ n.fingerprint = d.sec.fingerprint then .good m
                            else .bad 0x0D (ownIndex d m)
                        | none => .bad 0x0D noIndex

/-- A record's 48 bytes in an ASSIGN (R31, R121). -/
def nodeBytes (n : NodeRecord) : List Byte :=
  beN 2 n.nodeId.toNat ++ beN 1 n.role ++ beN 1 n.headIndex ++ n.fingerprint ++ n.rings.flatMap (beN 2) ++ beN 4 n.regionX ++
  beN 4 n.regionY ++ beN 2 n.width ++ beN 2 n.height ++ beN 1 n.primaries ++ beN 1 n.sliceBits ++ beN 1 n.layers ++ zeros 1 ++
  beN 2 n.dmxMask ++ zeros 10

/-- The heads that may send to a device (R27, R121): those of the rings its record names. -/
def headSetOf (m : SysMap) (n : NodeRecord) : Nat :=
  (List.range 64).foldl (fun w h =>
    if n.rings.any (fun q => match m.rings[q]? with | some r => (ringEnds r).any (fun e => e.1 == h) | none => false)
    then w + 2 ^ h else w) 0

/-- An ASSIGN body (R121). -/
def assignBody (d : Device) (m : SysMap) (n : NodeRecord) (fp : List Byte) : List Byte :=
  fp ++ nodeBytes n ++ beN 8 (headSetOf m n) ++ beN 1 (presentP d) ++ zeros 1 ++ beN 2 (cutLine d) ++ beN 4 m.generation.toNat

/-- A CTRL payload's header (R119). -/
def ctrlHead (op status count tag : Nat) : List Byte := beN 1 op ++ beN 1 status ++ beN 2 count ++ beN 4 tag

/-- An ASSIGN to the device with a fingerprint (R27, R121), stamped with the boundary from which it acts. -/
def sendAssign (m : SysMap) (r : RingEntry) (pair : Nat) (isX : Bool) (n : NodeRecord) (fp : List Byte) (f : BitVec 32)
    (d : Device) : Device :=
  headSend 2 true 0 (ctrlHead 5 0 0 0 ++ assignBody d m n fp) (RP.start f) r pair isX d

/-- The map's entry for a position of a ring. -/
def memberAt (m : SysMap) (r : RingEntry) (pos : Nat) : Option NodeRecord :=
  if pos = 0 then none else match r.members[pos - 1]? with | some id => nodeRec m id | none => none

/-- Whether a head does the binding on a ring (R27): head X, or head Y while X is absent. X counts as absent while the closing link is
down and Y feeds the ring, as R39 lets it (DESIGN CHOICE, log entry 121). -/
def binds (d : Device) (r : RingEntry) (pair : Nat) (isX : Bool) : Bool :=
  let hp := d.topo.pairs.getD pair {}
  if !r.dual then true else if hp.closeDown then hp.feeding else isX

/-- A ring pair of a head changed. -/
def setPair (pair : Nat) (f : HeadPair → HeadPair) (d : Device) : Device :=
  { d with topo := { d.topo with pairs := modAt d.topo.pairs pair f } }

/-- The ASSIGNs of a map about to switch (R121): one to every bound device whose position keeps its entry. -/
def assignBound (m : SysMap) (f : BitVec 32) (d : Device) : Device :=
  (headRings d m).foldl (fun d (_, r, pair, isX) =>
    if binds d r pair isX then
      ((d.topo.pairs.getD pair {}).bound).foldl (fun d (pos, fp) =>
        match memberAt m r pos with
        | some n => if fpZero n.fingerprint ∨ n.fingerprint = fp then sendAssign m r pair isX n fp f d else d
        | none => d) d
    else d) d

/-- A waiting map given up (R38, R40): where its ASSIGNs have gone out, the nodes are given back the records of the map in force from
the same boundary on (DEDUCED, log entry 106), and nothing waits. -/
def withdrawMap (d : Device) : Device :=
  let d1 := { d with topo := { d.topo with load := none } }
  match d.topo.load, d.topo.map with
  | some l, some m => if l.sent then assignBound m l.switchAt d1 else d1
  | _, _ => d1

/-- MAP_REJECTED (R34, R418). -/
def mapRejected (code idx gen : Nat) (d : Device) : Device :=
  raise 0x1010 (leN 1 code ++ zeros 3 ++ leN 4 idx ++ leN 4 gen) d

/-- A MAP_LOAD that fails its check (R34): completion and notice carry the code and the index. -/
def rejectMap (c : Cmd) (code idx gen : Nat) (d : Device) : Device :=
  mapRejected code idx gen (complete 0x1F c 4 none (leN 1 code ++ zeros 3 ++ leN 4 idx) (withdrawMap d))

/-- A host address operand that is not 64-byte aligned (R577). -/
def misaligned (c : Cmd) : Bool := opN c 0 8 % 64 != 0

/-- MAP_LOAD at admission (R36, R40, R577): a node does not serve it; an earlier load is cancelled. One that is itself refused here does
not proceed, so the earlier one stands (DESIGN CHOICE, log entry 142). -/
def mapLoadFx (c : Cmd) (d : Device) : Device :=
  if !d.isHead then refuse 0x1F c 5 [] d
  else if misaligned c then refuse 0x1F c 4 (zeros 4 ++ leN 4 noIndex) d
  else match (if d.tim.firstLock then loadRefusal c d else none) with
    | some st => loadRefused st c d
    | none =>
      let c := if d.tim.firstLock then loadTimed c d else c
      let d := match d.topo.load with
        | some l => complete 0x1F l.cmd 3 none [] (withdrawMap d)
        | none => d
      let l : MapLoad := { cmd := c, adm := d.sched.adm, judged := d.tim.firstLock }
      schedSample { d with sched := { d.sched with adm := d.sched.adm + 1 },
                           topo := { d.topo with load := some l, triesOver := true } }

/-- The boundary at which a checked map switches (R37): the later of the due RP's and the next. -/
def switchFrame (d : Device) (c : Cmd) : BitVec 32 :=
  let n := nextBoundary d
  if isNow c || c.late then n else if (RP.start n).before (dueRp c) then frameAfter (dueRp c) else n

/-- A checked map's switch boundary set to frame `f`, and its ASSIGNs sent (R37, R121). -/
def announceAt (l : MapLoad) (m : SysMap) (f : BitVec 32) (d : Device) : Device :=
  assignBound m f { d with topo := { d.topo with load := some { l with sent := true, switchAt := f } } }

/-- Boundaries without confirmation after which a head gives a map up (R38). -/
def mapTries : Nat := 64

/-- A checked map announced (R37, R121), once its due RP has been judged (R575); one given up is not announced again (R38). -/
def announceMap (d : Device) : Device :=
  match d.topo.load with
  | some l =>
    match l.map with
    | some m => if l.sent || !l.judged || decide (mapTries ≤ l.tries) then d else announceAt l m (switchFrame d l.cmd) d
    | none => d
  | none => d

/-- MAP_CHECK_COMPLETE (R34, R37, R121): the map read is accepted and announced, or rejected. -/
def mapCheckFx (d : Device) : Device :=
  match d.topo.load with
  | none => d
  | some l =>
    match l.map with
    | some _ => d
    | none =>
      match l.cmd.host with
      | .busError => schedSample (complete 0x1F l.cmd 0x0A none [] (withdrawMap d))
      | .none => schedSample (rejectMap l.cmd 1 noIndex 0 d)
      | .data b =>
        match checkMap d b (opN l.cmd 8 4) with
        | .bad code idx => schedSample (rejectMap l.cmd code idx (le b 0x0C 4) d)
        | .good m =>
          announceMap { d with topo := { d.topo with load := some { l with map := some m } } }

/-- MAP_CHECK_COMPLETE. -/
def execMapCheckComplete (s : State) : Result := act mapCheckFx s

/-- MAP_SWITCH_TIMEOUT (R38): after 64 boundaries without confirmation the new map is discarded with check code 0x0E. -/
def mapTimeoutFx (d : Device) : Device :=
  match d.topo.load with
  | some l =>
    match l.map with
    | some m => if mapTries ≤ l.tries then schedSample (rejectMap l.cmd 0x0E noIndex m.generation.toNat d) else d
    | none => d
  | none => d

/-- MAP_SWITCH_TIMEOUT. -/
def execMapSwitchTimeout (s : State) : Result := act mapTimeoutFx s

/-- How far the RP counts in one RAST cycle, in sub LSB, rounded up (R45, R105). -/
def cycleSub (r : Raster) : Nat := ceilDiv r.inc (2 ^ 32)

/-- Whether a point is reached in the present RAST cycle or lies behind it (R105): it comes less than one cycle's count after the RP
(DESIGN CHOICE, log entry 122: the model's RP stands on the due RP itself, not on the cycle's count). -/
def inCycle (d : Device) (p : RP) : Bool := p.before (RP.plus d.clk.raster d.clk.rp (cycleSub d.clk.raster))

/-- Whether SCHED_CANCEL with a tag, itself at `self`, cancels a pending command of the schedule (R104, R105). -/
def cancelHit (tag self : BitVec 32) (d : Device) (e : Entry) : Bool :=
  cancellable tag self e.cmd && !(e.judged && inCycle d (entryCommit d e))

/-- Whether it cancels a MAP_LOAD on its way: one whose switch has not been reached. -/
def cancelMap (tag self : BitVec 32) (d : Device) : Bool :=
  match d.topo.load with
  | some l => cancellable tag self l.cmd && !(l.sent && inCycle d (RP.start l.switchAt))
  | none => false

/-- Whether a KEY_LOAD held until a rollover ends passes a test; where the rollover ends in the present RAST cycle it is applied in it
(R105). -/
def heldIs (d : Device) (p : Cmd → Bool) (k : HeldKey) : Bool :=
  match k.cmd with
  | some c => p c && !(match d.sched.rolling with | some r => inCycle d (RP.start (r.k + 1)) | none => false)
  | none => false

/-- Whether a queued POWER_STATE_SET passes a test; where no transition runs and the next boundary lies in the present RAST cycle, the
first in the queue takes effect in it (R105, R519). -/
def powerIs (d : Device) (p : Cmd → Bool) (c : Cmd) : Bool :=
  p c && !(d.pwr.trans.isNone && d.pwr.queued.head? == some c && inCycle d (RP.start (nextBoundary d)))

/-- The commands that wait outside the schedule's entries and pass a test complete CANCELLED: KEY_LOADs held until a rollover ends,
queued POWER_STATE_SETs, and the map on its way where `mapToo`. -/
def cancelElsewhere (p : Cmd → Bool) (mapToo : Bool) (d : Device) : Device :=
  let keys := d.sec.heldKeys.filter (heldIs d p)
  let powers := d.pwr.queued.filter (powerIs d p)
  let d1 := match d.topo.load with
    | some l => if mapToo then complete 0x1F l.cmd 3 none [] (withdrawMap d) else d
    | none => d
  let d2 := { d1 with sec := { d1.sec with heldKeys := d1.sec.heldKeys.filter (fun k => !(heldIs d p k)) } }
  let d3 := { d2 with pwr := { d2.pwr with queued := d2.pwr.queued.filter (fun c => !(powerIs d p c)) } }
  let d4 := (keys.filterMap (fun k => k.cmd)).foldl (fun d c => complete 0x80 c 3 none [] d) d3
  schedSample (powers.foldl (fun d c => complete 0x88 c 3 none [] d) d4)

/-- SCHED_CANCEL (R104, R105): a target due by the end of the present RAST cycle takes effect first and is not counted. -/
def schedCancelFx (c : Cmd) (d : Device) : Device :=
  let tag := BitVec.ofNat 32 (opN c 0 4)
  let self := c.position
  let n := (d.sched.entries.filter (cancelHit tag self d)).length + bit (cancelMap tag self d) +
    (d.sec.heldKeys.filter (heldIs d (cancellable tag self))).length + (d.pwr.queued.filter (powerIs d (cancellable tag self))).length
  let d := cancelWhere (cancelHit tag self d) (cancelElsewhere (cancellable tag self) (cancelMap tag self d) d)
  if n = 0 then refuse 4 c 7 [] d else finish 4 c d.clk.rp (leN 2 n) d

/-- SCHED_CANCEL. -/
def execSchedCancel (c : Cmd) (s : State) : Result := act (schedCancelFx c) s

/-- MAP_LOAD. -/
def execMapLoad (c : Cmd) (s : State) : Result := act (mapLoadFx c) s

end Sys2Proof.Machine
end

