-- ==== Sys2Proof/Machine/Bind.lean ====
section
/-! DEFINITION. Machine/Bind.lean: reply cards (R125, R126), binding devices to node IDs (R26 to R28), assignments (R121),
and a head's use of reply cards: the sorting office (R412 to R414). -/

namespace Sys2Proof.Machine

/-- A health state's code (R125). -/
def healthCode (h : HealthState) : Nat := match h with | .good => 0 | .worn => 1 | .replace => 2

/-- The reason code reported (R14, R380). -/
def reasonCode (d : Device) : Nat := if d.pwr.roleRes then 0x7F else d.spare.reason

/-- A life-cycle state's code (R488). -/
def lifeCode (l : Life) : Nat := match l with | .blank => 0 | .provisioned => 1 | .sealed => 2 | .returned => 3 | .retired => 4

/-- Whether ALERT_N is asserted (R383). -/
def alertOn (d : Device) : Bool := d.spare.health == .replace

/-- A 48-bit energy register's value of a channel's accumulator (R474, R475). -/
def energyReg (acc : Nat) : Nat := acc / 2 ^ 40 % 2 ^ 48

/-- The 76-byte body of a reply card (R125, R476), with `k` fault reports to follow. -/
def cardBody (d : Device) (kind hopA hopB k : Nat) : List Byte :=
  leN 1 kind ++ leN 1 (healthCode d.spare.health) ++ leN 1 (reasonCode d) ++ leN 1 (timeCode d.tim.state + 16 * d.tim.path) ++
  d.sec.fingerprint ++ leN 1 hopA ++ leN 1 hopB ++ leN 1 (lifeCode d.sec.life) ++
  leN 1 (bit d.pwr.roleRes + 2 * bit d.topo.nodeId.isNone + 4 * bit (alertOn d)) ++
  beN 4 (unsig 32 (sat31 d.tim.offsetNs)) ++ beN 4 d.topo.gen.toNat ++
  (d.mtr.chans.flatMap (fun c => beN 4 (energyReg c.imp))) ++ (d.mtr.chans.flatMap (fun c => beN 4 (energyReg c.exp_))) ++
  beN 2 (unsig 16 d.pwr.temp) ++ leN 1 k ++ zeros 1

/-- A fault report's 12 bytes (R125); a report of the receiving head names the head the card goes to. -/
def reportBytes (head : Nat) (r : Report) : List Byte :=
  beN 2 (match r.subject with | some n => n.toNat | none => head) ++ leN 1 r.kind.toNat ++ zeros 1 ++
  beN 4 r.first.frame.toNat ++ beN 4 r.first.ls

/-- A node's PERIODIC or CHANGE card on every ring (R126): at most 16 reports go with it. -/
def sendCard (kind : Nat) (d : Device) : Device :=
  let rs := d.hif.reports.take 16
  let d := { d with hif := { d.hif with reports := d.hif.reports.drop 16 }, topo := { d.topo with lastCard := some (d.clk.rp, rs) } }
  nodeSendBy 4 (fun head => cardBody d kind d.topo.hopA d.topo.hopB rs.length ++ rs.flatMap (reportBytes head)) d.clk.rp none d

/-- A BIND_ANSWER sealed as it leaves (R111, R126, R137): at most one frame with UNASSIGNED set leaves a port in a raster frame, so a
second waits for the next boundary; a device that has been bound meanwhile sends none. -/
def sendAnswer (a : Answer) (d : Device) : Device :=
  if d.isHead || d.topo.nodeId.isSome then d
  else if (d.port a.port).cardFrame = some d.clk.rp.frame then { d with topo := { d.topo with answers := d.topo.answers ++ [a] } }
  else
    let h : Hdr := { cls := 4, head := a.head, dir := a.dir, origin := 1, unasg := true, seq := be d.sec.fingerprint 0 4, dst := a.dst,
                     stamp := d.clk.rp, pair := a.pair }
    tx (d.setPort a.port (fun l => { l with cardFrame := some d.clk.rp.frame }))
      (sealFrame d a.port h (cardBody d 2 d.topo.hopA d.topo.hopB 0))

/-- BIND_REQUEST (R27, R126): an unassigned device answers each copy the way it came, a copy that de-duplication discards too. -/
def bindRequestFx (f : RxFrame) (d : Device) : Device :=
  let t := takeClass f id d
  let p := f.port.val
  match t.got with
  | some (h, b) =>
    if !(ctrlIs 4 h b) then t.dev
    else sendAnswer { port := p, head := h.head, dir := 1 - h.dir, dst := h.src, pair := pairOf p }
      { t.dev with topo := { t.dev.topo with hopA := if h.dir = 0 then h.hop else t.dev.topo.hopA,
                                             hopB := if h.dir = 1 then h.hop else t.dev.topo.hopB } }
  | none => t.dev

/-- BIND_REQUEST. -/
def execBindRequest (f : RxFrame) (s : State) : Result := act (bindRequestFx f) s

/-- The rings a head goes by on a pair: its ring there. -/
def pairRing (d : Device) (pair : Nat) : Option (Nat × RingEntry × Bool) :=
  match d.topo.map with
  | some m => ((headRings d m).find? (fun (_, _, q, _) => q == pair)).map (fun (i, r, _, x) => (i, r, x))
  | none => none

/-- Whether a position of a ring is unbound (R28): nothing has been bound there, or no reply card of the node bound there has come
since, or for 1.1 s, although each node sends one a second (R126): its device has been replaced or reset, or the ASSIGN was lost (DESIGN
CHOICE, log entry 102). -/
def unboundAt (d : Device) (r : RingEntry) (pair pos : Nat) : Bool :=
  let hp := d.topo.pairs.getD pair {}
  match mfind hp.bound pos, r.members[pos - 1]? with
  | some _, some id => (match mfind hp.cards id with
    | some (_, at_) => decide (1100000000 < passedNs d at_)
    | none => true)
  | _, _ => true

/-- The shape a head takes a ring to have of which it knows no map (R34): it sends both ways. -/
def bareRing : RingEntry := { dual := false, fec := false, headX := 0, pairX := 0, headY := 0, pairY := 0, members := [] }

/-- A binding request on a ring (R27). -/
def sendRequestOn (r : RingEntry) (pair : Nat) (isX : Bool) (d : Device) : Device :=
  headSend 2 true 0 (ctrlHead 4 0 0 0) d.clk.rp r pair isX d

/-- BIND_REQUEST_TIMER (R27, R28): repeated while a position of the ring is unbound; with no map in force the rings carry binding
requests all the same (R34). -/
def bindTimerFx (pair : Nat) (d : Device) : Device :=
  if !d.isHead then d
  else match d.topo.map with
    | some _ =>
      (match pairRing d pair with
       | some (_, r, isX) =>
         when (binds d r pair isX && (List.range r.members.length).any (fun i => unboundAt d r pair (i + 1))) (sendRequestOn r pair isX) d
       | none => d)
    | none =>
      match ringOn d pair with
      | some (r, isX) => sendRequestOn r pair isX d
      | none => sendRequestOn bareRing pair true d

/-- BIND_REQUEST_TIMER. -/
def execBindRequestTimer (pair : Fin 4) (s : State) : Result := act (bindTimerFx pair.val) s

/-- The position a BIND_ANSWER gives (R127), in one byte; none where both hop counts are zero. -/
def answerPos (r : RingEntry) (b : List Byte) : Option Nat :=
  let a := be b 0x0C 1
  let z := be b 0x0D 1
  if a ≠ 0 then some a else if z ≠ 0 then some ((r.members.length + 257 - z) % 256) else none

/-- The record of a map about to switch, sent to a device bound meanwhile (R37, R121). -/
def assignPending (pair pos : Nat) (fp : List Byte) (d : Device) : Device :=
  match d.topo.load with
  | some l =>
    match l.sent, l.map with
    | true, some m =>
      (match (headRings d m).find? (fun (_, _, q, _) => q == pair) with
       | some (_, r, _, isX) =>
         (match memberAt m r pos with
          | some n => when (fpZero n.fingerprint || n.fingerprint == fp) (sendAssign m r pair isX n fp l.switchAt) d
          | none => d)
       | none => d)
    | _, _ => d
  | none => d

/-- A BIND_ANSWER judged (R27): the device assigned, or a mismatch reported. -/
def bindDevice (m : SysMap) (ring : Nat) (r : RingEntry) (pair : Nat) (isX : Bool) (pos : Nat) (fp : List Byte) (d : Device) :
    Device :=
  match memberAt m r pos with
  | none => raise 0x1013 (leN 2 ring ++ leN 1 pos ++ zeros 1 ++ fp) d
  | some n =>
    if fpZero n.fingerprint ∨ n.fingerprint = fp then
      let id := n.nodeId.toNat
      let d := clearSource id (setPair pair (fun p => { p with bound := mins p.bound pos fp, cards := mdel p.cards id }) d)
      assignPending pair pos fp
        (sendAssign m r pair isX n fp d.clk.rp.frame { d with hif := { d.hif with dirAsk := d.hif.dirAsk ++ [id] } })
    else raise 0x1012 (leN 2 ring ++ leN 1 pos ++ zeros 1 ++ n.fingerprint ++ fp) d

/-- The position of a BIND_ANSWER, and the binding of its device (R27, R127). -/
def bindAt (pair : Nat) (b : List Byte) (d : Device) : Device :=
  match d.topo.map, pairRing d pair with
  | some m, some (ring, r, isX) =>
    (match answerPos r b with
     | some pos => when (binds d r pair isX) (bindDevice m ring r pair isX pos (cut b 4 8)) d
     | none => d)
  | _, _ => d

/-- BIND_ANSWER (R27, R127). -/
def bindAnswerFx (f : RxFrame) (d : Device) : Device :=
  takeNumbered f (fun h b => d.isHead && h.cls == 4 && be b 0 1 == 2) (fun _ b => bindAt (pairOf f.port.val) b) d

/-- BIND_ANSWER. -/
def execBindAnswer (f : RxFrame) (s : State) : Result := act (bindAnswerFx f) s

/-- A fault report taken by the sorting office (R413, R414). -/
def sortReport (witness : BitVec 12) (kind : BitVec 8) (subject : BitVec 12) (first : RP) (d : Device) : Device :=
  let mine := fun (k : SortKey) => k.kind == kind && k.subject == subject
  if d.hif.sort.any mine then
    { d with hif := { d.hif with sort := d.hif.sort.map (fun k => if mine k then
        { k with count := satAdd 65535 k.count 1, lastW := witness, first := if first.before k.first then first else k.first } else k) } }
  else if d.hif.sort.length < 256 then
    { d with hif := { d.hif with sort := d.hif.sort ++ [{ kind := kind, subject := subject, count := 1, firstW := witness,
                                                          lastW := witness, first := first }] } }
  else
    { d with hif := { d.hif with lostReps := satAdd 0xFFFFFFFF d.hif.lostReps 1,
                                 lostKeys := if d.hif.lostKeys.contains (kind, subject) then d.hif.lostKeys
                                   else d.hif.lostKeys ++ [(kind, subject)],
                                 lostFirst := some (d.hif.lostFirst.getD d.clk.rp) } }

/-- A reply card taken by a head: generation, health, reports (R39, R413, R415). -/
def takeCard (pair : Nat) (h : Hdr) (b : List Byte) (d : Device) : Device :=
  let d := setPair pair (fun p => { p with cards := mins p.cards h.src (BitVec.ofNat 32 (be b 0x14 4), d.clk.rp) }) d
  let d := when (be b 1 1 == 2) (vector 6) d
  (List.range (be b 0x4A 1)).foldl (fun d i =>
    let o := 76 + 12 * i
    sortReport (BitVec.ofNat 12 h.src) (BitVec.ofNat 8 (be b (o + 2) 1)) (BitVec.ofNat 12 (be b o 2))
      { frame := BitVec.ofNat 32 (be b (o + 4) 4), line := bitsOf (be b (o + 8) 4) 28 16, sub := be b (o + 8) 4 % 65536 } d) d

/-- REPLY_CARD (R125, R412). -/
def replyCardFx (f : RxFrame) (d : Device) : Device :=
  takeNumbered f (fun h b => d.isHead && h.cls == 4 && be b 0 1 != 2) (takeCard (pairOf f.port.val)) d

/-- REPLY_CARD. -/
def execReplyCard (f : RxFrame) (s : State) : Result := act (replyCardFx f) s

/-- SORTING_WINDOW_CLOSE (R413): one FAULT_COALESCED, and the key is free. -/
def sortCloseFx (kind : BitVec 8) (subject : BitVec 12) (d : Device) : Device :=
  match d.hif.sort.find? (fun k => k.kind == kind && k.subject == subject) with
  | none => d
  | some k =>
    raise 4 (leN 1 kind.toNat ++ zeros 1 ++ leN 2 subject.toNat ++ leN 2 k.count ++ leN 2 k.firstW.toNat ++
        leN 2 k.lastW.toNat ++ zeros 2 ++ k.first.bytes)
      { d with hif := { d.hif with sort := d.hif.sort.filter (fun x => !(x.kind == kind && x.subject == subject)) } }

/-- SORTING_WINDOW_CLOSE. -/
def execSortingWindowClose (kind : BitVec 8) (subject : BitVec 12) (s : State) : Result := act (sortCloseFx kind subject) s

/-- STORM (R414). -/
def stormFx (d : Device) : Device :=
  if d.hif.lostReps = 0 then d
  else raise 5 (leN 4 d.hif.lostKeys.length ++ leN 4 d.hif.lostReps ++ rpOr d.hif.lostFirst)
    { d with hif := { d.hif with lostReps := 0, lostKeys := [], lostFirst := none } }

/-- STORM. -/
def execStorm (s : State) : Result := act stormFx s

/-- The record an ASSIGN puts in force from its frame on (R121). -/
def assignNext (pair : Nat) (h : Hdr) (b : List Byte) : NextRecord :=
  { pair := pair, frame := h.stamp.frame, record := assignNode (cut b 0x10 48), gen := BitVec.ofNat 32 (be b 0x4C 4),
    headSet := BitVec.ofNat 64 (be b 0x40 8), p := be b 0x48 1, c := be b 0x4A 2 }

/-- Whether a node's rings and position stay as they were (R68). -/
def sameRings (a : Option NodeRecord) (r : NodeRecord) : Bool :=
  match a with | some x => x.rings == r.rings && x.nodeId == r.nodeId | none => false

/-- P and C kept as the assignment by a ring pair gives them; those of the ring whose raster configuration the node follows, or of the
only one there is, are in force (R90). -/
def presentBy (n : NextRecord) (d : Device) : Device :=
  let d := setTime (fun t => { t with presents := setAt t.presents n.pair (some (n.p, n.c)) }) d
  when (d.tim.follow.getD n.pair == n.pair) (presentOf n.pair) d

/-- A record in force (R121): record, generation, head set, P and C; a move clears the stored lambdas (R68), and a first binding counts
as one (DESIGN CHOICE, log entry 143). -/
def enforce (n : NextRecord) (d : Device) : Device :=
  let moved := !(sameRings d.topo.record n.record)
  let d := presentBy n { d with topo := { d.topo with record := some n.record, gen := n.gen, headSet := n.headSet,
                                                      nodeId := some n.record.nodeId } }
  when moved (setTime (fun t => { t with dirs := t.dirs.map (fun x => { x with lambda := none }) })) d

/-- A node left unassigned (R19, R40): it has no record, and no head may send to it. -/
def leaveNode (d : Device) : Device :=
  { d with topo := { d.topo with nodeId := none, record := none, gen := 0, headSet := 0 } }

/-- The records due by frame `f` put in force, in order (R121). A node that a switch of map has passed by leaves its node ID (R40):
ASSIGNs of another generation have gone to the other devices and none to it (DESIGN CHOICE, log entry 103). -/
def enforceDue (f : BitVec 32) (d : Device) : Device :=
  let due := fun (n : NextRecord) => decide (frameDiff n.frame f ≤ 0)
  let past := fun (o : BitVec 32 × BitVec 32) => decide (frameDiff o.1 f ≤ 0)
  let ns := d.topo.next.filter due
  let os := d.topo.others.filter past
  let d := { d with topo := { d.topo with next := d.topo.next.filter (fun n => !(due n)),
                                          others := d.topo.others.filter (fun o => !(past o)) } }
  let d := ns.foldl (fun d n => enforce n d) d
  when (d.topo.nodeId.isSome && os.any (fun o => o.2 != d.topo.gen)) leaveNode d

/-- The map whose switch a head and node awaits and display frame `f` lies behind (R37). -/
def mapAwaited (d : Device) (f : BitVec 32) : Option SysMap :=
  match d.topo.load with
  | some l => if d.isHead && l.sent && decide (0 ≤ frameDiff f l.switchAt) then l.map else none
  | none => none

/-- The generation and record that govern a display frame (R37, R118, R121). -/
def recordFor (d : Device) (f : BitVec 32) : Option NodeRecord × BitVec 32 :=
  match mapAwaited d f with
  | some m => (ownEntry d m, m.generation)
  | none =>
  match (d.topo.next.filter (fun n => decide (frameDiff n.frame f ≤ 0))).getLast? with
  | some n => (some n.record, n.gen)
  | none => (d.topo.record, d.topo.gen)

/-- An ASSIGN to another device: the switch it belongs to is noted (log entry 103). -/
def assignOther (h : Hdr) (b : List Byte) (d : Device) : Device :=
  let o := (h.stamp.frame, BitVec.ofNat 32 (be b 0x4C 4))
  { d with topo := { d.topo with others := d.topo.others.filter (fun x => x.1 != o.1) ++ [o] } }

/-- ASSIGN (R27, R90, R121, R134): the device addressed by fingerprint takes the record, with P and C of the ring pair it came by;
binding clears every window. -/
def assignTake (pair : Nat) (h : Hdr) (b : List Byte) (d : Device) : Device :=
  if d.isHead then d
  else if cut b 8 8 ≠ d.sec.fingerprint then assignOther h b d
  else
    let unbound := d.topo.nodeId.isNone
    let moved := !(sameRings d.topo.record (assignNode (cut b 0x10 48)))
    let d := when (unbound || moved) (fun d => { d with flows := { d.flows with wins := [], pix := [], answered := [] } }) d
    let d := when unbound (fun d => { d with topo := { d.topo with nodeId := some (assignNode (cut b 0x10 48)).nodeId } }) d
    let n := assignNext pair h b
    let d := { d with topo := { d.topo with next := d.topo.next.filter (fun x => x.frame != n.frame || x.pair != n.pair) ++ [n] } }
    if 0 ≤ frameDiff d.clk.rp.frame n.frame then enforceDue d.clk.rp.frame d else d

/-- A PARTNER frame's fields (R122). -/
def partnerInfo (b : List Byte) : PartnerInfo :=
  { flags := be b 0 1, gen := BitVec.ofNat 32 (be b 4 4), pendGen := BitVec.ofNat 32 (be b 8 4),
    pendFrame := BitVec.ofNat 32 (be b 0x0C 4), stepDue := BitVec.ofNat 64 (be b 0x10 8),
    stepAt := BitVec.ofNat 32 (be b 0x18 4), stepGen := BitVec.ofNat 8 (be b 0x1C 1), slots := be b 0x1E 2,
    crc := BitVec.ofNat 32 (be b 0x20 4),
    content := (List.range 16).map (fun i => BitVec.ofNat 32 (be b (0x28 + 4 * i) 4)), loop := BitVec.ofNat 64 (be b 0x68 8),
    stamp := 0 }

/-- The stream records enabled, in slot order (R344): their 64 bytes as they were read, reserved ones included (DESIGN CHOICE, log
entry 123: R7 has reserved fields ignored, and does not say whether the CRC runs over them). -/
def streamBytes (d : Device) : List Byte :=
  d.gest.slots.flatMap (fun s => match s.strm with | some r => r.raw | none => [])

/-- Whether a slot is enabled for ST 2110 (R122, R182): it holds a record that is not of bulk video. -/
def stSlot (s : Slot) : Bool := match s.strm with | some r => r.kind != 2 | none => false

/-- Bit n: ST 2110 slot n enabled (R122). -/
def slotMask (d : Device) : Nat :=
  (List.range 16).foldl (fun w i => if stSlot (d.gest.slots.getD i {}) then w + 2 ^ i else w) 0

/-- The step waiting and the frame of the boundary it is next tried at (R62, R122): the first TIME_STEP_AUTHORISE pending. -/
def stepWaiting (d : Device) : Option (RP × BitVec 32) :=
  (firstEntry (d.sched.entries.filter (fun e => e.judged && e.op == 1))).map (fun e => (e.due, e.point.frame))

/-- A PARTNER body (R122). -/
def partnerBody (d : Device) (pair : Nat) (isX : Bool) : List Byte :=
  let pend : Option (BitVec 32 × BitVec 32) := match d.topo.load with
    | some l => (match l.map with | some m => (if l.sent then some (m.generation, l.switchAt) else none) | none => none)
    | none => none
  let step := stepWaiting d
  let flags := bit d.topo.map.isSome + 2 * bit pend.isSome + 4 * bit step.isSome + 8 * bit (d.tim.state == .locked)
  let own := d.tim.loops.getD (2 * pair + (if isX then 0 else 1)) none
  leN 1 flags ++ zeros 3 ++ beN 4 (match d.topo.map with | some m => m.generation.toNat | none => 0) ++
  beN 4 (match pend with | some (g, _) => g.toNat | none => 0) ++ beN 4 (match pend with | some (_, f) => f.toNat | none => 0) ++
  (match step with | some (r, _) => beN 4 r.frame.toNat ++ beN 4 r.ls | none => zeros 8) ++
  beN 4 (match step with | some (_, f) => f.toNat | none => 0) ++ leN 1 d.tim.stepGen.toNat ++ zeros 1 ++ beN 2 (slotMask d) ++
  beN 4 (crc32 (streamBytes d)) ++ zeros 4 ++
  (d.gest.slots.flatMap (fun s => beN 4 (if stSlot s then s.lastC.toNat else 0))) ++
  (match own with | some l => beN 8 (unsig 64 l) | none => List.replicate 8 0xFF)

/-- The partner's node ID on a dual-head ring. -/
def partnerNode (m : SysMap) (r : RingEntry) (isX : Bool) : Nat :=
  match headRec m (if isX then r.headY else r.headX) with | some n => n.nodeId.toNat | none => 0

/-- A PARTNER frame sent over the closing link of a ring (R122, R139). -/
def sendPartner (m : SysMap) (r : RingEntry) (pair : Nat) (isX : Bool) (d : Device) : Device :=
  match closingPort r pair isX with
  | none => d
  | some p =>
    let n := nextSeq d 2 0 pair
    let h : Hdr := { cls := 2, head := d.headIndex, dir := if isX then 1 else 0, src := d.nodeNo, dst := partnerNode m r isX,
                     stamp := boundaryRp d, pair := pair }
    usedSeq (sendOwn d (sealFrame d p (numbered h n) (ctrlHead 6 0 0 0 ++ partnerBody d pair isX)) false none) 2 0 pair

/-- The first item of R344 in which what the two heads' PARTNER frames of a boundary say differs: generation in force, stream records,
step generation, content frames of the ST 2110 slots. -/
def partnerItem (o i : PartnerInfo) : Option Nat :=
  if hasBit i.flags 0 ≠ hasBit o.flags 0 ∨ i.gen ≠ o.gen then some 0
  else if i.crc ≠ o.crc then some 1
  else if i.stepGen ≠ o.stepGen then some 2
  else if i.slots ≠ o.slots ∨ i.content ≠ o.content then some 3
  else none

/-- ASSIGN (R27, R121). -/
def assignFx (f : RxFrame) (d : Device) : Device := takeNumbered f (ctrlIs 5) (assignTake (pairOf f.port.val)) d

/-- The count of frames in or out of step, and its notice (R344): the two heads' values of one boundary compared. -/
def partnerStep (pair : Nat) (o i : PartnerInfo) (d : Device) : Device :=
  let hp := d.topo.pairs.getD pair {}
  match partnerItem o i with
  | none =>
    let n := hp.inStep + 1
    setPair pair (fun p => { p with inStep := min 8 n, outOfStep := 0, stepTold := p.stepTold && decide (n < 8) }) d
  | some k =>
    let n := hp.outOfStep + 1
    let d := setPair pair (fun p => { p with outOfStep := min 8 n, inStep := 0, stepTold := p.stepTold || decide (8 ≤ n) }) d
    when (decide (8 ≤ n) && !hp.stepTold) (raise 0x500B (leN 1 pair ++ leN 1 k ++ zeros 2)) d

/-- The comparison of R344 once both heads' PARTNER frames of one boundary stand. -/
def partnerCompare (pair : Nat) (d : Device) : Device :=
  let hp := d.topo.pairs.getD pair {}
  match hp.own, hp.partner with
  | some o, some i => if o.stamp = i.stamp then partnerStep pair o i d else d
  | _, _ => d

/-- What a head's own PARTNER frame of this boundary says, kept for the comparison (R344). -/
def partnerOwn (pair : Nat) (isX : Bool) (d : Device) : Device :=
  partnerCompare pair (setPair pair (fun p => { p with
    own := some { partnerInfo (partnerBody d pair isX) with stamp := d.clk.rp.frame } }) d)

/-- A PARTNER frame taken (R122, R344): the partner's values, and the closing link up. -/
def partnerTake (pair : Nat) (h : Hdr) (b : List Byte) (d : Device) : Device :=
  let i := { partnerInfo (b.drop 8) with stamp := h.stamp.frame }
  partnerCompare pair (setPair pair (fun p => { p with partner := some i, boundaries := 0, closeDown := false }) d)

/-- PARTNER (R122, R139, R344): taken on the closing link only. -/
def partnerFx (f : RxFrame) (d : Device) : Device := takeNumbered f (ctrlIs 6) (partnerTake (pairOf f.port.val)) d

/-- PARTNER. -/
def execPartner (f : RxFrame) (s : State) : Result := act (partnerFx f) s

/-- CLOSING_LINK_DOWN (R22, R122): no good PARTNER frame for 4 boundaries; reported once at each entry. -/
def closingDownFx (pair : Nat) (d : Device) : Device :=
  match mapKnown d with
  | some m =>
    match (headRings d m).find? (fun (_, r, q, _) => q == pair && r.dual) with
    | some (i, r, _, isX) =>
      let hp := d.topo.pairs.getD pair {}
      if hp.closeDown || decide (hp.boundaries < 4) then d
      else raise 0x1011 (leN 2 i ++ leN 1 (if isX then r.headY else r.headX) ++ zeros 1)
        (setPair pair (fun p => { p with closeDown := true }) d)
    | none => d
  | none => d

/-- CLOSING_LINK_DOWN. -/
def execClosingLinkDown (pair : Fin 4) (s : State) : Result := act (closingDownFx pair.val) s

end Sys2Proof.Machine
end

