-- ==== Sys2Proof/Machine/CalBase.lean ====
section
/-! DEFINITION. Machine/CalBase.lean: ending a calibration (R454 to R456, R459, R470). -/

namespace Sys2Proof.Machine

/-- Calibration changed. -/
def setCal (f : Cal → Cal) (d : Device) : Device := { d with cal := f d.cal }

/-- The opcode of a kind (R453). -/
def calOp (kind : Nat) : Nat := 0x70 + kind

/-- CAL_ABORTED (R470). A job that had not started has no start. -/
def calAborted (kind cause : Nat) (tag : BitVec 32) (start : Option RP) (d : Device) : Device :=
  raise 0x7002 (leN 1 kind ++ leN 1 cause ++ zeros 2 ++ leN 4 tag.toNat ++ rpOr start) d

/-- The work of a kind forgotten: its marker is cleared (R459), and what it had measured. -/
def calClear (kind : Nat) (d : Device) : Device :=
  setCal (fun c =>
    let c := { c with running := setAt c.running kind none, marker := setAt c.marker kind none }
    if kind = 0 then { c with ports := [], eyes := List.replicate 10 0, commits := 0, ended := 0 }
    else if kind = 1 then { c with pairs := [], win := none }
    else { c with chans := [], spare := none, resids := List.replicate 12 0, mCommit := 0 }) d

/-- A running calibration aborted (R455, R456): its command completes CANCELLED. -/
def calAbort (kind cause : Nat) (d : Device) : Device :=
  match d.cal.running.getD kind none with
  | some j => calAborted kind cause j.cmd.tag (some j.start) (complete (calOp kind) j.cmd 3 none [] (calClear kind d))
  | none => d

/-- A waiting calibration given up (R454 to R456). -/
def calDrop (kind cause : Nat) (d : Device) : Device :=
  match d.cal.waiting.getD kind none with
  | some j => calAborted kind cause j.cmd.tag none
      (complete (calOp kind) j.cmd 3 none [] (setCal (fun c => { c with waiting := setAt c.waiting kind none }) d))
  | none => d

/-- Every calibration given up, as at the leaving of RUN (R455). -/
def calLeave (d : Device) : Device := (List.range 3).foldl (fun d k => calDrop k 2 (calAbort k 2 d)) d

/-- A window of a reading pair has ended (R464): after the lit one comes the dark; a pair with a saturated reading is
discarded. -/
def calWindow (w : CalWin) (r : Reading) (d : Device) : Device :=
  match w.lit with
  | none => setCal (fun c => { c with win := some { w with lit := some r } }) d
  | some l =>
    let good := l.saturated == 0 && r.saturated == 0
    setCal (fun c => { c with win := none, pairs := if good then c.pairs ++ [{ lit := l, dark := r, sums := w.sums }] else c.pairs }) d

/-- At start-up a marker that stands reports the calibration a reset ended, and is cleared (R459). -/
def calBoot (d : Device) : Device :=
  (List.range 3).foldl (fun d k =>
    match d.cal.marker.getD k none with
    | some (tag, at_) => calAborted k 0 tag (some at_) (setCal (fun c => { c with marker := setAt c.marker k none }) d)
    | none => d) d

end Sys2Proof.Machine
end

