-- ==== Sys2Proof/Machine/Ports.lean ====
section
/-! DEFINITION. Machine/Ports.lean: link and ingest ports below the Silnal frame: link state and RS-FEC (R149, R150), broken
and foreign frames (R155, R108), underruns (R156 to R158), PAUSE (R160 to R162), low-power idle and LLDP (R163 to R166),
dead-letter markers (R226, R227), and opcodes 0x10 to 0x12 (R176 to R178). -/

namespace Sys2Proof.Machine

/-- PORT_LINK_CHANGE (R179); a node reports a port going down as a fault report whose subject is the neighbour (R412). -/
def linkChange (p up cause : Nat) (d : Device) : Device :=
  let b := leN 1 p ++ leN 1 up ++ leN 1 cause
  if up = 1 then raise 0x1001 b d else report 3 (d.port p).neighbour 0x1001 b d

/-- The RS-FEC mode a head sets on a link port (R149). -/
def headFec (d : Device) (p : Nat) : Bool :=
  match d.topo.map with
  | some m =>
    (match (headRings d m).find? (fun (_, _, pair, _) => pair == pairOf p) with
     | some (_, r, _, _) => r.fec
     | none => hasBit (d.word (lnkReg p 0)) 0)
  | none => hasBit (d.word (lnkReg p 0)) 0

/-! ### The IPv4 layer of the ingest ports (R180) -/

/-- The MAC address of an ingest port (R180). -/
def portMac (d : Device) (p : Nat) : List Byte := beN 6 (d.word (ingReg p 4) + d.word (ingReg p 8) % 65536 * 2 ^ 32)

/-- The IPv4 address of an ingest port (R180). -/
def portIp (d : Device) (p : Nat) : BitVec 32 := BitVec.ofNat 32 (d.word (ingReg p 12))

/-- Whether an IPv4 address is a multicast group. -/
def isGroup (a : BitVec 32) : Bool := a.toNat / 2 ^ 28 == 14

/-- The universes the map in force routes to this head (R33, R201). -/
def routed (d : Device) : List UnivEntry :=
  match d.topo.map with | some m => m.univs.filter (fun u => u.head == d.headIndex) | none => []

/-- The groups an ingest port needs (R180). -/
def neededGroups (d : Device) (p : Nat) : List (BitVec 32) :=
  if !(d.ingPort p).enabled then []
  else
    let streams := d.gest.slots.filterMap (fun s => match s.strm with
      | some r => if r.kind ≠ 2 ∧ hasBit r.paths p ∧ isGroup (r.dst.getD p 0) then some (r.dst.getD p 0) else none
      | none => none)
    (streams ++ (routed d).map (fun u => BitVec.ofNat 32 (0xEFFF0000 + u.univ))).eraseDups

/-- The one's complement sum of 16-bit words. -/
def ipSum (bs : List Byte) : Nat :=
  let t := (List.range (ceilDiv bs.length 2)).foldl (fun t i => t + be (fit (bs.length + 1) bs) (2 * i) 2) 0
  let t := t % 65536 + t / 65536
  65535 - (t % 65536 + t / 65536)

/-- An IGMPv3 report of one group record (R180). -/
def igmpFrame (d : Device) (p kind : Nat) (g : BitVec 32) : List Byte :=
  let body := fun (ck : Nat) => [0x22, 0] ++ beN 2 ck ++ beN 2 0 ++ beN 2 1 ++ beN 1 kind ++ [0] ++ beN 2 0 ++ beN 4 g.toNat
  let igmp := body (ipSum (body 0))
  let ip := fun (ck : Nat) => [0x46, 0xC0] ++ beN 2 (24 + igmp.length) ++ beN 4 0 ++ [1, 2] ++ beN 2 ck ++
    beN 4 (portIp d p).toNat ++ [224, 0, 0, 22] ++ [0x94, 4, 0, 0]
  fit 60 ([0x01, 0x00, 0x5E, 0, 0, 0x16] ++ portMac d p ++ [0x08, 0] ++ ip (ipSum (ip 0)) ++ igmp)

/-- An IGMP report of an ingest port: `kind` 4 joins a group, 3 leaves it, 2 answers a query (R180). -/
def sendIgmp (p kind : Nat) (d : Device) (g : BitVec 32) : Device := sendIngest p (igmpFrame d p kind g) d

/-- Groups that became needed are joined, those that ceased to be are left (R180); a port that is down joins as it comes up. -/
def groupsAt (d : Device) (p : Nat) : Device :=
  if !(d.ingPort p).up then d
  else
    let was := (d.ingPort p).groups
    let now := neededGroups d p
    let more := now.filter (fun g => !(was.contains g))
    let d := (was.filter (fun g => !(now.contains g))).foldl (sendIgmp p 3) (more.foldl (sendIgmp p 4) d)
    setIng p (fun l => { l with groups := now, reports := (l.reports ++ more).filter now.contains }) d

/-- The groups of both ingest ports brought up to date (R180). -/
def updateGroups (d : Device) : Device := if !d.isHead then d else [0, 1].foldl groupsAt d

/-- The reports of changes repeated, at the frame boundary that follows: within 1 s of the change (R180; DESIGN CHOICE, log entry
126). -/
def repeatReports (d : Device) : Device :=
  [0, 1].foldl (fun d p =>
    if !(d.ingPort p).up then d
    else ((d.ingPort p).reports.foldl (sendIgmp p 4) (setIng p (fun l => { l with reports := [] }) d))) d

/-! ### Links -/

/-- The skew beyond which lane alignment fails, in ps (R171). -/
def skewLimit : Nat := 180000

/-- The port of a SerDes lane: 0 to 7 the link ports, then four lanes to each ingest port. -/
def lanePort (lane : Nat) : Nat := if lane < 8 then lane else 8 + (lane - 8) / 4

/-- Whether a slice of a port has failed with none left: the port stays down (R384). -/
def sliceLost (d : Device) (p : Nat) : Bool := d.spare.sliceGone.any (fun lane => lanePort lane == p)

/-- PORT_UP (R149, R150, R171): `skews` are the skews measured of an ingest port's PCS lanes, in ps; the port stays down where one is
beyond what lane alignment tolerates. -/
def portUpFx (p : Nat) (skews : List Nat) (d : Device) : Device :=
  if p < 8 then
    let l := d.port p
    if !l.enabled || l.up || l.mismatch || sliceLost d p then d
    else
      let fec := if d.isHead then headFec d p else l.fec
      linkChange p 1 0 (d.setPort p (fun l => { l with up := true, fec := fec, fecSeen := true }))
  else
    let l := d.ingPort (p - 8)
    let d := setIng (p - 8) (fun l => { l with skew := (List.range 20).map (nth skews) }) d
    if !l.enabled || l.up || sliceLost d p || skews.any (fun s => decide (skewLimit < s)) then d
    else groupsAt (linkChange p 1 0 (setIng (p - 8) (fun l => { l with up := true, groups := [], reports := [] }) d)) (p - 8)

/-- PORT_UP. -/
def execPortUp (r : PortRise) (s : State) : Result := act (portUpFx r.port.val r.skews) s

/-- A port taken down (R150): frames it held are lost, low-power idle ends, and the masters heard on an ingest port are heard no more
(R50; log entry 108). -/
def portDownFx (p cause : Nat) (d : Device) : Device :=
  if p < 8 then
    if !(d.port p).up then d.setPort p (fun l => { l with fecSeen := false, mismatch := false })
    else linkChange p 0 cause (d.setPort p (fun l => { l with
      up := false, fecSeen := false, mismatch := false, lpiTx := false, held := [] }))
  else if !(d.ingPort (p - 8)).up then d
  else mastersGone (p - 8) (linkChange p 0 cause (setIng (p - 8) (fun l => { l with up := false, held := [], pause := 0 }) d))

/-- The link ports of a head whose RS-FEC mode is another now, by the map in force or by LNK_PORT_CFG, go down, to come up again in it
(R149, R150). -/
def fecSwitch (d : Device) : Device :=
  (List.range 8).foldl (fun d p => when (d.isHead && (d.port p).up && (d.port p).fec != headFec d p) (portDownFx p 0) d) d

/-- FEC_MODE_DETECTED (R149): a node takes its partner's mode, for both ports of the pair, unless the other port was first
with another. -/
def fecDetectedFx (p : Nat) (fec : Bool) (d : Device) : Device :=
  if d.isHead || !(d.port p).enabled || (d.port p).up then d
  else
    let o := d.port (otherPort p)
    if (o.up || (o.fecSeen && !o.mismatch)) && o.fec != fec then
      let told := (d.port p).mismatch
      when (!told) (linkChange p 0 5) (d.setPort p (fun l => { l with fecSeen := true, mismatch := true }))
    else
      let d := d.setPort p (fun l => { l with fec := fec, fecSeen := true, mismatch := false })
      d.setPort (otherPort p) (fun l => { l with fec := fec })

/-- FEC_MODE_DETECTED. -/
def execFecModeDetected (p : Fin 8) (fec : Bool) (s : State) : Result := act (fecDetectedFx p.val fec) s

/-- The transmit wake time of a link port (R165). -/
def wakeTime (d : Device) (p : Nat) : Nat := max (nearest 4 20 (d.field 0x2200 4 0)) (((d.port p).partnerTw).getD 0)

/-- EEE_RESOLVED (R165, R179). -/
def eeeNotice (p : Nat) (d : Device) : Device :=
  raise 0x1003 (leN 1 p ++ zeros 1 ++ leN 2 (if (d.port p).eeeOk then wakeTime d p else 0)) d

/-- Whether a link port's transmitter may assert low-power idle (R163): in QUIET or STANDBY, and in START-UP, which behaves as STANDBY
(R515). -/
def mayIdle (d : Device) (p : Nat) : Bool :=
  let l := d.port p
  l.up && l.eeeOk && (d.pwr.state == .quiet || d.pwr.state == .standby || d.pwr.state == .startUp)

/-- A link port that may no longer assert low-power idle is woken (R163). -/
def lpiCheck (p : Nat) (d : Device) : Device := when ((d.port p).lpiTx && !(mayIdle d p)) (wakePort p) d

/-- The same on every link port. -/
def lpiCheckAll (d : Device) : Device := (List.range 8).foldl (fun d p => lpiCheck p d) d

/-- The partner's wake times taken from an EEE TLV (R165): `rxTw` is the receive Tw_sys it asks for. -/
def wakeTaken (p rxTw txTw : Nat) (d : Device) : Device :=
  let was := (d.port p).eeeOk
  let ok := decide (rxTw ≤ 20)
  let d := d.setPort p (fun l => { l with partnerTw := some rxTw, partnerTx := txTw, eeeOk := ok })
  lpiCheck p (when (was != ok) (eeeNotice p) d)

/-- The transmit and receive Tw_sys of the EEE TLV among an LLDPDU's TLVs (R164): subtype 5 of the IEEE 802.3 organisation's; every
other TLV is passed over. The first argument bounds the walk. -/
def eeeTlv : Nat → List Byte → Option (Nat × Nat)
  | 0, _ => none
  | k + 1, bs =>
    let n := be bs 0 2 % 512
    if be bs 0 2 = 0 then none
    else if be bs 0 2 / 512 = 127 ∧ cut bs 2 4 = [0x00, 0x12, 0x0F, 0x05] ∧ 8 ≤ n then some (be bs 6 2, be bs 8 2)
    else eeeTlv k (bs.drop (n + 2))

/-- An LLDPDU read by the parser (R164): only its EEE TLV says anything. -/
def lldpRead (p : Nat) (bs : List Byte) (d : Device) : Device :=
  match eeeTlv bs.length (bs.drop 14) with | some (tx, rx) => wakeTaken p rx tx d | none => d

/-- LLDP_RECEIVED (R164, R165, R220, R225): through the port's queue to the parser. -/
def lldpReceivedFx (f : RxFrame) (d : Device) : Device :=
  let p := f.port.val
  if wireCheck f = .good ∧ isLldp f ∧ (d.port p).up then
    let a := queueWrite p (queueBytes f) f.read f.bad d
    (leave f a.full (lldpRead p (queueBytes f)) a.dev).dev
  else (takeFrame f id d).dev

/-- LLDP_RECEIVED. -/
def execLldpReceived (p : Fin 8) (bs : List Byte) (q : QueueUse) (s : State) : Result := act (lldpReceivedFx (lldpFrame p bs q)) s

/-- An LLDPDU (R164): chassis ID, port ID, time to live, the IEEE 802.3 EEE TLV, end. -/
def lldpdu (d : Device) (p : Nat) : List Byte :=
  let a := srcAddr d p
  let rx := nearest 4 20 (d.field 0x2200 4 0)
  let body : List Byte := [0x01, 0x80, 0xC2, 0x00, 0x00, 0x0E] ++ a ++ [0x88, 0xCC] ++ [0x02, 0x07, 0x04] ++ a ++
    [0x04, 0x07, 0x03] ++ a ++ [0x06, 0x02, 0x00, 0x78] ++ [0xFE, 0x0E, 0x00, 0x12, 0x0F, 0x05] ++ beN 2 (wakeTime d p) ++
    beN 2 rx ++ beN 2 rx ++ beN 2 (d.port p).partnerTx ++ beN 2 (((d.port p).partnerTw).getD 0) ++ [0x00, 0x00]
  let b := if body.length < 60 then body ++ zeros (60 - body.length) else body
  b ++ fcs b

/-- LLDP_SEND (R164). -/
def execLldpSend (p : Fin 8) (s : State) : Result :=
  act (fun d => sendOwn d { port := p.val, bytes := lldpdu d p.val } false none) s

/-- EEE_UNRESOLVED (R165). -/
def eeeUnresolvedFx (p : Nat) (d : Device) : Device :=
  let was := (d.port p).eeeOk
  lpiCheck p (when was (eeeNotice p) (d.setPort p (fun l => { l with eeeOk := false, partnerTw := none })))

/-- EEE_UNRESOLVED. -/
def execEeeUnresolved (p : Fin 8) (s : State) : Result := act (eeeUnresolvedFx p.val) s

/-- LPI_ENTRY (R163): in QUIET or STANDBY, on a port whose wake time is resolved and that has nothing queued. -/
def lpiEntryFx (p : Nat) (d : Device) : Device :=
  let l := d.port p
  when (mayIdle d p && l.backlog.isEmpty && l.held.isEmpty)
    (fun d => d.setPort p (fun l => { l with lpiTx := true })) d

/-- LPI_ENTRY. -/
def execLpiEntry (p : Fin 8) (s : State) : Result := act (lpiEntryFx p.val) s

/-- Whether a port, link or ingest, is up. -/
def portIsUp (d : Device) (p : Nat) : Bool := if p < 8 then (d.port p).up else (d.ingPort (p - 8)).up

/-- LPI_RECEIVED (R163). -/
def execLpiReceived (p : Fin 10) (s : State) : Result :=
  act (fun d => when (portIsUp d p.val) (fun d => countStat d p.val 7) d) s

/-- LPI_WAKE_DONE. -/
def execLpiWakeDone (p : Fin 8) (s : State) : Result := act (wakePort p.val) s

/-- The frames a pause held, sent (R160). -/
def pauseOver (p : Nat) (d : Device) : Device :=
  let fs := (d.ingPort p).held
  fs.foldl (fun d f => startIngest p f.bytes d) (setIng p (fun l => { l with pause := 0, held := [] }) d)

/-- The length of a MAC control frame as received, its FCS included. -/
def ctlLength (m : MacControl) : Nat := m.rx.bytes.length + 4

/-- The opcode of a MAC control frame. -/
def ctlOpcode (m : MacControl) : Nat := be m.rx.bytes 14 2

/-- The pause time a MAC control frame carries, in quanta. -/
def ctlQuanta (m : MacControl) : Nat := be m.rx.bytes 16 2

/-- Whether a MAC control frame is a PAUSE frame the port honours (R160). -/
def isPause (d : Device) (m : MacControl) : Bool :=
  cut m.rx.bytes 12 2 == [0x88, 0x08] && ctlOpcode m == 1 && ctlLength m == 64 &&
  (cut m.rx.bytes 0 6 == [0x01, 0x80, 0xC2, 0x00, 0x00, 0x01] || cut m.rx.bytes 0 6 == portMac d m.rx.port.val)

/-- An ingest frame that fails at its end (R151, R152, R224): counted, and rewound or dropped by a full queue; the queue takes at
most 9,212 bytes of it (R220). -/
def ingestBroken (x : IngRx) (cls : Nat) (d : Device) : Device :=
  let p := x.port.val
  let bs := x.bytes.take 9212
  if !(d.ingPort p).up then d else queueVerdict (p + 8) bs true (queueWrite (p + 8) bs x.read x.bad (countIng p cls d))

/-- A good MAC control frame given to the port's queue (R220, R225), whose parser discards it; poison counts as of any packet (R230). -/
def controlQueued (x : IngRx) (d : Device) : Device :=
  let p := x.port.val + 8
  let n := failing x.bytes x.bad
  let a := queueWrite p x.bytes x.read x.bad d
  when (!a.full && decide (0 < n)) (poisoned p n) a.dev

/-- A PAUSE frame honoured (R160): its pause replaces the one in force, and quanta of zero end it. -/
def pauseTaken (m : MacControl) (d : Device) : Device :=
  let p := m.rx.port.val
  if !(isPause d m) then d
  else if ctlQuanta m = 0 then pauseOver p d
  else setIng p (fun l => { l with pause := ctlQuanta m }) d

/-- PAUSE_RECEIVED (R151, R152, R160, R161, R220): the MAC counts and honours the frame, whatever becomes of it in the queue
(DEDUCED, log entry 136). -/
def macControlFx (m : MacControl) (d : Device) : Device :=
  let p := m.rx.port.val
  if !(d.ingPort p).up then d
  else if ctlLength m ≤ 63 then ingestBroken m.rx 1 d
  else if 9217 ≤ ctlLength m then ingestBroken m.rx 2 d
  else if !m.fcsOk then ingestBroken m.rx 0 d
  else pauseTaken m (controlQueued m.rx (countIng p 4 d))

/-- PAUSE_RECEIVED. -/
def execPauseReceived (m : MacControl) (s : State) : Result := act (macControlFx m) s

/-- PAUSE_EXPIRY (R160). -/
def execPauseExpiry (p : Fin 2) (s : State) : Result := act (pauseOver p.val) s

/-- FOREIGN_FRAME (R108, R162). -/
def execForeignFrame (f : RxFrame) (s : State) : Result := act (fun d => (takeClass f id d).dev) s

/-- RESERVED_CLASS_FRAME (R113): forwarded, never accepted. -/
def execReservedClassFrame (f : RxFrame) (s : State) : Result := act (fun d => (takeClass f id d).dev) s

/-- The start threshold of a port (R156). -/
def startThreshold (d : Device) (p : Nat) : Nat := (d.port p).thresh

/-- The rest of a frame that an underrun has ended on the port it leaves by (R157), as far as it has been received. -/
def cutBefore (d : Device) (out : Nat) (bs : List Byte) : Bool :=
  match (d.port out).cutShort with | some c => bs.isPrefixOf c || c.isPrefixOf bs | none => false

/-- RX_BLOCK_ERROR (R142, R155, R157, R224, R225): an FCS failure, its packet rewound or dropped by a full queue; a copy that has begun to
leave ends with a stomped FCS over the bytes sent, whose number the spec leaves open. -/
def rxBlockFx (f : RxFrame) (d : Device) : Device :=
  let p := f.port.val
  if !(d.port p).up then d
  else
    let bs := f.bytes.take 9212
    let d := queueVerdict p bs true (queueWrite p bs f.read f.bad (countStat d p 0))
    let h := rxHdr f
    let out := otherPort p
    let n := f.bytes.length
    let t := startThreshold d out
    if !(silnalEnvelope f && forwards d && !(unicastTo d h) && h.hop != 0 && decide (t ≤ n)) then d
    else if cutBefore d out f.bytes then d.setPort out (fun l => { l with cutShort := none })
    else if h.hop = 255 then hopLimit p h d
    else
      let k := 1 + Config.freeValue d.tim.fresh % (n - t + 1)
      let b := (setByte f.bytes 17 (h.hop + 1)).take k
      tx { d with tim := { d.tim with fresh := d.tim.fresh + 1 } } { port := out, bytes := b ++ stompedFcs b, stomped := true }

/-- RX_BLOCK_ERROR. -/
def execRxBlockError (f : RxFrame) (s : State) : Result := act (rxBlockFx f) s

/-- TRANSMIT_UNDERRUN (R157) of `frame`, which is still being received: it leaves stomped over the bytes sent, the rest of it is
dropped for that port only, and the start threshold rises by 256 bytes. -/
def underrunFx (p : Nat) (sent frame : List Byte) (d : Device) : Device :=
  if !(d.port p).up then d
  else
    let d := tx d { port := p, bytes := sent ++ stompedFcs sent, stomped := true }
    let d := countStat (d.setPort p (fun l => { l with cutShort := some frame })) p 3
    let t := (d.port p).thresh
    if 9216 ≤ t then d
    else raise 0x1002 (leN 1 p ++ zeros 1 ++ leN 2 (t + 256)) (d.setPort p (fun l => { l with thresh := t + 256 }))

/-- TRANSMIT_UNDERRUN. -/
def execTransmitUnderrun (p : Fin 8) (c : CutFrame) (s : State) : Result := act (underrunFx p.val c.sent c.frame) s

/-- QUEUE_MARKER_WRITE. -/
def execQueueMarkerWrite (p : Fin 10) (s : State) : Result := act (markerWriteFx p.val) s

/-- PORT_THRESHOLD_SET (R176). -/
def portThresholdFx (c : Cmd) (d : Device) : Device :=
  let p := opB c 0; let t := opN c 2 2
  if 7 < p ∨ t % 256 ≠ 0 ∨ t < 512 ∨ 9216 < t then refuse 0x10 c 4 [] d
  else finish 0x10 c (boundaryRp d) [] (d.setPort p (fun l => { l with thresh := t }))

/-- PORT_THRESHOLD_SET. -/
def execPortThresholdSet (c : Cmd) (s : State) : Result := act (portThresholdFx c) s

/-- PORT_STATS_QUERY (R168, R176): on a node the ingest entries read 0. -/
def portStatsFx (c : Cmd) (d : Device) : Device :=
  let links := d.link.flatMap (fun l => leN 2 (statWord l.stat))
  let ings := d.ing.flatMap (fun l => leN 2 (if d.isHead then statWord l.stat else 0))
  finish 0x11 c d.clk.rp (links ++ ings)
    { d with link := d.link.map (fun l => { l with stat := List.replicate 8 0 }),
             ing := d.ing.map (fun l => { l with stat := List.replicate 8 0 }) }

/-- PORT_STATS_QUERY. -/
def execPortStatsQuery (c : Cmd) (s : State) : Result := act (portStatsFx c) s

/-- A transmit SA installed on a port (R178): with ACTIVATE it is active, and one that waits on the same AN with the same SAK and SCI
is what it activates; a waiting one of another AN waits on (DEDUCED, log entry 34). -/
def installTx (sa : Sa) (active : Bool) (l : IngPort) : IngPort :=
  if !active then { l with txWait := some sa }
  else match l.txWait with
    | some w =>
      if w.an ≠ sa.an then { l with txSa := some sa }
      else if w.sak = sa.sak ∧ w.sci = sa.sci then { l with txSa := some w, txWait := none }
      else { l with txSa := some sa, txWait := none }
    | none => { l with txSa := some sa }

/-- MACSEC_SA_INSTALL (R176 to R178). A transmit SA's initial PN is at least 1. -/
def macsecFx (c : Cmd) (d : Device) : Device :=
  let p := opB c 8; let fl := opB c 9
  let sends := hasBit fl 0; let an := bitsOf fl 2 1; let active := hasBit fl 3
  if !d.isHead then refuse 0x12 c 5 [] d
  else if misaligned c ∨ 1 < p ∨ (active && !sends) then refuse 0x12 c 4 [] d
  else match c.host with
    | .data b =>
      let pn := le b 0x28 4
      let sa : Sa := { sak := cut b 0 32, sci := BitVec.ofNat 64 (le b 0x20 8), pn := if sends then nearest 1 0xFFFFFFFF pn else pn,
                       an := an, low := if sends then 0 else pn }
      finish 0x12 c (boundaryRp d) [] (setIng p (fun l =>
        if sends then installTx sa active l else { l with rxSa := setAt l.rxSa an (some sa) }) d)
    | _ => refuse 0x12 c 0x0A [] d

/-- MACSEC_SA_INSTALL. -/
def execMacsecSaInstall (c : Cmd) (s : State) : Result := act (macsecFx c) s

end Sys2Proof.Machine
end

