-- ==== Sys2Proof/Machine/Store.lean ====
section
/-! DEFINITION. Machine/Store.lean: the frame store: sizes and budget (R209, R210), step 1 of a content frame (R211 to R213),
runs into buffers (R266, R267), PIX_SLICE (R91, R115 to R118, R133). -/

namespace Sys2Proof.Machine

/-- The pixel block changed. -/
def setPxl (f : Pixel → Pixel) (d : Device) : Device := { d with pxl := f d.pxl }

/-- Bits of a content frame's fill region (R266). -/
def SrcFmt.fillSize (f : SrcFmt) : Nat := f.srcW * f.srcH * comps f.layout * f.fillBits

/-- Bits of its key region. -/
def SrcFmt.keySize (f : SrcFmt) : Nat := f.srcW * f.srcH * f.keyBits

/-- The stored size (R266). -/
def SrcFmt.storedBits (f : SrcFmt) : Nat := 256 * (ceilDiv f.fillSize 256 + ceilDiv f.keySize 256)

/-- Groups of one buffer (R209). -/
def SrcFmt.groups (f : SrcFmt) : Nat := ceilDiv (ceilDiv f.storedBits 256) 1536

/-- Whether a layer is a source layer (R259). -/
def Layer.source (l : Layer) : Bool := l.present && !l.disp.solid

/-- Layer `i`. -/
def layerOf (d : Device) (i : Nat) : Layer := d.pxl.layers.getD i {}

/-- Groups held for staging (R293). -/
def stagedGroups (d : Device) : Nat := d.pxl.staging.foldl (fun n s => n + s.groups) 0

/-- Groups allotted to buffers and to staging (R233). -/
def groupsUsed (d : Device) : Nat := d.pxl.buffers.foldl (fun n b => n + b.groups) (stagedGroups d)

/-- What the store budget counts for a set of layers (R210): the larger of a layer's old and new size. -/
def budgetOf (d : Device) (ls : List Layer) : Nat :=
  (ls.zipIdx).foldl (fun n (l, i) =>
    if l.source then
      let old := (d.pxl.buffers.filter (fun b => b.layer == i)).foldl (fun m b => max m b.groups) 0
      n + (presentP d + 1) * max l.fmt.groups old
    else n) (stagedGroups d)

/-- The groups of the store. -/
def storeGroups : Nat := 256

/-- The source layers in ascending order. -/
def sourceLayers (d : Device) : List (Nat × SrcFmt) :=
  d.pxl.layers.zipIdx.filterMap (fun (l, i) => if l.source then some (i, l.fmt) else none)

/-- Buffers allotted in ascending layer order while the groups reach; the layers left short (R213). They lie where the `place`
substitutions so far put them (R218). -/
def allot (c : BitVec 32) (place : Nat) : Nat → List (Nat × SrcFmt) → List Buffer × List (Nat × SrcFmt) × Nat
  | free, [] => ([], [], free)
  | free, (i, f) :: r =>
    if f.groups ≤ free then
      let (bs, ss, n) := allot c place (free - f.groups) r
      ({ layer := i, content := c, fmt := f, groups := f.groups, hold := false, fill := [], key := [], fillN := 0, keyN := 0,
         poison := [], place := place } :: bs, ss, n)
    else ([], (i, f) :: r, free)

/-- The node's window (R236). -/
def windowOf (d : Device) : Nat × Nat := match d.topo.record with | some r => (r.width, r.height) | none => (0, 0)

/-- Step 1 of R211 for content frame `c`; layers left short report STORE_OVERCOMMIT (R213); the groups allotted are sampled (R233). A record
of width 0 gives no buffers (R209). -/
def storeStep1 (c : BitVec 32) (rec : NodeRecord) (d : Device) : Device :=
  let wants := if rec.width = 0 then [] else sourceLayers d
  let (bs, ss, free) := allot c d.spare.fsSubs.length (storeGroups - groupsUsed d) wants
  let d := setPxl (fun p => { p with buffers := p.buffers ++ bs, shorts := p.shorts ++ ss.map (fun (i, f) => (c, i, f)) }) d
  let d := match ss with
    | (i, _) :: _ =>
      let need := ss.foldl (fun n s => n + s.2.groups) 0
      raise 0x30F2 (leN 1 i ++ leN 1 (min 255 (need - free)) ++ leN 4 c.toNat) d
    | [] => d
  sampleStore (groupsUsed d) d

/-- Whether a run suits a source format (R267). -/
def runSuits (s : SliceHdr) (f : SrcFmt) : Bool :=
  s.layer == f.feed && s.rectW == f.srcW && s.rectH == f.srcH &&
  (if s.layout = 3 then f.keyBits != 0 && s.bits == f.keyBits else s.layout == f.layout && s.bits == f.fillBits)

/-- A run that suits no layer (R267), reported once per content frame. -/
def runMismatch (c : BitVec 32) (s : SliceHdr) (d : Device) : Device :=
  let d := d.bump 0x3840 1
  if d.pxl.mismatchTold.contains c then d
  else raise 0x3003 (leN 1 s.layer ++ leN 1 s.layout ++ zeros 2 ++ leN 4 c.toNat)
    (setPxl (fun p => { p with mismatchTold := lastN 16 (p.mismatchTold ++ [c]) }) d)

/-- A run written into its layer's buffer of content frame `c` (R266, R267); runs of a layer left short are counted (R213). -/
def storeRun (c : BitVec 32) (s : SliceHdr) (data : List Byte) (d : Device) : Device :=
  let mine := fun (b : Buffer) => b.content == c && !b.hold && runSuits s b.fmt
  if d.pxl.buffers.any mine then
    let run : StoredRun := { first := s.first, count := s.count, data := data }
    setPxl (fun p => { p with buffers := p.buffers.map (fun b =>
      if !(mine b) then b
      else if s.layout = 3 then { b with key := b.key ++ [run], keyN := b.keyN + s.count }
      else { b with fill := b.fill ++ [run], fillN := b.fillN + s.count }) }) d
  else if d.pxl.shorts.any (fun (k, _, f) => k == c && runSuits s f) then d.bump 0x3808 1
  else runMismatch c s d

/-- Whether the slice window of content frame `c` has not opened yet (R91). -/
def sliceEarly (d : Device) (c : BitVec 32) : Bool :=
  d.clk.rp.before { frame := c - 1, line := d.clk.raster.lines - 1, sub := 0 }

/-- Whether it has closed, or the stamp is unordered. -/
def sliceLate (d : Device) (c : BitVec 32) : Bool :=
  d.clk.rp.unordered (RP.start c) ||
  d.clk.rp.reached { frame := c + BitVec.ofNat 32 (presentP d) - 1, line := cutLine d, sub := 0 }

/-- A slice discarded under R91. -/
def outOfWindow (c : BitVec 32) (early : Bool) (d : Device) : Device :=
  let d := d.bump (if early then 0x3058 else 0x305C) 1
  { d with tim := { d.tim with
      earlyFirst := some (d.tim.earlyFirst.getD c),
      earlyCount := if early then satAdd 65535 d.tim.earlyCount 1 else d.tim.earlyCount,
      lateCount := if early then d.tim.lateCount else satAdd 65535 d.tim.lateCount 1 } }

/-- The sequences taken for a content frame (R133). -/
def pixSeen (d : Device) (c : BitVec 32) : List Nat :=
  match d.flows.pix.find? (fun x => x.1 == c) with | some x => x.2 | none => []

/-- A sequence marked taken. -/
def pixMark (c : BitVec 32) (n : Nat) (d : Device) : Device :=
  let p := d.flows.pix
  let q := if p.any (fun x => x.1 == c) then p.map (fun x => if x.1 == c then (c, x.2 ++ [n]) else x) else p ++ [(c, [n])]
  { d with flows := { d.flows with pix := q } }

/-- A PIX_SLICE that is good and for this device (R91, R133, R267): its window, its content frame's sequence map, its run. -/
def sliceTake (p : Nat) (h : Hdr) (b : List Byte) (d : Device) : Device :=
  let s := sliceHdr b
  let c := h.stamp.frame
  if !d.isNode || s.gen != (recordFor d (c + BitVec.ofNat 32 (presentP d))).2 then malformed p d
  else if sliceLate d c then outOfWindow c false d
  else if sliceEarly d c then outOfWindow c true d
  else if (pixSeen d c).contains h.seq then d.bump (lnkReg p 0x14) 1
  else storeRun c s (cut b 26 s.bytes) (pixMark c h.seq d)

/-- PIX_SLICE (R118, R91, R133, R267). -/
def pixSliceFx (f : RxFrame) (d : Device) : Device :=
  takeNumbered f (fun h _ => h.cls == 1) (sliceTake f.port.val) d

/-- PIX_SLICE. -/
def execPixSlice (f : RxFrame) (s : State) : Result := act (pixSliceFx f) s

/-- The storage of the content frames up to `c` freed (R92, R133): their sequence maps and short layers are forgotten. -/
def contentFreed (c : BitVec 32) (d : Device) : Device :=
  let d := { d with flows := { d.flows with pix := d.flows.pix.filter (fun x => decide (0 < frameDiff x.1 c)) } }
  setPxl (fun p => { p with shorts := p.shorts.filter (fun x => decide (0 < frameDiff x.1 c)) }) d

end Sys2Proof.Machine
end

