-- ==== Sys2Proof/Machine/Layers.lean ====
section
/-! DEFINITION. Machine/Layers.lean: layer records and DISPLAY commands of the layers (R259 to R265, R275, R280), and the
arithmetic from stored components to the composed value (R269 to R283, R286). -/

namespace Sys2Proof.Machine

/-- A layer record (R261). `mode`: 1 SOLID. -/
structure LayerRec where
  mode : Nat
  fmt  : SrcFmt
  disp : Disp
  deriving DecidableEq, Repr

/-- A layer record read from its 64 bytes. -/
def layerRec (b : List Byte) : LayerRec :=
  let n := fun (o k : Nat) => le b o k
  { mode := n 0 1
    fmt := { feed := n 1 1, layout := n 2 1, fillBits := n 3 1, keyBits := n 4 1, srcW := n 8 2, srcH := n 10 2 }
    disp := { solid := n 0 1 == 1, style := n 5 1 % 64, opacity := n 6 2, gx := n 0x0C 4 % 2 ^ 20, gy := n 0x10 4 % 2 ^ 20,
              outW := n 0x14 4, outH := n 0x18 4, stepX := n 0x1C 4, stepY := n 0x20 4, ox := n 0x24 4, oy := n 0x28 4,
              colour := (List.range 4).map (fun i => n (0x2C + 4 * i) 4 % 2 ^ 20) } }

/-- Reason 1 of R262. -/
def layerFields (layer : Nat) (r : LayerRec) : Bool :=
  let d := r.disp
  let f := r.fmt
  decide (layer ≤ 7) && decide (r.mode ≤ 1) && (r.mode == 0 || layer == 0) &&
  (r.mode == 1 ||
    (decide (1 ≤ f.feed) && decide (f.feed ≤ 7) && decide (f.layout ≤ 2) && depthOk f.fillBits &&
     (f.keyBits == 0 || depthOk f.keyBits) && bitsOf d.style 5 4 != 3 && decide (bitsOf d.style 3 2 ≤ 1) && decide (1 ≤ f.srcW) && decide (f.srcW ≤ 8192) &&
     decide (1 ≤ f.srcH) && decide (f.srcH ≤ 4320) && (f.layout != 2 || f.srcW % 2 == 0) &&
     decide (1 ≤ d.outW) && decide (d.gx + d.outW ≤ 1048576) && decide (1 ≤ d.outH) && decide (d.gy + d.outH ≤ 1048576) &&
     decide (4096 ≤ d.stepX) && decide (d.stepX ≤ 1048576) && decide (4096 ≤ d.stepY) && decide (d.stepY ≤ 1048576) &&
     decide (d.ox < f.srcW * 65536) && decide (d.oy < f.srcH * 65536)))

/-- A layer's settings after its record: SOLID takes the mode and the colour alone (R261). -/
def layerApply (r : LayerRec) (l : Layer) : Layer :=
  if r.mode = 1 then { l with disp := { l.disp with solid := true, colour := r.disp.colour } }
  else { l with fmt := r.fmt, disp := r.disp }

/-- The default settings of a present layer (R265). -/
def layerDefault (i : Nat) (n : NodeRecord) : Layer :=
  let w := max 1 n.width; let h := max 1 n.height
  { present := true
    fmt := { feed := i, layout := if n.primaries = 4 then 1 else 0, fillBits := n.sliceBits, keyBits := 0, srcW := w, srcH := h }
    disp := { solid := i == 0, style := 2, opacity := 65535, gx := n.regionX, gy := n.regionY, outW := w, outH := h,
              stepX := 65536, stepY := 65536, ox := 0, oy := 0, colour := [0, 0, 0, 0] } }

/-- The layers a record makes present or absent (R259, R265): a layer newly present takes its defaults, an absent one keeps
nothing. -/
def presentLayers (n : NodeRecord) (ls : List Layer) : List Layer :=
  ls.zipIdx.map (fun (l, i) => if n.layers ≤ i then {} else if l.present then l else layerDefault i n)

/-- Whether two present source layers share a feed (R260). -/
def feedsClash (ls : List Layer) : Bool :=
  let fs := (ls.filter (fun l => l.source)).map (fun l => l.fmt.feed)
  fs.zipIdx.any (fun (a, i) => (fs.drop (i + 1)).contains a)

/-- The node record for a display frame; a device without one has no layers. -/
def noRecord : NodeRecord :=
  { nodeId := 0, role := 0, headIndex := 0, fingerprint := [], rings := [], regionX := 0, regionY := 0, width := 0, height := 0,
    primaries := 3, sliceBits := 8, layers := 0, dmxMask := 0 }

/-- The record that governs display frame `f`. A device without one has no layers. -/
def recordAt (d : Device) (f : BitVec 32) : NodeRecord := ((recordFor d f).1).getD noRecord

/-- The layers as the record of display frame `f` makes them (R259, R265): all defaults where it gives the device a node ID
they were not set for. -/
def layersFor (f : BitVec 32) (d : Device) : Device :=
  match (recordFor d f).1 with
  | some n =>
    setPxl (fun p =>
      let old := if p.layersOf = some n.nodeId then p.layers else List.replicate 8 {}
      { p with layers := presentLayers n old, layersOf := some n.nodeId }) d
  | none => d

/-- A command's own failures at the commit (R262, reasons 1 and 2); `none`: it passes. -/
def layerSetBad (n : NodeRecord) (c : Cmd) : Option Nat :=
  match c.host with
  | .data b =>
    if !(layerFields (opB c 8) (layerRec b)) then some 1 else if n.layers ≤ opB c 8 then some 2 else none
  | _ => some 1

/-- The completion of a DISPLAY command for display frame `f` (R88, R89). -/
def finishAt (op : Nat) (c : Cmd) (f : BitVec 32) (d : Device) : Device := finish op c (RP.start f) [] d

/-- The check made once on the LAYER_SETs of one commit point that pass their own (R262, R263): the reason they all fail with. -/
def layerVerdict (f : BitVec 32) (cs : List Cmd) (d : Device) : Option Nat :=
  let n := recordAt d f
  let ls := (cs.filter (fun c => (layerSetBad n c).isNone)).foldl (fun ls c => match c.host with
    | .data b => modAt ls (opB c 8) (layerApply (layerRec b))
    | _ => ls) d.pxl.layers
  if feedsClash ls then some 3 else if n.width ≠ 0 ∧ storeGroups < budgetOf d ls then some 4 else none

/-- One of those LAYER_SETs in its turn (R96), with the verdict on them all. -/
def layerSetTurn (f : BitVec 32) (why : Option Nat) (c : Cmd) (d : Device) : Device :=
  match c.host, layerSetBad (recordAt d f) c, why with
  | .busError, _, _ => refuse 0x30 c 0x0A [] d
  | _, some r, _ => refuse 0x30 c 4 (leN 1 r) d
  | _, none, some r => refuse 0x30 c 4 (leN 1 r) d
  | .data b, none, none =>
    finishAt 0x30 c f (setPxl (fun p => { p with layers := modAt p.layers (opB c 8) (layerApply (layerRec b)) }) d)
  | .none, none, none => refuse 0x30 c 4 (leN 1 1) d

/-- The LAYER_SETs of one commit point (R263): applied together, or none. -/
def layerSetsFx (f : BitVec 32) (cs : List Cmd) (d : Device) : Device :=
  let d := layersFor f d
  let why := layerVerdict f cs d
  cs.foldl (fun d c => layerSetTurn f why c d) d

/-- LAYER_SET (R262 to R264). -/
def layerSetFx (f : BitVec 32) (c : Cmd) (d : Device) : Device :=
  if !d.isNode then refuse 0x30 c 5 [] d
  else if misaligned c then refuse 0x30 c 4 (leN 1 1) d
  else layerSetsFx f [c] d

/-- A LUT of 4,096 U20 entries read from its table (R275); `none` where it is the default table. -/
def lutOf (b : List Byte) : List Nat := (List.range 4096).map (fun i => le b (4 * i) 4 % 2 ^ 20)

/-- LAYER_LUT_LOAD (R275). -/
def lutLoadFx (f : BitVec 32) (c : Cmd) (d : Device) : Device :=
  let l := opB c 8; let ch := opB c 9
  let d := layersFor f d
  if !d.isNode then refuse 0x31 c 5 [] d
  else if misaligned c then refuse 0x31 c 4 [] d
  else match c.host with
    | .data b =>
      if !((layerOf d l).source) || 7 < l || (recordAt d f).primaries ≤ ch then refuse 0x31 c 4 [] d
      else finishAt 0x31 c f (setPxl (fun p => { p with layers := modAt p.layers l (fun x =>
        { x with luts := setAt x.luts ch (some (lutOf b)) }) }) d)
    | .busError => refuse 0x31 c 0x0A [] d
    | .none => refuse 0x31 c 4 (leN 1 1) d

/-- A scaler table of `n` taps a phase read from signed 16-bit values. -/
def tapsOf (b : List Byte) (off n : Nat) : List (List Int) :=
  (List.range 64).map (fun ph => (List.range n).map (fun t => signed 16 (le b (off + 2 * (n * ph + t)) 2)))

/-- Whether a scaler table's taps are in range and every phase sums to 1,024 (R280). -/
def tapsGood (t : List (List Int)) : Bool :=
  t.all (fun ph => ph.all (fun x => decide (-2048 ≤ x) && decide (x ≤ 2047)) && ph.foldl (· + ·) 0 == 1024)

/-- LAYER_SCALER_LOAD (R280). -/
def scalerLoadFx (f : BitVec 32) (c : Cmd) (d : Device) : Device :=
  let l := opB c 8
  let d := layersFor f d
  if !d.isNode then refuse 0x32 c 5 [] d
  else if misaligned c then refuse 0x32 c 4 [] d
  else match c.host with
    | .data b =>
      let t : Taps := { ch := tapsOf b 0 8, cv := tapsOf b 1024 6 }
      if !(tapsGood t.ch) || !(tapsGood t.cv) || 7 < l || !((layerOf d l).source) then refuse 0x32 c 4 [] d
      else finishAt 0x32 c f (setPxl (fun p => { p with layers := modAt p.layers l (fun x => { x with taps := some t }) }) d)
    | .busError => refuse 0x32 c 0x0A [] d
    | .none => refuse 0x32 c 4 (leN 1 1) d

/-- LAYER_SET. -/
def execLayerSet (c : Cmd) (s : State) : Result := act (fun d => layerSetFx (nextDisplay d) c d) s

/-- LAYER_LUT_LOAD. -/
def execLayerLutLoad (c : Cmd) (s : State) : Result := act (fun d => lutLoadFx (nextDisplay d) c d) s

/-- LAYER_SCALER_LOAD. -/
def execLayerScalerLoad (c : Cmd) (s : State) : Result := act (fun d => scalerLoadFx (nextDisplay d) c d) s

/-- `w` bits at bit `pos` of a bit stream, most significant first (R116). -/
def streamBits (bs : List Byte) (pos w : Nat) : Nat :=
  let n := (pos % 8 + w + 7) / 8
  be bs (pos / 8) n / 2 ^ (8 * n - pos % 8 - w) % 2 ^ w

/-- `w` bits at `off` within pixel `n` of a region, as the last run covering it wrote them (R266, R268). -/
def regionBits (runs : List StoredRun) (bpp n off w : Nat) : Nat :=
  match runs.reverse.find? (fun r => decide (r.first ≤ n) && decide (n < r.first + r.count)) with
  | some r => streamBits r.data ((n - r.first) * bpp + off) w
  | none => 0

/-- Expansion by bit replication (R269). -/
def replicate16 (b x : Nat) : Nat :=
  if b = 8 then x * 257 else if b = 10 then x * 64 + x / 16 else if b = 12 then x * 16 + x / 256 else x

/-- A fill component as a 16-bit code (R269). -/
def expand16 (full : Bool) (b x : Nat) : Nat := if full then replicate16 b x else x * 2 ^ (16 - b)

/-- The coefficients of R270. -/
def yccCoef (bt2020 full : Bool) : Int × Int × Int × Int × Int :=
  if bt2020 then (if full then (8192, 12080, -1348, -4681, 15412) else (9576, 13805, -1541, -5349, 17614))
  else if full then (8192, 12901, -1535, -3835, 15201) else (9576, 14743, -1754, -4383, 17372)

/-- A 16-bit code from an integer (R270). -/
def code16 (x : Int) : Nat := (clamp x 0 65535).toNat

/-- YCbCr to RGB codes (R270). -/
def yccToRgb (bt2020 full : Bool) (y16 cb16 cr16 : Nat) : List Nat :=
  let (ky, kr, kgb, kgr, kb) := yccCoef bt2020 full
  let y : Int := (y16 : Int) - (if full then 0 else 4096)
  let cb : Int := (cb16 : Int) - 32768
  let cr : Int := (cr16 : Int) - 32768
  [code16 ((ky * y + kr * cr + 4096) / 8192), code16 ((ky * y + kgb * cb + kgr * cr + 4096) / 8192),
   code16 ((ky * y + kb * cb + 4096) / 8192)]

/-- A narrow-range code mapped to full range (R270). -/
def narrowToFull (x16 : Nat) : Nat := code16 ((9576 * ((x16 : Int) - 4096) + 4096) / 8192)

/-- The 16-bit channel codes of source pixel `n` of a buffer (R269 to R271). -/
def unpackFill (b : Buffer) (style : Nat) (n : Nat) : List Nat :=
  let f := b.fmt
  let full := hasBit style 1
  let w := f.fillBits
  if f.layout = 2 then
    let get := fun (m off : Nat) => expand16 full w (regionBits b.fill (2 * w) m (off * w) w)
    let m := n - n % 2
    let lastPair := m % f.srcW + 2 ≥ f.srcW
    let chroma := fun (off : Nat) => if n % 2 = 0 ∨ lastPair then get m off else (get m off + get (m + 2) off + 1) / 2
    yccToRgb (hasBit style 0) full (get m (if n % 2 = 0 then 1 else 3)) (chroma 0) (chroma 2)
  else
    let k := comps f.layout
    (List.range k).map (fun j =>
      let x := expand16 full w (regionBits b.fill (k * w) n (j * w) w)
      if full then x else narrowToFull x)

/-- The 16-bit alpha of source pixel `n` (R269). -/
def unpackAlpha (b : Buffer) (n : Nat) : Nat :=
  if b.fmt.keyBits = 0 then 65535
  else replicate16 b.fmt.keyBits (regionBits b.key b.fmt.keyBits n 0 b.fmt.keyBits)

/-- Entry `i` of a LUT or of the default LUT (R273, R308). -/
def lutEntry (t : Option (List Nat)) (i : Nat) : Nat :=
  match t with | some l => nth l i | none => i * 1048575 / 4095

/-- A LUT with interpolation (R273, R308). -/
def lutLerp (t : Option (List Nat)) (i f : Nat) : Nat := (lutEntry t i * (16 - f) + lutEntry t (min 4095 (i + 1)) * f + 8) / 16

/-- The weight of a 16-bit fraction (R274, R282). -/
def weight16 (a : Nat) : Nat := a + a / 32768

/-- A source pixel in linear light, premultiplied: `p` channels, then alpha (R272 to R274). -/
def linPixel (b : Buffer) (style : Nat) (luts : List (Option (List Nat))) (p n : Nat) : List Nat :=
  let codes := unpackFill b style n
  let a := unpackAlpha b n
  let wk := weight16 a
  (List.range p).map (fun c =>
    match codes[c]? with
    | some x => (lutLerp (luts.getD c none) (x / 16) (x % 16) * wk + 32768) / 65536
    | none => 0) ++ [a]

/-- The geometry a layer is scaled under for a display frame (R276 to R278). -/
structure Geom where
  dh : Nat
  dv : Nat
  wd : Nat
  hd : Nat
  span1 : Nat
  deriving DecidableEq, Repr

/-- The source position of a window column or row (R276). -/
def srcPos (o step g x : Nat) : Int := (o : Int) + ((x : Int) - g) * step + (step / 2 : Nat) - 32768

/-- A position carried into a decimated layer (R277). -/
def decPos (u : Int) (k : Nat) : Int := (u - ((k : Int) - 1) * 32768) / k

/-- The columns at which a layer contributes in a node's window (R276, R278), as global first and last. -/
def layerCols (n : NodeRecord) (s : Disp) : Option (Nat × Nat) :=
  let a := max n.regionX s.gx; let b := min (n.regionX + n.width) (s.gx + s.outW)
  if a < b then some (a, b - 1) else none

/-- The same for rows. -/
def layerRows (n : NodeRecord) (s : Disp) : Option (Nat × Nat) :=
  let a := max n.regionY s.gy; let b := min (n.regionY + n.height) (s.gy + s.outH)
  if a < b then some (a, b - 1) else none

/-- The span of R278 under a decimation. -/
def spanOf (srcW : Nat) (s : Disp) (x0 x1 k : Nat) : Nat :=
  let lo := max (decPos (srcPos s.ox s.stepX s.gx x0) k / 65536 - 3) 0
  let hi := min (decPos (srcPos s.ox s.stepX s.gx x1) k / 65536 + 4) ((ceilDiv srcW k : Nat) - 1 : Int)
  (hi - lo + 1).toNat

/-- The decimation of a layer (R277, R278). -/
def geomOf (n : NodeRecord) (f : SrcFmt) (s : Disp) : Geom :=
  let dv := if s.stepY ≤ 6 * 65536 then 1 else if s.stepY ≤ 6 * 65536 * 2 then 2 else 4
  let span : Nat → Nat := fun k => match layerCols n s, layerRows n s with
    | some (x0, x1), some _ => spanOf f.srcW s x0 x1 k
    | _, _ => 0
  let dh := if span 1 ≤ 4096 then 1 else if span 2 ≤ 4096 then 2 else 4
  { dh := dh, dv := dv, wd := ceilDiv f.srcW dh, hd := ceilDiv f.srcH dv, span1 := span 1 }

/-- Values added entry by entry. -/
def addLists (a b : List Nat) : List Nat := List.zipWith (· + ·) a b

/-- A decimated pixel (R277): the rounded mean of a block. -/
def decPixel (lin : Nat → List Nat) (f : SrcFmt) (g : Geom) (col row : Nat) (p : Nat) : List Nat :=
  let n := g.dh * g.dv
  let px := fun (i j : Nat) => lin (min (row * g.dv + j) (f.srcH - 1) * f.srcW + min (col * g.dh + i) (f.srcW - 1))
  if n = 1 then px 0 0
  else
    let sum := (List.range g.dv).foldl (fun a j => (List.range g.dh).foldl (fun a i => addLists a (px i j)) a)
      (List.replicate (p + 1) 0)
    sum.map (fun x => (x + n / 2) / n)

/-- Taps of a phase: loaded, or linear interpolation (R280). -/
def tapRow (t : Option (List (List Int))) (n ph : Nat) : List Int :=
  match t with
  | some l => l.getD ph []
  | none =>
    let m := n / 2 - 1
    (List.range n).map (fun i => if i = m then 1024 - 16 * (ph : Int) else if i = m + 1 then 16 * (ph : Int) else 0)

/-- The limit of channel `c` of `p` (R279). -/
def chanMax (p c : Nat) : Int := if c < p then 1048575 else 65535

/-- A weighted sum of pixels, clamped (R279). -/
def filterPix (p : Nat) (taps : List Int) (pix : List (List Nat)) : List Nat :=
  (List.range (p + 1)).map (fun c =>
    let s := (List.zipWith (fun (t : Int) (x : List Nat) => if t = 0 then 0 else t * (nth x c : Int)) taps pix).foldl (· + ·) 0
    (clamp ((s + 512) / 1024) 0 (chanMax p c)).toNat)

/-- An index held within 0 to `n − 1`. -/
def clampIdx (i : Int) (n : Nat) : Nat := (clamp i 0 ((n : Int) - 1)).toNat

/-- A layer's scaled pixel at global (`x`, `y`): `p` channels, then alpha (R276 to R279). -/
def scaledPixel (b : Buffer) (s : Disp) (luts : List (Option (List Nat))) (taps : Option Taps) (g : Geom) (p x y : Nat) :
    List Nat :=
  let u := decPos (srcPos s.ox s.stepX s.gx x) g.dh
  let v := decPos (srcPos s.oy s.stepY s.gy y) g.dv
  let i := u / 65536; let ph := (u % 65536 / 1024).toNat
  let j := v / 65536; let pv := (v % 65536 / 1024).toNat
  let lin := linPixel b s.style luts p
  let th := tapRow (taps.map Taps.ch) 8 ph
  let tv := tapRow (taps.map Taps.cv) 6 pv
  let line := fun (r : Nat) =>
    filterPix p th ((List.range 8).map (fun (t : Nat) =>
      if nthI th t = 0 then [] else decPixel lin b.fmt g (clampIdx (i + (t : Int) - 3) g.wd) r p))
  filterPix p tv ((List.range 6).map (fun (t : Nat) =>
    if nthI tv t = 0 then [] else line (clampIdx (j + (t : Int) - 2) g.hd)))

/-- A layer blended onto a pixel (R282). -/
def blendPixel (s : Disp) (p : Nat) (src d : List Nat) : List Nat :=
  let wo := weight16 s.opacity
  let wd := (weight16 (nth src p) * wo + 32768) / 65536
  (List.range p).map (fun c =>
    if hasBit s.style 2 then min 1048575 (nth d c + (nth src c * wo + 32768) / 65536)
    else min 1048575 ((nth src c * wo + nth d c * (65536 - wd) + 32768) / 65536))

/-- The late policy: 0 HOLD, 1 CLEAR, 2 SUBSTITUTE (R261). -/
def latePolicy (s : Disp) : Nat := bitsOf s.style 5 4

/-- The part of a layer's scaled source that output segment (`y`, `s`) draws on (R243, R276, R279): the first and last column and line,
counted after any pre-decimation. -/
structure SegSpan where
  i0 : Nat
  i1 : Nat
  j0 : Nat
  j1 : Nat
  deriving DecidableEq, Repr

/-- The span of a layer's segment; `none` where the layer's window does not touch the segment. -/
def segSpan (sd : Disp) (g : Geom) (n : NodeRecord) (y s : Nat) : Option SegSpan :=
  let x0 := max (n.regionX + 64 * s) sd.gx
  let x1 := min (min (n.regionX + 64 * s + 63) (n.regionX + n.width - 1)) (sd.gx + sd.outW - 1)
  let yy := n.regionY + y
  if x1 < x0 ∨ yy < sd.gy ∨ sd.gy + sd.outH ≤ yy then none
  else
    let col := fun (x : Nat) => decPos (srcPos sd.ox sd.stepX sd.gx x) g.dh / 65536
    let row := decPos (srcPos sd.oy sd.stepY sd.gy yy) g.dv / 65536
    some { i0 := clampIdx (col x0 - 3) g.wd, i1 := clampIdx (col x1 + 4) g.wd,
           j0 := clampIdx (row - 2) g.hd, j1 := clampIdx (row + 3) g.hd }

/-- Whether word `w` of a buffer contributes to a layer's segment (R230): it holds some bit of a source pixel that the segment's taps
reach, the chroma of the pair after a pixel of a 4:2:2 layer included (R270). -/
def wordFeeds (f : SrcFmt) (g : Geom) (p : SegSpan) (w : Nat) : Bool :=
  let keyWord := ceilDiv f.fillSize 256
  let fill := decide (w < keyWord)
  let pairs := fill && f.layout == 2
  let bpp := if fill then comps f.layout * f.fillBits else max 1 f.keyBits
  let base := if fill then w else w - keyWord
  let a := p.i0 * g.dh; let b := p.i1 * g.dh + g.dh - 1
  let c0 := if pairs then a - a % 2 else a
  let c1 := if pairs then b - b % 2 + 3 else b
  let r0 := p.j0 * g.dv; let r1 := p.j1 * g.dv + g.dv - 1
  let n0 := 256 * base / bpp; let n1 := (256 * base + 255) / bpp
  (List.range (n1 + 1 - n0)).any (fun i =>
    let m := n0 + i
    decide (c0 ≤ m % f.srcW) && decide (m % f.srcW ≤ c1) && decide (r0 ≤ m / f.srcW) && decide (m / f.srcW ≤ r1))

/-- Whether FETCH reads word `w` of a buffer for output segment (`y`, `s`). -/
def segReads (b : Buffer) (sd : Disp) (g : Geom) (n : NodeRecord) (w y s : Nat) : Bool :=
  match segSpan sd g n y s with | some p => wordFeeds b.fmt g p w | none => false

/-- Whether a poisoned word feeds the layer's part of output segment (`y`, `s`) (R230). -/
def segPoisoned (b : Buffer) (sd : Disp) (g : Geom) (n : NodeRecord) (y s : Nat) : Bool :=
  b.poison.any (fun w => segReads b sd g n w y s)

/-- A layer's part of a pixel: transparent, or channels and alpha (R238, R283, R230). -/
def layerPixel (n : NodeRecord) (l : GraphLayer) (x y : Nat) : Option (List Nat) :=
  let p := n.primaries
  let s := l.disp
  let gx := n.regionX + x; let gy := n.regionY + y
  if gx < s.gx ∨ s.gx + s.outW ≤ gx ∨ gy < s.gy ∨ s.gy + s.outH ≤ gy then none
  else
    let from_ := fun (b : Buffer) => some (scaledPixel b s l.luts l.taps (geomOf n b.fmt s) p gx gy)
    let colour := some (s.colour.take p ++ [65535])
    let bad := fun (b : Buffer) => segPoisoned b s (geomOf n b.fmt s) n y (x / 64)
    match l.what with
    | .absent => none
    | .solid => none
    | .clear => none
    | .subst => colour
    | .hold b => if bad b then none else from_ b
    | .source b =>
      if !(bad b) then from_ b
      else match latePolicy s, l.spare with
        | 0, some h => if bad h then none else from_ h
        | 2, _ => colour
        | _, _ => none

/-- The composed value of a window pixel, `p` channels (R281). -/
def composedPixel (n : NodeRecord) (ls : List GraphLayer) (x y : Nat) : List Nat :=
  ls.foldl (fun d l =>
    match l.what with
    | .solid => l.disp.colour.take n.primaries
    | _ => (match layerPixel n l x y with | some src => blendPixel l.disp n.primaries src d | none => d))
    (List.replicate n.primaries 0)

/-- The buffer that FETCH reads for a layer (R238). -/
def fetchBuf (w : LayerIn) : Option Buffer := match w with | .source b => some b | .hold b => some b | _ => none

/-- The number of layer segments a graph finds poisoned, and the lowest layer (R231). -/
def poisonedSegments (n : NodeRecord) (ls : List GraphLayer) : Nat × Option Nat :=
  ls.foldl (fun (k, low) l =>
    match fetchBuf l.what with
    | some b =>
      let g := geomOf n b.fmt l.disp
      let c := ((List.range n.height).map (fun y => ((List.range (ceilDiv n.width 64)).filter (fun s =>
        segPoisoned b l.disp g n y s)).length)).foldl (· + ·) 0
      (k + c, if 0 < c then some (low.getD l.idx) else low)
    | none => (k, low)) (0, none)

/-- The integer square root (R286). -/
def isqrt (x : Nat) : Nat := (List.range 11).foldl (fun r i =>
  let t := r + 2 ^ (10 - i)
  if t * t ≤ x then t else r) 0

/-- The PROOF value of a box channel (R286). -/
def proofValue (sum : Nat) : Nat := isqrt ((sum + 8) / 16) / 4

end Sys2Proof.Machine
end

