-- ==== Sys2Proof/Machine/Correct.lean ====
section
/-! DEFINITION. Machine/Correct.lean: per-pixel correction (R289, R308, R309), exposure (R295, R296), wear gain (R298 to
R301), the calibration store's poison (R292), the records kept in flash (R303 to R307), and opcodes 0x33 to 0x36. -/

namespace Sys2Proof.Machine

/-- The correction block changed. -/
def setCorr (f : Corr → Corr) (d : Device) : Device := { d with corr := f d.corr }

/-- The identity matrix of a pixel (R290). -/
def identMatrix (p : Nat) : List Int := [8192, 0, 0, 0, 8192, 0, 0, 0, 8192] ++ (if p = 4 then [0, 0, 0, 8192] else [])

/-- A pixel's matrix. -/
def matrixOf (c : Corr) (p n : Nat) : List Int := (mfind c.matrix n).getD (identMatrix p)

/-- The step of a phase-in that display frame `f` takes (R301), 0 before the first. -/
def phaseStep (c : Corr) (f : BitVec 32) : Nat := match c.phase with | some ph => (frameDiff f ph.first + 1).toNat | none => 0

/-- The applied gain code of pixel primary `k` for display frame `f` (R301). -/
def gainOf (c : Corr) (f : BitVec 32) (k : Nat) : Nat :=
  let go := mget c.gain k 818
  match c.phase with
  | some ph =>
    let j := phaseStep c f
    let gn := mget c.cand k 818
    if j = 0 then go else if ph.n ≤ j then gn else (((go : Int) + (((gn : Int) - go) * j * 2 + ph.n) / (2 * ph.n)).toNat)
  | none => go

/-- The dither threshold (R309). -/
def dither (f : BitVec 32) (gx gy c : Nat) : Nat :=
  nth [0, 8, 2, 10, 12, 4, 14, 6, 3, 11, 1, 9, 15, 7, 13, 5] ((gy + f.toNat / 4 + c) % 4 * 4 + (gx + f.toNat) % 4)

/-- ENC (R308). -/
def encode20 (t : Option (List Nat)) (k : Nat) : Nat := lutLerp t (k / 256) (k / 16 % 16)

/-- CCM of R289: channel `c` from the composed channels. -/
def ccm (m : List Int) (d : List Nat) (c : Nat) : Nat :=
  let row := if c < 3 then [nthI m (3 * c), nthI m (3 * c + 1), nthI m (3 * c + 2)] else (m.drop 9).take 4
  let acc := (List.zipWith (fun (a : Int) (x : Nat) => a * (x : Int)) row d).foldl (· + ·) 0
  (clamp ((acc + 4096) / 8192) 0 1048575).toNat

/-- The code of channel `c` of a pixel (R289): CCM, wear gain, ENC, DITHER. -/
def codeOf (e g : Nat) (enc : Option (List Nat)) (t : Nat) : Nat :=
  let k := (e * (g + 1) + 512) / 1024
  min 65535 ((encode20 enc k + t) / 16)

/-- A composed pixel as it enters CCM, ENC or DITHER: after 0, 1 or 2 of the operations (R237, R289). -/
def stageOf (c : Corr) (n : NodeRecord) (f : BitVec 32) (x y k : Nat) (d : List Nat) : List Nat :=
  let i := y * n.width + x
  let m := matrixOf c n.primaries i
  if k = 0 then d
  else (List.range n.primaries).map (fun ch =>
    let e := (ccm m d ch * (gainOf c f (i * n.primaries + ch) + 1) + 512) / 1024
    if k = 1 then e else encode20 (c.encLuts.getD ch none) e)

/-- The codes of a window pixel for display frame `f` (R289). -/
def pixelCodes (c : Corr) (n : NodeRecord) (f : BitVec 32) (x y : Nat) (d : List Nat) : List Nat :=
  let i := y * n.width + x
  let m := matrixOf c n.primaries i
  (List.range n.primaries).map (fun ch =>
    codeOf (ccm m d ch) (gainOf c f (i * n.primaries + ch)) (c.encLuts.getD ch none)
      (dither f (n.regionX + x) (n.regionY + y) ch))

/-- kexp of R295. -/
def kexp (r : Raster) : Nat :=
  let dd := 3600 * 65535 * r.num
  (2 * 4096 * 2 ^ 32 * r.den + dd) / (2 * dd)

/-- The exposure added by code `q` (R295). -/
def expoInc (r : Raster) (f : BitVec 32) (gx gy c q : Nat) : Nat :=
  (q * kexp r + (f.toNat * 0x9E3779B9 + gx * 0x2545F491 + gy * 0x4F6CDD1D + c * 0x1B873593) % 2 ^ 32) / 2 ^ 32

/-- Pixels of a window. -/
def pixels (n : NodeRecord) : List Nat := List.range (n.width * n.height)

/-- The exposure of one display frame added (R295). -/
def addExposure (n : NodeRecord) (r : Raster) (f : BitVec 32) (codes : NatMap Nat) (c : Corr) : Corr :=
  { c with expo := (pixels n).foldl (fun e i => (List.range n.primaries).foldl (fun e ch =>
      let k := i * n.primaries + ch
      let inc := expoInc r f (n.regionX + i % n.width) (n.regionY + i / n.width) ch (mget codes k 0)
      mset e k 0 (satAdd 0xFFFFFFFF (mget e k 0) inc)) e) c.expo }

/-- Remaining output predicted by a curve (R298). -/
def wearRem (curve : Option (List Nat)) (e : Nat) : Nat :=
  let i := e / 2 ^ 24; let fr := e / 2 ^ 16 % 256
  let at_ := fun k => match curve with | some l => nth l k | none => 65536
  (at_ i * (256 - fr) + at_ (i + 1) * fr + 128) / 256

/-- remc of R298. -/
def wearRemc (curve : Option (List Nat)) (kappa e : Nat) : Nat :=
  65536 - min 65536 (((65536 - wearRem curve e) * kappa + 16384) / 32768)

/-- The gain code of R298. -/
def wearGain (t remc : Nat) : Nat :=
  if remc = 0 then 1023 else (clamp ((((t * 1024 + remc / 2) / remc : Nat) : Int) - 1) 0 1023).toNat

/-- κ in use for a primary (R299). -/
def kappaUsed (c : Corr) (ch : Nat) : Nat := if c.active then nth c.wear.kappa ch else 32768

/-- remc of a pixel primary. -/
def remcOf (c : Corr) (p k : Nat) : Nat :=
  let ch := k % p
  wearRemc (c.wear.curves.getD ch none) (kappaUsed c ch) (mget c.expo k 0)

/-- The gain code a pass computes for a pixel primary. -/
def passGain (c : Corr) (p k : Nat) : Nat := wearGain (nth c.wear.target (k % p)) (remcOf c p k)

/-- The pixel primaries of a window. -/
def primaries (n : NodeRecord) : List Nat := List.range (n.width * n.height * n.primaries)

/-- A whole pass (R298): the candidate gains and the count at their limit. -/
def wearCompute (n : NodeRecord) (c : Corr) : Corr :=
  { c with
    cand := (primaries n).foldl (fun g k => mset g k 818 (passGain c n.primaries k)) []
    atLimit := ((primaries n).filter (fun k => decide (remcOf c n.primaries k < nth c.wear.target (k % n.primaries)))).length }

/-- The record in force, or one with no pixels. -/
def recordNow (d : Device) : NodeRecord := d.topo.record.getD noRecord

/-! ### The calibration store (R291) -/

/-- Words of the calibration store. -/
def calWords : Nat := 163840

/-- Bits per pixel of the matrix region. -/
def matrixBits (p : Nat) : Nat := if p = 4 then 208 else 144

/-- The first words of the regions: matrix, Gain A, Gain B, exposure; then of the rest, which holds staged LUTs and curves. -/
def calFirst (p : Nat) : List Nat := if p = 4 then [0, 79872, 95232, 110592, 159744] else [0, 73728, 89088, 104448, 153600]

/-- The region of a word: 0 matrix, 1 Gain A, 2 Gain B, 3 exposure, 4 the rest. -/
def calRegion (p w : Nat) : Nat := ((calFirst p).filter (fun x => decide (x ≤ w))).length - 1

/-- Bits per pixel of a region. -/
def calBits (p region : Nat) : Nat := if region = 0 then matrixBits p else if region = 3 then 32 * p else 10 * p

/-- The bit of its region that a word begins with. -/
def calBit (p w : Nat) : Nat := 256 * (w - nth (calFirst p) (calRegion p w))

/-- The first pixel of a word. -/
def calPixel (p w : Nat) : Nat := calBit p w / calBits p (calRegion p w)

/-- The pixels of a window of `total` that have bits in a word. -/
def calPixels (p total w : Nat) : List Nat :=
  let a := calPixel p w
  let b := (calBit p w + 255) / calBits p (calRegion p w)
  ((List.range (b + 1 - a)).map (a + ·)).filter (fun i => decide (i < total))

/-- The region whose gain codes are applied; the other is the candidate (R300). -/
def gainApplied (c : Corr) : Nat := 1 + bit c.gainB

/-- WEAR_SENSOR_ACTIVE (R299): from the first pass after the span reaches 360,000 s; reported once. -/
def sensorCheck (d : Device) : Device :=
  match d.corr.wear.firstRun with
  | some a =>
    if !d.corr.active ∧ a + 360000 ≤ d.corr.lastRun then
      when (!d.corr.told) (raise 0x3015 (d.corr.wear.kappa.flatMap (leN 4))) (setCorr (fun c => { c with active := true, told := true }) d)
    else d
  | none => d

/-- A wear pass due (R300): started, or merged into the one that starts when the present pass or phase-in ends. -/
def wearPass (d : Device) : Device :=
  if d.corr.passing || d.corr.phase.isSome then setCorr (fun c => { c with passDue := true }) d
  else sensorCheck (setCorr (fun c => { c with passing := true, passDue := false }) d)

/-- WEAR_PASS_TIMER (R300): not in mode FROZEN. -/
def execWearPassTimer (s : State) : Result := act (fun d => if d.corr.wear.frozen || !d.isNode then d else wearPass d) s

/-- A whole pass's result written to the candidate region (R300): a poisoned word there is so no more. -/
def candWritten (n : NodeRecord) (c : Corr) : Corr :=
  { wearCompute n c with poison := c.poison.filter (fun w => calRegion n.primaries w != 3 - gainApplied c) }

/-- WEAR_PASS_DONE (R298, R301): the candidate region is written, and its phase-in begins with the display frame of the next boundary; a
graph of that frame already built takes it up (DEDUCED, log entry 47). -/
def wearDoneFx (d : Device) : Device :=
  if !d.corr.passing then d
  else
    let ph : PhaseIn := { first := nextBoundary d, n := nearest 1 65535 (d.field 0x3854 15 0) }
    let d := setCorr (fun c => { candWritten (recordNow d) c with passing := false, phase := some ph }) d
    let d := setPxl (fun p => { p with graph := p.graph.map (fun g =>
      if g.frame = ph.first then { g with corr := { g.corr with cand := d.corr.cand, phase := some ph } } else g) }) d
    sampleLimit d.corr.atLimit d

/-- WEAR_PASS_DONE. -/
def execWearPassDone (s : State) : Result := act wearDoneFx s

/-- The candidate region becomes the applied one, and the former applied region the next candidate (R301). -/
def gainSwap (c : Corr) : Corr := { c with gain := c.cand, cand := c.gain, gainB := !c.gainB, phase := none }

/-- A phase-in that has reached its last step by frame `f` ends (R301), and a pass that waited starts, but for mode FROZEN (R300). -/
def phaseEnd (f : BitVec 32) (d : Device) : Device :=
  match d.corr.phase with
  | some ph =>
    if (ph.n : Int) ≤ frameDiff f ph.first + 1 then
      let d := setCorr gainSwap d
      if !d.corr.passDue then d
      else if d.corr.wear.frozen then setCorr (fun c => { c with passDue := false }) d
      else wearPass d
    else d
  | none => d

/-- The area of the newest valid record of a kind (R304): records that do not fit their area are not valid. -/
def newest {α : Type} (seq : α → BitVec 32) (fits : α → Bool) (rs : List (Option α)) : Option (Nat × α) :=
  match (rs.getD 0 none).filter fits, (rs.getD 1 none).filter fits with
  | some a, some b => if 0 < frameDiff (seq b) (seq a) then some (1, b) else some (0, a)
  | some a, none => some (0, a)
  | none, some b => some (1, b)
  | none, none => none

/-- Bytes of a correction record (R303): header, four curves, four LUTs, the matrix table, CRC. -/
def corrLength (p w h : Nat) : Nat := 64 + 4 * 257 * 4 + 4 * 16384 + w * h * (matrixBits p / 8) + 4

/-- Bytes of an exposure record (R303): header, counters, CRC. -/
def expoLength (p w h : Nat) : Nat := 64 + w * h * p * 4 + 4

/-- The first 16 bytes of a record's header (R303). -/
def recHeader (magic : List Byte) (p flags w h : Nat) (seq : BitVec 32) : List Byte :=
  magic ++ leN 2 0x0100 ++ leN 1 p ++ leN 1 flags ++ leN 2 w ++ leN 2 h ++ leN 4 seq.toNat

/-- A record's bytes with their CRC (R303). -/
def recSealed (b : List Byte) : List Byte := b ++ leN 4 (crc32 b)

/-- The magic bytes of the two kinds of record (R303). -/
def corrMagic : List Byte := [0x5A, 0x4C, 0x43, 0x52]

/-- The magic of an exposure record. -/
def expoMagic : List Byte := [0x5A, 0x4C, 0x45, 0x58]

/-- The four values of a field per primary, those of unused primaries zero (R303). -/
def perPrimary (p : Nat) (f : Nat → List Byte) (size : Nat) : List Byte :=
  (List.range 4).flatMap (fun c => if c < p then f c else zeros size)

/-- The bytes of a correction record in flash (R303). -/
def corrImage (r : CorrRec) : List Byte :=
  let p := r.primaries
  recSealed (recHeader corrMagic p (bit r.wear.frozen) r.width r.height r.seq ++ leN 8 (r.wear.firstRun.getD (2 ^ 64 - 1)) ++ zeros 8 ++
    perPrimary p (fun c => leN 4 (nth r.wear.kappa c)) 4 ++ perPrimary p (fun c => leN 4 (nth r.wear.target c)) 4 ++
    perPrimary p (fun c => (List.range 257).flatMap (fun i => leN 4 (match r.wear.curves.getD c none with | some l => nth l i | none => 65536)))
      1028 ++
    perPrimary p (fun c => (List.range 4096).flatMap (fun i => leN 4 (lutEntry (r.encLuts.getD c none) i))) 16384 ++
    (List.range (r.width * r.height)).flatMap (fun i => ((mfind r.matrix i).getD (identMatrix p)).flatMap (fun m => leN 2 (unsig 16 m))))

/-- The bytes of an exposure record in flash (R303). -/
def expoImage (r : ExpoRec) : List Byte :=
  recSealed (recHeader expoMagic r.primaries 0 r.width r.height r.seq ++ leN 8 r.runSecs ++ r.begun.bytes ++ zeros 32 ++
    (List.range (r.width * r.height * r.primaries)).flatMap (fun k => leN 4 (mget r.counters k 0)))

/-- Whether bytes at the start of an area of `area` bytes are a valid record (R304): `len` gives a record's length from p, width and
height. -/
def recValid (magic : List Byte) (len : Nat → Nat → Nat → Nat) (area : Nat) (bs : List Byte) : Bool :=
  let n := len (le bs 6 1) (le bs 8 2) (le bs 10 2)
  bs.take 4 == magic && le bs 4 2 == 0x0100 && decide (n ≤ area) && decide (n ≤ bs.length) && le bs (n - 4) 4 == crc32 (bs.take (n - 4))

/-- The flash that the records take from PXL_FLASH_BASE (R303): the address of area `k`, correction copies A and B, then exposure areas A
and B, and the bytes of the valid record there, none where there is no valid one. -/
def flashRecord (d : Device) (k : Nat) : Nat × List Byte :=
  (d.field 0x3858 31 16 * 65536 + nth [0, 0x00400000, 0x00800000, 0x00A00000] k,
   if k < 2 then (match d.corr.corrRecs.getD k none with | some r => corrImage r | none => [])
   else (match d.corr.expoRecs.getD (k - 2) none with | some r => expoImage r | none => []))

/-- The newest correction record: a copy has 4 MiB. -/
def newestCorr (c : Corr) : Option (Nat × CorrRec) :=
  newest CorrRec.seq (fun r => decide (corrLength r.primaries r.width r.height ≤ 0x400000)) c.corrRecs

/-- The newest exposure record: an area has 2 MiB. -/
def newestExpo (c : Corr) : Option (Nat × ExpoRec) :=
  newest ExpoRec.seq (fun r => decide (expoLength r.primaries r.width r.height ≤ 0x200000)) c.expoRecs

/-- The area a record is written to: the one that does not hold the newest valid record (R305, R306). -/
def otherArea {α : Type} (x : Option (Nat × α)) : Nat := match x with | some (a, _) => 1 - a | none => 0

/-- The sequence of the next record (R303). -/
def nextRecSeq {α : Type} (seq : α → BitVec 32) (x : Option (Nat × α)) : BitVec 32 := match x with | some (_, r) => seq r + 1 | none => 0

/-- A record with the window of another device's values. -/
def bareRecord (p w h : Nat) : NodeRecord := { noRecord with primaries := p, width := w, height := h }

/-- The window the start-up pass runs over (R300, R307): that of the record in force, else that of the newest exposure record, else that of
the newest correction record. -/
def startWindow (d : Device) : NodeRecord :=
  match d.topo.record, newestExpo d.corr, newestCorr d.corr with
  | some n, _, _ => n
  | none, some (_, r), _ => bareRecord r.primaries r.width r.height
  | none, none, some (_, r) => bareRecord r.primaries r.width r.height
  | none, none, none => noRecord

/-- The start-up pass, applied at once (R300, R301). -/
def startUpPass (d : Device) : Device :=
  let n := startWindow d
  let d := sensorCheck d
  let d := setCorr (fun c => { gainSwap (candWritten n c) with passing := false, passDue := false }) d
  sampleLimit d.corr.atLimit d

/-- The correction settings put into force from a record. -/
def loadCorr (r : CorrRec) (c : Corr) : Corr :=
  { c with wear := r.wear, encLuts := r.encLuts, matrix := r.matrix, asideC := false }

/-- The counters put into force from an exposure record. -/
def loadExpo (r : ExpoRec) (c : Corr) : Corr := { c with expo := r.counters, asideE := false }

/-- CAL_LOADED (R307, R312). -/
def calLoaded (corr expo : Nat) (d : Device) : Device := raise 0x3010 (leN 1 corr ++ leN 1 expo ++ zeros 2) d

/-- Whether a record's window is not that of the node record in force (R307). -/
def notOurs (d : Device) (p w h : Nat) : Bool :=
  match d.topo.record with | some n => !(p == n.primaries && w == n.width && h == n.height) | none => false

/-- The records loaded at start-up and when the stores are powered again (R307): one that differs from a node record in force is set
aside. -/
def loadRecords (d : Device) : Device :=
  let (a, d) := match newestCorr d.corr with
    | some (i, r) =>
      if notOurs d r.primaries r.width r.height then (3, setCorr (fun c => { c with asideC := true }) d) else (i, setCorr (loadCorr r) d)
    | none => (2, d)
  let (b, d) := match newestExpo d.corr with
    | some (i, r) =>
      let d := setCorr (fun c => { c with runSecs := r.runSecs }) d
      if notOurs d r.primaries r.width r.height then (3, setCorr (fun c => { c with asideE := true }) d) else (i, setCorr (loadExpo r) d)
    | none => (2, d)
  calLoaded a b d

/-- Whether two records give the same window. -/
def sameWindow (a : Option NodeRecord) (n : NodeRecord) : Bool :=
  match a with | some m => m.width == n.width && m.height == n.height && m.primaries == n.primaries | none => false

/-- The records compared with a node record that has come into force (R307): one that differs is set aside; a wear pass and
CAL_LOADED follow. -/
def compareRecords (old : Option NodeRecord) (n : NodeRecord) (d : Device) : Device :=
  let same := sameWindow old n || old.isNone
  let (ci, d) := match newestCorr d.corr with
    | some (i, r) =>
      if r.primaries = n.primaries ∧ r.width = n.width ∧ r.height = n.height then
        (i, if d.corr.asideC || !same then setCorr (loadCorr r) d else d)
      else (3, setCorr (fun c => { c with asideC := true, active := false, wear := {}, encLuts := List.replicate 4 none, matrix := [] }) d)
    | none => (2, if same then d else setCorr (fun c => { c with matrix := [] }) d)
  let (ei, d) := match newestExpo d.corr with
    | some (i, r) =>
      if r.primaries = n.primaries ∧ r.width = n.width ∧ r.height = n.height then
        (i, if d.corr.asideE || !same then setCorr (loadExpo r) d else d)
      else (3, setCorr (fun c => { c with asideE := true, expo := [] }) d)
    | none => (2, if same then d else setCorr (fun c => { c with expo := [] }) d)
  calLoaded ci ei (wearPass d)

/-- A correction record of the settings in force (R303). -/
def corrRecNow (d : Device) : CorrRec :=
  let n := recordNow d
  { seq := nextRecSeq CorrRec.seq (newestCorr d.corr), primaries := n.primaries, width := n.width, height := n.height,
    wear := d.corr.wear, encLuts := d.corr.encLuts, matrix := d.corr.matrix }

/-- A change of what the correction record holds (R305). -/
def corrChanged (d : Device) : Device := setCorr (fun c => { c with corrDirty := true }) d

/-- CORRECTION_RECORD_WRITE (R305). -/
def corrWriteFx (d : Device) : Device :=
  if !d.corr.corrDirty || d.corr.corrWriting.isSome then d
  else setCorr (fun c => { c with corrDirty := false, corrWriting := some (otherArea (newestCorr c), corrRecNow d) }) d

/-- CORRECTION_RECORD_WRITE. -/
def execCorrectionRecordWrite (s : State) : Result := act corrWriteFx s

/-- CORRECTION_RECORD_WRITE_DONE (R305): the copy written is the newest; after a flash error the other stays so, and the
write is tried again. -/
def corrWrittenFx (ok : Bool) (d : Device) : Device :=
  match d.corr.corrWriting with
  | none => d
  | some (a, r) =>
    if ok then setCorr (fun c => { c with corrWriting := none, corrRecs := setAt c.corrRecs a (some r) }) d
    else raise 0x3011 (leN 1 a ++ zeros 3)
      (setCorr (fun c => { c with corrWriting := none, corrDirty := true, corrRecs := setAt c.corrRecs a none }) d)

/-- CORRECTION_RECORD_WRITE_DONE. -/
def execCorrectionRecordWriteDone (ok : Bool) (s : State) : Result := act (corrWrittenFx ok) s

/-- A correction record written at once (R457): after the one under way, which has then ended well (DESIGN CHOICE, log entry 162). -/
def corrCommit (d : Device) : Device :=
  let d := corrWrittenFx true d
  setCorr (fun c => { c with corrDirty := false, corrRecs := setAt c.corrRecs (otherArea (newestCorr c)) (some (corrRecNow d)) }) d

/-- An exposure record of the counters as they stand (R303, R306). -/
def expoRecNow (d : Device) : ExpoRec :=
  let n := recordNow d
  { seq := nextRecSeq ExpoRec.seq (newestExpo d.corr), primaries := n.primaries, width := n.width, height := n.height,
    runSecs := d.corr.runSecs, begun := d.clk.rp, counters := d.corr.expo }

/-- An exposure save due (R306): started, or waiting for the one under way. `cmd`: the EXPO_SAVE it serves, with its effect RP. -/
def expoStart (cmd : Option (RP × Cmd)) (d : Device) : Device :=
  match d.corr.expoSave, cmd with
  | some _, some c => setCorr (fun x => { x with expoCmds := x.expoCmds ++ [c] }) d
  | some _, none => setCorr (fun x => { x with expoDue := true }) d
  | none, _ => setCorr (fun x => { x with expoSave := some { area := otherArea (newestExpo x), cmd := cmd, erec := expoRecNow d } }) d

/-- EXPO_SAVE_TIMER (R306). -/
def execExpoSaveTimer (s : State) : Result := act (fun d => if d.isNode then expoStart none d else d) s

/-- The save that waited starts (R306). -/
def expoNext (d : Device) : Device :=
  match d.corr.expoCmds with
  | c :: r => expoStart (some c) (setCorr (fun x => { x with expoCmds := r }) d)
  | [] => if d.corr.expoDue then expoStart none (setCorr (fun x => { x with expoDue := false }) d) else d

/-- EXPO_SAVE_DONE (R306, R311). -/
def expoDoneFx (ok : Bool) (d : Device) : Device :=
  match d.corr.expoSave with
  | none => d
  | some e =>
    let d := setCorr (fun c => { c with
      expoSave := none, expoRecs := setAt c.expoRecs e.area (if ok then some e.erec else none),
      savedAt := if ok then c.runSecs else c.savedAt }) d
    let d := if ok then d else raise 0x3012 (leN 1 e.area ++ zeros 3) d
    let d := match e.cmd with
      | some (p, c) => if ok then finish 0x36 c p (leN 4 e.erec.seq.toNat ++ leN 1 e.area) d else refuse 0x36 c 0x0B [] d
      | none => d
    expoNext d

/-- EXPO_SAVE (R311). -/
def execExpoSave (c : Cmd) (s : State) : Result :=
  act (fun d => if d.isNode then expoStart (some (d.clk.rp, c)) d else refuse 0x36 c 5 [] d) s

/-- Staging groups of a CCM_LOAD (R293). -/
def ccmGroups (n : NodeRecord) : Nat := ceilDiv (n.width * n.height * matrixBits n.primaries) 393216

/-- A matrix table (R293). -/
def matrixTable (n : NodeRecord) (b : List Byte) : NatMap (List Int) :=
  let k := if n.primaries = 4 then 13 else 9
  (pixels n).filterMap (fun i =>
    let m := (List.range k).map (fun j => signed 16 (le b (2 * (k * i + j)) 2))
    if m = identMatrix n.primaries then none else some (i, m))

/-- Whether a CCM_LOAD fits the store budget with the staging it has or needs (R210, R293). -/
def ccmFits (adm : Option Nat) (d : Device) : Bool :=
  let held := match adm with | some a => d.pxl.staging.any (fun s => s.adm == a) | none => false
  held || decide (budgetOf d d.pxl.layers + ccmGroups (recordNow d) ≤ storeGroups)

/-- The staging groups of an admitted CCM_LOAD freed. -/
def unstage (adm : Option Nat) (d : Device) : Device :=
  match adm with
  | some a => setPxl (fun p => { p with staging := p.staging.filter (fun s => s.adm != a) }) d
  | none => d

/-- CCM_LOAD at its commit point for display frame `f` (R293, R294). `adm`: its staging; `was`: the record at admission. -/
def ccmLoadFx (f : BitVec 32) (adm : Option Nat) (was : NodeRecord) (c : Cmd) (d : Device) : Device :=
  let n := recordAt d f
  let fits := ccmFits adm d
  let d := unstage adm d
  if !d.isNode || was.width = 0 then refuse 0x33 c 5 [] d
  else if misaligned c then refuse 0x33 c 4 (leN 1 1) d
  else if !fits then refuse 0x33 c 4 (leN 1 1) d
  else match c.host with
    | .data b =>
      if !(sameWindow (some was) n) then refuse 0x33 c 4 (leN 1 2) d
      else finishAt 0x33 c f (corrChanged (setCorr (fun x => { x with matrix := matrixTable n b,
                                                                       poison := x.poison.filter (fun w => calRegion n.primaries w != 0) }) d))
    | .busError => refuse 0x33 c 0x0A [] d
    | .none => refuse 0x33 c 4 (leN 1 1) d

/-- CCM_LOAD. -/
def execCcmLoad (c : Cmd) (s : State) : Result := act (fun d => ccmLoadFx (nextDisplay d) none (recordNow d) c d) s

/-- ENC_LUT_LOAD (R308). -/
def encLutFx (f : BitVec 32) (c : Cmd) (d : Device) : Device :=
  let ch := opB c 9
  if !d.isNode then refuse 0x34 c 5 [] d
  else if misaligned c then refuse 0x34 c 4 [] d
  else match c.host with
    | .data b =>
      if (recordAt d f).primaries ≤ ch then refuse 0x34 c 4 [] d
      else finishAt 0x34 c f (corrChanged (setCorr (fun x => { x with encLuts := setAt x.encLuts ch (some (lutOf b)) }) d))
    | .busError => refuse 0x34 c 0x0A [] d
    | .none => refuse 0x34 c 4 (leN 1 1) d

/-- ENC_LUT_LOAD. -/
def execEncLutLoad (c : Cmd) (s : State) : Result := act (fun d => encLutFx (nextDisplay d) c d) s

/-- The curve of primary `c` in a wear record (R310). -/
def curveOf (b : List Byte) (c : Nat) : List Nat := (List.range 257).map (fun i => le b (0x20 + 4 * (257 * c + i)) 4 % 2 ^ 17)

/-- Whether a curve keeps R297. -/
def curveGood (l : List Nat) : Bool :=
  nth l 0 == 65536 && l.all (fun x => decide (x ≤ 65536)) && (List.zipWith (fun a b => decide (b ≤ a)) l (l.drop 1)).all id

/-- Whether a wear record is good (R310). -/
def wearGood (p : Nat) (b : List Byte) : Bool :=
  decide (le b 0 1 ≤ 1) && (List.range p).all (fun c =>
    decide (1 ≤ le b (0x10 + 4 * c) 4) && decide (le b (0x10 + 4 * c) 4 ≤ 65536) && curveGood (curveOf b c))

/-- A curve as kept: `none` where every entry is 65,536. -/
def keepCurve (l : List Nat) : Option (List Nat) := if l.all (fun x => x == 65536) then none else some l

/-- WEAR_SET (R310). -/
def wearSetFx (c : Cmd) (d : Device) : Device :=
  if !d.isNode then refuse 0x35 c 5 [] d
  else if misaligned c then refuse 0x35 c 4 [] d
  else match c.host with
    | .data b =>
      let p := (recordNow d).primaries
      if !(wearGood p b) then refuse 0x35 c 4 [] d
      else
        let clear := hasBit (le b 1 1) 0
        let wear := fun (w : Wear) => { w with
          frozen := le b 0 1 == 1
          target := (List.range 4).map (fun i => if i < p then le b (0x10 + 4 * i) 4 else nth w.target i)
          curves := (List.range 4).map (fun i => if i < p then keepCurve (curveOf b i) else w.curves.getD i none)
          kappa := if clear then [32768, 32768, 32768, 32768] else w.kappa
          firstRun := if clear then none else w.firstRun }
        let d := setCorr (fun x => { x with wear := wear x.wear, active := x.active && !clear, told := x.told && !clear }) d
        let d := calAbort 1 3 (finish 0x35 c (boundaryRp d) [] (corrChanged d))
        if d.corr.wear.frozen then d else wearPass d
    | .busError => refuse 0x35 c 0x0A [] d
    | .none => refuse 0x35 c 4 (leN 1 1) d

/-- WEAR_SET. -/
def execWearSet (c : Cmd) (s : State) : Result := act (wearSetFx c) s

/-- Whether PXL_EXPO_INDEX selects a counter (R296). -/
def expoSelected (d : Device) : Option Nat :=
  let i := d.field 0x3844 18 0
  let n := recordNow d
  if i < n.width * n.height * n.primaries then some i else none

/-- PXL_EXPO_INDEX advanced. -/
def expoAdvance (d : Device) : Device := d.setWord 0x3844 ((d.field 0x3844 18 0 + 1) % 2 ^ 19)

/-- PXL_EXPO_DATA_READ (R296). -/
def expoReadFx (d : Device) : Device :=
  if !d.isNode then { d with lastRead := 0 }
  else
    let v := match expoSelected d with | some k => mget d.corr.expo k 0 | none => 0
    expoAdvance { d with lastRead := BitVec.ofNat 32 v }

/-- PXL_EXPO_DATA_READ. -/
def execPxlExpoDataRead (s : State) : Result := act expoReadFx s

/-- PXL_EXPO_DATA_WRITE (R296). -/
def expoWriteFx (v : Nat) (d : Device) : Device :=
  if !d.isNode then d
  else expoAdvance (match expoSelected d with | some k => setCorr (fun c => { c with expo := mset c.expo k 0 v }) d | none => d)

/-- PXL_EXPO_DATA_WRITE. -/
def execPxlExpoDataWrite (v : Word) (s : State) : Result := act (expoWriteFx v.toNat) s

/-- A calibration-store word found poisoned (R292): reported once per word, of the regions by pixel. -/
def calPoison (w : Nat) (d : Device) : Device :=
  let p := (recordNow d).primaries
  let r := calRegion p w
  if d.corr.poison.contains w || r == 4 then d
  else raise 0x3013 (leN 1 (nth [0, 1, 1, 2] r) ++ zeros 1 ++ leN 4 (calPixel p w) ++ zeros 2)
    (setCorr (fun c => { c with poison := c.poison ++ [w] }) d)

/-- A poisoned word repaired (R292): a pass over a gain word's pixels writes the candidate (R300), from which a word of the applied region
is set (DEDUCED, log entry 160). -/
def calRepair (w : Nat) (d : Device) : Device :=
  let n := recordNow d
  let p := n.primaries
  let r := calRegion p w
  let px := calPixels p (n.width * n.height) w
  let ks := px.flatMap (fun i => (List.range p).map (fun ch => i * p + ch))
  setCorr (fun c =>
    let c := { c with poison := c.poison.filter (· != w) }
    if r = 0 then
      let src := fun i => match newestCorr c with
        | some (_, r) => if c.asideC then identMatrix p else (mfind r.matrix i).getD (identMatrix p)
        | none => identMatrix p
      { c with matrix := px.foldl (fun m i => mset m i (identMatrix p) (src i)) c.matrix }
    else if r = 3 then
      let src := fun k => match newestExpo c with
        | some (_, r) => if c.asideE then 0 else mget r.counters k 0
        | none => 0
      { c with expo := ks.foldl (fun x k => mset x k 0 (src k)) c.expo }
    else
      let put := fun g => ks.foldl (fun g k => mset g k 818 (passGain c p k)) g
      { c with cand := put c.cand, gain := if r = gainApplied c then put c.gain else c.gain }) d

/-- Whether CCM reads a word of the store for display frame `f`, where it lies in its region (R289, R301): the matrix, the applied gains
until the last step of a phase-in, and the candidate gains from the first. -/
def ccmReads (c : Corr) (f : BitVec 32) (region : Nat) : Bool :=
  let j := phaseStep c f
  region == 0 || (region == gainApplied c && (match c.phase with | some ph => decide (j < ph.n) | none => true)) ||
    (region == 3 - gainApplied c && decide (0 < j))

/-- Whether an output segment of display frame `f` needs a poisoned matrix or gain word (R292). -/
def segVoidedByCal (c : Corr) (n : NodeRecord) (f : BitVec 32) (y s : Nat) : Bool :=
  c.poison.any (fun w => ccmReads c f (calRegion n.primaries w) &&
    (calPixels n.primaries (n.width * n.height) w).any (fun k => decide (k / n.width = y) && decide (k % n.width / 64 = s)))

end Sys2Proof.Machine
end

