-- ==== Sys2Proof/Machine/Output.lean ====
section
/-! DEFINITION. Machine/Output.lean: the output block: the output record and its checks (R316, R317, R331), the lane map
(R318, R319), lane programs (R321 to R323, R339), the LOAD and the exchange of driver memory (R325 to R329), sub-refreshes and
held ones (R99, R330 to R334), shutter gating (R335), starting and stopping (R336, R337), and opcodes 0x40 to 0x43. -/

namespace Sys2Proof.Machine

/-- The output block changed. -/
def setOut (f : Output → Output) (d : Device) : Device := { d with out := f d.out }

/-- A row set's settings read from its 8 bytes (R316). -/
def rowSetOf (b : List Byte) (o : Nat) : RowSet := { n := le b o 1, g := le b (o + 2) 2, b := le b (o + 4) 2 }

/-- An output record read from its 128 bytes (R316). -/
def outRecOf (b : List Byte) : OutRec :=
  { count := le b 0 2, flags := le b 2 1 % 4, gclkEn := le b 3 1 % 16, phase := le b 4 4, gclkMul := le b 8 2,
    gclkSet := le b 0x0A 1 % 16, setA := rowSetOf b 0x0C, setB := rowSetOf b 0x14,
    groups := (List.range 8).map (fun g =>
      let o := 0x20 + 8 * g
      { enable := hasBit (le b o 1) 0, setB := hasBit (le b o 1) 1, dclkMul := le b (o + 2) 2, m := le b (o + 4) 2 }) }

/-- Whether a number lies in a range. -/
def within (lo hi x : Nat) : Bool := decide (lo ≤ x) && decide (x ≤ hi)

/-- Whether a row set's fields are in range (R316). -/
def rowSetGood (s : RowSet) : Bool := within 1 64 s.n && within 1 65535 s.g && within 2 1024 s.b

/-- Reason 1 of R331: whether every record field is in range. -/
def outRecGood (r : Raster) (o : OutRec) : Bool :=
  within 1 256 o.count && decide (o.phase < r.frameSub) && within 14 2758 o.gclkMul && rowSetGood o.setA && rowSetGood o.setB &&
  o.groups.all (fun g => within 14 2758 g.dclkMul && within 1 4096 g.m)

/-- Group `g` of a record. -/
def OutRec.group (o : OutRec) (g : Nat) : Group := o.groups.getD g {}

/-- The enabled groups of a record, in ascending order. -/
def OutRec.enabled (o : OutRec) : List Nat := (List.range 8).filter (fun g => (o.group g).enable)

/-- The row set a group follows. -/
def OutRec.rowSet (o : OutRec) (g : Group) : RowSet := if g.setB then o.setB else o.setA

/-- Slots per lane of a group, N × M (R318). -/
def OutRec.slots (o : OutRec) (g : Nat) : Nat := (o.rowSet (o.group g)).n * (o.group g).m

/-- E of R318. -/
def OutRec.entries (o : OutRec) : Nat := (o.enabled.map (fun g => 8 * o.slots g)).foldl (· + ·) 0

/-- Whether a map entry's kind is a kind of R319. -/
def entryKindGood (w : Word) : Bool := decide (bitsOf w.toNat 23 22 ≤ 1)

/-- The code a map entry shifts (R319): that of its pixel and primary, or 0. -/
def entryCode (n : NodeRecord) (buf : NatMap Nat) (w : Word) : Nat :=
  let v := w.toNat
  let x := bitsOf v 18 9; let y := bitsOf v 8 0; let c := bitsOf v 21 20
  if bitsOf v 23 22 = 1 ∧ x < n.width ∧ y < n.height ∧ c < n.primaries then mget buf ((y * n.width + x) * n.primaries + c) 0 else 0

/-- Segments in a row (R236). -/
def segsPerRow (n : NodeRecord) : Nat := ceilDiv n.width 64

/-- A segment's place in the order of release (R240). -/
def segIndex (n : NodeRecord) (y s : Nat) : Nat := y * segsPerRow n + s

/-- Whether a map entry names a pixel of the window (R319). -/
def entryInside (n : NodeRecord) (w : Word) : Bool :=
  let v := w.toNat
  bitsOf v 23 22 == 1 && decide (bitsOf v 18 9 < n.width) && decide (bitsOf v 8 0 < n.height) && decide (bitsOf v 21 20 < n.primaries)

/-- A lane instruction (R322): END, or DCLK periods and DATA slots, or the ends of a loop. `bad`: outside R322. -/
inductive LaneOp where
  | stop
  | run (periods slots : Nat)
  | loop (n : Nat)
  | next
  | bad
  deriving DecidableEq, Repr

/-- A lane instruction decoded (R322). -/
def laneOp (w : Word) : LaneOp :=
  let v := w.toNat
  match v / 2 ^ 28 with
  | 0 => .stop
  | 1 =>
    let n := bitsOf v 27 16; let k := bitsOf v 15 11 + 1
    if 1 ≤ n ∧ k ≤ 16 ∧ bitsOf v 10 6 ≤ k then .run (n * k) n else .bad
  | 2 =>
    let c := bitsOf v 11 7 + 1
    if c ≤ 16 ∧ bitsOf v 6 2 ≤ c then .run c 0 else .bad
  | 3 => if 1 ≤ v % 65536 then .run (v % 65536) 0 else .bad
  | 4 => if 1 ≤ v % 65536 then .run (v % 65536) 0 else .bad
  | 5 => if 1 ≤ v % 65536 then .loop (v % 65536) else .bad
  | 6 => .next
  | _ => .bad

/-- What a section of a lane program takes: DCLK periods and DATA slots. -/
structure LaneLen where
  periods : Nat
  slots   : Nat
  deriving DecidableEq, Repr

/-- A section walked from `pc` (R322, R323): `acc` counts the innermost open loop's body so far, `outer` holds the open loops
with their counts and what ran before them. `none`: the section is not valid. -/
def laneWalk (ws : List Word) : Nat → Nat → LaneLen → List (Nat × LaneLen) → Option LaneLen
  | 0, _, _, _ => none
  | fuel + 1, pc, acc, outer =>
    match ws[pc]? with
    | none => none
    | some w =>
      match laneOp w with
      | .bad => none
      | .stop => if outer.isEmpty then some acc else none
      | .run p s => laneWalk ws fuel (pc + 1) { periods := acc.periods + p, slots := acc.slots + s } outer
      | .loop n => if 4 ≤ outer.length then none else laneWalk ws fuel (pc + 1) { periods := 0, slots := 0 } ((n, acc) :: outer)
      | .next =>
        match outer with
        | [] => none
        | (n, before) :: r => laneWalk ws fuel (pc + 1)
            { periods := before.periods + n * acc.periods, slots := before.slots + n * acc.slots } r

/-- The length of section `i` of a program (0 INIT, 1 LOAD, 2 FRAME, 3 SUB, 4 HOLD); `none` where it is not valid. -/
def sectionLen (p : Program) (i : Nat) : Option LaneLen :=
  if 127 < nth p.entries i then none else laneWalk p.words 129 (nth p.entries i) { periods := 0, slots := 0 } []

/-- The body of a loop walked from `pc` to its NEXT (R322): its length, and where the program goes on. `outer`: the loops open within
it. -/
def bodyLen (ws : List Word) : Nat → Nat → LaneLen → List (Nat × LaneLen) → Option (LaneLen × Nat)
  | 0, _, _, _ => none
  | fuel + 1, pc, acc, outer =>
    match (ws[pc]?).map laneOp with
    | some (.run p s) => bodyLen ws fuel (pc + 1) { periods := acc.periods + p, slots := acc.slots + s } outer
    | some (.loop n) => bodyLen ws fuel (pc + 1) { periods := 0, slots := 0 } ((n, acc) :: outer)
    | some .next =>
      match outer with
      | [] => some (acc, pc + 1)
      | (n, a) :: r => bodyLen ws fuel (pc + 1) { periods := a.periods + n * acc.periods, slots := a.slots + n * acc.slots } r
    | _ => none

/-- What a group puts out in one DCLK period: LE, whether DCLK toggles, and OD, a bit of a slot's codes or one level on all lanes. -/
inductive LaneData where
  | code (slot bit : Nat)
  | level (high : Bool)
  deriving DecidableEq, Repr

/-- The signals of one DCLK period of a group (R317, R322). -/
structure LanePeriod where
  le   : Bool
  dclk : Bool
  od   : LaneData
  deriving DecidableEq, Repr

/-- Period `i` of a lane instruction, `s` slots having been taken before it (R322). -/
def opPeriod (w : Word) (i s : Nat) : LanePeriod :=
  let v := w.toNat
  match v / 2 ^ 28 with
  | 1 =>
    let k := bitsOf v 15 11 + 1
    { le := decide (k ≤ i % k + bitsOf v 10 6), dclk := true, od := .code (s + i / k) (15 - i % k) }
  | 2 =>
    let c := bitsOf v 11 7 + 1
    { le := decide (c ≤ i + bitsOf v 6 2), dclk := true, od := .level (hasBit (bitsOf v 27 12) (c - 1 - i)) }
  | 3 => { le := true, dclk := hasBit v 16, od := .level (hasBit v 17) }
  | _ => { le := false, dclk := false, od := .level false }

/-- Period `i` of a section from `pc` on (R322), `s` slots having been taken before: a loop is passed over whole where `i` lies
behind it. -/
def periodAt (ws : List Word) : Nat → Nat → Nat → Nat → Option LanePeriod
  | 0, _, _, _ => none
  | fuel + 1, pc, i, s =>
    match ws[pc]? with
    | none => none
    | some w =>
      match laneOp w with
      | .run p n => if i < p then some (opPeriod w i s) else periodAt ws fuel (pc + 1) (i - p) (s + n)
      | .loop n =>
        match bodyLen ws ws.length (pc + 1) { periods := 0, slots := 0 } [] with
        | some (len, next) =>
          if i < n * len.periods then periodAt ws fuel (pc + 1) (i % len.periods) (s + i / len.periods * len.slots)
          else periodAt ws fuel next (i - n * len.periods) (s + n * len.slots)
        | none => none
      | _ => none

/-- Period `i` of a program's LOAD. -/
def loadPeriod (p : Program) (i : Nat) : Option LanePeriod := periodAt p.words 129 (nth p.entries 1) i 0

/-- Whether a sequencer can stand before period `i` of a LOAD (R325, R326): not inside a span in which LE is high, and no slot from
`wait` on has been shifted. -/
def loadStands (p : Program) (wait i : Nat) : Bool :=
  let le := fun (j : Nat) => match loadPeriod p j with | some x => x.le | none => false
  let begun := match loadPeriod p (i - 1) with
    | some x => (match x.od with | .code s _ => decide (s < wait) | .level _ => true)
    | none => true
  i == 0 || (begun && !(le (i - 1) && le i))

/-- The last period at or before `i` of which a condition holds, 0 where there is none. -/
def lastPeriod (ok : Nat → Bool) : Nat → Nat
  | 0 => 0
  | i + 1 => if ok (i + 1) then i + 1 else lastPeriod ok i

/-- The shortest sub-refresh, in sub LSB (R99). -/
def shortestSub (r : Raster) (o : OutRec) : Nat := r.frameSub / o.count

/-- Whether `n` DCLK periods of a group last less than the shortest sub-refresh (R323). -/
def fitsSub (r : Raster) (o : OutRec) (g : Group) (n : Nat) : Bool :=
  decide (n * 4096 * r.num * r.frameSub < shortestSub r o * r.den * 297000000 * g.dclkMul)

/-- The lengths of a valid program's LOAD, FRAME, SUB and HOLD for group `g` of a record; `none` where R323 does not hold. -/
def programLens (r : Raster) (o : OutRec) (g : Nat) (p : Program) : Option (Nat × Nat × Nat × Nat) :=
  if !(p.words.all (fun w => laneOp w != .bad)) then none
  else match sectionLen p 0, sectionLen p 1, sectionLen p 2, sectionLen p 3, sectionLen p 4 with
    | some i, some l, some f, some s, some h =>
      if i.slots = 0 ∧ f.slots = 0 ∧ s.slots = 0 ∧ h.slots = 0 ∧ l.slots = o.slots g ∧
          fitsSub r o (o.group g) (f.periods + s.periods) ∧ fitsSub r o (o.group g) h.periods
      then some (l.periods, f.periods, s.periods, h.periods) else none
    | _, _, _, _, _ => none

/-- D of R327: the DCLK periods of a group's LOAD, FRAME and S × SUB. -/
def loadPeriods (r : Raster) (o : OutRec) (g : Nat) (p : Program) : Nat :=
  match programLens r o g p with
  | some (l, f, s, _) => l + f + o.count * s
  | none => 0

/-- Whether a group meets the load budget (R327). -/
def loadFits (r : Raster) (c : Nat) (o : OutRec) (g : Nat) (p : Program) : Bool :=
  decide (loadPeriods r o g p * 4096 * r.num * r.lines * 10 ≤ 6 * 297000000 * (o.group g).dclkMul * r.den * (r.lines - c))

/-- Whether a row set's scan fits the shortest sub-refresh (reason 3 of R331). -/
def scanFits (r : Raster) (o : OutRec) (s : RowSet) : Bool :=
  decide (s.n * (s.g + s.b) * 4096 * o.count * r.num * 10002 ≤ 297000000 * o.gclkMul * r.den * 10000)

/-- The row sets that enabled groups use: A, B. -/
def OutRec.uses (o : OutRec) (b : Bool) : Bool := o.enabled.any (fun g => (o.group g).setB == b)

/-- The check of R331 on a record, a map and programs together: the first reason that holds. -/
def outReason (r : Raster) (c : Nat) (o : OutRec) (map : List Word) (ps : List Program) : Option Nat :=
  let prog := fun g => ps.getD g {}
  if !(outRecGood r o) then some 1
  else if o.entries ≠ map.length ∨ 524288 < o.entries then some 2
  else if (o.uses false && !(scanFits r o o.setA)) || (o.uses true && !(scanFits r o o.setB)) then some 3
  else if o.enabled.any (fun g => !(loadFits r c o g (prog g))) then some 4
  else if o.enabled.any (fun g => (programLens r o g (prog g)).isNone) then some 5
  else if !(map.all entryKindGood) then some 6
  else none

/-- Whether a change of record changes the layout (R337): N, M, or a group's enable, row set or dclk_mul. -/
def layoutChanged (a b : OutRec) : Bool :=
  a.setA.n != b.setA.n || a.setB.n != b.setB.n ||
  (List.range 8).any (fun g => let x := a.group g; let y := b.group g
    x.enable != y.enable || x.setB != y.setB || x.dclkMul != y.dclkMul || x.m != y.m)

/-- OUTPUT_STATE (R340). -/
def outputState (running cause : Nat) (d : Device) : Device :=
  raise 0x4003 (leN 1 running ++ leN 1 cause ++ zeros 2 ++ d.clk.rp.bytes) d

/-- SUBREFRESH_HELD for the frame that ends (R334): one notice with the held sub-refreshes of the frame. -/
def flushHeld (d : Device) : Device :=
  let o := d.out
  if o.heldN = 0 then d
  else raise 0x4002 (leN 4 o.subFrame.toNat ++ leN 1 (o.heldFirst % 256) ++ leN 1 o.heldCause ++ leN 2 (min o.heldN 65535))
    (setOut (fun o => { o with heldN := 0 }) d)

/-- The present sub-refresh counted as held (R334), once. -/
def heldNote (cause : Nat) (d : Device) : Device :=
  if d.out.heldNow then d
  else (setOut (fun o => { o with heldNow := true, heldN := o.heldN + 1, heldFirst := if o.heldN = 0 then o.sub else o.heldFirst,
                                  heldCause := if o.heldN = 0 then cause else o.heldCause }) d).bump 0x404C 1

/-- INIT begun in every enabled group (R321, R336, R337). -/
def runInit (d : Device) : Device :=
  setOut (fun o => { o with sections := o.orec.enabled.map (fun g =>
    { group := g, list := [0], start := d.clk.rp, prog := o.programs.getD g {} }) }) d

/-- Output started at the boundary of frame `f` (R336): INIT runs, and the scan engine starts at sub-refresh 0. -/
def outStart (f : BitVec 32) (cause : Nat) (d : Device) : Device :=
  outputState 1 cause (runInit (setOut (fun o => { o with
    running := true, load := none, ready := none, late := none, dark := none, memory := none, shown := [],
    subFrame := f - 1, sub := 256, scanning := false, scans := [], heldNow := false, was := o.orec, since := f }) d))

/-- Output stopped (R314, R336): the row scan ends, any LOAD is abandoned, the levels of R314 are driven. -/
def outStop (cause : Nat) (d : Device) : Device :=
  if !d.out.running then d
  else outputState 0 cause (setOut (fun o => { o with
    running := false, load := none, ready := none, late := none, dark := none, scanning := false, scans := [], sections := [],
    heldNow := false, resumed := none }) (flushHeld d))

/-- Whether two engines serve as the active pair (R346, R352). -/
def pairServes (d : Device) : Bool := decide (2 ≤ (d.red.engines.filter (fun e => e == .active)).length)

/-- DCLK periods of a group that `n` sub of the raster hold (R317). -/
def dclkPeriods (r : Raster) (g : Group) (n : Int) : Nat :=
  (n * r.den * 297000000 * g.dclkMul / (r.num * r.frameSub * 4096 : Int)).toNat

/-- DCLK periods of a section of a program; 0 where it is not valid. -/
def sectionPeriods (p : Program) (i : Nat) : Nat := match sectionLen p i with | some l => l.periods | none => 0

/-- The first entry of a group in the lane map (R318). -/
def OutRec.base (o : OutRec) (g : Nat) : Nat := ((o.enabled.filter (fun j => decide (j < g))).map (fun j => 8 * o.slots j)).foldl (· + ·) 0

/-- The record of the window that a LOAD shows. -/
def loadRecord (d : Device) (l : Load) : NodeRecord :=
  match d.pxl.graph with
  | some g => if g.frame = l.frame then g.record else recordAt d l.frame
  | none => recordAt d l.frame

/-- Whether a map entry's slot is still to wait for its output segment (R325): one outside the window never waits. -/
def entryWaits (d : Device) (l : Load) (w : Word) : Bool :=
  let n := loadRecord d l
  l.released.isNone && entryInside n w && (match d.pxl.graph with
    | some g => g.frame != l.frame || decide (g.released ≤ segIndex n (bitsOf w.toNat 8 0) (bitsOf w.toNat 18 9 / 64))
    | none => true)

/-- The first slot of a group one of whose entries passes a test; all its slots where none does. -/
def firstSlot (l : Load) (g : Nat) (p : Word → Bool) : Nat :=
  let n := l.orec.slots g
  let b := l.orec.base g
  ((List.range n).find? (fun i => (List.range 8).any (fun j => p (l.map.getD (b + 8 * i + j) 0)))).getD n

/-- The first slot of a group that must wait; all its slots where none does. -/
def waitSlot (d : Device) (l : Load) (g : Nat) : Nat := firstSlot l g (entryWaits d l)

/-- Where the sequencers stand in time: at the onset of an output hold, while one lasts (R359). -/
def seqNow (d : Device) : RP := match d.red.hold with | some h => h.onset | none => d.clk.rp

/-- The DCLK periods of a group from `a` up to where its sequencer stands. -/
def lanePassed (d : Device) (g : Group) (a : RP) : Nat := dclkPeriods d.clk.raster g (RP.dist d.clk.raster (seqNow d) a)

/-- Where a group can stand in a LOAD by now (R325, R326), at least and at most. It has shifted as many periods as have passed, less the
timed sections it stood aside for, up to a slot that waits; how long it has waited at slots since released is open, but before the first
slot that names a pixel, and after the last release, it waits for nothing. -/
def posRange (d : Device) (l : Load) (p : LoadPos) : Nat × Nat :=
  let g := l.orec.group p.group
  let prog := l.programs.getD p.group {}
  let total := sectionPeriods prog 1
  let passed := lanePassed d g p.since
  let stand := fun (w n : Nat) => if w = l.orec.slots p.group then n else lastPeriod (fun i => loadStands prog w i) n
  let most := stand (waitSlot d l p.group) (min total (p.periods + (passed - p.front)))
  let sure := stand (firstSlot l p.group (entryInside (loadRecord d l))) most
  let least := match l.released with
    | some q => p.periods + (passed - max p.front (dclkPeriods d.clk.raster g (RP.dist d.clk.raster q p.since)))
    | none => p.periods
  let most := max p.periods most
  (min most (max least (max p.periods sure)), most)

/-- A group's place in a LOAD by now: where what is open has been settled by the free value `v`, it is kept. -/
def posNow (d : Device) (l : Load) (v : Nat) (p : LoadPos) : LoadPos :=
  let (least, most) := posRange d l p
  let passed := lanePassed d (l.orec.group p.group) p.since
  if least = most ∧ (most = sectionPeriods (l.programs.getD p.group {}) 1 ∨ most = p.periods + (passed - p.front)) then p
  else { p with since := seqNow d, front := p.front - passed, periods := least + v % (most - least + 1) }

/-- The periods of its LOAD that a group whose place has been settled has run by now. -/
def posAt (d : Device) (l : Load) (p : LoadPos) : Nat := (posRange d l p).2

/-- Whether a group has shifted all of its LOAD. -/
def posEnded (d : Device) (l : Load) (p : LoadPos) : Bool := sectionPeriods (l.programs.getD p.group {}) 1 == posAt d l p

/-- The codes of a LOAD by now, by the output buffer. -/
def loadCodes (d : Device) (l : Load) : List Nat :=
  if l.released.isSome then l.codes else l.map.map (entryCode (loadRecord d l) d.pxl.outBuf)

/-- A LOAD known to end in time has ended where its display frame begins (R327). -/
def loadEnded (d : Device) (l : Load) : Load :=
  if l.complete ∧ 0 ≤ frameDiff d.clk.rp.frame l.frame then
    { l with pos := l.pos.map (fun p => { p with periods := sectionPeriods (l.programs.getD p.group {}) 1 }) }
  else l

/-- The LOAD looked at (R325, R327, R328): where each group stands by now, and whether all have ended. -/
def settleLoad (d : Device) : Device :=
  match d.out.load with
  | some l =>
    let (d, ps) := l.pos.foldl (fun (d, ps) p => ((freeNext d).2, ps ++ [posNow d l (freeNext d).1 p])) (d, [])
    let l := loadEnded d { l with pos := ps }
    let done := l.complete || l.pos.all (posEnded d l)
    let codes := if done then loadCodes d l else l.codes
    setOut (fun o => { o with load := some { l with complete := done, codes := codes } }) d
  | none => d

/-- Timed sections that fall due pre-empt the LOAD (R326): a group that has one to run stands where LE is low, and goes on after it;
one whose sections are empty is not paused. -/
def pauseLoad (list : List Nat) (d : Device) : Device :=
  setOut (fun o => { o with load := o.load.map (fun l => { l with pos := l.pos.map (fun (p : LoadPos) =>
    let n : Nat := (list.map (fun s => sectionPeriods (o.programs.getD p.group {}) s)).foldl (· + ·) 0
    if n = 0 ∨ posEnded d l p then p
    else
      let prog := l.programs.getD p.group {}
      { p with since := seqNow d, front := p.front - lanePassed d (l.orec.group p.group) p.since + n,
               periods := lastPeriod (fun i => loadStands prog (l.orec.slots p.group) i) (posAt d l p) }) }) }) d

/-- The DCLK periods of sections run one behind the other. -/
def SectionRun.periods (s : SectionRun) : Nat := (s.list.map (sectionPeriods s.prog)).foldl (· + ·) 0

/-- Whether sections still run. -/
def sectionRuns (d : Device) (s : SectionRun) : Bool := decide (lanePassed d (d.out.orec.group s.group) s.start < s.periods)

/-- The timed sections that run at a sub-refresh start, LOADs standing aside for them. Where INIT still runs they follow it (DESIGN CHOICE,
log entry 147). -/
def runSections (list : List Nat) (d : Device) : Device :=
  setOut (fun o => { o with sections := o.orec.enabled.map (fun g =>
    match d.out.sections.find? (fun s => s.group == g && s.list.head? == some 0 && sectionRuns d s) with
    | some s => { s with list := s.list ++ list }
    | none => { group := g, list := list, start := d.clk.rp, prog := o.programs.getD g {} }) }) (pauseLoad list d)

/-- The GCLK half periods counted by now since a row scan's start (R317, R332). -/
def RowScan.halves (r : Raster) (s : RowScan) (now : RP) : Nat :=
  (2 * RP.dist r now s.start * r.den * 297000000 * s.mul / (r.num * r.frameSub * 4096 : Int)).toNat

/-- The half period at whose start pulse `j` of row slot `row` rises (R330, R332): the first of a sub-refresh at period B of slot 0. -/
def RowScan.rise (s : RowScan) (row j : Nat) : Nat := 2 * (row * (s.rows.g + s.rows.b) + s.rows.b + j)

/-- What a row scan drives in a half period of its count (R330, R332): its row address, whether ROW_EN may be active, and GCLK. -/
structure RowLevels where
  row  : Nat
  rowEn : Bool
  gclk : Bool
  deriving DecidableEq, Repr

/-- The levels of half period `h` of a row scan (R330): an address changes at floor(B / 2) of its slot, G pulses follow period B, and
after the last slot everything rests until the next start. -/
def RowScan.levels (s : RowScan) (h : Nat) : RowLevels :=
  let slot := s.rows.g + s.rows.b
  let k := h / 2
  let row := k / slot
  let inSlot := k % slot
  if s.rows.n ≤ row then { row := s.rows.n - 1, rowEn := false, gclk := false }
  else
    let lit := decide (s.rows.b ≤ inSlot)
    { row := if s.rows.b / 2 ≤ inSlot then row else if row = 0 then s.addr else row - 1, rowEn := lit, gclk := lit && h % 2 == 0 }

/-- The record that governs the sub-refreshes of display frame `f` (R337). -/
def recordOfSub (o : Output) (f : BitVec 32) : OutRec := if frameDiff f o.since < 0 then o.was else o.orec

/-- The row scan of a row set, where one has begun. -/
def scanOf (d : Device) (b : Bool) : Option RowScan := d.out.scans.find? (fun s => s.setB == b)

/-- The row address a row set's lines have by now; low before its first scan (R314). -/
def rowAddr (d : Device) (b : Bool) : Nat :=
  match scanOf d b with | some s => (s.levels (s.halves d.clk.raster d.clk.rp)).row | none => 0

/-- The row scans begun now in a sub-refresh of display frame `f` (R330, R332, R337): their GCLK counts start at 0. -/
def scanStart (f : BitVec 32) (d : Device) : Device :=
  setOut (fun o =>
    let c := recordOfSub o f
    { o with scanning := true, governs := c, heldNow := false
             scans := ([false, true].filter c.uses).map (fun b =>
               { setB := b, start := d.clk.rp, mul := c.gclkMul, rows := if b then c.setB else c.setA, addr := rowAddr d b }) }) d

/-- OUTPUT_LATE_SWAP (R328, R340, R412). -/
def lateSwap (f : BitVec 32) (k : Nat) (d : Device) : Device :=
  report 0x0A none 0x4001 (leN 4 f.toNat ++ leN 1 k ++ zeros 3) d

/-- The DCLK periods for which sections still run in a group. -/
def sectionsLeft (d : Device) (g : Nat) : Nat :=
  match d.out.sections.find? (fun s => s.group == g) with
  | some s => s.periods - lanePassed d (d.out.orec.group g) s.start
  | none => 0

/-- The LOAD of display frame `f` begins (R325, R328): an unfinished LOAD of the frame before is abandoned. -/
def loadBegin (f : BitVec 32) (d : Device) : Device :=
  if !d.out.running then d
  else
    let d := settleLoad d
    let d := match d.out.load with
      | some l =>
        if l.complete then
          (if d.out.memory = some l.frame then d else setOut (fun o => { o with ready := some (l.frame, l.codes) }) d)
        else lateSwap l.frame 0xFF (setOut (fun o => { o with late := some l.frame }) d)
      | none => d
    let l : Load := { frame := f, complete := false, released := none, map := d.out.map, programs := d.out.programs,
                      orec := d.out.orec, codes := [],
                      pos := d.out.orec.enabled.map (fun g =>
                        { group := g, periods := 0, since := seqNow d, front := sectionsLeft d g }) }
    setOut (fun o => { o with load := some l }) d

/-- The last segment of display frame `f` released or voided (R325): the LOAD's codes are those the output buffer holds. In
time, with both engines in service, the LOAD ends before the boundary (R327). -/
def loadReleased (f : BitVec 32) (inTime : Bool) (n : NodeRecord) (d : Device) : Device :=
  match d.out.load with
  | some l =>
    if l.frame = f then
      let codes := l.map.map (entryCode n d.pxl.outBuf)
      let l : Load := { l with released := some d.clk.rp, complete := inTime && pairServes d, codes := codes }
      setOut (fun o => { o with load := some l }) d
    else d
  | none => d

/-- The RP of sub-refresh `k` of display frame `f` (R99). -/
def subRp (r : Raster) (o : Output) (f : BitVec 32) (k : Nat) : RP :=
  let c := recordOfSub o f
  RP.plus r (RP.start f) (subStart r c.phase c.count k)

/-- The sub-refresh starts of three frames from the one before, in order, that have not come. -/
def subsToCome (d : Device) : List (BitVec 32 × Nat) :=
  let o := d.out
  [d.clk.rp.frame - 1, d.clk.rp.frame, d.clk.rp.frame + 1].flatMap (fun f =>
    if frameDiff f o.subFrame < 0 then []
    else (List.range (recordOfSub o f).count).filterMap (fun k =>
      if f = o.subFrame ∧ k ≤ o.sub then none else some (f, k)))

/-- The earlier of two sub-refresh starts, the one of the later frame where both fall together (R337). -/
def sooner (a b : BitVec 32 × Nat × RP) : BitVec 32 × Nat × RP := if a.2.2.before b.2.2 then a else b

/-- The next sub-refresh start at or after the present RP (R98, R99). -/
def nextSub (d : Device) : Option (BitVec 32 × Nat × RP) :=
  match ((subsToCome d).map (fun (f, k) => (f, k, subRp d.clk.raster d.out f k))).filter (fun (_, _, p) => !(p.before d.clk.rp)) with
  | x :: xs => some (xs.foldl sooner x)
  | [] => none

/-- Whether a codes-complete LOAD of display frame `f` awaits its exchange, with its codes. -/
def loadedFor (o : Output) (f : BitVec 32) : Option (List Nat) :=
  if o.memory = some f then none
  else match o.load, o.ready with
    | some l, r => if l.frame = f ∧ l.complete then some l.codes
        else (match r with | some (g, cs) => if g = f then some cs else none | none => none)
    | none, some (g, cs) => if g = f then some cs else none
    | none, none => none

/-- Sub-refresh `k` of display frame `f` starts (R321, R326, R328, R330, R332, R333, R334): FRAME and SUB where the LOAD is complete, HOLD
while its frame is held, SUB otherwise; then the row scan begins. -/
def subStartFx (f : BitVec 32) (k : Nat) (d : Device) : Device :=
  let d := settleLoad d
  let d := if d.out.subFrame = f then d else
    setOut (fun o => { o with dark := match o.dark with | some g => if frameDiff f g ≤ 0 then some g else none | none => none }) (flushHeld d)
  let o := d.out
  let d := scanStart f (setOut (fun o => { o with subFrame := f, sub := k }) d)
  match loadedFor o f with
  | some cs =>
    let d := runSections [2, 3] (setOut (fun o => { o with memory := some f, shown := cs, late := none, ready := none }) d)
    when (k != 0) (lateSwap f k) d
  | none =>
    let waits := (match o.load with | some l => l.frame == f && o.memory != some f | none => false)
    if waits || o.late == some f then heldNote 0 (runSections [4] (setOut (fun o => { o with late := some f }) d))
    else runSections [3] d

/-- HELD_REPEAT_START (R334): while a backward step holds the RP, HOLD and the row scan run again. -/
def heldRepeatFx (d : Device) : Device :=
  if d.out.running && d.clk.hold.isSome then
    heldNote 1 (runSections [4] (scanStart d.out.subFrame (settleLoad d)))
  else d

/-- HELD_REPEAT_START. -/
def execHeldRepeatStart (s : State) : Result := act heldRepeatFx s

/-- Whether ROW_EN may be active (R314, R335, R337, R359): output runs, the frame is not dark, no output hold, and the
shutter windows allow it. -/
def rowGate (d : Device) : Bool :=
  let ws := d.sched.shutters
  d.out.running && d.out.dark.isNone && d.red.hold.isNone &&
  !(ws.any (fun w => w.isOpen && w.action == 1)) &&
  (!(ws.any (fun w => w.enabled && w.action == 2)) || ws.any (fun w => w.isOpen && w.action == 2))

/-! ### The signals (R313, R314, R317) -/

/-- What a group drives: LE, DCLK, and OD of its eight lanes; `none` where no rule gives OD a level. -/
structure LaneLevels where
  le   : Bool
  dclk : Bool
  od   : List (Option Bool)
  deriving DecidableEq, Repr

/-- The levels of a group that output does not drive (R314). -/
def lanesLow : LaneLevels := { le := false, dclk := false, od := List.replicate 8 (some false) }

/-- A group between sections, and while its LOAD waits at a slot (R325): no DCLK period runs, and LE is high only within one. The rules
give OD no level there. -/
def lanesRest : LaneLevels := { le := false, dclk := false, od := List.replicate 8 none }

/-- The levels of a DCLK period (R317, R322): LE and OD from its start, DCLK from its middle on. `code`: the code of a lane's slot. -/
def LanePeriod.levels (x : LanePeriod) (code : Nat → Nat → Nat) (second : Bool) : LaneLevels :=
  { le := x.le, dclk := x.dclk && second
    od := (List.range 8).map (fun l => match x.od with | .code s b => some (hasBit (code l s) b) | .level v => some v) }

/-- Period `i` of sections run one behind the other. -/
def sectionsAt (p : Program) : List Nat → Nat → Option LanePeriod
  | [], _ => none
  | s :: r, i =>
    if i < sectionPeriods p s then periodAt p.words 129 (nth p.entries s) i 0 else sectionsAt p r (i - sectionPeriods p s)

/-- The half DCLK periods of a group from `a` up to where its sequencer stands (R317). -/
def laneHalves (d : Device) (g : Group) (a : RP) : Nat :=
  dclkPeriods d.clk.raster { g with dclkMul := 2 * g.dclkMul } (RP.dist d.clk.raster (seqNow d) a)

/-- Whether a group's LOAD waits before the period it has come to (R325). -/
def loadWaits (d : Device) (l : Load) (p : LoadPos) (i : Nat) : Bool :=
  match loadPeriod (l.programs.getD p.group {}) i with
  | some x => (match x.od with | .code s _ => decide (waitSlot d l p.group ≤ s) | .level _ => false)
  | none => true

/-- What a group drives for its LOAD by now (R322, R325). -/
def loadLevels (d : Device) (l : Load) (p : LoadPos) : LaneLevels :=
  let i := posAt d l p
  let cs := loadCodes d l
  let h := laneHalves d (l.orec.group p.group) p.since - 2 * p.front
  match loadPeriod (l.programs.getD p.group {}) i with
  | some x =>
    if loadWaits d l p i ∨ h = 0 then lanesRest
    else x.levels (fun lane s => nth cs (l.orec.base p.group + 8 * s + lane)) (h % 2 == 1)
  | none => lanesRest

/-- What group `g` drives now, its LOAD's place being settled (R313, R314, R321, R326, R359): a section that runs, else its LOAD. An output
hold keeps DCLK low; LE and OD keep their levels. -/
def laneNow (d : Device) (g : Nat) : LaneLevels :=
  let o := d.out
  if !o.running || !(o.orec.group g).enable then lanesLow
  else
    let x : LaneLevels := match o.sections.find? (fun s => s.group == g && sectionRuns d s) with
      | some s =>
        let h := laneHalves d (o.orec.group g) s.start
        (match sectionsAt s.prog s.list (h / 2) with | some y => y.levels (fun _ _ => 0) (h % 2 == 1) | none => lanesRest)
      | none => match o.load with
        | some l => (match l.pos.find? (fun p => p.group == g) with
          | some p => if posEnded d l p then lanesRest else loadLevels d l p
          | none => lanesRest)
        | none => lanesRest
    { x with dclk := x.dclk && d.red.hold.isNone }

/-- What a row scan drives now: its address, whether its rows may light, and GCLK (R330). After an output hold the pulses whose time fell
in it are not sent (R360). -/
def rowsNow (d : Device) (b : Bool) : RowLevels :=
  match scanOf d b with
  | some s =>
    let h := s.halves d.clk.raster d.clk.rp
    let x := s.levels h
    let sent := match d.out.resumed with | some q => decide (s.halves d.clk.raster q < h) | none => true
    { x with gclk := x.gclk && sent && d.red.hold.isNone }
  | none => { row := 0, rowEn := false, gclk := false }

/-- The level of ROW_EN0 or ROW_EN1 (R314, R316, R335, R337, R359): active where its rows may light and nothing holds them dark, of the
polarity that the flags give. -/
def rowEnLevel (d : Device) (b : Bool) : Bool :=
  let o := if d.out.scanning then d.out.governs else d.out.orec
  (rowGate d && (rowsNow d b).rowEn) != hasBit o.flags (bit b)

/-- The level of GCLKn (R313, R314, R316). -/
def gclkLevel (d : Device) (n : Nat) : Bool :=
  let o := d.out.governs
  d.out.running && hasBit o.gclkEn n && (rowsNow d (hasBit o.gclkSet n)).gclk

/-- The output signals at the present RP (R313, R314), in the order OD0 to OD63, DCLK0 to 7, LE0 to 7, GCLK0 to 3, ROW_A0 to 5, ROW_EN0,
ROW_B0 to 5, ROW_EN1. `none`: an OD to which the rules give no level. -/
def outSignals (d : Device) : List (Option Bool) :=
  let d := settleLoad d
  let gs := (List.range 8).map (laneNow d)
  let rows := fun (b : Bool) =>
    let a := if d.out.running then (rowsNow d b).row else 0
    (List.range 6).map (fun i => some (hasBit a i)) ++ [some (rowEnLevel d b)]
  gs.flatMap (fun g => g.od) ++ gs.map (fun g => some g.dclk) ++ gs.map (fun g => some g.le) ++
    (List.range 4).map (fun n => some (gclkLevel d n)) ++ rows false ++ rows true

/-- A shutter window's action as OUT_SHUTTER_CFG gives it; 3 is treated as MARK (R335). -/
def shutterAction (d : Device) (w : Nat) : Nat :=
  let a := d.field 0x4050 (2 * w + 1) (2 * w)
  if a = 3 then 0 else a

/-- An RP put in its place among rising ones. -/
def insertRp (a : RP) : List RP → List RP
  | [] => [a]
  | b :: r => if b.before a then b :: insertRp a r else a :: b :: r

/-- The close points an open window keeps. -/
def Shutter.closes (s : Shutter) : List RP := match s.close with | some p => p :: s.later | none => []

/-- SHUTTER_EDGE at an opening (R100, R335): the RP reaches the window's next opening, where it is enabled. A window still open keeps
its close points too (R101). -/
def shutterOpenFx (w : Nat) (d : Device) : Device :=
  let s := d.sched.shutters.getD w {}
  if !s.enabled then d
  else
    let p := openPoint d s
    let d := { d with clk := d.clk.reach p }
    quiet (fun d => { d with sched := { d.sched with shutters := modAt d.sched.shutters w (fun s =>
      let ends := insertRp (closePoint d.clk.raster s p.frame) s.closes
      { s with isOpen := true, close := ends.head?, later := ends.tail, action := shutterAction d w }) } }) d

/-- SHUTTER_EDGE at a close (R100, R101): the RP reaches the first close point kept; the window stays open while an opening that came
since has its own still before it. -/
def shutterCloseFx (w : Nat) (d : Device) : Device :=
  let s := d.sched.shutters.getD w {}
  match s.isOpen, s.close with
  | true, some p =>
    let d := { d with clk := d.clk.reach p }
    quiet (fun d => { d with sched := { d.sched with shutters := modAt d.sched.shutters w (fun s =>
      { s with isOpen := !s.later.isEmpty, close := s.later.head?, later := s.later.tail }) } }) d
  | _, _ => d

/-- SHUTTER_EDGE: not while a backward step holds the RP (R98). -/
def shutterEdgeFx (w : Nat) (close : Bool) (d : Device) : Device :=
  if d.clk.hold.isSome || !d.isNode then d else if close then shutterCloseFx w d else shutterOpenFx w d

/-- The shortest dark gap of a row set, in whole ns (R330); 0 for a set no enabled group uses. -/
def darkGap (r : Raster) (o : OutRec) (b : Bool) : Nat :=
  let s := if b then o.setB else o.setA
  if !(o.uses b) then 0
  else (shortestSub r o * r.den * 1000000000 * 297000000 * o.gclkMul - s.n * (s.g + s.b) * 4096 * 1000000000 * r.num * r.frameSub) /
    (r.num * r.frameSub * 297000000 * o.gclkMul)

/-- A configuration to be put in force: a record, a map and programs. -/
structure OutConf where
  orec     : OutRec
  map      : List Word
  programs : List Program
  deriving DecidableEq, Repr

/-- The map words of a host copy (R319). -/
def mapWords (b : List Byte) (n : Nat) : List Word := (List.range n).map (fun i => BitVec.ofNat 32 (le b (4 * i) 4))

/-- A program record (R339). -/
def programOf (b : List Byte) : Program :=
  { entries := (List.range 5).map (fun i => le b i 1), words := (List.range 128).map (fun i => BitVec.ofNat 32 (le b (0x10 + 4 * i) 4)) }

/-- A command's change of the configuration, or the reason it fails by itself (R331, R338). -/
def outApply (r : Raster) (op : Nat) (c : Cmd) (b : List Byte) (x : OutConf) : Nat ⊕ OutConf :=
  if op = 0x40 then (if outRecGood r (outRecOf b) then .inr { x with orec := outRecOf b } else .inl 1)
  else if op = 0x41 then
    (if 7 < opB c 8 then .inl 1 else .inr { x with programs := setAt x.programs (opB c 8) (programOf b) })
  else
    let n := opN c 8 4
    if n < 1 ∨ 524288 < n then .inl 2
    else if !((mapWords b n).all entryKindGood) then .inl 6
    else .inr { x with map := mapWords b n }

/-- A configuration in force from display frame `f` on (R337); `was` stays the one before that boundary. -/
def outPut (f : BitVec 32) (x : OutConf) (d : Device) : Device :=
  setOut (fun o => { o with was := if o.since = f then o.was else o.orec, since := f, orec := x.orec, map := x.map,
                            programs := x.programs, checked := true }) d

/-- What a change of the output configuration costs at the boundary of frame `f` (R329, R337), once every change there has been made: a
change of the layout makes the frame dark, runs INIT, and abandons an unfinished LOAD. -/
def layoutFx (f : BitVec 32) (d : Device) : Device :=
  let d := setOut (fun o => { o with joint := none }) d
  if d.out.running ∧ d.out.since = f ∧ layoutChanged d.out.was d.out.orec then
    let d := settleLoad d
    outputState 1 3 (runInit (setOut (fun o => { o with
      dark := some f, load := (match o.load with | some l => if l.complete then some l else none | none => none) }) d))
  else d

/-- The configuration in force. -/
def confNow (d : Device) : OutConf := { orec := d.out.orec, map := d.out.map, programs := d.out.programs }

/-- The check made once on the commands 0x40 to 0x42 that share a boundary (R331, R337): the reason the result fails with; those that
fail by themselves are left out of it. -/
def outVerdict (cs : List (Nat × Cmd)) (d : Device) : Option Nat :=
  let r := d.clk.raster
  let x := cs.foldl (fun x a => match a.2.host with
    | .data b => (match outApply r a.1 a.2 b x with | .inl _ => x | .inr y => y)
    | _ => x) (confNow d)
  outReason r (cutLine d) x.orec x.map x.programs

/-- A change of the configuration put in force at a boundary by a command (R320, R329): an OUT_MAP_LOAD changes the map bank. -/
def outPutBy (op : Nat) (x : OutConf) (d : Device) : Device :=
  let f := d.clk.rp.frame
  when (op == 0x42) (setOut (fun o => { o with mapFrom := some f })) (outPut f x d)

/-- One of those commands in its turn (R96, R331), with the verdict on them all: it fails by itself, fails with them all, or its change
is in force. -/
def outTurn (why : Option Nat) (op : Nat) (c : Cmd) (d : Device) : Device :=
  match c.host with
  | .busError => refuse op c 0x0A [] d
  | .none => refuse op c 4 (leN 1 1) d
  | .data b =>
    match outApply d.clk.raster op c b (confNow d), why with
    | .inl own, _ => refuse op c 4 (leN 1 own) d
    | .inr _, some w => refuse op c 4 (leN 1 w) d
    | .inr x, none => finish op c (boundaryRp d) [] (outPutBy op x d)

/-- Whether the map bank that an OUT_MAP_LOAD with effect at the boundary of frame `f` is to fill still serves a LOAD (R329): one begun
before the map in force was put there, which has not ended. -/
def bankBusy (f : BitVec 32) (d : Device) : Bool :=
  match d.out.mapFrom, (settleLoad d).out.load with
  | some m, some l => m != f && !l.complete && decide (frameDiff l.frame m ≤ 0)
  | _, _ => false

/-- The check of the commands that share a boundary (R331), made at the turn of the first of them and kept for the rest. -/
def outJudge (p : RP) (cs : List (Nat × Cmd)) (d : Device) : Device :=
  if (d.out.joint.map (fun j => j.1)) = some p then d else setOut (fun o => { o with joint := some (p, outVerdict cs d) }) d

/-- The verdict kept. -/
def outWhy (d : Device) : Option Nat := match d.out.joint with | some j => j.2 | none => none

/-- A command of the output alone at its boundary (R331, R337, R338); on a head that is not a node it is UNSUPPORTED, and one without effect
costs no layout change. -/
def outCmdFx (op : Nat) (c : Cmd) (d : Device) : Device :=
  if !d.isNode then refuse op c 5 [] d
  else if misaligned c then refuse op c 4 (leN 1 1) d
  else
    let t := outTurn (outVerdict [(op, c)] d) op c d
    when (layoutChanged d.out.orec t.out.orec) (layoutFx d.clk.rp.frame) t

/-- OUT_CONFIG. -/
def execOutConfig (c : Cmd) (s : State) : Result := act (outCmdFx 0x40 c) s

/-- OUT_PROG_LOAD. -/
def execOutProgLoad (c : Cmd) (s : State) : Result := act (outCmdFx 0x41 c) s

/-- OUT_MAP_LOAD. -/
def execOutMapLoad (c : Cmd) (s : State) : Result := act (outCmdFx 0x42 c) s

/-- Whether the power state drives the output (R514). -/
def stateLights (d : Device) : Bool := !(forwardOnly d) && d.pwr.state == .run

/-- Whether output can start now (R19, R336, R346, R550): an unassigned device drives nothing, nor does one with no engine that has
passed. -/
def canStart (d : Device) : Bool :=
  d.isNode && d.topo.nodeId.isSome && d.tim.everLocked && d.out.checked && stateLights d && d.red.engines.any (fun e => e == .active)

/-- OUT_ENABLE (R336, R338): EN follows it, and it prevails over a write of OUT_CTRL at the same boundary (R550). -/
def outEnableFx (c : Cmd) (d : Device) : Device :=
  let on := hasBit (opB c 0) 0
  if !d.isNode then refuse 0x43 c 5 [] d
  else if on then
    if d.out.running || !d.out.checked then refuse 0x43 c 6 [] d
    else
      let d := setOut (fun o => { o with wanted := none }) (d.setWord 0x4000 1)
      finish 0x43 c (boundaryRp d) [] (if canStart d then outStart d.clk.rp.frame 0 (setOut (fun o => { o with autoStart := none }) d) else d)
  else if !d.out.running && d.field 0x4000 0 0 == 0 then refuse 0x43 c 6 [] d
  else finish 0x43 c (boundaryRp d) [] (outStop 0 (setOut (fun o => { o with wanted := none }) (d.setWord 0x4000 0)))

/-- OUT_ENABLE. -/
def execOutEnable (c : Cmd) (s : State) : Result := act (outEnableFx c) s

/-- OUT_CTRL_WRITE (R550): EN reads the value at once and acts at the next boundary. -/
def outCtrlFx (v : Nat) (d : Device) : Device :=
  if !d.isNode then d else setOut (fun o => { o with wanted := some (hasBit v 0) }) (d.setWord 0x4000 (v % 2))

/-- OUT_CTRL_WRITE. -/
def execOutCtrlWrite (v : Word) (s : State) : Result := act (outCtrlFx v.toNat) s

/-- The output's part of the boundary of frame `f` (R336, R550): a write of OUT_CTRL acts, and a start owed is made once the
time state has reached LOCKED. -/
def outBoundary (f : BitVec 32) (d : Device) : Device :=
  let d := match d.out.wanted with
    | some true => setOut (fun o => { o with wanted := none }) (if !d.out.running && canStart d then
        outStart f 0 (setOut (fun o => { o with autoStart := none }) d) else d)
    | some false => setOut (fun o => { o with wanted := none }) (outStop 0 d)
    | none => d
  match d.out.autoStart with
  | some cause =>
    if d.tim.everLocked && stateLights d && d.isNode && d.topo.nodeId.isSome then
      let d := setOut (fun o => { o with autoStart := none }) d
      if d.field 0x4000 0 0 == 1 && canStart d && !d.out.running then outStart f cause d else d
    else d
  | none => d

/-- The output configuration held in the registers judged (R550, R575): one that fails leaves output stopped. -/
def outCheck (d : Device) : Device :=
  match outReason d.clk.raster (cutLine d) d.out.orec d.out.map d.out.programs with
  | some _ => outputState 0 0 (setOut (fun o => { o with checked := false }) d)
  | none => setOut (fun o => { o with checked := true }) d

end Sys2Proof.Machine
end

