-- ==== Sys2Proof/Machine/Spares.lean ====
section
/-! DEFINITION. Machine/Spares.lean: health, reasons and predictions (R377 to R381), spares brought in (R373), the wear
monitors (R375, R376), deferred substitutions (R374), the calibration store's errors (R292), PORT_DOWN, and opcodes 0x52 and
0x53. -/

namespace Sys2Proof.Machine

/-- The spares block changed. -/
def setSpare (f : Spares → Spares) (d : Device) : Device := { d with spare := f d.spare }

/-- Seconds of RUN in 30 days, one day and 180 days. -/
def days30 : Nat := 2592000

/-- A day, in seconds of RUN. -/
def day : Nat := 86400

/-- The entries of a log of seconds that lie within the last `span` seconds of RUN. -/
def recentLog (d : Device) (span : Nat) (xs : List Nat) : List Nat := xs.filter (fun t => decide (d.spare.run < t + span))

/-- The uses of a kind. -/
def usesOf (d : Device) (kind : Nat) : List SpareUse := d.spare.uses.filter (fun u => u.kind == kind)

/-- The spares of a kind in all (R373), by kind code. -/
def spareTotal (kind : Nat) : Nat :=
  nth [0, 1, 1, 48, 24, 2, 128, 98, 1, 7, 1, 64] kind

/-- The uses of segments of a lane. -/
def segsOf (d : Device) (lane : Nat) : Nat := ((usesOf d 6).filter (fun u => u.unit == lane)).length

/-- The families whose standby PLL is good. -/
def pllsGood (d : Device) : Nat := (d.red.pllStandby.filter id).length

/-- The spares of a kind left; per lane for segments. -/
def spareLeft (d : Device) (kind unit : Nat) : Nat :=
  if kind = 6 then 8 - segsOf d unit
  else if kind = 9 then pllsGood d
  else if kind = 10 then bit d.spare.coreOut.isEmpty
  else spareTotal kind - (usesOf d kind).length

/-- Whether a kind meets its WORN condition (R379). -/
def wornNow (d : Device) (kind : Nat) : Bool :=
  let n := (usesOf d kind).length
  if kind = 1 then d.red.retireLog.any (fun l => decide (2 ≤ (recentLog d days30 l).length))
  else if kind = 3 ∨ kind = 4 ∨ kind = 5 ∨ kind = 6 then decide (1 ≤ n)
  else if kind = 11 then decide (16 ≤ n)
  else if kind = 13 then decide (400 ≤ d.spare.ageing)
  else false

/-- Whether a kind meets its REPLACE condition (R379). -/
def replaceNow (d : Device) (kind : Nat) : Bool :=
  let n := (usesOf d kind).length
  if kind = 1 then d.red.engines.any (fun e => e == .failed)
  else if kind = 2 then d.red.copies.any (fun c => c == .failed) ||
    d.spare.out24.any (fun c => d.red.copies.getD c .failed == .retired)
  else if kind = 3 then decide (48 ≤ n)
  else if kind = 4 then decide (24 ≤ n)
  else if kind = 5 then decide (2 ≤ n)
  else if kind = 6 then (List.range 16).any (fun l => decide (8 ≤ segsOf d l))
  else if kind = 7 ∨ kind = 8 then decide (1 ≤ n)
  else if kind = 9 then d.red.pllStandby.any (fun b => !b)
  else if kind = 10 then !(d.spare.coreOut.isEmpty)
  else if kind = 11 then decide (64 ≤ n)
  else if kind = 12 then d.red.feeds.any (fun f => f.faulty)
  else if kind = 13 then decide (600 ≤ d.spare.ageing)
  else false

/-- The kinds of R379. -/
def kinds : List Nat := [1, 2, 3, 4, 5, 6, 7, 8, 9, 10, 11, 12, 13]

/-- A mask of the kinds that pass a test: bit k−1 for kind k. -/
def kindMask (p : Nat → Bool) : Nat := kinds.foldl (fun w k => if p k then w + 2 ^ (k - 1) else w) 0

/-- The lowest kind that passes a test. -/
def lowestKind (p : Nat → Bool) : Option Nat := kinds.find? p

/-- Whether a kind is predicted. -/
def predictedKind (d : Device) (k : Nat) : Bool := hasBit d.spare.predicted (k - 1)

/-- The reason of a health state (R380): a condition reached before a prediction, then the lowest kind; where none in force
gives the state, the reason stays. -/
def reasonOf (d : Device) (h : HealthState) : Nat :=
  match h with
  | .good => 0
  | .worn => (match lowestKind (fun k => wornNow d k && !(replaceNow d k)) with | some k => k | none => d.spare.reason)
  | .replace =>
    match lowestKind (replaceNow d), lowestKind (predictedKind d) with
    | some k, _ => k
    | none, some k => 128 + k
    | none, none => d.spare.reason

/-- The kinds whose WORN or REPLACE condition holds: bit k−1 for kind k (R380). -/
def reachedNow (d : Device) : Nat := kindMask (fun k => wornNow d k || replaceNow d k)

/-- Health and reason judged (R378, R380, R381): health never falls; HEALTH_CHANGED at every change of state. -/
def judgeHealth (d : Device) : Device :=
  let old := d.spare.health
  let bad := kinds.any (fun k => replaceNow d k || predictedKind d k)
  let h : HealthState := if bad ∨ old = .replace then .replace
    else if kinds.any (wornNow d) ∨ old = .worn then .worn else .good
  let why := reasonOf d h
  let d := setSpare (fun x => { x with health := h, reason := why }) d
  when (h != old) (report 0x0C none 0x5010 (leN 1 (healthCode old) ++ leN 1 (healthCode h) ++ leN 1 (reasonCode d) ++ zeros 1)) d

/-- Whether exhaustion of `r` spares is predicted after `u` were used in 180 days (R377). -/
def spent (u r : Nat) : Bool := decide (2 ≤ u) && decide (r * 180 ≤ u * 90)

/-- The spares of a kind, or of a lane's segments, used in the last 180 days of RUN. -/
def usedLately (d : Device) (kind : Nat) (lane : Option Nat) : Nat :=
  ((usesOf d kind).filter (fun u => decide (d.spare.run < u.at_ + 15552000) &&
    (match lane with | some l => u.unit == l | none => true))).length

/-- The least-squares line of daily means `ys`, as slope and intercept numerators over one denominator (R377). -/
def fitLine (ys : List Nat) : Int × Int × Int :=
  let n : Int := ys.length
  let sx := (ys.zipIdx.map (fun (_, i) => (i : Int))).foldl (· + ·) 0
  let sy := (ys.map Int.ofNat).foldl (· + ·) 0
  let sxy := (ys.zipIdx.map (fun (y, i) => (y : Int) * i)).foldl (· + ·) 0
  let sxx := (ys.zipIdx.map (fun (_, i) => (i : Int) * i)).foldl (· + ·) 0
  (n * sxy - sx * sy, sy * sxx - sx * sxy, n * sxx - sx * sx)

/-- The days from the last daily mean until the line reaches 6.00 %, where it does within 90 days. -/
def ageingDays (ys : List Nat) : Option Nat :=
  if ys.length < 30 then none
  else
    let (b, a, den) := fitLine ys
    (List.range 91).find? (fun t => decide (600 * den ≤ a + b * ((ys.length : Int) - 1 + t)))

/-- The days to exhaustion of a kind, where it is predicted (R377, R387). -/
def exhaustDays (d : Device) (kind : Nat) : Option Nat :=
  let one := fun (lane : Option Nat) =>
    let u := usedLately d kind lane
    let r := spareLeft d kind (lane.getD 0)
    if spent u r then some (r * 180 / u) else none
  if kind = 13 then ageingDays d.spare.ageDays
  else if kind = 12 then none
  else if kind = 6 then ((List.range 16).filterMap (fun l => one (some l))).min?
  else one none

/-- Exhaustion predicted anew (R377), and health judged. -/
def predict (d : Device) : Device :=
  judgeHealth (setSpare (fun x => { x with predicted := kindMask (fun k => (exhaustDays d k).isSome) }) d)

/-- A spare brought in (R373, R388): noted, and SPARE_USED reported; health is judged once all that happens with it is applied (R381). -/
def spareTaken (kind unit : Nat) (d : Device) : Device :=
  let d := setSpare (fun x => { x with uses := x.uses ++ [{ kind := kind, unit := unit, at_ := x.run }] }) d
  report 0x0D none 0x5011 (leN 1 kind ++ leN 2 unit ++ zeros 1 ++ leN 4 (spareLeft d kind unit)) d

/-- Health judged after an event of several parts (R377, R381): exhaustion too where a spare was brought in since `was`. -/
def judged (was d : Device) : Device := if d.spare.uses.length = was.spare.uses.length then judgeHealth d else predict d

/-- A spare brought in, exhaustion and health judged (R373, R377, R388). -/
def spareUsed (kind unit : Nat) (d : Device) : Device := predict (spareTaken kind unit d)

/-- A slice due on a lane (R373): the port is down while the slice changes; with none left it stays down (R384). -/
def sliceDue (lane : Nat) (d : Device) : Device :=
  let d := portDownFx (lanePort lane) 0 d
  if spareLeft d 5 0 = 0 then
    setSpare (fun x => { x with sliceGone := if x.sliceGone.contains lane then x.sliceGone else x.sliceGone ++ [lane] }) d
  else spareTaken 5 lane d

/-- Whether an enabled ST 2110 slot receives on an ingest port alone (R374). -/
def soleSlot (d : Device) (p : Nat) : Bool :=
  d.gest.slots.any (fun s => match s.strm with | some r => r.kind != 2 && r.paths == 2 ^ p | none => false)

/-- A slice substituted under the eye-width rule: it is on trial (R376). -/
def eyeSwapFx (lane : Nat) (d : Device) : Device :=
  let d := setSpare (fun x => { x with deferred := x.deferred.filter (· != lane) }) d
  if spareLeft d 5 0 = 0 then sliceDue lane d else setSpare (fun x => { x with eyeSwap := setAt x.eyeSwap lane true }) (sliceDue lane d)

/-- The lanes of a port whose substitution waits (R374). -/
def deferredOn (d : Device) (p : Nat) : List Nat := d.spare.deferred.filter (fun lane => lanePort lane == p)

/-- The deferred substitutions of an ingest port made, unjudged. -/
def deferredMade (p : Nat) (d : Device) : Device := (deferredOn d (p + 8)).foldl (fun d lane => eyeSwapFx lane d) d

/-- The deferred substitutions of an ingest port made (R374). -/
def applyDeferred (p : Nat) (d : Device) : Device := if (deferredOn d (p + 8)).isEmpty then d else judged d (deferredMade p d)

/-- An ingest port going down (R150), which lets a deferred substitution be made (R374). -/
def ingestDown (p cause : Nat) (d : Device) : Device := applyDeferred p (portDownFx (p + 8) cause d)

/-- A slice substituted at once, with those that waited on its port, which goes down (R373, R374). -/
def takeSlice (lane : Nat) (eye : Bool) (d : Device) : Device :=
  let e := if eye then eyeSwapFx lane d else sliceDue lane d
  judged d (if lane < 8 then e else deferredMade (lanePort lane - 8) e)

/-- The substitutions that no slot holds up any longer (R374). -/
def retryDeferred (d : Device) : Device :=
  [0, 1].foldl (fun d p => if soleSlot d p then d else applyDeferred p d) d

/-- A slice substitution due under the eye-width rule (R374, R376). -/
def eyeSlice (lane : Nat) (d : Device) : Device :=
  let p := lanePort lane
  if d.spare.sliceGone.contains lane then d
  else if 8 ≤ p ∧ soleSlot d (p - 8) then
    if d.spare.deferred.contains lane then d
    else raise 0x5012 (leN 1 p ++ leN 1 lane ++ zeros 2) (setSpare (fun x => { x with deferred := x.deferred ++ [lane] }) d)
  else takeSlice lane true d

/-- The old slice of a lane back in the pool (R373): the newest use on the lane is withdrawn. -/
def returnSlice (lane : Nat) (d : Device) : Device :=
  match (usesOf d 5).reverse.find? (fun u => u.unit == lane) with
  | some u => judgeHealth (setSpare (fun x => { x with uses := (x.uses.reverse.erase u).reverse }) d)
  | none => d

/-- EYE_WIDTH_SAMPLE (R376). -/
def eyeFx (lane width : Nat) (d : Device) : Device :=
  let low := if width < 200 then nth d.spare.eyeLow lane + 1 else 0
  let d := setSpare (fun x => { x with
    eyes := setAt x.eyes lane width,
    today := { x.today with eyes := modAt x.today.eyes lane (fun e => (e.1 + width, e.2 + 1)) }, eyeLow := setAt x.eyeLow lane (if 3 ≤ low then 0 else low),
    eyeSwap := setAt x.eyeSwap lane (x.eyeSwap.getD lane false && decide (width < 200)),
    eyeBar := setAt x.eyeBar lane (x.eyeBar.getD lane false && decide (width ≤ 300)) }) d
  if low < 3 then d
  else if d.spare.eyeSwap.getD lane false then
    raise 0x5013 (leN 1 (lanePort lane) ++ leN 1 lane ++ leN 2 width)
      (returnSlice lane (setSpare (fun x => { x with eyeSwap := setAt x.eyeSwap lane false, eyeBar := setAt x.eyeBar lane true }) d))
  else if d.spare.eyeBar.getD lane false then d
  else eyeSlice lane d

/-- EYE_WIDTH_SAMPLE. -/
def execEyeWidthSample (lane : Fin 16) (width : Nat) (s : State) : Result := act (eyeFx lane.val width) s

/-- A port queue's parity failures judged (R376): 16 within a day of RUN substitute the lane's slice. -/
def parityJudge (q : Nat) (d : Device) : Device :=
  let mine := fun (e : Nat × Nat) => e.1 == q && decide (d.spare.run < e.2 + day)
  let lane := if q < 8 then q else 8 + 4 * (q - 8)
  if 16 ≤ (d.spare.parityLog.filter mine).length ∧ !(d.spare.sliceGone.contains lane) then
    let d := setSpare (fun x => { x with parityLog := x.parityLog.filter (fun e => e.1 != q) }) d
    takeSlice lane false d
  else d

/-- The parity failures of every port queue judged, at a frame boundary (DESIGN CHOICE, log entry 124). -/
def paritySubst (d : Device) : Device := (List.range 10).foldl (fun d q => parityJudge q d) d

/-- QUEUE_MARKER_READ (R227, R229). -/
def execQueueMarkerRead (p : Fin 10) (poison : Bool) (s : State) : Result :=
  act (fun d => when ((queueOf d p.val).words.any (fun w => w.mark))
    (fun d => when poison (parityCount p.val 1) (markerReadFx p.val poison d)) d) s

/-- PORT_DOWN (R150, R374): the port going down lets a deferred substitution be made. -/
def execPortDown (p : Fin 10) (cause : Nat) (s : State) : Result :=
  act (fun d => if p.val < 8 then portDownFx p.val cause d else ingestDown (p.val - 8) cause d) s

/-- AGEING_SAMPLE (R376, R379). -/
def execAgeingSample (worst : Nat) (s : State) : Result :=
  act (fun d => judgeHealth (setSpare (fun x => { x with ageing := worst, ageToday := x.ageToday ++ [worst] }) d)) s

/-- A segment brought in on a lane while it has spares. -/
def takeSegment (lane : Nat) (d : Device) : Device := if spareLeft d 6 lane = 0 then d else spareTaken 6 lane d

/-- SEGMENT_AMPLITUDE_CHECK (R373, R381): each segment that failed is replaced. -/
def execSegmentAmplitudeCheck (lane : Fin 16) (failed : Nat) (s : State) : Result :=
  act (fun d => judged d ((List.range (min 40 failed)).foldl (fun d _ => takeSegment lane.val d) d)) s

/-- REGULATOR_PHASE_REMOVE (R373, R376): the first phase removed is carried by the other five. -/
def execRegulatorPhaseRemove (phase : Fin 6) (s : State) : Result :=
  act (fun d => if (usesOf d 8).any (fun u => u.unit == phase.val) then d else spareUsed 8 phase.val d) s

/-- PAD_LEG_FAULT (R356, R373). -/
def execPadLegFault (pad : Fin 98) (s : State) : Result :=
  act (fun d => if (usesOf d 7).any (fun u => u.unit == pad.val) then d else spareUsed 7 pad.val d) s

/-- EXHAUSTION_PREDICTION (R376, R377): the day's means are kept, the ageing's joins the trend, and exhaustion is predicted anew. -/
def predictionFx (d : Device) : Device :=
  let t := d.spare.ageToday
  let mean := if t.isEmpty then [] else [(t.foldl (· + ·) 0 + t.length / 2) / t.length]
  predict (setSpare (fun x => { x with
    ageDays := lastN 90 (x.ageDays ++ mean), ageToday := [], days := lastN 90 (x.days ++ [x.today]), today := {} }) d)

/-- EXHAUSTION_PREDICTION. -/
def execExhaustionPrediction (s : State) : Result := act predictionFx s

/-- The roles after core `c` leaves (R255, R373, R384): the spare takes its role; with no spare the lowest-ranked role, HEALTH, gives up
its core to it and is hosted by FIXTURE's. -/
def coreRoles (x : Spares) (c : Nat) : List Nat :=
  let spare := [0, 1, 2, 3, 4].find? (fun k => k != c && !(x.cores.contains k) && !(x.coreOut.contains k))
  match spare with
  | some k => x.cores.map (fun r => if r = c then k else r)
  | none =>
    let h := (x.cores.reverse.find? (· != c)).getD c
    let rs := x.cores.map (fun r => if r = c then h else r)
    setAt rs 3 (rs.getD 2 0)

/-- Whether a core's self-test is due (R375): 16 late events within 86,400 s of RUN. -/
def coreDue (d : Device) (c : Nat) : Bool := decide (16 ≤ (recentLog d day (d.spare.coreLog.getD c [])).length)

/-- CORE_SELFTEST (R373, R375): run where it is due; a pass clears the core's late count; a failure retires it, and the spare core, where
there is one, takes its roles. -/
def coreTestFx (c : Nat) (pass : Bool) (d : Device) : Device :=
  if d.spare.coreOut.contains c || !(coreDue d c) then d
  else if pass then setSpare (fun x => { x with coreLog := setAt x.coreLog c [], coreLate := setAt x.coreLate c 0 }) d
  else
    let taken := d.spare.coreOut.isEmpty && d.spare.cores.contains c
    let d := setSpare (fun x => { x with cores := coreRoles x c, coreOut := x.coreOut ++ [c] }) d
    if taken then spareUsed 10 c d else judgeHealth d

/-- CORE_SELFTEST. -/
def execCoreSelftest (c : Fin 5) (pass : Bool) (s : State) : Result := act (coreTestFx c.val pass) s

/-- A late servo update (R257): the rate in force before it stays for one more measurement. `due` is the RP of the measurement (DEDUCED, log
entry 155). -/
def lateServo (due : RP) (d : Device) : Device :=
  match d.tim.rates.getLast? with
  | some x =>
    if x.1 = due then
      let rs := d.tim.rates.dropLast
      setTime (fun t => { t with rates := rs, rate := match rs.getLast? with | some y => y.2 | none => 0 }) d
    else d
  | none => d

/-- Whether a frame of the device's own that waits is a reply card of a boundary. -/
def cardOf (due : RP) (w : Waiting) : Bool :=
  let h := hdrOf (cut w.frame.bytes 14 24)
  h.cls == 4 && decide (h.stamp = due)

/-- A late reply card (R257): the card of boundary `due`, which has not left, is not sent; at the next boundary a CHANGE card is, with the
reports it carried (log entry 155). -/
def lateCard (due : RP) (d : Device) : Device :=
  match d.topo.lastCard with
  | some (p, rs) =>
    if p = due ∧ d.link.any (fun l => l.backlog.any (cardOf due)) then
      let d := { d with link := d.link.map (fun l => { l with backlog := l.backlog.filter (fun w => !(cardOf due w)) }),
                        topo := { d.topo with lastCard := none }, hif := { d.hif with reports := rs ++ d.hif.reports } }
      setTime (fun t => { t with changed := true }) d
    else d
  | none => d

/-- FW_EVENT_LATE (R257, R258): the due RP it reports lies on the raster (R2); reported at most once in a frame. -/
def fwLateFx (role lateUs : Nat) (due : RP) (d : Device) : Device :=
  let c := d.spare.cores.getD role 0
  let due := RP.plus d.clk.raster (RP.start due.frame) due.inFrame
  let told := d.spare.fwTold == some d.clk.rp.frame
  let d := if role = 0 then lateServo due d else if role = 3 then lateCard due d else d
  when (!told) (raise 0x0120 (leN 1 role ++ leN 1 c ++ zeros 2 ++ leN 4 (min lateUs 0xFFFFFFFF) ++ due.bytes))
    (setSpare (fun x => { x with coreLate := modAt x.coreLate c (fun n => satAdd 255 n 1),
                                 coreLog := modAt x.coreLog c (fun l => l ++ [x.run]), fwTold := some d.clk.rp.frame }) d)

/-- FW_EVENT_LATE. -/
def execFwEventLate (role : Fin 4) (lateUs : Nat) (due : RP) (s : State) : Result := act (fwLateFx role.val lateUs due) s

/-- OUTPUT_COPY_RETIRE_24H (R373, R379). -/
def copy24Fx (c : Nat) (d : Device) : Device :=
  if d.red.copies.getD c .failed != .retired || d.spare.out24.contains c then d
  else spareUsed 2 c (setSpare (fun x => { x with out24 := x.out24 ++ [c] }) d)

/-- OUTPUT_COPY_RETIRE_24H. -/
def execOutputCopyRetire24h (copy : Fin 2) (s : State) : Result := act (copy24Fx copy.val) s

/-- A calibration-store bank brought in (R373): its fill from the old bank starts. -/
def takeBank (bank : Nat) (d : Device) : Device :=
  if spareLeft d 4 0 = 0 ∨ (usesOf d 4).any (fun u => u.unit == bank) then d
  else
    let new := 640 + (usesOf d 4).length
    spareUsed 4 bank (setSpare (fun x => { x with fills := x.fills ++ [(bank, new)], rowLog := x.rowLog.filter (fun e => e.1 != bank) }) d)

/-- The bank a word of the calibration store is read from (R291, R373): words are numbered through the banks (DESIGN CHOICE, log entry 161);
a bank that has been replaced is read until its fill has ended. -/
def calBank (d : Device) (w : Nat) : Nat :=
  ((usesOf d 4).zipIdx.filter (fun x => !(d.spare.fills.contains (x.1.unit, 640 + x.2)))).foldl
    (fun b x => if x.1.unit = b then 640 + x.2 else b) (w / 256)

/-- A calibration-store error found by a scrub or a read (R292, R373). -/
def calErrorFx (e : CalError) (d : Device) : Device :=
  let bank := calBank d e.word
  let row := e.word % 256
  if calWords ≤ e.word then d
  else
    let (a, b) := mget d.spare.calEcc bank (0, 0)
    let counts := if e.uncorrected then (a, satAdd 65535 b 1) else (satAdd 65535 a 1, b)
    let d := setSpare (fun x => { x with calEcc := mset x.calEcc bank (0, 0) counts,
                                         today := { x.today with cal := dayCount bank 1 x.today.cal } }) d
    if e.uncorrected then
      let again := d.spare.repaired.contains (bank, row)
      when again (takeBank bank) (calPoison e.word d)
    else
      let d := setSpare (fun x => { x with rowLog := x.rowLog ++ [(bank, row, x.run)] }) d
      let n := (d.spare.rowLog.filter (fun (b, r, t) => b == bank && r == row && decide (d.spare.run < t + day))).length
      when (2 ≤ n) (takeBank bank) d

/-- CAL_STORE_REPAIR (R292): every poisoned word is repaired. -/
def calRepairFx (d : Device) : Device :=
  d.corr.poison.foldl (fun d w =>
    let at_ := (calBank d w, w % 256)
    setSpare (fun x => { x with repaired := if x.repaired.contains at_ then x.repaired else x.repaired ++ [at_] }) (calRepair w d)) d

/-- CAL_STORE_REPAIR. -/
def execCalStoreRepair (s : State) : Result := act calRepairFx s

/-- CAL_BANK_FILL_DONE (R373): reads go to the new bank. -/
def execCalBankFillDone (s : State) : Result := act (setSpare (fun x => { x with fills := x.fills.drop 1 })) s

/-- HOLD_BUFFER_COPY_DONE (R218): the hold buffer of a layer is read from its new place, its words unchanged. -/
def execHoldBufferCopyDone (layer : Fin 8) (s : State) : Result :=
  act (fun d => setPxl (fun p => { p with buffers := p.buffers.map (fun b =>
    if b.layer == layer.val && b.hold && b.moving then { b with moving := false, place := d.spare.fsSubs.length } else b) }) d) s

/-- A substitution in the frame store (R218): it governs buffers given from now on; the hold buffers on the old place are copied. -/
def fsSubstitute (bank : Nat) (row : Option Nat) (moves : Buffer → Bool) (d : Device) : Device :=
  setPxl (fun p => { p with buffers := p.buffers.map (fun b => if b.hold && moves b then { b with moving := true } else b) })
    (setSpare (fun x => { x with fsSubs := x.fsSubs ++ [(bank, row)] }) d)

/-- The spare rows of a frame-store bank in use (R373). -/
def fsRowsOf (d : Device) (bank : Nat) : Nat :=
  ((d.spare.fsSubs.reverse.takeWhile (fun s => s != (bank, none))).filter (fun s => s.1 == bank)).length

/-- A frame-store bank brought in (R373): its spare rows go with it, and every hold buffer has words in it. -/
def fsBank (bank : Nat) (d : Device) : Device :=
  if spareLeft d 3 0 = 0 then d
  else spareUsed 3 bank (fsSubstitute bank none (fun _ => true)
    (setSpare (fun x => { x with fsRowLog := x.fsRowLog.filter (fun e => e.1 != bank) }) d))

/-- A frame-store row replaced (R373): by one of its bank's eight, or with the bank. The errors of the row go on counting for the bank, as
those of row 256, which none is. -/
def fsRow (e : StoreError) (d : Device) : Device :=
  if fsRowsOf d e.bank < 8 then
    fsSubstitute e.bank (some e.row) (fun b => e.hold && b.layer == e.layer.val) (setSpare (fun x => { x with
      fsRowLog := x.fsRowLog.map (fun (b, r, t) => if b = e.bank ∧ r = e.row then (b, 256, t) else (b, r, t)) }) d)
  else fsBank e.bank d

/-- Whether a word read by FETCH lies where a substitution has since been made (R218). -/
def fsReplaced (d : Device) (e : StoreError) : Bool :=
  match d.pxl.buffers.find? (fun b => b.layer == e.layer.val && b.hold == e.hold) with
  | some b => (d.spare.fsSubs.drop b.place).any (fun s => s.1 == e.bank && (s.2 == none || s.2 == some e.row))
  | none => false

/-- A frame-store error counted (R217), and the row and bank rules of R373 applied: a row after 2 corrected errors in a day of RUN or
one beyond correction, a bank after 64 corrected ones. -/
def fsError (e : StoreError) (d : Device) : Device :=
  let (a, b) := mget d.spare.fsEcc e.bank (0, 0)
  let counts := if e.uncorrected then (a, satAdd 65535 b 1) else (satAdd 65535 a 1, b)
  let d := setSpare (fun x => { x with
    fsEcc := mset x.fsEcc e.bank (0, 0) counts, today := { x.today with fs := dayCount e.bank 1 x.today.fs },
    fsRowLog := if e.uncorrected then x.fsRowLog else x.fsRowLog ++ [(e.bank, e.row, x.run)] }) d
  let lately := d.spare.fsRowLog.filter (fun (b, _, t) => b == e.bank && decide (d.spare.run < t + day))
  if fsReplaced d e then d
  else if 64 ≤ lately.length then fsBank e.bank d
  else when (e.uncorrected || decide (2 ≤ (lately.filter (fun (_, r, _) => r == e.row)).length)) (fsRow e) d

/-- The least predicted days to exhaustion (R387). -/
def leastDays (d : Device) : Nat :=
  match ((kinds.filter (predictedKind d)).filterMap (exhaustDays d)).min? with | some n => min n 0xFFFE | none => 0xFFFF

/-- HEALTH_QUERY (R387). -/
def healthQueryFx (c : Cmd) (d : Device) : Device :=
  finish 0x52 c d.clk.rp (leN 1 (healthCode d.spare.health) ++ leN 1 (reasonCode d) ++ zeros 2 ++
    leN 4 (reachedNow d + 65536 * d.spare.predicted) ++ leN 1 (spareLeft d 3 0) ++ leN 1 (spareLeft d 4 0) ++
    leN 1 (spareLeft d 5 0) ++ leN 1 (spareLeft d 11 0) ++ leN 2 d.spare.ageing ++ leN 2 (leastDays d)) d

/-- HEALTH_QUERY. -/
def execHealthQuery (c : Cmd) (s : State) : Result := act (healthQueryFx c) s

/-- SPARE_APPLY (R374, R386). -/
def spareApplyFx (c : Cmd) (d : Device) : Device :=
  let p := opB c 0
  if p ≠ 8 ∧ p ≠ 9 then refuse 0x53 c 4 [] d
  else if (deferredOn d p).isEmpty then refuse 0x53 c 6 [] d
  else finish 0x53 c (boundaryRp d) [] (applyDeferred (p - 8) d)

/-- SPARE_APPLY. -/
def execSpareApply (c : Cmd) (s : State) : Result := act (spareApplyFx c) s

end Sys2Proof.Machine
end

