-- ==== Sys2Proof/Machine/Redundancy.lean ====
section
/-! DEFINITION. Machine/Redundancy.lean: the lockstep engines (R346 to R354), the output copies and PLLs (R357 to R361), the
supply feeds (R362 to R365, R511), and opcodes 0x50 and 0x51. -/

namespace Sys2Proof.Machine

/-- Redundancy changed. -/
def setRed (f : Redund → Redund) (d : Device) : Device := { d with red := f d.red }

/-- Engine `e`'s state. -/
def engineOf (d : Device) (e : Nat) : EngState := d.red.engines.getD e .failed

/-- An engine's state set. -/
def setEngine (e : Nat) (s : EngState) (d : Device) : Device := setRed (fun r => { r with engines := setAt r.engines e s }) d

/-- The engine in STANDBY, if any. -/
def standbyEngine (d : Device) : Option Nat := [0, 1, 2].find? (fun e => engineOf d e == .standby)

/-- ENGINE_FAILED (R372). -/
def engineFailedNotice (e unitKind : Nat) (d : Device) : Device :=
  raise 0x5004 (leN 1 e ++ leN 1 unitKind ++ zeros 2) d

/-- An engine made FAILED (R351, R353, R373), unjudged: the third engine's use is the kind's one spare. -/
def engineGone (e unitKind : Nat) (d : Device) : Device :=
  let d := engineFailedNotice e unitKind (setEngine e .failed d)
  if spareLeft d 1 0 = 0 then d else spareTaken 1 e d

/-- An engine made FAILED, and health judged. -/
def failEngine (e unitKind : Nat) (d : Device) : Device := judged d (engineGone e unitKind d)

/-- The display frame whose items are being computed: that of the graph, or the next. -/
def composedFrame (d : Device) : BitVec 32 := match d.pxl.graph with | some g => g.frame | none => d.clk.rp.frame + 1

/-- SIGNATURE_MISMATCH (R347, R348, R351): arbitration by the standby, or a repeat on each engine. A test injected into the
engine named is the mismatch it finds (R370); a parity failure in its graph queue is counted for that engine (R229, R230). -/
def mismatchFx (m : Mismatch) (d : Device) : Device :=
  if !d.isNode || !(d.red.engines.any (fun e => e == .active)) then d
  else
    let d := when m.parity (parityCount (10 + m.engine.val) 1) d
    let mine := d.red.testCmds.find? (fun t => t.1 == m.engine.val)
    let a : Arb := { item := m, at_ := d.clk.rp, frame := composedFrame d, repeats := (standbyEngine d).isNone, testing := false,
                     cmd := mine.map (fun t => t.2) }
    setRed (fun r => { r with arbs := r.arbs ++ [a],
                              testCmds := match mine with | some t => r.testCmds.filter (fun x => x != t) | none => r.testCmds }) d

/-- Whether an item feeds an output segment: PROOF, EXPO and SELFTEST items feed none (R237). -/
def feedsSegment (m : Mismatch) : Bool := decide (m.op.val ≤ 10)

/-- Whether an item is a line of a layer's source, `line` after any pre-decimation: those of FETCH, UNPACK, LIN and HSCALE are (R237,
R243). -/
def lineItem (m : Mismatch) : Bool := decide (m.op.val ≤ 3)

/-- The output segments of a graph that an item feeds (R350): its own, or, a line of a layer's source going once into the layer's line
buffer, every one of its column whose taps take the line (DEDUCED, log entry 148). -/
def itemSegs (g : Graph) (m : Mismatch) : List (Nat × Nat) :=
  let n := g.record
  if !(feedsSegment m) then []
  else if lineItem m then
    (List.range n.height).filterMap (fun y =>
      if g.layers.any (fun l => l.idx == m.layer.val && (match fetchBuf l.what with
        | some b => (match segSpan l.disp (geomOf n b.fmt l.disp) n y m.s with
          | some p => decide (p.j0 ≤ m.line) && decide (m.line ≤ p.j1)
          | none => false)
        | none => false)) then some (y, m.s) else none)
  else if m.y < n.height ∧ m.s < segsPerRow n then [(m.y, m.s)] else []

/-- The segments that an item waiting to be decided feeds in the graph in progress. -/
def arbSegs (a : Arb) (d : Device) : List (Nat × Nat) :=
  match d.pxl.graph with
  | some g => if g.frame = a.frame then itemSegs g a.item else []
  | none => []

/-- Every segment an item feeds voided in its display frame (R247, R350). -/
def voidItem (a : Arb) (d : Device) : Device :=
  let ys := arbSegs a d
  setPxl (fun p => { p with graph := p.graph.map (fun g =>
    { g with voids := g.voids ++ ys.filter (fun x => !(g.voids.contains x)) }) }) d

/-- ENGINE_UNRESOLVED with the number of segments voided (R350, R351). -/
def unresolvedNotice (a : Arb) (d : Device) : Device :=
  raise 0x5002 (leN 4 a.frame.toNat ++ leN 2 (min a.voided 65535) ++ zeros 2)
    (setRed (fun r => { r with unresolved := satAdd 65535 r.unresolved 1 }) d)

/-- A switchover (R349): engine `e` leaves the pair and engine `k` joins it. -/
def switchover (a : Arb) (e k : Nat) (d : Device) : Device :=
  let d := setEngine k .active (setEngine e .retired d)
  let d := setRed (fun r => { r with passes := setAt r.passes e 0, retireLog := modAt r.retireLog e (fun l => l ++ [d.spare.run]),
                                     switches := satAdd 65535 r.switches 1 }) d
  let d := raise 0x5001 (leN 1 e ++ leN 1 k ++ leN 1 a.item.op.val ++ zeros 1 ++ leN 4 a.frame.toNat ++ a.at_.bytes)
    (d.bump 0x5810 1)
  judgeHealth d

/-- The REDUNDANCY_TEST an arbitration served completes with the engine that left (R88, R370). -/
def testDone (a : Arb) (left : Option Nat) (d : Device) : Device :=
  match a.cmd with
  | some (p, c) =>
    (match left with
     | some e => finish 0x51 c p (leN 1 e) d
     | none => let (v, d) := freeNext d; finish 0x51 c p (leN 1 v) d)
  | none => d

/-- ARBITRATION_DECIDED (R348 to R352): the first item waiting. With a standby, `loser` is the engine outvoted, none where all
three differ; of repeats, some where they agree, none where they differ. -/
def arbFx (loser : Option (Fin 3)) (d : Device) : Device :=
  match d.red.arbs.find? (fun a => !a.testing) with
  | none => d
  | some a =>
    let d0 := setRed (fun r => { r with arbs := r.arbs.erase a }) d
    let a' := { a with voided := (arbSegs a d).length }
    if a.repeats then
      (match loser with
       | some _ => testDone a none d0
       | none =>
         let d := voidItem a d0
         if pairServes d then setRed (fun r => { r with arbs := r.arbs ++ [{ a' with testing := true }] }) d else testDone a none d)
    else
      (match loser with
       | some e =>
         (match engineOf d e.val, standbyEngine d with
          | .active, some k => testDone a (some e.val) (switchover a e.val k d0)
          | _, _ => testDone a (some e.val) d0)
       | none => testDone a none (unresolvedNotice a' (voidItem a d0)))

/-- UNIT_SELFTEST_DONE (R351): an active engine that fails becomes FAILED; where both pass, the mismatch stays unresolved. -/
def unitTestFx (pass : List Bool) (unitKind : Nat) (d : Device) : Device :=
  match d.red.arbs.find? (fun a => a.testing) with
  | none => d
  | some a =>
    let d := setRed (fun r => { r with arbs := r.arbs.erase a }) d
    let bad := [0, 1, 2].filter (fun e => engineOf d e == .active && !(pass.getD e true))
    let d := if bad.isEmpty then d else judged d (bad.foldl (fun d e => engineGone e unitKind d) d)
    testDone a bad.head? (if bad.isEmpty then unresolvedNotice a d else d)

/-- Whether an engine, a copy, has been retired three times within 30 days of RUN (R375). -/
def thriceRetired (d : Device) (log : List Nat) : Bool := decide (3 ≤ (recentLog d days30 log).length)

/-- A passing round of a RETIRED engine (R354, R375). -/
def passRound (e : Nat) (d : Device) : Device :=
  let n := nth d.red.passes e + 1
  if n < 1000 then setRed (fun r => { r with passes := setAt r.passes e n }) d
  else if thriceRetired d (d.red.retireLog.getD e []) then
    let (v, d) := freeNext d
    failEngine e v d
  else raise 0x5003 (leN 1 e ++ zeros 3) (setEngine e .standby (setRed (fun r => { r with passes := setAt r.passes e 0 }) d))

/-- SELFTEST_ROUND_DONE (R353, R354). -/
def roundFx (e : Nat) (how : RoundEnd) (d : Device) : Device :=
  match engineOf d e, how with
  | .standby, .fail k => failEngine e k d
  | .retired, .fail k => failEngine e k d
  | .standby, .late => d.bump 0x5814 1
  | .retired, .late => d.bump 0x5814 1
  | .retired, .pass => passRound e d
  | _, _ => d

/-- SELFTEST_ROUND_DONE. -/
def execSelftestRoundDone (e : Fin 3) (how : RoundEnd) (s : State) : Result := act (roundFx e.val how) s

/-- An output hold begun (R359): the LOAD's place is settled there, and the present sub-refresh is held (R360). -/
def holdBegin (cause : Nat) (d : Device) : Device :=
  let d := if d.red.hold.isSome then d else
    let d := settleLoad d
    setRed (fun r => { r with hold := some { cause := cause, onset := d.clk.rp }, holds := satAdd 65535 r.holds 1 }) d
  if d.out.running && d.out.scanning then heldNote 2 d else d

/-- Whether an output copy is in service. -/
def copyServes (d : Device) (c : Nat) : Bool :=
  match d.red.copies.getD c .failed with | .driving => true | .shadowing => true | _ => false

/-- An output copy retired (R359, R375), unjudged: the third time within 30 days of RUN it becomes FAILED. -/
def retireCopy (c : Nat) (d : Device) : Device :=
  let d := setRed (fun r => { r with copies := setAt r.copies c .retired, copyPass := setAt r.copyPass c 0,
                                     copyLog := modAt r.copyLog c (fun l => l ++ [d.spare.run]) }) d
  if thriceRetired d (d.red.copyLog.getD c []) then spareTaken 2 c (setRed (fun r => { r with copies := setAt r.copies c .failed }) d)
  else d

/-- OUTPUT_COPY_MISMATCH (R357, R359): the copies' self-checks decide; where both fail, output stops. -/
def copyMismatchFx (p0 p1 : Bool) (d : Device) : Device :=
  if !(copyServes d 0 && copyServes d 1) then d
  else
    let d := holdBegin 1 d
    if p0 && p1 then setRed (fun r => { r with copies := [.driving, .shadowing] }) d
    else if p0 then setRed (fun r => { r with copies := setAt r.copies 0 .driving }) (judged d (retireCopy 1 d))
    else if p1 then setRed (fun r => { r with copies := setAt r.copies 1 .driving }) (judged d (retireCopy 0 d))
    else
      let (v, d) := freeNext (judged d (retireCopy 1 (retireCopy 0 d)))
      let (w, d) := freeNext d
      engineFailedNotice 3 v (outStop w d)

/-- OUTPUT_COPY_MISMATCH. -/
def execOutputCopyMismatch (p0 p1 : Bool) (s : State) : Result := act (copyMismatchFx p0 p1) s

/-- A dark gap's self-check of the RETIRED copies (R361): passing ones are counted, consecutive ones alone; after 1,000 the copy shadows
again. No row brings a check's outcome, so it is a free value (DESIGN CHOICE, log entry 177). -/
def darkGapCheck (d : Device) : Device :=
  if !d.out.running then d
  else [0, 1].foldl (fun d c =>
    if d.red.copies.getD c .failed != .retired || !(copyServes d (1 - c)) then d
    else
      let (v, d) := freeNext d
      let n := if v % 2 = 1 then nth d.red.copyPass c + 1 else 0
      let d := setRed (fun r => { r with copyPass := setAt r.copyPass c (if 1000 ≤ n then 0 else n),
                                         copies := if 1000 ≤ n then setAt r.copies c .shadowing else r.copies }) d
      when (decide (1000 ≤ n)) (fun d => judgeHealth (setSpare (fun x => { x with out24 := x.out24.filter (· != c) }) d)) d) d

/-- PLL_FAULT_DETECTED (R358, R367, R373): the family's standby PLL takes over; RAST and OUT start an output hold. -/
def pllFaultFx (f : Nat) (d : Device) : Device :=
  if !(d.red.pllStandby.getD f false) then d
  else
    let use := !(d.red.pllUse.getD f false)
    let d := setRed (fun r => { r with pllUse := setAt r.pllUse f use, pllStandby := setAt r.pllStandby f false }) d
    let d := raise 0x500A (leN 1 f ++ leN 1 (bit use) ++ zeros 2) d
    spareUsed 9 f (if f = 2 then holdBegin 0 d else d)

/-- PLL_FAULT_DETECTED. -/
def execPllFaultDetected (f : Fin 7) (s : State) : Result := act (pllFaultFx f.val) s

/-- A lock test of a family's standby PLL (R361, R373), unjudged. -/
def pllTested (f : Nat) (pass : Bool) (d : Device) : Device :=
  let was := d.red.pllStandby.getD f false
  let d := setRed (fun r => { r with pllStandby := setAt r.pllStandby f pass }) d
  if was && !pass then spareTaken 9 f d else d

/-- PLL_RETEST (R361, R373): a passing PLL is the family's standby again; a standby that fails its lock test is not. -/
def pllRetestFx (f : Nat) (pass : Bool) (d : Device) : Device := judged d (pllTested f pass d)

/-- PLL_RETEST. -/
def execPllRetest (f : Fin 7) (pass : Bool) (s : State) : Result := act (pllRetestFx f.val pass) s

/-- What an output hold of `gap` sub did to the sequencers made good (R360): what ran goes on where it stood, a timed section whose start
fell in the gap runs from its beginning now. -/
def seqResume (onset : RP) (gap : Int) (d : Device) : Device :=
  let r := d.clk.raster
  let now := d.clk.rp
  setOut (fun o => { o with
    resumed := some now
    sections := o.sections.map (fun s => { s with start := if onset.before s.start then now else RP.plus r s.start gap })
    load := o.load.map (fun l => { l with pos := l.pos.map (fun p =>
      { p with since := if onset.before p.since then now else RP.plus r p.since gap }) }) }) d

/-- OUTPUT_HOLD_RESUME (R359, R360). -/
def holdResumeFx (gapNs : Nat) (d : Device) : Device :=
  match d.red.hold with
  | some h =>
    let d := settleLoad d
    raise 0x5005 (leN 1 h.cause ++ zeros 3 ++ leN 4 gapNs ++ h.onset.bytes)
      (seqResume h.onset (RP.dist d.clk.raster d.clk.rp h.onset) (setRed (fun r => { r with hold := none }) d))
  | none => d

/-- OUTPUT_HOLD_RESUME. -/
def execOutputHoldResume (gapNs : Nat) (s : State) : Result := act (holdResumeFx gapNs) s

/-- Feed `f`, 0 VIN_A or 1 VIN_B. -/
def feedOf (d : Device) (f : Nat) : Feed := d.red.feeds.getD f {}

/-- A feed changed. -/
def setFeed (f : Nat) (g : Feed → Feed) (d : Device) : Device := setRed (fun r => { r with feeds := modAt r.feeds f g }) d

/-- The share of VIN_A with the feeds now present (R362, R363). -/
def shareNow (d : Device) : Nat :=
  if !(feedOf d 0).present then 0 else if !(feedOf d 1).present then 1000 else nearest 100 900 (d.field 0x0C10 9 0)

/-- The share controller follows the feeds present; while they differ too far the switches decide (R362). -/
def settleShare (d : Device) : Device :=
  if d.red.shareFar && (feedOf d 0).present && (feedOf d 1).present then d else setRed (fun r => { r with share := shareNow d }) d

/-- Probes asked for that a probe's skip leaves undone (R370). -/
def skipProbes (d : Device) : Device :=
  d.red.probeCmds.foldl (fun d c => refuse 0x51 c.2 6 [] d) (setRed (fun r => { r with probeCmds := [] }) d)

/-- FEED_LOST (R363, R412, R511): the switch of the last feed never opens. -/
def feedLostFx (f : Nat) (reverse : Bool) (mv : Nat) (d : Device) : Device :=
  if !(feedOf d f).present then d
  else
    let last := !(feedOf d (1 - f)).present
    let d := skipProbes (settleShare (setFeed f (fun x => { x with present := last, mv := mv }) d))
    report 0x0B none 0x5006 (leN 1 f ++ leN 1 (bit reverse) ++ leN 2 mv) d

/-- FEED_LOST. -/
def execFeedLost (f : Fin 2) (reverse : Bool) (mv : Nat) (s : State) : Result := act (feedLostFx f.val reverse mv) s

/-- FEED_RESTORED (R364). -/
def feedRestoredFx (f mv : Nat) (d : Device) : Device :=
  if (feedOf d f).present then d
  else raise 0x5007 (leN 1 f ++ zeros 3) (settleShare (setFeed f (fun x => { x with present := true, mv := mv }) d))

/-- FEED_RESTORED. -/
def execFeedRestored (f : Fin 2) (mv : Nat) (s : State) : Result := act (feedRestoredFx f.val mv) s

/-- FEED_PATH_FAULT (R365, R375): the third within a day of RUN declares the path faulty. -/
def pathFault (f share : Nat) (d : Device) : Device :=
  let d := raise 0x5008 (leN 1 f ++ zeros 1 ++ leN 2 share) d
  let d := setFeed f (fun x => { x with fault := true, faults := x.faults ++ [d.spare.run] }) d
  let n := (recentLog d day (feedOf d f).faults).length
  if 3 ≤ n then judgeHealth (setFeed f (fun x => { x with faulty := true }) d) else d

/-- Whether a probe is skipped (R365). -/
def probeSkipped (d : Device) (lowCurrent : Bool) : Bool :=
  lowCurrent || d.pwr.state == .hibernate || !(feedOf d 0).present || !(feedOf d 1).present

/-- FEED_PROBE (R365, R370): a path passes when its share reaches 850. -/
def feedProbeFx (a b : Nat) (lowCurrent : Bool) (d : Device) : Device :=
  if probeSkipped d lowCurrent then skipProbes d
  else
    let okA := decide (850 ≤ a); let okB := decide (850 ≤ b)
    let d := if okA then setFeed 0 (fun x => { x with fault := false }) d else pathFault 0 a d
    let d := if okB then setFeed 1 (fun x => { x with fault := false }) d else pathFault 1 b d
    d.red.probeCmds.foldl (fun d c => finish 0x51 c.2 c.1 (leN 1 (bit okA + 2 * bit okB)) d)
      (setRed (fun r => { r with probeCmds := [] }) d)

/-- FEED_PROBE. -/
def execFeedProbe (a b : Nat) (lowCurrent : Bool) (s : State) : Result := act (feedProbeFx a b lowCurrent) s

/-- FEED_SHARE_LIMIT (R362): once on each entry into a difference above 300 mV, either way; `diffMv` is VIN_A less VIN_B. While it lasts the
lower feed carries what the switches allow it. -/
def shareLimitFx (share : Nat) (diffMv : Int) (d : Device) : Device :=
  let far := decide (300 < diffMv.natAbs)
  let enter := far && !d.red.shareFar
  let d := setRed (fun r => { r with shareFar := far }) d
  let d := if far then setRed (fun r => { r with share := if diffMv < 0 then share else 1000 - share }) d else settleShare d
  when enter (raise 0x5009 (leN 2 share ++ leN 2 diffMv.natAbs)) d

/-- FEED_SHARE_LIMIT. -/
def execFeedShareLimit (share : Nat) (diffMv : Int) (s : State) : Result := act (shareLimitFx share diffMv) s

/-- FEED_PATH_LOW_SHARE (R365): while its feed is present. -/
def execFeedPathLowShare (f : Fin 2) (share : Nat) (s : State) : Result :=
  act (fun d => if (feedOf d f.val).present && decide (share < 100) then pathFault f.val share d else d) s

/-- An engine state's code (R371). -/
def engCode (e : EngState) : Nat := match e with | .active => 0 | .standby => 1 | .retired => 2 | .failed => 3

/-- A copy state's code (R371). -/
def copyCode (c : CopyState) : Nat := match c with | .driving => 0 | .shadowing => 1 | .retired => 2 | .failed => 3

/-- The engines' byte of R371 and HLT_ENGINE_STATUS. -/
def engByte (d : Device) : Nat := engCode (engineOf d 0) + 4 * engCode (engineOf d 1) + 16 * engCode (engineOf d 2)

/-- The copies' bits. -/
def copyBits (d : Device) : Nat := copyCode (d.red.copies.getD 0 .failed) + 4 * copyCode (d.red.copies.getD 1 .failed)

/-- REDUNDANCY_QUERY (R371). -/
def redundancyQueryFx (c : Cmd) (d : Device) : Device :=
  let a := feedOf d 0; let b := feedOf d 1
  finish 0x50 c d.clk.rp (leN 1 (engByte d) ++ leN 1 (copyBits d + 16 * bit (d.red.pllUse.getD 2 false)) ++ leN 2 d.red.switches ++
    leN 2 d.red.share ++ leN 1 (bit a.present + 2 * bit b.present + 4 * bit a.fault + 8 * bit b.fault) ++ zeros 1 ++
    leN 2 a.mv ++ leN 2 b.mv ++ leN 2 d.red.holds ++ leN 2 d.red.unresolved) d

/-- REDUNDANCY_QUERY. -/
def execRedundancyQuery (c : Cmd) (s : State) : Result := act (redundancyQueryFx c) s

/-- REDUNDANCY_TEST (R370): a wrong signature for an engine's next item, or a probe that starts at the boundary. -/
def redundancyTestFx (c : Cmd) (d : Device) : Device :=
  let t := opB c 0; let e := opB c 1
  if 1 < t then refuse 0x51 c 4 [] d
  else if t = 0 then
    if !d.isNode then refuse 0x51 c 5 [] d
    else if 2 < e then refuse 0x51 c 4 [] d
    else if engineOf d e != .active || (standbyEngine d).isNone then refuse 0x51 c 6 [] d
    else setRed (fun r => { r with testCmds := r.testCmds ++ [(e, boundaryRp d, c)] }) d
  else if probeSkipped d false then refuse 0x51 c 6 [] d
  else setRed (fun r => { r with probeCmds := r.probeCmds ++ [(boundaryRp d, c)] }) d

/-- REDUNDANCY_TEST. -/
def execRedundancyTest (c : Cmd) (s : State) : Result := act (redundancyTestFx c) s

end Sys2Proof.Machine
end

