-- ==== Sys2Proof/Machine/Compose.lean ====
section
/-! DEFINITION. Machine/Compose.lean: the graph of a display frame, built at the cut-off (R235, R283 to R285, R278, R579),
composed (R240, R247, R254, R286, R287, R295, R251), ended at the deadline (R248), and the passing on of buffers (R211). -/

namespace Sys2Proof.Machine

/-- Whether a node takes content now: in RUN and QUIET, once its raster holds (R514, R46). -/
def takesContent (d : Device) : Bool := !(forwardOnly d) && d.isNode && d.tim.firstLock && (d.pwr.state == .run || d.pwr.state == .quiet)

/-- Whether a node builds graphs (R235, R236, R346, R514). -/
def buildsGraph (d : Device) (n : NodeRecord) : Bool :=
  takesContent d && d.pwr.state == .run && decide (0 < n.width) && d.red.engines.any (fun e => e == .active)

/-- Whether a layer's window has a pixel inside the node's window. -/
def layerSeen (n : NodeRecord) (s : Disp) : Bool := (layerCols n s).isSome && (layerRows n s).isSome

/-- Whether a buffer's content is complete (R268). -/
def bufComplete (b : Buffer) : Bool :=
  b.fillN == b.fmt.srcW * b.fmt.srcH && (b.fmt.keyBits == 0 || b.keyN == b.fmt.srcW * b.fmt.srcH)

/-- The buffer of a layer for a content frame. -/
def contentBuf (d : Device) (l : Nat) (c : BitVec 32) : Option Buffer :=
  d.pxl.buffers.find? (fun b => b.layer == l && b.content == c && !b.hold)

/-- The source format in force for a layer's content frame (R213, R284). -/
def contentFmt (d : Device) (l : Nat) (c : BitVec 32) : SrcFmt :=
  match contentBuf d l c with
  | some b => b.fmt
  | none => match d.pxl.shorts.find? (fun s => s.1 == c && s.2.1 == l) with
    | some (_, _, f) => f
    | none => (layerOf d l).fmt

/-- A layer's hold buffer, where it holds content under the format in force (R284). -/
def holdBuf (d : Device) (l : Nat) (c : BitVec 32) : Option Buffer :=
  d.pxl.buffers.find? (fun b => b.layer == l && b.hold && b.fmt == contentFmt d l c)

/-- How layer `i` enters the graph that composes content frame `c` (R238, R283). -/
def layerIn (d : Device) (n : NodeRecord) (c : BitVec 32) (i : Nat) (l : Layer) : LayerIn :=
  if !l.present then .absent
  else if l.disp.solid then .solid
  else if !(layerSeen n l.disp) then .absent
  else
    let late : LayerIn := match latePolicy l.disp, holdBuf d i c with
      | 0, some b => .hold b
      | 2, _ => .subst
      | _, _ => .clear
    match contentBuf d i c with
    | some b => if bufComplete b then .source b else late
    | none => late

/-- Whether a layer enters under its late policy. -/
def isLate (w : LayerIn) : Bool := match w with | .hold _ => true | .clear => true | .subst => true | _ => false

/-- Whether a layer enters with its content. -/
def isSource (w : LayerIn) : Bool := match w with | .source _ => true | _ => false

/-- The graph of display frame `f` (R235). -/
def graphOf (d : Device) (n : NodeRecord) (f : BitVec 32) : Graph :=
  let c := f - BitVec.ofNat 32 (presentP d)
  { frame := f, record := n, voids := [], corr := d.corr,
    layers := (d.pxl.layers.zipIdx).filterMap (fun (l, i) =>
      let w := layerIn d n c i l
      if w = .absent then none
      else some { idx := i, what := w, spare := holdBuf d i c, disp := l.disp, luts := l.luts, taps := l.taps }) }

/-- LINEBUF_SHORT (R278): a layer's Dh for the frame now built of content frame `c`, reported at every change. -/
def lineBuf (n : NodeRecord) (c : BitVec 32) (d : Device) : Device :=
  (d.pxl.layers.zipIdx).foldl (fun d (l, i) =>
    if !l.source || !(layerSeen n l.disp) then d
    else
      let g := geomOf n (contentFmt d i c) l.disp
      let d := when (g.dh != l.dh) (raise 0x3002 (leN 1 i ++ leN 1 g.dh ++ zeros 2 ++ leN 4 g.span1)) d
      setPxl (fun p => { p with layers := modAt p.layers i (fun x => { x with dh := g.dh, short := decide (1 < g.dh) }) }) d) d

/-- The late layers of a graph counted and reported (R285). -/
def lateNote (g : Graph) (d : Device) : Device :=
  let late := (g.layers.filter (fun l => isLate l.what)).map (fun l => l.idx)
  let done := (g.layers.filter (fun l => isSource l.what)).map (fun l => l.idx)
  let d := setPxl (fun p => { p with layers := p.layers.zipIdx.map (fun (l, i) =>
    { l with late := if late.contains i then true else if done.contains i then false else l.late }) }) d
  let d := late.foldl (fun d i => d.bump (0x3820 + 4 * i) 1) d
  when (!late.isEmpty) (report 8 (prefHead d) 0x3001
    (leN 4 g.frame.toNat ++ leN 1 (late.foldl (fun w i => w + 2 ^ i) 0) ++ zeros 3)) d

/-- The buffers of layers that are not source layers freed, and all where the node's record has width 0 (R209, R579); runs of theirs suit no
layer from now on (R267). -/
def freeUnsourced (n : NodeRecord) (d : Device) : Device :=
  let keeps := fun (p : Pixel) (l : Nat) => decide (0 < n.width) && (p.layers.getD l {}).source
  setPxl (fun p => { p with buffers := p.buffers.filter (fun b => keeps p b.layer), shorts := p.shorts.filter (fun x => keeps p x.2.1) }) d

/-- The layers a record makes present, and the graph built at RP[f−1:C:0] (R235, R259, R285). The DISPLAY commands of `f` have
been committed before it. -/
def buildGraph (f : BitVec 32) (d : Device) : Device :=
  let n := recordAt d f
  let d := freeUnsourced n d
  if !(buildsGraph d n) then d
  else
    let d := lineBuf n (f - BitVec.ofNat 32 (presentP d)) d
    let g := graphOf d n f
    lateNote g (setPxl (fun p => { p with graph := some g }) d)

/-- The segments of a window: rows and 64-pixel segments (R236). -/
def segments (n : NodeRecord) : List (Nat × Nat) :=
  (List.range n.height).flatMap (fun y => (List.range (ceilDiv n.width 64)).map (fun s => (y, s)))

/-- Segments of a display frame. -/
def segCount (n : NodeRecord) : Nat := n.height * segsPerRow n

/-- The codes of a window pixel under a graph (R235). -/
def graphCodes (g : Graph) (x y : Nat) : List Nat := pixelCodes g.corr g.record g.frame x y (composedPixel g.record g.layers x y)

/-- The window columns of a segment. -/
def segCols (n : NodeRecord) (s : Nat) : List Nat := (List.range 64).filterMap (fun i => if 64 * s + i < n.width then some (64 * s + i) else none)

/-- A segment written by EMIT into the output buffer (R242, R324). -/
def emitSeg (g : Graph) (b : NatMap Nat) (ys : Nat × Nat) : NatMap Nat :=
  let n := g.record
  (segCols n ys.2).foldl (fun b x =>
    (graphCodes g x ys.1).zipIdx.foldl (fun b (q, c) => mset b ((ys.1 * n.width + x) * n.primaries + c) 0 q) b) b

/-- A row of PROOF boxes (R286): a box that a void touches keeps its value of the display frame before (R247). -/
def proofRow (g : Graph) (m : NatMap Nat) (by_ : Nat) : NatMap Nat :=
  let n := g.record
  (List.range (n.width / 4)).foldl (fun m bx =>
    if (List.range 4).any (fun j => g.gone.contains (4 * by_ + j, bx / 16)) then m
    else
      let cells := (List.range 16).map (fun i => composedPixel n g.layers (4 * bx + i % 4) (4 * by_ + i / 4))
      (List.range n.primaries).foldl (fun m c =>
        mset m ((by_ * (n.width / 4) + bx) * n.primaries + c) 0 (proofValue ((cells.map (fun v => nth v c)).foldl (· + ·) 0))) m) m

/-- The PROOF rows that become complete as the rows up to `new` are released, those up to `old` having been (R240). -/
def proofRows (g : Graph) (old new : Nat) (m : NatMap Nat) : NatMap Nat :=
  ((List.range (new / 4)).drop (old / 4)).foldl (proofRow g) m

/-- Segments released in the order of R240 up to the `n`th: voided ones keep the output buffer's codes and are counted (R247), a row
of PROOF boxes is complete with its fourth row. -/
def releaseTo (n : Nat) (d : Device) : Device :=
  match d.pxl.graph with
  | none => d
  | some g =>
    let n := min n (segCount g.record)
    if n ≤ g.released then d
    else
      let segs := ((segments g.record).take n).drop g.released
      let void := fun (ys : Nat × Nat) => g.voids.contains ys || segVoidedByCal d.corr g.record g.frame ys.1 ys.2
      let gone := segs.filter void
      let row := segsPerRow g.record
      let g1 := { g with released := n, gone := g.gone ++ gone }
      let buf := (segs.filter (fun ys => !(void ys))).foldl (emitSeg g) d.pxl.outBuf
      let proof := proofRows g1 (g.released / row) (n / row) d.pxl.proof
      when (!gone.isEmpty) (fun d => d.bump 0x380C gone.length)
        (setPxl (fun p => { p with graph := some g1, outBuf := buf, proof := proof }) d)

/-- The first segment of a graph whose signatures await a decision; the number of segments where none does (R241). -/
def heldAt (d : Device) (g : Graph) : Nat :=
  (d.red.arbs.filter (fun a => a.frame == g.frame && !a.testing)).foldl
    (fun k a => (itemSegs g a.item).foldl (fun k x => min k (segIndex g.record x.1 x.2)) k) (segCount g.record)

/-- Bits per pixel between FETCH and UNPACK, for a layer's format (R239). -/
def fetchBits (f : SrcFmt) : Nat := comps f.layout * f.fillBits + f.keyBits

/-- Bits per pixel in the graph queues behind it, with `p` primaries (R239): 1 UNPACK to LIN, 2 LIN to BLEND, 3 BLEND to DITHER, 4
DITHER to EMIT. -/
def queueBits (q p : Nat) : Nat :=
  if q = 1 then 16 * p + 16 else if q = 2 then 20 * p + 16 else if q = 3 then 20 * p else 16 * p

/-- Words of a packet at most (R220, R239). -/
def packetMax : Nat := 15

/-- A segment of pixels, each of `bits` bits, as it travels in a graph queue (R239): a packet of at most 15 words, what is left over in
a companion packet behind it. -/
def segPacket (bits : Nat) (px : List Nat) : List FtqWord :=
  let size := px.length * bits
  let n := ceilDiv size 256
  let bytes := beN (32 * n) (px.foldl (fun a x => a * 2 ^ bits + x % 2 ^ bits) 0 * 2 ^ (256 * n - size))
  (List.range n).map (fun i => ftqWord (cut bytes (32 * i) 32) (i == 0 || i == packetMax) (i + 1 == n || i + 1 == packetMax) false)

/-- A finished segment on its way from PACK to EMIT; columns beyond the window are zero (R236). -/
def packedSeg (g : Graph) (ys : Nat × Nat) : List FtqWord :=
  let p := g.record.primaries
  segPacket (queueBits 4 p)
    ((List.range 64).map (fun i =>
      let x := 64 * ys.2 + i
      if x < g.record.width then (graphCodes g x ys.1).foldl (fun a q => a * 65536 + q) 0 else 0))

/-- Packets that fit the stages of a chain (R220). -/
def fillChain : Nat → List (List FtqWord) → List FtqWord
  | _, [] => []
  | room, w :: ws => if w.length ≤ room then w ++ fillChain (room - w.length) ws else []

/-- The queue that holds the input of an operation (R237, R239): 0 FETCH to UNPACK, 1 UNPACK to LIN, 2 LIN to BLEND, 3 BLEND to DITHER, 4
DITHER to EMIT; FETCH reads the store. -/
def inputQueue (op : Nat) : Option Nat :=
  if op = 0 ∨ 10 < op then none else if op = 1 then some 0 else if op = 2 then some 1 else if op ≤ 5 then some 2
  else if op ≤ 8 then some 3 else some 4

/-- Components as one number, `w` bits each, the first uppermost. -/
def packWord (w : Nat) (xs : List Nat) : Nat := xs.foldl (fun a x => a * 2 ^ w + x % 2 ^ w) 0

/-- A source pixel as it stands in a queue before UNPACK, LIN or HSCALE (R239). -/
def sourceWord (b : Buffer) (l : GraphLayer) (p op m : Nat) : Nat :=
  let f := b.fmt
  let k := comps f.layout
  if op = 1 then
    packWord f.fillBits ((List.range k).map (fun j => regionBits b.fill (k * f.fillBits) m (j * f.fillBits) f.fillBits)) * 2 ^ f.keyBits +
      regionBits b.key (max 1 f.keyBits) m 0 f.keyBits
  else if op = 2 then packWord 16 (unpackFill b l.disp.style m ++ [unpackAlpha b m])
  else
    let x := linPixel b l.disp.style l.luts p m
    packWord 20 (x.take p) * 65536 + nth x p

/-- The packet an item of a line waits on (R239): 64 pixels of the layer's line. -/
def linePacket (g : Graph) (m : Mismatch) : List FtqWord :=
  match g.layers.find? (fun l => l.idx == m.layer.val) with
  | some l => (match fetchBuf l.what with
    | some b =>
      let p := g.record.primaries
      let row := m.line * (geomOf g.record b.fmt l.disp).dv
      let bits := if m.op = 1 then fetchBits b.fmt else queueBits (m.op.val - 1) p
      segPacket bits ((List.range 64).map (fun i =>
        let x := 64 * m.s + i
        if x < b.fmt.srcW then sourceWord b l p m.op.val (row * b.fmt.srcW + x) else 0))
    | none => [])
  | none => []

/-- The packet an item of an output segment waits on (R239). -/
def outPacket (g : Graph) (m : Mismatch) : List FtqWord :=
  let n := g.record
  let p := n.primaries
  let px := fun (v : Nat → Nat) => (List.range 64).map (fun i => let x := 64 * m.s + i; if x < n.width then v x else 0)
  if m.op.val ≤ 5 then
    segPacket (queueBits 2 p) (px (fun x => match g.layers.find? (fun l => l.idx == m.layer.val) with
      | some l => (match layerPixel n l x m.y with | some q => packWord 20 (q.take p) * 65536 + nth q p | none => 0)
      | none => 0))
  else if m.op.val ≤ 8 then segPacket (queueBits 3 p) (px (fun x => packWord 20 (stageOf g.corr n g.frame x m.y (m.op.val - 6) (composedPixel n g.layers x m.y))))
  else packedSeg g (m.y, m.s)

/-- The packets that items waiting to be decided keep in a queue of each engine (R239, R348): which queue words a scheduler keeps is not
observable, so those are held of which a rule says so (DEDUCED, log entry 148). -/
def itemPackets (g : Graph) (q : Nat) (d : Device) : List (List FtqWord) :=
  (d.red.arbs.filter (fun a => a.frame == g.frame && !a.testing && inputQueue a.item.op.val == some q)).map (fun a =>
    if lineItem a.item then linePacket g a.item else outPacket g a.item)

/-- The graph queues that hold words, of each active engine (R239 to R241): those of items that wait, and before EMIT the segments that have
finished PACK behind segment `k`, held back; a producer is held once the chain is full. -/
def heldQueues (g : Graph) (k : Nat) (d : Device) : NatMap (List FtqWord) :=
  (List.range 15).filterMap (fun i =>
    if engineOf d (i / 5) = .active then
      let q := i % 5
      let behind := if q = 4 ∧ g.computed then (((segments g.record).drop (k + 1)).take 4).map (packedSeg g) else []
      let ws := fillChain chainStages (itemPackets g q d ++ behind)
      if ws.isEmpty then none else some (i, ws)
    else none)

/-- The graph queues as the items that wait leave them. -/
def queuesHeld (d : Device) : Device :=
  match d.pxl.graph with
  | some g => setPxl (fun p => { p with graphQ := heldQueues g (heldAt d g) d }) d
  | none => d

/-- SIGNATURE_MISMATCH. -/
def execSignatureMismatch (m : Mismatch) (s : State) : Result := act (fun d => queuesHeld (mismatchFx m d)) s

/-- A PROOF payload (R129): boxes `first` to `first + count − 1`, under the map generation of its display frame (R121). -/
def proofPayload (d : Device) (g : Graph) (m : NatMap Nat) (first count : Nat) : List Byte :=
  let n := g.record
  let bw := n.width / 4; let bh := n.height / 4; let p := n.primaries
  beN 1 p ++ beN 1 (bit (first == 0) + 2 * bit (first + count == bw * bh)) ++ beN 2 bw ++ beN 2 bh ++ beN 4 first ++
  beN 2 count ++ beN 2 (count * p) ++ beN 4 (recordFor d g.frame).2.toNat ++ zeros 8 ++
  (List.range (count * p)).map (fun i => BitVec.ofNat 8 (mget m (first * p + i) 0))

/-- The PROOF frames of a display frame handed over (R287): to the link, or to the device's own head function. -/
def sendProof (g : Graph) (d : Device) : Device :=
  let n := g.record
  let boxes := n.width / 4 * (n.height / 4)
  if boxes = 0 then d
  else
    let per := 8192 / n.primaries
    (List.range (ceilDiv boxes per)).foldl (fun d i =>
      let b := proofPayload d g d.pxl.proof (i * per) (min per (boxes - i * per))
      if d.isHead then { d with proofIn := d.proofIn ++ [(d.topo.nodeId.getD 0, g.frame, b)] }
      else nodeSend 6 b (RP.start g.frame) (some g.frame) d) d

/-- A copy's exposure added (R295). -/
def expose (n : NodeRecord) (e : BitVec 32 × NatMap Nat) (d : Device) : Device :=
  setCorr (addExposure n d.clk.raster e.1 e.2) d

/-- EXPO of display frame `f`, which is lit from its boundary on, of the codes the output buffer holds (R251, R295): at once while the pair
serves. Otherwise how many of the copies kept are accumulated is open, and free; one that finds 4 still kept is not kept, and the codes of
the frame before it are accumulated in its place. -/
def expoFrame (f : BitVec 32) (d : Device) : Device :=
  let n := recordNow d
  let q := d.pxl.expoQueue
  let all := q ++ [(f, d.pxl.outBuf)]
  let (v, d) := if pairServes d then (all.length, d) else freeNext d
  let k := v % (all.length + 1)
  if 4 ≤ q.length ∧ k = 0 then
    let prior := match q.getLast? with | some e => e.2 | none => d.pxl.outBuf
    raise 0x30E1 (leN 2 1 ++ zeros 2 ++ leN 4 f.toNat) (expose n (f, prior) d)
  else setPxl (fun p => { p with expoQueue := all.drop k }) ((all.take k).foldl (fun d e => expose n e d) d)

/-- The exposure of the display frame whose boundary is reached (R295): none where it is not lit, as output does not run or no graph of it
was built. -/
def expoBoundary (f : BitVec 32) (d : Device) : Device := when (d.isNode && d.out.running && d.pxl.last == some f) (expoFrame f) d

/-- STORE_POISON (R231). -/
def poisonNote (g : Graph) (d : Device) : Device :=
  match poisonedSegments g.record g.layers with
  | (k, some l) => raise 0x30F1 (leN 1 l ++ zeros 1 ++ leN 2 (min k 65535) ++ leN 4 (g.frame - BitVec.ofNat 32 (presentP d)).toNat) d
  | (_, none) => d

/-- The composition share (R254). -/
def shareOf (d : Device) (f : BitVec 32) : Nat :=
  let r := d.clk.raster
  let a : RP := { frame := f - 1, line := cutLine d, sub := 0 }
  let b : RP := { frame := f - 1, line := r.lines - 1, sub := 0 }
  let whole := RP.dist r b a
  if whole ≤ 0 then 0 else ((1000 * RP.dist r d.clk.rp a + whole - 1) / whole).toNat

/-- The share of a display frame kept, and the load sampled (R254). -/
def shareNote (share : Nat) (d : Device) : Device :=
  sampleLoad share (setPxl (fun p => { p with shareLast := share, sharePeak := max p.sharePeak share }) d)

/-- Step 4 of R211 for a layer of content frame `c`: complete content becomes the hold buffer; otherwise it is freed, and the
hold buffer stays unless its stored size is another (R212). -/
def passBuffer (g : Graph) (c : BitVec 32) (bs : List Buffer) (l : Nat) : List Buffer :=
  match bs.find? (fun b => b.layer == l && b.content == c && !b.hold) with
  | none => bs
  | some b =>
    let complete := g.layers.any (fun x => x.idx == l && isSource x.what)
    let rest := bs.filter (fun x => !(x.layer == l && x.content == c && !x.hold))
    if complete then rest.filter (fun x => !(x.layer == l && x.hold)) ++ [{ b with hold := true }]
    else rest.filter (fun x => !(x.layer == l && x.hold && x.fmt.storedBits != b.fmt.storedBits))

/-- The words in error that stay so once layer `l`'s buffers have passed on (R217): complete content is the hold buffer now, with its
errors; content that is freed takes its errors with it. -/
def passUpsets (g : Graph) (bs : List Buffer) (us : List StoreError) : List StoreError :=
  us.filterMap (fun e =>
    let complete := g.layers.any (fun x => x.idx == e.layer.val && isSource x.what)
    if complete then (if e.hold then none else some { e with hold := true })
    else if e.hold && bs.any (fun b => b.layer == e.layer.val && b.hold) then some e else none)

/-- Step 4 of R211 for every layer; the storage of content frames up to `c` is free (R92), those a forward step has skipped included. -/
def passBuffers (g : Graph) (c : BitVec 32) (d : Device) : Device :=
  contentFreed c (setPxl (fun p =>
    let bs := ((List.range 8).foldl (passBuffer g c) p.buffers).filter (fun b => b.hold || decide (0 < frameDiff b.content c))
    { p with buffers := bs, upsets := passUpsets g bs p.upsets }) d)

/-- A display frame whose last segment has been released or voided (R240, R254): its load, PROOF and buffers. `cut`: the
deadline came first (R248). -/
def finishGraph (g : Graph) (cut : Bool) (d : Device) : Device :=
  let d := setPxl (fun p => { p with graph := none, last := some g.frame, voids := g.gone, graphQ := [] }) d
  let d := loadReleased g.frame (!cut) g.record d
  let d := poisonNote g d
  let d := when cut (report 9 none 0x30E0 (leN 4 g.frame.toNat ++ leN 2 (min g.gone.length 65535) ++ zeros 2)) d
  let d := shareNote (if cut then 1000 else min 1000 (shareOf d g.frame)) d
  let d := sendProof g d
  passBuffers g (g.frame - BitVec.ofNat 32 (presentP d)) d

/-- The present graph, finished where all of it has been released. -/
def finishIf (cut : Bool) (d : Device) : Device :=
  match d.pxl.graph with
  | some g => if segCount g.record ≤ g.released then finishGraph g cut d else d
  | none => d

/-- A graph that has been computed released as far as no undecided segment holds it back (R240, R241). -/
def composeOn (d : Device) : Device :=
  match d.pxl.graph with
  | some g =>
    if !g.computed then queuesHeld d
    else
      let k := heldAt d g
      finishIf false (queuesHeld (releaseTo k d))
  | none => d

/-- A word that FETCH read as poisoned, in the buffers a graph reads (R217, R230). -/
def poisonGraph (e : StoreError) (g : Graph) : Graph :=
  let hurt := fun (b : Buffer) => { b with poison := b.poison ++ [e.word] }
  { g with layers := g.layers.map (fun l =>
      if l.idx ≠ e.layer.val then l
      else if e.hold then
        { l with what := (match l.what with | .hold b => .hold (hurt b) | w => w), spare := l.spare.map hurt }
      else { l with what := (match l.what with | .source b => .source (hurt b) | w => w) }) }

/-- Whether the FETCH of output segment `x` of a graph reads a word in error (R217): one of a layer's content, or of the hold buffer that
stands for it, or is read to replace a poisoned segment (R230). -/
def fetchReads (g : Graph) (e : StoreError) (x : Nat × Nat) : Bool :=
  let n := g.record
  let reads := fun (l : GraphLayer) (b : Buffer) => segReads b l.disp (geomOf n b.fmt l.disp) n e.word x.1 x.2
  g.layers.any (fun l => l.idx == e.layer.val && (match l.what with
    | .hold b => e.hold && reads l b
    | .source b =>
      if !e.hold then reads l b
      else latePolicy l.disp == 0 && segPoisoned b l.disp (geomOf n b.fmt l.disp) n x.1 x.2 &&
        (match l.spare with | some h => reads l h | none => false)
    | _ => false))

/-- The errors of one kind of buffer that segments `xs` read: counted, and poisoned where they are beyond correction (R217, R230). -/
def fetchPass (hold : Bool) (xs : List (Nat × Nat)) (d : Device) : Device :=
  match d.pxl.graph with
  | none => d
  | some g =>
    let errs := d.pxl.upsets.filter (fun e => e.hold == hold && xs.any (fetchReads g e))
    setPxl (fun p => { p with graph := p.graph.map (fun g => (errs.filter (fun e => e.uncorrected)).foldl (fun g e => poisonGraph e g) g) })
      (errs.foldl (fun d e => fsError e d) d)

/-- What the FETCH of a graph's first `k` segments read with errors (R217): of content first, then of the hold buffers read in place of
what that poisoned. A word that is never read is never reported; one in error stays so until it is rewritten. -/
def fetchErrors (k : Nat) (d : Device) : Device :=
  match d.pxl.graph with
  | none => d
  | some g =>
    let xs := (segments g.record).take k
    fetchPass true xs (fetchPass false xs d)

/-- Composition cut short (R245, R246, R248): what has been released stays, every other segment is a void. How many segments of a frame still
being computed have been fetched, and how many of those released, by then are free values, the second bounded by what is held back
(DESIGN CHOICE, log entry 125). -/
def cutGraph (d : Device) : Device :=
  match d.pxl.graph with
  | some g =>
    let total := segCount g.record
    let (v, d) := if g.computed then (0, d) else freeNext d
    let (w, d) := if g.computed then (0, d) else freeNext d
    let k := v % min (heldAt d g + 1) total
    let d := if g.computed then d else fetchErrors (k + w % (total - k + 1)) d
    let d := releaseTo k d
    finishIf true (releaseTo total (setPxl (fun p => { p with graph := p.graph.map (fun g =>
      { g with voids := g.voids ++ (segments g.record).drop g.released }) }) d))
  | none => d

/-- A graph whose deadline the RP has passed, by a forward step or otherwise, ends there and then (R245). -/
def staleGraph (d : Device) : Device :=
  match d.pxl.graph with
  | some g =>
    when (d.clk.rp.passed { frame := g.frame - 1, line := d.clk.raster.lines - 1, sub := 0 }) cutGraph d
  | none => d

/-- COMPOSITION_DONE (R211, R240, R241, R254): every segment has finished, in time; they are released in order, up to one whose
signatures await a decision. -/
def composeDoneFx (d : Device) : Device :=
  let d := staleGraph d
  match d.pxl.graph with
  | some g =>
    if g.computed then d
    else composeOn (setPxl (fun p => { p with graph := p.graph.map (fun g => { g with computed := true }) })
      (fetchErrors (segCount g.record) d))
  | none => d

/-- COMPOSITION_DONE. -/
def execCompositionDone (s : State) : Result := act composeDoneFx s

/-- A released segment that an error beyond correction reaches in the output buffer (R355): as a void it keeps what stands there, and that is
open: free values. -/
def spoilSeg (n : NodeRecord) (ys : Nat × Nat) (d : Device) : Device :=
  (segCols n ys.2).foldl (fun d x => (List.range n.primaries).foldl (fun d c =>
    let (v, d) := freeNext d
    setPxl (fun p => { p with outBuf := mset p.outBuf ((ys.1 * n.width + x) * n.primaries + c) 0 (v % 65536) }) d) d) d

/-- A LOAD that goes on shifts what the output buffer now holds (R325, R355). -/
def loadAgain (n : NodeRecord) (d : Device) : Device :=
  setOut (fun o => { o with load := o.load.map (fun l =>
    if l.complete || l.released.isNone then l else { l with codes := l.map.map (entryCode n d.pxl.outBuf) }) }) d

/-- An error beyond correction in a store that feeds segments `ys` (R355): they are voids, those already released counted with them. -/
def outVoid (ys : List (Nat × Nat)) (d : Device) : Device :=
  match d.pxl.graph with
  | some g =>
    let gone := ys.filter (fun x => decide (segIndex g.record x.1 x.2 < g.released))
    let d := setPxl (fun p => { p with graph := some { g with voids := g.voids ++ ys, gone := g.gone ++ gone } }) d
    let d := when (!gone.isEmpty) (fun d => d.bump 0x380C gone.length) d
    gone.foldl (fun d x => spoilSeg g.record x d) d
  | none =>
    let n := recordNow d
    let d := setPxl (fun p => { p with voids := p.voids ++ ys }) (d.bump 0x380C ys.length)
    loadAgain n (ys.foldl (fun d x => spoilSeg n x d) d)

/-- A read error in the output buffer, a lane map, the lane programs, the line buffers or the scaler contexts (R355): corrected and
counted in HLT_OUT_ECC, or beyond correction, when the segments that the word feeds are voids. -/
def outErrorFx (beyond : Option (List (Nat × Nat))) (d : Device) : Device :=
  match beyond with
  | none => d.bump 0x5820 1
  | some ys => outVoid ys d

/-- An error of memory (R217, R292, R355): one of the calibration store or of the other stores is dealt with; one of the frame store
lies there until the word is rewritten. The table has no row of its own for an upset of the frame store or the other stores (DESIGN
CHOICE, log entry 131). -/
def memErrorFx (e : MemError) (d : Device) : Device :=
  match e with
  | .cal e => calErrorFx e d
  | .store e => setPxl (fun p => { p with upsets := p.upsets ++ [e] }) d
  | .other beyond => outErrorFx beyond d

/-- CAL_STORE_SCRUB. -/
def execCalStoreScrub (e : MemError) (s : State) : Result := act (memErrorFx e) s

/-- ARBITRATION_DECIDED: what the segment held back is released (R241). -/
def execArbitrationDecided (loser : Option (Fin 3)) (s : State) : Result := act (fun d => composeOn (arbFx loser (staleGraph d))) s

/-- UNIT_SELFTEST_DONE. -/
def execUnitSelftestDone (pass : List Bool) (unitKind : Nat) (s : State) : Result :=
  act (fun d => composeOn (unitTestFx pass unitKind (staleGraph d))) s

/-- The content of frames up to `c` that no graph has composed freed with its window's end (R92, R211). -/
def contentOver (c : BitVec 32) (d : Device) : Device :=
  contentFreed c (setPxl (fun p => { p with buffers := p.buffers.filter (fun b => b.hold || decide (0 < frameDiff b.content c)) }) d)

/-- The work of RP[f−1:lines−1:0] (R211, R248): composition of `f` ends; content frame `f` gets its buffers, for the layers of its record
(R265). -/
def deadlineFx (f : BitVec 32) (d : Device) : Device :=
  let d := staleGraph d
  let d := match d.pxl.graph with
    | some g => if g.frame = f then cutGraph d else d
    | none => contentOver (f - BitVec.ofNat 32 (presentP d)) d
  let d := { d with tim := { d.tim with deadline := some f } }
  if takesContent d then storeStep1 f (recordAt d f) (layersFor f d) else d

/-- The display frame whose deadline comes next (R248). -/
def deadlineFrame (d : Device) : BitVec 32 :=
  let g := d.clk.rp.frame
  if d.tim.deadline = some (g + 1) then g + 2 else g + 1

end Sys2Proof.Machine
end

