-- ==== Sys2Proof/Machine/HostIf.lean ====
section
/-! DEFINITION. Machine/HostIf.lean: the host interface: directory entries (R390, R391), starting rings (R396), letterbox
rounds and MAILBAGs (R401 to R404), a node's access to host memory through a head (R405 to R408), one-second windows (R578),
MSI-X (R415). -/

namespace Sys2Proof.Machine

/-- The host interface changed. -/
def setHif (f : Hif → Hif) (d : Device) : Device := { d with hif := f d.hif }

/-- The HIF_RING_CFG fields as used (R535, R543). -/
def ringFields (v : Nat) (r : RingCfg) : RingCfg :=
  let b := bitsOf v 20 16
  { r with cmdLog2 := nearest 6 16 (bitsOf v 4 0), evtLog2 := nearest 6 16 (bitsOf v 12 8),
           bulkLog2 := if b = 0 then 0 else nearest 6 16 b, enable := hasBit v 24 }

/-- A directory entry (R390). -/
def dirEntry (b : List Byte) : RingCfg :=
  { cmdBase := le b 0 8, cplBase := le b 8 8, evtBase := le b 0x10 8, bulkBase := le b 0x18 8, cmdLog2 := le b 0x20 1,
    evtLog2 := le b 0x21 1, bulkLog2 := le b 0x22 1, enable := hasBit (le b 0x23 1) 0 }

/-- The offset of a directory entry's first field outside its range (R390, R391). -/
def dirBad (own : Bool) (r : RingCfg) : Option Nat :=
  let log := fun (x : Nat) => decide (6 ≤ x) && decide (x ≤ 16)
  if r.cmdBase % 4096 ≠ 0 then some 0
  else if r.cplBase % 4096 ≠ 0 then some 8
  else if r.evtBase % 4096 ≠ 0 then some 0x10
  else if own ∧ r.bulkBase % 4096 ≠ 0 then some 0x18
  else if !(log r.cmdLog2) then some 0x20
  else if !(log r.evtLog2) then some 0x21
  else if r.bulkLog2 ≠ 0 ∧ !(log r.bulkLog2) then some 0x22
  else none

/-- RING_FAULT (R419). -/
def ringFault (ring detail value : Nat) (d : Device) : Device :=
  raise 1 (leN 1 ring ++ leN 1 detail ++ zeros 2 ++ leN 4 value) d

/-- The rings of the map in force that a head feeds, with their members' records (R403). -/
def fedRings (d : Device) : List (RingEntry × Nat × Bool) :=
  match d.topo.map with
  | some m => (headRings d m).filterMap (fun (_, r, pair, isX) =>
      if !r.dual || (d.topo.pairs.getD pair {}).feeding then some (r, pair, isX) else none)
  | none => []

/-- An address and value of a CTRL entry (R119). -/
def ctrlEntry (a v : Nat) : List Byte := beN 4 a ++ beN 4 v

/-- The CTRL WRITE that gives a node its ring registers and the sorting window (R391, R544): the configuration last. -/
def ringWrite (d : Device) (r : RingCfg) : List Byte :=
  let base := fun (a x : Nat) => ctrlEntry a (x % 2 ^ 32) ++ ctrlEntry (a + 4) (x / 2 ^ 32 % 2 ^ 32)
  ctrlHead 1 0 10 0 ++ ctrlEntry 0x1414 (d.word 0x1414) ++ base 0x1460 r.cmdBase ++ base 0x1468 r.cplBase ++
  base 0x1470 r.evtBase ++ base 0x1478 r.bulkBase ++
  ctrlEntry 0x1480 (r.cmdLog2 + 256 * r.evtLog2 + 65536 * r.bulkLog2 + 2 ^ 24 * bit r.enable)

/-- A directory entry read (R391): a head's own is applied, a node's delivered; a bad one leaves the rings stopped, and a
bus error changes nothing. -/
def dirRead (node : Nat) (r : HostRead) (d : Device) : Device :=
  let own := node == d.nodeNo
  match r with
  | .none => d
  | .busError =>
    if d.hif.dirFailed.contains node then d
    else ringFault 3 4 node (setHif (fun h => { h with dirFailed := h.dirFailed ++ [node] }) d)
  | .data b =>
    let d := setHif (fun h => { h with dirFailed := h.dirFailed.filter (· != node), dirAsk := h.dirAsk.filter (· != node) }) d
    let e := dirEntry b
    match dirBad own e with
    | some off =>
      ringFault 3 3 (node + 65536 * off) (setHif (fun h => { h with
        dirs := mdel h.dirs node, ring := if own then { h.ring with enable := false } else h.ring }) d)
    | none =>
      let d := setHif (fun h => { h with dirs := mins h.dirs node e, ring := if own then e else h.ring }) d
      if own then d
      else (fedRings d).foldl (fun d (r, pair, isX) =>
        if r.members.contains node then headSend 2 false node (ringWrite d e) d.clk.rp r pair isX d else d) d

/-- Slots of the command ring. -/
def cmdSlots (d : Device) : Nat := 2 ^ d.hif.ring.cmdLog2

/-- Slots of the bulk ring; 0 where there is none. -/
def bulkSlots (d : Device) : Nat := if d.hif.ring.bulkLog2 = 0 then 0 else 2 ^ d.hif.ring.bulkLog2

/-- What the admitted commands become at a change of the sequence word (R396): wherever they wait, they complete CANCELLED in the old
rings. -/
def cancelOld (d : Device) : Device :=
  let ring := d.hif.ring
  let d := cancelWhere (fun _ => true) (cancelElsewhere (fun _ => true) true (setHif (fun h => { h with ring := h.old.getD ring }) d))
  setHif (fun h => { h with ring := ring, old := none }) d

/-- A REQUEST for descriptors at the position asked for (R405): up to 8,192 bytes, never past the ring's end. The sequence
numbers its copies bear, one per ring, are kept. -/
def sendRequest (d : Device) : Device :=
  let slot := d.hif.reqPos.toNat % cmdSlots d
  let n := min 8192 (64 * (cmdSlots d - slot))
  let seqs := (nodePairs d).map (fun pair => BitVec.ofNat 32 (nextSeq d 8 1 pair))
  let d := { d with flows := { d.flows with answered := d.flows.answered.filter (fun q => !(seqs.contains q)) } }
  nodeSend 8 ([0, 0] ++ beN 2 n ++ beN 4 0 ++ beN 8 (d.hif.ring.cmdBase + 64 * slot)) d.clk.rp none
    (setHif (fun h => { h with request := seqs }) d)

/-- The rings started at the P, C and B of the first round seen (R396). -/
def startRings (w : LetterWords) (d : Device) : Device :=
  let d := setHif (fun h => { h with
    started := true, cfgPending := false, old := none, f := w.p, p := w.p, e := w.c, c := w.c, b := w.b, fetchB := w.b,
    seqWord := some w.seq, badP := none, badB := none, badE := none, stale := none, unacked := [], reqPos := w.p }) d
  let d := flushEvents d
  let d := raise 2 (leN 4 w.p.toNat ++ leN 4 w.c.toNat ++ leN 4 w.seq.toNat) d
  let d := ackAllMarks d
  if d.isHead || !d.hif.ring.enable then d else sendRequest d

/-- The command producer index read (R393). -/
def seeP (p : BitVec 32) (d : Device) : Device :=
  if cmdSlots d ≤ (p - d.hif.f).toNat then
    if d.hif.badP = some p then d else ringFault 0 0 p.toNat (setHif (fun h => { h with badP := some p }) d)
  else setHif (fun h => { h with p := p, badP := none }) d

/-- The bulk producer index read (R393). -/
def seeB (b : BitVec 32) (d : Device) : Device :=
  if bulkSlots d = 0 then d
  else if bulkSlots d ≤ (b - d.hif.fetchB).toNat then
    if d.hif.badB = some b then d else ringFault 2 0 b.toNat (setHif (fun h => { h with badB := some b }) d)
  else setHif (fun h => { h with b := b, badB := none }) d

/-- A head's own letterbox entry before the directory entries of the round are read: a changed sequence word ends the old
rings and asks for the entry (R391, R396). -/
def ownSeq (w : LetterWords) (d : Device) : Device :=
  if d.hif.seqWord = some w.seq then d
  else
    let d := when d.hif.started cancelOld d
    let own := d.nodeNo
    setHif (fun h => { h with
      started := false, seqWord := some w.seq,
      dirAsk := if h.dirAsk.contains own then h.dirAsk else h.dirAsk ++ [own] }) d

/-- A head's own letterbox entry once the directory is read: the rings start, or its indices are seen. -/
def ownEntrySeen (w : LetterWords) (d : Device) : Device :=
  let own := d.nodeNo
  if d.hif.started then seeB w.b (seeP w.p (seeC w.c d))
  else if (mfind d.hif.dirs own).isSome && (!(d.hif.dirAsk.contains own) || d.hif.dirFailed.contains own) then startRings w d
  else d

/-- A reply to a node's REQUEST (R131, R405, R406), on the ring it came by; a head that does not feed the ring yet sends none (R345). -/
def answerNode (node : BitVec 12) (pair : Nat) (payload : List Byte) (d : Device) : Device :=
  match pairRing d pair with
  | some (_, r, isX) =>
    if r.dual && !(d.topo.pairs.getD pair {}).feeding then d else headSend 8 false node.toNat payload d.clk.rp r pair isX d
  | none => d

/-- The header of an ERROR or RESPONSE. -/
def answerHead (kind err : Nat) (q : HeldReq) (n : Nat) : List Byte :=
  leN 1 kind ++ leN 1 err ++ beN 2 n ++ beN 4 q.seq.toNat ++ beN 8 q.addr

/-- An ERROR answer. -/
def answerError (err : Nat) (q : HeldReq) (d : Device) : Device := answerNode q.node q.pair (answerHead 2 err q q.length) d

/-- What a REQUEST is for (R405, R406). -/
inductive ReqUse where
  | hold
  | read (bytes : Nat)
  | outside
  deriving DecidableEq, Repr

/-- Whether a range lies in one of HIF_WIN0 to HIF_WIN3 (R406). -/
def inWindows (d : Device) (addr n : Nat) : Bool :=
  (List.range 4).any (fun i =>
    let a := 0x1420 + 16 * i
    let base := d.word a / 4096 * 4096 + d.word (a + 4) * 2 ^ 32
    let size := d.field (a + 8) 19 0 * 4096
    decide (0 < size) && decide (base ≤ addr) && decide (addr + n ≤ base + size))

/-- How a REQUEST is answered now (R405, R406): a head that makes no rounds reads nothing (R389), and holds it (DESIGN CHOICE, log entry
153). -/
def reqUse (d : Device) (q : HeldReq) : ReqUse :=
  let window := if inWindows d q.addr q.length then ReqUse.read q.length else .outside
  if !d.hif.rounds then .hold
  else match mfind d.hif.dirs q.node.toNat, mfind d.hif.letters q.node.toNat with
  | some e, some w =>
    let n := 2 ^ e.cmdLog2
    if e.enable ∧ e.cmdBase ≤ q.addr ∧ q.addr < e.cmdBase + 64 * n ∧ (q.addr - e.cmdBase) % 64 = 0 ∧ 64 ≤ q.length then
      let slot := (q.addr - e.cmdBase) / 64
      let pend := (w.p.toNat + n - slot) % n
      if pend = 0 then .hold else .read (64 * min pend (min (q.length / 64) (n - slot)))
    else window
  | _, _ => window

/-- A REQUEST served: held, read for, or answered ERROR 1. -/
def serveReq (q : HeldReq) (d : Device) : Device :=
  match reqUse d q with
  | .hold => setHif (fun h => { h with held := h.held ++ [{ q with waits := true }] }) d
  | .read n => setHif (fun h => { h with held := h.held ++ [{ q with waits := false, length := n }] }) d
  | .outside => answerError 1 q d

/-- Held REQUESTs looked at again in a round (R405). -/
def serveHeld (d : Device) : Device :=
  let qs := d.hif.held.filter (fun q => q.waits)
  qs.foldl (fun d q => serveReq q d) (setHif (fun h => { h with held := h.held.filter (fun q => !q.waits) }) d)

/-- A MAILBAG entry (R128). -/
def mailEntry (node : Nat) (w : LetterWords) : List Byte :=
  beN 2 node ++ zeros 2 ++ beN 4 w.p.toNat ++ beN 4 w.c.toNat ++ beN 4 w.b.toNat ++ beN 4 w.seq.toNat

/-- The MAILBAG of a round on one ring (R403): changed entries, or all, and up to four unchanged ones in rotation. -/
def sendMail (changed : List Nat) (r : RingEntry) (pair : Nat) (isX : Bool) (d : Device) : Device :=
  let len := r.members.length
  let turn := (List.range (min 4 len)).map (fun i => r.members.getD ((4 * d.hif.rotate + i) % len) 0)
  let go := r.members.filter (fun n => d.hif.mailAll || changed.contains n || turn.contains n)
  let es := go.filterMap (fun n => (mfind d.hif.letters n).map (mailEntry n))
  headSend 5 true 0 (beN 4 d.hif.round.toNat ++ beN 2 es.length ++ [1, 0] ++ es.flatten) d.clk.rp r pair isX d

/-- The members of every ring of the map in force that this head is on. -/
def allMembers (d : Device) : List Nat :=
  match d.topo.map with
  | some m => (headRings d m).flatMap (fun (_, r, _, _) => r.members)
  | none => []

/-- One letterbox entry taken (R401, R402): the node IDs whose entries changed, and the device. -/
def takeLetter (ms : List Nat) (z : List Nat × Device) (e : Nat × Option LetterWords) : List Nat × Device :=
  match e.2 with
  | some w =>
    if !(ms.contains e.1) then z
    else
      let old := mfind z.2.hif.letters e.1
      let ask := (match old with | some o => o.seq != w.seq | none => false) && !(z.2.hif.dirAsk.contains e.1)
      (if old = some w then z.1 else z.1 ++ [e.1],
       setHif (fun h => { h with letters := mins h.letters e.1 w, dirAsk := if ask then h.dirAsk ++ [e.1] else h.dirAsk }) z.2)
  | none => z

/-- The entries of members as a round read them: those that changed; a changed sequence word asks for the directory
entry (R391). -/
def takeLetters (es : List (Nat × Option LetterWords)) (d : Device) : List Nat × Device :=
  es.foldl (takeLetter (allMembers d)) ([], d)

/-- The MSI-X messages due at the end of a round (R415): a vector whose table entry is not masked. -/
def signalMsix (d : Device) : Device :=
  let open_ := (List.range 8).filter (fun v =>
    hasBit d.hif.msix v && !(hasBit (d.hif.msixTable.getD (4 * v + 3) 0).toNat 0))
  setHif (fun h => { h with msix := open_.foldl (fun w v => w - 2 ^ v) h.msix, msixSent := h.msixSent ++ open_ }) d

/-- LETTERBOX_ROUND (R402 to R405, R391, R396, R415). -/
def letterboxFx (r : RoundRead) (d : Device) : Device :=
  if !d.isHead || !d.hif.rounds then d
  else
    let d := match r.entries.find? (fun e => e.2.isNone) with
      | some (n, _) => rateEvent 1 4 (leN 1 4 ++ leN 1 4 ++ zeros 2 ++ leN 4 n) [] 1 false d
      | none => d
    let own := (r.entries.find? (fun e => e.1 == d.nodeNo)).bind (fun e => e.2)
    let d := match own with | some w => ownSeq w d | none => d
    let (changed, d) := takeLetters r.entries d
    let asked := d.hif.dirAsk
    let d := (r.dirs.filter (fun e => asked.contains e.1)).foldl (fun d (n, x) => dirRead n x d) d
    let d := match own with | some w => ownEntrySeen w d | none => d
    let d := serveHeld d
    let d := (fedRings d).foldl (fun d (ring, pair, isX) => sendMail changed ring pair isX d) d
    let d := when r.overrun (raise 6 (leN 4 d.hif.round.toNat ++ leN 4 r.durUs)) d
    signalMsix (setHif (fun h => { h with round := h.round + 1, rotate := h.rotate + 1, mailAll := false }) d)

/-- LETTERBOX_ROUND. -/
def execLetterboxRound (r : RoundRead) (s : State) : Result := act (letterboxFx r) s

/-- The entry of a MAILBAG for a node. -/
def mailFor (n : Nat) (b : List Byte) : Option LetterWords :=
  ((List.range (be b 4 2)).find? (fun i => be b (8 + 20 * i) 2 % 4096 == n)).map (fun i =>
    let o := 8 + 20 * i
    { p := BitVec.ofNat 32 (be b (o + 4) 4), c := BitVec.ofNat 32 (be b (o + 8) 4), b := BitVec.ofNat 32 (be b (o + 12) 4),
      seq := BitVec.ofNat 32 (be b (o + 16) 4) })

/-- What a node does with its letterbox entry (R393, R396, R403, R544). -/
def nodeLetter (w : LetterWords) (d : Device) : Device :=
  let changed := match d.hif.seqWord with | some s => s != w.seq | none => false
  if d.hif.cfgPending || (changed && d.hif.started) then startRings w (when (changed && d.hif.started) cancelOld d)
  else if d.hif.started then seeC w.c d
  else setHif (fun h => { h with seqWord := some w.seq }) d

/-- MAILBAG (R128, R403). -/
def mailbagFx (f : RxFrame) (d : Device) : Device :=
  takeNumbered f (fun h _ => h.cls == 5 && !d.isHead) (fun _ b d =>
    match d.topo.nodeId with
    | some n => (match mailFor n.toNat b with | some w => nodeLetter w d | none => d)
    | none => d) d

/-- MAILBAG. -/
def execMailbag (f : RxFrame) (s : State) : Result := act (mailbagFx f) s

/-- REMOTE_RD_REQUEST (R131, R405, R406): a later REQUEST of a node replaces one held. -/
def remoteRequestFx (f : RxFrame) (d : Device) : Device :=
  takeNumbered f (fun h b => d.isHead && h.cls == 8 && be b 0 1 == 0) (fun h b d =>
    let node := BitVec.ofNat 12 h.src
    let id := d.hif.readId
    let q : HeldReq := { id := id, node := node, seq := BitVec.ofNat 32 h.seq, addr := be b 8 8, length := be b 2 2,
                         pair := pairOf f.port.val, dir := h.dir, waits := false }
    serveReq q (setHif (fun x => { x with
      readId := id + 1, held := x.held.filter (fun y => !(y.waits && y.node == node)) }) d)) d

/-- REMOTE_RD_REQUEST. -/
def execRemoteRdRequest (f : RxFrame) (s : State) : Result := act (remoteRequestFx f) s

/-- A REMOTE_RD answer, taken once per request sequence (R131, R133). -/
def takeAnswer (f : RxFrame) (kind : Nat) (fx : List Byte → Device → Device) (d : Device) : Device :=
  takeNumbered f (fun h b => !d.isHead && h.cls == 8 && be b 0 1 == kind) (fun _ b d =>
    let q := BitVec.ofNat 32 (be b 4 4)
    if d.flows.answered.contains q then d.bump (lnkReg f.port.val 0x14) 1
    else
      let d := { d with flows := { d.flows with answered := d.flows.answered ++ [q] } }
      if d.hif.request.contains q then fx b d else d) d

/-- REMOTE_RD_RESPONSE (R405): the descriptors go to DESCRIPTOR_FETCH; the next REQUEST follows. -/
def remoteResponseFx (f : RxFrame) (d : Device) : Device :=
  takeAnswer f 1 (fun b d =>
    sendRequest (setHif (fun h => { h with reqPos := h.reqPos + BitVec.ofNat 32 (be b 2 2 / 64) }) d)) d

/-- REMOTE_RD_RESPONSE. -/
def execRemoteRdResponse (f : RxFrame) (s : State) : Result := act (remoteResponseFx f) s

/-- REMOTE_RD_ERROR (R398, R405): a host bus error is reported, and the REQUEST is sent again. -/
def remoteErrorFx (f : RxFrame) (d : Device) : Device :=
  takeAnswer f 2 (fun b d =>
    let d := when (be b 1 1 == 2) (rateEvent 1 0 (leN 1 0 ++ leN 1 4 ++ zeros 2 ++ leN 4 d.hif.reqPos.toNat) [] 1 false) d
    sendRequest d) d

/-- REMOTE_RD_ERROR. -/
def execRemoteRdError (f : RxFrame) (s : State) : Result := act (remoteErrorFx f) s

/-- The class of the records a POST writes, where its range lies wholly in a ring of its sender (R407): 0 completions, 1
notices. -/
def postRing (d : Device) (node addr n : Nat) : Option Nat :=
  match mfind d.hif.dirs node with
  | some e =>
    let fits := fun (base size slots : Nat) =>
      decide (base ≤ addr) && decide (addr + n ≤ base + size * slots) && (addr - base) % size == 0 && n % size == 0
    if fits e.cplBase 64 (2 ^ e.cmdLog2) then some 0 else if fits e.evtBase 32 (2 ^ e.evtLog2) then some 1 else none
  | none => none

/-- HOST_WRITE_FAILED (R407, R419). -/
def writeFailed (node cause addr : Nat) (d : Device) : Device :=
  raise 7 (leN 2 node ++ leN 1 cause ++ zeros 1 ++ leN 8 addr) d

/-- REMOTE_RD_POST (R407, R408). -/
def remotePostFx (f : RxFrame) (busErr : Bool) (d : Device) : Device :=
  takeNumbered f (fun h b => d.isHead && h.cls == 8 && be b 0 1 == 3) (fun h b d =>
    let addr := be b 8 8
    if 1000000 < d.clk.raster.nsOf (RP.dist d.clk.raster d.clk.rp h.stamp) then d.bump 0x1494 1
    else match postRing d h.src addr (be b 2 2) with
      | none => writeFailed h.src 0 addr (d.bump 0x1490 1)
      | some k => if busErr then writeFailed h.src 1 addr d else vector (2 + k) (hostWrite addr (b.drop 16) d)) d

/-- REMOTE_RD_POST. -/
def execRemoteRdPost (f : RxFrame) (busErr : Bool) (s : State) : Result := act (remotePostFx f busErr) s

/-- REQUESTs answered ERROR 3 and forgotten (R405, R406). -/
def timeOut (p : HeldReq → Bool) (d : Device) : Device :=
  let qs := d.hif.held.filter p
  qs.foldl (fun d q => answerError 3 q d) (setHif (fun h => { h with held := h.held.filter (fun q => !(p q)) }) d)

/-- HELD_REQUEST_TIMEOUT (R405). -/
def execHeldRequestTimeout (node : BitVec 12) (s : State) : Result := act (timeOut (fun q => q.waits && q.node == node)) s

/-- HOST_READ_TIMEOUT (R406). -/
def execHostReadTimeout (id : Nat) (s : State) : Result := act (timeOut (fun q => !q.waits && q.id == id)) s

/-- HOST_READ_COMPLETE (R405, R406): RESPONSE, or ERROR 2. -/
def hostReadFx (id : Nat) (r : HostRead) (d : Device) : Device :=
  match d.hif.held.find? (fun q => !q.waits && q.id == id), r with
  | some q, .data b =>
    answerNode q.node q.pair (answerHead 1 0 q q.length ++ fit q.length b)
      (setHif (fun h => { h with held := h.held.filter (fun y => !(!y.waits && y.id == id)) }) d)
  | some q, .busError =>
    answerError 2 q (setHif (fun h => { h with held := h.held.filter (fun y => !(!y.waits && y.id == id)) }) d)
  | _, _ => d

/-- NOTICE_REPOST (R407, R408): every record C has not passed is posted again, unchanged, but for those whose slots were sent less than
2 ms ago. -/
def repostFx (d : Device) : Device :=
  if d.isHead || !(served d) then d
  else d.hif.unacked.foldl (fun d r =>
    when (slotReady d (evtAddr d r.pos)) (writeOut (evtAddr d r.pos) (noticeBytes d r.notice r.pos)) d) (flushPosts d)

/-- NOTICE_REPOST. -/
def execNoticeRepost (s : State) : Result := act repostFx s

/-- The payload of a one-second window's notice (R578): the first event's details, with the total where the notice carries
one. -/
def windowBytes (w : RateWin) : List Byte :=
  if w.code = 0x1030 ∨ w.code = 0x1031 ∨ w.code = 0x8001 then
    w.detail ++ leN 4 (if w.allOnes then 0xFFFFFFFF else w.count) ++ w.tail
  else w.detail

/-- NOTICE_WINDOW_CLOSE (R578); a node's QUEUE_DROP is a fault report (R412). -/
def windowCloseFx (code : BitVec 16) (subject : Nat) (d : Device) : Device :=
  match d.hif.wins.find? (fun w => w.code == code && w.subject == subject) with
  | none => d
  | some w =>
    let d := setHif (fun h => { h with wins := h.wins.filter (fun x => !(x.code == code && x.subject == subject)) }) d
    if code = 0x1030 then report 5 (d.port subject).neighbour 0x1030 (windowBytes w) d
    else raise code.toNat (windowBytes w) d

/-- NOTICE_WINDOW_CLOSE. -/
def execNoticeWindowClose (code : BitVec 16) (subject : Nat) (s : State) : Result := act (windowCloseFx code subject) s

/-- HIF_RING_CFG_WRITE (R544): on a node, the staged bases and the configuration take effect together; what the rings that run were
is kept until they start again (R396). -/
def ringCfgFx (v : Nat) (d : Device) : Device :=
  if d.isHead then d
  else setHif (fun h => { h with
    ring := ringFields v h.staged, staged := ringFields v h.staged, cfgPending := true,
    old := if h.started then some (h.old.getD h.ring) else none }) d

/-- HIF_RING_CFG_WRITE. -/
def execHifRingCfgWrite (v : Word) (s : State) : Result := act (ringCfgFx v.toNat) s

end Sys2Proof.Machine
end

