-- ==== Sys2Proof/Machine/Ingest.lean ====
section
/-! DEFINITION. Machine/Ingest.lean: a head's ingest: the IPv4 layer (R180), stream records (R182 to R185, R204, R205), merging
(R186, R187), content frames (R188 to R190), runs (R191 to R198), bulk frames (R199, R200, R409), sACN (R201, R202). -/

namespace Sys2Proof.Machine

/-- The ingest block changed. -/
def setGest (f : Ingest → Ingest) (d : Device) : Device := { d with gest := f d.gest }

/-- A stream slot. -/
def slotOf (d : Device) (i : Nat) : Slot := d.gest.slots.getD i {}

/-- A stream slot changed. -/
def setSlot (i : Nat) (f : Slot → Slot) (d : Device) : Device := setGest (fun g => { g with slots := modAt g.slots i f }) d

/-- Whether ingest works: in a head role, in RUN and QUIET (R514). -/
def ingestOn (d : Device) : Bool := !(forwardOnly d) && d.isHead && (d.pwr.state == .run || d.pwr.state == .quiet)

/-- A 16-bit count of a slot raised (R205). -/
def up16 (n k : Nat) : Nat := satAdd 65535 n k

/-- The record that governs a slot's content frame (R184). -/
def recFor (s : Slot) (c : BitVec 32) : Option StreamRec :=
  match s.hist.find? (fun h => decide (frameDiff h.1 c ≤ 0)) with | some h => h.2 | none => none

/-! ### Runs (R191 to R197) -/

/-- Bits per component of a run (R191). -/
def runBits (r : StreamRec) (n : NodeRecord) : Nat := min r.depth n.sliceBits

/-- Pixels of every run but the last (R191). -/
def runLen (r : StreamRec) (n : NodeRecord) : Nat :=
  let k := 65536 / (comps r.layout * runBits r n)
  if r.layout = 2 ∧ k % 2 = 1 then k - 1 else k

/-- The entries of a map that this head cuts for content frame `c`: index, entry, record, node (R191, R193). -/
def cutEntries (d : Device) (m : SysMap) (recs : Nat → Option StreamRec) : List (Nat × SliceEntry × StreamRec × NodeRecord) :=
  m.slices.zipIdx.filterMap (fun (e, i) =>
    if e.head ≠ d.headIndex then none
    else match recs e.stream, nodeRec m e.node with
      | some r, some n => some (i, e, r, n)
      | _, _ => none)

/-- Runs of an entry (R191). -/
def entryRuns (e : SliceEntry) (r : StreamRec) (n : NodeRecord) : Nat := ceilDiv (e.srcW * e.srcH) (runLen r n)

/-- A run (R191, R193): slice index, entry, sequence, first pixel and count, and the bits it carries. -/
structure Run where
  idx   : Nat
  entry : SliceEntry
  seq   : Nat
  first : Nat
  count : Nat
  bits  : Nat

/-- The runs of the entries of slot `i`, numbered within their nodes (R193). -/
def runsOf (es : List (Nat × SliceEntry × StreamRec × NodeRecord)) (i : Nat) : List Run :=
  (es.zipIdx).flatMap (fun ((idx, e, r, n), j) =>
    if e.stream ≠ i then []
    else
      let base := ((es.take j).filter (fun x => x.2.1.node == e.node)).foldl (fun t (_, e', r', n') => t + entryRuns e' r' n') 0
      let k := runLen r n
      (List.range (entryRuns e r n)).map (fun q =>
        { idx := idx, entry := e, seq := base + q, first := q * k, count := min k (e.srcW * e.srcH - q * k), bits := runBits r n }))

/-- The source row and column of a pixel of an entry's rectangle. -/
def srcAt (e : SliceEntry) (p : Nat) : Nat × Nat := (e.srcY + p / e.srcW, e.srcX + p % e.srcW)

/-- Whether run `a` is earlier than run `b` (R194). -/
def runBefore (a b : Run) : Bool :=
  let (ra, ca) := srcAt a.entry (a.first + a.count - 1)
  let (rb, cb) := srcAt b.entry (b.first + b.count - 1)
  if ra ≠ rb then decide (ra < rb) else if ca ≠ cb then decide (ca < cb)
  else if a.idx ≠ b.idx then decide (a.idx < b.idx) else decide (a.first < b.first)

/-- A run put in its place in release order. -/
def insertRun (a : Run) : List Run → List Run
  | [] => [a]
  | b :: r => if runBefore a b then a :: b :: r else b :: insertRun a r

/-- The pixel received at a row and column (R194). -/
def pixelAt (rows : List Srd) (row col : Nat) : Option (List Nat) :=
  match rows.find? (fun s => s.row == row && decide (s.offset ≤ col) && decide (col < s.offset + s.pixels.length)) with
  | some s => s.pixels[col - s.offset]?
  | none => none

/-- The pixels of a run, where every one has been received (R194). -/
def runPixels (rows : List Srd) (r : Run) : Option (List (List Nat)) :=
  (List.range r.count).mapM (fun i => let (y, x) := srcAt r.entry (r.first + i); pixelAt rows y x)

/-- A component rounded to `b` bits (R192). -/
def roundComp (depth b x : Nat) : Nat :=
  if depth ≤ b then x % 2 ^ depth else min ((x % 2 ^ depth + 2 ^ (depth - b - 1)) / 2 ^ (depth - b)) (2 ^ b - 1)

/-- Components as a bit stream, most significant bit first, padded to whole bytes (R116). -/
def packBits (b : Nat) (xs : List Nat) : List Byte :=
  let n := ceilDiv (xs.length * b) 8
  beN n (xs.foldl (fun t x => t * 2 ^ b + x) 0 * 2 ^ (8 * n - xs.length * b))

/-- The slice header and data of a run (R115, R116, R191, R192). -/
def slicePayload (m : SysMap) (r : StreamRec) (u : Run) (px : List (List Nat)) : List Byte :=
  let k := comps r.layout
  let data := packBits u.bits (px.flatMap (fun p => (List.range k).map (fun i => roundComp r.depth u.bits (nth p i))))
  let e := u.entry
  beN 1 e.layer ++ beN 1 (bit (u.first == 0) + 2 * bit (u.first + u.count == e.srcW * e.srcH)) ++ beN 1 (r.layout * 16) ++
  beN 1 u.bits ++ beN 2 e.srcW ++ beN 2 e.srcH ++ beN 4 u.first ++ beN 2 u.count ++ beN 2 data.length ++ beN 4 u.idx ++
  beN 4 m.generation.toNat ++ zeros 2 ++ data

/-- The rings by which this head reaches a node: those it is on that name it (R24). -/
def ringsTo (d : Device) (m : SysMap) (node : Nat) : List (Nat × RingEntry × Nat × Bool) :=
  (headRings d m).filter (fun (_, r, _, _) => r.members.contains node)

/-- The first of them, by which a FIX frame goes (R203). -/
def ringTo (d : Device) (m : SysMap) (node : Nat) : Option (Nat × RingEntry × Nat × Bool) := (ringsTo d m node).head?

/-- A PIX_SLICE released within group `g` (R24, R91, R138, R193, R194): to a ring of its node in every direction this head sends there,
or to the head's own frame store. -/
def releaseRun (m : SysMap) (slot : Nat) (c : BitVec 32) (u : Run) (b : List Byte) (g : Nat) (d : Device) : Device :=
  if g = 0 then
    let s := sliceHdr b
    if d.isNode && s.gen == (recordFor d (c + BitVec.ofNat 32 (presentP d))).2 then storeRun c s (b.drop 26) d else d
  else match (ringsTo d m u.entry.node).find? (fun (i, _, _, _) => i + 1 == g) with
    | some (_, r, pair, isX) =>
      if r.dual ∧ !(d.topo.pairs.getD pair {}).feeding then d
      else (headOuts r pair isX).foldl (fun d (p, dir) =>
        let h : Hdr := { cls := 1, head := d.headIndex, dir := dir, stream := slot, src := d.nodeNo, dst := u.entry.node,
                         seq := u.seq, stamp := RP.start c, pair := pair }
        sendOwn d (sealFrame d p h b) false none) d
    | none => d

/-- The groups within which a run is ordered (R24, R194): the head itself, or each ring of its node. -/
def runGroups (d : Device) (m : SysMap) (u : Run) : List Nat :=
  if u.entry.node = d.nodeNo then [0] else (ringsTo d m u.entry.node).map (fun (i, _, _, _) => i + 1)

/-- The runs of a content frame of a slot under its map, in release order, each in every group it is released in. -/
def asmRuns (d : Device) (slot : Nat) (a : Assembly) : List (Run × Nat) :=
  ((runsOf (cutEntries d a.map (fun i => recFor (slotOf d i) a.content)) slot).foldr insertRun []).flatMap (fun u =>
    (runGroups d a.map u).map (fun g => (u, g)))

/-- Whether a run has been released or abandoned within a group. -/
def runOver (a : Assembly) (x : Run × Nat) : Bool := a.done.contains (x.1.idx, x.1.first, x.2)

/-- Runs of a content frame noted as released or abandoned. -/
def endRuns (slot : Nat) (c : BitVec 32) (us : List (Run × Nat)) (d : Device) : Device :=
  setSlot slot (fun s => { s with asm := s.asm.map (fun x =>
    if x.content = c then { x with done := x.done ++ us.map (fun u => (u.1.idx, u.1.first, u.2)) } else x) }) d

/-- The runs of a content frame that have become releasable go out, in order, each ring on its own (R194). `blocked`: groups
a run still holds back. -/
def releaseStep (slot : Nat) (a : Assembly) : List (Run × Nat) → List Nat → Device → Device
  | [], _, d => d
  | (u, g) :: us, blocked, d =>
    if runOver a (u, g) ∨ blocked.contains g then releaseStep slot a us blocked d
    else match runPixels a.rows u with
      | none => releaseStep slot a us (g :: blocked) d
      | some px => releaseStep slot a us blocked
          (releaseRun a.map slot a.content u (slicePayload a.map a.record u px) g (endRuns slot a.content [(u, g)] d))

/-- What a slot can release for a content frame. -/
def release (slot : Nat) (c : BitVec 32) (d : Device) : Device :=
  match (slotOf d slot).asm.find? (fun x => x.content == c) with
  | some a => releaseStep slot a (asmRuns d slot a) [] d
  | none => d

/-- The runs of a content frame that pass a test and are neither complete nor ended are abandoned (R195), each counted once. -/
def abandon (slot : Nat) (c : BitVec 32) (p : Run → Bool) (d : Device) : Device :=
  match (slotOf d slot).asm.find? (fun x => x.content == c) with
  | none => d
  | some a =>
    let us := (asmRuns d slot a).filter (fun u => p u.1 && !(runOver a u) && (runPixels a.rows u.1).isNone)
    let n := (us.map (fun u => (u.1.idx, u.1.first))).eraseDups.length
    setSlot slot (fun s => { s with abandoned := up16 s.abandoned n }) (endRuns slot c us (d.bump 0x2918 n))

/-- Whether a run has a pixel strictly between two places of a source frame `w` pixels wide (R195). -/
def runIn (w : Nat) (lo hi : Option Nat) (u : Run) : Bool :=
  (List.range u.count).any (fun i =>
    let (y, x) := srcAt u.entry (u.first + i)
    let p := y * w + x
    (match lo with | some l => decide (l < p) | none => true) && (match hi with | some h => decide (p < h) | none => true))

/-- The map a head knows will govern display frame `f` (R197). -/
def mapGoverning (d : Device) (f : BitVec 32) : Option SysMap :=
  match d.topo.load with
  | some l => (match l.map with
    | some m => (if l.sent && decide (0 ≤ frameDiff f l.switchAt) then some m else d.topo.map)
    | none => d.topo.map)
  | none => d.topo.map

/-- At RP[c:0:0] a head fixes the map content frame `c` is cut under (R197). -/
def fixMap (c : BitVec 32) (d : Device) : Device :=
  match mapGoverning d (c + BitVec.ofNat 32 (presentP d)) with
  | some m => setGest (fun g => { g with maps := lastN 8 (g.maps.filter (fun x => x.1 != c) ++ [(c, m)]) }) d
  | none => d

/-- The map of a content frame. -/
def cutMap (d : Device) (c : BitVec 32) : Option SysMap :=
  match d.gest.maps.find? (fun x => x.1 == c) with
  | some x => some x.2
  | none => mapGoverning d (c + BitVec.ofNat 32 (presentP d))

/-- Rows received for a content frame of a slot; complete runs go out. -/
def takeRows (slot : Nat) (r : StreamRec) (c : BitVec 32) (stamp : Option (BitVec 32)) (rows : List Srd) (d : Device) : Device :=
  match cutMap d c with
  | none => d
  | some m =>
    let more := fun (xs : List Assembly) =>
      if xs.any (fun a => a.content == c) then xs.map (fun a => if a.content = c then { a with rows := a.rows ++ rows } else a)
      else xs ++ [{ content := c, record := r, map := m, stamp := stamp, rows := rows, done := [] }]
    release slot c (setSlot slot (fun s => { s with asm := more s.asm }) d)

/-- A content frame of a slot opened with no pixel received, where none has been (R195, R199). -/
def openFrame (slot : Nat) (c : BitVec 32) (d : Device) : Device :=
  if (slotOf d slot).asm.any (fun a => a.content == c) then d
  else match recFor (slotOf d slot) c with
    | some r => takeRows slot r c none [] d
    | none => d

/-- The record in force taken to govern from 4,096 frames ago where it began earlier: so it governs every frame to come, however long
ago it was set (R184). -/
def refreshHist (c : BitVec 32) (s : Slot) : Slot :=
  match s.hist with
  | (h, r) :: _ => if frameDiff h c < -4096 then { s with hist := [(c - 4096, r)] } else s
  | [] => s

/-- The content frames of a slot that a source frame has been assigned to and whose cut-off the one of content frame `c` closes (R190,
R195). -/
def closingFrames (slot : Nat) (c : BitVec 32) (d : Device) : List (BitVec 32) :=
  let last := match d.tim.cutoff with | some f => f - BitVec.ofNat 32 (presentP d) | none => c - 1
  let fs := (slotOf d slot).stamps.filterMap (fun x =>
    if decide (0 < frameDiff x.2 last) && decide (frameDiff x.2 c ≤ 0) then some x.2 else none)
  fs.eraseDups

/-- The work of RP[f−1:C:0] at a head (R190, R195): the runs of content frame f − P that are not complete are abandoned, those of a frame
of which no pixel came with them, the rest released; what lies behind it is closed too. -/
def ingestCutoff (f : BitVec 32) (d : Device) : Device :=
  let c := f - BitVec.ofNat 32 (presentP d)
  let d := (List.range 16).foldl (fun d i =>
    let d := (closingFrames i c d).foldl (fun d x => openFrame i x d) d
    let cs := ((slotOf d i).asm.filter (fun a => decide (frameDiff a.content c ≤ 0))).map (fun a => a.content)
    let d := cs.foldl (fun d c => release i c (abandon i c (fun _ => true) d)) d
    setSlot i (fun s => refreshHist c { s with asm := s.asm.filter (fun a => !(decide (frameDiff a.content c ≤ 0))) }) d) d
  setGest (fun g => { g with maps := g.maps.filter (fun m => !(decide (frameDiff m.1 c ≤ 0))) }) d

/-! ### Stream records (R182 to R185) -/

/-- A stream record's fields (R182). -/
def readStream (b : List Byte) : StreamRec :=
  { kind := le b 0 1, layout := le b 1 1, depth := le b 2 1, paths := le b 3 1 % 4, width := le b 4 2, height := le b 6 2,
    rateNum := le b 8 4, rateDen := le b 0x0C 2, payloadType := le b 0x0E 1,
    dst := [BitVec.ofNat 32 (le b 0x10 4), BitVec.ofNat 32 (le b 0x1C 4)],
    src := [BitVec.ofNat 32 (le b 0x14 4), BitVec.ofNat 32 (le b 0x20 4)], udp := [le b 0x18 2, le b 0x24 2],
    window := le b 0x26 2, align := signed 32 (le b 0x28 4), pitch := le b 0x2C 4, raw := b.take 64 }

/-- Whether a record's fields are in range (R183 reason 1); of them only the window is ignored for bulk (R182). -/
def streamRanges (r : StreamRec) : Bool :=
  decide (r.kind ≤ 2) && decide (1 ≤ r.width) && decide (r.width ≤ 8192) && decide (1 ≤ r.height) && decide (r.height ≤ 4320) &&
  decide (1 ≤ r.rateNum) && decide (1 ≤ r.rateDen) && depthOk r.depth && decide (96 ≤ r.payloadType) && decide (r.payloadType ≤ 127) &&
  decide (-100000000 ≤ r.align) && decide (r.align ≤ 100000000) &&
  (if r.kind = 2 then decide (r.layout ≤ 3) && r.paths == 0 && r.pitch % 64 == 0
   else (if r.kind = 1 then r.layout == 3 else r.layout == 0 || (r.layout == 2 && (r.depth == 10 || r.depth == 12))) &&
     r.paths != 0 && decide (64 ≤ r.window) && decide (r.window ≤ 8192))

/-- The PROOF term of a node's load (R35, R196). -/
def proofLoad (n : NodeRecord) : Nat :=
  let q := ceilDiv (n.width * n.height) 16 * n.primaries
  q + 96 * ceilDiv q 8192

/-- The actual load of a ring in bits per frame (R196). -/
def actualLoad (d : Device) (m : SysMap) (es : List (Nat × SliceEntry × StreamRec × NodeRecord)) (r : RingEntry) : Nat :=
  let proof := (r.members.map (fun id => match nodeRec m id with | some n => 8 * proofLoad n | none => 0)).sum
  es.foldl (fun t (_, e, s, n) =>
    if r.members.contains e.node ∧ e.node ≠ d.nodeNo then
      t + 8 * (ceilDiv (e.srcW * e.srcH * comps s.layout * runBits s n) 8 + 96 * entryRuns e s n)
    else t) proof

/-- The slots that feed a node or a ring that fails under reason 5 or 6 (R183). -/
def badSlots (d : Device) (m : SysMap) (recs : Nat → Option StreamRec) : List Nat × List Nat :=
  let es := cutEntries d m recs
  let node := fun id => 8192 < (es.filter (fun x => x.2.1.node == id)).foldl (fun t (_, e, s, n) => t + entryRuns e s n) 0
  let bad := (headRings d m).filter (fun (_, r, _, _) => m.raster.den * 20000000000 < actualLoad d m es r * m.raster.num)
  ((es.filter (fun x => node x.2.1.node)).map (fun x => x.2.1.stream),
   (es.filter (fun x => x.2.1.node != d.nodeNo && bad.any (fun (_, r, _, _) => r.members.contains x.2.1.node))).map (fun x => x.2.1.stream))

/-- The bulk budget (R200), as an exact fraction. -/
def bulkSum (rs : List StreamRec) : Nat × Nat :=
  rs.foldl (fun (n, q) r =>
    if r.kind = 2 then (n * r.rateDen + r.width * r.height * comps r.layout * r.depth * r.rateNum * q, q * r.rateDen) else (n, q)) (0, 1)

/-- The first reason for which a stream record is refused (R183). -/
def streamReason (d : Device) (slot : Nat) (r : StreamRec) : Option Nat :=
  let recs := fun i => if i = slot then some r else (slotOf d i).strm
  let all := (List.range 16).filterMap recs
  let (bn, bd) := bulkSum all
  let fails := match d.topo.map with | some m => badSlots d m recs | none => ([], [])
  if !(streamRanges r) then some 1
  else if r.rateNum * d.clk.raster.den ≠ d.clk.raster.num * r.rateDen then some 2
  else if 8192 < (all.filter (fun x => x.kind != 2)).foldl (fun t x => t + x.window) 0 then some 3
  else if 40000000000 * bd < bn then some 4
  else if !fails.1.isEmpty then some 5
  else if !fails.2.isEmpty then some 6
  else none

/-- A slot's record from content frame `f` on; the merge starts anew, and packets of the record before it are merged as they were (R184,
R186). -/
def putStream (slot : Nat) (r : Option StreamRec) (f : BitVec 32) (d : Device) : Device :=
  setSlot slot (fun s => { s with
    strm := r, hist := ((f, r) :: s.hist.filter (fun h => h.1 != f)).take 32, merge := {}, before := s.merge,
    portHi := [none, none], deliver := [false, false], lostPath := [false, false], lost := false }) d

/-! ### The IPv4 layer (R180) -/

/-- ARP_REQUEST (R180). -/
def arpFx (x : IngRx) (ip : BitVec 32) (mac : BitVec 48) (from_ : BitVec 32) (d : Device) : Device :=
  let p := x.port.val
  when (ingestOn d) (fromIngest x (fun d =>
    if ip != portIp d p then d
    else sendIngest p (fit 60 (beN 6 mac.toNat ++ portMac d p ++ [0x08, 0x06, 0, 1, 8, 0, 6, 4, 0, 2] ++ portMac d p ++
      beN 4 ip.toNat ++ beN 6 mac.toNat ++ beN 4 from_.toNat)) d)) d

/-- ARP_REQUEST. -/
def execArpRequest (rx : IngRx) (ip : BitVec 32) (fromMac : BitVec 48) (fromIp : BitVec 32) (s : State) : Result :=
  act (arpFx rx ip fromMac fromIp) s

/-- IGMP_QUERY (R180): a report for each group needed. -/
def igmpQueryFx (x : IngRx) (d : Device) : Device :=
  when (ingestOn d) (fromIngest x (fun d => (d.ingPort x.port.val).groups.foldl (sendIgmp x.port.val 2) d)) d

/-- IGMP_QUERY. -/
def execIgmpQuery (rx : IngRx) (s : State) : Result := act (igmpQueryFx rx) s

/-- INGEST_FOREIGN_FRAME (R180, R151, R152): discarded and counted by what is wrong with it. -/
def ingestOddFx (x : IngRx) (why : IngestOdd) (d : Device) : Device :=
  if !d.isHead then d
  else match why with
    | .fragment => fromIngest x (fun d => when (ingestOn d) (fun d => d.bump 0x2900 1) d) d
    | .foreign => fromIngest x (fun d => when (ingestOn d) (fun d => d.bump 0x2900 1) d) d
    | .badChecksum => fromIngest x (fun d => when (ingestOn d) (fun d => d.bump 0x2904 1) d) d
    | .lldp => fromIngest x id d
    | .badFcs => ingestBroken x 0 d
    | .runt => ingestBroken x 1 d
    | .oversize => ingestBroken x 2 d

/-- INGEST_FOREIGN_FRAME. -/
def execIngestForeignFrame (rx : IngRx) (why : IngestOdd) (s : State) : Result := act (ingestOddFx rx why) s

/-! ### ST 2110 packets (R181, R186 to R190) -/

/-- Whether a packet is one of a record's stream on its port (R182). -/
def packetOf (p : RtpPacket) (r : StreamRec) : Bool :=
  let i := p.rx.port.val
  r.kind != 2 && hasBit r.paths i && p.dst == r.dst.getD i 0 && (r.src.getD i 0 == 0 || r.src.getD i 0 == p.src) && p.udp == nth r.udp i

/-- Pixels of a pgroup (R181, ST 2110-20). -/
def pgroup (r : StreamRec) : Nat :=
  if r.layout = 2 then 2
  else if r.layout = 0 then (if r.depth = 10 then 4 else if r.depth = 12 then 2 else 1)
  else if r.depth = 10 then 4 else if r.depth = 12 then 2 else 1

/-- Whether a packet lies within the subset of R181: a unicast one is to the port's own address. -/
def packetGood (d : Device) (p : RtpPacket) (r : StreamRec) : Bool :=
  (isGroup p.dst || p.dst == portIp d p.rx.port.val) &&
  p.version == 2 && p.payloadType == r.payloadType && !p.fieldBit && decide (p.udpLength ≤ 1460) &&
  decide (1 ≤ p.srds.length) && decide (p.srds.length ≤ 3) &&
  p.srds.all (fun s => decide (s.row < r.height) && decide (s.offset + s.pixels.length ≤ r.width) &&
    s.pixels.length % pgroup r == 0 && s.pixels.all (fun x => x.length == comps r.layout))

/-- The content frame of a timestamp under PTP (R188). -/
def contentPtp (r : StreamRec) (ts : BitVec 32) (now : Nat) : BitVec 32 :=
  let ticks := now * 9 / 100000
  let full : Int := ticks + (ts - BitVec.ofNat 32 ticks).toInt
  let num := full * 100000 * r.rateNum + r.align * 9 * r.rateNum
  let den : Int := 9 * r.rateDen * 1000000000
  BitVec.ofInt 32 ((2 * num + den) / (2 * den))

/-- The content frame of a packet (R188, R189). -/
def contentOf (d : Device) (s : Slot) (r : StreamRec) (p : RtpPacket) : BitVec 32 :=
  if d.tim.source = .ptp then contentPtp r p.timestamp p.nowNs
  else match s.stamps.find? (fun x => x.1 == p.timestamp) with
    | some x => x.2
    | none => d.clk.rp.frame

/-- A path's delivery noted (R187): gaps of its port, the notices of its return, the skew between the paths. -/
def pathDelivery (slot p : Nat) (seq : BitVec 32) (d : Device) : Device :=
  let s := slotOf d slot
  let d := match s.portHi.getD p none with
    | some h =>
      let n := frameDiff seq h
      if 1 < n then { d with ing := modAt d.ing p (fun l => { l with stat := modAt l.stat 6 (fun c => satAdd 16 c (n.toNat - 1)) }) } else d
    | none => d
  let d := when (s.lostPath.getD p false) (raise 0x2004 (leN 1 slot ++ leN 1 (p + 8))) d
  let d := when s.lost (raise 0x2002 (leN 1 slot)) d
  setSlot slot (fun s =>
    let hi := match s.portHi.getD p none with | some h => if 0 < frameDiff seq h then seq else h | none => seq
    let ph := setAt s.portHi p (some hi)
    let skew := match ph.getD 0 none, ph.getD 1 none with | some a, some b => (frameDiff a b).natAbs | _, _ => 0
    { s with portHi := ph, deliver := setAt s.deliver p true, lostPath := setAt s.lostPath p false, lost := false
             skew := max s.skew (min 65535 skew) }) d

/-- The verdict of the merge on a packet (R186). -/
inductive Merge where
  | use | duplicate | tooOld
  deriving DecidableEq, Repr

/-- The merge of R186. -/
def mergeOf (m : MergeState) (r : StreamRec) (seq : BitVec 32) : Merge :=
  match m.hi with
  | none => .use
  | some h =>
    if frameDiff seq h ≤ -(r.window : Int) then .tooOld else if m.used.contains seq then .duplicate else .use

/-- The merge a packet takes part in: that of the record in force, or of the one before it. -/
def slotMerge (s : Slot) (old : Bool) : MergeState := if old then s.before else s.merge

/-- That merge changed. -/
def setMerge (slot : Nat) (old : Bool) (f : MergeState → MergeState) (d : Device) : Device :=
  setSlot slot (fun s => if old then { s with before := f s.before } else { s with merge := f s.merge }) d

/-- The runs a stretch of lost numbers abandons (R195): those with a pixel after packet `a` and before packet `b`. -/
def abandonGap (slot : Nat) (w : Nat) (a b : Span) (d : Device) : Device :=
  let cs := ((slotOf d slot).asm.filter (fun x => decide (0 ≤ frameDiff x.content a.content) && decide (frameDiff x.content b.content ≤ 0))).map (fun x => x.content)
  cs.foldl (fun d c =>
    release slot c (abandon slot c (runIn w (if c = a.content then some a.last else none) (if c = b.content then some b.lo else none)) d)) d

/-- Spans in rising order of their numbers, relative to `h`. -/
def insertSpan (h : BitVec 32) (a : Span) : List Span → List Span
  | [] => [a]
  | b :: r => if frameDiff a.seq h ≤ frameDiff b.seq h then a :: b :: r else b :: insertSpan h a r

/-- What a packet `n` ahead of hi does to a merge of window `w` (R186): the numbers the new hi passes by the window, none before the
first used. -/
structure MergePass where
  next : MergeState
  lo   : Int
  hi   : Int
  used : List Int

/-- The pass of a merge at `h` to number `seq`; distances are from `h`, so that none wraps. -/
def mergePass (m : MergeState) (w : Int) (h seq : BitVec 32) : MergePass :=
  let n := frameDiff seq h
  let floor_ := match m.first with | some f => max (1 - w) (frameDiff f h) | none => 1 - w
  let used := m.used.map (fun x => frameDiff x h)
  { lo := floor_, hi := n - w, used := used.filter (fun x => decide (floor_ ≤ x) && decide (x ≤ n - w)),
    next := { m with
      hi := some seq, used := (m.used.filter (fun x => decide (n - w < frameDiff x h))) ++ [seq],
      first := match m.first with | some f => if n - frameDiff f h < w then some f else none | none => none } }

/-- A packet used moves hi (R186): the numbers it passes by the window without their having been used are lost, and abandon the runs
they would have carried pixels of (R195). -/
def advanceHi (slot : Nat) (r : StreamRec) (old : Bool) (seq : BitVec 32) (d : Device) : Device :=
  let m := slotMerge (slotOf d slot) old
  match m.hi with
  | none => setMerge slot old (fun m => { m with hi := some seq, first := some seq, used := [seq] }) d
  | some h =>
    if frameDiff seq h ≤ 0 then setMerge slot old (fun m => { m with used := m.used ++ [seq] }) d
    else
      let x := mergePass m r.window h seq
      let lost : Nat := (x.hi - x.lo + 1).toNat - x.used.length
      let d := setSlot slot (fun s => { s with lostCount := up16 s.lostCount lost }) (setMerge slot old (fun _ => x.next) d)
      if lost = 0 then d
      else
        let sp := m.spans.foldr (insertSpan h) []
        (sp.zip sp.tail).foldl (fun d (a, b) =>
          let y := max (frameDiff a.seq h + 1) x.lo
          let z := min (frameDiff b.seq h - 1) x.hi
          let got := (x.used.filter (fun n => decide (y ≤ n) && decide (n ≤ z))).length
          if y ≤ z ∧ got < (z - y + 1).toNat then abandonGap slot r.width a b d else d) d

/-- The stretch of a packet's pixels in its content frame (R195). -/
def packetSpan (r : StreamRec) (p : RtpPacket) (c : BitVec 32) : Span :=
  let at_ := p.srds.map (fun s => s.row * r.width + s.offset)
  let ends := p.srds.map (fun s => s.row * r.width + s.offset + s.pixels.length - 1)
  { seq := p.seq, content := c, lo := at_.foldl min (at_.headD 0), last := ends.foldl max 0 }

/-- A span kept while a number next to it can still be declared lost. -/
def keepSpan (slot : Nat) (r : StreamRec) (old : Bool) (x : Span) (d : Device) : Device :=
  setMerge slot old (fun m =>
    let h := m.hi.getD x.seq
    let sp := (m.spans ++ [x]).foldr (insertSpan h) []
    let far := sp.filter (fun y => decide (frameDiff y.seq h ≤ -(r.window : Int)))
    { m with spans := lastN 1 far ++ sp.filter (fun y => decide (-(r.window : Int) < frameDiff y.seq h)) }) d

/-- A content frame given to a timestamp, kept while frames near it can still come (R188, R189). -/
def stampNote (slot : Nat) (ts c : BitVec 32) (d : Device) : Device :=
  setSlot slot (fun s => { s with
    lastC := c
    stamps := if s.stamps.contains (ts, c) then s.stamps else s.stamps.filter (fun x => decide (frameDiff c x.2 < 64)) ++ [(ts, c)] }) d

/-- A used packet placed in its content frame (R188 to R190, R194): the first timestamp given a content frame has it. -/
def placePacket (slot : Nat) (r : StreamRec) (old : Bool) (p : RtpPacket) (c : BitVec 32) (d : Device) : Device :=
  let d := stampNote slot p.timestamp c d
  let s := slotOf d slot
  let second := match s.stamps.find? (fun x => x.2 == c) with | some x => x.1 != p.timestamp | none => false
  if second then
    let d := d.bump 0x2914 1
    let told := s.collided.contains c
    let d := when (!told) (raise 0x2005 (leN 1 slot ++ zeros 3 ++ leN 4 c.toNat)) d
    setSlot slot (fun s => { s with collisions := up16 s.collisions 1, collided := if told then s.collided else lastN 64 (s.collided ++ [c]) }) d
  else
    let d := keepSpan slot r old (packetSpan r p c) d
    let cut : RP := { frame := c + BitVec.ofNat 32 (presentP d) - 1, line := cutLine d, sub := 0 }
    if d.clk.rp.before (RP.start c) then
      setSlot slot (fun s => { s with offTime := up16 s.offTime 1 }) (d.bump 0x2910 1)
    else if d.clk.rp.reached cut then
      setSlot slot (fun s => { s with offTime := up16 s.offTime 1 }) (d.bump 0x290C 1)
    else takeRows slot r c (some p.timestamp) p.srds d

/-- The records of a slot a packet may belong to (R184): the one in force and those before it. -/
def candidates (s : Slot) (p : RtpPacket) : List StreamRec :=
  ((match s.strm with | some r => [r] | none => []) ++ s.hist.filterMap (fun h => h.2)).filter (packetOf p)

/-- How a packet belongs to a slot: its record, whether that governs its content frame, and whether it is one from before the record in
force. -/
structure Belongs where
  strm : StreamRec
  cuts : Bool
  old  : Bool

/-- The record of a slot that a packet belongs to: the one that governs the content frame it gives, which an older one does for frames
before the record in force (R184), else the one in force. -/
def packetRec (d : Device) (s : Slot) (p : RtpPacket) : Option Belongs :=
  match (candidates s p).find? (fun r => recFor s (contentOf d s r p) == some r) with
  | some r => some { strm := r, cuts := true, old := s.strm != some r }
  | none => match s.strm with
    | some r => if packetOf p r then some { strm := r, cuts := false, old := false } else none
    | none => none

/-- A packet of a slot's stream (R181, R186 to R190). -/
def slotPacket (slot : Nat) (b : Belongs) (p : RtpPacket) (d : Device) : Device :=
  let r := b.strm
  if !(packetGood d p r) then d.bump 0x2904 1
  else
    let d := pathDelivery slot p.rx.port.val p.seq d
    match mergeOf (slotMerge (slotOf d slot) b.old) r p.seq with
    | .tooOld => setSlot slot (fun s => { s with offTime := up16 s.offTime 1 }) (d.bump 0x290C 1)
    | .duplicate => d.bump 0x2908 1
    | .use =>
      let c := contentOf d (slotOf d slot) r p
      advanceHi slot r b.old p.seq (when b.cuts (placePacket slot r b.old p c) d)

/-- ST2110_PACKET (R174, R180, R181, R186 to R190, R225). -/
def rtpFx (p : RtpPacket) (d : Device) : Device :=
  when (ingestOn d) (fromIngest p.rx (fun d =>
    let hits := (List.range 16).filterMap (fun k => (packetRec d (slotOf d k) p).map (fun x => (k, x)))
    if hits.isEmpty then d.bump 0x2900 1 else hits.foldl (fun d x => slotPacket x.1 x.2 p d) d)) d

/-- ST2110_PACKET. -/
def execSt2110Packet (p : RtpPacket) (s : State) : Result := act (rtpFx p) s

/-- STREAM_PATH_LOST (R187): a path silent while the other delivers. -/
def pathLostFx (slot p : Nat) (d : Device) : Device :=
  let s := slotOf d slot
  match s.strm with
  | some r =>
    if ingestOn d && r.kind != 2 && r.paths == 3 && s.deliver.getD (1 - p) false && !(s.lostPath.getD p false) then
      raise 0x2003 (leN 1 slot ++ leN 1 (p + 8))
        (setSlot slot (fun s => { s with deliver := setAt s.deliver p false, lostPath := setAt s.lostPath p true }) d)
    else d
  | none => d

/-- STREAM_PATH_LOST. -/
def execStreamPathLost (slot : Fin 16) (port : Fin 2) (s : State) : Result := act (pathLostFx slot.val port.val) s

/-- STREAM_LOST (R187): no path has delivered for 4 frames. -/
def streamLostFx (slot : Nat) (d : Device) : Device :=
  let s := slotOf d slot
  match s.strm with
  | some r =>
    if ingestOn d && r.kind != 2 && !s.lost then
      raise 0x2001 (leN 1 slot) (setSlot slot (fun s => { s with lost := true, deliver := [false, false] }) d)
    else d
  | none => d

/-- STREAM_LOST. -/
def execStreamLost (slot : Fin 16) (s : State) : Result := act (streamLostFx slot.val) s

/-! ### Bulk frames (R199, R200, R409) -/

/-- The lines of a bulk buffer its slice entries need (R199). -/
def bulkLines (d : Device) (slot : Nat) (r : StreamRec) (m : SysMap) : List Nat :=
  let es := m.slices.filter (fun e => e.head == d.headIndex && e.stream == slot)
  (List.range r.height).filter (fun y => es.any (fun e => decide (e.srcY ≤ y) && decide (y < e.srcY + e.srcH)))

/-- A line of a bulk buffer as a received row (R116, R199). -/
def bulkRow (r : StreamRec) (y : Nat) (b : List Byte) : Srd :=
  let k := comps r.layout
  let n := ceilDiv (r.width * k * r.depth) 8
  let v := be (fit n b) 0 n
  let at_ := fun (i : Nat) => v / 2 ^ (8 * n - (i + 1) * r.depth) % 2 ^ r.depth
  { row := y, offset := 0, pixels := (List.range r.width).map (fun x => (List.range k).map (fun j => at_ (x * k + j))) }

/-- A bulk entry taken at the fetch position, with the status it will have; `waits`: its content frame has not begun. -/
def queueBulk (b : List Byte) (status : Nat) (waits : Bool) (d : Device) : Device :=
  let e : BulkEntry := { pos := d.hif.fetchB, slot := le b 0 1, content := BitVec.ofNat 32 (le b 4 4), addr := le b 8 8,
                         tag := BitVec.ofNat 32 (le b 0x10 4), status := BitVec.ofNat 8 status, done := !waits, waits := waits }
  setHif (fun h => { h with fetchB := h.fetchB + 1, bulk := h.bulk ++ [e] }) d

/-- A bulk entry of the queue changed. -/
def setBulk (pos : BitVec 32) (f : BulkEntry → BulkEntry) (d : Device) : Device :=
  setHif (fun h => { h with bulk := h.bulk.map (fun e => if e.pos = pos then f e else e) }) d

/-- Whether a run has a pixel on a line. -/
def runOnLine (y : Nat) (u : Run) : Bool :=
  decide ((srcAt u.entry u.first).1 ≤ y) && decide (y ≤ (srcAt u.entry (u.first + u.count - 1)).1)

/-- A line of a bulk buffer read (R199): it is a received row, or the runs it serves are abandoned for a host bus error, and the entry
completes so; behind the cut-off nothing is cut. -/
def bulkLine (e : BulkEntry) (r : StreamRec) (y : Nat) (x : HostRead) (d : Device) : Device :=
  let c := e.content
  let open_ := !(d.clk.rp.reached { frame := c + BitVec.ofNat 32 (presentP d) - 1, line := cutLine d, sub := 0 })
  match x with
  | .data b => when open_ (takeRows e.slot r c none [bulkRow r y b]) d
  | _ =>
    let d := setBulk e.pos (fun e => { e with status := 0x0A }) d
    when open_ (fun d => release e.slot c (abandon e.slot c (runOnLine y) (takeRows e.slot r c none [] d))) d

/-- A bulk frame's lines read (R199): those that have been read by now are received rows; the others are still being read. -/
def readBulk (pos : BitVec 32) (slot : Nat) (r : StreamRec) (c : BitVec 32) (lines : List HostRead) (d : Device) : Device :=
  let d := openFrame slot c (stampNote slot 0 c d)
  match d.hif.bulk.find? (fun e => e.pos == pos), cutMap d c with
  | some e, some m =>
    let ys := bulkLines d slot r m
    let got := fun (y : Nat) => lines.getD y .none
    let later := (ys.filter (fun y => got y == .none)).zipIdx.map (fun (y, i) => (d.hif.readId + i, y))
    let d := setHif (fun h => { h with readId := h.readId + later.length }) d
    let d := setBulk pos (fun e => { e with reads := later, strm := some r, done := later.isEmpty }) d
    (ys.filter (fun y => got y != .none)).foldl (fun d y => bulkLine e r y (got y) d) d
  | _, _ => setBulk pos (fun e => { e with done := true }) d

/-- Where a content frame's cut-off lies at a head (R190). -/
def cutoffOf (d : Device) (c : BitVec 32) : RP :=
  { frame := c + BitVec.ofNat 32 (presentP d) - 1, line := cutLine d, sub := 0 }

/-- A bulk entry whose content frame has begun (R199): it is read, or is late where its cut-off has been passed too; one of a slot that is no
bulk slot for that frame has nothing read. -/
def startEntry (e : BulkEntry) (d : Device) : Device :=
  let d := setBulk e.pos (fun e => { e with waits := false }) d
  let c := e.content
  if d.clk.rp.reached (cutoffOf d c) then
    raise 0x2007 (leN 1 e.slot ++ zeros 3 ++ leN 4 c.toNat) (setBulk e.pos (fun e => { e with status := 2, done := true }) d)
  else match recFor (slotOf d e.slot) c with
    | some r =>
      if r.kind ≠ 2 then setBulk e.pos (fun e => { e with done := true }) d else readBulk e.pos e.slot r c [] d
    | none => setBulk e.pos (fun e => { e with done := true }) d

/-- The bulk entries whose content frames have begun start reading (R199), in position order. -/
def startBulk (d : Device) : Device :=
  if !(ingestOn d) then d
  else (d.hif.bulk.filter (fun e => e.waits && !(d.clk.rp.before (RP.start e.content)))).foldl (fun d e => startEntry e d) d

/-- HOST_READ_COMPLETE of a bulk line (R199, R406): the line it served is a received row, or the runs it served are abandoned. -/
def bulkReadDone (id : Nat) (x : HostRead) (d : Device) : Device :=
  match d.hif.bulk.find? (fun e => e.reads.any (fun r => r.1 == id)) with
  | some e =>
    let left := e.reads.filter (fun r => r.1 != id)
    let d := setBulk e.pos (fun e => { e with reads := left, done := left.isEmpty }) d
    (match e.strm, e.reads.find? (fun r => r.1 == id) with
     | some r, some l => bulkLine e r l.2 x d
     | _, _ => d)
  | none => d

/-- HOST_READ_COMPLETE (R199, R405, R406). -/
def execHostReadComplete (id : Nat) (r : HostRead) (s : State) : Result := act (fun d => bulkReadDone id r (hostReadFx id r d)) s

/-- Whether a bulk entry names a slot and content frame that another has named before it (R199). -/
def bulkTwice (slot : Nat) (c : BitVec 32) (d : Device) : Bool :=
  (slotOf d slot).stamps.any (fun x => x.2 == c) || d.hif.bulk.any (fun e => e.waits && e.slot == slot && e.content == c)

/-- BULK_ENTRY_READ (R199, R409, R577). -/
def bulkReadFx (b : List Byte) (lines : List HostRead) (d : Device) : Device :=
  if !(ingestOn d) || !(served d) || bulkSlots d == 0 || d.hif.badB.isSome || d.hif.fetchB == d.hif.b || !d.tim.firstLock ||
      le b 0x1C 4 != d.hif.fetchB.toNat then d
  else
    let slot := le b 0 1
    let c := BitVec.ofNat 32 (le b 4 4)
    if le b 8 8 % 64 ≠ 0 then queueBulk b 4 false d
    else if 16777216 < frameDiff c d.clk.rp.frame then queueBulk b 8 false d
    else if d.clk.rp.reached (cutoffOf d c) then
      raise 0x2007 (leN 1 slot ++ zeros 3 ++ leN 4 c.toNat) (queueBulk b 2 false d)
    else if 15 < slot then queueBulk b 0 false d
    else if d.clk.rp.before (RP.start c) then (if bulkTwice slot c d then queueBulk b 2 false d else queueBulk b 0 true d)
    else match recFor (slotOf d slot) c with
      | some r =>
        if r.kind ≠ 2 then queueBulk b 0 false d
        else if bulkTwice slot c d then queueBulk b 2 false d
        else readBulk d.hif.fetchB slot r c lines (queueBulk b 0 false d)
      | none => queueBulk b 0 false d

/-- BULK_ENTRY_READ. -/
def execBulkEntryRead (bytes : List Byte) (lines : List HostRead) (s : State) : Result := act (bulkReadFx bytes lines) s

/-- BULK_ENTRY_COMPLETE (R199, R409, R415): the buffer free, the status, then the completion word, in position order. -/
def bulkDoneFx (d : Device) : Device :=
  match d.hif.bulk with
  | e :: rest =>
    if !e.done then d
    else
    let a := d.hif.ring.bulkBase + 32 * (e.pos.toNat % max 1 (bulkSlots d))
    let d := setHif (fun h => { h with bulk := rest }) d
    vector 4 (hostWrite (a + 0x18) (leN 4 e.pos.toNat) (hostWrite (a + 0x14) [e.status] d))
  | [] => d

/-- BULK_ENTRY_COMPLETE. -/
def execBulkEntryComplete (s : State) : Result := act bulkDoneFx s

/-! ### sACN (R201 to R203) -/

/-- Whether source `a` wins over source `b` (R202). -/
def sourceWins (a b : SacnSource) : Bool :=
  decide (b.priority < a.priority) || (a.priority == b.priority && decide (a.cid < b.cid))

/-- The winning source of a universe (R202). -/
def winner (us : List SacnSource) : Option SacnSource :=
  us.foldl (fun w s => match w with | some x => if sourceWins s x then some s else some x | none => some s) none

/-- The sources of a universe. -/
def sourcesOf (d : Device) (u : Nat) : List SacnSource :=
  match d.gest.univs.find? (fun x => x.univ == u) with | some x => x.sources | none => []

/-- A universe's sources put back; one that loses its last is reported (R203). -/
def putSources (u : Nat) (ss : List SacnSource) (d : Device) : Device :=
  let had := !(sourcesOf d u).isEmpty
  let rest := d.gest.univs.filter (fun x => x.univ != u)
  let d := setGest (fun g => { g with univs := if ss.isEmpty then rest else rest ++ [{ univ := u, sources := ss }] }) d
  when (had && ss.isEmpty) (raise 0x2008 (leN 2 u)) d

/-- Whether an E1.31 packet is addressed as R201 states: to its universe's group, or to the port's address. -/
def sacnTo (d : Device) (p : SacnPacket) : Bool :=
  p.dst == BitVec.ofNat 32 (0xEFFF0000 + p.univ) || p.dst == portIp d p.rx.port.val

/-- The sources of a universe after a packet of one of them (R202). -/
def sourceSays (p : SacnPacket) (ss : List SacnSource) : List SacnSource :=
  let new : SacnSource := { cid := p.cid, priority := p.priority, seq := p.seq, slots := p.slots, fresh := true }
  if p.terminated then ss.filter (fun y => y.cid != p.cid)
  else if ss.any (fun y => y.cid == p.cid) then ss.map (fun y => if y.cid = p.cid then new else y)
  else ss ++ [new]

/-- SACN_PACKET (R180, R201, R202). -/
def sacnFx (p : SacnPacket) (d : Device) : Device :=
  when (ingestOn d) (fromIngest p.rx (fun d =>
    if p.preview || p.syncOrDisc || p.slots.head? == some 0xDD || !((routed d).any (fun u => u.univ == p.univ)) then d
    else if !(sacnTo d p) then d.bump 0x2900 1
    else if 200 < p.priority ∨ p.slots.length < 1 ∨ 513 < p.slots.length then d.bump 0x2904 1
    else
      let ss := sourcesOf d p.univ
      match ss.find? (fun x => x.cid == p.cid) with
      | some x =>
        let n := (p.seq - x.seq).toInt
        if -20 ≤ n ∧ n ≤ 0 then d else putSources p.univ (sourceSays p ss) d
      | none => if 4 ≤ ss.length then d.bump 0x291C 1 else putSources p.univ (sourceSays p ss) d)) d

/-- SACN_PACKET. -/
def execSacnPacket (p : SacnPacket) (s : State) : Result := act (sacnFx p) s

/-- SACN_SOURCE_TIMEOUT (R202, R203). -/
def sacnTimeoutFx (u cid : Nat) (d : Device) : Device :=
  if !(ingestOn d) then d else putSources u ((sourcesOf d u).filter (fun x => x.cid != cid)) d

/-- SACN_SOURCE_TIMEOUT. -/
def execSacnSourceTimeout (univ : Nat) (cid : Nat) (s : State) : Result := act (sacnTimeoutFx univ cid) s

/-! ### Commands (R183 to R185, R204, R205) -/

/-- STREAM_SET (R182 to R184, R204, R577). -/
def streamSetFx (c : Cmd) (d : Device) : Device :=
  let slot := opB c 8
  if !d.isHead then refuse 0x20 c 5 [] d
  else if misaligned c ∨ 15 < slot then refuse 0x20 c 4 [1] d
  else
    let f := d.clk.rp.frame
    let done := fun (r : Option StreamRec) (d : Device) =>
      finish 0x20 c (boundaryRp d) [] (updateGroups (retryDeferred (putStream slot r f d)))
    if !(hasBit (opB c 9) 0) then done none d
    else match c.host with
      | .data b =>
        let r := readStream b
        (match streamReason d slot r with
         | some n => refuse 0x20 c 4 (leN 1 n) d
         | none => done (some r) d)
      | _ => refuse 0x20 c 0x0A [] d

/-- STREAM_SET. -/
def execStreamSet (c : Cmd) (s : State) : Result := act (streamSetFx c) s

/-- STREAM_QUERY (R205): the counts are cleared. -/
def streamQueryFx (c : Cmd) (d : Device) : Device :=
  let i := opB c 0
  if !d.isHead then refuse 0x21 c 5 [] d
  else if 15 < i then refuse 0x21 c 4 [] d
  else
    let s := slotOf d i
    finish 0x21 c d.clk.rp
      (leN 1 (bit s.strm.isSome + 2 * bit (s.deliver.getD 0 false) + 4 * bit (s.deliver.getD 1 false)) ++ zeros 1 ++
       leN 2 s.lostCount ++ leN 4 s.lastC.toNat ++ leN 2 s.abandoned ++ leN 2 s.offTime ++ leN 2 s.collisions ++ leN 2 s.skew)
      (setSlot i (fun s => { s with lostCount := 0, abandoned := 0, offTime := 0, collisions := 0, skew := 0 }) d)

/-- STREAM_QUERY. -/
def execStreamQuery (c : Cmd) (s : State) : Result := act (streamQueryFx c) s

/-- At a map switch at frame `f` (R185): slots that now fail are disabled; groups are brought up to date (R180), and universes
no longer routed are forgotten. -/
def recheckSlots (f : BitVec 32) (d : Device) : Device :=
  let fails := match d.topo.map with | some m => badSlots d m (fun i => (slotOf d i).strm) | none => ([], [])
  let d := (List.range 16).foldl (fun d i =>
    if fails.1.contains i then raise 0x2006 (leN 1 i ++ [5]) (putStream i none f d)
    else if fails.2.contains i then raise 0x2006 (leN 1 i ++ [6]) (putStream i none f d)
    else d) d
  let us := routed d
  updateGroups (retryDeferred (setGest (fun g => { g with univs := g.univs.filter (fun x => us.any (fun u => u.univ == x.univ)) }) d))

end Sys2Proof.Machine
end

