-- ==== Sys2Proof/Machine/Pattern.lean ====
section
/-! DEFINITION. Machine/Pattern.lean: sub-refresh positions (R99, R433), pattern engines: instructions, fades, their targets and
faults (R442 to R446), PATTERN_LOAD and PATTERN_CONTROL (R447, R448). -/

namespace Sys2Proof.Machine

/-- The fixtures changed. -/
def setFix (f : Fix → Fix) (d : Device) : Device := { d with fix := f d.fix }

/-- A DMX port. -/
def dmxOf (d : Device) (p : Nat) : DmxPort := d.fix.ports.getD p {}

/-- A DMX port changed. -/
def setDmx (p : Nat) (f : DmxPort → DmxPort) (d : Device) : Device := setFix (fun x => { x with ports := modAt x.ports p f }) d

/-- A string channel. -/
def strOf (d : Device) (c : Nat) : StrChan := d.fix.strs.getD c {}

/-- A string channel changed. -/
def setStr (c : Nat) (f : StrChan → StrChan) (d : Device) : Device := setFix (fun x => { x with strs := modAt x.strs c f }) d

/-- A pattern engine. -/
def patOf (d : Device) (n : Nat) : PatEngine := d.fix.pats.getD n {}

/-- A pattern engine changed. -/
def setPat (n : Nat) (f : PatEngine → PatEngine) (d : Device) : Device := setFix (fun x => { x with pats := modAt x.pats n f }) d

/-- Whether fixtures are driven (R46, R450, R514): on a node, in RUN and QUIET, once LOCKED has been reached. -/
def fixturesOn (d : Device) : Bool := !(forwardOnly d) &&
  d.isNode && d.topo.nodeId.isSome && d.tim.everLocked && (d.pwr.state == .run || d.pwr.state == .quiet)

/-- Sub-refresh starts at or before `t`, counted from the first of its display frame's own (R99); below zero while a start of
the frame before is still to come. -/
def subIndex (r : Raster) (o : OutRec) (t : RP) : Int :=
  let here := ((List.range o.count).filter (fun k => decide (subStart r o.phase o.count k ≤ t.inFrame))).length
  let late := ((List.range o.count).filter (fun k => decide (t.inFrame + r.frameSub < subStart r o.phase o.count k))).length
  (here : Int) - late

/-- Sub-refresh starts after `a` and up to `b`. -/
def subsBetween (r : Raster) (o : OutRec) (a b : RP) : Int :=
  frameDiff b.frame a.frame * o.count + subIndex r o b - subIndex r o a

/-- The `n`-th sub-refresh start strictly after `t`, from 1 (R443). -/
def subAfter (r : Raster) (o : OutRec) (t : RP) (n : Nat) : RP :=
  let i := subIndex r o t + n - 1
  let s : Int := max 1 o.count
  RP.plus r (RP.start (t.frame + BitVec.ofInt 32 (i / s))) (subStart r o.phase o.count (i % s).toNat)

/-- RAST cycles from one RP to a later one (R45, R433), from the clock's place within its sub LSB. -/
def rastCycles (c : Clock) (a b : RP) : Nat :=
  let n := RP.dist c.raster b a * 2 ^ 32 - c.frac
  if n ≤ 0 then 0 else ceilDiv n.toNat (max 1 c.raster.inc)

/-! ### Targets and fades (R442, R444, R445) -/

/-- The value of a fade at a sample instant (R444). -/
def fadeValue (d : Device) (f : Fade) (t : RP) : Nat :=
  let r := d.clk.raster
  let n : Int := if f.ms then r.subOf (f.dur * 1000000) else f.dur
  let past : Int := if f.ms then RP.dist r t f.start else subsBetween r d.out.orec f.start t
  let e := max 0 (min past n)
  if n ≤ 0 then f.goal else (f.from_ + (((f.goal : Int) - f.from_) * e * 2 + n) / (2 * n)).toNat

/-- Whether a fade has reached its duration at a sample instant (R444). -/
def fadeOver (d : Device) (f : Fade) (t : RP) : Bool :=
  let r := d.clk.raster
  if f.ms then decide (r.subOf (f.dur * 1000000) ≤ RP.dist r t f.start)
  else decide ((f.dur : Int) ≤ subsBetween r d.out.orec f.start t)

/-- The FIX data of a port in force at a frame (R424): the frame kept, or the one before it. -/
def fixAt (p : DmxPort) (f : BitVec 32) : Option (List Byte) :=
  match p.new with
  | some n => if 0 ≤ frameDiff f n.stamp then some n.data else p.prev.map (fun x => x.data)
  | none => none

/-- A target's value as it was last written. -/
def heldValue (d : Device) (t : Target) : Option Nat :=
  match t with
  | .str c => some (strOf d c).v
  | .slot p n => (mfind (dmxOf d p).engSlots n).map (fun x => x.1)

/-- A value written to a target by engine `n` (R434, R445). -/
def writeTarget (n : Nat) (t : Target) (v : Nat) (d : Device) : Device :=
  match t with
  | .str c => setStr c (fun s => { s with v := v }) d
  | .slot p k => setDmx p (fun x => { x with engSlots := mins x.engSlots k (v, n) }) d

/-- The fade of a target, whichever engine's it is. -/
def fadeOf (d : Device) (t : Target) : Option Fade :=
  (d.fix.pats.flatMap (fun p => p.fades)).find? (fun f => f.target == t)

/-- Every fade of a target ended. -/
def endFades (t : Target) (d : Device) : Device :=
  setFix (fun x => { x with pats := x.pats.map (fun p => { p with fades := p.fades.filter (fun f => f.target != t) }) }) d

/-- A target's value at an RP (R442): its fade's, or the value last written; a DMX slot no engine has written has the value its
level stands for, whose low byte the spec does not give. -/
def targetValue (t : Target) (at_ : RP) (d : Device) : Nat × Device :=
  match fadeOf d t with
  | some f => (fadeValue d f at_, d)
  | none => match heldValue d t with
    | some v => (v, d)
    | none =>
      let (x, d) := freeNext d
      let level := match t with
        | .slot p k => (((fixAt (dmxOf d p) at_.frame).getD []).getD k 0).toNat
        | .str _ => 0
      (256 * level + x % 256, d)

/-- An engine's fades ended at their current values (R447, R448). -/
def stopFades (n : Nat) (at_ : RP) (d : Device) : Device :=
  let fs := (patOf d n).fades
  setPat n (fun p => { p with fades := [] }) (fs.foldl (fun d f => writeTarget n f.target (fadeValue d f at_) d) d)

/-- The fades sampled at an instant (R443, R444): each target's value is written, and fades that are over end. -/
def sampleFades (mine : Target → Bool) (at_ : RP) (d : Device) : Device :=
  (List.range 16).foldl (fun d n =>
    let fs := (patOf d n).fades.filter (fun f => mine f.target)
    let d := fs.foldl (fun d f => writeTarget n f.target (fadeValue d f at_) d) d
    setPat n (fun p => { p with fades := p.fades.filter (fun f => !(mine f.target && fadeOver d f at_)) }) d) d

/-! ### Instructions (R442, R443, R446) -/

/-- The instructions (R442); a target is the one the field names, before X is added. -/
inductive PatOp where
  | load (r v : Nat)
  | set (xi : Bool) (t : Target) (r : Nat)
  | fade (xi : Bool) (t : Target) (e u : Nat) (ms : Bool)
  | wait (fades ms : Bool) (n : Nat)
  | sync (m r line : Nat)
  | add (toX : Bool) (r n : Nat)
  | jump (cond : Bool) (r a : Nat)
  | stop
  deriving DecidableEq, Repr

/-- The target that bits 27:14 name (R442); slot 0 stands only where X is added. -/
def targetField (xi : Bool) (w : Nat) : Option Target :=
  let t := bitsOf w 27 14
  if hasBit t 13 then (if xi || t % 512 != 0 then some (.slot (bitsOf t 12 9) (t % 512)) else none)
  else if bitsOf t 12 4 = 0 then some (.str (t % 16)) else none

/-- An instruction word read (R442); `none`: a reserved encoding or reserved bits set. -/
def patOp (w : Nat) : Option PatOp :=
  let op := bitsOf w 31 29
  let z := fun (hi lo : Nat) => bitsOf w hi lo == 0
  let xi := hasBit w 28
  if op = 0 then (if z 26 16 then some (.load (bitsOf w 28 27) (bitsOf w 15 0)) else none)
  else if op = 1 then (if z 11 0 then (targetField xi w).map (fun t => .set xi t (bitsOf w 13 12)) else none)
  else if op = 2 then
    (if z 8 0 then (targetField xi w).map (fun t => .fade xi t (bitsOf w 13 12) (bitsOf w 11 10) (hasBit w 9)) else none)
  else if op = 3 then (if z 27 17 then some (.wait xi (hasBit w 16) (bitsOf w 15 0)) else none)
  else if op = 4 then
    (if bitsOf w 28 21 ≠ 0 ∧ bitsOf w 20 13 < bitsOf w 28 21 then
      some (.sync (bitsOf w 28 21) (bitsOf w 20 13) (bitsOf w 12 0)) else none)
  else if op = 5 then
    (if z 25 16 && (!(hasBit w 26) || z 28 27) then some (.add (hasBit w 26) (bitsOf w 28 27) (bitsOf w 15 0)) else none)
  else if op = 6 then (if z 25 6 then some (.jump xi (bitsOf w 27 26) (bitsOf w 5 0)) else none)
  else if z 28 0 then some .stop else none

/-- A target with X added, where it stays in range (R442, R446). -/
def indexed (xi : Bool) (t : Target) (x : Nat) : Option Target :=
  let k := if xi then x else 0
  match t with
  | .str c => if c + k ≤ 15 then some (.str (c + k)) else none
  | .slot p n => if 1 ≤ n + k ∧ n + k ≤ 512 then some (.slot p (n + k)) else none

/-- PATTERN_FAULT (R446, R452): the engine stops at the instruction. -/
def patFault (n cause : Nat) (d : Device) : Device :=
  raise 0x6005 (leN 1 n ++ leN 1 cause ++ leN 1 (patOf d n).pc ++ zeros 1)
    (setPat n (fun p => { p with state := .faulted, fadeWait := none }) d)

/-- A schedule time moved by a duration (R443). -/
def advanceT (d : Device) (t : RP) (ms : Bool) (n : Nat) : RP :=
  if n = 0 then t
  else if ms then RP.plus d.clk.raster t (d.clk.raster.subOf (n * 1000000))
  else subAfter d.clk.raster d.out.orec t n

/-- The first RP[f:line:0] at or after `t` with f mod m = r (R442). -/
def syncT (t : RP) (m r line : Nat) : RP :=
  let f0 := if t.line < line ∨ (t.line = line ∧ t.sub = 0) then t.frame else t.frame + 1
  let k := ((List.range 512).find? (fun i => (f0 + BitVec.ofNat 32 i).toNat % m == r)).getD 0
  { frame := f0 + BitVec.ofNat 32 k, line := line, sub := 0 }

/-- The engine waits until the RP reaches T; `true` where it has (R442). -/
def waitFor (n : Nat) (t : RP) (d : Device) : Bool × Device :=
  if d.clk.rp.reached t then (true, setPat n (fun p => { p with t := t, state := .running }) d)
  else (false, setPat n (fun p => { p with t := t, state := .waiting }) d)

/-- Register `r` of an engine. -/
def regOf (p : PatEngine) (r : Nat) : Nat := nth p.v r

/-- Register `r` of an engine set. -/
def setReg (n r v : Nat) (d : Device) : Device := setPat n (fun p => { p with v := setAt p.v r (v % 65536) }) d

/-- An engine at the next instruction. -/
def nextPc (n : Nat) (d : Device) : Device := setPat n (fun p => { p with pc := (p.pc + 1) % 64 }) d

/-- A fade started (R442, R446). -/
def startFade (n : Nat) (t : Target) (e u : Nat) (ms : Bool) (d : Device) : Bool × Device :=
  let p := patOf d n
  if 16 ≤ (p.fades.filter (fun f => f.target != t)).length then (false, patFault n 1 d)
  else
    let (v, d) := targetValue t p.t d
    let f : Fade := { target := t, from_ := v, goal := regOf p e, start := p.t, dur := regOf p u, ms := ms }
    (true, nextPc n (setPat n (fun p => { p with fades := p.fades ++ [f] }) (endFades t d)))

/-- One instruction of an engine (R442, R443, R446): whether it goes on to the next. -/
def patInstr (n : Nat) (d : Device) : Bool × Device :=
  let p := patOf d n
  match patOp (p.prog.getD p.pc 0).toNat with
  | none => (false, patFault n 3 d)
  | some (.load r v) => (true, nextPc n (setReg n r v d))
  | some (.set xi t r) =>
    (match indexed xi t p.x with
     | some t => (true, nextPc n (writeTarget n t (regOf p r) (endFades t d)))
     | none => (false, patFault n 0 d))
  | some (.fade xi t e u ms) =>
    (match indexed xi t p.x with
     | some t => startFade n t e u ms d
     | none => (false, patFault n 0 d))
  | some (.wait fades ms k) =>
    let d := nextPc n d
    if fades && !p.fades.isEmpty then (false, setPat n (fun p => { p with state := .waiting, fadeWait := some (ms, k) }) d)
    else waitFor n (advanceT d p.t ms k) d
  | some (.sync m r line) =>
    if d.clk.raster.lines ≤ line then (false, patFault n 4 d) else waitFor n (syncT p.t m r line) (nextPc n d)
  | some (.add toX r k) =>
    if toX then (true, nextPc n (setPat n (fun p => { p with x := (p.x + k) % 512 }) d))
    else (true, nextPc n (setReg n r (regOf p r + k) d))
  | some (.jump cond r a) =>
    let v := (regOf p r + 65535) % 65536
    if !cond then (true, setPat n (fun p => { p with pc := a }) d)
    else if v = 0 then (true, nextPc n (setReg n r v d))
    else (true, setPat n (fun p => { p with pc := a }) (setReg n r v d))
  | some .stop => (false, setPat n (fun p => { p with state := .stopped }) d)

/-- An engine's instructions up to the next that waits, at most 256 of them (R446). -/
def patRun : Nat → Nat → Device → Device
  | 0, n, d => patFault n 2 d
  | k + 1, n, d => match patInstr n d with | (true, d) => patRun k n d | (false, d) => d

/-- Engines whose awaited fades have all ended at an instant go on (R442). -/
def patSettle (at_ : RP) (d : Device) : Device :=
  (List.range 16).foldl (fun d n =>
    let p := patOf d n
    match p.fadeWait with
    | some (ms, k) =>
      if !p.fades.isEmpty then d
      else
        (match waitFor n (advanceT d at_ ms k) (setPat n (fun p => { p with fadeWait := none, t := at_ }) d) with
         | (true, d) => patRun 256 n d
         | (false, d) => d)
    | none => d) d

/-- PATTERN_WAIT_EXPIRY (R442): the RP reaches T. -/
def patExpiryFx (n : Nat) (d : Device) : Device :=
  let p := patOf d n
  if !(fixturesOn d) || d.clk.hold.isSome || p.state != .waiting || p.fadeWait.isSome then d
  else
    let d := { d with clk := d.clk.reach p.t }
    quiet (fun d => patSettle d.clk.rp (patRun 256 n (setPat n (fun p => { p with state := .running }) d))) d

/-- An engine halted (R447, R448). -/
def haltPat (n : Nat) (at_ : RP) (d : Device) : Device :=
  setPat n (fun p => { p with state := .stopped, fadeWait := none }) (stopFades n at_ d)

/-- An engine started (R448): T, X, the registers and the address; it runs. -/
def startPat (n : Nat) (at_ : RP) (a : Nat) (v : List Nat) (d : Device) : Device :=
  patRun 256 n (setPat n (fun p => { p with t := at_, x := 0, v := v, pc := a, state := .running, fadeWait := none })
    (stopFades n at_ d))

/-- The words of a program in host memory (R447). -/
def progWords (b : List Byte) : List Word := (List.range 64).map (fun i => BitVec.ofNat 32 (le b (4 * i) 4))

/-- PATTERN_LOAD (R447). -/
def patternLoadFx (c : Cmd) (d : Device) : Device :=
  let n := opB c 8
  if !d.isNode then refuse 0x63 c 5 [] d
  else if misaligned c ∨ 15 < n then refuse 0x63 c 4 [] d
  else match c.host with
    | .data b =>
      let ws := progWords b
      (match ws.findIdx? (fun w => (patOp w.toNat).isNone) with
       | some i => refuse 0x63 c 4 (leN 1 i) d
       | none =>
         let d := when ((patOf d n).state == .running || (patOf d n).state == .waiting) (haltPat n d.clk.rp) d
         let auto := hasBit (opB c 9) 1
         let d := setPat n (fun p => { p with prog := ws, auto := auto, pc := 0, state := .stopped }) d
         let d := when (hasBit (opB c 9) 0) (setFix (fun x => { x with
           dirty := true, image := { x.image with auto := setAt x.image.auto n auto, progs := setAt x.image.progs n ws } })) d
         finish 0x63 c (boundaryRp d) [] (patSettle d.clk.rp d))
    | _ => refuse 0x63 c 0x0A [] d

/-- PATTERN_LOAD. -/
def execPatternLoad (c : Cmd) (s : State) : Result := act (patternLoadFx c) s

/-- The DMX slots an engine wrote released (R445). -/
def releaseSlots (n : Nat) (d : Device) : Device :=
  setFix (fun x => { x with ports := x.ports.map (fun p => { p with engSlots := p.engSlots.filter (fun e => e.2.2 != n) }) }) d

/-- Whether an engine already is as a STOP asks (R448). -/
def atRest (d : Device) (rel : Bool) (n : Nat) : Bool :=
  let p := patOf d n
  (p.state == .stopped || p.state == .faulted) && p.fades.isEmpty &&
  !(rel && d.fix.ports.any (fun x => x.engSlots.any (fun e => e.2.2 == n)))

/-- PATTERN_CONTROL (R448). -/
def patternControlFx (c : Cmd) (d : Device) : Device :=
  let ns := (List.range 16).filter (hasBit (opN c 0 2))
  let rel := hasBit (opB c 3) 0
  if !d.isNode then refuse 0x64 c 5 [] d
  else if 1 < opB c 2 ∨ 63 < opB c 4 then refuse 0x64 c 4 [] d
  else if opB c 2 = 0 then
    if ns.isEmpty then refuse 0x64 c 6 [] d
    else
      let v := [opN c 6 2, opN c 8 2, opN c 10 2, opN c 12 2]
      finish 0x64 c d.clk.rp [] (patSettle d.clk.rp (ns.foldl (fun d n => startPat n d.clk.rp (opB c 4) v d) d))
  else if ns.all (atRest d rel) then refuse 0x64 c 6 [] d
  else
    let d' := ns.foldl (fun d n => when rel (releaseSlots n) (haltPat n d.clk.rp d)) d
    finish 0x64 c d.clk.rp [] (patSettle d.clk.rp d')

/-- PATTERN_CONTROL. -/
def execPatternControl (c : Cmd) (s : State) : Result := act (patternControlFx c) s

end Sys2Proof.Machine
end

