-- ==== Sys2Proof/Machine/Fixtures.lean ====
section
/-! DEFINITION. Machine/Fixtures.lean: FIX frames sent and kept (R203, R424), DMX ports (R421 to R427), RDM (R428 to R431, R552),
string channels (R432 to R435, R438, R439), the boost supply (R436, R437), the photodiodes (R440, R441), the fixture record
(R449, R450). -/

namespace Sys2Proof.Machine

/-! ### FIX frames (R130, R203, R424) -/

/-- DMX_SOURCE_LOST (R426, R452). -/
def sourceNote (p back : Nat) (d : Device) : Device :=
  raise 0x6006 (leN 1 p ++ leN 1 back ++ zeros 2 ++ leN 4 (match (dmxOf d p).new with | some n => n.stamp.toNat | none => 0)) d

/-- FIX data accepted for a port (R424, R426): the greatest stamp is kept, and the one kept before it. -/
def keepFix (p : Nat) (stamp : BitVec 32) (data : List Byte) (d : Device) : Device :=
  let x := dmxOf d p
  let keep := fun (d : Device) => setDmx p (fun x => { x with prev := x.new, new := some { stamp := stamp, data := data }, lost := false }) d
  match x.new with
  | none => keep d
  | some n =>
    let k := frameDiff stamp n.stamp
    if k < 0 then d
    else if k = 0 then d.bump 0x4808 1
    else
      let was := x.lost
      when was (sourceNote p 1) (keep d)

/-- FIX (R424). -/
def fixFx (f : RxFrame) (d : Device) : Device :=
  takeNumbered f (fun h _ => h.cls == 7 && d.isNode) (fun h b d =>
    keepFix (be b 0 1) h.stamp.frame (b.drop 10) d) d

/-- FIX. -/
def execFix (f : RxFrame) (s : State) : Result := act (fixFx f) s

/-- The FIX frames of RP[f:0:0] (R203): for each routed universe whose winner delivered data in frame f − 1. -/
def sendFix (f : BitVec 32) (d : Device) : Device :=
  let us := routed d
  let p := presentP d
  let stamp := f - 1 + BitVec.ofNat 32 p
  let d := if !(ingestOn d) then d else us.foldl (fun d u =>
    match winner (sourcesOf d u.univ), d.topo.map with
    | some w, some m =>
      if !w.fresh then d
      else
        let b := beN 1 u.port ++ zeros 1 ++ beN 2 u.univ ++ beN 2 w.slots.length ++ beN 1 w.priority ++ beN 1 w.seq.toNat ++
          zeros 2 ++ w.slots
        if u.node = d.nodeNo then (if d.isNode then keepFix u.port stamp w.slots d else d)
        else match ringTo d m u.node with
          | some (_, r, pair, isX) =>
            if r.dual ∧ !(d.topo.pairs.getD pair {}).feeding then d else headSend 7 false u.node b (RP.start stamp) r pair isX d
          | none => d
    | _, _ => d) d
  setGest (fun g => { g with univs := g.univs.map (fun x => { x with sources := x.sources.map (fun s => { s with fresh := false }) }) }) d

/-! ### DMX ports (R421 to R427) -/

/-- The port record of an operand area (R421). -/
def dmxRecOf (c : Cmd) : DmxRec :=
  let z := fun (v x : Nat) => if v = 0 then x else v
  { enable := hasBit (opB c 1) 0, rdm := hasBit (opB c 1) 1, persist := hasBit (opB c 1) 2, policy := bitsOf (opB c 1) 4 3,
    divisor := opB c 2, phase := opB c 3, offset := opN c 4 4, brk := z (opN c 8 2) 176, mab := z (opN c 0xA 2) 16,
    slots := opN c 0xC 2, gap := opB c 0xE, share := z (opB c 0xF) 8, loss := z (opN c 0x10 2) 30 }

/-- Whether a port record's fields are in range (R421). -/
def dmxRanges (r : Raster) (x : DmxRec) : Bool :=
  decide (x.policy ≤ 2) && within 1 16 x.divisor && decide (x.phase < x.divisor) && decide (x.offset < r.frameSub) &&
  within 92 1000 x.brk && within 12 1000 x.mab && within 1 513 x.slots && decide (x.gap ≤ 100) && within 2 16 x.share &&
  within 5 600 x.loss

/-- A packet's length in µs (R422). -/
def packetUs (x : DmxRec) : Nat := x.brk + x.mab + x.slots * (44 + x.gap)

/-- Whether a packet fits its interval (R422). -/
def dmxFits (r : Raster) (x : DmxRec) : Bool := decide ((packetUs x + 200) * r.num ≤ x.divisor * 1000000 * r.den)

/-- RDM requests that wait at a port whose RDM is no longer enabled end NOT_APPLICABLE (R430); a transaction under way ends as it would
have (R422). -/
def dropJobs (p : Nat) (d : Device) : Device :=
  (dmxOf d p).jobs.foldl (fun d j => complete 0x61 j.cmd 6 none [] d) (setDmx p (fun x => { x with jobs := [] }) d)

/-- A port record put in force (R422, R445). -/
def putDmx (p : Nat) (r : DmxRec) (d : Device) : Device :=
  let d := setDmx p (fun x => { x with drec := r, engSlots := [] }) d
  when (!(r.enable && r.rdm)) (dropJobs p) d

/-- DMX_CONFIG (R421, R422). -/
def dmxConfigFx (c : Cmd) (d : Device) : Device :=
  let p := opB c 0
  let r := dmxRecOf c
  if !d.isNode then refuse 0x60 c 5 [] d
  else if 15 < p then refuse 0x60 c 4 [1] d
  else if !(match d.topo.record with | some n => hasBit n.dmxMask p | none => false) then refuse 0x60 c 6 [] d
  else if !(dmxRanges d.clk.raster r) then refuse 0x60 c 4 [1] d
  else if !(dmxFits d.clk.raster r) then refuse 0x60 c 4 [2] d
  else
    let d := when r.persist (setFix (fun x => { x with dirty := true, image := { x.image with ports := setAt x.image.ports p r } })) (putDmx p r d)
    finish 0x60 c (boundaryRp d) [] d

/-- DMX_CONFIG. -/
def execDmxConfig (c : Cmd) (s : State) : Result := act (dmxConfigFx c) s

/-- The next break of a port at or after the present RP that has not fallen due (R423). -/
def nextBreak (d : Device) (x : DmxPort) : Option RP :=
  let f := d.clk.rp.frame
  ((List.range 34).find? (fun i =>
    let g := f + BitVec.ofNat 32 i
    let p := RP.plus d.clk.raster (RP.start g) x.drec.offset
    g.toNat % x.drec.divisor == x.drec.phase && !(p.before d.clk.rp) && x.lastAt != some p)).map (fun i =>
      RP.plus d.clk.raster (RP.start (f + BitVec.ofNat 32 i)) x.drec.offset)

/-- The bytes of a packet at a break (R424 to R426): start code and slots; `none` where nothing is sent. -/
def packetBytes (x : DmxPort) (f : BitVec 32) : Option (List Byte) :=
  let base : Option (List Byte) :=
    if x.lost then (if x.drec.policy = 0 then fixAt x f else if x.drec.policy = 1 then some [] else none) else fixAt x f
  let stopped := x.lost && x.drec.policy == 2
  let put := fun (b : List Byte) => x.engSlots.foldl (fun b e => if e.1 < b.length then b.set e.1 (BitVec.ofNat 8 (e.2.1 / 256)) else b) b
  match base with
  | some b => some (put (fit x.drec.slots b))
  | none => if stopped || x.engSlots.isEmpty then none else some (put (zeros x.drec.slots))

/-- The comparison of a packet sent with what came back (R427). -/
def rxCompare (p : Nat) (bad : Bool) (d : Device) : Device :=
  let x := dmxOf d p
  if bad then
    let d := setDmx p (fun x => { x with mism := satAdd 16 x.mism 1 }) d
    if x.mism + 1 = 16 ∧ !x.fault then raise 0x6001 (leN 1 p ++ [0, 0, 0]) (setDmx p (fun x => { x with fault := true }) d) else d
  else
    let d := setDmx p (fun x => { x with mism := 0, fault := false }) d
    when x.fault (raise 0x6001 (leN 1 p ++ [1, 0, 0])) d

/-- An RDM transaction ended (R430): its response is kept and its command completes. -/
def endRdm (p outcome : Nat) (b : List Byte) (d : Device) : Device :=
  match (dmxOf d p).running with
  | none => d
  | some j =>
    let b := b.take 257
    finish 0x61 j.cmd j.at_ (leN 1 outcome ++ zeros 1 ++ leN 2 b.length ++ b.take 24) (setDmx p (fun x => { x with running := none, resp := b }) d)

/-- The UID of this controller (R428). -/
def rdmUid (d : Device) : List Byte := beN 2 (d.field 0x4810 15 0) ++ beN 4 (d.word 0x480C)

/-- A request as sent (R430): the source UID, the transaction number and the checksum filled in. -/
def rdmRequestBytes (d : Device) (p : Nat) (m : List Byte) : List Byte :=
  let n := be m 2 1
  let b := cut m 0 9 ++ rdmUid d ++ beN 1 (dmxOf d p).tn.toNat ++ cut m 16 (n - 16)
  b ++ beN 2 (b.foldl (fun t x => t + x.toNat) 0)

/-- Whether a request goes to a broadcast UID (E1.20). -/
def rdmBroadcast (m : List Byte) : Bool := be m 5 4 == 0xFFFFFFFF

/-- What an interval is given to (R429, R431). -/
def rdmTurn (x : DmxPort) : Option (Option RdmJob) :=
  if x.since + 1 < x.drec.share ∨ !x.drec.rdm then none
  else match x.jobs.find? (fun j => !j.discover) with
    | some j => some (some j)
    | none => if x.jobs.any (fun j => j.discover) then some none else none

/-- An RDM request sent at a break (R428, R429): a broadcast one is answered by nobody. -/
def rdmSend (p : Nat) (bad : Bool) (j : RdmJob) (d : Device) : Device :=
  let sent := rdmRequestBytes d p j.message
  let d := setDmx p (fun x => { x with
    running := some j, since := 0, tn := x.tn + 1, sent := sent, packet := some (d.clk.rp, x.drec),
    jobs := x.jobs.filter (fun y => y.at_ != j.at_ || y.cmd != j.cmd) }) d
  when (rdmBroadcast j.message) (endRdm p 1 []) (rxCompare p bad d)

/-- A DMX packet sent at a break (R423 to R426). -/
def packetSend (p : Nat) (bad : Bool) (d : Device) : Device :=
  let here := d.clk.rp
  match packetBytes (dmxOf d p) here.frame with
  | some b =>
    let us := packetUs (dmxOf d p).drec
    let busy := RP.plus d.clk.raster here (d.clk.raster.subOf (us * 1000))
    rxCompare p bad (setDmx p (fun x => { x with sent := b, since := satAdd 255 x.since 1, busyTo := some busy, packet := some (here, x.drec) }) d)
  | none => d

/-- TX in a packet `ns` after its break began (R420, R421): the break, the mark after it, and slots of a start bit, eight data bits from the
lowest and two stop bits, with the gap between them. -/
def packetLevel (r : DmxRec) (bytes : List Byte) (ns : Nat) : Bool :=
  let t := ns - (r.brk + r.mab) * 1000
  let slot := (44 + r.gap) * 1000
  let b := t % slot / 4000
  if ns < r.brk * 1000 then false
  else if ns < (r.brk + r.mab) * 1000 ∨ 8 < b then true
  else match bytes[t / slot]? with
    | some x => if b = 0 then false else hasBit x.toNat (b - 1)
    | none => true

/-- DMXn_DE and DMXn_TX at the present RP (R420, R429): DE high but for a port that is not driven and for the wait for an RDM response; TX
at mark outside packets. -/
def dmxLine (d : Device) (p : Nat) : Bool × Bool :=
  let x := dmxOf d p
  if !(fixturesOn d) || !x.drec.enable then (false, true)
  else match x.packet with
    | some (at_, r) =>
      let ns := (d.clk.raster.nsOf (RP.dist d.clk.raster d.clk.rp at_)).toNat
      (x.running.isNone || decide (ns < (r.brk + r.mab + x.sent.length * (44 + r.gap)) * 1000), packetLevel r x.sent ns)
    | none => (true, true)

/-- A break that its port can make: what it sends (R423 to R429). -/
def breakTurn (p : Nat) (bad : Bool) (x : DmxPort) (d : Device) : Device :=
  let here := d.clk.rp
  let d := patSettle here (sampleFades (fun t => match t with | .slot q _ => q == p | .str _ => false) here d)
  match rdmTurn x with
  | some (some j) => rdmSend p bad j d
  | some none => setDmx p (fun x => { x with since := 0 }) d
  | none => packetSend p bad d

/-- A DMX_BREAK's work at its RP (R423 to R429). -/
def breakWork (p : Nat) (bad : Bool) (d : Device) : Device :=
  let x := dmxOf d p
  let here := d.clk.rp
  let d := setDmx p (fun x => { x with lastAt := some here }) d
  if (match x.busyTo with | some t => here.before t | none => false) then
    setFix (fun y => { y with skipped := satAdd 65535 y.skipped 1 }) d
  else breakTurn p bad x (when x.running.isSome (endRdm p 3 []) d)

/-- DMX_BREAK (R423): the RP reaches the port's next break. -/
def dmxBreakFx (p : Nat) (bad : Bool) (d : Device) : Device :=
  let x := dmxOf d p
  if !(fixturesOn d) || d.clk.hold.isSome || !x.drec.enable then d
  else match nextBreak d x with
    | some t => let d := { d with clk := d.clk.reach t }; quiet (breakWork p bad) d
    | none => d

/-- DMX_SOURCE_LOST (R426): a port that has never accepted a FIX frame has no source to lose (DEDUCED, log entry 167). -/
def dmxLostFx (p : Nat) (d : Device) : Device :=
  let x := dmxOf d p
  if !(fixturesOn d) || !x.drec.enable || x.lost || x.new.isNone then d
  else sourceNote p 0 (setDmx p (fun x => { x with lost := true }) d)

/-- DMX_SOURCE_LOST. -/
def execDmxSourceLost (port : Fin 16) (s : State) : Result := act (dmxLostFx port.val) s

/-! ### RDM (R428 to R431, R552) -/

/-- A job put among those that wait at a port, in admission order (R430): by the positions of the commands. -/
def queueJob (j : RdmJob) : List RdmJob → List RdmJob
  | [] => [j]
  | y :: r => if 0 < frameDiff y.cmd.position j.cmd.position then j :: y :: r else y :: queueJob j r

/-- RDM_REQUEST (R430, R577). -/
def rdmRequestFx (c : Cmd) (d : Device) : Device :=
  let p := opB c 8
  if !d.isNode then refuse 0x61 c 5 [] d
  else if misaligned c ∨ 15 < p ∨ 1 < opB c 9 then refuse 0x61 c 4 [] d
  else
    let ok := (dmxOf d p).drec.enable && (dmxOf d p).drec.rdm
    let job := fun (m : List Byte) (disc : Bool) (d : Device) =>
      setDmx p (fun x => { x with jobs := queueJob { cmd := c, at_ := d.clk.rp, message := m, discover := disc } x.jobs }) d
    if opB c 9 = 1 then (if ok then job [] true d else refuse 0x61 c 6 [] d)
    else match c.host with
      | .data b =>
        if be b 0 1 ≠ 0xCC ∨ be b 1 1 ≠ 1 ∨ be b 2 1 < 24 then refuse 0x61 c 4 [] d
        else if !ok then refuse 0x61 c 6 [] d
        else job (b.take 256) false d
      | _ => refuse 0x61 c 0x0A [] d

/-- RDM_REQUEST. -/
def execRdmRequest (c : Cmd) (s : State) : Result := act (rdmRequestFx c) s

/-- RDM_RESPONSE (R429, R430): a response, or none in time. -/
def rdmResponseFx (p outcome : Nat) (b : List Byte) (d : Device) : Device :=
  if !(fixturesOn d) then d else endRdm p outcome (if outcome = 0 then b else []) d

/-- RDM_RESPONSE. -/
def execRdmResponse (port : Fin 16) (outcome : Fin 4) (bytes : List Byte) (s : State) : Result :=
  act (rdmResponseFx port.val outcome.val bytes) s

/-- RDM_DISCOVERY_TIMER (R431): a discovery that the period or a request asked for has ended with these UIDs. -/
def rdmDiscoveryFx (p : Nat) (uids : List Nat) (d : Device) : Device :=
  let x := dmxOf d p
  let asked := x.jobs.filter (fun j => j.discover)
  if !(fixturesOn d) || !x.drec.enable || !x.drec.rdm || (d.field 0x4814 11 0 == 0 && asked.isEmpty) then d
  else
    let us := uids.take 64
    let d := setDmx p (fun y => { y with uids := us, overflow := decide (64 < uids.length), jobs := y.jobs.filter (fun j => !j.discover) }) d
    let d := when (us != x.uids) (raise 0x6002 (leN 1 p ++ zeros 1 ++ leN 2 x.uids.length ++ leN 2 us.length)) d
    asked.foldl (fun d j => finish 0x61 j.cmd j.at_ [] d) d

/-- RDM_DISCOVERY_TIMER. -/
def execRdmDiscoveryTimer (port : Fin 16) (uids : List Nat) (s : State) : Result := act (rdmDiscoveryFx port.val uids) s

/-- The buffer FIX_RDM_INDEX selects (R552). -/
def rdmBuffer (d : Device) : List Byte :=
  let x := dmxOf d (d.field 0x4818 3 0)
  if hasBit (d.word 0x4818) 4 then leN 4 x.uids.length ++ x.uids.flatMap (leN 6) else leN 4 x.resp.length ++ x.resp

/-- FIX_RDM_DATA_READ (R552): the word is returned and WORD advances. -/
def rdmDataFx (d : Device) : Device :=
  let w := d.field 0x4818 15 8
  let d := { d with lastRead := BitVec.ofNat 32 (le (rdmBuffer d) (4 * w) 4) }
  d.setWord 0x4818 (d.word 0x4818 - 256 * w + 256 * ((w + 1) % 256))

/-- FIX_RDM_DATA_READ. -/
def execFixRdmDataRead (s : State) : Result := act rdmDataFx s

/-! ### Strings (R432 to R435, R438, R439) -/

/-- STRING_FAULT (R452). -/
def stringNote (ch cause : Nat) (d : Device) : Device := raise 0x6003 (leN 1 ch ++ leN 1 cause ++ zeros 2) d

/-- v′ of a channel (R433). -/
def strEffective (s : StrChan) : Nat := min ((s.v * s.trim + 16384) / 32768) 65535

/-- Whether strings may conduct at all (R432, R433, R437): driven, the boost running, and no shutter window holding ROW_EN inactive. -/
def strAllowed (d : Device) : Bool :=
  let ws := d.sched.shutters
  fixturesOn d && !d.fix.stopped && !(ws.any (fun w => w.isOpen && w.action == 1)) &&
  (!(ws.any (fun w => w.enabled && w.action == 2)) || ws.any (fun w => w.isOpen && w.action == 2))

/-- The strings at a sub-refresh start (R432, R433, R444): fades are sampled, then each enabled channel's on-time is set from
the RAST cycles to the next start. -/
def strSample (d : Device) : Device :=
  if !(fixturesOn d) then d
  else
    let here := d.clk.rp
    let d := sampleFades (fun t => match t with | .str _ => true | .slot _ _ => false) here d
    let n := rastCycles d.clk here (subAfter d.clk.raster d.out.orec here 1)
    let ok := strAllowed d
    let d := setFix (fun x => { x with strs := x.strs.map (fun s =>
      if s.enable then
        let on := (strEffective s * n + 32767) / 65535
        { s with sampled := strEffective s, on := on,
                 lit := if ok && s.fault.isNone && decide (0 < on) then
                   some (RP.plus d.clk.raster here (on * d.clk.raster.inc / 2 ^ 32)) else s.lit }
      else { s with sampled := 0, on := 0 }) }) d
    patSettle here d

/-- Whether a channel may conduct now (R432 to R437). -/
def strMay (d : Device) (ch : Nat) : Bool := strAllowed d && (strOf d ch).enable && (strOf d ch).fault.isNone

/-- Whether a channel conducts at the present RP (R433): from the sub-refresh start, for its on-time. -/
def strGate (d : Device) (ch : Nat) : Bool :=
  let start := subAfter d.clk.raster d.out.orec d.clk.rp 0
  strMay d ch && decide ((RP.dist d.clk.raster d.clk.rp start).toNat * 2 ^ 32 + d.clk.frac < (strOf d ch).on * d.clk.raster.inc)

/-- A string operand block put in force (R434, R439). -/
def putStr (ch : Nat) (b : List Byte) (d : Device) : Device :=
  let fl := le b 1 1
  setStr ch (fun s =>
    let fb := hasBit fl 1
    let fresh := (fb && !s.feedback) || hasBit fl 6
    { s with enable := hasBit fl 0, feedback := fb, sensor := bitsOf fl 3 2, iset := le b 2 2, drainMax := le b 6 2,
             v := if hasBit fl 5 then le b 4 2 else s.v, trim := if fb then s.trim else 32768, rref := if fresh then none else s.rref,
             missed := 0, fault := if hasBit fl 0 then s.fault else none }) d

/-- STRING_CONFIG (R434); a reference that it resets goes from the record too (R439, R449). -/
def stringConfigFx (c : Cmd) (d : Device) : Device :=
  let ch := opB c 0
  if !d.isNode then refuse 0x62 c 5 [] d
  else if 15 < ch ∨ bitsOf (opB c 1) 3 2 = 3 ∨ 4095 < opN c 2 2 ∨ opN c 6 2 < 100 ∨ 6000 < opN c 6 2 then refuse 0x62 c 4 [] d
  else
    let b := fit 32 c.ops
    let was := (strOf d ch).rref
    let d := putStr ch b d
    let d := when (hasBit (opB c 1) 4 || was != (strOf d ch).rref) (fun d => setFix (fun x => { x with
      dirty := true, image := { x.image with strs := modAt x.image.strs ch (fun e =>
        (if hasBit (opB c 1) 4 then b else e.1, (strOf d ch).rref)) } }) d) d
    finish 0x62 c (boundaryRp d) [] d

/-- STRING_CONFIG. -/
def execStringConfig (c : Cmd) (s : State) : Result := act (stringConfigFx c) s

/-- STRING_FAULT (R435): the channel is switched off. -/
def stringFaultFx (ch cause : Nat) (d : Device) : Device :=
  if !(strMay d ch) then d else stringNote ch cause (setStr ch (fun s => { s with fault := some cause }) d)

/-- STRING_FAULT. -/
def execStringFault (ch : Fin 16) (cause : Fin 2) (s : State) : Result := act (stringFaultFx ch.val cause.val) s

/-- STRING_RETRY (R435). -/
def stringRetryFx (ch : Nat) (good : Bool) (d : Device) : Device :=
  if !(fixturesOn d) || (strOf d ch).fault.isNone || !good then d
  else stringNote ch 5 (setStr ch (fun s => { s with fault := none }) d)

/-- STRING_RETRY. -/
def execStringRetry (ch : Fin 16) (good : Bool) (s : State) : Result := act (stringRetryFx ch.val good) s

/-- A channel's reference response set or reset in what is kept (R439, R449). -/
def keepRef (ch : Nat) (r : Int) (d : Device) : Device :=
  setFix (fun x => { x with dirty := true, image := { x.image with strs := modAt x.image.strs ch (fun e => (e.1, some r)) } })
    (setStr ch (fun s => { s with rref := some r }) d)

/-- A photodiode input of a reading (R434). -/
def inputOf (r : Reading) (i : Nat) : Nat := if i = 0 then r.x else if i = 1 then r.y else r.z

/-- A channel's trim after a response (R439). A response of 0 beside a reference of 0 gives no target: it is a free value. -/
def trimStep (ch : Nat) (r : Int) (d : Device) : Device :=
  let s := strOf d ch
  match s.rref with
  | none => keepRef ch r d
  | some q =>
    if 8 * r < q then stringNote ch 3 d
    else
      let (target, d) : Int × Device :=
        if r ≤ 0 then (let (v, d) := freeNext d; ((v : Int), d)) else ((65536 * q + r) / (2 * r), d)
      let moved := clamp target ((s.trim : Int) - 32) (s.trim + 32)
      let new := (clamp moved 16384 65535).toNat
      let d := setStr ch (fun s => { s with trim := new }) d
      when ((new == 16384 || new == 65535) && new != s.trim) (stringNote ch 2) d

/-- The end of a row scan after a sub-refresh start, in sub LSB (R330): where the dark gap begins. -/
def scanSub (r : Raster) (o : OutRec) : Nat :=
  let one := fun (s : RowSet) => ceilDiv (s.n * (s.g + s.b) * 4096 * r.num * r.frameSub) (r.den * 297000000 * max 1 o.gclkMul)
  max (if o.uses false then one o.setA else 0) (if o.uses true then one o.setB else 0)

/-- Whether the span of a probe of `k` channels fits the present sub-refresh (R438): in the dark gap at its end, outside an open window with
action BLANK, the sensor free. -/
def probeFits (d : Device) (k : Nat) : Bool :=
  let r := d.clk.raster
  let at_ := fun (n : Nat) => subAfter r d.out.orec d.clk.rp n
  let scan := if d.out.running then scanSub r d.out.orec else 0
  decide ((scan : Int) + r.subOf ((k + 1) * 40000) ≤ RP.dist r (at_ 1) (at_ 0)) &&
  !(d.sched.shutters.any (fun w => w.isOpen && w.action == 1)) && d.fix.sensor.isEmpty && d.cal.win.isNone

/-- STRING_FEEDBACK_PROBE (R438, R439): a probe's readings, or a period that passed without one; where its span does not fit, the probe
moves to a later sub-refresh. -/
def probeFx (dark : Reading) (rs : List (Nat × Reading)) (missed : Bool) (d : Device) : Device :=
  if !(fixturesOn d) then d
  else
    let chs := (List.range 16).filter (fun ch => (strOf d ch).feedback && (strOf d ch).enable)
    if missed then
      chs.foldl (fun d ch =>
        let n := (strOf d ch).missed + 1
        when (n == 3) (stringNote ch 4) (setStr ch (fun s => { s with missed := n }) d)) d
    else if !(probeFits d chs.length) then d
    else
      chs.foldl (fun d ch =>
        match rs.find? (fun x => x.1 == ch) with
        | some (_, r) =>
          let i := (strOf d ch).sensor
          trimStep ch ((inputOf r i : Int) - inputOf dark i) (setStr ch (fun s => { s with missed := 0 }) d)
        | none => d) d

/-- STRING_FEEDBACK_PROBE. -/
def execStringFeedbackProbe (dark : Reading) (readings : List (Nat × Reading)) (missed : Bool) (s : State) : Result :=
  act (probeFx dark readings missed) s

/-! ### The boost supply (R436, R437) -/

/-- v_min and v_max in 10 mV (R436, R535). -/
def vMin (d : Device) : Nat := nearest 500 6000 (d.field 0x4820 12 0)

/-- v_max. -/
def vMax (d : Device) : Nat := nearest 500 6000 (d.field 0x4820 28 16)

/-- A rail voltage in 10 mV from its ball's in µV, by FIX_BOOST_CFG.RATIO (R436). -/
def railVolts (d : Device) (uv : Nat) : Nat := uv * (d.word 0x4824 / 65536) / 2560000

/-- The headroom in 10 mV (R436, R535). -/
def headroom (d : Device) : Nat := nearest 20 200 (d.field 0x4824 8 0)

/-- A channel's need in 10 mV (R436): V_f + V_sense + headroom, V_f being what lies between the rail, the drain and the sense resistor;
rounded down (DESIGN CHOICE, log entry 165). -/
def boostNeed (d : Device) (m : BoostMeas) (x : StringMeas) : Nat :=
  ((m.fb : Int) - x.drain).toNat * (d.word 0x4824 / 65536) / 2560000 + headroom d

/-- Whether a channel has conducted within the last 100 ms (R436). -/
def litLately (d : Device) (ch : Nat) : Bool :=
  match (strOf d ch).lit with
  | some t => decide (d.clk.raster.nsOf (RP.dist d.clk.raster d.clk.rp t) ≤ 100000000)
  | none => false

/-- The neediest of the channels that count, with its need (R436): the first of equals. -/
def neediest (d : Device) (m : BoostMeas) : Option (Nat × Nat) :=
  ((m.chans.filter (fun x => decide (x.ch < 16) && (strOf d x.ch).enable && litLately d x.ch)).map (fun x => (x.ch, boostNeed d m x))).foldl
    (fun w n => match w with | some x => if x.2 < n.2 then some n else some x | none => some n) none

/-- BOOST_STEP (R436): the setpoint moves towards the largest need, up by at most 100 mV, down by at most 10 mV. -/
def boostStepFx (m : BoostMeas) (d : Device) : Device :=
  if !(fixturesOn d) || d.fix.stopped then d
  else
    let d := setFix (fun x => { x with measured := railVolts d m.fb }) d
    match neediest d m with
    | none => d
    | some (ch, n) =>
      let target := clamp n (vMin d) (vMax d)
      let sp : Int := d.fix.setpoint
      let new := if d.fix.limited then (vMax d : Int) else clamp target (sp - 1) (sp + 10)
      setFix (fun x => { x with setpoint := new.toNat, neediest := ch }) d

/-- BOOST_STEP. -/
def execBoostStep (m : BoostMeas) (s : State) : Result := act (boostStepFx m) s

/-- BOOST_LIMIT (R452). -/
def boostNote (cause need : Nat) (d : Device) : Device := raise 0x6004 (leN 1 cause ++ zeros 1 ++ leN 2 need) d

/-- BOOST_LIMIT (R437): the need above v_max, overvoltage or overcurrent, or the end of the first. -/
def boostLimitFx (cause need : Nat) (d : Device) : Device :=
  if !(fixturesOn d) then d
  else if cause = 0 then
    (if d.fix.limited || d.fix.stopped || decide (need ≤ vMax d) then d
     else boostNote 0 need (setFix (fun x => { x with limited := true, setpoint := vMax d }) d))
  else if cause = 3 then
    (if d.fix.limited && decide (need ≤ vMax d) then boostNote 3 need (setFix (fun x => { x with limited := false }) d) else d)
  else if d.fix.stopped then d
  else boostNote cause need (setFix (fun x => { x with stopped := true }) d)

/-- BOOST_LIMIT. -/
def execBoostLimit (cause : Fin 4) (need : Nat) (s : State) : Result := act (boostLimitFx cause.val need) s

/-- BOOST_RESTART (R437): from v_max. -/
def boostRestartFx (d : Device) : Device :=
  if !(fixturesOn d) || !d.fix.stopped then d
  else boostNote 3 0 (setFix (fun x => { x with stopped := false, setpoint := vMax d }) d)

/-- BOOST_RESTART. -/
def execBoostRestart (s : State) : Result := act boostRestartFx s

/-! ### The photodiodes (R440, R441) -/

/-- The first dark-gap start at or after an RP (R330, R441); at once where no scan runs. -/
def darkStart (d : Device) (at_ : RP) : RP :=
  if !d.out.running then at_
  else
    let r := d.clk.raster
    let n := scanSub r d.out.orec
    let before := RP.plus r at_ (-(n : Int) - 1)
    RP.plus r (subAfter r d.out.orec before 1) n

/-- The RP at which a SENSOR_QUERY that can be served at an RP begins (R441). -/
def queryStart (d : Device) (c : Cmd) (at_ : RP) : RP := if hasBit (opB c 4) 0 then darkStart d at_ else at_

/-- SENSOR_QUERY (R440, R441): it is served when the sensor is free. -/
def sensorQueryFx (c : Cmd) (d : Device) : Device :=
  let n := opN c 0 4
  if !d.isNode then refuse 0x65 c 5 [] d
  else if n < 1 ∨ d.clk.raster.frameSub < n then refuse 0x65 c 4 [] d
  else
    let at_ := d.clk.rp
    let free := d.fix.sensor.isEmpty && d.cal.win.isNone
    setFix (fun x => { x with sensor := x.sensor ++ [(at_, c)], sensorAt := if free then queryStart d c at_ else x.sensorAt }) d

/-- SENSOR_QUERY. -/
def execSensorQuery (c : Cmd) (s : State) : Result := act (sensorQueryFx c) s

/-- The query that waited begins, now that the sensor is free (R440). -/
def sensorNext (d : Device) : Device :=
  match d.fix.sensor with
  | (_, c) :: _ => setFix (fun x => { x with sensorAt := queryStart d c d.clk.rp }) d
  | [] => d

/-- SENSOR_WINDOW_END (R440, R441, R464): a calibration window's reading is taken; else the query served completes, and the
next begins. -/
def sensorEndFx (r : Reading) (d : Device) : Device :=
  match d.cal.win with
  | some w => let d := calWindow w r d; when d.cal.win.isNone sensorNext d
  | none =>
    match d.fix.sensor with
    | [] => d
    | (at_, c) :: rest =>
      let word := fun (i v : Nat) => leN 4 (v % 2 ^ 20 + if hasBit r.saturated i then 2 ^ 31 else 0)
      finish 0x65 c at_ (word 0 r.x ++ word 1 r.y ++ word 2 r.z ++ word 3 r.dk ++ d.fix.sensorAt.bytes ++ leN 4 r.cycles)
        (sensorNext (setFix (fun x => { x with sensor := rest }) d))

/-- SENSOR_WINDOW_END. -/
def execSensorWindowEnd (r : Reading) (s : State) : Result := act (sensorEndFx r) s

/-! ### The fixture record (R449, R450) -/

/-- The 32 bytes of a port record as R421 lays them out. -/
def dmxBytes (p : Nat) (x : DmxRec) : List Byte :=
  leN 1 p ++ leN 1 (bit x.enable + 2 * bit x.rdm + 4 * bit x.persist + 8 * x.policy) ++ leN 1 x.divisor ++ leN 1 x.phase ++ leN 4 x.offset ++
    leN 2 x.brk ++ leN 2 x.mab ++ leN 2 x.slots ++ leN 1 x.gap ++ leN 1 x.share ++ leN 2 x.loss ++ zeros 14

/-- The bytes of a fixture record in flash (R449): r_ref takes 4 bytes behind its channel's block, 0x80000000 where there is none (DESIGN
CHOICE, log entry 166). -/
def fixImage (r : FixRec) : List Byte :=
  recSealed ([0x5A, 0x4C, 0x46, 0x58] ++ leN 2 0x0100 ++ zeros 6 ++ leN 4 r.seq.toNat ++ zeros 48 ++
    r.ports.zipIdx.flatMap (fun (x, p) => dmxBytes p x) ++
    r.strs.flatMap (fun (b, q) => fit 32 b ++ leN 4 (match q with | some v => unsig 32 v | none => 0x80000000)) ++
    leN 2 ((r.auto.zipIdx.map (fun (a, n) => if a then 2 ^ n else 0)).sum) ++ zeros 14 ++
    r.progs.flatMap (fun ws => ws.flatMap (fun w => leN 4 w.toNat)))

/-- Where copy `k` of the fixture record lies in flash, and the bytes of a valid record there (R449). -/
def fixFlash (d : Device) (k : Nat) : Nat × List Byte :=
  (d.field 0x4848 31 16 * 65536 + 0x8000 * k, match d.fix.recs.getD k none with | some r => fixImage r | none => [])

/-- The newest valid fixture record (R304): each is 5,268 bytes long and fits its copy of 32 KiB. -/
def newestFix (x : Fix) : Option (Nat × FixRec) := newest FixRec.seq (fun _ => true) x.recs

/-- FIXTURE_RECORD_WRITE (R305, R449): the copy that is not the newest is written; after a flash error it is not valid, and
the write is tried again. -/
def fixtureWriteFx (ok : Bool) (d : Device) : Device :=
  if !d.isNode || !d.fix.dirty then d
  else
    let a := otherArea (newestFix d.fix)
    if ok then setFix (fun x =>
      let r := { x.image with seq := nextRecSeq FixRec.seq (newestFix x) }
      { x with dirty := false, recs := setAt x.recs a (some r), image := r }) d
    else raise 0x3011 (leN 1 a ++ zeros 3) (setFix (fun x => { x with recs := setAt x.recs a none }) d)

/-- FIXTURE_RECORD_WRITE. -/
def execFixtureRecordWrite (ok : Bool) (s : State) : Result := act (fixtureWriteFx ok) s

/-- The newest valid record loaded at start-up (R449). -/
def loadFixtures (d : Device) : Device :=
  match newestFix d.fix with
  | none => d
  | some (_, r) =>
    let d := (r.ports.zipIdx).foldl (fun d (x, p) => setDmx p (fun y => { y with drec := x }) d) d
    let d := (r.strs.zipIdx).foldl (fun d (e, ch) => setStr ch (fun s => { s with rref := e.2 }) (putStr ch e.1 d)) d
    let d := setFix (fun x => { x with
      pats := x.pats.zipIdx.map (fun (p, n) => { p with prog := r.progs.getD n p.prog, auto := r.auto.getD n false }) }) d
    setFix (fun x => { x with image := r, loaded := true }) d

/-- At a boundary from which fixtures may be driven, engines with their autostart bit start (R450); a port whose record does
not suit the raster is not driven (R575). -/
def autostart (d : Device) : Device :=
  if !(fixturesOn d) || d.fix.started then d
  else
    let r := d.clk.raster
    let d := setFix (fun x => { x with ports := x.ports.map (fun p =>
      { p with drec := { p.drec with enable := p.drec.enable && dmxRanges r p.drec && dmxFits r p.drec } }) }) d
    let ns := if d.fix.loaded then (List.range 16).filter (fun n => (patOf d n).auto) else []
    let d := setFix (fun x => { x with started := true }) d
    patSettle d.clk.rp (ns.foldl (fun d n => startPat n (boundaryRp d) 0 [0, 0, 0, 0] d) d)

end Sys2Proof.Machine
end

