-- ==== Sys2Proof/Machine/Calib.lean ====
section
/-! DEFINITION. Machine/Calib.lean: calibration on command: running and waiting (R453 to R456), commit and phase-in (R457 to
R459), CAL_LINK (R460 to R462), CAL_COLOUR (R463 to R467), CAL_METER (R468, R469). -/

namespace Sys2Proof.Machine

/-- CAL_DONE (R470), with the quality figure kept (R453). -/
def calDone (kind : Nat) (j : CalJob) (committed : Bool) (q : Nat) (d : Device) : Device :=
  raise 0x7001 (leN 1 kind ++ leN 1 (bit !committed) ++ zeros 2 ++ leN 4 j.cmd.tag.toNat ++ leN 4 q)
    (setCal (fun c => { c with quality := setAt c.quality kind q }) d)

/-- A calibration ended: its command completes OK with its result, and CAL_DONE is reported (R457). -/
def calEnd (kind : Nat) (j : CalJob) (committed : Bool) (q : Nat) (result : List Byte) (d : Device) : Device :=
  calDone kind j committed q (finish (calOp kind) j.cmd j.at_ result (calClear kind d))

/-- A commit write that failed: FLASH_ERROR, the values unchanged (R457). -/
def calFlashError (kind : Nat) (j : CalJob) (d : Device) : Device := complete (calOp kind) j.cmd 0x0B none [] (calClear kind d)

/-- Ports a CAL_LINK sweeps (R460, R461). -/
def linkPorts (d : Device) (c : Cmd) : List Nat := (List.range 10).filter (fun p => hasBit (opN c 0 2) p && (d.isHead || decide (p < 8)))

/-- Whether the resource a kind holds is free (R453): the photodiodes for CAL_COLOUR. -/
def calFree (kind : Nat) (d : Device) : Bool := kind != 1 || (d.fix.sensor.isEmpty && d.cal.win.isNone)

/-- A calibration started (R454, R459): its marker is written. -/
def calBegin (kind : Nat) (j : CalJob) (d : Device) : Device :=
  let j := { j with start := d.clk.rp }
  let ports := linkPorts d j.cmd
  let d := setCal (fun c => { c with
    running := setAt c.running kind (some j), waiting := setAt c.waiting kind none,
    marker := setAt c.marker kind (some (j.cmd.tag, j.start)) }) (calClear kind d)
  if kind = 0 then setCal (fun c => { c with ports := ports }) d
  else if kind = 2 then setCal (fun c => { c with chans := (List.range 6).filter (hasBit (opB j.cmd 0)) }) d
  else d

/-- CAL_START (R454): a waiting calibration starts once none of its kind runs and its resource is free. -/
def calStartFx (kind : Nat) (d : Device) : Device :=
  match d.cal.waiting.getD kind none with
  | some j => if (d.cal.running.getD kind none).isSome || !(calFree kind d) || d.pwr.state != .run then d else calBegin kind j d
  | none => d

/-- CAL_START. -/
def execCalStart (kind : Fin 3) (s : State) : Result := act (calStartFx kind.val) s

/-- A calibration command in effect (R454): it starts, or waits in place of the one that waited. -/
def calPlace (kind : Nat) (c : Cmd) (d : Device) : Device :=
  let j : CalJob := { cmd := c, at_ := d.clk.rp, start := d.clk.rp }
  calStartFx kind (setCal (fun x => { x with waiting := setAt x.waiting kind (some j) }) (calDrop kind 1 d))

/-- CAL_LINK (R455, R460). -/
def calLinkFx (c : Cmd) (d : Device) : Device :=
  if d.pwr.state != .run then refuse 0x70 c 6 [] d
  else if opN c 0 2 % 1024 = 0 then refuse 0x70 c 4 [] d
  else if (linkPorts d c).isEmpty then refuse 0x70 c 6 [] d
  else calPlace 0 c d

/-- CAL_LINK. -/
def execCalLink (c : Cmd) (s : State) : Result := act (calLinkFx c) s

/-- A phase-in of a committed setting begun from the value reached (R458). -/
def phaseBegin (kind unit : Nat) (old new : List Int) (d : Device) : Device :=
  let n := nearest 1 65535 (d.field 0x3854 15 0)
  setCal (fun c => { c with phases := c.phases.filter (fun p => !(p.kind == kind && p.unit == unit)) ++
    [{ since := d.clk.rp.frame, kind := kind, unit := unit, old := old, new := new, n := n, step := 0 }] }) d

/-- The settings of a phase-in at its present step (R458). -/
def phaseValues (p : CalPhase) : List Int :=
  (List.range p.new.length).map (fun i =>
    let a := nthI p.old i; let b := nthI p.new i
    a + ((b - a) * p.step * 2 + p.n) / (2 * p.n))

/-- The work of the vertical blanking of frame `f` (R458): every phase-in whose commit lies in a frame before makes its next step. -/
def calBlanking (f : BitVec 32) (d : Device) : Device :=
  let ps := d.cal.phases.map (fun p => if 0 < frameDiff f p.since then { p with step := p.step + 1 } else p)
  setCal (fun c => ps.foldl (fun c p =>
    let v := phaseValues p
    if p.kind = 0 then { c with eqAt := setAt c.eqAt p.unit v }
    else { c with offsAt := setAt (setAt c.offsAt (2 * p.unit) (nthI v 0)) (2 * p.unit + 1) (nthI v 1) })
    { c with phases := ps.filter (fun p => decide (p.step < p.n)) }) d

/-- The result of CAL_LINK (R462). -/
def linkResult (c : Cal) : List Byte := c.eyes.flatMap (leN 2) ++ leN 2 c.commits ++ leN 2 c.ended ++ zeros 8

/-- The narrowest eye of the ports that were not ended (R462). -/
def linkQuality (c : Cal) (ps : List Nat) : Nat :=
  match (ps.filter (fun p => !(hasBit c.ended p))).map (nth c.eyes) with
  | w :: ws => ws.foldl min w
  | [] => 0

/-- The SerDes lanes of a port. -/
def portLanes (p : Nat) : List Nat := if p < 8 then [p] else (List.range 4).map (fun i => 8 + 4 * (p - 8) + i)

/-- The narrowest of the eye widths of a port's lanes (R461). -/
def narrowest (p : Nat) (ws : List Nat) : Nat := ((portLanes p).zipIdx.map (fun x => nth ws x.2)).min?.getD 0

/-- CAL_LINK_PORT_DONE (R461, R457, R376): one port's sweep, with an eye-width sample of each lane. -/
def calPortFx (r : LinkSweep) (d : Device) : Device :=
  match d.cal.running.getD 0 none, d.cal.ports with
  | some j, p :: rest =>
    let up := if p < 8 then (d.port p).up else (d.ingPort (p - 8)).up
    let go := r.locked && up
    let better := go && hasBit (opB j.cmd 2) 0 && decide (narrowest p r.oldEyes < narrowest p r.newEyes)
    if better && !r.writeOk then calFlashError 0 j d
    else
      let ws := if better then r.newEyes else r.oldEyes
      let eye := if go then narrowest p ws else 0
      let d := when go (fun d => (portLanes p).zipIdx.foldl (fun d x => eyeFx x.1 (nth ws x.2) d) d) d
      let d := when better (fun d => phaseBegin 0 p (d.cal.eqAt.getD p []) r.settings
        (setCal (fun c => { c with eq := setAt c.eq p r.settings, commits := c.commits + 2 ^ p }) d)) d
      let d := setCal (fun c => { c with ports := rest, eyes := setAt c.eyes p eye, ended := c.ended + (if go then 0 else 2 ^ p) }) d
      if rest.isEmpty then calEnd 0 j (d.cal.commits != 0) (linkQuality d.cal (linkPorts d j.cmd)) (linkResult d.cal) d else d
  | _, _ => d

/-- CAL_LINK_PORT_DONE. -/
def execCalLinkPortDone (r : LinkSweep) (s : State) : Result := act (calPortFx r) s

/-! ### CAL_COLOUR (R463 to R467) -/

/-- A colour record (R463). -/
structure ColourRec where
  px : Nat
  py : Nat
  pw : Nat
  ph : Nat
  marks : Nat
  duration : Nat
  limit : Nat
  resp : List Nat
  deriving DecidableEq, Repr

/-- The colour record of a host copy. -/
def colourRec (b : List Byte) : ColourRec :=
  { px := le b 0 2, py := le b 2 2, pw := le b 4 2, ph := le b 6 2, marks := le b 8 1,
    duration := if le b 0xA 2 = 0 then 10000 else le b 0xA 2, limit := if le b 0xC 2 = 0 then 300 else le b 0xC 2,
    resp := (List.range 12).map (fun i => le b (0x10 + 4 * i) 4) }

/-- The colour record of a command. -/
def colourOf (c : Cmd) : ColourRec := match c.host with | .data b => colourRec b | _ => colourRec []

/-- Whether a colour record is in range for a node's window (R463). -/
def colourGood (n : NodeRecord) (r : ColourRec) : Bool :=
  decide (1 ≤ r.pw) && decide (1 ≤ r.ph) && decide (r.px + r.pw ≤ n.width) && decide (r.py + r.ph ≤ n.height) &&
  decide (r.marks < 16) && within 100 10000 r.duration

/-- CAL_COLOUR (R453, R455, R463, R577). -/
def calColourFx (c : Cmd) (d : Device) : Device :=
  if !d.isNode || (recordNow d).width == 0 then refuse 0x71 c 5 [] d
  else if misaligned c then refuse 0x71 c 4 [] d
  else match c.host with
    | .data b =>
      if d.pwr.state != .run || !d.out.running then refuse 0x71 c 6 [] d
      else if !(colourGood (recordNow d) (colourRec b)) then refuse 0x71 c 4 [] d
      else calPlace 1 c d
    | _ => refuse 0x71 c 0x0A [] d

/-- CAL_COLOUR. -/
def execCalColour (c : Cmd) (s : State) : Result := act (calColourFx c) s

/-- The patch's pixels, window-relative. -/
def patch (r : ColourRec) : List (Nat × Nat) :=
  (List.range r.ph).flatMap (fun y => (List.range r.pw).map (fun x => (r.px + x, r.py + y)))

/-- Whether a window stays open to an RP. -/
def openTo (s : Shutter) (until_ : RP) : Bool := s.isOpen && (match s.close with | some c => !(c.before until_) | none => false)

/-- Whether a shutter window gates a ROW_EN between now and an RP (R335, R464). -/
def gatedTo (d : Device) (until_ : RP) : Bool :=
  let ws := d.sched.shutters.zipIdx
  ws.any (fun (s, i) => if s.isOpen then s.action == 1 else s.enabled && shutterAction d i == 1 && (openPoint d s).before until_) ||
  (ws.any (fun (s, i) => s.enabled && shutterAction d i == 2) && !(ws.any (fun (s, _) => s.action == 2 && openTo s until_)))

/-- At the start of sub-refresh 0 of display frame `f`, within the collection time, a reading pair may begin (R464). -/
def calPairBegin (f : BitVec 32) (d : Device) : Device :=
  match d.cal.running.getD 1 none with
  | none => d
  | some j =>
    let r := colourOf j.cmd
    let n := recordNow d
    let until_ := RP.plus d.clk.raster d.clk.rp (scanSub d.clk.raster d.out.orec)
    let marked := r.marks == 0 || (d.sched.shutters.zipIdx).any (fun (s, i) => hasBit r.marks i && openTo s until_)
    let whole := (patch r).all (fun (x, y) => !(d.pxl.voids.contains (y, x / 64)))
    let ended := decide (r.duration * 1000000 ≤ d.clk.raster.nsOf (RP.dist d.clk.raster d.clk.rp j.start))
    if ended || !d.out.running || !(calFree 1 d) || d.pxl.last != some f || !marked || gatedTo d until_ || !whole then d
    else
      let sum := fun (c : Nat) => (patch r).foldl (fun t (x, y) => t + mget d.pxl.outBuf ((y * n.width + x) * n.primaries + c) 0) 0
      setCal (fun c => { c with win := some { sums := (List.range n.primaries).map sum, lit := none } }) d

/-- The observed values of a pair (R464). -/
def observed (p : CalPair) : List Int :=
  let at_ := fun (l k : Nat) => (l : Int) - (k * p.lit.cycles / max 1 p.dark.cycles : Nat)
  [at_ p.lit.x p.dark.x, at_ p.lit.y p.dark.y, at_ p.lit.z p.dark.z]

/-- Whether a pair is usable (R464). -/
def usable (p : CalPair) : Bool := decide (1048575 ≤ 64 * nthI (observed p) 1)

/-- The losses the curve predicts over the patch, summed (R298, R465). -/
def patchLoss (c : Corr) (n : NodeRecord) (r : ColourRec) (ch : Nat) : Nat :=
  (patch r).foldl (fun t (x, y) =>
    t + (65536 - wearRem (c.wear.curves.getD ch none) (mget c.expo ((y * n.width + x) * n.primaries + ch) 0))) 0

/-- The light of primary `ch` over a list of pairs, and of all primaries (R464, R465). -/
def lightOf (ps : List CalPair) (ch : Nat) : Nat := ps.foldl (fun t p => t + nth p.sums ch) 0

/-- The light of every primary over a list of pairs. -/
def lightAll (ps : List CalPair) : Nat := ps.foldl (fun t p => t + p.sums.foldl (· + ·) 0) 0

/-- The primaries whose share of the light is at least 5 % (R465). -/
def sharers (n : NodeRecord) (ps : List CalPair) : List Nat :=
  (List.range n.primaries).filter (fun ch => decide (0 < lightAll ps) && decide (lightAll ps ≤ 20 * lightOf ps ch))

/-- A determinant of `k` rows, by its first row. -/
def det : Nat → List (List Int) → Int
  | 0, _ => 1
  | _ + 1, [] => 0
  | k + 1, r :: rows =>
    ((List.range (k + 1)).map (fun j => (if j % 2 = 0 then 1 else -1) * nthI r j * det k (rows.map (fun x => x.eraseIdx j)))).foldl (· + ·) 0

/-- What primary `ch` gives input `i` in a pair for each unit of its fraction, times 65,535 × 2^24 (R465). -/
def fitTerm (r : ColourRec) (p : CalPair) (ch i : Nat) : Int := (nth r.resp (3 * ch + i) * nth p.sums ch : Nat)

/-- A sum over pairs and inputs (R465). -/
def fitSum (ps : List CalPair) (f : CalPair → Nat → Int) : Int :=
  ps.foldl (fun t p => t + ((List.range 3).map (f p)).foldl (· + ·) 0) 0

/-- The least-squares fit of R465 over the primaries `cs`, by its normal equations in exact arithmetic (DEDUCED, log entry 168): their
determinant, and those of each ρ. -/
def fitDets (r : ColourRec) (ps : List CalPair) (cs : List Nat) : Int × List Int :=
  let m := cs.map (fun a => cs.map (fun b => fitSum ps (fun p i => fitTerm r p a i * fitTerm r p b i)))
  let v := cs.map (fun a => fitSum ps (fun p i => nthI (observed p) i * fitTerm r p a i))
  (det cs.length m, (List.range cs.length).map (fun j => det cs.length ((m.zip v).map (fun (x, y) => x.set j y))))

/-- ρ16 of each primary that is fitted (R465). Where the pairs do not fix the fractions they are free values. -/
def fitRho (n : NodeRecord) (r : ColourRec) (pairs : List CalPair) (d : Device) : List (Nat × Int) × Device :=
  let cs := sharers n pairs
  let (whole, parts) := fitDets r pairs cs
  if whole = 0 then
    let (v, d) := freeNext d
    (cs.zipIdx.map (fun (c, j) => (c, (v / 2 ^ (32 * j) % 2 ^ 32 : Nat))), d)
  else (cs.zip (parts.map (fun x => (2 * (65536 * 65535 * 2 ^ 24 * x) + whole) / (2 * whole))), d)

/-- The new κ of a primary, where it is fitted (R465): a share of at least 5 %, and a predicted loss of at least 1 %. -/
def fitKappa (d : Device) (r : ColourRec) (rhos : List (Nat × Int)) (ch : Nat) : Option Nat :=
  let loss := patchLoss d.corr (recordNow d) r ch
  let px := r.pw * r.ph
  match rhos.find? (fun x => x.1 == ch) with
  | some (_, rho) =>
    if loss < 655 * px then none else some (clamp ((65536 * (65536 - rho) * px + loss) / (2 * loss)) 0 131071).toNat
  | none => none

/-- The result of CAL_COLOUR (R467). -/
def colourResult (outcome fitted residual pairs : Nat) (kappa : List Nat) : List Byte :=
  leN 1 outcome ++ leN 1 fitted ++ leN 2 (min 65535 residual) ++ leN 2 (min 65535 pairs) ++ zeros 2 ++ kappa.flatMap (leN 4) ++ zeros 8

/-- CAL_COLOUR_COLLECTION_END (R465 to R467, R457, R299, R300): the fit judged, and committed where it is accepted. Where the
residual is within the limit and no primary is fitted, the outcome code is not stated, and with too few pairs the residual is not: free
values. -/
def calColourEndFx (f : ColourFit) (d : Device) : Device :=
  match d.cal.running.getD 1 none with
  | none => d
  | some j =>
    let r := colourOf j.cmd
    let ps := d.cal.pairs.filter usable
    let (rhos, d) := fitRho (recordNow d) r ps d
    let ks := (List.range 4).map (fitKappa d r rhos)
    let fitted := (List.range 4).foldl (fun w c => w + (if (ks.getD c none).isSome then 2 ^ c else 0)) 0
    if ps.length < 16 then
      let (v, d) := freeNext d
      calEnd 1 j false (v % 65536) (colourResult 2 0 (v % 65536) ps.length d.corr.wear.kappa) d
    else if r.limit < f.residual then calEnd 1 j false (min 65535 f.residual) (colourResult 1 fitted f.residual ps.length d.corr.wear.kappa) d
    else if fitted = 0 then
      let (v, d) := freeNext d
      calEnd 1 j false f.residual (colourResult (1 + v % 2) 0 f.residual ps.length d.corr.wear.kappa) d
    else if !f.writeOk then calFlashError 1 j d
    else
      let kappa := (List.range 4).map (fun c => (ks.getD c none).getD (nth d.corr.wear.kappa c))
      let d := setCorr (fun c => { c with wear := { c.wear with
        kappa := kappa, firstRun := some (c.wear.firstRun.getD c.runSecs) }, lastRun := c.runSecs }) d
      let d := corrCommit d
      let d := calEnd 1 j true f.residual (colourResult 0 fitted f.residual ps.length kappa) d
      if d.corr.wear.frozen then d else wearPass d

/-- CAL_COLOUR_COLLECTION_END. -/
def execCalColourCollectionEnd (f : ColourFit) (s : State) : Result := act (calColourEndFx f) s

/-! ### CAL_METER (R468, R469) -/

/-- CAL_METER (R455, R468). -/
def calMeterFx (c : Cmd) (d : Device) : Device :=
  if d.pwr.state != .run then refuse 0x72 c 6 [] d
  else if opB c 0 % 64 = 0 then refuse 0x72 c 4 [] d
  else calPlace 2 c d

/-- CAL_METER. -/
def execCalMeter (c : Cmd) (s : State) : Result := act (calMeterFx c) s

/-- CAL_METER_HANDOVER (R468): the spare pair takes a channel over; then the channel's own pair returns with its new offsets,
which are committed where both residuals are at most 4 LSB. -/
def calHandoverFx (m : MeterStep) (d : Device) : Device :=
  match d.cal.running.getD 2 none, d.cal.chans with
  | some j, ch :: rest =>
    match d.cal.spare with
    | none => setCal (fun c => { c with spare := some ch }) d
    | some _ =>
      let good := decide (m.residV ≤ 4) && decide (m.residI ≤ 4)
      if good && !m.writeOk then calFlashError 2 j d
      else
        let at_ := fun (d : Device) (i : Nat) => nthI d.cal.offsAt (2 * ch + i)
        let d := when good (fun d => phaseBegin 2 ch [at_ d 0, at_ d 1] [m.newOffV, m.newOffI]
          (setCal (fun c => { c with offs := setAt (setAt c.offs (2 * ch) m.newOffV) (2 * ch + 1) m.newOffI, mCommit := c.mCommit + 2 ^ ch }) d)) d
        let d := setCal (fun c => { c with
          chans := rest, spare := none, resids := setAt (setAt c.resids (2 * ch) (min 65535 m.residV)) (2 * ch + 1) (min 65535 m.residI) }) d
        if rest.isEmpty then
          calEnd 2 j (d.cal.mCommit != 0) (d.cal.resids.foldl max 0) (d.cal.resids.flatMap (leN 2) ++ leN 1 d.cal.mCommit ++ zeros 7) d
        else d
  | _, _ => d

/-- CAL_METER_HANDOVER. -/
def execCalMeterHandover (m : MeterStep) (s : State) : Result := act (calHandoverFx m) s

/-- CAL_CANCEL (R456). -/
def calCancelFx (c : Cmd) (d : Device) : Device :=
  let ks := (List.range 3).filter (hasBit (opB c 0))
  let n := ks.foldl (fun t k => t + bit (d.cal.running.getD k none).isSome + bit (d.cal.waiting.getD k none).isSome) 0
  if n = 0 then refuse 0x73 c 7 [] d
  else finish 0x73 c d.clk.rp (leN 1 n) (ks.foldl (fun d k => calDrop k 1 (calAbort k 1 d)) d)

/-- CAL_CANCEL. -/
def execCalCancel (c : Cmd) (s : State) : Result := act (calCancelFx c) s

end Sys2Proof.Machine
end

