-- ==== Sys2Proof/Machine/Meter.lean ====
section
/-! DEFINITION. Machine/Meter.lean: energy metering: samples (R472 to R475), S0 inputs (R477), the mains (R478, R479), saves
(R480 to R483), and opcodes 0x78 to 0x7A (R484 to R486). -/

namespace Sys2Proof.Machine

/-- Metering changed. -/
def setMtr (f : Meter → Meter) (d : Device) : Device := { d with mtr := f d.mtr }

/-- Whether metering runs (R481, R514): out of reset, and not in HIBERNATE. -/
def metering (d : Device) : Bool := !(forwardOnly d) && !d.pwr.inReset && !d.pwr.powerOff && d.pwr.state != .hibernate

/-- The scale of a channel (R473). -/
def meterScale (vfs ifs : Nat) : Nat := (vfs * ifs * 2 ^ 40 + 1440000000) / 2880000000

/-- ENERGY_WRAP (R475, R487), with the register's bit in MTR_WRAP. -/
def energyWrap (reg kind bit_ : Nat) (d : Device) : Device :=
  raise 0x7803 (leN 1 reg ++ leN 1 kind ++ zeros 2)
    (setMtr (fun m => { m with wraps := if hasBit m.wraps bit_ then m.wraps else m.wraps + 2 ^ bit_ }) d)

/-- Whether a raw code reaches the clamp (R472). -/
def atClamp (raw : Int) : Bool := decide (8388607 ≤ raw.natAbs)

/-- A code as used (R472). -/
def meterCode (raw off : Int) : Int := clamp (raw - off) (-8388607) 8388607

/-- The increment of a sample, in units of 2^-40 LSB (R474). -/
def energyInc (k : Nat) (vc ic : Int) : Nat := ((vc * ic).natAbs * k + 2 ^ 45) / 2 ^ 46

/-- METER_SAMPLE (R472, R474, R475). -/
def meterSampleFx (ch : Nat) (rawV rawI : Int) (d : Device) : Device :=
  let c := d.mtr.chans.getD ch {}
  if !(metering d) || c.ifs == 0 then d
  else
    let d := when (atClamp rawV || atClamp rawI) (fun d => d.bump (0x5090 + 4 * ch) 1) d
    let vc := meterCode rawV (nthI d.cal.offsAt (2 * ch))
    let ic := meterCode rawI (nthI d.cal.offsAt (2 * ch + 1))
    let inc := energyInc c.k vc ic
    let p := vc * ic
    let imp := if 0 < p then c.imp + inc else c.imp
    let exp_ := if p < 0 then c.exp_ + inc else c.exp_
    let c' := { c with imp := imp % 2 ^ 88, exp_ := exp_ % 2 ^ 88, recent := lastN 8000 (c.recent ++ [(vc * c.vfs, ic * c.ifs)]) }
    let d := setMtr (fun m => { m with chans := setAt m.chans ch c' }) d
    when (decide (2 ^ 88 ≤ exp_)) (energyWrap ch 1 (8 + ch)) (when (decide (2 ^ 88 ≤ imp)) (energyWrap ch 0 ch) d)

/-- METER_SAMPLE. -/
def execMeterSample (channel : Fin 6) (rawV : Int) (rawI : Int) (s : State) : Result := act (meterSampleFx channel.val rawV rawI) s

/-- S0_PULSE (R477). -/
def s0PulseFx (i : Nat) (d : Device) : Device :=
  let x := d.mtr.s0.getD i {}
  if !(metering d) || x.const == 0 then d
  else
    let e := x.energy + (x.rem + 10000000) / x.const
    let x' := { x with energy := e % 2 ^ 48, rem := (x.rem + 10000000) % x.const, count := (x.count + 1) % 2 ^ 48 }
    let d := setMtr (fun m => { m with s0 := setAt m.s0 i x' }) d
    when (decide (2 ^ 48 ≤ x.count + 1)) (energyWrap (6 + i) 3 (18 + i)) (when (decide (2 ^ 48 ≤ e)) (energyWrap (6 + i) 2 (16 + i)) d)

/-- S0_PULSE. -/
def execS0Pulse (input : Fin 2) (s : State) : Result := act (s0PulseFx input.val) s

/-- S0_GLITCH (R477, R485). -/
def s0GlitchFx (i : Nat) (d : Device) : Device :=
  let x := d.mtr.s0.getD i {}
  if !(metering d) || x.const == 0 then d
  else setMtr (fun m => { m with s0 := setAt m.s0 i { x with glitch := satAdd 65535 x.glitch 1, asked := satAdd 65535 x.asked 1 } }) d

/-- S0_GLITCH. -/
def execS0Glitch (input : Fin 2) (s : State) : Result := act (s0GlitchFx input.val) s

/-! ### Saves (R480 to R483) -/

/-- The slot a save begun now writes (R480): the values, the next sequence, the next row. -/
def slotNow (d : Device) : MeterSlot :=
  { seq := match d.mtr.slot with | some s => s.seq + 1 | none => 0
    imps := d.mtr.chans.map (fun c => energyReg c.imp), exps := d.mtr.chans.map (fun c => energyReg c.exp_),
    s0e := d.mtr.s0.map (fun x => x.energy), s0c := d.mtr.s0.map (fun x => x.count), wraps := d.mtr.wraps, row := d.mtr.row }

/-- The 128 bytes of a slot in its NVM row (R480). -/
def slotBytes (s : MeterSlot) : List Byte :=
  let b := leN 4 s.seq.toNat ++ (s.imps.zip s.exps).flatMap (fun x => leN 6 x.1 ++ leN 6 x.2) ++ s.s0e.flatMap (leN 6) ++
    s.s0c.flatMap (leN 6) ++ leN 4 s.wraps ++ zeros 20
  b ++ leN 4 (crc32 b)

/-- A save due (R481): started, merged into the one that runs where that began less than 1 s earlier, or next. -/
def saveStart (cmd : Option (RP × Cmd)) (d : Device) : Device :=
  let cs := match cmd with | some c => [c] | none => []
  match d.mtr.save with
  | none => setMtr (fun m => { m with save := some { slot := slotNow d, begun := d.clk.rp, cmds := cs } }) d
  | some s =>
    if d.clk.raster.nsOf (RP.dist d.clk.raster d.clk.rp s.begun) < 1000000000 then
      setMtr (fun m => { m with save := some { s with cmds := s.cmds ++ cs } }) d
    else setMtr (fun m => { m with again := true, againCmds := m.againCmds ++ cs }) d

/-- METER_SAVE_TIMER (R481). -/
def execMeterSaveTimer (s : State) : Result := act (fun d => if metering d then saveStart none d else d) s

/-- An NVM row that can take no more (R373, R384): remapped while a spare row is left, else failed for good. -/
def rowRemap (row : Nat) (d : Device) : Device :=
  if spareLeft d 11 0 = 0 then setSpare (fun x => { x with nvmBad := x.nvmBad ++ [row] }) d
  else spareUsed 11 row (setSpare (fun x => { x with nvmWrites := mset x.nvmWrites row 0 0 }) d)

/-- A row written (R373, R376): at 90,000 writes it is remapped. -/
def rowWritten (row : Nat) (d : Device) : Device :=
  let n := mget d.spare.nvmWrites row 0 + 1
  let d := setSpare (fun x => { x with nvmWrites := mset x.nvmWrites row 0 n,
                                       today := { x.today with nvm := dayCount row 1 x.today.nvm } }) d
  when (decide (90000 ≤ n)) (rowRemap row) d

/-- The save that waited begins (R481, R482). -/
def saveNext (retry : Bool) (d : Device) : Device :=
  if retry || d.mtr.again then
    setMtr (fun m => { m with save := some { slot := slotNow d, begun := d.clk.rp, cmds := m.againCmds }, again := false, againCmds := [] }) d
  else d

/-- METER_SAVE_DONE (R384, R481, R482, R486): the slot is the newest; or the row is remapped, and the save tried again in the next; a save
to a row that has failed for good is skipped. -/
def saveDoneFx (ok : Bool) (d : Device) : Device :=
  match d.mtr.save with
  | none => d
  | some s =>
    let row := s.slot.row
    let d := setMtr (fun m => { m with save := none, row := (row + 1) % 1024 }) d
    if d.spare.nvmBad.contains row then
      let d := setSpare (fun x => { x with nvmSkip := satAdd 255 x.nvmSkip 1 }) d
      saveNext false (s.cmds.foldl (fun d (_, c) => complete 0x7A c 0x0B none [] d) d)
    else if ok then
      let d := rowWritten row (setMtr (fun m => { m with slot := some s.slot, savedRp := some d.clk.rp }) d)
      saveNext false (s.cmds.foldl (fun d (at_, c) => finish 0x7A c at_ (leN 4 s.slot.seq.toNat ++ leN 2 row) d) d)
    else
      let d := raise 0x7804 (leN 2 row ++ zeros 2 ++ leN 4 s.slot.seq.toNat) (rowRemap row d)
      saveNext true (s.cmds.foldl (fun d (_, c) => complete 0x7A c 0x0B none [] d) d)

/-- Start-up (R483): the newest valid slot's registers; without one, zeros and NO_HISTORY. -/
def loadMeter (d : Device) : Device :=
  match d.mtr.slot with
  | none => setMtr (fun m => { m with noHist := true }) d
  | some s =>
    setMtr (fun m => { m with
      chans := m.chans.zipIdx.map (fun (c, i) => { c with imp := nth s.imps i * 2 ^ 40, exp_ := nth s.exps i * 2 ^ 40 }),
      s0 := m.s0.zipIdx.map (fun (x, i) => { x with energy := nth s.s0e i, count := nth s.s0c i }),
      wraps := s.wraps, noHist := false }) d

/-! ### The mains (R478, R479) -/

/-- MAINS_ZC_CROSSING (R478, R479): `cycles` since the last accepted crossing; an edge within 2 ms of it is ignored. -/
def crossingFx (cycles : Nat) (d : Device) : Device :=
  if !(metering d) || (d.mtr.lastZc.isSome && decide (cycles ≤ 24576)) then d
  else
    let m := d.mtr
    let p := if m.zcBoth then 2 * cycles else cycles
    let freq := if m.crossings = 0 ∨ p = 0 then 0 else (24576000000 + p) / (2 * p)
    let d := setMtr (fun x => { x with
      freq := freq, lastZc := some d.clk.rp, crossings := min 2 (x.crossings + 1), lost := false, seen := true }) d
    when m.lost (raise 0x7802 (leN 4 (min 0xFFFFFFFF (cycles / 12288)) ++ zeros 4 ++ d.clk.rp.bytes)) d

/-- MAINS_ZC_CROSSING. -/
def execMainsZcCrossing (cycles : Nat) (s : State) : Result := act (crossingFx cycles) s

/-- MAINS_LOST (R479, R412): t_zc has run out after an accepted crossing. -/
def mainsLostFx (d : Device) : Device :=
  let m := d.mtr
  if !(metering d) || m.crossings == 0 || m.lost then d
  else
    let d := setMtr (fun x => { x with lost := true, freq := 0, crossings := 0 }) d
    let d := report 0x0E none 0x7801 (leN 4 m.freq ++ zeros 4 ++ rpOr m.lastZc) d
    when m.saveOnLoss (saveStart none) d

/-- MAINS_LOST. -/
def execMainsLost (s : State) : Result := act mainsLostFx s

/-! ### Commands (R484 to R486) -/

/-- The meter settings, as the record and the registers hold them (R484). -/
structure MeterSet where
  scales : List (Nat × Nat)
  consts : List Nat
  period : Nat
  tzc    : Nat
  zcBoth : Bool
  saveOnLoss : Bool
  deriving DecidableEq, Repr

/-- Settings put in force (R473, R477, R484). -/
def putMeter (x : MeterSet) (d : Device) : Device :=
  setMtr (fun m => { m with
    chans := m.chans.zipIdx.map (fun (c, i) =>
      let (v, a) := x.scales.getD i (1000, 0)
      { c with vfs := v, ifs := a, k := meterScale v a }),
    s0 := m.s0.zipIdx.map (fun (s, i) => { s with const := nth x.consts i, rem := if nth x.consts i = s.const then s.rem else 0 }),
    period := x.period, tzc := x.tzc, zcBoth := x.zcBoth, saveOnLoss := x.saveOnLoss }) d

/-- The settings the registers hold (R484, R535). -/
def meterRegs (d : Device) : MeterSet :=
  { scales := (List.range 6).map (fun i =>
      (nearest 1000 100000 (d.word (0x50C0 + 8 * i)), let a := d.word (0x50C4 + 8 * i); if a = 0 then 0 else nearest 100 100000 a)),
    consts := [nearest 0 100000 (d.word 0x50F0), nearest 0 100000 (d.word 0x50F4)],
    period := nearest 10 900 (d.field 0x50F8 9 0), tzc := nearest 20 200 (d.field 0x50F8 23 16),
    zcBoth := hasBit (d.word 0x50F8) 24, saveOnLoss := hasBit (d.word 0x50F8) 25 }

/-- The registers apply until a METER_CONFIG takes effect after a reset (R484). -/
def meterFromRegs (d : Device) : Device := if d.mtr.byCmd then d else putMeter (meterRegs d) d

/-- The settings of a meter record (R484). -/
def meterRec (b : List Byte) : MeterSet :=
  { scales := (List.range 6).map (fun i => (le b (8 * i) 4, le b (8 * i + 4) 4)), consts := [le b 0x30 4, le b 0x34 4],
    period := le b 0x38 2, tzc := le b 0x3A 1, zcBoth := hasBit (le b 0x3B 1) 0, saveOnLoss := hasBit (le b 0x3B 1) 1 }

/-- The offset of the first bad field of a meter record (R484). -/
def meterBad (x : MeterSet) : Option Nat :=
  let scale := (List.range 6).findSome? (fun i =>
    let (v, a) := x.scales.getD i (1000, 0)
    if !(within 1000 100000 v) then some (8 * i)
    else if (a ≠ 0 ∧ !(within 100 100000 a)) ∨ 2880000000 < v * a then some (8 * i + 4)
    else none)
  match scale with
  | some o => some o
  | none =>
    if 100000 < nth x.consts 0 then some 0x30
    else if 100000 < nth x.consts 1 then some 0x34
    else if !(within 10 900 x.period) then some 0x38
    else if !(within 20 200 x.tzc) then some 0x3A
    else none

/-- Whether a save period has passed since the last completed save (R484), as the RP counts. -/
def saveOverdue (period : Nat) (d : Device) : Bool :=
  match d.mtr.savedRp with
  | some t => decide (period * 1000000000 ≤ d.clk.raster.nsOf (RP.dist d.clk.raster d.clk.rp t))
  | none => false

/-- METER_CONFIG (R484): a changed period that has passed since the last save makes the next one at once. -/
def meterConfigFx (c : Cmd) (d : Device) : Device :=
  if misaligned c then refuse 0x79 c 4 [] d
  else match c.host with
    | .data b =>
      let x := meterRec b
      (match meterBad x with
       | some o => refuse 0x79 c 4 (leN 1 o) d
       | none =>
         let now := x.period != d.mtr.period && saveOverdue x.period d
         when now (saveStart none) (finish 0x79 c (boundaryRp d) [] (setMtr (fun m => { m with byCmd := true }) (putMeter x d))))
    | _ => refuse 0x79 c 0x0A [] d

/-- METER_CONFIG. -/
def execMeterConfig (c : Cmd) (s : State) : Result := act (meterConfigFx c) s

/-- A mean as ENERGY_QUERY gives it (R485): the spec does not state its rounding, so a fraction goes down or up as a free value
says; a mean over no sample is free. -/
def meterMean (sum : Int) (n unit : Nat) (d : Device) : Int × Device :=
  let (v, d) := freeNext d
  if unit * n = 0 then (v, d)
  else
    let q := sum / (unit * n : Nat)
    (if sum % (unit * n : Nat) = 0 then q else q + (v % 2 : Nat), d)

/-- ENERGY_QUERY of a channel (R485). -/
def queryChannel (c : Cmd) (i : Nat) (d : Device) : Device :=
  let x := d.mtr.chans.getD i {}
  let n := x.recent.length
  let sv := (x.recent.map (fun s => s.1)).foldl (· + ·) 0
  let si := (x.recent.map (fun s => s.2)).foldl (· + ·) 0
  let sp := (x.recent.map (fun s => s.1 * s.2)).foldl (· + ·) 0
  let (v, d) := meterMean sv n (2 ^ 23) d
  let (a, d) := meterMean si n (2 ^ 23) d
  let (p, d) := meterMean sp n (2 ^ 46 * 100000) d
  let fl := bit (hasBit d.mtr.wraps i) + 2 * bit (hasBit d.mtr.wraps (8 + i)) + 4 * bit d.mtr.noHist + 8 * bit (x.ifs == 0)
  finish 0x78 c d.clk.rp (leN 6 (energyReg x.imp) ++ leN 6 (energyReg x.exp_) ++ leN 4 (unsig 32 v) ++ leN 4 (unsig 32 a) ++
    leN 4 (unsig 32 p) ++ leN 1 fl ++ zeros 7) d

/-- ENERGY_QUERY (R485). -/
def energyQueryFx (c : Cmd) (d : Device) : Device :=
  let i := opB c 0
  if 8 < i then refuse 0x78 c 4 [] d
  else if i < 6 then queryChannel c i d
  else if i < 8 then
    let x := d.mtr.s0.getD (i - 6) {}
    finish 0x78 c d.clk.rp (leN 6 x.energy ++ leN 6 x.count ++ leN 4 x.const ++ leN 2 x.asked ++
      leN 1 (bit (hasBit d.mtr.wraps (10 + i)) + 2 * bit (hasBit d.mtr.wraps (12 + i))) ++ zeros 13)
      (setMtr (fun m => { m with s0 := modAt m.s0 (i - 6) (fun x => { x with asked := 0 }) }) d)
  else
    finish 0x78 c d.clk.rp (leN 4 d.mtr.freq ++ leN 1 (bit d.mtr.lost + 2 * bit d.mtr.seen) ++ zeros 3 ++ rpOr d.mtr.lastZc ++ zeros 16) d

/-- ENERGY_QUERY. -/
def execEnergyQuery (c : Cmd) (s : State) : Result := act (energyQueryFx c) s

/-- ENERGY_SAVE (R481, R486): it completes with the save it starts or joins. -/
def execEnergySave (c : Cmd) (s : State) : Result := act (fun d => saveStart (some (d.clk.rp, c)) d) s

end Sys2Proof.Machine
end

