-- ==== Sys2Proof/Machine/Reset.lean ====
section
/-! DEFINITION. Machine/Reset.lean: what a reset leaves (R521 to R523): everything at its reset value but what NVM and flash
keep, with the cause recorded. -/

namespace Sys2Proof.Machine

/-- PWR_RESET_CAUSE after a cause (R523, R541): FIRST is the first cause since MASK was last clear, as a power-on reset
makes it. -/
def causeFirst (p : Power) (cause : Nat) : Nat := if cause = 0 ∨ p.mask = 0 then cause else p.first

/-- The mask with a cause added; a power-on reset clears it first. -/
def causeMask (p : Power) (cause : Nat) : Nat :=
  if cause = 0 then 1 else if hasBit p.mask cause then p.mask else p.mask + 2 ^ cause

/-- The debug level at reset (R503). -/
def resetLevel (l : Life) : Nat := if l = .blank then 2 else 0

/-- What the security block keeps through a reset (R488, R492, R497, R498); a STAGE under way leaves its area invalid
(R500), and a start on trial that a reset ends before readiness has failed (R499). -/
def keptSec (d : Device) : Sec :=
  let c := d.sec
  let failed := c.trial && !d.pwr.inReset && !d.pwr.waitRef && !d.pwr.readyHost && !d.pwr.powerOff
  { life := c.life, journal := c.journal, idPriv := c.idPriv, fingerprint := c.fingerprint, cur := c.cur,
    next := c.next, rollback := c.rollback,
    images := if c.stageImg.isSome then setAt c.images (1 - c.running) none else c.images,
    preferred := c.preferred, trial := c.trial, announce := c.announce, fails := if failed then c.fails + 1 else c.fails,
    permDraws := c.permDraws, level := resetLevel c.life, wasLevel := if d.pwr.inReset then c.wasLevel else c.level }

/-- What the fixtures keep in flash (R449). -/
def keptFix (x : Fix) : Fix := { recs := x.recs }

/-- What calibration keeps in NVM (R453, R457, R459). -/
def keptCal (c : Cal) : Cal :=
  { marker := c.marker, quality := c.quality, eq := c.eq, eqAt := c.eq, offs := c.offs, offsAt := c.offs }

/-- What redundancy keeps in NVM (R346, R371, R382): FAILED engines, the copies' states, the PLLs in use and the standbys found bad, the
records of retirements and of the feed paths' faults. -/
def keptRed (r : Redund) : Redund :=
  { engines := r.engines.map (fun e => if e = .failed then .failed else .standby), retireLog := r.retireLog,
    copies := r.copies, copyLog := r.copyLog, pllUse := r.pllUse, pllStandby := r.pllStandby,
    feeds := r.feeds.map (fun f => { faults := f.faults, faulty := f.faulty }) }

/-- What correction keeps in flash (R303): a copy whose write was interrupted is not valid; and of the sensor's span what no record
holds (R299; DESIGN CHOICE, log entry 159). -/
def keptCorr (c : Corr) : Corr :=
  { corrRecs := (match c.corrWriting with | some (a, _) => setAt c.corrRecs a none | none => c.corrRecs),
    expoRecs := (match c.expoSave with | some e => setAt c.expoRecs e.area none | none => c.expoRecs),
    lastRun := c.lastRun, told := c.told }

/-- What wear keeps in NVM (R376, R382): all but the counters whose reset value is 0. -/
def keptSpare (x : Spares) : Spares :=
  { x with qParity := List.replicate 13 0, coreLate := [0, 0, 0, 0, 0], fwTold := none, fills := [] }

/-- The device held in reset by a cause. What it has sent and written outside stays, and the count of free values drawn goes
on, so that none is drawn twice. -/
def resetDevice (cause : Nat) (d : Device) : Device :=
  { clk := {}, tim := { fresh := d.tim.fresh }, sec := keptSec d, fix := keptFix d.fix, cal := keptCal d.cal, red := keptRed d.red,
    corr := keptCorr d.corr, spare := keptSpare d.spare, mtr := { slot := d.mtr.slot, row := d.mtr.row },
    pwr := { first := causeFirst d.pwr cause, mask := causeMask d.pwr cause,
             refHere := decide (cause ≠ 9) && d.pwr.refHere },
    sent := d.sent, host := d.host, comps := d.comps, notes := d.notes }

end Sys2Proof.Machine
end

