-- ==== Sys2Proof/Machine/TestPort.lean ====
section
/-! DEFINITION. Machine/TestPort.lean: the test port's own registers: its instructions (R556, R571), IDCODE and the capture of the
instruction register (R570), the boundary register and its order of balls (R572), and what it makes of the pins (R505). -/

namespace Sys2Proof.Machine

/-- Whether an instruction takes the pins from the device's functions (R505). -/
def TapInstr.intrusive (i : TapInstr) : Bool := i == .extest || i == .clamp || i == .highz

/-- An instruction's code (R556, R571). -/
def TapInstr.code (i : TapInstr) : Nat :=
  match i with
  | .extest => 0x00 | .sample => 0x01 | .idcode => 0x02 | .clamp => 0x03 | .highz => 0x04 | .bypass => 0xFF
  | .dbgChallenge => 0xC0 | .dbgResponse => 0xC1 | .keyload => 0xC2 | .dbgRequest => 0xC3

/-- The instruction that an 8-bit code selects (R556, R571). -/
def tapInstr (code : BitVec 8) : TapInstr :=
  match [TapInstr.extest, .sample, .idcode, .clamp, .highz, .dbgChallenge, .dbgResponse, .keyload, .dbgRequest].find?
      (fun i => i.code == code.toNat) with
  | some i => i
  | none => .bypass

/-- The length in bits of the data register an instruction selects (R556, R570, R572). -/
def TapInstr.length (i : TapInstr) : Nat :=
  match i with
  | .extest | .sample => 516
  | .idcode => 32
  | .clamp | .highz | .bypass => 1
  | .dbgChallenge => 256
  | .dbgResponse => 512
  | .keyload => 1032
  | .dbgRequest => 2

/-- A numbered family of signals. -/
def numbered_ (n : Nat) (pre post : String) : List String := (List.range n).map (fun i => pre ++ toString i ++ post)

/-- The signals of the right upper region, in placement order (R558). -/
def rightUpper : List String :=
  ["FL_CK", "FL_CS_N", "FL_DQS"] ++ numbered_ 8 "FL_IO" "" ++ ["FL_RESET_N", "TCK", "TMS", "TDI", "TDO", "TRST_N", "I2C_SCL",
    "I2C_SDA", "ROLE0", "ROLE1", "RESET_N", "WAKE_N", "ALERT_N"]

/-- The test port's own balls. -/
def testBalls : List String := ["TCK", "TMS", "TDI", "TDO", "TRST_N"]

/-- The signals of the left lower region, in placement order (R558). -/
def leftLower : List String :=
  (List.range 16).flatMap (fun p => ["_TX", "_DE", "_RX"].map (fun x => "DMX" ++ toString p ++ x))

/-- The signals of the bottom edge, in placement order (R558). -/
def bottomEdge : List String :=
  numbered_ 64 "OD" "" ++ numbered_ 8 "DCLK" "" ++ numbered_ 8 "LE" "" ++ numbered_ 4 "GCLK" "" ++ numbered_ 6 "ROW_A" "" ++
  ["ROW_EN0"] ++ numbered_ 6 "ROW_B" "" ++ ["ROW_EN1"]

/-- The balls of the boundary register, from ball 0, nearest TDO (R572). -/
def chainBalls : List String :=
  ["PERST_N"] ++ rightUpper.filter (fun b => !(testBalls.contains b)) ++ ["SYNC_IN", "LTC_IN", "WCLK_IN", "S0_A", "S0_B", "MAINS_ZC"] ++
  leftLower ++ bottomEdge

/-- The input-only balls of the chain: those whose signals the manual only ever has the device receive (DEDUCED, log entry 97). -/
def inputBalls : List String :=
  ["PERST_N", "ROLE0", "ROLE1", "RESET_N", "WAKE_N", "SYNC_IN", "LTC_IN", "WCLK_IN", "S0_A", "S0_B", "MAINS_ZC"] ++
  (List.range 16).map (fun p => "DMX" ++ toString p ++ "_RX")

/-- The cells of ball `k` (R572): captured input, output value, output enable. -/
def Tap.cells (t : Tap) (k : Nat) : Bool × Bool × Bool :=
  (t.boundary.getLsbD (3 * k), t.boundary.getLsbD (3 * k + 1), t.boundary.getLsbD (3 * k + 2))

/-- What the test port makes of ball `k` (R505, R572): `none`: the device's functions have it; otherwise it is driven to a level, or not
driven. -/
def Tap.ball (t : Tap) (k : Nat) : Option (Option Bool) :=
  if t.ir = .highz then some none
  else if t.ir.intrusive then
    let (_, value, enable) := t.cells k
    some (if enable && !(inputBalls.contains (chainBalls.getD k "")) then some value else none)
  else none

/-- An instruction scanned in: the instruction register has captured 0x01 on the way (R570). -/
def Tap.scan (i : TapInstr) (t : Tap) : Tap := { t with ir := i, capture := 0x01 }

end Sys2Proof.Machine
end

