-- ==== Sys2Proof/Machine/Security.lean ====
section
/-! DEFINITION. Machine/Security.lean: life-cycle states (R488 to R491), keys and their loading (R492 to R496), firmware
images (R497 to R500), debug levels (R502 to R505) and opcodes 0x80 to 0x84 (R508). -/

namespace Sys2Proof.Machine

/-- Security changed. -/
def setSec (f : Sec → Sec) (d : Device) : Device := { d with sec := f d.sec }

/-- A private instruction selected at the test port (R556); while an intrusive one is in force, leaving it is a row of its own
(R505). -/
def tapPick (i : TapInstr) (d : Device) : Device :=
  when (!d.sec.intrusive) (setSec (fun c => { c with tap := c.tap.scan i })) d

/-- The debug level set, with DEBUG_LEVEL_CHANGED where it changes (R503, R509). -/
def setLevel (new path : Nat) (d : Device) : Device :=
  if d.sec.level = new then d
  else raise 0x8006 (leN 1 d.sec.level ++ leN 1 new ++ leN 1 path ++ zeros 1) (setSec (fun c => { c with level := new }) d)

/-- Whether the test port serves boundary scan only: in reset and in HIBERNATE (R506). -/
def portDead (d : Device) : Bool := d.pwr.inReset || d.pwr.powerOff || d.pwr.state == .hibernate

/-- Whether exception 5 of R506 holds: STANDBY, which START-UP behaves as (R515), or HIBERNATE. -/
def secClosed (d : Device) : Bool := d.pwr.state != .run && d.pwr.state != .quiet

/-- Whether the life-cycle state allows a level by DEBUG_UNLOCK (R503). -/
def unlockAllows (l : Life) (level : Nat) : Bool := level == 0 || (l != .retired && level == 1)

/-- Whether the life-cycle state allows a level by challenge (R503). -/
def challengeAllows (l : Life) (level : Nat) : Bool :=
  match l with
  | .blank => decide (level ≤ 2)
  | .sealed => decide (level ≤ 1)
  | .returned => decide (level ≤ 2)
  | .provisioned => level == 0
  | .retired => level == 0

/-- DBG_REQUEST (R556): the level is recorded; in PROVISIONED a request for DEBUG_PUBLIC is granted at once. -/
def dbgRequestFx (level : BitVec 2) (d : Device) : Device :=
  if portDead d then d
  else when (d.sec.life == .provisioned && level == 1) (setLevel 1 1)
    (setSec (fun c => { c with reqLevel := level }) (tapPick .dbgRequest d))

/-- DBG_REQUEST. -/
def execDbgRequest (level : BitVec 2) (s : State) : Result := act (dbgRequestFx level) s

/-- The 32 bytes of a challenge (R504). -/
def challengeBytes (d : Device) (nonce : List Byte) : List Byte :=
  d.sec.fingerprint ++ leN 1 (lifeCode d.sec.life) ++ leN 1 d.sec.reqLevel.toNat ++ zeros 6 ++ fit 16 nonce

/-- DBG_CHALLENGE (R504): a new read replaces the nonce. -/
def dbgChallengeFx (nonce : List Byte) (nowMs : Nat) (d : Device) : Device :=
  if portDead d then d else setSec (fun c => { c with nonce := some (challengeBytes d nonce, nowMs) }) (tapPick .dbgChallenge d)

/-- DBG_CHALLENGE. -/
def execDbgChallenge (nonce : List Byte) (nowMs : Nat) (s : State) : Result := act (dbgChallengeFx nonce nowMs) s

/-- DBG_RESPONSE (R504): one response per nonce, within 60 s; a failed one refuses further responses for a time that doubles
up to 64 s. -/
def dbgResponseFx (sig : List Byte) (nowMs : Nat) (d : Device) : Device :=
  if portDead d || decide (nowMs < d.sec.backTo) then d
  else
    let good := match d.sec.nonce with
      | some (m, at_) => decide (nowMs ≤ at_ + 60000) && ecdsaOk Config.debugKey m sig
      | none => false
    let level := match d.sec.nonce with | some (m, _) => le m 9 1 | none => 0
    let d := setSec (fun c => { c with nonce := none }) (tapPick .dbgResponse d)
    if good then
      let d := setSec (fun c => { c with backoff := 0, backTo := 0, backRp := none }) d
      when (challengeAllows d.sec.life level) (setLevel level 1) d
    else
      let b := if d.sec.backoff = 0 then 1 else min 64 (2 * d.sec.backoff)
      setSec (fun c => { c with backoff := b, backTo := nowMs + 1000 * b, backRp := some d.clk.rp }) d

/-- DBG_RESPONSE. -/
def execDbgResponse (sig : List Byte) (nowMs : Nat) (s : State) : Result := act (dbgResponseFx sig nowMs) s

/-- DEBUG_UNLOCK (R503, R508). -/
def debugUnlockFx (c : Cmd) (d : Device) : Device :=
  let level := opB c 0
  if 1 < level then refuse 0x84 c 4 [] d
  else if !(unlockAllows d.sec.life level) || d.sec.level == level then refuse 0x84 c 6 [] d
  else setLevel level 0 (finish 0x84 c d.clk.rp [] d)

/-- DEBUG_UNLOCK. -/
def execDebugUnlock (c : Cmd) (s : State) : Result := act (debugUnlockFx c) s

/-- TAP_INTRUSIVE_ENTRY (R505, R571): EXTEST, CLAMP or HIGHZ is scanned in, and internal operation goes on. Which of the three it is, and
what has been shifted into the boundary register, no row says: both are free values (DESIGN CHOICE, log entry 97). -/
def tapEntryFx (d : Device) : Device :=
  let (v, d) := freeNext d
  let (w, d) := freeNext d
  let i : TapInstr := if v % 3 = 0 then .extest else if v % 3 = 1 then .clamp else .highz
  setSec (fun c => { c with intrusive := true, tap := { c.tap.scan i with boundary := BitVec.ofNat 516 w } }) d

/-- TAP_INTRUSIVE_ENTRY. -/
def execTapIntrusiveEntry (s : State) : Result := act tapEntryFx s

/-- TAP_INTRUSIVE_EXIT (R505): the device resets with cause TEST_PORT. -/
def tapExitFx (d : Device) : Device := if d.sec.intrusive then resetDevice 8 d else d

/-- TAP_INTRUSIVE_EXIT. -/
def execTapIntrusiveExit (s : State) : Result := clocked tapExitFx s

/-- The generation of a slot, 0 where it is empty. -/
def slotGen (k : Option LinkKey) : Nat := match k with | some k => k.gen.toNat | none => 0

/-- The wrapping key of a record (R493), where its ephemeral key is a point of P-256. -/
def wrapKey (d : Device) (b : List Byte) (slot : Nat) : Option (List Byte) :=
  (ecdhX d.sec.idPriv (be b 0 32) (be b 32 32)).map (fun z =>
    sha256 (beN 32 z ++ d.sec.fingerprint ++ cut b 0x40 4 ++ leN 1 slot))

/-- A key record opened (R493). -/
def openRecord (d : Device) (b : List Byte) (slot : Nat) : Option LinkKey :=
  if le b 0x40 4 = 0 then none
  else
    match wrapKey d b slot with
    | some w =>
      (gcmOpen w (zeros 12) (d.sec.fingerprint ++ cut b 0x40 4 ++ leN 1 slot) (cut b 0x44 32) (cut b 0x64 16)).map (fun k =>
        { key := k, gen := BitVec.ofNat 32 (le b 0x40 4) })
    | none => none

/-- Whether a life-cycle state takes link keys (R494, R496). -/
def keysTaken (l : Life) : Bool := l == .provisioned || l == .sealed

/-- A key record judged: the key, or the reason of R494 or R496. `current`: for the current slot; `port`: at the test port,
where the authentication tag counts and an occupied current slot may be replaced. -/
def judgeRecord (current port : Bool) (b : List Byte) (d : Device) : Except Nat LinkKey :=
  let gen := le b 0x40 4
  let slot := if current then 0 else 1
  if (cut b 0x7C 4).any (fun x => x != 0) || decide (b.length < 128) then .error 1
  else if !(keysTaken d.sec.life) then .error 2
  else if current && !port && d.sec.cur.isSome then .error 2
  else if (!current || port) && decide (gen ≤ slotGen d.sec.cur) then .error 2
  else if port && (match d.sec.cur with
      | some k => gmac64 k.key (d.sec.fingerprint ++ cut b 0x40 4) (b.take 0x74) != cut b 0x74 8
      | none => false) then .error 5
  else if !(p256on (be b 0 32) (be b 32 32)) then .error 4
  else match openRecord d b slot with
    | some k => .ok k
    | none => .error 3

/-- A key placed in a slot. -/
def placeKey (current : Bool) (k : LinkKey) (d : Device) : Device :=
  setSec (fun c => if current then { c with cur := some k } else { c with next := some k }) d

/-- The check value and generation of a key loaded (R494). -/
def keyResult (k : LinkKey) : List Byte := (aes256 k.key (zeros 16)).take 4 ++ leN 4 k.gen.toNat

/-- A KEY_LOAD's record applied (R494). -/
def keyApply (c : Cmd) (b : List Byte) (d : Device) : Device :=
  let current := opB c 8 == 0
  match judgeRecord current false b d with
  | .ok k => finish 0x80 c d.clk.rp (keyResult k) (placeKey current k d)
  | .error r => refuse 0x80 c 4 (leN 1 r) d

/-- KEY_LOAD (R494, R506, R577). -/
def keyLoadFx (c : Cmd) (d : Device) : Device :=
  let slot := opB c 8
  if secClosed d then refuse 0x80 c 6 [] d
  else if misaligned c || decide (1 < slot) || (cut c.ops 9 23).any (fun x => x != 0) then refuse 0x80 c 4 (leN 1 1) d
  else match c.host with
    | .busError => refuse 0x80 c 0x0A [] d
    | .none => refuse 0x80 c 4 (leN 1 1) d
    | .data b =>
      if slot = 1 ∧ d.sched.rolling.isSome then
        schedSample (setSec (fun s => { s with heldKeys := s.heldKeys ++ [{ cmd := some c, body := b }] }) d)
      else keyApply c b d

/-- KEY_LOAD. -/
def execKeyLoad (c : Cmd) (s : State) : Result := act (keyLoadFx c) s

/-- A record of the test port applied (R496): `keyStat` reads 0, or the reason. -/
def portApply (current : Bool) (b : List Byte) (d : Device) : Device :=
  match judgeRecord current true b d with
  | .ok k => setSec (fun c => { c with keyStat := 0 }) (placeKey current k d)
  | .error r => setSec (fun c => { c with keyStat := r }) d

/-- KEYLOAD (R496): the next slot; held while a rollover goes on (R494), reading 0xFF. -/
def keyloadFx (b : List Byte) (d : Device) : Device :=
  if portDead d then d
  else if d.sched.rolling.isSome then
    setSec (fun c => { c with keyStat := 0xFF, heldKeys := c.heldKeys ++ [{ cmd := none, body := b }] }) (tapPick .keyload d)
  else portApply false b (tapPick .keyload d)

/-- KEYLOAD. -/
def execKeyload (b : List Byte) (s : State) : Result := act (keyloadFx b) s

/-- KEYLOAD with MAKE_CURRENT (R496). -/
def keyloadCurrentFx (b : List Byte) (d : Device) : Device := if portDead d then d else portApply true b (tapPick .keyload d)

/-- KEYLOAD_MAKE_CURRENT. -/
def execKeyloadMakeCurrent (b : List Byte) (s : State) : Result := act (keyloadCurrentFx b) s

/-- KEY_ROLLOVER at its boundary RP[k:0:0] (R495): the rollover proceeds where the next slot holds the generation expected.
One that HIBERNATE overslept keeps its own k. -/
def rollPoint (c : Cmd) (d : Device) : Device :=
  let gen := opN c 0 4
  let d := { d with sched := { d.sched with roll := none } }
  if d.sec.next.isSome ∧ slotGen d.sec.next = gen then
    let due := frameAfter (dueRp c)
    let k := if d.pwr.woke && decide (frameDiff due d.clk.rp.frame < 0) && !(isNow c) then due else d.clk.rp.frame
    let r : Rollover := { k := k, gen := BitVec.ofNat 32 gen, cmd := c }
    finish 0x81 c (boundaryRp d) [] { d with sched := { d.sched with rolling := some r } }
  else refuse 0x81 c 6 [] d

/-- KEY_ROLLOVER. -/
def execKeyRollover (c : Cmd) (s : State) : Result := act (rollPoint c) s

/-- The end of a rollover at RP[k+1:0:0] (R103, R494, R495): the old key is erased, the next key becomes current, and the
records held are applied. -/
def rollEnd (d : Device) : Device :=
  match d.sched.rolling with
  | some r =>
    if 0 ≤ frameDiff d.clk.rp.frame (r.k + 1) then
      let held := d.sec.heldKeys
      let d := { d with sched := { d.sched with rolling := none } }
      let d := setSec (fun c => { c with cur := c.next, next := none, heldKeys := [] }) d
      let d := raise 0x8005 (leN 4 (slotGen d.sec.cur)) d
      held.foldl (fun d h => match h.cmd with
        | some c => keyApply c h.body d
        | none => portApply false h.body d) (schedSample d)
    else d
  | none => d

/-- A transition of R489: the reason it is refused for, if it is. -/
def lifeRefusal (d : Device) (dst : Nat) (fp : List Byte) : Option Nat :=
  let fpOk := fp == d.sec.fingerprint
  if 4 < dst then some 1
  else match d.sec.life with
    | .provisioned =>
      if dst = 2 then (if d.sec.cur.isSome then none else some 2)
      else if dst = 3 ∨ dst = 4 then (if fpOk then none else some 2) else some 2
    | .sealed => if dst = 3 ∨ dst = 4 then (if fpOk then none else some 2) else some 2
    | .returned => if dst = 4 ∧ fpOk then none else some 2
    | .blank => if dst = 4 ∧ fp = zeros 8 then none else some 2
    | .retired => some 2

/-- A life-cycle code's state (R488). -/
def lifeOf (n : Nat) : Life :=
  if n = 0 then .blank else if n = 1 then .provisioned else if n = 2 then .sealed else if n = 3 then .returned
  else .retired

/-- LIFECYCLE_SET's work at its admission (R489 to R491): the journal entry is written, the command completes, and a reset of the
device follows. -/
def lifecycleWork (c : Cmd) (d : Device) : Device :=
  if secClosed d || d.sec.journal.isSome then refuse 0x82 c 6 [] d
  else
    let dst := opB c 0
    match lifeRefusal d dst (cut c.ops 8 8) with
    | some r => refuse 0x82 c 4 (leN 1 r) d
    | none =>
      let j : Journal := { src := d.sec.life, dst := lifeOf dst, tag := c.tag }
      finish 0x82 c d.clk.rp [] (setSec (fun s => { s with journal := some j }) d)

/-- LIFECYCLE_SET (R81, R87, R88, R490): its due RP is examined as any command's; its work is done at admission, however far ahead the
due RP lies (DEDUCED, log entry 127). Before first lock it is held as every command is (R46). -/
def lifecycleSetFx (c : Cmd) (d : Device) : Device :=
  let due := dueRp c
  if !d.tim.firstLock then admitCmd 0x82 c d
  else if isNow c then lifecycleWork c d
  else if !(dueGood d.clk.raster c) then refuse 0x82 c 4 [] d
  else if commitPassed d .exact due then
    if discardLate c then eventLate 0x82 c none (refuse 0x82 c 2 [] d) else lifecycleWork { c with late := true } d
  else if tooEarly d due then refuse 0x82 c 8 [] d
  else lifecycleWork c d

/-- LIFECYCLE_SET. -/
def execLifecycleSet (c : Cmd) (s : State) : Result := act (lifecycleSetFx c) s

/-- LIFECYCLE_SELF_RESET (R490, step 3). -/
def selfResetFx (d : Device) : Device := if d.sec.journal.isSome then resetDevice 7 d else d

/-- LIFECYCLE_SELF_RESET. -/
def execLifecycleSelfReset (s : State) : Result := clocked selfResetFx s

/-- What a transition erases (R489): at RETIRED, with the keys, the health record and the records of wear and substitutions, which hold the
states of the engines, copies and PLLs (R373, R378). -/
def eraseFor (dst : Life) (d : Device) : Device :=
  match dst with
  | .returned => setSec (fun c => { c with cur := none, next := none }) d
  | .retired =>
    let d := setSec (fun c => { c with cur := none, next := none, idPriv := 0, fingerprint := zeros 8 }) d
    let old := d.spare.health
    let feeds := d.red.feeds.map (fun f => { f with faults := [], faulty := false })
    when (old != .good) (report 0x0C none 0x5010 (leN 1 (healthCode old) ++ zeros 3))
      { d with spare := {}, red := { engines := List.replicate 3 .standby, feeds := feeds } }
  | .blank => d
  | .provisioned => d
  | .sealed => d

/-- A standing journal entry carried through at start-up (R490, steps 4 to 6; R491). -/
def applyJournal (d : Device) : Device :=
  match d.sec.journal with
  | some j =>
    let d := setSec (fun c => { c with life := j.dst, journal := none }) (eraseFor j.dst d)
    let d := raise 0x8002 (leN 1 (lifeCode j.src) ++ leN 1 (lifeCode j.dst) ++ zeros 2 ++ leN 4 j.tag.toNat) d
    setLevel (resetLevel j.dst) 2 d
  | none => d

/-- The image of an area. -/
def imageOf (d : Device) (a : Nat) : Option Image := d.sec.images.getD a none

/-- Whether an area holds a valid image (R497). -/
def imageValid (d : Device) (a : Nat) : Bool :=
  match imageOf d a with | some i => i.good && decide (d.sec.rollback ≤ i.sec) | none => false

/-- FW_IMAGE_CHANGED (R509). -/
def imageChanged (a cause : Nat) (d : Device) : Device :=
  match imageOf d a with
  | some i => raise 0x8003 (leN 1 a ++ leN 1 i.sec ++ leN 1 cause ++ zeros 1 ++ leN 4 i.build.toNat) d
  | none => d

/-- ROLLBACK_REFUSED (R509). -/
def rollbackRefused (a ver : Nat) (d : Device) : Device :=
  raise 0x8004 (leN 1 a ++ leN 1 ver ++ leN 1 d.sec.rollback ++ zeros 1) d

/-- An image passed over at its turn (R498): one whose version is below the counter is reported. -/
def skipImage (a : Nat) (d : Device) : Device :=
  match imageOf d a with
  | some i => when (i.good && decide (i.sec < d.sec.rollback)) (rollbackRefused a i.sec) d
  | none => d

/-- The boot ROM's work (R498, R499): the preferred image where it is valid, else the other; after three failed starts on
trial the other is preferred again. -/
def bootImage (d : Device) : Device :=
  let p := d.sec.preferred
  let worn := d.sec.trial && decide (3 ≤ d.sec.fails) && imageValid d (1 - p)
  if imageValid d p && !worn then
    let tell := d.sec.announce
    let d := setSec (fun c => { c with running := p, noImage := false, announce := false }) d
    when tell (imageChanged p 0) d
  else
    let d := skipImage p d
    if imageValid d (1 - p) then
      imageChanged (1 - p) 1 (setSec (fun c => { c with
        running := 1 - p, preferred := 1 - p, noImage := false, trial := false, announce := false, fails := 0 }) d)
    else setSec (fun c => { c with noImage := true }) (skipImage (1 - p) d)

/-- A start judged when the firmware is ready for the host (R499): within its limit it ends a trial. -/
def judgeStart (us : Nat) (d : Device) : Device :=
  if !d.sec.trial then d
  else if (match d.pwr.bootLimit with | some l => decide (us ≤ l) | none => true) then
    setSec (fun c => { c with trial := false, fails := 0 }) d
  else setSec (fun c => { c with fails := c.fails + 1 }) d

/-- An image read for a STAGE judged (R497, R500). -/
def judgeImage (b : List Byte) (len : Nat) (d : Device) : Except Nat Image :=
  let body := le b 0x0C 4
  let i : Image := { sec := le b 6 1, build := BitVec.ofNat 32 (le b 8 4), good := true }
  if b.take 4 != [0x5A, 0x4C, 0x46, 0x57] || le b 4 2 != 0x0100 || body == 0 || decide (4194176 < body) ||
    len != body + 128 || decide (b.length < len) then .error 1
  else if !(ecdsaOk Config.fwKey (b.take (64 + body)) (cut b (64 + body) 64)) then .error 2
  else if i.sec < d.sec.rollback then .error 3
  else .ok i

/-- A FW_UPDATE served (R500): a STAGE that passes its checks begins to be written; the rest completes at once. -/
def fwServe (at_ : RP) (c : Cmd) (d : Device) : Device :=
  let kind := opB c 0
  let area := 1 - d.sec.running
  if kind = 0 then
    (match c.host with
     | .busError => refuse 0x83 c 0x0A [] d
     | .none => refuse 0x83 c 4 (leN 1 1) d
     | .data b =>
       match judgeImage b (opN c 0x10 4) d with
       | .error r => refuse 0x83 c 4 (leN 1 r) (when (r == 3) (rollbackRefused area (le b 6 1)) d)
       | .ok i => setSec (fun s => { s with stageImg := some i, images := setAt s.images area none }) d)
  else if kind = 1 then
    (if imageValid d area then
      finish 0x83 c at_ [] (setSec (fun s => { s with preferred := area, trial := true, announce := true, fails := 0 }) d)
     else refuse 0x83 c 6 [] d)
  else
    (match imageOf d d.sec.running with
     | some i =>
       if i.sec ≤ d.sec.rollback then refuse 0x83 c 6 [] d
       else finish 0x83 c at_ [] (setSec (fun s => { s with rollback := i.sec }) d)
     | none => refuse 0x83 c 6 [] d)

/-- The FW_UPDATE commands waiting, served one at a time until a STAGE is being written (R500), at most `n` of them. -/
def fwRun : Nat → Device → Device
  | 0, d => d
  | n + 1, d =>
    if d.sec.stageImg.isSome then d
    else match d.sec.staging with
      | [] => d
      | (at_, c) :: r =>
        let d1 := fwServe at_ c d
        if d1.sec.stageImg.isSome then d1 else fwRun n (setSec (fun s => { s with staging := r }) d1)

/-- A FW_UPDATE put among those that wait, in admission order (R500): by the positions of the commands, behind the one under way. -/
def queueFw (busy : Bool) (x : RP × Cmd) : List (RP × Cmd) → List (RP × Cmd)
  | [] => [x]
  | y :: r =>
    if !busy && decide (0 < frameDiff y.2.position x.2.position) then x :: y :: r else y :: queueFw false x r

/-- FW_UPDATE (R500, R506, R577). -/
def fwUpdateFx (c : Cmd) (d : Device) : Device :=
  if secClosed d then refuse 0x83 c 6 [] d
  else if 2 < opB c 0 ∨ (opB c 0 = 0 ∧ opN c 8 8 % 64 ≠ 0) then refuse 0x83 c 4 (leN 1 1) d
  else
    let d := setSec (fun s => { s with staging := queueFw s.stageImg.isSome (d.clk.rp, c) s.staging }) d
    fwRun d.sec.staging.length d

/-- FW_UPDATE. -/
def execFwUpdate (c : Cmd) (s : State) : Result := act (fwUpdateFx c) s

/-- FW_UPDATE_STAGE_DONE (R500): the area holds the image, or none. -/
def stageDoneFx (how : StageEnd) (d : Device) : Device :=
  match d.sec.stageImg, d.sec.staging with
  | some i, (at_, c) :: r =>
    let area := 1 - d.sec.running
    let d := setSec (fun s => { s with stageImg := none, staging := r }) d
    let d := match how with
      | .written => finish 0x83 c at_ (leN 1 area ++ leN 1 i.sec) (setSec (fun s => { s with images := setAt s.images area (some i) }) d)
      | .flashError => refuse 0x83 c 0x0B [] d
      | .busError => refuse 0x83 c 0x0A [] d
    fwRun d.sec.staging.length d
  | _, _ => d

/-- FW_UPDATE_STAGE_DONE. -/
def execFwUpdateStageDone (how : StageEnd) (s : State) : Result := act (stageDoneFx how) s

end Sys2Proof.Machine
end

