-- ==== Sys2Proof/Machine/Power.lean ====
section
/-! DEFINITION. Machine/Power.lean: resets (R510, R521 to R524, R527), the start-up sequence (R515, R529), power states and
the moves between them (R513 to R519), and opcodes 0x88 to 0x8A (R530). -/

namespace Sys2Proof.Machine

/-- Power changed. -/
def setPwr (f : Power → Power) (d : Device) : Device := { d with pwr := f d.pwr }

/-! ### Resets -/

/-- POWER_ON_RESET (R510, R521): a device that a brown-out held goes on to its release. -/
def powerOnFx (d : Device) : Device := if d.pwr.supplyLow then setPwr (fun p => { p with supplyLow := false }) d else resetDevice 0 d

/-- POWER_ON_RESET. -/
def execPowerOnReset (s : State) : Result := clocked powerOnFx s

/-- BROWN_OUT (R510): no save is made; the reset lasts until the supply is back. -/
def brownOutFx (d : Device) : Device := setPwr (fun p => { p with supplyLow := true }) (resetDevice 1 d)

/-- BROWN_OUT. -/
def execBrownOut (s : State) : Result := clocked brownOutFx s

/-- RESET_N (R521). -/
def execResetN (s : State) : Result := clocked (resetDevice 2) s

/-- REF_LOST (R527): REF does not run in HIBERNATE (R525). -/
def refLostFx (d : Device) : Device := if d.pwr.powerOff then d else resetDevice 9 d

/-- REF_LOST. -/
def execRefLost (s : State) : Result := clocked refLostFx s

/-- Whether the control cores run: after their start at step 8, and not in HIBERNATE. -/
def coresRun (d : Device) : Bool := !d.pwr.inReset && !d.pwr.waitRef && !d.pwr.powerOff && !d.sec.noImage

/-- CORE_WATCHDOG (R521). -/
def coreWatchdogFx (d : Device) : Device := if coresRun d then resetDevice 6 d else d

/-- CORE_WATCHDOG. -/
def execCoreWatchdog (s : State) : Result := clocked coreWatchdogFx s

/-- PWR_RESET_WRITE (R521): the key resets the device; any other value is ignored. -/
def pwrResetFx (v : Nat) (d : Device) : Device :=
  if v = 0x5A4C5253 ∧ d.pwr.readyHost ∧ !d.pwr.powerOff then resetDevice 4 d else d

/-- PWR_RESET_WRITE. -/
def execPwrResetWrite (v : Word) (s : State) : Result := clocked (pwrResetFx v.toNat) s

/-- PCIE_RESET (R521): the endpoint and its HIF state, not the device: the rings stop until they start again. -/
def pcieResetFx (d : Device) : Device := if d.isHead then setHif (fun h => { rounds := h.rounds }) d else d

/-- PCIE_RESET. -/
def execPcieReset (s : State) : Result := act pcieResetFx s

/-! ### Start-up -/

/-- The states of the engines after their power-up tests (R346): the two lowest that pass become ACTIVE, the third
STANDBY. -/
def bootEngines (es : List EngState) (pass : List Bool) : List EngState :=
  let ok := fun e => es.getD e .failed != .failed && pass.getD e false
  (List.range 3).map (fun e =>
    if !(ok e) then .failed
    else if ((List.range e).filter ok).length < 2 then .active else .standby)

/-- The engines' power-up tests (R346), unjudged: each that fails becomes FAILED; with none passing, each is reported. -/
def testEngines (pass : List Bool) (d : Device) : Device :=
  let was := d.red.engines
  let now := bootEngines was pass
  let d := setRed (fun r => { r with engines := now }) d
  (List.range 3).foldl (fun d e =>
    if now.getD e .failed == .failed && was.getD e .failed != .failed then
      let (v, d) := freeNext d
      engineGone e v d
    else if now.all (fun x => x == .failed) then
      let (v, d) := freeNext d
      engineFailedNotice e v d
    else d) d

/-- The output copies' self-checks (R359), unjudged: a copy that fails is RETIRED and the other drives. -/
def testCopies (pass : List Bool) (d : Device) : Device :=
  let bad := fun c => copyServes d c && !(pass.getD c false)
  let b0 := bad 0
  let b1 := bad 1
  let d := when b0 (retireCopy 0) d
  let d := when b1 (retireCopy 1) d
  if b0 && copyServes d 1 then setRed (fun r => { r with copies := setAt r.copies 1 .driving }) d else d

/-- The PLLs locked, and their standbys' lock tests (R529, R540), unjudged: the PCI family runs in the head roles alone (R525). -/
def testPlls (mask : Nat) (d : Device) : Device :=
  let head := d.isHead
  (List.range 7).foldl (fun d f => pllTested f (hasBit mask f) d)
    (setRed (fun r => { r with pllLocked := (List.range 7).map (fun f => head || (f != 5 && f != 4)) }) d)

/-- The tests of step 7 of start-up (R346, R359, R381, R529), and the substitutions that a reset came before (R382): all are applied before
health is judged. -/
def bootTests (b : BootInputs) (d : Device) : Device :=
  judged d (deferredMade 1 (deferredMade 0 (testPlls b.pllPass (testCopies b.copyPass (testEngines b.enginePass d)))))

/-- Steps 5 to 8 of start-up (R529): the wipe has been made, the permutation secret is drawn, a standing journal entry
resumed, FIX_RDM_UID given its reset value (R551), the tests run, and the firmware booted. -/
def bootSteps (b : BootInputs) (d : Device) : Device :=
  let slack := d.sec.journal.isSome
  let d := applyJournal (setSec (fun c => { c with permDraws := c.permDraws + 1 }) d)
  let d := setPwr (fun p => { p with waitRef := false, boot := none,
                                     bootLimit := if slack then p.bootLimit.map (· + 30000) else p.bootLimit }) d
  let d := if d.pwr.woke then d else d.setWord 0x480C (be d.sec.fingerprint 0 4)
  bootImage (bootTests b d)

/-- The role the straps select (R13). -/
def roleOf (r1 r0 : Bool) : Role := if r1 && !r0 then .headNode else if !r1 && r0 then .head else .node

/-- RESET_RELEASE (R13, R14, R515, R529): with REF absent start-up waits at step 4. -/
def resetReleaseFx (b : BootInputs) (d : Device) : Device :=
  if !d.pwr.inReset || d.pwr.supplyLow then d
  else
    let role := roleOf b.role1 b.role0
    let d := setPwr (fun p => { p with
      inReset := false, state := .startUp, role := role, straps := 2 * bit b.role1 + bit b.role0,
      roleRes := b.role1 && b.role0, start := role == .node, refHere := b.refPresent }) d
    if b.refPresent then bootSteps b d
    else setPwr (fun p => { p with waitRef := true, boot := some b, bootLimit := none }) d

/-- RESET_RELEASE. -/
def execResetRelease (b : BootInputs) (s : State) : Result := act (resetReleaseFx b) s

/-- REF_RETURN (R527): start-up goes on. -/
def refReturnFx (d : Device) : Device :=
  let d := setPwr (fun p => { p with refHere := true }) d
  match d.pwr.boot with
  | some b => if d.pwr.waitRef then bootSteps b d else d
  | none => d

/-- REF_RETURN. -/
def execRefReturn (s : State) : Result := act refReturnFx s

/-- A power state's code (R531). -/
def stateCode (p : PState) : Nat :=
  match p with
  | .run => 0
  | .quiet => 1
  | .standby => 2
  | .hibernate => 3
  | .startUp => 4

/-- POWER_STATE_CHANGED (R531). -/
def stateChanged (old new : PState) (cause : Nat) (d : Device) : Device :=
  raise 0x8010 (leN 1 (stateCode old) ++ leN 1 (stateCode new) ++ leN 1 cause ++ zeros 1 ++ d.clk.rp.bytes) d

/-- The link ports enabled (R150, R529). -/
def enableLinks (d : Device) : Device := { d with link := d.link.map (fun l => { l with enabled := true }) }

/-- The ingest ports powered, in the head roles (R13, R514). -/
def enableIngest (d : Device) : Device :=
  if d.isHead then { d with ing := d.ing.map (fun l => { l with enabled := true }) } else d

/-- The ingest ports powered down (R514, R516). -/
def stopIngest (d : Device) : Device :=
  let d := ingestDown 1 0 (ingestDown 0 0 d)
  { d with ing := d.ing.map (fun l => { l with enabled := false }) }

/-- What RETENTION put in force again before step 9 of a wake (R518), and cleared; a head has no node ID until a map is in force again
(R16). A FREE head, which has no lock to take anew, judges its commands then (R46). -/
def restoreRetained (d : Device) : Device :=
  match d.pwr.retained with
  | some r =>
    let d := { d with
      topo := if d.isHead then d.topo
        else { d.topo with nodeId := r.nodeId, record := r.record, gen := r.gen, headSet := r.headSet },
      tim := { d.tim with presentP := r.p, presentC := r.c },
      sched := { d.sched with entries := r.sched.map (fun e => { e with judged := false }), adm := r.adm, roll := r.roll,
                              rolling := r.rolling },
      hif := { d.hif with f := r.f, e := r.e },
      flows := { d.flows with next := r.seqs } }
    let d := setPwr (fun p => { p with retained := none }) d
    if d.tim.firstLock then evaluateHeld d else d
  | none => d

/-- A state entered (R515, R516, R531): output is owed at the next boundary where the state drives it. -/
def enterState (target old : PState) (cause : Nat) (d : Device) : Device :=
  let d := setPwr (fun p => { p with state := target, byWd := cause == 1 }) d
  let d := lpiCheckAll (if target == .run || target == .quiet then enableIngest d else d)
  let d := when (target == .run && (old == .standby || old == .hibernate)) (setOut (fun o =>
    { o with autoStart := if d.tim.everLocked then some 2 else some 1 })) d
  stateChanged old target cause d

/-- The end of the transition under way, with its command's completion (R516, R530). -/
def transEnd (us : Nat) (d : Device) : Device :=
  match d.pwr.trans with
  | some t =>
    let d := setPwr (fun p => { p with trans := none }) d
    let d := enterState t.target t.old t.cause d
    match t.cmd with
    | some c => finish 0x88 c t.at_ (leN 4 us) d
    | none => d
  | none => d

/-- Whether the device is on its way to STANDBY, whose ingest ports are off (R514, R518). -/
def entersStandby (d : Device) : Bool := match d.pwr.trans with | some t => t.target == .standby | none => false

/-- READY_FOR_HOST (R150, R459, R499, R503, R529): step 9; a wake to STANDBY ends here (R518). -/
def readyHostFx (us : Nat) (d : Device) : Device :=
  if d.pwr.inReset || d.pwr.waitRef || d.pwr.readyHost || d.pwr.powerOff then d
  else
    let wake := d.pwr.trans.isSome
    let d := restoreRetained d
    let d := enableLinks (setPwr (fun p => { p with readyHost := true }) d)
    let d := if entersStandby d then d else enableIngest d
    let d := judgeStart us d
    if wake then (match d.pwr.trans with | some t => when (t.target == .standby) (transEnd us) d | none => d)
    else
      let d := raise 0x8011 (leN 1 d.pwr.first ++ zeros 1 ++ leN 2 d.pwr.mask ++ leN 4 us) d
      let d := if d.sec.wasLevel = d.sec.level then d
        else raise 0x8006 (leN 1 d.sec.wasLevel ++ leN 1 d.sec.level ++ leN 1 2 ++ zeros 1) d
      calBoot (setSec (fun c => { c with wasLevel := c.level }) d)

/-- READY_FOR_HOST. -/
def execReadyForHost (us : Nat) (s : State) : Result := act (readyHostFx us) s

/-- The stores loaded and the start-up wear pass applied (R300, R301, R307). -/
def loadStores (d : Device) : Device := if d.isNode then startUpPass (loadRecords d) else d

/-- READY_TO_LIGHT (R307, R449, R483, R529): step 10; a wake to RUN or QUIET ends here (R518). -/
def readyLightFx (d : Device) : Device :=
  if !d.pwr.readyHost || d.pwr.readyLight || d.pwr.powerOff then d
  else
    let d := meterFromRegs (loadMeter (if d.isNode then loadFixtures (loadStores d) else d))
    let d := setPwr (fun p => { p with readyLight := true }) d
    if d.pwr.woke then transEnd 0 d else d

/-- READY_TO_LIGHT. -/
def execReadyToLight (s : State) : Result := act readyLightFx s

/-- The source a head takes at its first entry to RUN (R42). -/
def sourceOf (n : Nat) : TimeSource := if n = 0 then .ptp else if n = 1 then .sync else if n = 2 then .free else .none

/-- Whether every setting of R42 and R90 is in its range (R43, R90). -/
def settingsValid (d : Device) : Bool :=
  let r := rasterRegs d
  let p := d.field 0x3030 2 0
  let off := signed 32 (d.word 0x3028)
  r.valid && decide (d.field 0x3000 1 0 ≤ 2) && decide (100 ≤ d.field 0x3010 19 0) && decide (d.field 0x3010 19 0 ≤ 1000000) &&
  decide (1 ≤ d.field 0x3014 4 0) && decide (d.field 0x3014 4 0 ≤ 16) && decide (d.field 0x3018 7 0 ≤ 127) &&
  decide (1 ≤ d.field 0x301C 1 0) && decide (1 ≤ d.field 0x3020 4 0) && decide (d.field 0x3020 4 0 ≤ 16) &&
  decide (-1000000 ≤ off) && decide (off ≤ 1000000) && decide (2 ≤ p) && decide (p ≤ 4) &&
  decide (d.field 0x3030 28 16 ≤ r.lines / 2)

/-- A base judged at the first entry to RUN (R389). -/
def baseBad (a detail : Nat) (d : Device) : Bool × Device :=
  if d.word a = 0 ∧ d.word (a + 4) = 0 then (true, ringFault 3 detail (d.word a) d) else (false, d)

/-- What a head's first entry to RUN adds (R41, R43, R46, R54, R389, R396). The part that moves the raster clock: it restarts
on the raster the registers give, where that is valid. -/
def headRunClock (d : Device) : Device :=
  if d.isHead && (rasterRegs d).valid then restarted (rasterRegs d) d else d

/-- A head's settings taken at its first entry to RUN (R43, R54, R389). -/
def headRun (d : Device) : Device :=
  let src := sourceOf (d.field 0x3000 1 0)
  let ok := settingsValid d
  let d := setTime (fun t => { t with source := src, cfgInvalid := !ok, threshold := d.field 0x3010 19 0 }) d
  let d := when (!ok) (raise 0x0108 []) d
  let d := if ok && src == .free then
      evaluateHeld (enterLocked (setTime (fun t => { t with firstLock := true }) d))
    else d
  let (b1, d) := baseBad 0x1400 1 d
  let (b2, d) := baseBad 0x1408 2 d
  setHif (fun h => { h with rounds := !b1 && !b2 }) d

/-- RUN_ENTRY (R8, R41, R46, R436, R515, R529, R550): the first entry to RUN. -/
def runEntryFx (d : Device) : Device :=
  if d.pwr.state != .startUp || !d.pwr.readyLight || !d.pwr.start || d.pwr.inReset then d
  else
    let d1 := headRunClock d
    quiet (fun d =>
      let d := setPwr (fun p => { p with everRun := true }) d
      let d := enterState .run .startUp 4 d
      let d := if d.isHead then headRun d else setTime (fun t => { t with threshold := d.field 0x3010 19 0 }) d
      let d := when d.isNode (setFix (fun x => { x with setpoint := vMax d })) d
      if d.pwr.role = .headNode then outCheck d else d) d1

/-- RUN_ENTRY. -/
def execRunEntry (s : State) : Result := clocked runEntryFx s

/-- PWR_CTRL_START_WRITE (R515). -/
def pwrStartFx (v : Nat) (d : Device) : Device := if d.pwr.readyHost then setPwr (fun p => { p with start := hasBit v 0 }) d else d

/-- PWR_CTRL_START_WRITE. -/
def execPwrCtrlStartWrite (v : Word) (s : State) : Result := act (pwrStartFx v.toNat) s

/-! ### Power states -/

/-- The pattern engines stopped, fixtures no longer driven (R514, R576). -/
def fixturesStop (d : Device) : Device := (List.range 16).foldl (fun d n => haltPat n d.clk.rp d) d

/-- Every task of the pixel graph cancelled (R245): the graph is discarded, and the copies kept for EXPO with it. -/
def tasksGone (d : Device) : Device := setPxl (fun p => { p with graph := none, graphQ := [], expoQueue := [] }) d

/-- The steps of entry to STANDBY from RUN or QUIET (R74, R305, R306, R455, R516): functions stop, the pending correction
record is written and the exposure save runs. -/
def standbySteps (d : Device) : Device :=
  let d := calLeave (outStop 2 d)
  let d := if d.isNode then expoStart none (corrWriteFx (fixturesStop d)) else d
  let d := tasksGone (stopIngest d)
  if d.isHead && d.tim.source == .ptp then timeLost 0 none d else d

/-- A transition begun (R516). -/
def transBegin (target : PState) (cause : Nat) (cmd : Option Cmd) (d : Device) : Device :=
  let t : Transition := { target := target, old := d.pwr.state, cause := cause, cmd := cmd, at_ := boundaryRp d }
  setPwr (fun p => { p with trans := some t }) d

/-- A move to another power state at the present boundary (R516). -/
def moveTo (target : PState) (cause : Nat) (cmd : Option Cmd) (d : Device) : Device :=
  let old := d.pwr.state
  let now := fun (d : Device) => match cmd with
    | some c => finish 0x88 c (boundaryRp d) (zeros 4) d
    | none => d
  match target with
  | .quiet =>
    if old == .run then now (enterState .quiet .run cause (tasksGone (calLeave (outStop 2 d))))
    else transBegin .quiet cause cmd d
  | .run =>
    if old == .quiet then
      let d := enterState .run .quiet cause d
      let d := if d.field 0x4000 0 0 = 1 ∧ canStart d ∧ !d.out.running then
          outStart d.clk.rp.frame 2 (setOut (fun o => { o with autoStart := none }) d)
        else d
      now d
    else transBegin .run cause cmd d
  | .standby => setPwr (fun p => { p with state := .standby }) (standbySteps (transBegin .standby cause cmd d))
  | .hibernate =>
    let d := transBegin .hibernate cause cmd d
    let d := if old == .standby then d else setPwr (fun p => { p with state := .standby }) (standbySteps d)
    saveStart none d
  | .startUp => d

/-- A power state's code in POWER_STATE_SET (R530). -/
def stateOf (n : Nat) : PState := if n = 0 then .run else if n = 1 then .quiet else if n = 2 then .standby else .hibernate

/-- The state in force, or the one being entered (R519). -/
def stateEntered (d : Device) : PState := match d.pwr.trans with | some t => t.target | none => d.pwr.state

/-- The settings of HIBERNATE a command names (R530). -/
def hibernateSet (c : Cmd) (d : Device) : Device :=
  setPwr (fun p => { p with back := stateOf (opB c 1), wakeTimer := opN c 4 4 }) d

/-- POWER_STATE_SET at its boundary (R506, R515, R516, R519, R530). -/
def powerSetFx (c : Cmd) (d : Device) : Device :=
  let n := opB c 0
  let target := stateOf n
  if 3 < n ∨ 2 < opB c 1 ∨ 86400 < opN c 4 4 then refuse 0x88 c 4 [] d
  else if d.pwr.state == .startUp then refuse 0x88 c 6 [] d
  else if forwardOnly d && (target == .quiet || target == .standby) then refuse 0x88 c 6 [] d
  else if d.sec.halted ≠ 0 ∧ target ≠ .run then refuse 0x88 c 6 [] d
  else if stateEntered d == target then refuse 0x88 c 6 [] d
  else if d.pwr.trans.isSome then schedSample (setPwr (fun p => { p with queued := p.queued ++ [{ c with late := false }] }) d)
  else moveTo target 0 (some c) (if target == .hibernate then hibernateSet c d else d)

/-- POWER_STATE_SET. -/
def execPowerStateSet (c : Cmd) (s : State) : Result := act (powerSetFx c) s

/-- The saves under way when a power-down or reset that waits for them comes: they have ended well (R306, R482). -/
def savesEnd (d : Device) : Device := saveDoneFx true (saveDoneFx true (corrWrittenFx true (expoDoneFx true (expoDoneFx true d))))

/-- What the retention memory is given (R518). -/
def retain (d : Device) : Device :=
  let r : Retained := {
    role := d.pwr.role, nodeId := d.topo.nodeId, record := d.topo.record, gen := d.topo.gen, headSet := d.topo.headSet,
    p := d.tim.presentP, c := d.tim.presentC, sched := d.sched.entries, adm := d.sched.adm, roll := d.sched.roll,
    rolling := d.sched.rolling, f := d.hif.f, e := d.hif.e, seqs := d.flows.next, rp := d.clk.rp }
  setPwr (fun p => { p with retained := some r }) d

/-- The stores powered again and written to zero (R212, R302, R516): no buffer holds content, and correction stands at its
defaults until its records are loaded. -/
def storesWiped (d : Device) : Device :=
  let k := keptCorr d.corr
  let d := setCorr (fun c => { k with runNs := c.runNs, runSecs := c.runSecs, savedAt := c.savedAt }) d
  setPxl (fun p => { p with buffers := [], staging := [], shorts := [], upsets := [], outBuf := [], proof := [], last := none, voids := [] }) (tasksGone d)

/-- POWER_TRANSITION_DONE (R516). -/
def transDoneFx (us : Nat) (d : Device) : Device :=
  match d.pwr.trans with
  | some t =>
    if !d.pwr.readyHost || d.pwr.powerOff then d
    else match t.target with
      | .standby => transEnd us (savesEnd d)
      | .hibernate =>
        let d := retain (savesEnd d)
        let d := stateChanged t.old .hibernate t.cause d
        let d := match t.cmd with
          | some c => finish 0x88 c t.at_ (leN 4 us) d
          | none => d
        setPwr (fun p => { p with trans := some { t with cmd := none } }) d
      | _ => transEnd us (loadStores (storesWiped d))
  | none => d

/-- POWER_TRANSITION_DONE. -/
def execPowerTransitionDone (us : Nat) (s : State) : Result := act (transDoneFx us) s

/-- What metering keeps through HIBERNATE: the slots in NVM, and the settings as set-up registers read them (R480, R535). -/
def retainedMeter (m : Meter) : Meter :=
  { slot := m.slot, row := m.row, byCmd := m.byCmd, period := m.period, tzc := m.tzc, zcBoth := m.zcBoth, saveOnLoss := m.saveOnLoss,
    chans := m.chans.map (fun c => { vfs := c.vfs, ifs := c.ifs, k := c.k }), s0 := m.s0.map (fun x => { const := x.const }) }

/-- The device with everything but AON, NVM, bank LV and the retention memory powered down (R516, R518). Set-up registers, ring
settings and raised start thresholds (R158) are taken as kept (log entry 82); with the sequences of every flow those of the TIME frames
of each port go on (R132). -/
def hibernated (d : Device) : Device :=
  { clk := d.clk,
    tim := { source := d.tim.source, cfgInvalid := d.tim.cfgInvalid, threshold := d.tim.threshold, fresh := d.tim.fresh,
             stepGen := d.tim.stepGen, state := if d.tim.source = .free ∧ d.isHead then d.tim.state else .free,
             firstLock := d.tim.firstLock && d.tim.source == .free && d.isHead,
             everLocked := d.tim.everLocked && d.tim.source == .free && d.isHead }
    hif := { d.hif with held := [], posted := [], toPost := [], bulk := [], request := [], msix := 0, letters := [], sort := [], f := 0, e := 0 }
    out := { d.out with running := false, scanning := false, scans := [], load := none, ready := none, late := none, joint := none }
    sec := { (keptSec d) with level := 0, running := d.sec.running, announce := d.sec.announce }
    link := d.link.map (fun l => { thresh := l.thresh, timeSeq := l.timeSeq })
    fix := keptFix d.fix, cal := keptCal d.cal, red := { (keptRed d.red) with feeds := d.red.feeds }
    corr := keptCorr d.corr, spare := keptSpare d.spare
    mtr := retainedMeter d.mtr
    pwr := { d.pwr with state := .hibernate, trans := none, powerOff := true, readyHost := false, readyLight := false,
                        hvLow := false, byWd := false }
    regs := d.regs, sent := d.sent, host := d.host, comps := d.comps, notes := d.notes }

/-- The ring positions and sequence counters retained as the last records written at entry leave them (R518). -/
def retainRings (d : Device) : Device :=
  setPwr (fun p => { p with
    retained := p.retained.map (fun r => { r with f := d.hif.f, e := d.hif.e, seqs := d.flows.next }) }) d

/-- A wake (R517, R518): steps 2 to 8 of start-up with the straps and the reset cause as they were. -/
def wakeUp (cause : Nat) (d : Device) : Device :=
  let t : Transition := { target := d.pwr.back, old := .hibernate, cause := cause, cmd := none, at_ := d.clk.rp }
  let d := setPwr (fun p => { p with
    powerOff := false, state := .standby, trans := some t, wakeLatch := none, woke := true, bootLimit := some 25000 }) d
  bootSteps { role1 := false, role0 := false, refPresent := true, enginePass := [true, true, true], copyPass := [true, true],
              pllPass := 127 } d

/-- The link ports taken down by a power state (R150, R514). -/
def linksDown (d : Device) : Device := (List.range 8).foldl (fun d p => when (d.port p).up (portDownFx p 0) d) d

/-- HIBERNATE_POWER_DOWN (R516, R519): a wake event latched during the entry wakes the device at once. -/
def powerDownFx (d : Device) : Device :=
  match d.pwr.trans with
  | some t =>
    if t.target = .hibernate ∧ d.pwr.retained.isSome then
      let d := hibernated (retainRings (setLevel 0 2 (linksDown d)))
      match d.pwr.wakeLatch with
      | some cause => wakeUp cause d
      | none => d
    else d
  | none => d

/-- HIBERNATE_POWER_DOWN. -/
def execHibernatePowerDown (s : State) : Result := act powerDownFx s

/-- Whether HIBERNATE is being entered. -/
def entering (d : Device) : Bool := match d.pwr.trans with | some t => t.target == .hibernate && !d.pwr.powerOff | none => false

/-- WAKE_N (R517, R519): out of HIBERNATE, or to RUN at the next boundary from STANDBY or QUIET. -/
def wakeNFx (d : Device) : Device :=
  if d.pwr.powerOff then wakeUp 2 d
  else if entering d then setPwr (fun p => { p with wakeLatch := some (p.wakeLatch.getD 2) }) d
  else if d.pwr.state == .standby || d.pwr.state == .quiet then setPwr (fun p => { p with runNext := some 2 }) d
  else d

/-- WAKE_N. -/
def execWakeN (s : State) : Result := act wakeNFx s

/-- Whether the watchdog entered the power state, or is entering it (R517). -/
def byWatchdog (d : Device) : Bool := d.pwr.byWd || (match d.pwr.trans with | some t => t.cause == 1 | none => false)

/-- WAKE_TIMER_EXPIRY (R517, R519): a state the watchdog entered is left for RUN. -/
def wakeTimerFx (d : Device) : Device :=
  if d.pwr.wakeTimer = 0 then d
  else if d.pwr.powerOff then wakeUp 3 d
  else if entering d then setPwr (fun p => { p with wakeLatch := some (p.wakeLatch.getD 3) }) d
  else if byWatchdog d then setPwr (fun p => { p with runNext := some 3 }) d
  else d

/-- WAKE_TIMER_EXPIRY. -/
def execWakeTimerExpiry (s : State) : Result := act wakeTimerFx s

/-- HV_LOW (R513). -/
def execHvLow (cleared : Bool) (s : State) : Result :=
  act (fun d => if d.pwr.powerOff then d else setPwr (fun p => { p with hvLow := !cleared }) d) s

/-- JUNCTION_TEMPERATURE_READ (R125): the latest reading, for reply cards. -/
def execJunctionTemperatureRead (tenths : Int) (s : State) : Result :=
  act (fun d => if d.pwr.inReset || d.pwr.powerOff then d else setPwr (fun p => { p with temp := tenths }) d) s

/-! ### The host watchdog and RESET_REQUEST -/

/-- WATCHDOG_SET (R524, R530). -/
def watchdogFx (c : Cmd) (d : Device) : Device :=
  let period := opN c 0 4
  let action := opB c 4
  if (period ≠ 0 ∧ !(within 100 3600000 period)) ∨ 2 < action then refuse 0x8A c 4 [] d
  else finish 0x8A c d.clk.rp [] (setPwr (fun p =>
    { p with wdOn := decide (period ≠ 0), wdPeriod := period, wdAction := action, wdSetAt := some d.clk.rp }) d)

/-- WATCHDOG_SET. -/
def execWatchdogSet (c : Cmd) (s : State) : Result := act (watchdogFx c) s

/-- HOST_WATCHDOG_EXPIRY (R519, R524): QUIET or STANDBY at the next boundary at which no transition runs; a reset after an
energy save. One that comes in the cycle of a WATCHDOG_SET is not applied. -/
def watchdogExpiryFx (d : Device) : Device :=
  if !d.pwr.wdOn || d.pwr.powerOff || d.pwr.wdSetAt == some d.clk.rp then d
  else
    let d := setPwr (fun p => { p with wdOn := false }) d
    if d.pwr.wdAction = 2 ∧ d.pwr.trans.isNone then saveStart none (setPwr (fun p => { p with wdReset := true }) d)
    else setPwr (fun p => { p with wdQueued := true }) d

/-- The move to RUN that WAKE_N or the wake timer has asked for (R517). -/
def wakeMove (cause : Nat) (d : Device) : Device :=
  let d := setPwr (fun p => { p with runNext := none }) d
  if d.pwr.state == .standby || d.pwr.state == .quiet then moveTo .run cause none d else d

/-- The watchdog's action that has waited for a boundary (R519, R524). -/
def watchdogMove (d : Device) : Device :=
  let d := setPwr (fun p => { p with wdQueued := false }) d
  if d.pwr.wdAction = 2 then saveStart none (setPwr (fun p => { p with wdReset := true }) d)
  else
    let target : PState := if d.pwr.wdAction = 0 then .quiet else .standby
    if d.pwr.state == target then d else moveTo target 1 none d

/-- The power state's part of a frame boundary (R517, R519, R524): what waited for it is applied, each while no transition runs. -/
def powerBoundary (d : Device) : Device :=
  let still := fun (f : Device → Device) (d : Device) =>
    if d.pwr.trans.isSome || d.pwr.powerOff || d.pwr.inReset then d else f d
  let held := fun (d : Device) =>
    let q := d.pwr.queued
    q.foldl (fun d c => powerSetFx c d) (schedSample (setPwr (fun p => { p with queued := [] }) d))
  let woken := fun (d : Device) => match d.pwr.runNext with | some cause => wakeMove cause d | none => d
  let barked := fun (d : Device) => if d.pwr.wdQueued && d.pwr.state != .startUp then watchdogMove d else d
  still barked (still woken (still held d))

/-- RESET_REQUEST at its boundary (R481, R521, R530): the saves begin; one that comes before the reset that another asks for joins it. -/
def resetRequestFx (c : Cmd) (d : Device) : Device :=
  let expo := hasBit (opB c 0) 0 && d.isNode
  let h : HostReset := match d.pwr.hostReset with
    | some h => { h with cmds := h.cmds ++ [(c, boundaryRp d)], expo := h.expo || expo, energy := true }
    | none => { cmds := [(c, boundaryRp d)], expo := expo, energy := true, failed := false, done := false }
  saveStart none (when expo (expoStart none) (setPwr (fun p => { p with hostReset := some h }) d))

/-- RESET_REQUEST. -/
def execResetRequest (c : Cmd) (s : State) : Result := act (resetRequestFx c) s

/-- A save has ended: the RESET_REQUESTs that waited for the last of theirs complete (R530). -/
def hostResetSaved (expo ok : Bool) (d : Device) : Device :=
  match d.pwr.hostReset with
  | some h =>
    if h.cmds.isEmpty then d
    else
      let h := { h with
        failed := h.failed || (!ok && (if expo then h.expo else h.energy)),
        expo := h.expo && d.corr.expoSave.isSome, energy := h.energy && d.mtr.save.isSome }
      if h.expo || h.energy then setPwr (fun p => { p with hostReset := some h }) d
      else
        let d := setPwr (fun p => { p with hostReset := some { h with cmds := [], failed := false, done := true } }) d
        h.cmds.foldl (fun d (c, at_) => if h.failed then complete 0x89 c 0x0B (some at_) [] d else finish 0x89 c at_ [] d) d
  | none => d

/-- EXPO_SAVE_DONE (R306, R311, R530). -/
def execExpoSaveDone (ok : Bool) (s : State) : Result := act (fun d => hostResetSaved true ok (expoDoneFx ok d)) s

/-- METER_SAVE_DONE, with what waits for it (R481, R482, R521, R530): a watchdog reset follows its save. -/
def meterDoneFx (ok : Bool) (d : Device) : Device :=
  let d1 := quiet (fun d => hostResetSaved false ok (saveDoneFx ok d)) d
  if d1.pwr.wdReset && d1.mtr.save.isNone then resetDevice 5 d1 else d1

/-- METER_SAVE_DONE. -/
def execMeterSaveDone (ok : Bool) (s : State) : Result := clocked (meterDoneFx ok) s

/-- HOST_RESET_DELAY (R530): 10 ms after the completion the device resets with cause HOST. -/
def hostResetFx (d : Device) : Device :=
  match d.pwr.hostReset with
  | some h => if h.done then resetDevice 3 d else d
  | none => d

/-- HOST_RESET_DELAY. -/
def execHostResetDelay (s : State) : Result := clocked hostResetFx s

end Sys2Proof.Machine
end

