-- ==== Sys2Proof/Machine/Registers.lean ====
section
/-! DEFINITION. Machine/Registers.lean: the set-up register map (R532 to R555): what each word reads, what a write of it
does (R8 to R10, R507, R533 to R537, R544, R550), and clear-on-read counters (R168, R534). -/

namespace Sys2Proof.Machine

/-! ### What a word reads -/

/-- A bit mask of flags, bit 0 first. -/
def maskOf (bs : List Bool) : Nat := (bs.zipIdx).foldl (fun w (b, i) => if b then w + 2 ^ i else w) 0

/-- Word `i` of a wide value. -/
def wordOf (v i : Nat) : Nat := v / 2 ^ (32 * i) % 2 ^ 32

/-- ID block (R538). -/
def readId (d : Device) (a : Nat) : Nat :=
  if a = 0x0000 then 0x409600C0
  else if a = 0x0004 then 2 ^ 31 * bit d.topo.nodeId.isNone + 2 ^ 24 * (if d.isHead then d.headIndex else 0) + d.nodeNo
  else if a = 0x0008 ∨ a = 0x000C then le d.sec.fingerprint (a - 8) 4
  else if a = 0x0010 then 256 * d.sec.running + (match imageOf d d.sec.running with | some i => i.sec | none => 0)
  else if a = 0x0014 then (match imageOf d d.sec.running with | some i => i.build.toNat | none => 0)
  else d.word a

/-- The identity public key (R492). -/
def idPublic (d : Device) : Nat × Nat := (p256mul 256 d.sec.idPriv (some p256g)).getD (0, 0)

/-- LCS block (R539). -/
def readLcs (d : Device) (a : Nat) : Nat :=
  if a = 0x0400 then 256 * d.sec.rollback + lifeCode d.sec.life
  else if a = 0x0404 then 4 * bit d.sec.trial + 2 * bit d.sec.noImage + bit d.sec.setupLocked
  else if a = 0x0408 then 4 * bit d.sched.roll.isSome + 2 * bit d.sec.next.isSome + bit d.sec.cur.isSome
  else if a = 0x040C then slotGen d.sec.cur
  else if a = 0x0410 then slotGen d.sec.next
  else if 0x0420 ≤ a ∧ a < 0x0440 then wordOf (idPublic d).1 ((a - 0x0420) / 4)
  else if 0x0440 ≤ a ∧ a < 0x0460 then wordOf (idPublic d).2 ((a - 0x0440) / 4)
  else 0

/-- The families whose PLL in use is locked (R540): those of PIX and ING are not powered in STANDBY (R525). -/
def pllsLocked (d : Device) : List Bool :=
  d.red.pllLocked.zipIdx.map (fun (x, f) => x && !(d.pwr.state == .standby && (f == 1 || f == 4)))

/-- CLK, PWR and PIN blocks (R540 to R542). -/
def readPwr (d : Device) (a : Nat) : Nat :=
  if a = 0x0800 then 65536 * maskOf d.red.pllStandby + 256 * maskOf d.red.pllUse + maskOf (pllsLocked d)
  else if a = 0x0C00 then
    2048 * bit d.pwr.hvLow + 1024 * bit d.pwr.readyLight + 512 * bit d.pwr.readyHost + 256 * bit d.pwr.waitRef +
    stateCode d.pwr.state
  else if a = 0x0C04 then bit d.pwr.start
  else if a = 0x0C0C then 65536 * d.pwr.mask + (if d.pwr.mask = 0 then 15 else d.pwr.first)
  else if a = 0x0C14 then 65536 * (feedOf d 1).mv + (feedOf d 0).mv
  else if a = 0x1000 then
    65536 * d.pwr.straps + 256 * bit d.pwr.roleRes + (match d.pwr.role with | .node => 0 | .head => 1 | .headNode => 2)
  else d.word a

/-- The ring registers (R543, R544): a node's are what was last written, a head's its own directory entry. -/
def ringShown (d : Device) : RingCfg := if d.isHead then d.hif.ring else d.hif.staged

/-- HIF block (R543). -/
def readHif (d : Device) (a : Nat) : Nat :=
  let r := ringShown d
  if a = 0x1460 ∨ a = 0x1464 then wordOf r.cmdBase ((a - 0x1460) / 4)
  else if a = 0x1468 ∨ a = 0x146C then wordOf r.cplBase ((a - 0x1468) / 4)
  else if a = 0x1470 ∨ a = 0x1474 then wordOf r.evtBase ((a - 0x1470) / 4)
  else if a = 0x1478 ∨ a = 0x147C then wordOf r.bulkBase ((a - 0x1478) / 4)
  else if a = 0x1480 then 2 ^ 24 * bit r.enable + 65536 * r.bulkLog2 + 256 * r.evtLog2 + r.cmdLog2
  else if a = 0x1484 then d.hif.f.toNat
  else if a = 0x1488 then d.hif.e.toNat
  else if 0x1800 ≤ a ∧ a < 0x1880 then (d.hif.msixTable.getD ((a - 0x1800) / 4) 0).toNat
  else if a = 0x1880 then d.hif.msix
  else d.word a

/-- LNK block (R170, R545). -/
def readLnk (d : Device) (a : Nat) : Nat :=
  if a < 0x2200 then
    let p := (a - 0x2000) / 0x40
    let o := (a - 0x2000) % 0x40
    let l := d.port p
    if o = 0x04 then l.thresh
    else if o = 0x08 then statWord l.stat
    else if o = 0x28 then (if l.fec then 65536 * 2353 + 406 else 65536 * 227 + 142)
    else if o = 0x2C then 8 * bit l.eeeOk + 4 * bit l.lpiTx + 2 * bit l.fec + bit l.up
    else d.word a
  else d.word a

/-- ING block (R170, R546). -/
def readIng (d : Device) (a : Nat) : Nat :=
  if a < 0x2900 then
    let p := (a - 0x2800) / 0x80
    let o := (a - 0x2800) % 0x80
    if o = 0x10 then statWord (d.ingPort p).stat
    else if o = 0x14 then (if hasBit (d.word (ingReg p 0)) 0 then 65536 * 1394 + 420 else 65536 * 314 + 180)
    else d.word a
  else d.word a

/-- A time path's code is held as R78 codes it. TIM block (R547). -/
def readTim (d : Device) (a : Nat) : Nat :=
  if a = 0x3040 then 512 * bit d.tim.ltcUnaligned + 256 * bit d.tim.cfgInvalid + 16 * d.tim.path + timeCode d.tim.state
  else if a = 0x3044 then d.clk.rp.frame.toNat
  else if a = 0x3048 then d.clk.rp.ls
  else if a = 0x304C then d.tim.label.toNat
  else if a = 0x3050 then d.tim.wclkPhase
  else if a = 0x3054 then d.tim.wclkHz
  else d.word a

/-- Source layers whose hold buffer is empty (R233, R548). -/
def emptyHolds (d : Device) : Nat :=
  ((sourceLayers d).filter (fun l => !(d.pxl.buffers.any (fun b => b.layer == l.1 && b.hold)))).length

/-- PXL block (R548). -/
def readPxl (d : Device) (a : Nat) : Nat :=
  if a = 0x3800 then 65536 * emptyHolds d + groupsUsed d
  else if a = 0x3810 then 65536 * d.pxl.sharePeak + d.pxl.shareLast
  else if a = 0x3818 then 256 * maskOf (d.pxl.layers.map (fun l => l.short)) + maskOf (d.pxl.layers.map (fun l => l.late))
  else if a = 0x384C then d.corr.atLimit
  else d.word a

/-- OUT block (R549). -/
def readOut (d : Device) (a : Nat) : Nat :=
  let o := d.out.orec
  if a = 0x4004 then o.count
  else if a = 0x4008 then o.phase
  else if a = 0x400C then
    65536 * o.setA.b + 32768 * bitAt o.flags 1 + 256 * o.setB.n + 128 * bitAt o.flags 0 + o.setA.n
  else if a = 0x4010 then 65536 * o.setB.g + o.setA.g
  else if a = 0x4014 then o.setB.b
  else if a = 0x4018 then 2 ^ 20 * o.gclkSet + 65536 * o.gclkEn + o.gclkMul
  else if 0x4020 ≤ a ∧ a < 0x4040 then
    let g := o.group ((a - 0x4020) / 4)
    65536 * g.m + 16 * g.dclkMul + 2 * bit g.setB + bit g.enable
  else if a = 0x4040 then darkGap d.clk.raster o false
  else if a = 0x4044 then darkGap d.clk.raster o true
  else if a = 0x4048 then 16 * bit d.out.running + maskOf (d.sched.shutters.map (fun s => s.isOpen))
  else d.word a

/-- A pattern engine's byte (R551). -/
def patByte (p : PatEngine) : Nat :=
  4 * p.pc + (match p.state with | .stopped => 0 | .running => 1 | .waiting => 2 | .faulted => 3)

/-- FIX block (R551). -/
def readFix (d : Device) (a : Nat) : Nat :=
  if a = 0x4800 then 65536 * maskOf (d.fix.ports.map (fun p => p.overflow)) + maskOf (d.fix.ports.map (fun p => p.fault))
  else if a = 0x4804 then d.fix.skipped
  else if a = 0x4828 then 65536 * d.fix.measured + d.fix.setpoint
  else if a = 0x482C then d.fix.neediest
  else if 0x4838 ≤ a ∧ a < 0x4848 then
    fromLe (((d.fix.pats.drop (a - 0x4838)).take 4).map (fun p => BitVec.ofNat 8 (patByte p)))
  else d.word a

/-- A 48-bit value's word. -/
def word48 (v i : Nat) : Nat := if i = 0 then v % 2 ^ 32 else v / 2 ^ 32 % 2 ^ 16

/-- MTR block (R553). A setting METER_CONFIG has made reads as in force (R535). -/
def readMtr (d : Device) (a : Nat) : Nat :=
  if a < 0x5060 then
    let c := d.mtr.chans.getD ((a - 0x5000) / 16) {}
    let o := (a - 0x5000) % 16
    if o < 8 then word48 (energyReg c.imp) (o / 4) else word48 (energyReg c.exp_) ((o - 8) / 4)
  else if a < 0x5070 then word48 (d.mtr.s0.getD ((a - 0x5060) / 8) {}).energy (a % 8 / 4)
  else if a < 0x5080 then word48 (d.mtr.s0.getD ((a - 0x5070) / 8) {}).count (a % 8 / 4)
  else if a = 0x5080 then d.mtr.wraps
  else if a = 0x5084 then 4 * bit d.mtr.seen + 2 * bit d.mtr.noHist + bit d.mtr.lost
  else if a = 0x5088 then d.mtr.freq
  else if a = 0x508C then 65536 * (d.mtr.s0.getD 1 {}).glitch + (d.mtr.s0.getD 0 {}).glitch
  else if !d.mtr.byCmd then d.word a
  else if 0x50C0 ≤ a ∧ a < 0x50F0 then
    let c := d.mtr.chans.getD ((a - 0x50C0) / 8) {}
    if a % 8 = 0 then c.vfs else c.ifs
  else if a = 0x50F0 ∨ a = 0x50F4 then (d.mtr.s0.getD ((a - 0x50F0) / 4) {}).const
  else if a = 0x50F8 then 2 ^ 25 * bit d.mtr.saveOnLoss + 2 ^ 24 * bit d.mtr.zcBoth + 65536 * d.mtr.tzc + d.mtr.period
  else d.word a

/-- The code of a calibration kind's work (R554). -/
def calCode (d : Device) (k : Nat) : Nat := bit (d.cal.running.getD k none).isSome + 2 * bit (d.cal.waiting.getD k none).isSome

/-- The counts of a bank's errors as a word (R554). -/
def eccWord (e : Nat × Nat) : Nat := 65536 * e.2 + e.1

/-- The most writes to any NVM row (R382). -/
def mostWrites (d : Device) : Nat := d.spare.nvmWrites.foldl (fun m e => max m e.2) 0

/-- HLT and DBG blocks (R554, R555). -/
def readHlt (d : Device) (a : Nat) : Nat :=
  if a = 0x5800 then 65536 * bit (alertOn d) + 256 * reasonCode d + healthCode d.spare.health
  else if a = 0x5804 then reachedNow d
  else if a = 0x5808 then d.spare.predicted
  else if a = 0x580C then
    4096 * bit ((d.red.engines.filter (fun e => e == .active)).length == 1) + 256 * copyBits d + engByte d
  else if a = 0x5818 then fromLe ((d.spare.coreLate.take 4).map (BitVec.ofNat 8))
  else if a = 0x581C then nth d.spare.coreLate 4
  else if a = 0x5828 then eccWord (mget d.spare.fsEcc (d.field 0x5824 10 0) (0, 0))
  else if a = 0x582C then eccWord (mget d.spare.calEcc (d.field 0x5824 10 0) (0, 0))
  else if 0x5830 ≤ a ∧ a < 0x5840 then fromLe (((d.spare.qParity.drop (a - 0x5830)).take 4).map (BitVec.ofNat 8))
  else if a = 0x5840 then 2 ^ 24 * d.spare.nvmSkip + mostWrites d
  else if a = 0x5844 then 65536 * nth d.cal.quality 0 + calCode d 0 + 4 * calCode d 1 + 16 * calCode d 2
  else if a = 0x5848 then 65536 * nth d.cal.quality 2 + nth d.cal.quality 1
  else if a = 0x584C then d.spare.ageing
  else if a = 0x6000 then 256 * d.sec.halted + 4 * bit d.sec.intrusive + d.sec.level
  else if a = 0x6004 then
    (match d.sec.backRp with
     | some r => (ceilDiv (1000000000 * d.sec.backoff - (d.clk.raster.nsOf (RP.dist d.clk.raster d.clk.rp r)).toNat) 1000000000)
     | none => 0)
  else d.word a

/-- Whether the device's role lacks the function of a register (R536). -/
def lacks (d : Device) (a : Nat) : Bool :=
  (!d.isHead && ((decide (0x2800 ≤ a) && decide (a < 0x3000)) || a == 0x0018 || (decide (0x1400 ≤ a) && decide (a < 0x1414)) ||
    (decide (0x1420 ≤ a) && decide (a < 0x1460)) || (decide (0x1800 ≤ a) && decide (a < 0x2000)))) ||
  (!d.isNode && decide (0x3800 ≤ a) && decide (a < 0x5000))

/-- What a register word reads at this instant (R10, R12): a word of no register reads zero. A function the role lacks has never
left its reset state, and its words read so (R536). -/
def rawWord (d : Device) (a : Nat) : Nat :=
  if a < 0x0400 then readId d a
  else if a < 0x0800 then readLcs d a
  else if a < 0x1400 then readPwr d a
  else if a < 0x2000 then readHif d a
  else if a < 0x2800 then readLnk d a
  else if a < 0x3000 then readIng d a
  else if a < 0x3800 then readTim d a
  else if a < 0x4000 then readPxl d a
  else if a < 0x4800 then readOut d a
  else if a < 0x5000 then readFix d a
  else if a < 0x5800 then readMtr d a
  else readHlt d a

/-! ### Wide registers and clear-on-read (R168, R533, R534) -/

/-- The wide registers: lowest address and words. -/
def wideRegs : List (Nat × Nat) :=
  [(0x0008, 2), (0x0408, 3), (0x0420, 8), (0x0440, 8), (0x1400, 2), (0x1408, 2), (0x1420, 3), (0x1430, 3), (0x1440, 3)] ++
  [(0x1450, 3), (0x1460, 2), (0x1468, 2), (0x1470, 2), (0x1478, 2), (0x1484, 2), (0x2804, 3), (0x2884, 3), (0x281C, 2)] ++
  [(0x289C, 2), (0x3044, 2), (0x400C, 3), (0x4040, 3), (0x4800, 2), (0x480C, 2), (0x4820, 2), (0x4828, 2), (0x4838, 4)] ++
  (List.range 16).map (fun i => (0x5000 + 8 * i, 2)) ++ (List.range 6).map (fun i => (0x50C0 + 8 * i, 2)) ++
  [(0x50F0, 2), (0x5804, 2), (0x5818, 2), (0x5830, 4), (0x5844, 2)]

/-- The wide register a word belongs to. -/
def wideOf (a : Nat) : Option (Nat × Nat) := wideRegs.find? (fun (b, n) => decide (b ≤ a) && decide (a < b + 4 * n))

/-- A read's clearing of a counter or statistic (R168, R534); the counters of the HLT block are kept. -/
def clearRead (a : Nat) (d : Device) : Device :=
  if lacks d a then d
  else if 0x2000 ≤ a ∧ a < 0x2200 then
    let o := a % 0x40
    if o = 0x08 then d.setPort ((a - 0x2000) / 0x40) (fun l => { l with stat := List.replicate 8 0 })
    else if 0x0C ≤ o ∧ o ≤ 0x20 then d.setWord a 0 else d
  else if 0x2800 ≤ a ∧ a < 0x2900 then
    let o := a % 0x80
    if o = 0x10 then setIng ((a - 0x2800) / 0x80) (fun l => { l with stat := List.replicate 8 0 }) d
    else if o = 0x24 ∨ o = 0x28 ∨ o = 0x2C then d.setWord a 0 else d
  else if (0x2900 ≤ a ∧ a ≤ 0x291C) ∨ a = 0x1490 ∨ a = 0x1494 ∨ a = 0x3058 ∨ a = 0x305C ∨ a = 0x3808 ∨ a = 0x380C ∨
      (0x3820 ≤ a ∧ a ≤ 0x3840) ∨ a = 0x404C ∨ a = 0x4808 ∨ (0x5090 ≤ a ∧ a < 0x50A8) then d.setWord a 0
  else if a = 0x3810 then setPxl (fun p => { p with sharePeak := 0 }) d
  else if a = 0x4800 then setFix (fun x => { x with skipped := 0 }) d
  else if a = 0x508C then setMtr (fun m => { m with s0 := m.s0.map (fun x => { x with glitch := 0 }) }) d
  else d

/-- A snapshot of a wide register's higher words (R533). -/
def takeSnap (base n : Nat) (d : Device) : Device :=
  let higher := (List.range n).drop 1
  let m := higher.foldl (fun m i => mins m (base + 4 * i) (BitVec.ofNat 32 (rawWord d (base + 4 * i)))) d.snap
  { d with snap := m }

/-- A read of an aligned register word (R8, R10, R532 to R536): the word goes to `lastRead`. `keep`: a read of the test port,
which clears nothing (R502). A higher word of a wide register no snapshot has been taken of reads a free value. -/
def readReg (keep : Bool) (a : Nat) (d : Device) : Device :=
  if a = 0x3848 then expoReadFx d
  else if a = 0x481C then (if d.isNode then rdmDataFx d else { d with lastRead := 0 })
  else match wideOf a with
    | some (b, n) =>
      if a = b then
        let v := rawWord d a
        let d := takeSnap b n d
        let d := if keep then d else clearRead a d
        { d with lastRead := BitVec.ofNat 32 v }
      else (match mfind d.snap a with
        | some v => { d with lastRead := v }
        | none =>
          let (v, d) := freeNext d
          { d with lastRead := BitVec.ofNat 32 v })
    | none =>
      let v := rawWord d a
      let d := if keep then d else clearRead a d
      { d with lastRead := BitVec.ofNat 32 v }

/-- Whether a read by a path is served: BAR0 in the head roles from step 9 on (R13, R529, R532), the test port at DEBUG_PUBLIC or
DEBUG_FULL (R502). -/
def readServed (path : Path) (d : Device) : Bool :=
  match path with
  | .bar0 => d.isHead && d.pwr.readyHost && !d.pwr.powerOff
  | .testPort => !(portDead d) && decide (1 ≤ d.sec.level)

/-- A read by a path: one of fewer than four bytes reads the aligned word (R532). -/
def readBy (path : Path) (a : Nat) (d : Device) : Device :=
  if readServed path d then readReg (path == .testPort) (a - a % 4) d else d

/-- COUNTER_READ. -/
def execCounterRead (addr : BitVec 16) (path : Path) (s : State) : Result := act (readBy path addr.toNat) s

/-- WIDE_REGISTER_READ. -/
def execWideRegisterRead (addr : BitVec 16) (path : Path) (s : State) : Result := act (readBy path addr.toNat) s

/-! ### Writes -/

/-- The writable bits of a register word kept in `regs`, and whether it is RWL (R538 to R555). -/
def settingMask (d : Device) (a : Nat) : Option (Bool × Nat) :=
  let all := 2 ^ 32 - 1
  if a = 0x0018 then some (true, 0x3F)
  else if a = 0x0C10 then some (true, 0x3FF)
  else if a = 0x1400 then some (true, 0xFFFF0000)
  else if a = 0x1408 then some (true, 0xFFFFF000)
  else if a = 0x1404 ∨ a = 0x140C then some (true, all)
  else if a = 0x1410 then some (true, 0x3FF)
  else if a = 0x1414 then some (d.isHead, 0x3FF)
  else if 0x1420 ≤ a ∧ a < 0x1460 then
    (if a % 16 = 0 then some (true, 0xFFFFF000) else if a % 16 = 4 then some (true, all)
     else if a % 16 = 8 then some (true, 0xFFFFF) else none)
  else if 0x2000 ≤ a ∧ a < 0x2200 then
    (if a % 0x40 = 0 then some (true, 1) else if a % 0x40 = 0x24 then some (false, 0x3FF) else none)
  else if a = 0x2200 then some (false, 0x1F)
  else if 0x2800 ≤ a ∧ a < 0x2900 then
    let o := a % 0x80
    (if o = 0 then some (true, 1) else if o = 4 ∨ o = 0xC ∨ o = 0x18 then some (true, all) else if o = 8 then some (true, 0xFFFF)
     else if o = 0x1C then some (false, 7) else if o = 0x20 then some (false, all) else if o = 0x30 then some (false, 0x3FF)
     else none)
  else if a = 0x3000 then some (true, 3)
  else if a = 0x3004 then some (true, 0xFFFFFF)
  else if a = 0x3008 then some (true, 0xFFFF)
  else if a = 0x300C then some (true, 0x3FFF)
  else if a = 0x3010 then some (true, 0xFFFFF)
  else if a = 0x3014 ∨ a = 0x3020 then some (true, 0x1F)
  else if a = 0x3018 then some (true, 0xFF)
  else if a = 0x301C then some (true, 3)
  else if a = 0x3024 ∨ a = 0x302C then some (true, 1)
  else if a = 0x3028 then some (true, all)
  else if a = 0x3030 then some (true, 0x1FFF0007)
  else if a = 0x3804 then some (false, 0x1FF)
  else if a = 0x3814 then some (false, 0x3FF)
  else if a = 0x3844 ∨ a = 0x3850 then some (false, 0x7FFFF)
  else if a = 0x3854 then some (false, 0xFFFF)
  else if a = 0x3858 ∨ a = 0x4848 then some (true, 0xFFFF0000)
  else if a = 0x4050 then some (false, 0xFF)
  else if a = 0x480C then some (true, all)
  else if a = 0x4810 then some (true, 0xFFFF)
  else if a = 0x4814 then some (false, 0xFFF)
  else if a = 0x4818 then some (false, 0xFF1F)
  else if a = 0x4820 then some (true, 0x1FFF1FFF)
  else if a = 0x4824 then some (true, 0xFFFF01FF)
  else if a = 0x4830 then some (false, 0x3F)
  else if a = 0x4834 then some (false, 3)
  else if (0x50C0 ≤ a ∧ a < 0x50F0) ∨ a = 0x50F0 ∨ a = 0x50F4 then some (true, all)
  else if a = 0x50F8 then some (true, 0x03FF03FF)
  else if a = 0x5824 then some (false, 0x7FF)
  else none

/-- Whether a word is an RWL register of the OUT block (R549). -/
def outRwl (a : Nat) : Bool := decide (0x4004 ≤ a) && decide (a < 0x4040) && decide (a ≠ 0x401C)

/-- Whether a word is one of a node's ring base registers (R543). -/
def ringBase (a : Nat) : Bool := decide (0x1460 ≤ a) && decide (a < 0x1480)

/-- The output record with a register word written (R316, R549). -/
def outWord (a v : Nat) (o : OutRec) : OutRec :=
  if a = 0x4004 then { o with count := v % 512 }
  else if a = 0x4008 then { o with phase := v % 2 ^ 29 }
  else if a = 0x400C then
    { o with setA := { o.setA with b := bitsOf v 26 16, n := bitsOf v 6 0 }, setB := { o.setB with n := bitsOf v 14 8 },
             flags := bitAt v 7 + 2 * bitAt v 15 }
  else if a = 0x4010 then { o with setA := { o.setA with g := v % 65536 }, setB := { o.setB with g := bitsOf v 31 16 } }
  else if a = 0x4014 then { o with setB := { o.setB with b := bitsOf v 10 0 } }
  else if a = 0x4018 then { o with gclkSet := bitsOf v 23 20, gclkEn := bitsOf v 19 16, gclkMul := bitsOf v 11 0 }
  else { o with groups := modAt o.groups ((a - 0x4020) / 4) (fun _ =>
      { enable := hasBit v 0, setB := hasBit v 1, dclkMul := bitsOf v 15 4, m := bitsOf v 28 16 }) }

/-- A base register of a node's rings staged (R544). -/
def stageBase (a v : Nat) (r : RingCfg) : RingCfg :=
  let put := fun (old : Nat) => if a % 8 = 0 then old / 2 ^ 32 * 2 ^ 32 + v / 4096 * 4096 else old % 2 ^ 32 + 2 ^ 32 * v
  if a < 0x1468 then { r with cmdBase := put r.cmdBase }
  else if a < 0x1470 then { r with cplBase := put r.cplBase }
  else if a < 0x1478 then { r with evtBase := put r.evtBase }
  else { r with bulkBase := put r.bulkBase }

/-- One word's value put in force; a port whose RS-FEC mode it changes goes down (R149, R150). -/
def putWord (a v : Nat) (d : Device) : Device :=
  if ringBase a then setHif (fun h => { h with staged := stageBase a v h.staged }) d
  else if outRwl a then setOut (fun o => { o with orec := outWord a v o.orec, was := outWord a v o.orec }) d
  else match settingMask d a with
    | some (_, m) =>
      let was := d.word a
      let d := d.setWord a (v &&& m)
      if a = 0x0C10 then settleShare d
      else if 0x2000 ≤ a ∧ a < 0x2200 then fecSwitch d
      else if a = ingReg 0 0 ∨ a = ingReg 1 0 then when (d.word a != was) (ingestDown (if a = ingReg 0 0 then 0 else 1) 0) d
      else if 0x50C0 ≤ a ∧ a ≤ 0x50F8 then meterFromRegs d
      else d
    | none => d

/-- A write of a setting: a word of a wide register but the highest is held; the highest applies every word written since
the last apply (R533). -/
def applySetting (a v : Nat) (d : Device) : Device :=
  match wideOf a with
  | some (b, n) =>
    if a ≠ b + 4 * (n - 1) then { d with wideHold := mins d.wideHold a (BitVec.ofNat 32 v) }
    else
      let d := (List.range (n - 1)).foldl (fun d i =>
        match mfind d.wideHold (b + 4 * i) with
        | some w => putWord (b + 4 * i) w.toNat { d with wideHold := mdel d.wideHold (b + 4 * i) }
        | none => d) d
      putWord a v d
  | none => putWord a v d

/-- Bits of an RW1C field that a write leaves (R8). -/
def w1c (old v : Nat) : Nat := old - (old &&& v)

/-- A write to an RWL register that RUN has locked (R8, R507). -/
def lockedWrite (a : Nat) (d : Device) : Device :=
  rateEvent 0x8001 0 (leN 4 a) [] 1 false (setSec (fun c => { c with setupLocked := true }) d)

/-- Whether a write of a word is ignored and flagged: it is RWL, and the device has entered RUN (R8, R507). -/
def rwlLocked (a : Nat) (d : Device) : Bool :=
  d.pwr.everRun && !(lacks d a) && (outRwl a || (match settingMask d a with | some (l, _) => l | none => false))

/-- A write of an aligned register word (R8 to R10, R507, R533, R535 to R537, R544, R550). PWR_RESET acts apart. -/
def writeReg (a v : Nat) (d : Device) : Device :=
  if lacks d a then d
  else if rwlLocked a d then lockedWrite a d
  else if a = 0x0404 then (if hasBit v 0 then setSec (fun c => { c with setupLocked := false }) d else d)
  else if a = 0x0C04 then pwrStartFx v d
  else if a = 0x0C0C then setPwr (fun p => { p with mask := w1c p.mask (bitsOf v 25 16) }) d
  else if ringBase a then (if d.isHead then d else applySetting a v d)
  else if a = 0x1480 then ringCfgFx v d
  else if 0x1800 ≤ a ∧ a < 0x1880 then setHif (fun h => { h with msixTable := setAt h.msixTable ((a - 0x1800) / 4) (BitVec.ofNat 32 v) }) d
  else if a = 0x3848 then expoWriteFx v d
  else if a = 0x4000 then outCtrlFx v d
  else if a = 0x5080 then setMtr (fun m => { m with wraps := w1c m.wraps v }) d
  else if a = 0x5084 then (if hasBit v 1 then setMtr (fun m => { m with noHist := false }) d else d)
  else applySetting a v d

/-- REGISTER_WRITE through BAR0 (R8, R13, R521, R532): a node has none; one that does not cover an aligned word is ignored. -/
def registerWriteFx (a v : Nat) (d : Device) : Device :=
  if a % 4 ≠ 0 ∨ !d.isHead ∨ !d.pwr.readyHost ∨ d.pwr.powerOff then d
  else if a = 0x0C08 then pwrResetFx v d
  else quiet (writeReg a v) d

/-- REGISTER_WRITE. -/
def execRegisterWrite (addr : BitVec 16) (v : Word) (s : State) : Result := clocked (registerWriteFx addr.toNat v.toNat) s

/-! ### CTRL frames (R119, R120) -/

/-- The entries of a CTRL payload: address and value. -/
def ctrlEntries (b : List Byte) : List (Nat × Nat) := (List.range (be b 2 2)).map (fun i => (be b (8 + 8 * i) 4, be b (12 + 8 * i) 4))

/-- Whether an entry's address is one of BAR0's words (R120). -/
def entryGood (a : Nat) : Bool := a % 4 == 0 && decide (a < 65536)

/-- The ports and directions by which a device answers a CTRL request that came on port `p` (R119, R120): a node in each direction
opposite to one in which it receives ORIGIN 0 frames of the requesting head, a head by the port it came on. -/
def ctrlOuts (p : Nat) (h : Hdr) (d : Device) : List (Nat × Nat) :=
  let pair := pairOf p
  if d.isHead then [(p, 1 - h.dir)]
  else [0, 1].filterMap (fun dir =>
    match d.topo.ends.getD (2 * pair + (1 - dir)) none with
    | some (head, _) => if head = h.head then (outPort d pair dir).map (fun q => (q, dir)) else none
    | none => none)

/-- The one response to a request (R111, R120, R132): copies of one frame, numbered within the ring it came by. -/
def ctrlRespond (p : Nat) (h : Hdr) (payload : List Byte) (d : Device) : Device :=
  let pair := pairOf p
  let n := nextSeq d 2 1 pair
  let outs := ctrlOuts p h d
  usedSeq (outs.foldl (fun d (q, dir) =>
    let r : Hdr := { cls := 2, head := h.head, dir := dir, origin := 1, src := d.nodeNo, dst := h.src, stamp := d.clk.rp, pair := pair }
    sendOwn d (sealFrame d q (numbered r n) payload) (decide (1 < outs.length)) none) d) 2 1 pair

/-- CTRL_READ served entry by entry (R120): the entries with what they read, and whether one was skipped. -/
def ctrlReadAll (es : List (Nat × Nat)) (d : Device) : List Byte × Bool × Device :=
  es.foldl (fun (out, bad, d) (a, _) =>
    if entryGood a then
      let d := readReg false a d
      (out ++ ctrlEntry a d.lastRead.toNat, bad, d)
    else (out ++ ctrlEntry a 0, true, d)) ([], false, d)

/-- Whether CTRL frames are served (R529). -/
def ctrlServed (d : Device) : Bool := d.pwr.readyHost && !d.pwr.powerOff

/-- CTRL_READ. -/
def ctrlReadFx (f : RxFrame) (d : Device) : Device :=
  takeNumbered f (fun h b => ctrlIs 0 h b && !d.isHead) (fun h b d =>
    if !(ctrlServed d) then d
    else
      let (out, bad, d) := ctrlReadAll (ctrlEntries b) d
      ctrlRespond f.port.val h (ctrlHead 2 (bit bad) (be b 2 2) (be b 4 4) ++ out) d) d

/-- CTRL_READ. -/
def execCtrlRead (f : RxFrame) (s : State) : Result := act (ctrlReadFx f) s

/-- CTRL_WRITE applied entry by entry (R120): whether an entry was skipped, whether an RWL write was ignored. -/
def ctrlWriteAll (es : List (Nat × Nat)) (d : Device) : Bool × Bool × Device :=
  es.foldl (fun (bad, locked, d) (a, v) =>
    if entryGood a then (bad, locked || rwlLocked a d, writeReg a v d) else (true, locked, d)) (false, false, d)

/-- A CTRL_WRITE without the reset it may ask for, and whether it does (R521): it is acknowledged first. -/
def ctrlWriteCore (f : RxFrame) (d : Device) : Device :=
  takeNumbered f (fun h b => ctrlIs 1 h b && !d.isHead) (fun h b d =>
    if !(ctrlServed d) then d
    else
      let (bad, locked, d) := ctrlWriteAll (ctrlEntries b) d
      let d := ctrlRespond f.port.val h (ctrlHead 3 (if bad then 1 else if locked then 2 else 0) (be b 2 2) (be b 4 4) ++ cut b 8 (8 * be b 2 2)) d
      if (ctrlEntries b).any (fun e => e.1 == 0x0C08 && e.2 == 0x5A4C5253) then setPwr (fun p => { p with resetAsked := true }) d
      else d) d

/-- CTRL_WRITE (R120, R521). -/
def ctrlWriteFx (f : RxFrame) (d : Device) : Device :=
  let d1 := quiet (ctrlWriteCore f) d
  if d1.pwr.resetAsked then resetDevice 4 d1 else d1

/-- CTRL_WRITE. -/
def execCtrlWrite (f : RxFrame) (s : State) : Result := clocked (ctrlWriteFx f) s

/-- READ_RESP (R119): taken by the head it is addressed to; it changes nothing more. -/
def execReadResp (f : RxFrame) (s : State) : Result :=
  act (fun d => takeNumbered f (ctrlIs 2) (fun _ _ d => d) d) s

/-- WRITE_ACK (R119): taken by the head it is addressed to; it changes nothing more. -/
def execWriteAck (f : RxFrame) (s : State) : Result :=
  act (fun d => takeNumbered f (ctrlIs 3) (fun _ _ d => d) d) s

/-- CTRL_UNLISTED_OP (R119): answered with status 3 by the device addressed where its ORIGIN is 0; a broadcast one addresses no one device
and is not answered (DESIGN CHOICE, log entry 145). -/
def ctrlUnlistedFx (f : RxFrame) (d : Device) : Device :=
  takeNumbered f (fun h b => h.cls == 2 && decide (7 ≤ be b 0 1)) (fun h b d =>
    if h.origin == 0 && unicastTo d h && ctrlServed d then ctrlRespond f.port.val h (ctrlHead 3 3 0 (be b 4 4)) d else d) d

/-- CTRL_UNLISTED_OP. -/
def execCtrlUnlistedOp (f : RxFrame) (s : State) : Result := act (ctrlUnlistedFx f) s

/-- PROOF (R129, R287): a head takes a node's box data. -/
def proofFx (f : RxFrame) (d : Device) : Device :=
  takeNumbered f (fun h _ => h.cls == 6 && d.isHead) (fun h b d =>
    { d with proofIn := d.proofIn ++ [(BitVec.ofNat 12 h.src, h.stamp.frame, b)] }) d

/-- PROOF. -/
def execProof (f : RxFrame) (s : State) : Result := act (proofFx f) s

end Sys2Proof.Machine
end

