-- ==== Sys2Proof/Machine/Rows.lean ====
section
/-! DEFINITION. Machine/Rows.lean: the rows that bring the chapters together: a node's first lock and re-adoption (R71, R576),
descriptor fetch and admission (R80 to R88, R397, R398, R577), aligned points (R88, R96), the frame boundary (R93), the cut-off
line (R89, R92), the composition deadline (R248) and sub-refresh starts (R99). -/

namespace Sys2Proof.Machine

/-! ### A node's locks -/

/-- NODE_ACQUIRE_COMPLETE (R46, R67, R71, R550, R575): the rate is set, the RP is set once from the offset, TRACK; the arrivals and
instants kept on the provisional count are carried over to the new one. -/
def acquireFx (rate : Int) (d : Device) : Device :=
  if d.isHead || d.tim.state != .acquire then d
  else match timePair d with
    | none => d
    | some pair =>
      match pairOffset d pair with
      | none => d
      | some (path, off, store) =>
        let was := d.clk.rp
        let d := quiet (when store (storeLambdas pair off)) d
        let d := { d with clk := d.clk.shift off }
        quiet (fun d => outCheck (lockTaken (clamp rate (-200000) 200000)
          (setTime (fun t => { marksBy d.clk.raster (RP.dist d.clk.raster d.clk.rp was) t with
            path := path, off16 := off, offsetNs := off / 65536, dirs := dirsMoved off
              (marksBy d.clk.raster (RP.dist d.clk.raster d.clk.rp was) t).dirs }) d))) d

/-- NODE_ACQUIRE_COMPLETE. -/
def execNodeAcquireComplete (rate : Int) (s : State) : Result := clocked (acquireFx rate) s

/-- The other configuration a direction has carried for 64 TIME periods without a break, and still carries (R576). -/
def foreignLong (d : Device) (x : DirTime) : Option Raster :=
  match x.foreignFrom with
  | some p => if recently d x.foreignAt && decide (64 * periodNs d ≤ passedNs d p) then x.foreign else none
  | none => none

/-- The lowest pair that carries frames of another configuration, where it has carried one for 64 TIME periods (R576). -/
def foreignPair (d : Device) : Option (Nat × Raster) :=
  match (List.range 4).find? (fun p => recently d (dirOf d p 0).foreignAt || recently d (dirOf d p 1).foreignAt) with
  | some p =>
    match [dirOf d p 0, dirOf d p 1].filterMap (foreignLong d) with
    | r :: _ => some (p, r)
    | [] => none
  | none => none

/-- Output, fixtures and the graphs in progress stopped (R576); the cause OUTPUT_STATE gives is `v`. -/
def readoptDark (v : Nat) (d : Device) : Device :=
  setPxl (fun p => { p with buffers := p.buffers.filter (fun b => b.hold), shorts := [] })
    (tasksGone (setFix (fun x => { x with started := false }) (fixturesStop (outStop v d))))

/-- A device that has ceased to have a node ID drives nothing (R19): output, fixtures and the graphs stop, and start again as after a
first binding. The cause OUTPUT_STATE gives is a free value: none of its causes is this one (DESIGN CHOICE, log entry 146). -/
def leftDark (was : Option (BitVec 12)) (d : Device) : Device :=
  if was.isSome && d.topo.nodeId.isNone then
    let z := freeNext d
    setOut (fun o => { o with autoStart := some 1 }) (readoptDark (z.1 % 256) z.2)
  else d

/-- No shutter window open, no check of output commands in hand, and no slice sequence taken of the old count (R576). -/
def readoptClear (d : Device) : Device :=
  let shut := d.sched.shutters.map (fun s => { s with isOpen := false, close := none, later := [] })
  let d := { d with sched := { d.sched with shutters := shut } }
  setOut (fun o => { o with joint := none }) { d with flows := { d.flows with pix := [] } }

/-- What a node does before it restarts on another raster (R576): the conflict is reported, functions stop, commands wait
unevaluated. Content of the old count is dropped with it. -/
def readoptStop (pair : Nat) (d : Device) : Device :=
  let z := freeNext (raise 0x0109 (leN 1 (d.tim.follow.getD pair) ++ leN 1 pair) d)
  unjudge (readoptClear (readoptDark (z.1 % 256) z.2))

/-- The shared clock of a node that has adopted a raster anew by a pair (R576): in ACQUIRE, before its first lock. -/
def readopted (pair : Nat) (t : Time) : Time :=
  { t.enter .acquire with
    firstLock := false, everLocked := false, follow := some pair, meas := 0, lockRun := 0, jumpRun := 0, genSeen := none,
    dirs := t.dirs.map (fun x => { x with seen := false }) }

/-- RASTER_READOPT (R576): the RP restarts on the new raster, in ACQUIRE; a new first lock follows. -/
def readoptFx (d : Device) : Device :=
  if d.isHead || !d.tim.firstLock || d.tim.state != .holdover then d
  else match foreignPair d with
    | none => d
    | some (pair, r) =>
      if !r.valid then d
      else
        let d := quiet (readoptStop pair) d
        quiet (fun d => presentOf pair (setOut (fun o => { o with autoStart := some 1 }) (setTime (readopted pair) d))) (restarted r d)

/-- RASTER_READOPT. -/
def execRasterReadopt (s : State) : Result := clocked readoptFx s

/-! ### Descriptor fetch and admission -/

/-- A descriptor's fields (R397). -/
def descriptor (b : List Byte) (seqWord : BitVec 32) (host : HostRead) : Cmd :=
  { tag := BitVec.ofNat 32 (le b 4 4), timing := BitVec.ofNat 8 (le b 1 1), dueFrame := BitVec.ofNat 32 (le b 8 4),
    dueLs := BitVec.ofNat 32 (le b 12 4), ops := fit 32 (cut b 16 32), position := BitVec.ofNat 32 (le b 60 4),
    seqWord := seqWord, late := false, host := host }

/-- Whether an opcode is served in the device's role (R36, R180, R262, R293, R338, R370, R420). -/
def roleServes (d : Device) (op : Nat) (c : Cmd) : Bool :=
  if op = 0x12 ∨ op = 0x1F ∨ op = 0x20 ∨ op = 0x21 then d.isHead
  else if (0x30 ≤ op ∧ op ≤ 0x43) ∨ (0x60 ≤ op ∧ op ≤ 0x65) ∨ op = 0x71 then
    d.isNode && ((op != 0x33 && op != 0x71) || (recordNow d).width != 0)
  else if op = 0x51 then d.isNode || opB c 0 != 0
  else true

/-- Where the operand area gives a host address that must be 64-byte aligned and is not (R577). -/
def addressBad (op : Nat) (c : Cmd) : Bool :=
  if op = 0x12 ∨ op = 0x20 ∨ (0x30 ≤ op ∧ op ≤ 0x35) ∨ (0x40 ≤ op ∧ op ≤ 0x42) ∨ op = 0x61 ∨ op = 0x63 ∨ op = 0x71 ∨ op = 0x79 ∨
    op = 0x80 then misaligned c
  else if op = 0x83 then opB c 0 == 0 && opN c 8 8 % 64 != 0
  else false

/-- Whether a command reports reasons in byte 0x0 of its result (R183, R262, R293, R331, R494, R500). -/
def reasoned (op : Nat) : Bool :=
  op == 0x20 || op == 0x30 || op == 0x33 || (decide (0x40 ≤ op) && decide (op ≤ 0x42)) || op == 0x80 || op == 0x83

/-- CCM_LOAD admitted (R293): its staging groups are held until its commit point. -/
def ccmAdmit (c : Cmd) (d : Device) : Device :=
  if !(ccmFits none d) then refuse 0x33 c 4 (leN 1 1) d
  else if c.host = .busError then refuse 0x33 c 0x0A [] d
  else
    let st : Staging := { adm := d.sched.adm, groups := ccmGroups (recordNow d), was := recordNow d }
    let d := tidyStaging (admitCmd 0x33 c (setPxl (fun p => { p with staging := p.staging ++ [st] }) d))
    sampleStore (groupsUsed d) d

/-- A fetched command (R80 to R88, R398, R577): it completes at once, or has its place in the schedule. -/
def admission (op : Nat) (c : Cmd) (d : Device) : Device :=
  if !(opListed op) || !(roleServes d op c) then refuse op c 5 [] d
  else if addressBad op c then refuse op c 4 (if reasoned op then leN 1 1 else []) d
  else if op = 0x1F then mapLoadFx c d
  else if op = 0x33 then ccmAdmit c d
  else if c.host = .busError then refuse op c 0x0A [] d
  else if op = 0x82 then lifecycleSetFx c d
  else if (0x70 ≤ op ∧ op ≤ 0x72) ∧ d.pwr.state ≠ .run then refuse op c 6 [] d
  else if op = 0x88 ∧ d.pwr.state = .startUp then refuse op c 6 [] d
  else admitCmd op c d

/-- Whether a device fetches descriptors now (R86, R393, R396, R514). -/
def fetches (d : Device) : Bool :=
  served d && d.pwr.readyHost && !d.pwr.powerOff && decide (schedPlaces d < 1024) &&
  (!d.isHead || (d.hif.badP.isNone && d.hif.p != d.hif.f))

/-- The fetch position past one descriptor. -/
def fetched (d : Device) : Device := setHif (fun h => { h with f := h.f + 1, stale := none }) d

/-- DESCRIPTOR_FETCH (R397, R398): a position word that differs is fetched once more, then completes STALE; a bus error gives no
completion. A node fetches again by a REQUEST for its fetch position (R405). -/
def fetchFx (b : List Byte) (busErr : Bool) (host : HostRead) (d : Device) : Device :=
  let pos := d.hif.f
  if !(fetches d) then d
  else if busErr then rateEvent 1 0 (leN 1 0 ++ leN 1 4 ++ zeros 2 ++ leN 4 pos.toNat) [] 1 false d
  else
    let c := descriptor b (d.hif.seqWord.getD 0) host
    let op := le b 0 1
    if c.position = pos then admission op c (fetched d)
    else if d.hif.stale = some pos then refuse op { c with position := pos } 0x0C [] (fetched d)
    else
      let d := setHif (fun h => { h with stale := some pos }) d
      if d.isHead then d else sendRequest (setHif (fun h => { h with reqPos := pos }) d)

/-- DESCRIPTOR_FETCH. -/
def execDescriptorFetch (bytes : List Byte) (busErr : Bool) (host : HostRead) (s : State) : Result := act (fetchFx bytes busErr host) s

/-! ### Aligned points -/

/-- The BOUNDARY and EXACT commands below opcode 0x50 (R416). -/
def runLow (op : Nat) (c : Cmd) (d : Device) : Device :=
  if op = 0x02 then timeThresholdFx c d
  else if op = 0x03 then timeQueryFx c d
  else if op = 0x04 then schedCancelFx c d
  else if op = 0x05 then shutterSetFx c d
  else if op = 0x10 then portThresholdFx c d
  else if op = 0x11 then portStatsFx c d
  else if op = 0x12 then macsecFx c d
  else if op = 0x20 then streamSetFx c d
  else if op = 0x21 then streamQueryFx c d
  else if op = 0x35 then wearSetFx c d
  else if op = 0x36 then expoStart (some (d.clk.rp, c)) d
  else if op = 0x43 then outEnableFx c d
  else nopFx c d

/-- Those from 0x50 to 0x73 (R416). -/
def runMid (op : Nat) (c : Cmd) (d : Device) : Device :=
  if op = 0x50 then redundancyQueryFx c d
  else if op = 0x51 then redundancyTestFx c d
  else if op = 0x52 then healthQueryFx c d
  else if op = 0x53 then spareApplyFx c d
  else if op = 0x60 then dmxConfigFx c d
  else if op = 0x61 then rdmRequestFx c d
  else if op = 0x62 then stringConfigFx c d
  else if op = 0x63 then patternLoadFx c d
  else if op = 0x64 then patternControlFx c d
  else if op = 0x65 then sensorQueryFx c d
  else if op = 0x70 then calLinkFx c d
  else if op = 0x71 then calColourFx c d
  else if op = 0x72 then calMeterFx c d
  else if op = 0x73 then calCancelFx c d
  else nopFx c d

/-- Those from 0x78 on (R416). -/
def runHigh (op : Nat) (c : Cmd) (d : Device) : Device :=
  if op = 0x78 then energyQueryFx c d
  else if op = 0x79 then meterConfigFx c d
  else if op = 0x7A then saveStart (some (d.clk.rp, c)) d
  else if op = 0x80 then keyLoadFx c d
  else if op = 0x81 then rollPoint c d
  else if op = 0x82 then lifecycleWork c d
  else if op = 0x83 then fwUpdateFx c d
  else if op = 0x84 then debugUnlockFx c d
  else if op = 0x88 then powerSetFx c d
  else if op = 0x89 then resetRequestFx c d
  else if op = 0x8A then watchdogFx c d
  else nopFx c d

/-- What a BOUNDARY or EXACT command does when it takes effect. -/
def runOp (op : Nat) (c : Cmd) (d : Device) : Device :=
  if op < 0x50 then runLow op c d else if op < 0x78 then runMid op c d else runHigh op c d

/-- Entries in the order of R96. -/
def inOrder : Nat → List Entry → List Entry
  | 0, _ => []
  | n + 1, es =>
    match firstEntry es with
    | some e => e :: inOrder n (es.filter (fun x => x.adm != e.adm))
    | none => []

/-- Whether an opcode changes the output configuration (R331). -/
def outOp (op : BitVec 8) : Bool := decide (0x40 ≤ op.toNat) && decide (op.toNat ≤ 0x42)

/-- The entries dropped from the schedule. -/
def dropEntries (es : List Entry) (d : Device) : Device := schedSample (es.foldl (fun d e => dropEntry e d) d)

/-- Whether the raster counts: out of reset and HIBERNATE, and not held (R60, R98). -/
def counting (d : Device) : Bool := !d.pwr.inReset && !d.pwr.powerOff && d.clk.hold.isNone

/-- The DISPLAY commands whose commit point display frame `f` is. -/
def displayDue (f : BitVec 32) (d : Device) : List Entry :=
  inOrder d.sched.entries.length
    (d.sched.entries.filter (fun e => e.judged && classOf e.op.toNat == .display && decide (frameDiff e.point.frame f ≤ 0)))

/-- A DISPLAY command other than LAYER_SET at its commit point. -/
def runDisplay (f : BitVec 32) (e : Entry) (d : Device) : Device :=
  let c := e.cmd
  if e.op = 0x31 then lutLoadFx f c d
  else if e.op = 0x32 then scalerLoadFx f c d
  else if e.op = 0x33 then
    let was := match d.pxl.staging.find? (fun s => s.adm == e.adm) with | some s => s.was | none => recordNow d
    ccmLoadFx f (some e.adm) was c d
  else encLutFx f c d

/-- The DISPLAY commands of display frame `f` committed in their order (R89, R96, R263); its LAYER_SETs are judged together. -/
def commitDisplay (f : BitVec 32) (d : Device) : Device :=
  let es := displayDue f d
  let d := layersFor f (dropEntries es d)
  let why := layerVerdict f ((es.filter (fun e => e.op == 0x30)).map (fun e => e.cmd)) d
  es.foldl (fun d e => if e.op = 0x30 then layerSetTurn f why e.cmd d else runDisplay f e d) d

/-- The display frame whose cut-off comes next (R249): one whose deadline has passed without it is never built. -/
def cutoffFrame (d : Device) : BitVec 32 :=
  let g := d.clk.rp.frame
  let open_ := d.clk.rp.before { frame := g, line := d.clk.raster.lines - 1, sub := 0 }
  if d.tim.cutoff = some (g + 1) ∨ !open_ then g + 2 else g + 1

/-- The work of RP[f−1:C:0] (R89, R92, R190, R235, R325). -/
def cutoffWork (f : BitVec 32) (d : Device) : Device :=
  let d := layersFor f (staleGraph d)
  let d := buildGraph f (commitDisplay f d)
  let d := loadBegin f (ingestCutoff f d)
  setTime (fun t => { t with cutoff := some f }) d

/-- Whether a forward step from `was` has skipped the cut-off of the display frame now to be composed, with its deadline still to come
(R249). -/
def cutSkipped (was : RP) (d : Device) : Bool :=
  let g := d.clk.rp.frame
  counting d && d.tim.firstLock && d.tim.cutoff != some (g + 1) && was.before { frame := g, line := cutLine d, sub := 0 } &&
    d.clk.rp.reached { frame := g, line := cutLine d, sub := 0 } && d.clk.rp.before { frame := g, line := d.clk.raster.lines - 1, sub := 0 }

/-- What a step leaves to be done (R245, R249): `was` is the RP before it. A graph whose deadline it has passed ends there; one whose
cut-off it has skipped is built at once. -/
def settle (was : RP) (d : Device) : Device :=
  let d := when (d.clk.rp != was) (quiet staleGraph) d
  when (d.clk.rp != was && cutSkipped was d) (quiet (fun d => cutoffWork (d.clk.rp.frame + 1) d)) d

/-- TIME_FRAME. -/
def execTimeFrame (t : TimeRx) (s : State) : Result := clocked (fun d => settle d.clk.rp (timeFrameFx t d)) s

/-- BACKWARD_STEP_RESUME. -/
def execBackwardStepResume (s : State) : Result := clocked (fun d => settle d.clk.rp (resumeFx d)) s

/-- TIME_STEP_AUTHORISE. -/
def execTimeStepAuthorise (c : Cmd) (s : State) : Result := clocked (fun d => settle d.clk.rp (timeStepFx c d)) s

/-- A TIME_STEP_AUTHORISE of the schedule at its boundary (R60, R62): it waits for a partner in its place, for the next boundary, or is
made or refused. -/
def runStep (e : Entry) (d : Device) : Device :=
  if stepHolds e.cmd d then
    let p := RP.start (d.clk.rp.frame + 1)
    { d with sched := { d.sched with entries := d.sched.entries.map (fun x => if x.adm = e.adm then { x with point := p } else x) } }
  else settle d.clk.rp (quiet schedSample (tryStep e.cmd (opN e.cmd 0 4) (quiet (dropEntry e) d)))

/-- An OUT_MAP_LOAD whose target bank still serves a LOAD at its boundary (R329): its map has not been read, so it is late (R88). -/
def mapLate (e : Entry) (d : Device) : Device :=
  let c := e.cmd
  if discardLate c then schedSample (eventLate e.op.toNat c none (refuse e.op.toNat c 2 [] (dropEntry e d)))
  else
    let p := RP.start (d.clk.rp.frame + 1)
    { d with sched := { d.sched with entries := d.sched.entries.map (fun x =>
        if x.adm = e.adm then { x with point := p, cmd := { c with late := true } } else x) } }

/-- A command of the output in its turn (R96, R331): those of one boundary are checked once, and the last of them settles what the
change costs. -/
def runOut (e : Entry) (d : Device) : Device :=
  let busy := bankBusy e.point.frame d
  if e.op = 0x42 ∧ busy = true then mapLate e d
  else
    let es := inOrder d.sched.entries.length (d.sched.entries.filter (fun x =>
      x.judged && outOp x.op && x.point == e.point && !(busy && x.op == 0x42)))
    let d := outJudge e.point (es.map (fun x => (x.op.toNat, x.cmd))) d
    let d := outTurn (outWhy d) e.op.toNat e.cmd (dropEntry e d)
    schedSample (when (decide (es.length ≤ 1)) (layoutFx d.clk.rp.frame) d)

/-- Any other command in its turn. -/
def runPlain (e : Entry) (d : Device) : Device := schedSample (runOp e.op.toNat e.cmd (dropEntry e d))

/-- A command of the schedule at its point. -/
def runOne (e : Entry) (d : Device) : Device :=
  let d := { d with clk := d.clk.reach e.point }
  if e.op = 1 then runStep e d
  else if outOp e.op then quiet (runOut e) d
  else quiet (runPlain e) d

/-- The targets of a SCHED_CANCEL that fall in its RAST cycle (R105). -/
def cancelTargets (e : Entry) (d : Device) : List Entry :=
  let tag := BitVec.ofNat 32 (opN e.cmd 0 4)
  inOrder d.sched.entries.length (d.sched.entries.filter (fun x => x.judged && x.adm != e.adm &&
    cancellable tag e.cmd.position x.cmd && inCycle d (entryCommit d x)))

/-- Those targets take effect first (R105); DISPLAY commands among them are committed with the others of their display frame. -/
def targetsFirst (e : Entry) (d : Device) : Device :=
  if e.op = 4 then
    (cancelTargets e d).foldl (fun d x =>
      if classOf x.op.toNat = .display then quiet (commitDisplay x.point.frame) d else runOne x d) d
  else d

/-- A map about to switch as an entry of the schedule (R37, R96). -/
def mapEntry (l : MapLoad) : Entry :=
  let p := RP.start l.switchAt
  { op := 0x1F, cmd := l.cmd, adm := l.adm, point := p, due := if isNow l.cmd then p else dueRp l.cmd, judged := l.judged }

/-- Whether the switch of a map takes its turn before an entry at the same boundary (R96). -/
def mapFirst (d : Device) (e : Entry) : Bool :=
  match d.topo.load with
  | some l => l.sent && RP.start l.switchAt == e.point && entryFirst (mapEntry l) e
  | none => false

/-! ### The switch of a map, and what is due -/

/-- Whether a partner's latest PARTNER frame confirms the switch of a map (R38, R122): it holds the same generation and the same
boundary. -/
def confirms (l : MapLoad) (m : SysMap) (hp : HeadPair) : Bool :=
  match hp.partner with
  | some i => hasBit i.flags 1 && i.pendGen == m.generation && i.pendFrame == l.switchAt
  | none => false

/-- Whether the partner of every dual-head ring confirms a map's switch (R38, R39): a closing link that is down confirms nothing, and
only a head with no map in force needs nothing of it. -/
def switchConfirmed (d : Device) (l : MapLoad) (m : SysMap) : Bool :=
  (headRings d m).all (fun (_, r, pair, _) =>
    let hp := d.topo.pairs.getD pair {}
    !r.dual || (if hp.closeDown then d.topo.map.isNone else confirms l m hp))

/-- The devices whose records a new map changes (R391). -/
def changedNodes (old : Option SysMap) (m : SysMap) : List Nat :=
  (m.nodes.filter (fun n => match old with | some o => nodeRec o n.nodeId.toNat != some n | none => true)).map (fun n => n.nodeId.toNat)

/-- What comes with a record's change (R307, R455): the records in flash are compared, and CAL_COLOUR is aborted. -/
def recordHook (old : Option NodeRecord) (d : Device) : Device :=
  match d.topo.record with
  | some n => if old = some n then d else calAbort 1 3 (if d.isNode then compareRecords old n d else d)
  | none => d

/-- The bound devices that keep their place in a new map (R40). -/
def keepBound (m : SysMap) (r : RingEntry) (bound : NatMap (List Byte)) : NatMap (List Byte) :=
  bound.filter (fun (pos, fp) => match memberAt m r pos with
    | some n => fpZero n.fingerprint || n.fingerprint == fp
    | none => false)

/-- The pairs of a head under a new map: those of its rings keep what goes on there, the rest start afresh (R40). -/
def pairsUnder (rings : List (Nat × RingEntry × Nat × Bool)) (m : SysMap) (ps : List HeadPair) : List HeadPair :=
  ps.zipIdx.map (fun (hp, p) =>
    match rings.find? (fun (_, _, q, _) => q == p) with
    | some (_, r, _, _) => { hp with bound := keepBound m r hp.bound, genTold := false }
    | none => {})

/-- The node ID a position of a pair's ring has in a map. -/
def idAt (d : Device) (m : SysMap) (pair pos : Nat) : Option Nat :=
  match (headRings d m).find? (fun (_, _, q, _) => q == pair) with
  | some (_, r, _, _) => (memberAt m r pos).map (fun n => n.nodeId.toNat)
  | none => none

/-- The node IDs that a switch gives to devices bound before it at another one (R40). -/
def rebound (old : Option SysMap) (m : SysMap) (d : Device) : List Nat :=
  (List.range 4).flatMap (fun pair => ((d.topo.pairs.getD pair {}).bound).filterMap (fun (pos, _) =>
    let now := idAt d m pair pos
    if now == old.bind (fun o => idAt d o pair pos) then none else now))

/-- A map put in force (R16, R28, R37, R40, R121, R134, R149, R185, R391): the head takes its own record, binding starts, the windows
of sources re-bound are cleared, slots are judged again, links change their RS-FEC mode, and MAP_LOAD completes. -/
def mapInForce (l : MapLoad) (m : SysMap) (d : Device) : Device :=
  let oldMap := d.topo.map
  let oldRec := d.topo.record
  let own := ownEntry d m
  let moved := rebound oldMap m d
  let rings := headRings d m
  let d := { d with topo := { d.topo with
    map := some m, load := none, triesOver := false, record := own, nodeId := own.map (fun n => n.nodeId), gen := m.generation,
    headSet := BitVec.ofNat 64 (match own with | some n => headSetOf m n | none => 0), pairs := pairsUnder rings m d.topo.pairs } }
  let mine := (rings.flatMap (fun (_, r, _, _) => r.members)) ++ [d.nodeNo]
  let ask := (changedNodes oldMap m).filter (fun n => mine.contains n && !(d.hif.dirAsk.contains n))
  let d := setHif (fun h => { h with dirAsk := h.dirAsk ++ ask, mailAll := true }) (schedSample d)
  let d := fecSwitch (recordHook oldRec (moved.foldl (fun d id => clearSource id d) d))
  let d := recheckSlots d.clk.rp.frame d
  let d := rings.foldl (fun d (_, r, pair, isX) => when (binds d r pair isX) (sendRequestOn r pair isX) d) d
  finish 0x1F l.cmd (boundaryRp d) [] d

/-- A switch put off to the boundary of the frame after `f` (R38): the nodes are told so (log entry 106), until the tries are over: the
map is then not awaited any more. -/
def mapPutOff (f : BitVec 32) (l : MapLoad) (m : SysMap) (d : Device) : Device :=
  let l := { l with tries := l.tries + 1 }
  if mapTries ≤ l.tries then { withdrawMap d with topo := { (withdrawMap d).topo with load := some { l with sent := false } } }
  else announceAt l m (f + 1) (withdrawMap d)

/-- A checked map at a boundary (R37 to R39): it switches, or waits for the next boundary. -/
def mapBoundary (f : BitVec 32) (d : Device) : Device :=
  let d := announceMap d
  match d.topo.load with
  | some l =>
    match l.map with
    | some m =>
      if !l.sent || decide (frameDiff f l.switchAt < 0) || decide (mapTries ≤ l.tries) then d
      else if switchConfirmed d l m then mapInForce l m d
      else mapPutOff f l m d
    | none => d
  | none => d

/-- The next command of the schedule at its point, in the order of R96: a map that switches there before it has its turn first. -/
def runNext (e : Entry) (d : Device) : Device :=
  let d := { d with clk := d.clk.reach e.point }
  runOne e (targetsFirst e (if mapFirst d e then quiet (mapBoundary e.point.frame) d else d))

/-- ALIGNED_POINT_REACHED (R88, R96): the RP reaches the next command's aligned point and the command takes effect. While a backward
step holds the RP nothing comes due (R98). -/
def alignedFx (d : Device) : Device :=
  match nextEntry d with
  | none => d
  | some e => if d.clk.hold.isSome then d else runNext e d

/-- ALIGNED_POINT_REACHED. -/
def execAlignedPointReached (s : State) : Result := clocked alignedFx s

/-- The commands that come due by `p`, at most `n` of them, in the order of R96; a backward step made on the way ends them (R98). -/
def runDue : Nat → RP → Device → Device
  | 0, _, d => d
  | n + 1, p, d =>
    match nextEntry d with
    | none => d
    | some e => if d.clk.hold.isSome || p.before e.point then d else runDue n p (runNext e d)

/-- All commands that come due by `p` (R96): recurring events are computed from the settings that result. -/
def dueBy (p : RP) (d : Device) : Device := runDue d.sched.entries.length p d

/-- A recurring event at `p` (R96, R98): the commands due by then, then its work, unless a step among them holds the RP or takes it
past `p`. -/
def comeTo (p : RP) (work : Device → Device) (d : Device) : Device :=
  let was := d.clk.rp
  let d := dueBy p d
  if d.clk.hold.isSome || (p.before d.clk.rp && !(p.before was)) then d else quiet work { d with clk := d.clk.reach p }

/-- The commands due by a recurring event (R96), whose point is judged from the settings that result. -/
def dueFirst (at_ : Device → Option RP) (d : Device) : Device :=
  let run := fun (d : Device) => match at_ d with | some p => dueBy p d | none => d
  run (run d)

/-- HOST_WATCHDOG_EXPIRY (R524): a WATCHDOG_SET of the same cycle comes first. -/
def execHostWatchdogExpiry (s : State) : Result :=
  clocked (fun d => quiet watchdogExpiryFx (dueFirst (fun d => if d.clk.hold.isSome || d.pwr.powerOff then none else some d.clk.rp) d)) s

/-- The next edge of a shutter window. -/
def edgeAt (w : Nat) (close : Bool) (d : Device) : Option RP :=
  let s := d.sched.shutters.getD w {}
  if d.clk.hold.isSome || !d.isNode then none
  else if close then (if s.isOpen then s.close else none)
  else if s.enabled then some (openPoint d s) else none

/-- SHUTTER_EDGE (R96, R100). -/
def execShutterEdge (w : Fin 4) (close : Bool) (s : State) : Result :=
  clocked (fun d => shutterEdgeFx w.val close (dueFirst (edgeAt w.val close) d)) s

/-- The next break of a DMX port. -/
def breakAt (p : Nat) (d : Device) : Option RP :=
  if !(fixturesOn d) || d.clk.hold.isSome || !(dmxOf d p).drec.enable then none else nextBreak d (dmxOf d p)

/-- DMX_BREAK (R96, R423). -/
def execDmxBreak (port : Fin 16) (rxMismatch : Bool) (s : State) : Result :=
  clocked (fun d => dmxBreakFx port.val rxMismatch (dueFirst (breakAt port.val) d)) s

/-- The end of an engine's wait. -/
def waitEnd (n : Nat) (d : Device) : Option RP :=
  let p := patOf d n
  if !(fixturesOn d) || d.clk.hold.isSome || p.state != .waiting || p.fadeWait.isSome then none else some p.t

/-- PATTERN_WAIT_EXPIRY (R96, R442). -/
def execPatternWaitExpiry (engine : Fin 16) (s : State) : Result :=
  clocked (fun d => patExpiryFx engine.val (dueFirst (waitEnd engine.val) d)) s

/-! ### The cut-off, the deadline and sub-refreshes -/

/-- CUTOFF_LINE_REACHED. -/
def cutoffFx (d : Device) : Device :=
  if !(counting d) then d
  else
    let f := cutoffFrame d
    comeTo { frame := f - 1, line := cutLine d, sub := 0 } (cutoffWork f) d

/-- CUTOFF_LINE_REACHED (R92). -/
def execCutoffLineReached (s : State) : Result := clocked cutoffFx s

/-- COMPOSITION_DEADLINE (R211, R248, R458): composition ends, buffers pass on, and calibration settings take one step of their
phase-in. -/
def deadlineStep (d : Device) : Device :=
  if !(counting d) then d
  else comeTo { frame := deadlineFrame d - 1, line := d.clk.raster.lines - 1, sub := 0 }
    (fun d' => calBlanking (deadlineFrame d - 1) (deadlineFx (deadlineFrame d) d')) d

/-- COMPOSITION_DEADLINE. -/
def execCompositionDeadline (s : State) : Result := clocked deadlineStep s

/-- The work of a sub-refresh start (R99, R321, R361, R432, R464). -/
def subWork (f : BitVec 32) (k : Nat) (d : Device) : Device :=
  let d := if d.out.running then subStartFx f k d else setOut (fun o => { o with subFrame := f, sub := k }) d
  let d := darkGapCheck (strSample d)
  if k = 0 then calPairBegin f d else d

/-- The commands due by the next sub-refresh start. -/
def subDue (d : Device) : Device := match nextSub d with | some (_, _, p) => dueBy p d | none => d

/-- SUBREFRESH_START: the RP reaches the next start, as the settings then stand (R96). -/
def subRow (d : Device) : Device :=
  if !(counting d) || !d.isNode then d
  else
    let d := subDue (subDue d)
    match nextSub d with
    | some (f, k, p) => comeTo p (subWork f k) d
    | none => d

/-- SUBREFRESH_START (R99). -/
def execSubrefreshStart (s : State) : Result := clocked subRow s

/-! ### The frame boundary -/

/-- An LTC label of a frame count (R52, R123), non-drop or drop-frame, at `nom` frames a second. -/
def ltcLabel (nom : Nat) (drop : Bool) (count : Nat) : BitVec 32 :=
  let c :=
    if drop then
      let c := count % 2589408
      let t := c / 17982
      let m := c % 17982
      c + 18 * t + (if m < 2 then 0 else 2 * ((m - 2) / 1798))
    else count % (nom * 86400)
  let two := fun (v : Nat) => v / 10 * 16 + v % 10
  let s := c / nom
  BitVec.ofNat 32 (two (s / 3600 % 24) * 2 ^ 24 + two (s / 60 % 60) * 65536 + two (s % 60) * 256 + two (c % nom) + 64 * bit drop)

/-- The LTC value of the LTC frame in progress at the present boundary (R52). -/
def ltcAt (d : Device) : BitVec 32 :=
  match d.tim.ltc with
  | some l =>
    let ns := d.clk.raster.nsOf (RP.dist d.clk.raster d.clk.rp l.start)
    let n := (ns * l.rateNum / (1000000000 * l.rateDen)).toNat
    if n = 0 ∨ l.rateDen = 0 then l.label
    else ltcLabel (ceilDiv l.rateNum l.rateDen) (hasBit l.label.toNat 6) (l.count + n)
  | none => 0xFFFFFFFF

/-- A new frame's own measurements begin (R52, R53). -/
def frameMarks (d : Device) : Device :=
  if d.isHead then setTime (fun t => { t with label := ltcAt d, wclkSeen := false }) d else d

/-- PARTNER frames of a boundary (R122, R344), on every dual-head ring of the map the head goes by. -/
def partnerBoundary (d : Device) : Device :=
  match d.isHead, mapKnown d with
  | true, some m => (headRings d m).foldl (fun d (_, r, pair, isX) =>
      if r.dual then
        partnerOwn pair isX (setPair pair (fun p => { p with boundaries := min 255 (p.boundaries + 1) }) (sendPartner m r pair isX d))
      else d) d
  | _, _ => d

/-- A head feeds its direction of a ring from now on (R345): with its other frames go the directory entries it has read for the ring's
nodes meanwhile (R391). -/
def feedStart (r : RingEntry) (pair : Nat) (isX : Bool) (d : Device) : Device :=
  let d := setPair pair (fun p => { p with feeding := true }) d
  r.members.foldl (fun d node => match mfind d.hif.dirs node with
    | some e => headSend 2 false node (ringWrite d e) d.clk.rp r pair isX d
    | none => d) d

/-- A dual-head ring at a boundary (R39, R345): a head that meets the conditions feeds its direction from now on. While its closing link
is down the latest reply cards of the ring's nodes decide: a mismatch is reported once, and another MAP_LOAD admitted then ends the
tries. -/
def feedRing (m : SysMap) (r : RingEntry) (pair : Nat) (isX : Bool) (d : Device) : Device :=
  let hp := d.topo.pairs.getD pair {}
  if hp.feeding then d
  else if hp.closeDown then
    let gens := r.members.filterMap (fun id => (mfind hp.cards id).map (fun c => c.1))
    if gens.isEmpty || (d.topo.triesOver && hp.genTold) then d
    else if gens.contains m.generation then when (d.tim.state == .locked) (feedStart r pair isX) d
    else if hp.genTold then d
    else mapRejected 0x0E noIndex m.generation.toNat (setPair pair (fun p => { p with genTold := true }) d)
  else match hp.partner with
    | some i =>
      if d.tim.state = .locked ∧ hasBit i.flags 0 ∧ i.gen = m.generation ∧ i.crc = BitVec.ofNat 32 (crc32 (streamBytes d)) then
        feedStart r pair isX d
      else d
    | none => d

/-- HEAD_FEED_START on every dual-head ring (R345). -/
def feedBoundary (d : Device) : Device :=
  match d.isHead, d.topo.map with
  | true, some m => (headRings d m).foldl (fun d (_, r, pair, isX) => if r.dual then feedRing m r pair isX d else d) d
  | _, _ => d

/-- A node's records due by frame `f`, with what a change brings (R19, R121, R307). -/
def recordBoundary (f : BitVec 32) (d : Device) : Device :=
  if d.isHead then d else leftDark d.topo.nodeId (recordHook d.topo.record (enforceDue f d))

/-- ASSIGN (R27, R121): a record that comes into force at once brings what a change brings. -/
def execAssign (f : RxFrame) (s : State) : Result :=
  act (fun d => leftDark d.topo.nodeId (recordHook d.topo.record (assignFx f d))) s

/-- What a CHANGE card is sent for (R126). -/
def cardState (d : Device) : List Nat :=
  [healthCode d.spare.health, reasonCode d, timeCode d.tim.state, lifeCode d.sec.life, bit (alertOn d)]

/-- Whether a PERIODIC card is due at the boundary of frame `f` (R126). -/
def cardPeriodic (r : Raster) (f : BitVec 32) : Bool := f.toNat * r.den / r.num != (f - 1).toNat * r.den / r.num

/-- Reply cards of a boundary (R126): answers that waited, then one card of the node's own. -/
def cardBoundary (f : BitVec 32) (d : Device) : Device :=
  let waiting := d.topo.answers
  let d := waiting.foldl (fun d a => sendAnswer a d) { d with topo := { d.topo with answers := [] } }
  if d.isHead || d.topo.record.isNone || forwardOnly d then d
  else
    let now := cardState d
    let moved := d.tim.changed || (match d.topo.told with | some t => t != now | none => false) || !d.hif.reports.isEmpty
    let d := setTime (fun t => { t with changed := false }) { d with topo := { d.topo with told := some now } }
    if moved then sendCard 1 d else if cardPeriodic d.clk.raster f then sendCard 0 d else d

/-- SLICES_OUT_OF_WINDOW of the frame that ends (R91, R106). -/
def windowBoundary (d : Device) : Device :=
  match d.tim.earlyFirst with
  | some c =>
    report 7 (prefHead d) 0x0112 (leN 4 c.toNat ++ leN 2 d.tim.earlyCount ++ leN 2 d.tim.lateCount)
      (setTime (fun t => { t with earlyFirst := none, earlyCount := 0, lateCount := 0 }) d)
  | none => d

/-- The seconds of RUN counted (R303, R382): a frame's duration is added at its end. -/
def runBoundary (d : Device) : Device :=
  if d.pwr.state != .run then d
  else
    let ns := d.corr.runNs + (d.clk.raster.nsOf d.clk.raster.frameSub).toNat
    let s := ns / 1000000000
    setSpare (fun x => { x with run := x.run + s })
      (setCorr (fun c => { c with runNs := ns % 1000000000, runSecs := c.runSecs + s }) d)

/-- A wake has ended in a first lock (R518, R495). -/
def wakeOver (d : Device) : Device := when (d.pwr.woke && d.tim.firstLock) (setPwr (fun p => { p with woke := false })) d

/-- The work of RP[f:0:0] (R93): map, records, keys, exchanges with the partner, ends of the frame before, power, output,
fixtures, cards. Frames that a head's silence held (R145) and repeated membership reports (R180) leave (DESIGN CHOICE, log entries 126
and 130). -/
def boundaryWork (f : BitVec 32) (d : Device) : Device :=
  let d := releasePorts (setTime (fun t => { t with boundary := some f, owed := none }) d)
  let d := frameMarks (when d.out.joint.isSome (layoutFx f) d)
  let d := recordBoundary f (mapBoundary f d)
  let d := startBulk (fixMap f (rollEnd d))
  let d := feedBoundary (partnerBoundary d)
  let d := windowBoundary (flushPosts d)
  let d := phaseEnd f (runBoundary (sendFix f d))
  let d := powerBoundary (paritySubst (when d.isHead repeatReports d))
  let d := expoBoundary f (autostart (outBoundary f d))
  cardBoundary f (wakeOver d)

/-- The frame whose boundary is worked next: one still owed after a forward step made on it, or the next to come. -/
def dueBoundary (d : Device) : BitVec 32 := d.tim.owed.getD (nextBoundary d)

/-- FRAME_BOUNDARY (R93, R96): the RP reaches RP[f:0:0], the commands due by then take effect, then the boundary's own work is
done. -/
def boundaryFx (d : Device) : Device :=
  if !(counting d) then d
  else
    let f := dueBoundary d
    let d := dueBy (RP.start f) d
    if d.clk.hold.isSome || ((RP.start f).before d.clk.rp && d.tim.owed != some f) then d
    else quiet (boundaryWork f) { d with clk := d.clk.reach (RP.start f) }

/-- FRAME_BOUNDARY. -/
def execFrameBoundary (s : State) : Result := clocked boundaryFx s

end Sys2Proof.Machine
end

