-- ==== Sys2Proof/Machine/Dispatch.lean ====
section
/-! DEFINITION. Machine/Dispatch.lean: what each command does, one arm per row of the table. -/

namespace Sys2Proof.Machine

/-- The effect of a command on everything but the queue. -/
def exec (i : Instr) (s : State) : Host.Outcome State Fault Refusal :=
  match i with
  | .powerOnReset => Sys2Proof.Machine.execPowerOnReset s
  | .brownOut => Sys2Proof.Machine.execBrownOut s
  | .resetN => Sys2Proof.Machine.execResetN s
  | .refLost => Sys2Proof.Machine.execRefLost s
  | .coreWatchdog => Sys2Proof.Machine.execCoreWatchdog s
  | .hostWatchdogExpiry => Sys2Proof.Machine.execHostWatchdogExpiry s
  | .pcieReset => Sys2Proof.Machine.execPcieReset s
  | .resetRelease b => Sys2Proof.Machine.execResetRelease b s
  | .readyForHost us => Sys2Proof.Machine.execReadyForHost us s
  | .readyToLight => Sys2Proof.Machine.execReadyToLight s
  | .runEntry => Sys2Proof.Machine.execRunEntry s
  | .pwrCtrlStartWrite v => Sys2Proof.Machine.execPwrCtrlStartWrite v s
  | .pwrResetWrite v => Sys2Proof.Machine.execPwrResetWrite v s
  | .powerStateSet c => Sys2Proof.Machine.execPowerStateSet c s
  | .powerTransitionDone us => Sys2Proof.Machine.execPowerTransitionDone us s
  | .hibernatePowerDown => Sys2Proof.Machine.execHibernatePowerDown s
  | .wakeN => Sys2Proof.Machine.execWakeN s
  | .wakeTimerExpiry => Sys2Proof.Machine.execWakeTimerExpiry s
  | .hvLow cleared => Sys2Proof.Machine.execHvLow cleared s
  | .resetRequest c => Sys2Proof.Machine.execResetRequest c s
  | .hostResetDelay => Sys2Proof.Machine.execHostResetDelay s
  | .watchdogSet c => Sys2Proof.Machine.execWatchdogSet c s
  | .feedLost feed reverse mv => Sys2Proof.Machine.execFeedLost feed reverse mv s
  | .feedRestored feed mv => Sys2Proof.Machine.execFeedRestored feed mv s
  | .feedProbe shareA shareB lowCurrent => Sys2Proof.Machine.execFeedProbe shareA shareB lowCurrent s
  | .feedShareLimit share diffMv => Sys2Proof.Machine.execFeedShareLimit share diffMv s
  | .timePeriodTick => Sys2Proof.Machine.execTimePeriodTick s
  | .linkDelayExchange port t1 => Sys2Proof.Machine.execLinkDelayExchange port t1 s
  | .delayReq f t3 => Sys2Proof.Machine.execDelayReq f t3 s
  | .delayResp f => Sys2Proof.Machine.execDelayResp f s
  | .timeFrame t => Sys2Proof.Machine.execTimeFrame t s
  | .nodeAcquireComplete rate => Sys2Proof.Machine.execNodeAcquireComplete rate s
  | .timeDirectionLost pair dir => Sys2Proof.Machine.execTimeDirectionLost pair dir s
  | .timeHoldover => Sys2Proof.Machine.execTimeHoldover s
  | .rasterReadopt => Sys2Proof.Machine.execRasterReadopt s
  | .insertBacklog pair dir => Sys2Proof.Machine.execInsertBacklog pair dir s
  | .ptpAnnounce rx a => Sys2Proof.Machine.execPtpAnnounce rx a s
  | .ptpMeasurement m => Sys2Proof.Machine.execPtpMeasurement m s
  | .ptpAnnounceTimeout => Sys2Proof.Machine.execPtpAnnounceTimeout s
  | .syncInEdge falling => Sys2Proof.Machine.execSyncInEdge falling s
  | .syncEdgeMissing => Sys2Proof.Machine.execSyncEdgeMissing s
  | .ltcFrameDecoded l => Sys2Proof.Machine.execLtcFrameDecoded l s
  | .ltcLost => Sys2Proof.Machine.execLtcLost s
  | .wclkLost => Sys2Proof.Machine.execWclkLost s
  | .backwardStepResume => Sys2Proof.Machine.execBackwardStepResume s
  | .descriptorFetch bytes busErr host => Sys2Proof.Machine.execDescriptorFetch bytes busErr host s
  | .alignedPointReached => Sys2Proof.Machine.execAlignedPointReached s
  | .frameBoundary => Sys2Proof.Machine.execFrameBoundary s
  | .cutoffLineReached => Sys2Proof.Machine.execCutoffLineReached s
  | .compositionDeadline => Sys2Proof.Machine.execCompositionDeadline s
  | .compositionDone => Sys2Proof.Machine.execCompositionDone s
  | .subrefreshStart => Sys2Proof.Machine.execSubrefreshStart s
  | .heldRepeatStart => Sys2Proof.Machine.execHeldRepeatStart s
  | .shutterEdge window close => Sys2Proof.Machine.execShutterEdge window close s
  | .pixSlice f => Sys2Proof.Machine.execPixSlice f s
  | .foreignFrame f => Sys2Proof.Machine.execForeignFrame f s
  | .ctrlRead f => Sys2Proof.Machine.execCtrlRead f s
  | .ctrlWrite f => Sys2Proof.Machine.execCtrlWrite f s
  | .readResp f => Sys2Proof.Machine.execReadResp f s
  | .writeAck f => Sys2Proof.Machine.execWriteAck f s
  | .ctrlUnlistedOp f => Sys2Proof.Machine.execCtrlUnlistedOp f s
  | .bindRequest f => Sys2Proof.Machine.execBindRequest f s
  | .bindRequestTimer pair => Sys2Proof.Machine.execBindRequestTimer pair s
  | .bindAnswer f => Sys2Proof.Machine.execBindAnswer f s
  | .assign f => Sys2Proof.Machine.execAssign f s
  | .partner f => Sys2Proof.Machine.execPartner f s
  | .closingLinkDown pair => Sys2Proof.Machine.execClosingLinkDown pair s
  | .replyCard f => Sys2Proof.Machine.execReplyCard f s
  | .mailbag f => Sys2Proof.Machine.execMailbag f s
  | .proof f => Sys2Proof.Machine.execProof f s
  | .fix f => Sys2Proof.Machine.execFix f s
  | .remoteRdRequest f => Sys2Proof.Machine.execRemoteRdRequest f s
  | .remoteRdResponse f => Sys2Proof.Machine.execRemoteRdResponse f s
  | .remoteRdError f => Sys2Proof.Machine.execRemoteRdError f s
  | .remoteRdPost f busErr => Sys2Proof.Machine.execRemoteRdPost f busErr s
  | .heldRequestTimeout node => Sys2Proof.Machine.execHeldRequestTimeout node s
  | .hostReadTimeout id => Sys2Proof.Machine.execHostReadTimeout id s
  | .noticeRepost => Sys2Proof.Machine.execNoticeRepost s
  | .transmitUnderrun port cut => Sys2Proof.Machine.execTransmitUnderrun port cut s
  | .rxBlockError f => Sys2Proof.Machine.execRxBlockError f s
  | .portUp r => Sys2Proof.Machine.execPortUp r s
  | .portDown port cause => Sys2Proof.Machine.execPortDown port cause s
  | .fecModeDetected port fec => Sys2Proof.Machine.execFecModeDetected port fec s
  | .lldpReceived port bytes queue => Sys2Proof.Machine.execLldpReceived port bytes queue s
  | .lldpSend port => Sys2Proof.Machine.execLldpSend port s
  | .eeeUnresolved port => Sys2Proof.Machine.execEeeUnresolved port s
  | .lpiEntry port => Sys2Proof.Machine.execLpiEntry port s
  | .lpiReceived port => Sys2Proof.Machine.execLpiReceived port s
  | .lpiWakeDone port => Sys2Proof.Machine.execLpiWakeDone port s
  | .pauseReceived m => Sys2Proof.Machine.execPauseReceived m s
  | .pauseExpiry port => Sys2Proof.Machine.execPauseExpiry port s
  | .queueMarkerWrite port => Sys2Proof.Machine.execQueueMarkerWrite port s
  | .queueMarkerRead port poison => Sys2Proof.Machine.execQueueMarkerRead port poison s
  | .noticeWindowClose code subject => Sys2Proof.Machine.execNoticeWindowClose code subject s
  | .mapCheckComplete => Sys2Proof.Machine.execMapCheckComplete s
  | .mapSwitchTimeout => Sys2Proof.Machine.execMapSwitchTimeout s
  | .st2110Packet p => Sys2Proof.Machine.execSt2110Packet p s
  | .streamPathLost slot port => Sys2Proof.Machine.execStreamPathLost slot port s
  | .streamLost slot => Sys2Proof.Machine.execStreamLost slot s
  | .sacnPacket p => Sys2Proof.Machine.execSacnPacket p s
  | .sacnSourceTimeout univ cid => Sys2Proof.Machine.execSacnSourceTimeout univ cid s
  | .arpRequest rx ip fromMac fromIp => Sys2Proof.Machine.execArpRequest rx ip fromMac fromIp s
  | .igmpQuery rx => Sys2Proof.Machine.execIgmpQuery rx s
  | .ingestForeignFrame rx why => Sys2Proof.Machine.execIngestForeignFrame rx why s
  | .bulkEntryRead bytes lines => Sys2Proof.Machine.execBulkEntryRead bytes lines s
  | .bulkEntryComplete => Sys2Proof.Machine.execBulkEntryComplete s
  | .signatureMismatch m => Sys2Proof.Machine.execSignatureMismatch m s
  | .arbitrationDecided loser => Sys2Proof.Machine.execArbitrationDecided loser s
  | .unitSelftestDone pass unitKind => Sys2Proof.Machine.execUnitSelftestDone pass unitKind s
  | .selftestRoundDone engine how => Sys2Proof.Machine.execSelftestRoundDone engine how s
  | .fwEventLate role lateUs due => Sys2Proof.Machine.execFwEventLate role lateUs due s
  | .outputCopyMismatch pass0 pass1 => Sys2Proof.Machine.execOutputCopyMismatch pass0 pass1 s
  | .pllFaultDetected family => Sys2Proof.Machine.execPllFaultDetected family s
  | .outputHoldResume gapNs => Sys2Proof.Machine.execOutputHoldResume gapNs s
  | .pllRetest family pass => Sys2Proof.Machine.execPllRetest family pass s
  | .wearPassTimer => Sys2Proof.Machine.execWearPassTimer s
  | .wearPassDone => Sys2Proof.Machine.execWearPassDone s
  | .calStoreScrub e => Sys2Proof.Machine.execCalStoreScrub e s
  | .calStoreRepair => Sys2Proof.Machine.execCalStoreRepair s
  | .correctionRecordWrite => Sys2Proof.Machine.execCorrectionRecordWrite s
  | .expoSaveTimer => Sys2Proof.Machine.execExpoSaveTimer s
  | .expoSaveDone ok => Sys2Proof.Machine.execExpoSaveDone ok s
  | .ageingSample worst => Sys2Proof.Machine.execAgeingSample worst s
  | .eyeWidthSample lane width => Sys2Proof.Machine.execEyeWidthSample lane width s
  | .segmentAmplitudeCheck lane failed => Sys2Proof.Machine.execSegmentAmplitudeCheck lane failed s
  | .regulatorPhaseRemove phase => Sys2Proof.Machine.execRegulatorPhaseRemove phase s
  | .padLegFault pad => Sys2Proof.Machine.execPadLegFault pad s
  | .exhaustionPrediction => Sys2Proof.Machine.execExhaustionPrediction s
  | .coreSelftest core pass => Sys2Proof.Machine.execCoreSelftest core pass s
  | .outputCopyRetire24h copy => Sys2Proof.Machine.execOutputCopyRetire24h copy s
  | .calBankFillDone => Sys2Proof.Machine.execCalBankFillDone s
  | .holdBufferCopyDone layer => Sys2Proof.Machine.execHoldBufferCopyDone layer s
  | .letterboxRound r => Sys2Proof.Machine.execLetterboxRound r s
  | .sortingWindowClose kind subject => Sys2Proof.Machine.execSortingWindowClose kind subject s
  | .storm => Sys2Proof.Machine.execStorm s
  | .dmxBreak port rxMismatch => Sys2Proof.Machine.execDmxBreak port rxMismatch s
  | .dmxSourceLost port => Sys2Proof.Machine.execDmxSourceLost port s
  | .rdmResponse port outcome bytes => Sys2Proof.Machine.execRdmResponse port outcome bytes s
  | .rdmDiscoveryTimer port uids => Sys2Proof.Machine.execRdmDiscoveryTimer port uids s
  | .stringFault ch cause => Sys2Proof.Machine.execStringFault ch cause s
  | .stringRetry ch good => Sys2Proof.Machine.execStringRetry ch good s
  | .boostStep m => Sys2Proof.Machine.execBoostStep m s
  | .boostLimit cause need => Sys2Proof.Machine.execBoostLimit cause need s
  | .boostRestart => Sys2Proof.Machine.execBoostRestart s
  | .stringFeedbackProbe dark readings missed => Sys2Proof.Machine.execStringFeedbackProbe dark readings missed s
  | .sensorWindowEnd r => Sys2Proof.Machine.execSensorWindowEnd r s
  | .patternWaitExpiry engine => Sys2Proof.Machine.execPatternWaitExpiry engine s
  | .fixtureRecordWrite ok => Sys2Proof.Machine.execFixtureRecordWrite ok s
  | .calStart kind => Sys2Proof.Machine.execCalStart kind s
  | .calLinkPortDone r => Sys2Proof.Machine.execCalLinkPortDone r s
  | .calColourCollectionEnd f => Sys2Proof.Machine.execCalColourCollectionEnd f s
  | .calMeterHandover m => Sys2Proof.Machine.execCalMeterHandover m s
  | .s0Pulse input => Sys2Proof.Machine.execS0Pulse input s
  | .s0Glitch input => Sys2Proof.Machine.execS0Glitch input s
  | .mainsZcCrossing cycles => Sys2Proof.Machine.execMainsZcCrossing cycles s
  | .mainsLost => Sys2Proof.Machine.execMainsLost s
  | .meterSaveTimer => Sys2Proof.Machine.execMeterSaveTimer s
  | .meterSaveDone ok => Sys2Proof.Machine.execMeterSaveDone ok s
  | .lifecycleSelfReset => Sys2Proof.Machine.execLifecycleSelfReset s
  | .dbgChallenge nonce nowMs => Sys2Proof.Machine.execDbgChallenge nonce nowMs s
  | .dbgResponse sig nowMs => Sys2Proof.Machine.execDbgResponse sig nowMs s
  | .dbgRequest level => Sys2Proof.Machine.execDbgRequest level s
  | .keyload record => Sys2Proof.Machine.execKeyload record s
  | .keyloadMakeCurrent record => Sys2Proof.Machine.execKeyloadMakeCurrent record s
  | .tapIntrusiveEntry => Sys2Proof.Machine.execTapIntrusiveEntry s
  | .tapIntrusiveExit => Sys2Proof.Machine.execTapIntrusiveExit s
  | .registerWrite addr v => Sys2Proof.Machine.execRegisterWrite addr v s
  | .counterRead addr path => Sys2Proof.Machine.execCounterRead addr path s
  | .wideRegisterRead addr path => Sys2Proof.Machine.execWideRegisterRead addr path s
  | .pxlExpoDataRead => Sys2Proof.Machine.execPxlExpoDataRead s
  | .pxlExpoDataWrite v => Sys2Proof.Machine.execPxlExpoDataWrite v s
  | .fixRdmDataRead => Sys2Proof.Machine.execFixRdmDataRead s
  | .outCtrlWrite v => Sys2Proof.Machine.execOutCtrlWrite v s
  | .hifRingCfgWrite v => Sys2Proof.Machine.execHifRingCfgWrite v s
  | .nop c => Sys2Proof.Machine.execNop c s
  | .timeStepAuthorise c => Sys2Proof.Machine.execTimeStepAuthorise c s
  | .timeSetThreshold c => Sys2Proof.Machine.execTimeSetThreshold c s
  | .timeQuery c => Sys2Proof.Machine.execTimeQuery c s
  | .schedCancel c => Sys2Proof.Machine.execSchedCancel c s
  | .shutterSet c => Sys2Proof.Machine.execShutterSet c s
  | .portThresholdSet c => Sys2Proof.Machine.execPortThresholdSet c s
  | .portStatsQuery c => Sys2Proof.Machine.execPortStatsQuery c s
  | .macsecSaInstall c => Sys2Proof.Machine.execMacsecSaInstall c s
  | .mapLoad c => Sys2Proof.Machine.execMapLoad c s
  | .streamSet c => Sys2Proof.Machine.execStreamSet c s
  | .streamQuery c => Sys2Proof.Machine.execStreamQuery c s
  | .layerSet c => Sys2Proof.Machine.execLayerSet c s
  | .layerLutLoad c => Sys2Proof.Machine.execLayerLutLoad c s
  | .layerScalerLoad c => Sys2Proof.Machine.execLayerScalerLoad c s
  | .ccmLoad c => Sys2Proof.Machine.execCcmLoad c s
  | .encLutLoad c => Sys2Proof.Machine.execEncLutLoad c s
  | .wearSet c => Sys2Proof.Machine.execWearSet c s
  | .expoSave c => Sys2Proof.Machine.execExpoSave c s
  | .outConfig c => Sys2Proof.Machine.execOutConfig c s
  | .outProgLoad c => Sys2Proof.Machine.execOutProgLoad c s
  | .outMapLoad c => Sys2Proof.Machine.execOutMapLoad c s
  | .outEnable c => Sys2Proof.Machine.execOutEnable c s
  | .redundancyQuery c => Sys2Proof.Machine.execRedundancyQuery c s
  | .redundancyTest c => Sys2Proof.Machine.execRedundancyTest c s
  | .healthQuery c => Sys2Proof.Machine.execHealthQuery c s
  | .spareApply c => Sys2Proof.Machine.execSpareApply c s
  | .dmxConfig c => Sys2Proof.Machine.execDmxConfig c s
  | .rdmRequest c => Sys2Proof.Machine.execRdmRequest c s
  | .stringConfig c => Sys2Proof.Machine.execStringConfig c s
  | .patternLoad c => Sys2Proof.Machine.execPatternLoad c s
  | .patternControl c => Sys2Proof.Machine.execPatternControl c s
  | .sensorQuery c => Sys2Proof.Machine.execSensorQuery c s
  | .calLink c => Sys2Proof.Machine.execCalLink c s
  | .calColour c => Sys2Proof.Machine.execCalColour c s
  | .calMeter c => Sys2Proof.Machine.execCalMeter c s
  | .calCancel c => Sys2Proof.Machine.execCalCancel c s
  | .energyQuery c => Sys2Proof.Machine.execEnergyQuery c s
  | .meterConfig c => Sys2Proof.Machine.execMeterConfig c s
  | .energySave c => Sys2Proof.Machine.execEnergySave c s
  | .keyLoad c => Sys2Proof.Machine.execKeyLoad c s
  | .keyRollover c => Sys2Proof.Machine.execKeyRollover c s
  | .lifecycleSet c => Sys2Proof.Machine.execLifecycleSet c s
  | .fwUpdate c => Sys2Proof.Machine.execFwUpdate c s
  | .debugUnlock c => Sys2Proof.Machine.execDebugUnlock c s
  | .meterSample channel rawV rawI => Sys2Proof.Machine.execMeterSample channel rawV rawI s
  | .wclkInEdge hz => Sys2Proof.Machine.execWclkInEdge hz s
  | .refReturn => Sys2Proof.Machine.execRefReturn s
  | .hostReadComplete id data => Sys2Proof.Machine.execHostReadComplete id data s
  | .fwUpdateStageDone how => Sys2Proof.Machine.execFwUpdateStageDone how s
  | .correctionRecordWriteDone ok => Sys2Proof.Machine.execCorrectionRecordWriteDone ok s
  | .junctionTemperatureRead tenths => Sys2Proof.Machine.execJunctionTemperatureRead tenths s
  | .feedPathLowShare feed share => Sys2Proof.Machine.execFeedPathLowShare feed share s
  | .reservedClassFrame f => Sys2Proof.Machine.execReservedClassFrame f s

end Sys2Proof.Machine
end

