-- ==== Sys2Proof/Machine/Step.lean ====
section
/-! DEFINITION. Machine/Step.lean: one step of the block: the command at the front of the queue, or one RAST cycle. -/

namespace Sys2Proof.Machine

/-- The front command's effect on the device with the queue's rest; one RAST cycle where no command waits. -/
def step (s : State) : Host.Outcome State Fault Refusal :=
  match s.pending with
  | [] => .next { s with dev := idle s.dev }
  | c :: rest => exec c { s with pending := rest }

/-- A state with the command a word spells at the front of its queue; unchanged where the word spells none, as no word of
this block's table does. -/
def State.withFetchWord (s : State) (nbits w : Nat) : State :=
  match Sys2Proof.decodeTableWord nbits w with
  | some c => { s with pending := c :: s.pending }
  | none => s

end Sys2Proof.Machine
end

