-- ==== Sys2Proof/Safety.lean ====
section
/-! DEFINITION. Safety.lean: the terms claims use: a clock whose RP lies on its raster (R2, R45), the parts of a device, and
devices that agree on every part but some. -/

namespace Sys2Proof

open Machine

/-- The RP lies on the raster it counts on (R2), with fewer than 2^32 below its sub LSB (R45). -/
def OnRaster (c : Clock) : Prop :=
  c.rp.line < c.raster.lines ∧ c.rp.sub < 65536 ∧ c.frac < 4294967296

/-- A state whose RP lies on its raster. -/
def ClockOk (s : State) : Prop := OnRaster s.dev.clk

/-- The parts of a device: one for each field of Device. -/
inductive Part where
  | clk | tim | sched | link | ing | topo | flows | hif | gest | pxl | corr | out | red | spare | fix | cal | mtr | sec | pwr | regs | wideHold | snap | lastRead | proofIn | sent | host | comps | notes
  deriving DecidableEq, Repr

/-- Whether a list of parts names a part. -/
def has : List Part → Part → Bool
  | [], _ => false
  | q :: ps, p => if q = p then true else has ps p

/-- Two devices agree on every part that `ps` does not name. -/
def SameBut (ps : List Part) (d e : Device) : Prop :=
  (has ps .clk = false → e.clk = d.clk) ∧
  (has ps .tim = false → e.tim = d.tim) ∧
  (has ps .sched = false → e.sched = d.sched) ∧
  (has ps .link = false → e.link = d.link) ∧
  (has ps .ing = false → e.ing = d.ing) ∧
  (has ps .topo = false → e.topo = d.topo) ∧
  (has ps .flows = false → e.flows = d.flows) ∧
  (has ps .hif = false → e.hif = d.hif) ∧
  (has ps .gest = false → e.gest = d.gest) ∧
  (has ps .pxl = false → e.pxl = d.pxl) ∧
  (has ps .corr = false → e.corr = d.corr) ∧
  (has ps .out = false → e.out = d.out) ∧
  (has ps .red = false → e.red = d.red) ∧
  (has ps .spare = false → e.spare = d.spare) ∧
  (has ps .fix = false → e.fix = d.fix) ∧
  (has ps .cal = false → e.cal = d.cal) ∧
  (has ps .mtr = false → e.mtr = d.mtr) ∧
  (has ps .sec = false → e.sec = d.sec) ∧
  (has ps .pwr = false → e.pwr = d.pwr) ∧
  (has ps .regs = false → e.regs = d.regs) ∧
  (has ps .wideHold = false → e.wideHold = d.wideHold) ∧
  (has ps .snap = false → e.snap = d.snap) ∧
  (has ps .lastRead = false → e.lastRead = d.lastRead) ∧
  (has ps .proofIn = false → e.proofIn = d.proofIn) ∧
  (has ps .sent = false → e.sent = d.sent) ∧
  (has ps .host = false → e.host = d.host) ∧
  (has ps .comps = false → e.comps = d.comps) ∧
  (has ps .notes = false → e.notes = d.notes)

/-- What a command does: exec answers a next state with the queue as it was, of which `p` holds. -/
def Does (i : Instr) (s : State) (p : Device → Prop) : Prop :=
  ∃ t, exec i s = .next t ∧ t.pending = s.pending ∧ p t.dev

/-- A command's completion record: its opcode, status, effect RP and result (R399). -/
def Completed (d e : Device) (op : Nat) (c : Cmd) (status : Nat) (effect : Option RP) (result : List Byte) : Prop :=
  e.comps = d.comps ++ [{ opcode := BitVec.ofNat 8 op, status := BitVec.ofNat 8 status, tag := c.tag, effect := effect,
                          result := result, seqWord := c.seqWord, position := c.position }]

/-- A command that took effect at an RP: OK, or OK_LATE where it was late (R88, R399). -/
def Finished (d e : Device) (op : Nat) (c : Cmd) (effect : RP) (result : List Byte) : Prop :=
  Completed d e op c (if c.late then 1 else 0) (some effect) result

/-- A command that took effect at an RP is among the completions reported: OK, or OK_LATE where it was late (R88, R399). -/
def Reported (e : Device) (op : Nat) (c : Cmd) (effect : RP) (result : List Byte) : Prop :=
  { opcode := BitVec.ofNat 8 op, status := if c.late then 1 else 0, tag := c.tag, effect := some effect, result := result,
    seqWord := c.seqWord, position := c.position } ∈ e.comps

/-- A notice is among those reported: its code and payload (R400). -/
def Told (e : Device) (code : Nat) (payload : List Byte) : Prop :=
  ({ code := BitVec.ofNat 16 code, payload := payload } : Notice) ∈ e.notes

/-- A notice reported: its code and payload (R400). -/
def Noticed (d e : Device) (code : Nat) (payload : List Byte) : Prop :=
  e.notes = d.notes ++ [{ code := BitVec.ofNat 16 code, payload := payload }]

/-- The parts through which a device reports: rings and letterbox, host memory, notices, and the frames of a node's
posts with their ports and sequences (R399, R400, R407). -/
def reporting : List Part := [.hif, .host, .notes, .sent, .flows, .link]

/-- What the device is after a reset (R521 to R523): the RP at its start on the reset raster, no time, schedule, map,
stream, graph or output, no register word written, the watchdog off, held in reset with the cause recorded; keys, life cycle, rollback counter, records in flash, and
the states of output copies as they were. `fresh` is the model's own count of free values (log entry 5), which goes on. -/
def AfterReset (cause : Nat) (d e : Device) : Prop :=
  e.clk = {} ∧ e.tim = { fresh := d.tim.fresh } ∧ e.sched = {} ∧ e.topo = {} ∧ e.gest = {} ∧ e.pxl = {} ∧ e.out = {} ∧ e.hif = {} ∧ e.flows = {} ∧
  e.link = List.replicate 8 {} ∧ e.ing = List.replicate 2 {} ∧ e.regs = [] ∧
  e.wideHold = [] ∧ e.snap = [] ∧ e.proofIn = [] ∧
  e.pwr.inReset = true ∧ e.pwr.state = .startUp ∧ e.pwr.readyHost = false ∧ e.pwr.readyLight = false ∧
  e.pwr.trans = none ∧ e.pwr.wdOn = false ∧ e.pwr.wdPeriod = 0 ∧ hasBit e.pwr.mask cause = true ∧
  (cause = 0 → e.pwr.mask = 1 ∧ e.pwr.first = 0) ∧
  (cause ≠ 0 → (d.pwr.mask ≠ 0 → e.pwr.first = d.pwr.first) ∧ (d.pwr.mask = 0 → e.pwr.first = cause)) ∧
  e.sec.life = d.sec.life ∧ e.sec.cur = d.sec.cur ∧ e.sec.next = d.sec.next ∧ e.sec.rollback = d.sec.rollback ∧
  e.sec.heldKeys = [] ∧ e.sec.level = resetLevel d.sec.life ∧ e.fix.recs = d.fix.recs ∧ e.mtr.slot = d.mtr.slot ∧
  e.red.copies = d.red.copies ∧ e.spare.uses = d.spare.uses ∧
  e.sent = d.sent ∧ e.host = d.host ∧ e.comps = d.comps ∧ e.notes = d.notes

/-- A received frame of a class that passes the checks of R114, is for this device, and is new to de-duplication: its header
and payload, and the device after that (R133, R140). -/
def Accepted (f : RxFrame) (s : State) (cls : Nat) (h : Hdr) (b : List Byte) (d : Device) : Prop :=
  h.cls = cls ∧ takeClass f id s.dev = { dev := d, got := some (h, b), fresh := true }

/-- A notice reported before any other that the same step reports (R400). -/
def NoticedFirst (d e : Device) (code : Nat) (payload : List Byte) : Prop :=
  ∃ r, e.notes = d.notes ++ { code := BitVec.ofNat 16 code, payload := payload } :: r

/-- No pattern engine has a fade or waits for one (R442). -/
def NoFades (d : Device) : Prop := ∀ p ∈ d.fix.pats, p.fades = [] ∧ p.fadeWait = none

/-- Whether a command lets the commands due by its instant take effect first (R96). -/
def Instr.runsDue : Instr → Bool
  | .cutoffLineReached | .compositionDeadline | .subrefreshStart | .frameBoundary | .shutterEdge _ _ | .patternWaitExpiry _
  | .dmxBreak _ _ | .hostWatchdogExpiry => true
  | _ => false

/-- Whether a command marks an instant and moves the RP on to it. -/
def Instr.marksInstant : Instr → Bool
  | .frameBoundary | .cutoffLineReached | .compositionDeadline | .subrefreshStart | .shutterEdge _ _ | .patternWaitExpiry _ | .dmxBreak _ _ => true
  | _ => false

/-- Whether a command may move the raster clock: a reset, a row of the time base, or one that marks an instant (R45, R46,
R60, R521). -/
def Instr.movesClock : Instr → Bool
  | .powerOnReset | .brownOut | .resetN | .refLost | .coreWatchdog | .pwrResetWrite _ | .hostResetDelay
  | .lifecycleSelfReset | .tapIntrusiveExit | .meterSaveDone _ | .registerWrite _ _ | .ctrlWrite _ => true
  | .runEntry | .timeFrame _ | .nodeAcquireComplete _ | .rasterReadopt | .ptpMeasurement _ | .syncInEdge _
  | .backwardStepResume | .timeStepAuthorise _ | .alignedPointReached | .hostWatchdogExpiry => true
  | i => i.marksInstant

end Sys2Proof
end

