-- ==== Sys2Proof/Certificates/Slice0/Obligations.lean ====
section
/-! DEFINITION. Certificates/Slice0/Obligations.lean: the statements for the provers. Each docstring names the rules of
spec/ it formalises. -/

open Sys2Proof Sys2Proof.Machine

/-! ### The step, the queue and the raster clock -/

/-- A step on a waiting queue is exec of its front command with the queue's rest. -/
def Obligations.StepRunsFront : Prop :=
  ∀ (c : Instr) (rest : List Instr) (s : State), s.pending = c :: rest → step s = exec c { s with pending := rest }

/-- A step on an empty queue is one RAST cycle (log entry 1, the model's choice): nothing moves but the raster clock,
and that not in reset, in HIBERNATE or during a hold; else the RP gains INC of R45, unless an instant of the present
frame that has a row of its own would be passed. -/
def Obligations.StepIdles : Prop :=
  ∀ s : State, s.pending = [] →
    ∃ t, step s = .next t ∧ t.pending = [] ∧ SameBut [.clk] s.dev t.dev ∧ t.dev.clk.raster = s.dev.clk.raster ∧
      ((s.dev.pwr.inReset = true ∨ s.dev.pwr.powerOff = true ∨ s.dev.clk.hold ≠ none) → t.dev.clk = s.dev.clk) ∧
      (∀ rp, s.dev.pwr.inReset = false → s.dev.pwr.powerOff = false → s.dev.clk.hold = none → OnRaster s.dev.clk →
        rp = RP.plus s.dev.clk.raster s.dev.clk.rp ((s.dev.clk.frac + s.dev.clk.raster.inc) / 2 ^ 32) →
        (∀ p ∈ instants s.dev, s.dev.clk.rp.before p = true → rp.before p = true) →
        rp.line < s.dev.clk.raster.lines →
        t.dev.clk.rp = rp ∧ t.dev.clk.frac = (s.dev.clk.frac + s.dev.clk.raster.inc) % 2 ^ 32)

/-- Every command answers a next state and leaves the queue's rest as it was (that a row whose condition does not hold
does nothing is the model's inference, log entry 94). -/
def Obligations.EveryCommandAnswers : Prop :=
  ∀ (i : Instr) (s : State), ∃ t, exec i s = .next t ∧ t.pending = s.pending

/-- The RP lies on its raster at reset (R2, R46). -/
def Obligations.ResetOnRaster : Prop :=
  ClockOk State.reset ∧ State.reset.dev.clk.rp = RP.start 0 ∧ State.reset.dev.clk.raster = { num := 60, den := 1, lines := 1125 } ∧
    State.reset.dev.pwr.inReset = true ∧ State.reset.pending = []

/-- Every step keeps the RP on its raster (R2): a line below the raster's lines, a sub below 65,536. -/
def Obligations.StepKeepsRpOnRaster : Prop :=
  ∀ s t : State, ClockOk s → step s = .next t → ClockOk t

/-- No command but a reset, a row of the time base or a row that marks an instant moves the raster clock. A row that
marks an instant moves the RP to it or leaves it: it never sets it back, and keeps raster and hold (R46, R60; log
entry 2, the model's choice). The rows that let due commands take effect first (R96) do so where none waits; a
TIME_STEP_AUTHORISE among them is a command of the time base. -/
def Obligations.ClockMovesOnlyByTimeBase : Prop :=
  (∀ (i : Instr) (s t : State), i.movesClock = false → exec i s = .next t → t.dev.clk = s.dev.clk) ∧
  (∀ (i : Instr) (s t : State), i.marksInstant = true → (i.runsDue = true → nextEntry s.dev = none) → exec i s = .next t →
    (t.dev.clk.rp = s.dev.clk.rp ∨ s.dev.clk.rp.before t.dev.clk.rp = true) ∧ t.dev.clk.raster = s.dev.clk.raster ∧
      t.dev.clk.hold = s.dev.clk.hold)

/-- The order of two RPs (R47), with d the signed frame difference: by frame, then by line, then by sub; where d is
−2^31 they are unordered, and an unordered RP counts as passed. -/
def Obligations.RpOrder : Prop :=
  ∀ (a b : RP) (d : Int), d = (a.frame - b.frame).toInt →
    (d ≠ 0 → d ≠ -2147483648 → (b.before a = true ↔ 0 < d) ∧ (a.before b = true ↔ d < 0)) ∧
    (d = 0 → (a.before b = true ↔ a.line < b.line ∨ (a.line = b.line ∧ a.sub < b.sub))) ∧
    (d = -2147483648 → a.before b = false ∧ b.before a = false ∧ a.reached b = true ∧ a.passed b = true)

/-! ### Resets and start-up -/

/-- The rows that reset the device, each with its condition and its cause code (R521): RESET_N and BROWN_OUT always;
POWER_ON_RESET unless it ends a brown-out, whose reset then goes on with its cause; REF_LOST and CORE_WATCHDOG while
REF and the control cores run; the key written to PWR_RESET, by its own row or by REGISTER_WRITE at a head, once the
device is ready for host; HOST_RESET_DELAY once RESET_REQUEST has completed (R530); TAP_INTRUSIVE_EXIT while an
intrusive instruction stands (R505); LIFECYCLE_SELF_RESET while a life-cycle change is in the journal (R490). Each
leaves the device as AfterReset says (R521 to R523). Where its condition does not hold the row leaves the device as it
was; a value other than the key written to PWR_RESET is ignored (R521). It says where these complete: resetN,
brownOut, powerOnReset, refLost, coreWatchdog, pwrResetWrite, registerWrite, hostResetDelay, tapIntrusiveExit,
lifecycleSelfReset. -/
def Obligations.ResetRows : Prop :=
  ∀ s : State,
    Does .resetN s (AfterReset 2 s.dev) ∧
    Does .brownOut s (fun e => AfterReset 1 s.dev e ∧ e.pwr.supplyLow = true) ∧
    (s.dev.pwr.supplyLow = false → Does .powerOnReset s (AfterReset 0 s.dev)) ∧
    (s.dev.pwr.supplyLow = true →
      Does .powerOnReset s (fun e => e.pwr.supplyLow = false ∧ e.pwr.mask = s.dev.pwr.mask ∧ e.pwr.first = s.dev.pwr.first ∧
        SameBut [.pwr] s.dev e)) ∧
    (s.dev.pwr.powerOff = false → Does .refLost s (fun e => AfterReset 9 s.dev e ∧ e.pwr.refHere = false)) ∧
    (s.dev.pwr.powerOff = true → Does .refLost s (fun e => e = s.dev)) ∧
    (coresRun s.dev = true → Does .coreWatchdog s (AfterReset 6 s.dev)) ∧
    (coresRun s.dev = false → Does .coreWatchdog s (fun e => e = s.dev)) ∧
    (s.dev.pwr.readyHost = true → s.dev.pwr.powerOff = false →
      Does (.pwrResetWrite 0x5A4C5253) s (AfterReset 4 s.dev) ∧
      (s.dev.isHead = true → Does (.registerWrite 0x0C08 0x5A4C5253) s (AfterReset 4 s.dev))) ∧
    (∀ v : Word, v ≠ 0x5A4C5253 ∨ s.dev.pwr.readyHost = false ∨ s.dev.pwr.powerOff = true →
      Does (.pwrResetWrite v) s (fun e => e = s.dev) ∧ Does (.registerWrite 0x0C08 v) s (fun e => e = s.dev)) ∧
    (∀ h, s.dev.pwr.hostReset = some h → h.done = true → Does .hostResetDelay s (AfterReset 3 s.dev)) ∧
    ((∀ h, s.dev.pwr.hostReset = some h → h.done = false) → Does .hostResetDelay s (fun e => e = s.dev)) ∧
    (s.dev.sec.intrusive = true → Does .tapIntrusiveExit s (AfterReset 8 s.dev)) ∧
    (s.dev.sec.intrusive = false → Does .tapIntrusiveExit s (fun e => e = s.dev)) ∧
    (∀ j, s.dev.sec.journal = some j → Does .lifecycleSelfReset s (AfterReset 7 s.dev)) ∧
    (s.dev.sec.journal = none → Does .lifecycleSelfReset s (fun e => e = s.dev))

/-- RESET_RELEASE takes the role from the straps and START from the role (R13, R515); with REF absent start-up waits,
and REF_RETURN goes on, through the standby PLLs' lock tests (R527, R529). Ready for host enables every link port (its
rings have not started then) and raises RESET_CAUSE with first cause, mask and time (R523, R529); ready to light
follows it; both do nothing a second time. RUN is entered at the later of ready to light and START (R515): the state
is RUN, POWER_STATE_CHANGED is reported, and a head whose raster settings are valid restarts the RP at RP[0:0:0] on
the raster of its registers (R46). A START write sets START (R515). Where the rules leave room it follows the model's
log entries 21, 86. It says where these complete: resetRelease, refReturn, readyForHost, readyToLight, runEntry,
pwrCtrlStartWrite. -/
def Obligations.StartUp : Prop :=
  ((∀ (b : BootInputs) (s : State), s.dev.pwr.inReset = true → s.dev.pwr.supplyLow = false → s.dev.red.pllStandby.length = 7 →
    Does (.resetRelease b) s (fun e => e.pwr.inReset = false ∧ e.pwr.state = .startUp ∧ e.pwr.role = roleOf b.role1 b.role0 ∧
      e.pwr.start = (roleOf b.role1 b.role0 == .node) ∧ e.pwr.waitRef = !b.refPresent ∧
      (b.refPresent = true → e.pwr.boot = none ∧ e.red.pllStandby = (List.range 7).map (fun f => hasBit b.pllPass f)) ∧
      (b.refPresent = false → e.pwr.boot = some b ∧ SameBut [.pwr] s.dev e))) ∧
  (∀ (b : BootInputs) (s : State), s.dev.pwr.waitRef = true → s.dev.pwr.boot = some b → s.dev.red.pllStandby.length = 7 →
    Does .refReturn s (fun e => e.pwr.waitRef = false ∧ e.pwr.refHere = true ∧ e.pwr.boot = none ∧
      e.red.pllStandby = (List.range 7).map (fun f => hasBit b.pllPass f)))) ∧
  ((∀ (us : Nat) (s : State), s.dev.pwr.inReset = false → s.dev.pwr.waitRef = false → s.dev.pwr.readyHost = false →
    s.dev.pwr.powerOff = false → s.dev.pwr.trans = none → s.dev.pwr.retained = none →
    Does (.readyForHost us) s (fun e => e.pwr.readyHost = true ∧
      (s.dev.hif.started = false → e.link = s.dev.link.map (fun l => { l with enabled := true })) ∧
      { code := 0x8011, payload := leN 1 s.dev.pwr.first ++ zeros 1 ++ leN 2 s.dev.pwr.mask ++ leN 4 us } ∈ e.notes)) ∧
  (∀ (us : Nat) (s : State), s.dev.pwr.readyHost = true → Does (.readyForHost us) s (fun e => e = s.dev)) ∧
  (∀ s : State, s.dev.pwr.readyHost = true → s.dev.pwr.readyLight = false → s.dev.pwr.powerOff = false →
    s.dev.pwr.woke = false → Does .readyToLight s (fun e => e.pwr.readyLight = true)) ∧
  (∀ s : State, s.dev.pwr.readyLight = true → Does .readyToLight s (fun e => e = s.dev))) ∧
  ((∀ s : State, s.dev.pwr.state = .startUp → s.dev.pwr.readyLight = true → s.dev.pwr.start = true →
    s.dev.pwr.inReset = false →
    Does .runEntry s (fun e => e.pwr.state = .run ∧ e.pwr.everRun = true ∧
      (s.dev.pwr.role = .node →
        Noticed s.dev e 0x8010 (leN 1 4 ++ leN 1 0 ++ leN 1 4 ++ zeros 1 ++ s.dev.clk.rp.bytes)) ∧
      (s.dev.isHead = true → (rasterRegs s.dev).valid = true → e.clk.rp = RP.start 0 ∧ e.clk.raster = rasterRegs s.dev))) ∧
  (∀ s : State, s.dev.pwr.start = false → Does .runEntry s (fun e => e = s.dev)) ∧
  (∀ (v : Word) (s : State), s.dev.pwr.readyHost = true →
    Does (.pwrCtrlStartWrite v) s (fun e => e.pwr.start = hasBit v.toNat 0 ∧ SameBut [.pwr] s.dev e)))

/-- Loss of REF resets the device with cause REF_LOST, and start-up waits at step 4 for REF to return (R527). It says
where these complete: refLost, resetRelease, refReturn. -/
def Obligations.RefLoss : Prop :=
  (∀ s : State, s.dev.pwr.powerOff = false → Does .refLost s (fun e => AfterReset 9 s.dev e ∧ e.pwr.refHere = false)) ∧
  (∀ (b : BootInputs) (s : State), s.dev.pwr.inReset = true → s.dev.pwr.supplyLow = false → b.refPresent = false →
    Does (.resetRelease b) s (fun e => e.pwr.waitRef = true ∧ e.pwr.boot = some b ∧ SameBut [.pwr] s.dev e)) ∧
  (∀ (us : Nat) (s : State), s.dev.pwr.waitRef = true → Does (.readyForHost us) s (fun e => e = s.dev)) ∧
  (∀ (b : BootInputs) (s : State), s.dev.pwr.waitRef = true → s.dev.pwr.boot = some b →
    Does .refReturn s (fun e => e.pwr.waitRef = false ∧ e.pwr.refHere = true ∧ e.pwr.boot = none))

/-- PIN_STRAPS (R542) reads the straps as sampled, ROLE_RESERVED and the role in force; a write of it is ignored. It
says where these complete: counterRead, resetRelease. -/
def Obligations.PinStraps : Prop :=
  ∀ s : State,
    (∀ p : Path, readServed p s.dev = true → Does (.counterRead 0x1000 p) s (fun e => SameBut [.lastRead] s.dev e ∧
      e.lastRead = BitVec.ofNat 32 (65536 * s.dev.pwr.straps + 256 * bit s.dev.pwr.roleRes +
        (match s.dev.pwr.role with | .node => 0 | .head => 1 | .headNode => 2)))) ∧
    (∀ v : Word, Does (.registerWrite 0x1000 v) s (fun e => e = s.dev)) ∧
    (∀ b : BootInputs, s.dev.pwr.inReset = true → s.dev.pwr.supplyLow = false → Does (.resetRelease b) s (fun e =>
      e.pwr.straps = 2 * bit b.role1 + bit b.role0 ∧ e.pwr.roleRes = (b.role1 && b.role0) ∧
      e.pwr.role = (match b.role1, b.role0 with | false, true => .head | true, false => .headNode | _, _ => .node)))

/-! ### Power states -/

/-- POWER_STATE_SET refused (R506, R515, R516, R519, R530): a field out of range, start-up, the state in force or the
one being entered, a halted core, or a life cycle that only forwards; nothing but the completion is written.
POWER_STATE_SET carried out (R516, R519): during a transition it is held, to complete OK, and its place in the
schedule stays in use; RUN to QUIET and QUIET to RUN are made at the boundary; a move that takes time begins a
transition. Where the rules leave room it follows the model's log entry 81. It says where these complete:
powerStateSet. -/
def Obligations.PowerStateSet : Prop :=
  (∀ (c : Cmd) (s : State),
    (3 < opB c 0 ∨ 2 < opB c 1 ∨ 86400 < opN c 4 4 →
      Does (.powerStateSet c) s (fun e => Completed s.dev e 0x88 c 4 none [] ∧ SameBut (.comps :: reporting) s.dev e)) ∧
    (¬ (3 < opB c 0 ∨ 2 < opB c 1 ∨ 86400 < opN c 4 4) →
      (s.dev.pwr.state = .startUp ∨ (s.dev.sec.halted ≠ 0 ∧ opB c 0 ≠ 0) ∨ stateEntered s.dev = stateOf (opB c 0) ∨
        (forwardOnly s.dev = true ∧ (opB c 0 = 1 ∨ opB c 0 = 2))) →
      Does (.powerStateSet c) s (fun e => Completed s.dev e 0x88 c 6 none [] ∧ SameBut (.comps :: reporting) s.dev e))) ∧
  (∀ (c : Cmd) (s : State), opB c 0 ≤ 3 → opB c 1 ≤ 2 → opN c 4 4 ≤ 86400 → s.dev.pwr.state ≠ .startUp →
    forwardOnly s.dev = false → s.dev.sec.halted = 0 → stateEntered s.dev ≠ stateOf (opB c 0) →
    (s.dev.pwr.trans.isSome = true →
      Does (.powerStateSet c) s (fun e => e.pwr.queued = s.dev.pwr.queued ++ [{ c with late := false }] ∧
        e.sched.entries = s.dev.sched.entries ∧ SameBut (.pwr :: .sched :: reporting) s.dev e)) ∧
    (s.dev.pwr.trans = none → opB c 0 = 1 → s.dev.pwr.state = .run →
      Does (.powerStateSet c) s (fun e => e.pwr.state = .quiet ∧ e.pwr.trans = none ∧ e.pxl.graph = none)) ∧
    (s.dev.pwr.trans = none → opB c 0 = 0 → s.dev.pwr.state = .quiet →
      Does (.powerStateSet c) s (fun e => e.pwr.state = .run ∧ e.pwr.trans = none ∧
        Finished s.dev e 0x88 c (boundaryRp s.dev) (zeros 4))) ∧
    (s.dev.pwr.trans = none → opB c 0 ≤ 1 → s.dev.pwr.state = .standby →
      Does (.powerStateSet c) s (fun e => SameBut [.pwr] s.dev e ∧
        e.pwr.trans = some { target := stateOf (opB c 0), old := .standby, cause := 0, cmd := some c, at_ := boundaryRp s.dev })) ∧
    (s.dev.pwr.trans = none → opB c 0 = 2 →
      Does (.powerStateSet c) s (fun e => e.pwr.state = .standby ∧ e.pxl.graph = none ∧
        e.pwr.trans = some { target := .standby, old := s.dev.pwr.state, cause := 0, cmd := some c, at_ := boundaryRp s.dev })) ∧
    (s.dev.pwr.trans = none → opB c 0 = 3 →
      Does (.powerStateSet c) s (fun e => e.pwr.state = .standby ∧ e.pwr.back = stateOf (opB c 1) ∧
        e.pwr.wakeTimer = opN c 4 4 ∧ e.mtr.save.isSome = true ∧
        e.pwr.trans = some { target := .hibernate, old := s.dev.pwr.state, cause := 0, cmd := some c, at_ := boundaryRp s.dev })))

/-- POWER_TRANSITION_DONE ends a transition (R516): to RUN, QUIET or STANDBY the state is entered and no transition
runs; into HIBERNATE the retained set is written (R518), and the power-down follows. HIBERNATE_POWER_DOWN with no wake
event latched (R503, R516, R518): the device is off but for AON, NVM, bank LV and the retention memory. Where the
rules leave room it follows the model's log entries 81, 82. It says where these complete: powerTransitionDone,
hibernatePowerDown. -/
def Obligations.PowerTransitions : Prop :=
  (∀ (us : Nat) (s : State) (t : Transition), s.dev.pwr.trans = some t → s.dev.pwr.readyHost = true →
    s.dev.pwr.powerOff = false →
    (t.target ≠ .hibernate →
      Does (.powerTransitionDone us) s (fun e => e.pwr.state = t.target ∧ e.pwr.trans = none ∧ e.pwr.retained = s.dev.pwr.retained)) ∧
    (t.target = .run ∨ t.target = .quiet → ∀ c, t.cmd = some c →
      Does (.powerTransitionDone us) s (fun e => Finished s.dev e 0x88 c t.at_ (leN 4 us) ∧ e.pxl.buffers = [])) ∧
    (t.target = .hibernate →
      Does (.powerTransitionDone us) s (fun e => e.pwr.trans = some { t with cmd := none } ∧
        ∃ r, e.pwr.retained = some r ∧ r.role = s.dev.pwr.role ∧ r.nodeId = s.dev.topo.nodeId ∧ r.record = s.dev.topo.record ∧
          r.headSet = s.dev.topo.headSet ∧ r.p = s.dev.tim.presentP ∧ r.c = s.dev.tim.presentC ∧
          r.sched = s.dev.sched.entries ∧ r.rp = s.dev.clk.rp))) ∧
  (∀ (s : State) (t : Transition) (r : Retained), s.dev.pwr.trans = some t → t.target = .hibernate →
    s.dev.pwr.retained = some r → s.dev.pwr.wakeLatch = none →
    Does .hibernatePowerDown s (fun e => e.pwr.state = .hibernate ∧ e.pwr.powerOff = true ∧ e.pwr.trans = none ∧
      e.pwr.readyHost = false ∧ e.sec.level = 0 ∧ e.sec.life = s.dev.sec.life ∧ e.sec.rollback = s.dev.sec.rollback ∧
      e.topo = {} ∧ e.sched = {} ∧ e.gest = {} ∧ e.pxl = {} ∧ e.clk = s.dev.clk ∧
      ∃ q, e.pwr.retained = some q ∧ q.role = r.role ∧ q.nodeId = r.nodeId ∧ q.record = r.record ∧ q.sched = r.sched ∧ q.rp = r.rp))

/-- Wake events (R517, R519): out of HIBERNATE WAKE_N and the wake timer begin a transition to the return state;
during entry the first one is latched; WAKE_N ends STANDBY and QUIET at the next boundary, and the timer a state the
watchdog entered. Where the rules leave room it follows the model's log entry 83. It says where these complete: wakeN,
wakeTimerExpiry. -/
def Obligations.WakeEvents : Prop :=
  ∀ s : State,
    (s.dev.pwr.powerOff = true →
      Does .wakeN s (fun e => e.pwr.powerOff = false ∧ e.pwr.woke = true ∧ e.pwr.mask = s.dev.pwr.mask ∧
        e.pwr.trans = some { target := s.dev.pwr.back, old := .hibernate, cause := 2, cmd := none, at_ := s.dev.clk.rp }) ∧
      (s.dev.pwr.wakeTimer ≠ 0 →
        Does .wakeTimerExpiry s (fun e => e.pwr.powerOff = false ∧ e.pwr.woke = true ∧ e.pwr.mask = s.dev.pwr.mask ∧
          e.pwr.trans = some { target := s.dev.pwr.back, old := .hibernate, cause := 3, cmd := none, at_ := s.dev.clk.rp }))) ∧
    (entering s.dev = true → s.dev.pwr.powerOff = false →
      Does .wakeN s (fun e => e.pwr.wakeLatch = some (s.dev.pwr.wakeLatch.getD 2) ∧ SameBut [.pwr] s.dev e) ∧
      (s.dev.pwr.wakeTimer ≠ 0 →
        Does .wakeTimerExpiry s (fun e => e.pwr.wakeLatch = some (s.dev.pwr.wakeLatch.getD 3) ∧ SameBut [.pwr] s.dev e))) ∧
    (s.dev.pwr.powerOff = false → entering s.dev = false →
      (s.dev.pwr.state = .standby ∨ s.dev.pwr.state = .quiet →
        Does .wakeN s (fun e => e.pwr.runNext = some 2 ∧ e.pwr.state = s.dev.pwr.state ∧ SameBut [.pwr] s.dev e)) ∧
      (s.dev.pwr.wakeTimer ≠ 0 → byWatchdog s.dev = true →
        Does .wakeTimerExpiry s (fun e => e.pwr.runNext = some 3 ∧ SameBut [.pwr] s.dev e))) ∧
    (s.dev.pwr.wakeTimer = 0 → Does .wakeTimerExpiry s (fun e => e = s.dev))

/-- The host watchdog and RESET_REQUEST (R481, R519, R521, R524, R530): WATCHDOG_SET sets, restarts and stops it; its
expiry, in another cycle than the last WATCHDOG_SET's, turns it off and begins an energy save before a reset, or waits
for the next boundary; RESET_REQUEST begins its saves, and one that comes while another's run joins it. Where the
rules leave room it follows the model's log entries 84, 171, 173. It says where these complete: watchdogSet,
hostWatchdogExpiry, resetRequest. -/
def Obligations.WatchdogAndResetRequest : Prop :=
  (∀ (c : Cmd) (s : State), opN c 0 4 = 0 ∨ (100 ≤ opN c 0 4 ∧ opN c 0 4 ≤ 3600000) → opB c 4 ≤ 2 →
    Does (.watchdogSet c) s (fun e => e.pwr.wdOn = decide (opN c 0 4 ≠ 0) ∧ e.pwr.wdPeriod = opN c 0 4 ∧
      e.pwr.wdAction = opB c 4 ∧ e.pwr.wdSetAt = some s.dev.clk.rp ∧ Finished s.dev e 0x8A c s.dev.clk.rp [] ∧ SameBut (.pwr :: .comps :: reporting) s.dev e)) ∧
  (∀ (c : Cmd) (s : State), (opN c 0 4 ≠ 0 ∧ (opN c 0 4 < 100 ∨ 3600000 < opN c 0 4)) ∨ 2 < opB c 4 →
    Does (.watchdogSet c) s (fun e => e.pwr = s.dev.pwr ∧ Completed s.dev e 0x8A c 4 none [])) ∧
  (∀ s : State, s.dev.pwr.wdOn = true → s.dev.pwr.powerOff = false → nextEntry s.dev = none →
    s.dev.pwr.wdSetAt ≠ some s.dev.clk.rp →
    (s.dev.pwr.wdAction = 2 → s.dev.pwr.trans = none →
      Does .hostWatchdogExpiry s (fun e => e.pwr.wdOn = false ∧ e.pwr.wdReset = true ∧ (e.mtr.save.isSome = true) ∧
        SameBut [.pwr, .mtr] s.dev e)) ∧
    (s.dev.pwr.wdAction ≠ 2 ∨ s.dev.pwr.trans.isSome = true →
      Does .hostWatchdogExpiry s (fun e => e.pwr.wdOn = false ∧ e.pwr.wdQueued = true ∧ SameBut [.pwr] s.dev e))) ∧
  (∀ (c : Cmd) (s : State), Does (.resetRequest c) s (fun e => e.mtr.save.isSome = true ∧ SameBut [.corr, .mtr, .pwr] s.dev e ∧
    (s.dev.pwr.hostReset = none →
      e.pwr.hostReset = some { cmds := [(c, boundaryRp s.dev)], expo := hasBit (opB c 0) 0 && s.dev.isNode, energy := true,
                               failed := false, done := false }) ∧
    (∀ h, s.dev.pwr.hostReset = some h →
      e.pwr.hostReset = some { h with cmds := h.cmds ++ [(c, boundaryRp s.dev)],
                                      expo := h.expo || (hasBit (opB c 0) 0 && s.dev.isNode), energy := true })))

/-- HV_LOW sets and clears its condition, and no other function is affected (R513); a junction reading is kept for the
reply cards (R125); PCIE_RESET clears the host interface of a head and nothing else (R521). Where the rules leave room
it follows the model's log entry 85. It says where these complete: hvLow, junctionTemperatureRead, pcieReset. -/
def Obligations.SmallPowerRows : Prop :=
  ∀ s : State,
    (s.dev.pwr.powerOff = false → ∀ cleared, Does (.hvLow cleared) s (fun e => e.pwr = { s.dev.pwr with hvLow := !cleared } ∧
      SameBut [.pwr] s.dev e)) ∧
    (s.dev.pwr.powerOff = false → s.dev.pwr.inReset = false → ∀ tenths, Does (.junctionTemperatureRead tenths) s (fun e =>
      e.pwr = { s.dev.pwr with temp := tenths } ∧ SameBut [.pwr] s.dev e)) ∧
    (s.dev.isHead = true → Does .pcieReset s (fun e => e.hif = { rounds := s.dev.hif.rounds } ∧ SameBut [.hif] s.dev e)) ∧
    (s.dev.isHead = false → Does .pcieReset s (fun e => e = s.dev))

/-! ### Feeds -/

/-- A lost feed's switch opens and the other carries everything; a last feed's switch never opens (R363, R511). A
restored feed takes its share again, and FEED_RESTORED is reported (R364). A feed path passes a probe when its share
reaches 850, and fails it with FEED_PATH_FAULT otherwise (R365); the command that asked for the probe completes with
the result at the boundary it took effect at (R88, R370); a skipped probe completes NOT_APPLICABLE. A path that
carries less than 100 while its feed is present fails too. Feeds more than 300 mV apart carry what their switches
allow, reported on entry, and the share is the set one again below that (R362). Where the rules leave room it follows
the model's log entry 57. It says where these complete: feedLost, feedRestored, feedProbe, feedPathLowShare,
feedShareLimit. -/
def Obligations.FeedsWatched : Prop :=
  (∀ (s : State) (a b : Feed), s.dev.red.feeds = [a, b] →
    (a.present = true → b.present = true → ∀ reverse mv,
      Does (.feedLost 0 reverse mv) s (fun e => e.red.feeds = [{ a with present := false, mv := mv }, b] ∧ e.red.share = 0 ∧
        e.red.probeCmds = [] ∧ SameBut (.red :: .comps :: reporting) s.dev e) ∧
      Does (.feedLost 1 reverse mv) s (fun e => e.red.feeds = [a, { b with present := false, mv := mv }] ∧
        e.red.share = 1000 ∧ e.red.probeCmds = [])) ∧
    (a.present = true → b.present = false → ∀ reverse mv,
      Does (.feedLost 0 reverse mv) s (fun e => e.red.feeds = [{ a with mv := mv }, b] ∧ e.red.share = 1000)) ∧
    (a.present = false → b.present = true → s.dev.red.shareFar = false → ∀ mv,
      Does (.feedRestored 0 mv) s (fun e => e.red.feeds = [{ a with present := true, mv := mv }, b] ∧
        e.red.share = nearest 100 900 (s.dev.field 0x0C10 9 0) ∧ Noticed s.dev e 0x5007 (leN 1 0 ++ zeros 3) ∧
        SameBut (.red :: reporting) s.dev e))) ∧
  (∀ (s : State) (a b : Feed), s.dev.red.feeds = [a, b] →
    (a.present = true → b.present = true → s.dev.pwr.state ≠ .hibernate → ∀ (sa sb : Nat) (at_ : RP) (c : Cmd),
      s.dev.red.probeCmds = [(at_, c)] →
      (850 ≤ sa → 850 ≤ sb →
        Does (.feedProbe sa sb false) s (fun e => e.red.feeds = [{ a with fault := false }, { b with fault := false }] ∧
          e.red.probeCmds = [] ∧ Finished s.dev e 0x51 c at_ (leN 1 3))) ∧
      (sa < 850 → 850 ≤ sb →
        Does (.feedProbe sa sb false) s (fun e => (feedOf e 0).fault = true ∧ (feedOf e 1).fault = false ∧
          Finished s.dev e 0x51 c at_ (leN 1 2))) ∧
      Does (.feedProbe sa sb true) s (fun e => e.red.feeds = [a, b] ∧ e.red.probeCmds = [] ∧
        Completed s.dev e 0x51 c 6 none [])) ∧
    (∀ share, share < 100 → a.present = true →
      Does (.feedPathLowShare 0 share) s (fun e => (feedOf e 0).fault = true ∧ (feedOf e 1).fault = b.fault ∧
        (feedOf e 0).faults = a.faults ++ [s.dev.spare.run])) ∧
    (∀ (share : Nat) (diff : Int), s.dev.red.shareFar = false → 300 < diff.natAbs →
      Does (.feedShareLimit share diff) s (fun e =>
        e.red = { s.dev.red with shareFar := true, share := if diff < 0 then share else 1000 - share } ∧
        Noticed s.dev e 0x5009 (leN 2 share ++ leN 2 diff.natAbs) ∧
        SameBut (.red :: reporting) s.dev e)) ∧
    (∀ (share : Nat) (diff : Int), diff.natAbs ≤ 300 → Does (.feedShareLimit share diff) s (fun e =>
        e.red = { s.dev.red with shareFar := false, share := shareNow s.dev } ∧
        SameBut [.red] s.dev e)))

/-! ### The shared clock -/

/-- What a head sends of its own accord in the time base: at a TIME period a TIME frame on every port of a head that
knows no map (R34, R63), each port woken for it (R166) and each frame numbered (R132); a link-delay exchange on one
port, whose corrected transmit postmark is kept (R65, R169), its frame leaving at once where no insertion interval
holds it (R144), once per raster frame on a device without a node ID, which numbers none (R126, R132). A DELAY_REQ
taken is answered on its port; a DELAY_RESP to the exchange under way gives that port's link delay ((t4 − t1) − (t3 −
t2)) / 2, t4 the corrected receive postmark (R169), kept among the last 8, and its exchange ends (R65). A device
without a node ID answers once per raster frame and port (R126). A RING TIME frame of its own raster that a node takes
sets its direction's quantities (R67): presence, head, period and raster, with the raster clock untouched while the
node is in ACQUIRE (R71). Where the rules leave room it follows the model's log entries 28, 107, 133, 137, 138. It
says where these complete: timePeriodTick, linkDelayExchange, delayReq, delayResp, timeFrame. -/
def Obligations.TimeFramesTravel : Prop :=
  ((∀ (s : State) (l0 l1 l2 l3 l4 l5 l6 l7 : LinkPort), s.dev.link = [l0, l1, l2, l3, l4, l5, l6, l7] →
    s.dev.isHead = true → s.dev.tim.cfgInvalid = false → forwardOnly s.dev = false → s.dev.pwr.inReset = false →
    mapKnown s.dev = none →
    Does .timePeriodTick s (fun e => SameBut [.link, .sent] s.dev e ∧
      ∀ p, p < 8 → (e.port p).timeSeq = (s.dev.port p).timeSeq + 1 ∧ (e.port p).lpiTx = false)) ∧
  (∀ (s : State) (p : Fin 8) (t1 : BitVec 64), p.val < s.dev.link.length →
    (s.dev.isHead = true ∨ s.dev.topo.nodeId ≠ none →
      Does (.linkDelayExchange p t1) s (fun e => (e.port p.val).t1 = some (txPost s.dev p.val t1) ∧
        (e.port p.val).timeSeq = (s.dev.port p.val).timeSeq + 1 ∧
        ((s.dev.port p.val).up = true → (s.dev.port p.val).lpiTx = false →
          (s.dev.isHead = true → (s.dev.port p.val).quietTo = none ∧ (s.dev.port p.val).backlog = []) →
          ∃ f, e.sent = s.dev.sent ++ [f] ∧ f.port = p.val) ∧
        SameBut [.link, .sent] s.dev e)) ∧
    (s.dev.isHead = false → s.dev.topo.nodeId = none →
      Does (.linkDelayExchange p t1) s (fun e => (e.port p.val).t1 = some (txPost s.dev p.val t1) ∧
        (e.port p.val).timeSeq = (s.dev.port p.val).timeSeq ∧ (e.port p.val).cardFrame = some s.dev.clk.rp.frame ∧
        ((s.dev.port p.val).cardFrame = some s.dev.clk.rp.frame → e.sent = s.dev.sent) ∧
        SameBut [.link, .sent] s.dev e)))) ∧
  ((∀ (f : RxFrame) (t3 : BitVec 64) (s : State) (h : Hdr) (b : List Byte),
    (takeTime f 1 id s.dev).got = some (h, b) → ∀ d, d = (takeTime f 1 id s.dev).dev →
    f.port.val < d.link.length → (d.port f.port.val).up = true → (d.port f.port.val).lpiTx = false →
    ((d.isHead = true ∧ (d.port f.port.val).quietTo = none ∧ (d.port f.port.val).backlog = []) ∨
        (d.isHead = false ∧ d.topo.nodeId ≠ none) →
      Does (.delayReq f t3) s (fun e => (e.port f.port.val).timeSeq = (d.port f.port.val).timeSeq + 1 ∧
        ∃ x, e.sent = d.sent ++ [x] ∧ x.port = f.port.val)) ∧
    (d.isHead = false → d.topo.nodeId = none → (d.port f.port.val).cardFrame ≠ some d.clk.rp.frame →
      Does (.delayReq f t3) s (fun e => (e.port f.port.val).timeSeq = (d.port f.port.val).timeSeq ∧
        ∃ x, e.sent = d.sent ++ [x] ∧ x.port = f.port.val)) ∧
    (d.isHead = false → d.topo.nodeId = none → (d.port f.port.val).cardFrame = some d.clk.rp.frame →
      Does (.delayReq f t3) s (fun e => e.sent = d.sent))) ∧
  (∀ (f : RxFrame) (s : State) (h : Hdr) (b : List Byte),
    (takeTime f 2 id s.dev).got = some (h, b) → ∀ d, d = (takeTime f 2 id s.dev).dev →
    f.port.val < d.link.length → (d.port f.port.val).t1 = some (BitVec.ofNat 64 (be b 32 8)) →
    Does (.delayResp f) s (fun e => (e.port f.port.val).t1 = none ∧
      (e.port f.port.val).delays = lastN 8 ((d.port f.port.val).delays ++
        [((rxPost s.dev f.port.val f.mark - BitVec.ofNat 64 (be b 32 8)).toInt -
          (BitVec.ofNat 64 (be b 48 8) - BitVec.ofNat 64 (be b 40 8)).toInt) / 2])))) ∧
  (∀ (t : TimeRx) (s : State) (h : Hdr) (b : List Byte),
    (takeTime t.frame 0 (timeOnward t s.dev) s.dev).got = some (h, b) →
    s.dev.isHead = false → headReady b = true → 1 ≤ be b 3 1 % 32 → be b 3 1 % 32 ≤ 16 →
    (timeRaster b).valid = true → (timeOrigin b).line < (timeRaster b).lines → s.dev.clk.raster = timeRaster b →
    adopts s.dev (pairOf t.frame.port.val) (timeRaster b) = false → s.dev.tim.state = .acquire → s.dev.tim.dirs.length = 8 → h.dir ≤ 1 →
    Does (.timeFrame t) s (fun e => e.clk = s.dev.clk ∧ e.tim.state = .acquire ∧
      (dirOf e (pairOf t.frame.port.val) h.dir).seen = true ∧ (dirOf e (pairOf t.frame.port.val) h.dir).head = h.head ∧
      (dirOf e (pairOf t.frame.port.val) h.dir).period = be b 3 1 % 32 ∧
      (dirOf e (pairOf t.frame.port.val) h.dir).raster = timeRaster b))

/-- NODE_ACQUIRE_COMPLETE (R46, R67, R71): a node in ACQUIRE that has an offset moves its RP by it once, sets its
rate, and is in TRACK with its first lock made; in any other state, or without a direction to take time from, nothing
changes. RASTER_READOPT (R576): a node in HOLDOVER that has carried frames of one other configuration for 64 periods
re-adopts it: the RP restarts on it, output and the graph in progress end, commands wait unevaluated, and the node
acquires anew; in any other case nothing changes. Where the rules leave room it follows the model's log entries 19,
20, 134. It says where these complete: nodeAcquireComplete, rasterReadopt. -/
def Obligations.NodeLocks : Prop :=
  (∀ (rate : Int) (s : State),
    (∀ (pair path : Nat) (off : Int) (store : Bool), s.dev.isHead = false → s.dev.tim.state = .acquire →
      timePair s.dev = some pair → pairOffset s.dev pair = some (path, off, store) →
      Does (.nodeAcquireComplete rate) s (fun e => e.tim.state = .track ∧ e.tim.firstLock = true ∧
        e.tim.rate = clamp rate (-200000) 200000 ∧ e.tim.off16 = off ∧ e.tim.path = path ∧ e.clk = s.dev.clk.shift off)) ∧
    (s.dev.isHead = true ∨ s.dev.tim.state ≠ .acquire ∨ timePair s.dev = none →
      Does (.nodeAcquireComplete rate) s (fun e => e = s.dev))) ∧
  (∀ s : State,
    (∀ (pair : Nat) (r : Raster), s.dev.isHead = false → s.dev.tim.firstLock = true →
      s.dev.tim.state = .holdover → foreignPair s.dev = some (pair, r) → r.valid = true →
      Does .rasterReadopt s (fun e => e.clk = s.dev.clk.restart r ∧ e.tim.state = .acquire ∧ e.tim.firstLock = false ∧
        e.tim.follow = some pair ∧ e.out.running = false ∧ e.pxl.graph = none ∧ (∀ x ∈ e.sched.entries, x.judged = false))) ∧
    (s.dev.isHead = true ∨ s.dev.tim.firstLock = false ∨ s.dev.tim.state ≠ .holdover ∨ foreignPair s.dev = none →
      Does .rasterReadopt s (fun e => e = s.dev)))

/-- PTP_MEASUREMENT on a head that takes its time from PTP (R46, R49, R55, R56, R58), where both frames of the
exchange are received and its Delay_Req could leave: in ACQUIRE a measurement whose delay is accepted counts, and the
eighth sets the RP to that of the PTP time now and locks; from TRACK on its offset, reference minus own RP, is judged;
one whose delay is out of line is counted and no more. Where the exchange could not be made, or in FREE, the clock and
its state stay. SYNC_IN_EDGE on a head that takes its time from SYNC, for an edge of the polarity set (R46, R51, R55,
R56, R74): before first lock an edge takes FREE to ACQUIRE, counts there, and the eighth sets the RP so that the frame
it marks starts TIM_SYNC_OFFSET later, and locks; after it the first edge of a frame's window gives the offset, and a
second one is ignored. An edge of the other polarity changes nothing. Where the rules leave room it follows the
model's log entry 112. It says where these complete: ptpMeasurement, syncInEdge. -/
def Obligations.HeadMeasurements : Prop :=
  (∀ (m : PtpExchange) (s : State) (d : Device), d = keepClk s.dev (ptpFrames m s.dev).2 →
    ((ptpFrames m s.dev).1 = false → Does (.ptpMeasurement m) s (fun e => e.clk = s.dev.clk ∧ e.tim = s.dev.tim)) ∧
    ((ptpFrames m s.dev).1 = true →
      (delayAccepted s.dev.tim.delays (ptpDelay m d) = false ∨ s.dev.tim.state = .free →
        Does (.ptpMeasurement m) s (fun e => e.clk = s.dev.clk ∧ e.tim =
          { s.dev.tim with delays := lastN 16 (s.dev.tim.delays ++ [ptpDelay m d]), ptpNs := ptpNow m d })) ∧
      (delayAccepted s.dev.tim.delays (ptpDelay m d) = true →
        (s.dev.tim.state = .acquire → 8 ≤ s.dev.tim.meas + 1 →
          Does (.ptpMeasurement m) s (fun e => e.tim.state = .track ∧ e.tim.firstLock = true ∧ e.tim.rate = 0 ∧
            e.clk = s.dev.clk.goTo (ptpRp s.dev.clk.raster (ptpNow m d)))) ∧
        (s.dev.tim.state = .acquire → s.dev.tim.meas + 1 < 8 →
          Does (.ptpMeasurement m) s (fun e => e.tim.state = .acquire ∧ e.tim.meas = s.dev.tim.meas + 1 ∧ e.clk = s.dev.clk)) ∧
        (s.dev.tim.state ≠ .free → s.dev.tim.state ≠ .acquire →
          Does (.ptpMeasurement m) s (fun e => e.clk = s.dev.clk ∧
            e.tim.off16 = refOffset s.dev (ptpRp s.dev.clk.raster (ptpNow m d)) * 65536))))) ∧
  (∀ (falling : Bool) (s : State) (off : Int) (f : BitVec 32),
    off = s.dev.clk.raster.subOf (syncOffset s.dev) →
    f = edgeFrameAt (RP.plus s.dev.clk.raster s.dev.clk.rp off) (nearest 1 16 (s.dev.field 0x3020 4 0)) →
    (measures s.dev .sync = false ∨ falling ≠ (s.dev.field 0x3024 0 0 == 1) →
      Does (.syncInEdge falling) s (fun e => e = s.dev)) ∧
    (measures s.dev .sync = true → falling = (s.dev.field 0x3024 0 0 == 1) →
      (s.dev.tim.firstLock = false →
        (s.dev.tim.state = .free → Does (.syncInEdge falling) s (fun e => e.tim.state = .acquire ∧ e.tim.meas = 0 ∧
          e.tim.edgesMissed = 0 ∧ SameBut [.tim] s.dev e)) ∧
        (s.dev.tim.state = .acquire → s.dev.tim.meas + 1 < 8 → Does (.syncInEdge falling) s (fun e =>
          e.tim.state = .acquire ∧ e.tim.meas = s.dev.tim.meas + 1 ∧ e.tim.edgesMissed = 0 ∧ SameBut [.tim] s.dev e)) ∧
        (s.dev.tim.state = .acquire → 8 ≤ s.dev.tim.meas + 1 → Does (.syncInEdge falling) s (fun e =>
          e.tim.state = .track ∧ e.tim.firstLock = true ∧ e.tim.rate = 0 ∧
          e.tim.ltcUnaligned = !((syncFrame s.dev (RP.plus s.dev.clk.raster s.dev.clk.rp off)).2) ∧
          e.clk = s.dev.clk.goTo (RP.plus s.dev.clk.raster
            (RP.start (BitVec.ofInt 32 (syncFrame s.dev (RP.plus s.dev.clk.raster s.dev.clk.rp off)).1)) (-off))))) ∧
      (s.dev.tim.firstLock = true → s.dev.tim.edgeFrame = some f → Does (.syncInEdge falling) s (fun e => e = s.dev)) ∧
      (s.dev.tim.firstLock = true → s.dev.tim.edgeFrame ≠ some f → s.dev.tim.state ≠ .free → s.dev.tim.state ≠ .acquire →
        Does (.syncInEdge falling) s (fun e => e.clk = s.dev.clk ∧ e.tim.edgeFrame = some f ∧ e.tim.edgesMissed = 0 ∧
          e.tim.off16 = refOffset s.dev (RP.plus s.dev.clk.raster (RP.start f) (-off)) * 65536))))

/-- References lost (R52, R53, R70, R74, R75): a direction lost of a pair that carries time is reported; without TIME
frames a node in TRACK, LOCKED or REFUSED goes to HOLDOVER at its mean rate of the last second and one in ACQUIRE to
FREE; a head's announce timeout does the same where no master is heard on the other port, which takes over otherwise
(R50), and so does its third missing edge; LTC and word clock lost are reported. References found (R50, R52, R53,
R55): an announce of the domain, on a port that runs PTP, joins the masters heard; the best of them gives grandmaster
and port, IG0 before IG1 where one announce came on both, and takes a head from FREE to ACQUIRE; a change of
grandmaster is reported; an LTC frame is kept where LTC is enabled; a word-clock edge gives rate and phase. Where the
rules leave room it follows the model's log entries 108, 109, 176. It says where these complete: timeDirectionLost,
timeHoldover, ptpAnnounceTimeout, syncEdgeMissing, ltcLost, wclkLost, ptpAnnounce, ltcFrameDecoded, wclkInEdge. -/
def Obligations.ReferencesLostAndFound : Prop :=
  ((∀ (pair : Fin 4) (dir : Fin 2) (s : State) (x y : DirTime), x = dirOf s.dev pair.val dir.val → y = dirOf s.dev pair.val (1 - dir.val) →
    (s.dev.isHead = false → s.dev.tim.dirs.length = 8 → x.lost = false → (x.seen = true ∨ y.seen = true ∨ y.lost = true) →
      Does (.timeDirectionLost pair dir) s (fun e => (dirOf e pair.val dir.val).seen = false ∧
        (dirOf e pair.val dir.val).lost = true ∧ SameBut (.tim :: reporting) s.dev e)) ∧
    (s.dev.isHead = true ∨ x.lost = true → Does (.timeDirectionLost pair dir) s (fun e => e = s.dev))) ∧
  (∀ s : State, s.dev.isHead = false → s.dev.tim.state = .track ∨ s.dev.tim.state = .locked ∨ s.dev.tim.state = .refused →
    Does .timeHoldover s (fun e => e.tim.state = .holdover ∧ e.tim.rate = meanRate s.dev ∧ (∀ x ∈ e.tim.dirs, x.seen = false) ∧
      SameBut (.tim :: reporting) s.dev e)) ∧
  (∀ s : State, s.dev.isHead = false → s.dev.tim.state = .acquire → Does .timeHoldover s (fun e => e.tim.state = .free)) ∧
  (∀ (s : State) (best : Master), measures s.dev .ptp = true → (∃ m ∈ s.dev.tim.masters, m.port = s.dev.tim.ptpPort) →
    bestMaster (s.dev.tim.masters.filter (fun m => m.port != s.dev.tim.ptpPort)) = some best →
    Does .ptpAnnounceTimeout s (fun e => e.tim.masters = s.dev.tim.masters.filter (fun m => m.port != s.dev.tim.ptpPort) ∧
      e.tim.gm = some best.ann.gm ∧ e.tim.ptpPort = best.port ∧ e.tim.state = s.dev.tim.state ∧ e.clk = s.dev.clk)) ∧
  (∀ s : State, measures s.dev .ptp = true → (∀ m ∈ s.dev.tim.masters, m.port = s.dev.tim.ptpPort) →
    (s.dev.tim.state = .locked → Does .ptpAnnounceTimeout s (fun e => e.tim.state = .holdover ∧ e.tim.rate = meanRate s.dev ∧
      e.tim.masters = [] ∧ e.tim.gm = s.dev.tim.gm)) ∧
    (s.dev.tim.state = .acquire → Does .ptpAnnounceTimeout s (fun e => e.tim.state = .free ∧ e.tim.masters = [] ∧
      e.tim.gm = s.dev.tim.gm))) ∧
  (∀ s : State, measures s.dev .sync = true →
    (s.dev.tim.edgesMissed ≠ 2 → Does .syncEdgeMissing s (fun e => e.tim = { s.dev.tim with edgesMissed := s.dev.tim.edgesMissed + 1 } ∧
      SameBut [.tim] s.dev e)) ∧
    (s.dev.tim.edgesMissed = 2 → s.dev.tim.state = .locked → Does .syncEdgeMissing s (fun e => e.tim.state = .holdover))) ∧
  (∀ s : State, s.dev.isHead = true → s.dev.tim.ltc.isSome = true →
    Does .ltcLost s (fun e => e.tim = { s.dev.tim with ltc := none, label := 0xFFFFFFFF } ∧ Noticed s.dev e 0x010B [])) ∧
  (∀ s : State, s.dev.isHead = true → s.dev.tim.wclkLost = false →
    Does .wclkLost s (fun e => e.tim = { s.dev.tim with wclkHz := 0, wclkPhase := 0, wclkLost := true, wclkSeen := false } ∧
      Noticed s.dev e 0x010C []))) ∧
  ((∀ (rx : IngRx) (a : Announce) (s : State) (d : Device), (ingestIn rx s.dev).1 = true → d = (ingestIn rx s.dev).2 →
    measures d .ptp = true → hasBit (d.field 0x301C 1 0) rx.port.val = true → d.pwr.state ≠ .standby →
    (a.domain ≠ ptpDomain d → Does (.ptpAnnounce rx a) s (fun e => e = keepClk s.dev d)) ∧
    (a.domain = ptpDomain d → ∀ (ms : List Master) (best : Master),
      ms = d.tim.masters.filter (fun m => !(m.port == rx.port.val && m.ann.sender == a.sender)) ++ [{ port := rx.port.val, ann := a }] →
      bestMaster ms = some best →
      Does (.ptpAnnounce rx a) s (fun e => e.tim.masters = ms ∧ e.tim.gm = some best.ann.gm ∧ e.tim.ptpPort = best.port ∧
        (d.tim.state = .free → e.tim.state = .acquire) ∧ (d.tim.state ≠ .free → e.tim.state = d.tim.state) ∧
        (∀ o, d.tim.gm = some o → o ≠ best.ann.gm → Noticed d e 0x010A (leN 8 o.toNat ++ leN 8 best.ann.gm.toNat)) ∧
        (d.tim.gm = none → e.notes = d.notes) ∧ SameBut (.clk :: .tim :: reporting) d e ∧ e.clk = s.dev.clk))) ∧
  (∀ (a : Announce) (ms : List Master), (∀ m ∈ ms, m.ann = a ∧ m.port = 1) → ms ≠ [] →
    (bestMaster (ms ++ [{ port := 0, ann := a }])).map Master.port = some 0) ∧
  (∀ (l : LtcFrame) (s : State), s.dev.isHead = true → s.dev.field 0x302C 0 0 = 1 →
    Does (.ltcFrameDecoded l) s (fun e => e.tim = { s.dev.tim with ltc := some l } ∧ SameBut [.tim] s.dev e)) ∧
  (∀ (hz : Nat) (s : State), s.dev.isHead = true →
    Does (.wclkInEdge hz) s (fun e => e.tim.wclkHz = hz ∧ e.tim.wclkLost = false ∧
      (s.dev.tim.wclkLost = true → e.tim.wclkPhase = s.dev.clk.rp.inFrame) ∧ SameBut [.tim] s.dev e)))

/-- Opcodes 0x01 to 0x03 (R77, R78), each at the first frame boundary at or after its due RP: TIME_STEP_AUTHORISE in
REFUSED makes the step of R60, forward at once, or backward after a hold that BACKWARD_STEP_RESUME ends, and completes
OK; on a ring whose partner has not confirmed it keeps its place and is tried again at the next boundary (R62); not in
REFUSED it completes NOT_APPLICABLE, and beyond its limit STEP_TOO_LARGE. TIME_SET_THRESHOLD takes a threshold of 100
to 1,000,000 ns, which its register then reads (R535), and refuses any other; TIME_QUERY answers with state, path,
offset, rate and RP. Where the rules leave room it follows the model's log entries 16, 18. It says where these
complete: timeStepAuthorise, backwardStepResume, timeSetThreshold, timeQuery. -/
def Obligations.TimeOpcodes : Prop :=
  (∀ op due, op = 1 ∨ op = 2 ∨ op = 3 → alignedPoint (classOf op) due =
    RP.start (if due.line = 0 ∧ due.sub = 0 then due.frame else due.frame + 1)) ∧
  ∀ (c : Cmd) (s : State),
    (s.dev.tim.state ≠ .refused → Does (.timeStepAuthorise c) s (fun e => Completed s.dev e 1 c 6 none [] ∧ e.clk = s.dev.clk ∧
      e.tim.state = s.dev.tim.state)) ∧
    (s.dev.tim.state = .refused → 0 < opN c 0 4 → opN c 0 4 * 65536 < s.dev.tim.off16.natAbs →
      Does (.timeStepAuthorise c) s (fun e => Completed s.dev e 1 c 9 none [] ∧ e.clk = s.dev.clk ∧ e.tim.state = .refused)) ∧
    (s.dev.tim.state = .refused → (opN c 0 4 = 0 ∨ s.dev.tim.off16.natAbs ≤ opN c 0 4 * 65536) →
      (stepNeedsPartner s.dev = false ∨ stepConfirmed s.dev (dueRp c) = true →
        (0 ≤ s.dev.tim.off16 → Does (.timeStepAuthorise c) s (fun e => e.tim.state = .locked ∧
          e.clk = s.dev.clk.shift s.dev.tim.off16 ∧ Reported e 1 c s.dev.clk.rp [])) ∧
        (s.dev.tim.off16 < 0 → Does (.timeStepAuthorise c) s (fun e => e.tim.stepCmd = some c ∧
          e.clk = s.dev.clk.held (some (s.dev.tim.off16 / 65536).natAbs) ∧ e.tim.state = .refused ∧ SameBut [.clk, .tim] s.dev e))) ∧
      (stepNeedsPartner s.dev = true → stepConfirmed s.dev (dueRp c) = false → Does (.timeStepAuthorise c) s (fun e =>
        e.sched.entries = s.dev.sched.entries ++ [{ op := 1, cmd := c, adm := s.dev.sched.adm,
                                                         point := RP.start (s.dev.clk.rp.frame + 1), due := dueRp c, judged := true }] ∧
        SameBut (.sched :: reporting) s.dev e))) ∧
    (∀ n, s.dev.clk.hold = some n → Does .backwardStepResume s (fun e => e.tim.state = .locked ∧ e.clk = s.dev.clk.held none ∧
      ∀ x, s.dev.tim.stepCmd = some x → Reported e 1 x s.dev.clk.rp [])) ∧
    (s.dev.clk.hold = none → Does .backwardStepResume s (fun e => e = s.dev)) ∧
    (100 ≤ opN c 0 4 → opN c 0 4 ≤ 1000000 → Does (.timeSetThreshold c) s (fun e =>
      e.tim = { s.dev.tim with threshold := opN c 0 4 } ∧ e.regs = (s.dev.setWord 0x3010 (opN c 0 4)).regs ∧
      Finished s.dev e 2 c (boundaryRp s.dev) [] ∧ SameBut (.tim :: .regs :: .comps :: reporting) s.dev e)) ∧
    (opN c 0 4 < 100 ∨ 1000000 < opN c 0 4 → Does (.timeSetThreshold c) s (fun e => Completed s.dev e 2 c 4 none [] ∧
      SameBut (.comps :: reporting) s.dev e)) ∧
    Does (.timeQuery c) s (fun e => Finished s.dev e 3 c (boundaryRp s.dev) (leN 1 (timeCode s.dev.tim.state) ++
      leN 1 s.dev.tim.path ++ zeros 2 ++ leN 4 (unsig 32 (sat31 s.dev.tim.offsetNs)) ++ leN 4 (unsig 32 s.dev.tim.rate) ++
      leN 4 s.dev.clk.rp.frame.toNat ++ leN 4 (65536 * s.dev.clk.rp.line + s.dev.clk.rp.sub)) ∧
      SameBut (.comps :: reporting) s.dev e)

/-! ### Scheduling by raster position -/

/-- Opcodes 0x04 and 0x05 (R104, R105), with NOP (R398). SCHED_CANCEL is EXACT: every pending command bearing the tag,
wherever it waits, leaves and completes CANCELLED, but for one whose commit point falls in the same RAST cycle; the
command completes OK with their number, or NOT_PENDING where there is none. SHUTTER_SET is BOUNDARY: it sets one
window, or completes INVALID_OPERAND for a field out of the range of R100, with the window unchanged. It says where
these complete: schedCancel, nop, shutterSet. -/
def Obligations.SchedulerOpcodes : Prop :=
  (classOf 0x00 = .exact ∧ classOf 0x04 = .exact ∧ classOf 0x05 = .boundary) ∧
  (∀ (c : Cmd) (s : State) (tag : BitVec 32) (hit : Entry → Bool) (es : List Entry) (keys : List HeldKey) (powers : List Cmd),
    tag = BitVec.ofNat 32 (opN c 0 4) → s.dev.topo.load = none →
    hit = (fun x => (x.cmd.tag == tag && x.cmd.position != c.position) && !(x.judged && inCycle s.dev (entryCommit s.dev x))) →
    es = s.dev.sched.entries.filter hit → keys = s.dev.sec.heldKeys.filter (heldIs s.dev (cancellable tag c.position)) →
    powers = s.dev.pwr.queued.filter (powerIs s.dev (cancellable tag c.position)) →
    (es = [] → keys = [] → powers = [] →
      Does (.schedCancel c) s (fun e => e.sched.entries = s.dev.sched.entries ∧ Completed s.dev e 4 c 7 none [])) ∧
    (es ≠ [] ∨ keys ≠ [] ∨ powers ≠ [] →
      Does (.schedCancel c) s (fun e => e.sched.entries = s.dev.sched.entries.filter (fun x => !(hit x)) ∧
        e.sec.heldKeys = s.dev.sec.heldKeys.filter (fun k => !(heldIs s.dev (cancellable tag c.position) k)) ∧
        e.pwr.queued = s.dev.pwr.queued.filter (fun x => !(powerIs s.dev (cancellable tag c.position) x)) ∧
        ∃ d, Finished d e 4 c s.dev.clk.rp (leN 2 (es.length + keys.length + powers.length)) ∧
          d.comps = s.dev.comps ++
            ((keys.filterMap (fun k => k.cmd)).map (fun x => ((0x80 : BitVec 8), x)) ++ powers.map (fun x => ((0x88 : BitVec 8), x)) ++
              es.map (fun x => (x.op, x.cmd))).map (fun x => { opcode := x.1, status := 3, tag := x.2.tag, effect := none, result := [],
                                                                  seqWord := x.2.seqWord, position := x.2.position })))) ∧
  (∀ (c : Cmd) (s : State) (l : MapLoad), s.dev.topo.load = some l → l.cmd.tag = BitVec.ofNat 32 (opN c 0 4) →
    l.cmd.position ≠ c.position → l.sent = false →
    Does (.schedCancel c) s (fun e => e.topo.load = none ∧ ∃ d, Completed s.dev d 0x1F l.cmd 3 none [] ∧
      d.comps.isPrefixOf e.comps = true)) ∧
  (∀ (c : Cmd) (s : State),
    Does (.nop c) s (fun e => Finished s.dev e 0 c s.dev.clk.rp [] ∧ SameBut (.comps :: reporting) s.dev e) ∧
    (opB c 0 ≤ 3 → 1 ≤ opB c 2 → opB c 2 ≤ 16 → opB c 3 < opB c 2 → opN c 4 4 < s.dev.clk.raster.frameSub →
      opN c 8 4 < s.dev.clk.raster.frameSub →
      Does (.shutterSet c) s (fun e => Finished s.dev e 5 c (boundaryRp s.dev) [] ∧
        (∀ x, s.dev.sched.shutters[opB c 0]? = some x → e.sched.shutters = s.dev.sched.shutters.set (opB c 0)
          { x with enabled := hasBit (opB c 1) 0, divisor := opB c 2, phase := opB c 3, openAt := opN c 4 4, closeAt := opN c 8 4 }) ∧
        e.sched.entries = s.dev.sched.entries ∧ SameBut (.sched :: .comps :: reporting) s.dev e)) ∧
    (3 < opB c 0 ∨ opB c 2 < 1 ∨ 16 < opB c 2 ∨ opB c 2 ≤ opB c 3 ∨ s.dev.clk.raster.frameSub ≤ opN c 4 4 ∨
      s.dev.clk.raster.frameSub ≤ opN c 8 4 →
      Does (.shutterSet c) s (fun e => Completed s.dev e 5 c 4 none [] ∧ SameBut (.comps :: reporting) s.dev e)))

/-- The rules of admission (R80 to R88, R397, R398, R577), for a descriptor at the fetch position whose opcode has no
admission rule of its own. Where the rules leave room it follows the model's log entries 13, 24, 64. It says where
these complete: descriptorFetch. -/
def Obligations.Admission : Prop :=
  ∀ (b : List Byte) (host : HostRead) (s : State) (op : Nat) (c : Cmd), op = le b 0 1 →
    c = descriptor b (s.dev.hif.seqWord.getD 0) host → fetches s.dev = true → c.position = s.dev.hif.f →
    (opListed op = false ∨ roleServes (fetched s.dev) op c = false →
      Does (.descriptorFetch b false host) s (fun e => Completed s.dev e op c 5 none [] ∧ e.hif.f = s.dev.hif.f + 1 ∧
        e.sched.entries = s.dev.sched.entries)) ∧
    (opListed op = true → roleServes (fetched s.dev) op c = true → addressBad op c = true →
      Does (.descriptorFetch b false host) s (fun e => Completed s.dev e op c 4 none (if reasoned op then [1] else []) ∧
        e.hif.f = s.dev.hif.f + 1 ∧ e.sched.entries = s.dev.sched.entries)) ∧
    (opListed op = true → roleServes (fetched s.dev) op c = true → addressBad op c = false → host = .busError →
      op ∉ [0x1F, 0x33] →
      Does (.descriptorFetch b false host) s (fun e => Completed s.dev e op c 0x0A none [] ∧ e.hif.f = s.dev.hif.f + 1 ∧
        e.sched.entries = s.dev.sched.entries)) ∧
    (opListed op = true → roleServes (fetched s.dev) op c = true → addressBad op c = false → host ≠ .busError →
      (op ∈ [0x70, 0x71, 0x72] ∧ s.dev.pwr.state ≠ .run) ∨ (op = 0x88 ∧ s.dev.pwr.state = .startUp) →
      Does (.descriptorFetch b false host) s (fun e => Completed s.dev e op c 6 none [] ∧ e.hif.f = s.dev.hif.f + 1 ∧
        e.sched.entries = s.dev.sched.entries)) ∧
    (opListed op = true → roleServes (fetched s.dev) op c = true → addressBad op c = false → host ≠ .busError →
      op ∉ [0x1F, 0x33, 0x70, 0x71, 0x72, 0x81, 0x82, 0x88] →
      (s.dev.tim.firstLock = false →
        Does (.descriptorFetch b false host) s (fun e => e.comps = s.dev.comps ∧ e.sched.entries = s.dev.sched.entries ++
          [{ op := BitVec.ofNat 8 op, cmd := c, adm := s.dev.sched.adm, point := dueRp c, due := dueRp c, judged := false }])) ∧
      (s.dev.tim.firstLock = true → isNow c = true →
        Does (.descriptorFetch b false host) s (fun e => e.comps = s.dev.comps ∧ e.sched.entries = s.dev.sched.entries ++
          [{ op := BitVec.ofNat 8 op, cmd := c, adm := s.dev.sched.adm, point := nextPoint s.dev (classOf op),
             due := nextPoint s.dev (classOf op), judged := true }])) ∧
      (s.dev.tim.firstLock = true → isNow c = false → dueGood s.dev.clk.raster c = false →
        Does (.descriptorFetch b false host) s (fun e => Completed s.dev e op c 4 none [] ∧
          e.sched.entries = s.dev.sched.entries)) ∧
      (s.dev.tim.firstLock = true → isNow c = false → dueGood s.dev.clk.raster c = true →
        commitPassed s.dev (classOf op) (dueRp c) = true → discardLate c = true →
        Does (.descriptorFetch b false host) s (fun e => Completed s.dev e op c 2 none [] ∧
          e.sched.entries = s.dev.sched.entries)) ∧
      (s.dev.tim.firstLock = true → isNow c = false → dueGood s.dev.clk.raster c = true →
        commitPassed s.dev (classOf op) (dueRp c) = true → discardLate c = false →
        Does (.descriptorFetch b false host) s (fun e => e.comps = s.dev.comps ∧ e.sched.entries = s.dev.sched.entries ++
          [{ op := BitVec.ofNat 8 op, cmd := { c with late := true }, adm := s.dev.sched.adm,
             point := nextPoint s.dev (classOf op), due := dueRp c, judged := true }])) ∧
      (s.dev.tim.firstLock = true → isNow c = false → dueGood s.dev.clk.raster c = true →
        commitPassed s.dev (classOf op) (dueRp c) = false → tooEarly s.dev (alignedPoint (classOf op) (dueRp c)) = true →
        Does (.descriptorFetch b false host) s (fun e => Completed s.dev e op c 8 none [] ∧
          e.sched.entries = s.dev.sched.entries)) ∧
      (s.dev.tim.firstLock = true → isNow c = false → dueGood s.dev.clk.raster c = true →
        commitPassed s.dev (classOf op) (dueRp c) = false → tooEarly s.dev (alignedPoint (classOf op) (dueRp c)) = false →
        Does (.descriptorFetch b false host) s (fun e => e.comps = s.dev.comps ∧ e.sched.entries = s.dev.sched.entries ++
          [{ op := BitVec.ofNat 8 op, cmd := c, adm := s.dev.sched.adm, point := alignedPoint (classOf op) (dueRp c),
             due := dueRp c, judged := true }])))

/-- A descriptor whose position word is not the fetch position is read once more, a node asking for it by a REQUEST
(log entry 100, the model's choice), then completes STALE (R397); one read with a bus error completes nothing. It says
where these complete: descriptorFetch. -/
def Obligations.StaleDescriptors : Prop :=
  ∀ (b : List Byte) (host : HostRead) (s : State) (c : Cmd), c = descriptor b (s.dev.hif.seqWord.getD 0) host →
    fetches s.dev = true →
    (c.position ≠ s.dev.hif.f → s.dev.hif.stale ≠ some s.dev.hif.f → s.dev.isHead = true →
      Does (.descriptorFetch b false host) s (fun e => e.hif = { s.dev.hif with stale := some s.dev.hif.f } ∧ SameBut [.hif] s.dev e)) ∧
    (c.position ≠ s.dev.hif.f → s.dev.hif.stale ≠ some s.dev.hif.f → s.dev.isHead = false →
      Does (.descriptorFetch b false host) s (fun e => e.hif.stale = some s.dev.hif.f ∧ e.hif.f = s.dev.hif.f ∧
        e.hif.reqPos = s.dev.hif.f ∧ SameBut [.link, .flows, .hif, .sent] s.dev e)) ∧
    (c.position ≠ s.dev.hif.f → s.dev.hif.stale = some s.dev.hif.f →
      Does (.descriptorFetch b false host) s (fun e => e.hif.f = s.dev.hif.f + 1 ∧
        Completed s.dev e (le b 0 1) { c with position := s.dev.hif.f } 0x0C none [])) ∧
    Does (.descriptorFetch b true host) s (fun e => e.comps = s.dev.comps ∧ e.hif.f = s.dev.hif.f ∧
      e.sched = s.dev.sched)

/-- ALIGNED_POINT_REACHED runs the first command in the order of R96: the RP reaches its point (log entry 2, the
model's choice), it leaves the schedule, and it takes effect there, as a NOP shows (R88, R96); a TIME_STEP_AUTHORISE
whose partner has not confirmed it waits in its place for the next boundary (R62); while a backward step holds the RP
nothing comes due (R98). It says where these complete: alignedPointReached. -/
def Obligations.AlignedPointRunsFirst : Prop :=
  ∀ (s : State) (x : Entry),
    (nextEntry s.dev = some x → s.dev.clk.hold = none → x.op = 0 → mapFirst s.dev x = false →
      Does .alignedPointReached s (fun e => e.clk = s.dev.clk.reach x.point ∧
        e.sched.entries = s.dev.sched.entries.filter (fun y => y.adm != x.adm) ∧
        Finished s.dev e 0 x.cmd (s.dev.clk.reach x.point).rp [])) ∧
    (nextEntry s.dev = some x → s.dev.clk.hold = none → x.op = 1 → mapFirst s.dev x = false →
      stepHolds x.cmd { s.dev with clk := s.dev.clk.reach x.point } = true →
      Does .alignedPointReached s (fun e => e.clk = s.dev.clk.reach x.point ∧ e.comps = s.dev.comps ∧
        e.sched.entries = s.dev.sched.entries.map (fun y =>
          if y.adm = x.adm then { y with point := RP.start ((s.dev.clk.reach x.point).rp.frame + 1) } else y))) ∧
    (nextEntry s.dev = none ∨ s.dev.clk.hold.isSome = true → Does .alignedPointReached s (fun e => e = s.dev))

/-- The instants of a frame (R89, R92, R93, R99, R211): where no command is due (R96), the boundary, the cut-off, the
deadline and each sub-refresh start move the RP to their instant (log entry 2, the model's choice) and are worked
once; nothing is worked while the raster does not count. COMPOSITION_DONE before the deadline releases the segments of
the graph in order (R240, R241, R245): with no signature mismatch to decide the graph ends, and its display frame is
the last composed; with one, every segment before the first that awaits the decision is released, and no later one.
With no graph, or one already computed, it changes nothing. It says where these complete: frameBoundary,
cutoffLineReached, compositionDeadline, subrefreshStart, compositionDone. -/
def Obligations.FrameInstants : Prop :=
  (∀ s : State,
    (counting s.dev = true → nextEntry s.dev = none →
      (s.dev.pwr.queued = [] → s.dev.pwr.runNext = none → s.dev.pwr.wdQueued = false →
        Does .frameBoundary s (fun e => e.clk = s.dev.clk.reach (RP.start (dueBoundary s.dev)) ∧
          e.tim.boundary = some (dueBoundary s.dev) ∧ e.tim.owed = none ∧ e.pwr.state = s.dev.pwr.state)) ∧
      Does .cutoffLineReached s (fun e => e.tim.cutoff = some (cutoffFrame s.dev) ∧
        e.clk = s.dev.clk.reach { frame := cutoffFrame s.dev - 1, line := cutLine s.dev, sub := 0 }) ∧
      Does .compositionDeadline s (fun e => e.tim.deadline = some (deadlineFrame s.dev) ∧
        e.clk = s.dev.clk.reach { frame := deadlineFrame s.dev - 1, line := s.dev.clk.raster.lines - 1, sub := 0 }) ∧
      (s.dev.isNode = true → ∀ f k p, nextSub s.dev = some (f, k, p) →
        Does .subrefreshStart s (fun e => e.clk = s.dev.clk.reach p ∧ e.out.subFrame = f ∧ e.out.sub = k))) ∧
    (counting s.dev = false →
      Does .frameBoundary s (fun e => e = s.dev) ∧ Does .cutoffLineReached s (fun e => e = s.dev) ∧
      Does .compositionDeadline s (fun e => e = s.dev) ∧ Does .subrefreshStart s (fun e => e = s.dev))) ∧
  (∀ s : State,
    (∀ g, s.dev.pxl.graph = some g →
      s.dev.clk.rp.passed { frame := g.frame - 1, line := s.dev.clk.raster.lines - 1, sub := 0 } = false →
      (g.computed = false → (∀ a ∈ s.dev.red.arbs, a.frame ≠ g.frame) →
        Does .compositionDone s (fun e => e.pxl.graph = none ∧ e.pxl.last = some g.frame ∧ e.pxl.layers = s.dev.pxl.layers)) ∧
      (g.computed = false → g.released ≤ heldAt s.dev g → heldAt s.dev g < segCount g.record →
        Does .compositionDone s (fun e => e.pxl.last = s.dev.pxl.last ∧
          ∃ x, e.pxl.graph = some x ∧ x.frame = g.frame ∧ x.computed = true ∧ x.released = heldAt s.dev g)) ∧
      (g.computed = true → Does .compositionDone s (fun e => e = s.dev))) ∧
    (s.dev.pxl.graph = none → Does .compositionDone s (fun e => e = s.dev)))

/-- Shutter windows open and close at their points, where no command is due (R96, R100, R101), with the action of
OUT_SHUTTER_CFG kept from the opening (R335); a window set anew while open keeps the close point it has; HOLD and the
row scan run again while a backward step holds the RP, and the sub-refresh counts as held once (R334). Where the rules
leave room it follows the model's log entries 16, 52. It says where these complete: shutterEdge, heldRepeatStart. -/
def Obligations.ShuttersAndHolds : Prop :=
  (∀ (w : Fin 4) (s : State) (x : Shutter), s.dev.clk.hold = none → s.dev.isNode = true →
    nextEntry s.dev = none → s.dev.sched.shutters[w.val]? = some x →
    (x.enabled = true → x.close = none → Does (.shutterEdge w false) s (fun e => e.clk = s.dev.clk.reach (openPoint s.dev x) ∧
      e.sched.shutters = s.dev.sched.shutters.set w.val { x with
        isOpen := true, close := some (closePoint s.dev.clk.raster x (openPoint s.dev x).frame), later := [],
        action := shutterAction s.dev w.val } ∧ SameBut [.clk, .sched] s.dev e)) ∧
    (∀ p, x.enabled = true → x.close = some p → x.later = [] →
      p.before (closePoint s.dev.clk.raster x (openPoint s.dev x).frame) = true →
      Does (.shutterEdge w false) s (fun e => e.clk = s.dev.clk.reach (openPoint s.dev x) ∧
        e.sched.shutters = s.dev.sched.shutters.set w.val { x with
          isOpen := true, later := [closePoint s.dev.clk.raster x (openPoint s.dev x).frame],
          action := shutterAction s.dev w.val } ∧ SameBut [.clk, .sched] s.dev e)) ∧
    (∀ p, x.isOpen = true → x.close = some p →
      Does (.shutterEdge w true) s (fun e => e.clk = s.dev.clk.reach p ∧
        e.sched.shutters = s.dev.sched.shutters.set w.val
          { x with isOpen := !x.later.isEmpty, close := x.later.head?, later := x.later.tail } ∧
        SameBut [.clk, .sched] s.dev e)) ∧
    (x.enabled = false → Does (.shutterEdge w false) s (fun e => e = s.dev))) ∧
  (∀ s : State, s.dev.out.running = true → s.dev.clk.hold.isSome = true →
    Does .heldRepeatStart s (fun e => e.out.scanning = true ∧ e.out.heldNow = true ∧
      ((∀ x ∈ s.dev.out.sections, x.list.head? ≠ some 0) → e.out.sections = s.dev.out.orec.enabled.map (fun g =>
        { group := g, list := [4], start := s.dev.clk.rp, prog := s.dev.out.programs.getD g {} })) ∧
      (s.dev.out.heldNow = false → e.out.heldN = s.dev.out.heldN + 1) ∧
      (s.dev.out.heldNow = true → e.out.heldN = s.dev.out.heldN) ∧ SameBut [.out, .regs, .tim] s.dev e))
/-! ### Ports and port queues -/

/-- A link port comes up once it is enabled and its RS-FEC mode agrees (R149, R150), and goes down with what it held;
an ingest port comes up where no lane's skew is beyond 180 ns (R171); neither does while a SerDes slice of it is lost
(R384). PORT_LINK_CHANGE is reported, on a node as a fault report when the port goes down (R179, R412). A node takes
its partner's RS-FEC mode for both ports of the pair, and a port whose partner has another mode is reported once as a
fault report. It says where these complete: portUp, portDown, fecModeDetected. -/
def Obligations.PortsUpAndDown : Prop :=
  ∀ s : State, s.dev.link.length = 8 → s.dev.ing.length = 2 →
    (∀ (r : PortRise) (p : Fin 10), p = r.port → p.val < 8 → (s.dev.port p.val).enabled = true → (s.dev.port p.val).up = false →
      (s.dev.port p.val).mismatch = false → sliceLost s.dev p.val = false →
      Does (.portUp r) s (fun e => (e.port p.val).up = true ∧ Noticed s.dev e 0x1001 (leN 1 p.val ++ leN 1 1 ++ leN 1 0) ∧
        (e.port p.val).fec = (if s.dev.isHead then headFec s.dev p.val else (s.dev.port p.val).fec) ∧
        (∀ q, q ≠ p.val → (e.port q).up = (s.dev.port q).up) ∧ SameBut reporting s.dev e)) ∧
    (∀ (r : PortRise) (p : Fin 10), p = r.port → p.val < 8 → (s.dev.port p.val).enabled = false ∨ (s.dev.port p.val).mismatch = true ∨
      sliceLost s.dev p.val = true → Does (.portUp r) s (fun e => e = s.dev)) ∧
    (∀ (r : PortRise) (p : Fin 10), p = r.port → 8 ≤ p.val → (s.dev.ingPort (p.val - 8)).enabled = false ∨ sliceLost s.dev p.val = true →
      Does (.portUp r) s (fun e => (e.ingPort (p.val - 8)).up = (s.dev.ingPort (p.val - 8)).up ∧ SameBut [.ing] s.dev e)) ∧
    (∀ (r : PortRise) (p : Fin 10), p = r.port → 8 ≤ p.val → (s.dev.ingPort (p.val - 8)).enabled = true →
      (s.dev.ingPort (p.val - 8)).up = false →
      ((∀ k ∈ r.skews, k ≤ 180000) → sliceLost s.dev p.val = false → Does (.portUp r) s (fun e => (e.ingPort (p.val - 8)).up = true ∧
        NoticedFirst s.dev e 0x1001 (leN 1 p.val ++ leN 1 1 ++ leN 1 0) ∧ SameBut (.ing :: reporting) s.dev e)) ∧
      ((∃ k ∈ r.skews, 180000 < k) → Does (.portUp r) s (fun e => (e.ingPort (p.val - 8)).up = false ∧ SameBut [.ing] s.dev e))) ∧
    (∀ (p : Fin 10) (cause : Nat), p.val < 8 → (s.dev.port p.val).up = true →
      Does (.portDown p cause) s (fun e => (e.port p.val).up = false ∧ (e.port p.val).lpiTx = false ∧
        (e.port p.val).fecSeen = false ∧ (e.port p.val).mismatch = false ∧
        (s.dev.isHead = true → (e.port p.val).held = [] ∧ Noticed s.dev e 0x1001 (leN 1 p.val ++ leN 1 0 ++ leN 1 cause)) ∧
        (s.dev.isHead = false → (∀ r ∈ s.dev.hif.repWins, r.kind ≠ 3) → (e.port p.val).held = [] ∧
          e.hif.reports = s.dev.hif.reports ++ [{ kind := 3, subject := (s.dev.port p.val).neighbour, first := s.dev.clk.rp }]) ∧
        (∀ q, q ≠ p.val → (e.port q).up = (s.dev.port q).up) ∧ SameBut reporting s.dev e)) ∧
    (∀ (p : Fin 10) (cause : Nat), 8 ≤ p.val → (s.dev.ingPort (p.val - 8)).up = true → s.dev.isHead = true →
      s.dev.tim.masters = [] → s.dev.spare.deferred = [] →
      Does (.portDown p cause) s (fun e => (e.ingPort (p.val - 8)).up = false ∧ (e.ingPort (p.val - 8)).held = [] ∧
        Noticed s.dev e 0x1001 (leN 1 p.val ++ leN 1 0 ++ leN 1 cause) ∧ SameBut (.ing :: reporting) s.dev e)) ∧
    (∀ (p : Fin 8) (fec : Bool), s.dev.isHead = false → (s.dev.port p.val).enabled = true → (s.dev.port p.val).up = false →
      (((s.dev.port (otherPort p.val)).up = false ∧ (s.dev.port (otherPort p.val)).fecSeen = false) ∨
        (s.dev.port (otherPort p.val)).fec = fec →
        Does (.fecModeDetected p fec) s (fun e => (e.port p.val).fec = fec ∧ (e.port (otherPort p.val)).fec = fec ∧
          (e.port p.val).mismatch = false ∧ SameBut [.link] s.dev e)) ∧
      ((s.dev.port (otherPort p.val)).up = true → (s.dev.port (otherPort p.val)).fec ≠ fec →
        (s.dev.port p.val).mismatch = true →
        Does (.fecModeDetected p fec) s (fun e => (e.port p.val).mismatch = true ∧ SameBut [.link] s.dev e)) ∧
      ((s.dev.port (otherPort p.val)).up = true → (s.dev.port (otherPort p.val)).fec ≠ fec →
        (s.dev.port p.val).mismatch = false → s.dev.hif.repWins = [] →
        Does (.fecModeDetected p fec) s (fun e => (e.port p.val).mismatch = true ∧ e.hif.reports = s.dev.hif.reports ++
          [{ kind := 3, subject := (s.dev.port p.val).neighbour, first := s.dev.clk.rp }] ∧ SameBut [.link, .hif] s.dev e)))

/-- Energy-efficient Ethernet on a link port: an LLDPDU that the port queue takes gives the partner's wake time, which
resolves it where it is at most 20 µs (R164, R165); a port so resolved with nothing queued sleeps in QUIET, STANDBY or
START-UP (R163, R515), and on waking sends what it held, in order (R166). LLDPDUs go as the device's own frames, a
head's after its own insertion interval on the port (R144, R145); low-power idle received is counted (R167). A good
PAUSE frame to 01-80-C2-00-00-01 or to the port's own address, on an ingest port that is up, sets the pause (R160,
R161), a quantum of zero ends it, and when it ends the frames held leave in order, under the transmit SA that is
active then (R178). The frame itself passes the port's queue, whose parser makes nothing of it (R220); any other good
MAC control frame goes no further. Where the rules leave room it follows the model's log entries 31, 136. It says
where these complete: lldpReceived, lldpSend, eeeUnresolved, lpiEntry, lpiReceived, lpiWakeDone, pauseReceived,
pauseExpiry. -/
def Obligations.PortIdleAndPause : Prop :=
  (∀ (s : State) (p : Fin 8), s.dev.link.length = 8 →
    (∀ (bs : List Byte) (q : QueueUse) (f : RxFrame) (d : Device), f = lldpFrame p bs q → (s.dev.port p.val).up = true → wireCheck f = .good →
      isLldp f = true → f.bad = [] →
      queueWrite p.val (queueBytes f) f.read f.bad s.dev = { full := false, dev := d } →
      (eeeTlv (queueBytes f).length ((queueBytes f).drop 14) = none → Does (.lldpReceived p bs q) s (fun e => e = keepClk s.dev d)) ∧
      (∀ tx rx, eeeTlv (queueBytes f).length ((queueBytes f).drop 14) = some (tx, rx) →
        Does (.lldpReceived p bs q) s (fun e => (e.port p.val).partnerTw = some rx ∧ (e.port p.val).partnerTx = tx ∧
          (e.port p.val).eeeOk = decide (rx ≤ 20) ∧ SameBut (.ing :: reporting) s.dev e))) ∧
    Does (.lldpSend p) s (fun e => SameBut [.link, .sent] s.dev e ∧
      (s.dev.isHead = true → (s.dev.port p.val).up = true → (s.dev.port p.val).lpiTx = false →
        (s.dev.port p.val).quietTo = none → (s.dev.port p.val).backlog = [] →
        e.sent = s.dev.sent ++ [{ port := p.val, bytes := lldpdu s.dev p.val }] ∧ e.link = s.dev.link) ∧
      (s.dev.isHead = true → silent s.dev p.val = true → e.sent = s.dev.sent ∧
        (e.port p.val).backlog.map (fun w => w.frame) = (s.dev.port p.val).backlog.map (fun w => w.frame) ++
          [{ port := p.val, bytes := lldpdu s.dev p.val }])) ∧
    Does (.eeeUnresolved p) s (fun e => (e.port p.val).eeeOk = false ∧ (e.port p.val).partnerTw = none ∧
      ((s.dev.port p.val).eeeOk = true → Noticed s.dev e 0x1003 (leN 1 p.val ++ zeros 1 ++ leN 2 0)) ∧
      SameBut reporting s.dev e) ∧
    Does (.lpiEntry p) s (fun e => (e.port p.val).lpiTx = ((s.dev.port p.val).lpiTx || ((s.dev.port p.val).up &&
      (s.dev.port p.val).eeeOk && (s.dev.pwr.state == .quiet || s.dev.pwr.state == .standby || s.dev.pwr.state == .startUp) &&
      (s.dev.port p.val).backlog.isEmpty && (s.dev.port p.val).held.isEmpty)) ∧ SameBut [.link] s.dev e) ∧
    ((s.dev.port p.val).up = true →
      Does (.lpiReceived ⟨p.val, by omega⟩) s (fun e => e = countStat s.dev p.val 7 ∧ SameBut [.link] s.dev e)) ∧
    ((s.dev.port p.val).up = true → (∀ f ∈ (s.dev.port p.val).held, f.port = p.val) →
      Does (.lpiWakeDone p) s (fun e => (e.port p.val).lpiTx = false ∧ (e.port p.val).held = [] ∧
        e.sent = s.dev.sent ++ (s.dev.port p.val).held ∧ SameBut [.link, .sent] s.dev e))) ∧
  (∀ (s : State) (m : MacControl) (p : Nat) (d : Device), p = m.rx.port.val → (s.dev.ingPort p).up = true →
    m.rx.bytes.length + 4 = 64 → m.fcsOk = true → p < s.dev.ing.length → d = controlQueued m.rx (countIng p 4 s.dev) →
    (isPause s.dev m = (cut m.rx.bytes 12 2 == [0x88, 0x08] && be m.rx.bytes 14 2 == 1 &&
      (cut m.rx.bytes 0 6 == [0x01, 0x80, 0xC2, 0x00, 0x00, 0x01] || cut m.rx.bytes 0 6 == portMac s.dev p))) ∧
    (isPause s.dev m = true → be m.rx.bytes 16 2 ≠ 0 →
      Does (.pauseReceived m) s (fun e => (e.ingPort p).pause = be m.rx.bytes 16 2 ∧
        (e.ingPort p).held = (s.dev.ingPort p).held ∧ e.sent = d.sent ∧
        SameBut (.ing :: .regs :: .spare :: reporting) s.dev e)) ∧
    (macsecOn s.dev p = false →
      (isPause s.dev m = true → be m.rx.bytes 16 2 = 0 →
        Does (.pauseReceived m) s (fun e => (e.ingPort p).pause = 0 ∧ (e.ingPort p).held = [] ∧
          e.sent = d.sent ++ (s.dev.ingPort p).held.map (fun f => { port := p + 8, bytes := f.bytes ++ fcs f.bytes }) ∧
          SameBut (.ing :: .regs :: .spare :: reporting) s.dev e)) ∧
      Does (.pauseExpiry m.rx.port) s (fun e => (e.ingPort p).pause = 0 ∧ (e.ingPort p).held = [] ∧
        e.sent = s.dev.sent ++ (s.dev.ingPort p).held.map (fun f => { port := p + 8, bytes := f.bytes ++ fcs f.bytes }) ∧
        SameBut [.ing, .sent] s.dev e)) ∧
    (∀ (f : TxFrame) (sa : Sa), macsecOn s.dev p = true → (s.dev.ingPort p).held = [f] → (s.dev.ingPort p).txSa = some sa →
      1 ≤ sa.pn → sa.pn < 0xC0000000 →
      Does (.pauseExpiry m.rx.port) s (fun e => (e.ingPort p).held = [] ∧ (e.ingPort p).txSa = some { sa with pn := sa.pn + 1 } ∧
        e.sent = s.dev.sent ++ [{ port := p + 8, bytes := protectFrame sa f.bytes ++ fcs (protectFrame sa f.bytes) }] ∧
        SameBut [.ing, .sent] s.dev e)) ∧
    (isPause s.dev m = false → Does (.pauseReceived m) s (fun e => e = keepClk s.dev d)))

/-- A dead-letter marker stands for one run of dropped packets: it takes a word of its own at the gap once a place is
free, with the count and the RP of the first (R219, R226); reading it adds its count, or 1 where it is poisoned, to
the port's QDROP register and to the QUEUE_DROP notice of the second (R227, R578), which the close of the window
reports. Opcodes 0x10 to 0x12 (R156, R168, R176 to R178): PORT_THRESHOLD_SET sets the start threshold, a multiple of
256 from 512 to 9,216, and otherwise ends INVALID_OPERAND without effect; PORT_STATS_QUERY returns each port's classes
and clears them; MACSEC_SA_INSTALL puts a receive association in its AN's slot, a transmit association with ACTIVATE
in force, and one without it to wait. Where the rules leave room it follows the model's log entries 34, 35. It says
where these complete: queueMarkerWrite, queueMarkerRead, noticeWindowClose, portThresholdSet, portStatsQuery,
macsecSaInstall. -/
def Obligations.MarkersAndPortCommands : Prop :=
  ((∀ (p : Nat) (m : Marker), m.count < 2 ^ 32 → m.first.line < 2 ^ 13 → m.first.sub < 2 ^ 16 →
    markerOf (markerWord p m) = m ∧ (markerWord p m).mark = true ∧ (markerWord p m).fails = false) ∧
  ∀ (s : State) (p : Fin 10), s.dev.link.length = 8 → s.dev.ing.length = 2 →
    (∀ m, (queueOf s.dev p.val).gap = some m → (queueOf s.dev p.val).used < 608 →
      Does (.queueMarkerWrite p) s (fun e => (queueOf e p.val).gap = none ∧
        (queueOf e p.val).words = (queueOf s.dev p.val).words ++ [markerWord p.val m] ∧
        SameBut (.ing :: reporting) s.dev e)) ∧
    ((queueOf s.dev p.val).gap = none ∨ 608 ≤ (queueOf s.dev p.val).used →
      Does (.queueMarkerWrite p) s (fun e => e = s.dev)) ∧
    (∀ w r poison, (queueOf s.dev p.val).words.dropWhile (fun w => !w.mark) = w :: r →
      Does (.queueMarkerRead p poison) s (fun e => (queueOf e p.val).words = r ∧
        e.word (qdropReg p.val) = satAdd 0xFFFFFFFF (s.dev.word (qdropReg p.val)) (if poison then 1 else (markerOf w).count) ∧
        (s.dev.hif.wins = [] → ∃ x, e.hif.wins = [x] ∧ x.code = 0x1030 ∧ x.subject = p.val ∧
          x.count = satAdd 0xFFFFFFFF 0 (if poison then 1 else (markerOf w).count) ∧ x.tail = (markerOf w).first.bytes ∧ x.allOnes = poison))) ∧
    (∀ (code : BitVec 16) (subject : Nat) (w : RateWin), code ≠ 0x1030 ∨ s.dev.isHead = true →
      s.dev.hif.wins.find? (fun x => x.code == code && x.subject == subject) = some w →
      Does (.noticeWindowClose code subject) s (fun e => Noticed s.dev e code.toNat (windowBytes w) ∧
        e.hif.wins = s.dev.hif.wins.filter (fun x => !(x.code == code && x.subject == subject)) ∧
        SameBut reporting s.dev e))) ∧
  (∀ (s : State) (c : Cmd),
    (opB c 0 < s.dev.link.length → opB c 0 ≤ 7 → opN c 2 2 % 256 = 0 → 512 ≤ opN c 2 2 → opN c 2 2 ≤ 9216 →
      Does (.portThresholdSet c) s (fun e => (e.port (opB c 0)).thresh = opN c 2 2 ∧
        Finished s.dev e 0x10 c (boundaryRp s.dev) [] ∧ SameBut (.comps :: reporting) s.dev e)) ∧
    (7 < opB c 0 ∨ opN c 2 2 % 256 ≠ 0 ∨ opN c 2 2 < 512 ∨ 9216 < opN c 2 2 → Does (.portThresholdSet c) s (fun e => Completed s.dev e 0x10 c 4 none [] ∧
      SameBut (.comps :: reporting) s.dev e ∧ ∀ p, (e.port p).thresh = (s.dev.port p).thresh)) ∧
    Does (.portStatsQuery c) s (fun e => (∀ p, p < s.dev.link.length → (e.port p).stat = List.replicate 8 0) ∧
      (∀ p, p < s.dev.ing.length → (e.ingPort p).stat = List.replicate 8 0) ∧ SameBut (.ing :: .comps :: reporting) s.dev e ∧
      Finished s.dev e 0x11 c s.dev.clk.rp (s.dev.link.flatMap (fun l => leN 2 (statWord l.stat)) ++
        s.dev.ing.flatMap (fun l => leN 2 (if s.dev.isHead then statWord l.stat else 0)))) ∧
    (∀ b, s.dev.isHead = true → misaligned c = false → opB c 8 ≤ 1 → c.host = .data b → s.dev.ing.length = 2 →
      (hasBit (opB c 9) 0 = false → hasBit (opB c 9) 3 = false →
        Does (.macsecSaInstall c) s (fun e => Finished s.dev e 0x12 c (boundaryRp s.dev) [] ∧
          (∀ l, s.dev.ing[opB c 8]? = some l → e.ing[opB c 8]? = some { l with rxSa := setAt l.rxSa (bitsOf (opB c 9) 2 1) (some
            { sak := cut b 0 32, sci := BitVec.ofNat 64 (le b 0x20 8), pn := le b 0x28 4, an := bitsOf (opB c 9) 2 1, low := le b 0x28 4 }) }) ∧
          SameBut (.ing :: .comps :: reporting) s.dev e)) ∧
      (hasBit (opB c 9) 0 = true →
        (hasBit (opB c 9) 3 = true → (s.dev.ingPort (opB c 8)).txWait = none →
          Does (.macsecSaInstall c) s (fun e => Finished s.dev e 0x12 c (boundaryRp s.dev) [] ∧
            (e.ingPort (opB c 8)).txSa = some { sak := cut b 0 32, sci := BitVec.ofNat 64 (le b 0x20 8), pn := nearest 1 0xFFFFFFFF (le b 0x28 4), an := bitsOf (opB c 9) 2 1, low := 0 } ∧
            SameBut (.ing :: .comps :: reporting) s.dev e)) ∧
        (hasBit (opB c 9) 3 = false →
          Does (.macsecSaInstall c) s (fun e => Finished s.dev e 0x12 c (boundaryRp s.dev) [] ∧
            (e.ingPort (opB c 8)).txSa = (s.dev.ingPort (opB c 8)).txSa ∧
            (e.ingPort (opB c 8)).txWait = some { sak := cut b 0 32, sci := BitVec.ofNat 64 (le b 0x20 8), pn := nearest 1 0xFFFFFFFF (le b 0x28 4), an := bitsOf (opB c 9) 2 1, low := 0 } ∧
            SameBut (.ing :: .comps :: reporting) s.dev e)))) ∧
    (s.dev.isHead = true → misaligned c = true ∨ 1 < opB c 8 ∨ (hasBit (opB c 9) 3 = true ∧ hasBit (opB c 9) 0 = false) →
      Does (.macsecSaInstall c) s (fun e => Completed s.dev e 0x12 c 4 none [] ∧ e.ing = s.dev.ing)) ∧
    (s.dev.isHead = false → Does (.macsecSaInstall c) s (fun e => Completed s.dev e 0x12 c 5 none [] ∧ e.ing = s.dev.ing)))

/-- A transmit underrun ends the frame with a stomped FCS, drops the rest of it for that port, raises the port's start
threshold by 256 bytes up to 9,216, and is reported (R157); a broken frame counts as an FCS failure (R155); one of a
protocol the device does not know is counted as foreign, where the port queue has a place for it (R108, R225), and one
of a class it does not know is at most forwarded (R113). Own frames that have waited through 16 intervals are
reported, and those whose copy goes the other way leave (R146). Where the rules leave room it follows the model's log
entries 28, 30. It says where these complete: transmitUnderrun, rxBlockError, foreignFrame, reservedClassFrame,
insertBacklog. -/
def Obligations.FramesThatBreak : Prop :=
  (∀ (p : Fin 8) (c : CutFrame) (s : State), s.dev.link.length = 8 → s.dev.isHead = true → (s.dev.port p.val).up = true →
    (s.dev.port p.val).lpiTx = false → (s.dev.port p.val).thresh < 9216 →
    Does (.transmitUnderrun p c) s (fun e => (e.port p.val).thresh = (s.dev.port p.val).thresh + 256 ∧
      (e.port p.val).cutShort = some c.frame ∧
      Noticed s.dev e 0x1002 (leN 1 p.val ++ zeros 1 ++ leN 2 ((s.dev.port p.val).thresh + 256)) ∧
      e.sent = s.dev.sent ++ [{ port := p.val, bytes := c.sent ++ stompedFcs c.sent, stomped := true }] ∧
      SameBut reporting s.dev e)) ∧
  (∀ (p : Fin 8) (c : CutFrame) (s : State), s.dev.link.length = 8 → (s.dev.port p.val).up = true →
    (s.dev.port p.val).lpiTx = false → 9216 ≤ (s.dev.port p.val).thresh →
    Does (.transmitUnderrun p c) s (fun e => (e.port p.val).thresh = (s.dev.port p.val).thresh ∧
      (e.port p.val).cutShort = some c.frame ∧ e.notes = s.dev.notes ∧
      e.sent = s.dev.sent ++ [{ port := p.val, bytes := c.sent ++ stompedFcs c.sent, stomped := true }] ∧
      SameBut [.link, .sent] s.dev e)) ∧
  (∀ (f : RxFrame) (s : State), f.port.val < s.dev.link.length → (s.dev.port f.port.val).up = true → silnalEnvelope f = false →
    Does (.rxBlockError f) s (fun e => (e.port f.port.val).stat = modAt (s.dev.port f.port.val).stat 0 (fun n => satAdd 16 n 1) ∧
      SameBut (.ing :: reporting) s.dev e)) ∧
  (∀ (f : RxFrame) (s : State), (s.dev.port f.port.val).up = true → wireCheck f = .good → silnalEnvelope f = false →
    isLldp f = false → isMacControl f = false →
    (queueWrite f.port.val (queueBytes f) f.read f.bad s.dev).full = false → f.bad = [] →
    Does (.foreignFrame f) s (fun e => e.word (lnkReg f.port.val 0x0C) = satAdd 0xFFFFFFFF (s.dev.word (lnkReg f.port.val 0x0C)) 1 ∧
      SameBut (.ing :: .regs :: reporting) s.dev e)) ∧
  (∀ (f : RxFrame) (s : State), (s.dev.port f.port.val).up = true → wireCheck f = .good → silnalEnvelope f = true →
    classKnown (rxHdr f) = false → (rxHdr f).hop ≠ 255 →
    Does (.reservedClassFrame f) s (fun e => SameBut (.ing :: .topo :: .regs :: .spare :: reporting) s.dev e ∧
      (forwards s.dev = true → (rxHdr f).bcast = true → (rxHdr f).hop ≠ 0 → (s.dev.port (otherPort f.port.val)).up = true →
        (s.dev.port (otherPort f.port.val)).lpiTx = false → (s.dev.port (otherPort f.port.val)).cutShort ≠ some f.bytes →
        forwarded f .good id (otherPort f.port.val) ∈ e.sent))) ∧
  (∀ (pair : Fin 4) (dir : Fin 2) (p : Nat) (s : State), s.dev.isHead = false → outPort s.dev pair.val dir.val = some p →
    (s.dev.link.length = 8 → (s.dev.port p).reported = false →
      (∃ w ∈ (s.dev.port p).backlog, 16 ≤ w.waits) →
      s.dev.hif.repWins = [] →
      Does (.insertBacklog pair dir) s (fun e => (e.port p).backlog = (s.dev.port p).backlog.filter (fun w => !w.twin) ∧
        (e.port p).reported = !((s.dev.port p).backlog.filter (fun w => !w.twin)).isEmpty ∧
        e.hif.reports = s.dev.hif.reports ++ [{ kind := 4, subject := none, first := s.dev.clk.rp }] ∧
        SameBut [.link, .hif] s.dev e)) ∧
    ((∀ w ∈ (s.dev.port p).backlog, w.waits < 16) → Does (.insertBacklog pair dir) s (fun e => e = s.dev)))

/-! ### Host interface -/

/-- What a head does with a node's REQUEST (R131, R405, R406): it holds one for descriptors not yet written, reads for
one inside a ring or a window, and answers any other ERROR 1; a held REQUEST not served in time, or a read not
complete in time, is answered ERROR 3, a host bus error ERROR 2, and a completed read is answered RESPONSE with its
bytes. A node's remote reads and posts (R131, R405, R407): a RESPONSE moves the fetch on by its descriptors and the
next REQUEST follows, and an answer to a request already answered is a duplicate (R133); after an ERROR the REQUEST is
sent again, and a host bus error is reported; a head writes a POST that lies in a ring of its sender into host memory,
and otherwise reports HOST_WRITE_FAILED; records not yet acknowledged are posted again unchanged, but for those whose
slots were sent less than 2 ms ago (R408). Where the rules leave room it follows the model's log entries 90, 153, 164.
It says where these complete: remoteRdRequest, heldRequestTimeout, hostReadTimeout, hostReadComplete,
remoteRdResponse, remoteRdError, remoteRdPost, noticeRepost. -/
def Obligations.RemoteReadsServed : Prop :=
  ((∀ (f : RxFrame) (s : State) (h : Hdr) (b : List Byte) (d : Device) (q : HeldReq), Accepted f s 8 h b d → be b 0 1 = 0 →
    s.dev.isHead = true → d.hif.held = [] →
    q = { id := d.hif.readId, node := BitVec.ofNat 12 h.src, seq := BitVec.ofNat 32 h.seq, addr := be b 8 8, length := be b 2 2, pair := pairOf f.port.val, dir := h.dir, waits := false } →
    (reqUse d q = .hold → Does (.remoteRdRequest f) s (fun e => e.hif.held = [{ q with waits := true }] ∧ SameBut [.hif] d e)) ∧
    (∀ n, reqUse d q = .read n → Does (.remoteRdRequest f) s (fun e => e.hif.held = [{ q with length := n }] ∧
      SameBut [.hif] d e)) ∧
    (reqUse d q = .outside → Does (.remoteRdRequest f) s (fun e => e.hif.held = [] ∧
      e.sent = (answerNode q.node q.pair (answerHead 2 1 q q.length) d).sent ∧ SameBut [.hif, .sent, .link, .flows] d e))) ∧
  (∀ (s : State) (q : HeldReq), s.dev.hif.held = [q] →
    (q.waits = true → Does (.heldRequestTimeout q.node) s (fun e => e.hif = { s.dev.hif with held := [] } ∧
      e.sent = (answerNode q.node q.pair (answerHead 2 3 q q.length) s.dev).sent ∧ SameBut [.hif, .sent, .link, .flows] s.dev e)) ∧
    (q.waits = false → Does (.hostReadTimeout q.id) s (fun e => e.hif = { s.dev.hif with held := [] } ∧
      e.sent = (answerNode q.node q.pair (answerHead 2 3 q q.length) s.dev).sent ∧ SameBut [.hif, .sent, .link, .flows] s.dev e)) ∧
    (q.waits = false → ∀ b, Does (.hostReadComplete q.id (.data b)) s (fun e => e.hif = { s.dev.hif with held := [] } ∧
      e.sent = (answerNode q.node q.pair (answerHead 1 0 q q.length ++ fit q.length b) s.dev).sent ∧
      SameBut [.hif, .sent, .link, .flows] s.dev e)) ∧
    (q.waits = false → Does (.hostReadComplete q.id .busError) s (fun e => e.hif = { s.dev.hif with held := [] } ∧
      e.sent = (answerNode q.node q.pair (answerHead 2 2 q q.length) s.dev).sent ∧ SameBut [.hif, .sent, .link, .flows] s.dev e)))) ∧
  ((∀ (f : RxFrame) (s : State) (h : Hdr) (b : List Byte) (x : Device), Accepted f s 8 h b x → s.dev.isHead = false →
    (x.flows.answered.contains (BitVec.ofNat 32 (be b 4 4)) = true →
      (be b 0 1 = 1 → Does (.remoteRdResponse f) s (fun e => SameBut [.regs] x e ∧
        e.word (lnkReg f.port.val 0x14) = satAdd 0xFFFFFFFF (x.word (lnkReg f.port.val 0x14)) 1)) ∧
      (be b 0 1 = 2 → Does (.remoteRdError f) s (fun e => SameBut [.regs] x e ∧
        e.word (lnkReg f.port.val 0x14) = satAdd 0xFFFFFFFF (x.word (lnkReg f.port.val 0x14)) 1))) ∧
    (x.flows.answered.contains (BitVec.ofNat 32 (be b 4 4)) = false → x.hif.request.contains (BitVec.ofNat 32 (be b 4 4)) = true →
    (be b 0 1 = 1 → Does (.remoteRdResponse f) s (fun e => e.hif.reqPos = x.hif.reqPos + BitVec.ofNat 32 (be b 2 2 / 64) ∧
      e.hif.request = (nodePairs x).map (fun pair => BitVec.ofNat 32 (nextSeq x 8 1 pair)) ∧
      e.flows.answered = (x.flows.answered ++ [BitVec.ofNat 32 (be b 4 4)]).filter (fun q => !(e.hif.request.contains q)) ∧
      SameBut [.hif, .flows, .link, .sent] x e)) ∧
    (be b 0 1 = 2 → Does (.remoteRdError f) s (fun e => e.hif.reqPos = x.hif.reqPos ∧
      e.hif.request = (nodePairs x).map (fun pair => BitVec.ofNat 32 (nextSeq x 8 1 pair)) ∧
      (be b 1 1 = 2 → x.hif.wins = [] → ∃ w, e.hif.wins = [w] ∧ w.code = 1 ∧ w.subject = 0) ∧
      (be b 1 1 ≠ 2 → e.hif.wins = x.hif.wins) ∧ SameBut [.hif, .flows, .link, .sent] x e)))) ∧
  (∀ (f : RxFrame) (s : State) (h : Hdr) (b : List Byte) (d : Device), Accepted f s 8 h b d → be b 0 1 = 3 →
    s.dev.isHead = true →
    d.clk.raster.nsOf (RP.dist d.clk.raster d.clk.rp h.stamp) ≤ 1000000 →
    (∀ k, postRing d h.src (be b 8 8) (be b 2 2) = some k →
      Does (.remoteRdPost f false) s (fun e => e.host = d.host ++ [{ addr := be b 8 8, bytes := b.drop 16 }] ∧
        SameBut [.host, .hif] d e) ∧
      Does (.remoteRdPost f true) s (fun e => Noticed d e 7 (leN 2 h.src ++ leN 1 1 ++ zeros 1 ++ leN 8 (be b 8 8)))) ∧
    (postRing d h.src (be b 8 8) (be b 2 2) = none → ∀ busErr,
      Does (.remoteRdPost f busErr) s (fun e => Noticed d e 7 (leN 2 h.src ++ leN 1 0 ++ zeros 1 ++ leN 8 (be b 8 8)) ∧
        e.word 0x1490 = satAdd 0xFFFFFFFF (d.word 0x1490) 1))) ∧
  (∀ (s : State) (r : NoticeRec) (addr : Nat), s.dev.isHead = false → served s.dev = true → s.dev.hif.unacked = [r] →
    addr = evtAddr s.dev r.pos → s.dev.hif.toPost = [] →
    (s.dev.hif.posted = [] →
      Does .noticeRepost s (fun e => e = keepClk s.dev (post addr (noticeBytes s.dev r.notice r.pos) s.dev))) ∧
    (∀ t, s.dev.hif.posted = [(addr, t)] → s.dev.clk.raster.nsOf (RP.dist s.dev.clk.raster s.dev.clk.rp t) < 2000000 →
      Does .noticeRepost s (fun e => e = s.dev))))

/-- A letterbox round of a head takes a member's entry and counts itself (R402, R403); an overrun is reported. A node
whose rings have started takes C from its MAILBAG entry (R393, R411). The sorting office (R412 to R414): a reply
card's fault report opens a key or adds to the one open; when its window closes one FAULT_COALESCED is reported and
the key is free; what found no room is reported as STORM. Where the rules leave room it follows the model's log entry
37. It says where these complete: letterboxRound, mailbag, replyCard, sortingWindowClose, storm. -/
def Obligations.LettersAndReports : Prop :=
  ((∀ (s : State) (r : RoundRead) (n : Nat) (w : LetterWords), s.dev.isHead = true → s.dev.hif.rounds = true →
    r.entries = [(n, some w)] → r.dirs = [] → n ≠ s.dev.nodeNo → n ∈ allMembers s.dev → s.dev.hif.held = [] →
    Does (.letterboxRound r) s (fun e => mfind e.hif.letters n = some w ∧ e.hif.round = s.dev.hif.round + 1 ∧
      e.hif.rotate = s.dev.hif.rotate + 1 ∧ e.hif.mailAll = false ∧
      (r.overrun = true → Noticed s.dev e 6 (leN 4 s.dev.hif.round.toNat ++ leN 4 r.durUs)) ∧
      (r.overrun = false → e.notes = s.dev.notes) ∧ SameBut reporting s.dev e)) ∧
  (∀ (f : RxFrame) (s : State) (h : Hdr) (b : List Byte) (d : Device) (n : BitVec 12) (w : LetterWords), Accepted f s 5 h b d →
    s.dev.isHead = false → d.topo.nodeId = some n → mailFor n.toNat b = some w →
    (d.hif.cfgPending = false → d.hif.started = true → d.hif.seqWord = some w.seq → (d.hif.e - w.c).toNat ≤ evtSlots d →
      Does (.mailbag f) s (fun e => e.hif.c = w.c ∧ e.hif.started = true)))) ∧
  ((∀ (f : RxFrame) (s : State) (h : Hdr) (b : List Byte) (d : Device), Accepted f s 4 h b d → s.dev.isHead = true →
    be b 0 1 ≠ 2 → be b 0x4A 1 = 1 →
    (∀ k, d.hif.sort = [k] → k.kind = BitVec.ofNat 8 (be b 78 1) → k.subject = BitVec.ofNat 12 (be b 76 2) →
      Does (.replyCard f) s (fun e => ∃ rp, rp = { frame := BitVec.ofNat 32 (be b 80 4), line := bitsOf (be b 84 4) 28 16, sub := be b 84 4 % 65536 } ∧
        e.hif.sort = [{ k with count := satAdd 65535 k.count 1, lastW := BitVec.ofNat 12 h.src,
                               first := if rp.before k.first then rp else k.first }] ∧ SameBut [.topo, .hif] d e)) ∧
    (d.hif.sort = [] → Does (.replyCard f) s (fun e => e.hif.sort = [{ kind := BitVec.ofNat 8 (be b 78 1), subject := BitVec.ofNat 12 (be b 76 2), count := 1, firstW := BitVec.ofNat 12 h.src, lastW := BitVec.ofNat 12 h.src, first := { frame := BitVec.ofNat 32 (be b 80 4), line := bitsOf (be b 84 4) 28 16, sub := be b 84 4 % 65536 } }] ∧
      (∀ x, d.topo.pairs[pairOf f.port.val]? = some x →
        e.topo.pairs[pairOf f.port.val]? = some { x with cards := mins x.cards h.src (BitVec.ofNat 32 (be b 0x14 4), d.clk.rp) }) ∧
      SameBut [.topo, .hif] d e))) ∧
  (∀ (s : State) (k : SortKey), s.dev.hif.sort.find? (fun x => x.kind == k.kind && x.subject == k.subject) = some k →
    Does (.sortingWindowClose k.kind k.subject) s (fun e => e.hif.sort = s.dev.hif.sort.filter (fun x => !(x.kind == k.kind && x.subject == k.subject)) ∧
      Noticed s.dev e 4 (leN 1 k.kind.toNat ++ zeros 1 ++ leN 2 k.subject.toNat ++ leN 2 k.count ++ leN 2 k.firstW.toNat ++
        leN 2 k.lastW.toNat ++ zeros 2 ++ k.first.bytes) ∧ SameBut reporting s.dev e)) ∧
  (∀ s : State, s.dev.hif.lostReps ≠ 0 →
    Does .storm s (fun e => e.hif.lostReps = 0 ∧ e.hif.lostKeys = [] ∧ e.hif.lostFirst = none ∧
      Noticed s.dev e 5 (leN 4 s.dev.hif.lostKeys.length ++ leN 4 s.dev.hif.lostReps ++ rpOr s.dev.hif.lostFirst) ∧
      SameBut reporting s.dev e)))

/-- A node's ring registers (R544), written by CTRL frames (R532): writes of the four bases are staged and have no
other effect on the rings; a write of HIF_RING_CFG applies them together with itself, what the rings that ran were
being kept until then; the rings start at the next MAILBAG entry the node accepts, with F and E from it (R396). It
says where these complete: ctrlWrite, hifRingCfgWrite, mailbag. -/
def Obligations.RingBasesStaged : Prop :=
  (∀ (f : RxFrame) (s : State) (h : Hdr) (b : List Byte) (d : Device), Accepted f s 2 h b d → ctrlServed d = true →
    s.dev.isHead = false → be b 0 1 = 1 → d.pwr.resetAsked = false →
    (∀ a v, ctrlEntries b = [(a, v)] → a % 4 = 0 → ringBase a = true →
      Does (.ctrlWrite f) s (fun e => e.hif = { d.hif with staged := e.hif.staged } ∧
        SameBut [.hif, .wideHold, .flows, .link, .sent] d e)) ∧
    (∀ (i : Fin 4) (lo : Word) (v : Nat), ctrlEntries b = [(0x1464 + 8 * i.val, v)] → mfind d.wideHold (0x1460 + 8 * i.val) = some lo →
      Does (.ctrlWrite f) s (fun e =>
        [e.hif.staged.cmdBase, e.hif.staged.cplBase, e.hif.staged.evtBase, e.hif.staged.bulkBase].getD i.val 0 =
          lo.toNat / 4096 * 4096 + 4294967296 * v))) ∧
  (∀ (v : Word) (s : State),
    (s.dev.isHead = false → Does (.hifRingCfgWrite v) s (fun e =>
      e.hif = { s.dev.hif with ring := ringFields v.toNat s.dev.hif.staged, staged := ringFields v.toNat s.dev.hif.staged,
                               cfgPending := true,
                               old := if s.dev.hif.started then some (s.dev.hif.old.getD s.dev.hif.ring) else none } ∧
      SameBut [.hif] s.dev e)) ∧
    (s.dev.isHead = true → Does (.hifRingCfgWrite v) s (fun e => e = s.dev))) ∧
  (∀ (f : RxFrame) (s : State) (h : Hdr) (b : List Byte) (d : Device) (n : BitVec 12) (w : LetterWords), Accepted f s 5 h b d →
    s.dev.isHead = false → d.topo.nodeId = some n → mailFor n.toNat b = some w → d.hif.cfgPending = true →
    Does (.mailbag f) s (fun e => e.hif.started = true ∧ e.hif.cfgPending = false ∧ e.hif.f = w.p ∧ e.hif.seqWord = some w.seq ∧
      { code := 2, payload := leN 4 w.p.toNat ++ leN 4 w.c.toNat ++ leN 4 w.seq.toNat } ∈ e.notes))

/-! ### Frames on the rings -/

/-- A PIX_SLICE of a content frame whose window is open goes into the buffer it suits (R91, R115, R118, R267); one too
late is discarded and counted (R91), and a sequence seen before is a duplicate (R133). Where the rules leave room it
follows the model's log entry 39. It says where these complete: pixSlice. -/
def Obligations.SlicesStored : Prop :=
  ∀ (f : RxFrame) (s : State) (h : Hdr) (b : List Byte) (x : Device) (c : BitVec 32),
    Accepted f s 1 h b x → x.isNode = true →
    c = h.stamp.frame → (sliceHdr b).gen = (recordFor x (c + BitVec.ofNat 32 (presentP x))).2 →
    (∀ k : Buffer, sliceLate x c = false → sliceEarly x c = false → (pixSeen x c).contains h.seq = false → x.pxl.buffers = [k] →
      k.content = c → k.hold = false → runSuits (sliceHdr b) k.fmt = true → (sliceHdr b).layout ≠ 3 →
      Does (.pixSlice f) s (fun e => e.pxl = { x.pxl with buffers := [{ k with fill := k.fill ++ [{ first := (sliceHdr b).first, count := (sliceHdr b).count, data := cut b 26 (sliceHdr b).bytes }], fillN := k.fillN + (sliceHdr b).count }] } ∧
        pixSeen e c = pixSeen x c ++ [h.seq] ∧ SameBut [.pxl, .flows] x e)) ∧
    (sliceLate x c = true → Does (.pixSlice f) s (fun e => e.word 0x305C = satAdd 0xFFFFFFFF (x.word 0x305C) 1 ∧
      e.tim.lateCount = satAdd 65535 x.tim.lateCount 1 ∧ SameBut [.regs, .tim] x e)) ∧
    (sliceLate x c = false → sliceEarly x c = true →
      Does (.pixSlice f) s (fun e => e.word 0x3058 = satAdd 0xFFFFFFFF (x.word 0x3058) 1 ∧
      e.tim.earlyCount = satAdd 65535 x.tim.earlyCount 1 ∧ SameBut [.regs, .tim] x e)) ∧
    (sliceLate x c = false → sliceEarly x c = false → (pixSeen x c).contains h.seq = true →
      Does (.pixSlice f) s (fun e => e.word (lnkReg f.port.val 0x14) = satAdd 0xFFFFFFFF (x.word (lnkReg f.port.val 0x14)) 1 ∧
        SameBut [.regs] x e))

/-- A FIX frame is kept for its DMX port where its stamp is the greatest (R424); PROOF data reaches the head that
asked (R129); a READ_RESP or WRITE_ACK taken changes nothing more (R119). Registers by CTRL frame (R119, R120): a node
reads or writes each entry in order and answers with the next sequence of the ring the request came by; an operation
it does not know is answered too, by the device addressed, a head as well; a WRITE that asks for a reset is
acknowledged before it (R521). Where the rules leave room it follows the model's log entries 35, 88. It says where
these complete: fix, proof, readResp, writeAck, ctrlRead, ctrlWrite, ctrlUnlistedOp. -/
def Obligations.DataAndRegisterFrames : Prop :=
  (∀ (f : RxFrame) (s : State) (h : Hdr) (b : List Byte) (d : Device),
    (Accepted f s 7 h b d → s.dev.isNode = true → ∀ x, d.fix.ports[be b 0 1]? = some x →
      (∀ n, x.new = some n → 0 < frameDiff h.stamp.frame n.stamp) →
      Does (.fix f) s (fun e => e.fix = { d.fix with ports := d.fix.ports.set (be b 0 1) { x with prev := x.new, new := some { stamp := h.stamp.frame, data := b.drop 10 }, lost := false } } ∧
        (x.lost = false → SameBut [.fix] d e) ∧ SameBut (.fix :: reporting) d e)) ∧
    (Accepted f s 6 h b d → s.dev.isHead = true → 
      Does (.proof f) s (fun e => e.proofIn = d.proofIn ++ [(BitVec.ofNat 12 h.src, h.stamp.frame, b)] ∧
        SameBut [.proofIn] d e)) ∧
    (Accepted f s 2 h b d → be b 0 1 = 2 → Does (.readResp f) s (fun e => e = d)) ∧
    (Accepted f s 2 h b d → be b 0 1 = 3 → Does (.writeAck f) s (fun e => e = d))) ∧
  (∀ (f : RxFrame) (s : State) (h : Hdr) (b : List Byte) (d : Device) (pair : Nat), pair = pairOf f.port.val →
    Accepted f s 2 h b d → ctrlServed d = true →
    (s.dev.isHead = false →
      (be b 0 1 = 0 → ∀ a v, ctrlEntries b = [(a, v)] → entryGood a = true →
        Does (.ctrlRead f) s (fun e => e.lastRead = (readReg false a d).lastRead ∧
          nextSeq e 2 1 pair = nextSeq (readReg false a d) 2 1 pair + 1 ∧
          SameBut [.flows, .link, .sent] (readReg false a d) e)) ∧
      (be b 0 1 = 1 → ∀ a v, ctrlEntries b = [(a, v)] → entryGood a = true → a ≠ 0x0C08 →
        d.pwr.resetAsked = false →
        Does (.ctrlWrite f) s (fun e => nextSeq e 2 1 pair = nextSeq (writeReg a v d) 2 1 pair + 1 ∧
          SameBut [.flows, .link, .sent] (writeReg a v d) e)) ∧
      (be b 0 1 = 1 → ctrlEntries b = [(0x0C08, 0x5A4C5253)] →
        Does (.ctrlWrite f) s (fun e => ∃ d1, AfterReset 4 d1 e ∧ nextSeq d1 2 1 pair = nextSeq d 2 1 pair + 1))) ∧
    (7 ≤ be b 0 1 → h.origin = 0 → unicastTo d h = true →
      Does (.ctrlUnlistedOp f) s (fun e => nextSeq e 2 1 pair = nextSeq d 2 1 pair + 1 ∧
        SameBut [.flows, .link, .sent] d e)))

/-! ### Roles, rings and the system map -/

/-- Binding (R26 to R28, R34, R121, R126, R127): a head asks on a ring it binds while a position is unbound, and on
every ring while it knows no map; an unassigned device answers once per port and frame, and keeps a second answer for
the next boundary; the answer binds the device to its position, or is reported as a mismatch; an ASSIGN bearing the
device's fingerprint puts its record in force from its frame on, with P and C where it comes by the ring pair whose
raster the node follows (R90). Where the rules leave room it follows the model's log entries 27, 102, 103, 143. It
says where these complete: bindRequestTimer, bindRequest, bindAnswer, assign. -/
def Obligations.DevicesBound : Prop :=
  (∀ (s : State) (pair : Fin 4), s.dev.isHead = true →
    (∀ (m : SysMap) (i : Nat) (r : RingEntry) (isX : Bool), s.dev.topo.map = some m →
      pairRing s.dev pair.val = some (i, r, isX) → binds s.dev r pair.val isX = true →
      (∀ k, k < r.members.length → unboundAt s.dev r pair.val (k + 1) = true →
        Does (.bindRequestTimer pair) s (fun e => nextSeq e 2 0 pair.val = nextSeq s.dev 2 0 pair.val + 1 ∧
          SameBut [.flows, .link, .sent] s.dev e)) ∧
      ((∀ k, k < r.members.length → unboundAt s.dev r pair.val (k + 1) = false) →
        Does (.bindRequestTimer pair) s (fun e => e = s.dev))) ∧
    (s.dev.topo.map = none →
      Does (.bindRequestTimer pair) s (fun e => nextSeq e 2 0 pair.val = nextSeq s.dev 2 0 pair.val + 1 ∧
        SameBut [.flows, .link, .sent] s.dev e))) ∧
  (∀ (f : RxFrame) (s : State) (h : Hdr) (b : List Byte) (x : Device), x = (takeClass f id s.dev).dev →
    (takeClass f id s.dev).got = some (h, b) → h.cls = 2 → be b 0 1 = 4 → x.isHead = false → x.topo.nodeId = none →
    ((x.port f.port.val).cardFrame ≠ some x.clk.rp.frame → (x.port f.port.val).up = true → (x.port f.port.val).lpiTx = false →
      Does (.bindRequest f) s (fun e => (∃ a, e.sent = x.sent ++ [a] ∧ a.port = f.port.val) ∧
        (e.port f.port.val).cardFrame = some x.clk.rp.frame ∧ (h.dir = 0 → e.topo.hopA = h.hop) ∧
        (h.dir = 1 → e.topo.hopB = h.hop) ∧ SameBut [.topo, .link, .sent] x e)) ∧
    ((x.port f.port.val).cardFrame = some x.clk.rp.frame →
      Does (.bindRequest f) s (fun e => e.topo.answers = x.topo.answers ++
        [{ port := f.port.val, head := h.head, dir := 1 - h.dir, dst := h.src, pair := pairOf f.port.val }] ∧ SameBut [.topo] x e))) ∧
  (∀ (f : RxFrame) (s : State) (h : Hdr) (b : List Byte) (x : Device) (m : SysMap) (ring : Nat) (r : RingEntry) (isX : Bool)
    (pos : Nat) (n : NodeRecord) (hp : HeadPair), Accepted f s 4 h b x → x.isHead = true → be b 0 1 = 2 →
    x.topo.map = some m → x.topo.load = none →
    pairRing x (pairOf f.port.val) = some (ring, r, isX) → answerPos r b = some pos → binds x r (pairOf f.port.val) isX = true →
    memberAt m r pos = some n → x.topo.pairs[pairOf f.port.val]? = some hp →
    (fpZero n.fingerprint = true ∨ n.fingerprint = cut b 4 8 → Does (.bindAnswer f) s (fun e =>
      e.topo.pairs[pairOf f.port.val]? = some { hp with bound := mins hp.bound pos (cut b 4 8), cards := mdel hp.cards n.nodeId.toNat } ∧
      e.hif.dirAsk = x.hif.dirAsk ++ [n.nodeId.toNat] ∧ (∀ w ∈ e.flows.wins, ¬(w.origin = 1 ∧ w.peer = n.nodeId.toNat)) ∧
      nextSeq e 2 0 (pairOf f.port.val) = nextSeq x 2 0 (pairOf f.port.val) + 1)) ∧
    (fpZero n.fingerprint = false → n.fingerprint ≠ cut b 4 8 → Does (.bindAnswer f) s (fun e =>
      Noticed x e 0x1012 (leN 2 ring ++ leN 1 pos ++ zeros 1 ++ n.fingerprint ++ cut b 4 8) ∧ e.topo = x.topo))) ∧
  (∀ (f : RxFrame) (s : State) (h : Hdr) (b : List Byte) (d : Device), Accepted f s 2 h b d → s.dev.isHead = false →
    be b 0 1 = 5 →
    (cut b 8 8 = d.sec.fingerprint →
      (frameDiff d.clk.rp.frame h.stamp.frame < 0 → Does (.assign f) s (fun e =>
        e.topo.next = d.topo.next.filter (fun x => x.frame != h.stamp.frame || x.pair != pairOf f.port.val) ++ [assignNext (pairOf f.port.val) h b] ∧
        e.topo.record = d.topo.record ∧
        (d.topo.nodeId = none → e.topo.nodeId = some (assignNode (cut b 0x10 48)).nodeId ∧ e.flows.wins = []) ∧
        SameBut [.topo, .flows] d e)) ∧
      (0 ≤ frameDiff d.clk.rp.frame h.stamp.frame → (∀ o ∈ d.topo.others, o.2 = BitVec.ofNat 32 (be b 0x4C 4)) →
        Does (.assign f) s (fun e =>
          e.topo.record = some (assignNode (cut b 0x10 48)) ∧ e.topo.gen = BitVec.ofNat 32 (be b 0x4C 4) ∧
          e.topo.nodeId = some (assignNode (cut b 0x10 48)).nodeId ∧
          (d.tim.presents.length = 4 → d.tim.follow.getD (pairOf f.port.val) = pairOf f.port.val →
            e.tim.presentP = be b 0x48 1 ∧ e.tim.presentC = be b 0x4A 2)))) ∧
    (cut b 8 8 ≠ d.sec.fingerprint → Does (.assign f) s (fun e => e.topo = { d.topo with others := e.topo.others } ∧
      (h.stamp.frame, BitVec.ofNat 32 (be b 0x4C 4)) ∈ e.topo.others ∧ e.topo.record = d.topo.record)))

/-- A PARTNER frame on the closing link gives the partner's values and shows the link up (R122), before the head's
first map is in force too (R39); after four boundaries without one the closing link is reported down, once (R22,
R122). A map loaded (R34, R36 to R38, R40, R86): MAP_LOAD waits for its check, a node refuses it, and an earlier load
is cancelled, unless its own due RP refuses it; a good map is kept with its load, where the due RP is yet to be judged
(R575); a bad one completes INVALID_OPERAND and is reported as MAP_REJECTED, as is one that could not switch within 64
boundaries (check code 14), and no earlier. Where the rules leave room it follows the model's log entries 23, 24, 106,
142. It says where these complete: partner, closingLinkDown, mapLoad, mapCheckComplete, mapSwitchTimeout. -/
def Obligations.PartnersAndMaps : Prop :=
  ((∀ (f : RxFrame) (s : State) (h : Hdr) (b : List Byte) (d : Device) (hp : HeadPair), Accepted f s 2 h b d →
    be b 0 1 = 6 → d.topo.pairs[pairOf f.port.val]? = some hp →
    Does (.partner f) s (fun e => ∃ y, e.topo.pairs[pairOf f.port.val]? = some y ∧
      y.partner = some { partnerInfo (b.drop 8) with stamp := h.stamp.frame } ∧ y.boundaries = 0 ∧ y.closeDown = false ∧
      y.bound = hp.bound ∧ y.feeding = hp.feeding ∧ SameBut (.topo :: reporting) d e)) ∧
  (∀ (s : State) (pair : Fin 4) (m : SysMap) (i q : Nat) (r : RingEntry) (isX : Bool) (hp : HeadPair), mapKnown s.dev = some m →
    (headRings s.dev m).find? (fun (_, r, q, _) => q == pair.val && r.dual) = some (i, r, q, isX) →
    s.dev.topo.pairs[pair.val]? = some hp →
    (hp.closeDown = false → 4 ≤ hp.boundaries → Does (.closingLinkDown pair) s (fun e =>
      e.topo = { s.dev.topo with pairs := s.dev.topo.pairs.set pair.val { hp with closeDown := true } } ∧
      Noticed s.dev e 0x1011 (leN 2 i ++ leN 1 (if isX then r.headY else r.headX) ++ zeros 1) ∧
      SameBut (.topo :: reporting) s.dev e)) ∧
    (hp.closeDown = true ∨ hp.boundaries < 4 → Does (.closingLinkDown pair) s (fun e => e = s.dev)))) ∧
  (∀ (c : Cmd) (s : State),
    (s.dev.isHead = true → misaligned c = false → (s.dev.tim.firstLock = true → loadRefusal c s.dev = none) →
      Does (.mapLoad c) s (fun e => e.topo.load = some
          { cmd := if s.dev.tim.firstLock then loadTimed c s.dev else c, adm := s.dev.sched.adm, judged := s.dev.tim.firstLock } ∧
        e.topo.map = s.dev.topo.map ∧ e.sched.adm = s.dev.sched.adm + 1 ∧
        (s.dev.topo.load = none → e.comps = s.dev.comps) ∧
        (∀ l, s.dev.topo.load = some l → Completed s.dev e 0x1F l.cmd 3 none []))) ∧
    (s.dev.isHead = false → Does (.mapLoad c) s (fun e => Completed s.dev e 0x1F c 5 none [] ∧ e.topo = s.dev.topo)) ∧
    (s.dev.isHead = true → misaligned c = true →
      Does (.mapLoad c) s (fun e => Completed s.dev e 0x1F c 4 none (zeros 4 ++ leN 4 noIndex) ∧ e.topo = s.dev.topo)) ∧
    (∀ st, s.dev.isHead = true → misaligned c = false → s.dev.tim.firstLock = true → loadRefusal c s.dev = some st →
      Does (.mapLoad c) s (fun e => Completed s.dev e 0x1F c st none [] ∧
        e.topo = s.dev.topo)) ∧
    (∀ l b, s.dev.topo.load = some l → l.map = none → l.cmd.host = .data b →
      (∀ m, checkMap s.dev b (opN l.cmd 8 4) = .good m → l.judged = false →
        Does .mapCheckComplete s (fun e => e.topo = { s.dev.topo with load := some { l with map := some m } } ∧
          SameBut [.topo] s.dev e)) ∧
      (∀ code idx, checkMap s.dev b (opN l.cmd 8 4) = .bad code idx → l.sent = false →
        Does .mapCheckComplete s (fun e => e.topo = { s.dev.topo with load := none } ∧
          Completed s.dev e 0x1F l.cmd 4 none (leN 1 code ++ zeros 3 ++ leN 4 idx) ∧
          NoticedFirst s.dev e 0x1010 (leN 1 code ++ zeros 3 ++ leN 4 idx ++ leN 4 (le b 0x0C 4))))) ∧
    (∀ l, s.dev.topo.load = some l → l.map = none → l.cmd.host = .busError →
      Does .mapCheckComplete s (fun e => e.topo = { s.dev.topo with load := none } ∧ Completed s.dev e 0x1F l.cmd 0x0A none [])) ∧
    (∀ l m, s.dev.topo.load = some l → l.map = some m →
      (64 ≤ l.tries → Does .mapSwitchTimeout s (fun e => e.topo = { s.dev.topo with load := none } ∧
        Completed s.dev e 0x1F l.cmd 4 none (leN 1 0x0E ++ zeros 3 ++ leN 4 noIndex) ∧
        NoticedFirst s.dev e 0x1010 (leN 1 0x0E ++ zeros 3 ++ leN 4 noIndex ++ leN 4 m.generation.toNat))) ∧
      (l.tries < 64 → Does .mapSwitchTimeout s (fun e => e = s.dev))))

/-! ### Ingest -/

/-- ST 2110 streams (R183, R184, R186, R187, R205): the first good packet of a slot's stream sets the merge going on
its number and shows its path delivering; one already used is a duplicate; one of no stream is counted; a lost path
and a lost stream are each reported. STREAM_SET puts a record in a slot or refuses it with its reason; STREAM_QUERY
returns the counts and clears them. Where the rules leave room it follows the model's log entries 39, 41. It says
where these complete: st2110Packet, streamPathLost, streamLost, streamSet, streamQuery. -/
def Obligations.StreamsReceived : Prop :=
  (∀ (p : RtpPacket) (s : State) (d : Device), ingestOn s.dev = true → (ingestIn p.rx s.dev).1 = true → d = (ingestIn p.rx s.dev).2 →
    d.gest.slots.length = 16 →
    (∀ (k : Nat) (b : Belongs),
      (List.range 16).filterMap (fun k => (packetRec d (slotOf d k) p).map (fun x => (k, x))) = [(k, b)] →
      (packetGood d p b.strm = false → Does (.st2110Packet p) s (fun e => e = d.bump 0x2904 1)) ∧
      (packetGood d p b.strm = true → b.old = false →
        ((slotOf d k).merge.hi = none → (slotOf d k).deliver.length = 2 →
          Does (.st2110Packet p) s (fun e => (slotOf e k).merge.hi = some p.seq ∧ (slotOf e k).merge.first = some p.seq ∧
            (slotOf e k).merge.used = [p.seq] ∧ (slotOf e k).deliver.getD p.rx.port.val false = true ∧ (slotOf e k).lost = false ∧
            (slotOf e k).strm = (slotOf d k).strm ∧ ∀ j, j ≠ k → (slotOf e j).merge = (slotOf d j).merge)) ∧
        (∀ h, (slotOf d k).merge.hi = some h → frameDiff p.seq h ≤ -(b.strm.window : Int) →
          Does (.st2110Packet p) s (fun e => e.word 0x290C = satAdd 0xFFFFFFFF (d.word 0x290C) 1 ∧
            (slotOf e k).merge = (slotOf d k).merge ∧ (slotOf e k).asm = (slotOf d k).asm)) ∧
        (∀ h, (slotOf d k).merge.hi = some h → -(b.strm.window : Int) < frameDiff p.seq h → (slotOf d k).merge.used.contains p.seq = true →
          Does (.st2110Packet p) s (fun e => e.word 0x2908 = satAdd 0xFFFFFFFF (d.word 0x2908) 1 ∧
            (slotOf e k).merge = (slotOf d k).merge ∧ (slotOf e k).asm = (slotOf d k).asm)))) ∧
    ((∀ k, k < 16 → packetRec d (slotOf d k) p = none) → Does (.st2110Packet p) s (fun e => e = d.bump 0x2900 1))) ∧
  (∀ (i : Fin 16) (p : Fin 2) (s : State) (r : StreamRec) (x : Slot), s.dev.gest.slots[i.val]? = some x → x.strm = some r →
    ingestOn s.dev = true → r.kind ≠ 2 →
    (r.paths = 3 → x.deliver.getD (1 - p.val) false = true → x.lostPath.getD p.val false = false →
      Does (.streamPathLost i p) s (fun e =>
        e.gest = { s.dev.gest with slots := s.dev.gest.slots.set i.val { x with deliver := setAt x.deliver p.val false, lostPath := setAt x.lostPath p.val true } } ∧
        Noticed s.dev e 0x2003 (leN 1 i.val ++ leN 1 (p.val + 8)) ∧ SameBut (.gest :: reporting) s.dev e)) ∧
    (x.lost = false → Does (.streamLost i) s (fun e =>
        e.gest = { s.dev.gest with slots := s.dev.gest.slots.set i.val { x with lost := true, deliver := [false, false] } } ∧
        Noticed s.dev e 0x2001 (leN 1 i.val) ∧ SameBut (.gest :: reporting) s.dev e))) ∧
  (∀ (c : Cmd) (s : State), s.dev.isHead = true → misaligned c = false → opB c 8 ≤ 15 → s.dev.gest.slots.length = 16 →
    (hasBit (opB c 9) 0 = false → Does (.streamSet c) s (fun e => (slotOf e (opB c 8)).strm = none ∧
      (slotOf e (opB c 8)).merge = {} ∧ Finished s.dev e 0x20 c (boundaryRp s.dev) [])) ∧
    (∀ b, hasBit (opB c 9) 0 = true → c.host = .data b →
      (streamReason s.dev (opB c 8) (readStream b) = none →
        Does (.streamSet c) s (fun e => (slotOf e (opB c 8)).strm = some (readStream b) ∧ (slotOf e (opB c 8)).merge = {} ∧
          (slotOf e (opB c 8)).before = (slotOf s.dev (opB c 8)).merge ∧ Finished s.dev e 0x20 c (boundaryRp s.dev) [] ∧ ∀ j, j ≠ opB c 8 → slotOf e j = slotOf s.dev j)) ∧
      (∀ n, streamReason s.dev (opB c 8) (readStream b) = some n →
        Does (.streamSet c) s (fun e => Completed s.dev e 0x20 c 4 none (leN 1 n) ∧ e.gest = s.dev.gest)))) ∧
  (∀ (c : Cmd) (s : State) (x : Slot), s.dev.isHead = true → opB c 0 ≤ 15 → s.dev.gest.slots[opB c 0]? = some x →
    Does (.streamQuery c) s (fun e => Finished s.dev e 0x21 c s.dev.clk.rp
        (leN 1 (bit x.strm.isSome + 2 * bit (x.deliver.getD 0 false) + 4 * bit (x.deliver.getD 1 false)) ++ zeros 1 ++
          leN 2 x.lostCount ++ leN 4 x.lastC.toNat ++ leN 2 x.abandoned ++ leN 2 x.offTime ++ leN 2 x.collisions ++ leN 2 x.skew) ∧
      e.gest = { s.dev.gest with slots := s.dev.gest.slots.set (opB c 0) { x with lostCount := 0, abandoned := 0, offTime := 0, collisions := 0, skew := 0 } } ∧
      SameBut (.gest :: .comps :: reporting) s.dev e))

/-- The rest of ingest: an sACN source joins, updates or leaves its universe (R201, R202), whose loss of the last is
reported (R203); a port answers ARP for its own address and reports its groups to a query (R180); other frames are
counted by what is wrong with them (R180). Where the rules leave room it follows the model's log entries 32, 42. It
says where these complete: sacnPacket, sacnSourceTimeout, arpRequest, igmpQuery, ingestForeignFrame. -/
def Obligations.IngestServices : Prop :=
  ∀ s : State, ingestOn s.dev = true →
    (∀ (p : SacnPacket) (d : Device), (ingestIn p.rx s.dev).1 = true → d = (ingestIn p.rx s.dev).2 →
      (p.preview = true → Does (.sacnPacket p) s (fun e => e = d)) ∧
      (p.preview = false → p.syncOrDisc = false → p.slots.head? ≠ some 0xDD → (routed d).any (fun u => u.univ == p.univ) = true →
      sacnTo d p = true → p.priority ≤ 200 → 1 ≤ p.slots.length → p.slots.length ≤ 513 →
      ((∀ x ∈ sourcesOf d p.univ, x.cid ≠ p.cid) →
        (p.terminated = false → (sourcesOf d p.univ).length < 4 →
          Does (.sacnPacket p) s (fun e => sourcesOf e p.univ = sourcesOf d p.univ ++ [{ cid := p.cid, priority := p.priority, seq := p.seq, slots := p.slots, fresh := true }] ∧
            SameBut [.gest] d e)) ∧
        (4 ≤ (sourcesOf d p.univ).length → Does (.sacnPacket p) s (fun e => e = d.bump 0x291C 1))) ∧
      (∀ x, sourcesOf d p.univ = [x] → x.cid = p.cid →
        (-20 ≤ (p.seq - x.seq).toInt → (p.seq - x.seq).toInt ≤ 0 → Does (.sacnPacket p) s (fun e => e = d)) ∧
        ((p.seq - x.seq).toInt < -20 ∨ 0 < (p.seq - x.seq).toInt →
          (p.terminated = false → Does (.sacnPacket p) s (fun e =>
            sourcesOf e p.univ = [{ cid := p.cid, priority := p.priority, seq := p.seq, slots := p.slots, fresh := true }] ∧
            SameBut [.gest] d e)) ∧
          (p.terminated = true → Does (.sacnPacket p) s (fun e => sourcesOf e p.univ = [] ∧
            Noticed d e 0x2008 (leN 2 p.univ))))))) ∧
    (∀ (u cid : Nat) (x : SacnSource), sourcesOf s.dev u = [x] → x.cid = cid →
      Does (.sacnSourceTimeout u cid) s (fun e => sourcesOf e u = [] ∧ Noticed s.dev e 0x2008 (leN 2 u) ∧
        SameBut (.gest :: reporting) s.dev e)) ∧
    (∀ (x : IngRx) (d : Device), (ingestIn x s.dev).1 = true → d = (ingestIn x s.dev).2 →
      ((d.ingPort x.port.val).up = true → macsecOn d x.port.val = false → (d.ingPort x.port.val).pause = 0 →
        (∀ mac from_, Does (.arpRequest x (portIp d x.port.val) mac from_) s (fun e =>
          ∃ f, e.sent = d.sent ++ [f] ∧ f.port = x.port.val + 8 ∧ cut f.bytes 0 6 = beN 6 mac.toNat ∧
            cut f.bytes 6 6 = portMac d x.port.val ∧ cut f.bytes 12 2 = [0x08, 0x06] ∧ SameBut [.sent] d e)) ∧
        Does (.igmpQuery x) s (fun e => (∃ fs, e.sent = d.sent ++ fs ∧ fs.length = (d.ingPort x.port.val).groups.length ∧
          ∀ f ∈ fs, f.port = x.port.val + 8) ∧ SameBut [.sent] d e)) ∧
      (∀ ip mac from_, ip ≠ portIp d x.port.val → Does (.arpRequest x ip mac from_) s (fun e => e = d)) ∧
      (∀ why, why = .fragment ∨ why = .foreign → Does (.ingestForeignFrame x why) s (fun e =>
        e = d.bump 0x2900 1)) ∧
      Does (.ingestForeignFrame x .badChecksum) s (fun e => e = d.bump 0x2904 1) ∧
      Does (.ingestForeignFrame x .lldp) s (fun e => e = d)) ∧
    (∀ (x : IngRx) (why : IngestOdd) (cls : Nat), (s.dev.ingPort x.port.val).up = true →
      (s.dev.ingPort x.port.val).queue.gap = none → s.dev.ing.length = 2 →
      (why = .badFcs ∧ cls = 0) ∨ (why = .runt ∧ cls = 1) ∨ (why = .oversize ∧ cls = 2) →
      Does (.ingestForeignFrame x why) s (fun e =>
        (e.ingPort x.port.val).stat = modAt (s.dev.ingPort x.port.val).stat cls (fun n => satAdd 16 n 1) ∧
        ((s.dev.ingPort x.port.val).queue.used + ftqCount x.bytes.length ≤ queueRoom →
          (e.ingPort x.port.val).queue.words = ((s.dev.ingPort x.port.val).queue.drain x.read).words) ∧
        SameBut (.ing :: reporting) s.dev e))

/-- Bulk frames (R199, R409): the entry at the fetch position is taken with the status it will have, refused for its
alignment, too early or too late, left waiting until its content frame begins, or ended BUS_ERROR; entries complete in
order, each with its status and its completion word. Where the rules leave room it follows the model's log entry 38.
It says where these complete: bulkEntryRead, bulkEntryComplete. -/
def Obligations.BulkEntries : Prop :=
  ∀ s : State, s.dev.isHead = true →
    (∀ (b : List Byte) (lines : List HostRead) (slot : Nat) (c : BitVec 32) (out : BulkEntry), ingestOn s.dev = true →
      served s.dev = true → bulkSlots s.dev ≠ 0 → s.dev.hif.badB = none → s.dev.hif.fetchB ≠ s.dev.hif.b → s.dev.tim.firstLock = true →
      le b 0x1C 4 = s.dev.hif.fetchB.toNat → slot = le b 0 1 → c = BitVec.ofNat 32 (le b 4 4) →
      out = { pos := s.dev.hif.fetchB, slot := slot, content := c, addr := le b 8 8, tag := BitVec.ofNat 32 (le b 0x10 4), status := 0, done := true } →
      (le b 8 8 % 64 ≠ 0 → Does (.bulkEntryRead b lines) s (fun e =>
        e.hif = { s.dev.hif with fetchB := s.dev.hif.fetchB + 1, bulk := s.dev.hif.bulk ++ [{ out with status := 4 }] } ∧
        SameBut [.hif] s.dev e)) ∧
      (le b 8 8 % 64 = 0 → 16777216 < frameDiff c s.dev.clk.rp.frame → Does (.bulkEntryRead b lines) s (fun e =>
        e.hif = { s.dev.hif with fetchB := s.dev.hif.fetchB + 1, bulk := s.dev.hif.bulk ++ [{ out with status := 8 }] } ∧
        SameBut [.hif] s.dev e)) ∧
      (le b 8 8 % 64 = 0 → frameDiff c s.dev.clk.rp.frame ≤ 16777216 →
        s.dev.clk.rp.reached { frame := c + BitVec.ofNat 32 (presentP s.dev) - 1, line := cutLine s.dev, sub := 0 } = true →
        Does (.bulkEntryRead b lines) s (fun e => e.hif.bulk = s.dev.hif.bulk ++ [{ out with status := 2 }] ∧
          Noticed s.dev e 0x2007 (leN 1 slot ++ zeros 3 ++ leN 4 c.toNat))) ∧
      (le b 8 8 % 64 = 0 → frameDiff c s.dev.clk.rp.frame ≤ 16777216 →
        s.dev.clk.rp.reached { frame := c + BitVec.ofNat 32 (presentP s.dev) - 1, line := cutLine s.dev, sub := 0 } = false →
        slot ≤ 15 → s.dev.clk.rp.before (RP.start c) = true → bulkTwice slot c s.dev = false → Does (.bulkEntryRead b lines) s (fun e =>
          e.hif = { s.dev.hif with fetchB := s.dev.hif.fetchB + 1, bulk := s.dev.hif.bulk ++ [{ out with done := false, waits := true }] } ∧
          SameBut [.hif] s.dev e)) ∧
      (∀ r m ys, le b 8 8 % 64 = 0 → frameDiff c s.dev.clk.rp.frame ≤ 16777216 →
        s.dev.clk.rp.reached { frame := c + BitVec.ofNat 32 (presentP s.dev) - 1, line := cutLine s.dev, sub := 0 } = false →
        s.dev.clk.rp.before (RP.start c) = false → slot ≤ 15 → recFor (slotOf s.dev slot) c = some r → r.kind = 2 →
        s.dev.gest.slots.length = 16 → (∀ x ∈ s.dev.hif.bulk, x.pos ≠ s.dev.hif.fetchB) →
        cutMap s.dev c = some m → ys = bulkLines s.dev slot r m →
        (bulkTwice slot c s.dev = true → Does (.bulkEntryRead b lines) s (fun e =>
          e.hif = { s.dev.hif with fetchB := s.dev.hif.fetchB + 1, bulk := s.dev.hif.bulk ++ [{ out with status := 2 }] })) ∧
        (bulkTwice slot c s.dev = false → Does (.bulkEntryRead b lines) s (fun e =>
          e.hif.fetchB = s.dev.hif.fetchB + 1 ∧ (slotOf e slot).lastC = c ∧
          ∃ x, e.hif.bulk = s.dev.hif.bulk ++ [x] ∧ x.pos = out.pos ∧ x.slot = slot ∧ x.content = c ∧ x.addr = out.addr ∧ x.tag = out.tag ∧
            x.reads.map (fun l => l.2) = ys.filter (fun y => lines.getD y .none == .none) ∧ x.done = x.reads.isEmpty ∧
            ((∃ y ∈ ys, lines.getD y .none = .busError) → x.status = 0x0A) ∧
            ((∀ y ∈ ys, lines.getD y .none ≠ .busError) → x.status = 0))))) ∧
    (∀ x r, s.dev.hif.bulk = x :: r →
      (x.done = true → Does .bulkEntryComplete s (fun e => e.hif.bulk = r ∧
        e.host = s.dev.host ++
          [{ addr := s.dev.hif.ring.bulkBase + 32 * (x.pos.toNat % max 1 (bulkSlots s.dev)) + 0x14, bytes := [x.status] },
           { addr := s.dev.hif.ring.bulkBase + 32 * (x.pos.toNat % max 1 (bulkSlots s.dev)) + 0x18, bytes := leN 4 x.pos.toNat }] ∧
        SameBut [.hif, .host] s.dev e)) ∧
      (x.done = false → Does .bulkEntryComplete s (fun e => e = s.dev)))

/-! ### Redundancy and switchover -/

/-- Lockstep engines (R348, R350, R351, R353, R354): a mismatch waits for arbitration by the standby, or for repeats
where there is none; the engine outvoted retires and the standby takes its place; three different signatures stay
unresolved; a failing active engine fails for good; a RETIRED one becomes STANDBY after 1,000 passing rounds in a row.
Where the rules leave room it follows the model's log entries 54, 55, 148. It says where these complete:
signatureMismatch, arbitrationDecided, unitSelftestDone, selftestRoundDone. -/
def Obligations.EnginesArbitrated : Prop :=
  (∀ (m : Mismatch) (s : State), s.dev.isNode = true → s.dev.red.engines.any (fun e => e == .active) = true →
    s.dev.red.testCmds = [] →
    Does (.signatureMismatch m) s (fun e => e.red = { s.dev.red with arbs := s.dev.red.arbs ++ [{ item := m, at_ := s.dev.clk.rp, frame := composedFrame s.dev, repeats := (standbyEngine s.dev).isNone, testing := false, cmd := none }] } ∧
      e.pxl = { s.dev.pxl with graphQ := e.pxl.graphQ } ∧ (m.parity = false → SameBut [.red, .pxl] s.dev e) ∧
      (m.parity = true → e.spare.qParity = modAt s.dev.spare.qParity (10 + m.engine.val) (fun k => satAdd 255 k 1) ∧
        SameBut [.red, .pxl, .spare] s.dev e))) ∧
  (∀ (a : Arb) (s : State), s.dev.red.arbs = [a] → a.cmd = none → a.testing = false → s.dev.red.engines.length = 3 →
    (∀ (x : Fin 3) (k : Nat), a.repeats = false → engineOf s.dev x.val = .active → standbyEngine s.dev = some k →
      Does (.arbitrationDecided (some x)) s (fun e => e.red.arbs = [] ∧ engineOf e x.val = .retired ∧ engineOf e k = .active ∧
        e.red.switches = satAdd 65535 s.dev.red.switches 1 ∧ e.word 0x5810 = satAdd 0xFFFFFFFF (s.dev.word 0x5810) 1 ∧
        Told e 0x5001 (leN 1 x.val ++ leN 1 k ++ leN 1 a.item.op.val ++ zeros 1 ++ leN 4 a.frame.toNat ++ a.at_.bytes))) ∧
    (a.repeats = false → Does (.arbitrationDecided none) s (fun e => e.red = { s.dev.red with arbs := [], unresolved := satAdd 65535 s.dev.red.unresolved 1 } ∧
      Told e 0x5002 (leN 4 a.frame.toNat ++ leN 2 (min (arbSegs a (staleGraph s.dev)).length 65535) ++ zeros 2) ∧
      SameBut (.tim :: .pxl :: .red :: .out :: .spare :: .regs :: .proofIn :: reporting) s.dev e)) ∧
    (a.repeats = true → (∀ x, Does (.arbitrationDecided (some x)) s (fun e => e.red = { s.dev.red with arbs := [] } ∧
        SameBut (.tim :: .pxl :: .red :: .out :: .spare :: .regs :: .proofIn :: reporting) s.dev e)) ∧
      (pairServes s.dev = true → Does (.arbitrationDecided none) s (fun e =>
        e.red = { s.dev.red with arbs := [{ a with testing := true, voided := (arbSegs a (staleGraph s.dev)).length }] } ∧
        SameBut (.tim :: .pxl :: .red :: .out :: .spare :: .regs :: .proofIn :: reporting) s.dev e)))) ∧
  (∀ (a : Arb) (p : RP) (c : Cmd) (s : State) (x : Fin 3) (k : Nat), s.dev.red.arbs = [a] → a.cmd = some (p, c) → a.testing = false →
    a.repeats = false → s.dev.red.engines.length = 3 → engineOf s.dev x.val = .active → standbyEngine s.dev = some k →
    Does (.arbitrationDecided (some x)) s (fun e => engineOf e x.val = .retired ∧ engineOf e k = .active ∧
      Reported e 0x51 c p (leN 1 x.val))) ∧
  (∀ (a : Arb) (s : State) (kind : Nat), s.dev.red.arbs = [a] → a.cmd = none → a.testing = true → s.dev.red.engines.length = 3 →
    Does (.unitSelftestDone [true, true, true] kind) s (fun e => e.red = { s.dev.red with arbs := [], unresolved := satAdd 65535 s.dev.red.unresolved 1 } ∧
      Told e 0x5002 (leN 4 a.frame.toNat ++ leN 2 (min a.voided 65535) ++ zeros 2)) ∧
    (engineOf s.dev 0 = .active → Does (.unitSelftestDone [false, true, true] kind) s (fun e => e.red.arbs = [] ∧
      engineOf e 0 = .failed ∧ engineOf e 1 = engineOf s.dev 1 ∧ Told e 0x5004 (leN 1 0 ++ leN 1 kind ++ zeros 2)))) ∧
  (∀ (x : Fin 3) (s : State), s.dev.red.engines.length = 3 → s.dev.red.passes.length = 3 →
    (engineOf s.dev x.val = .retired → thriceRetired s.dev (s.dev.red.retireLog.getD x.val []) = false →
      (999 ≤ nth s.dev.red.passes x.val → Does (.selftestRoundDone x .pass) s (fun e => engineOf e x.val = .standby ∧
        Noticed s.dev e 0x5003 (leN 1 x.val ++ zeros 3))) ∧
      (nth s.dev.red.passes x.val < 999 → Does (.selftestRoundDone x .pass) s (fun e => engineOf e x.val = .retired ∧
        nth e.red.passes x.val = nth s.dev.red.passes x.val + 1 ∧ SameBut [.red] s.dev e))) ∧
    (engineOf s.dev x.val = .standby ∨ engineOf s.dev x.val = .retired →
      (∀ k, Does (.selftestRoundDone x (.fail k)) s (fun e => engineOf e x.val = .failed ∧
        NoticedFirst s.dev e 0x5004 (leN 1 x.val ++ leN 1 k ++ zeros 2))) ∧
      Does (.selftestRoundDone x .late) s (fun e => e = s.dev.bump 0x5814 1)))

/-- Output copies and PLLs (R357 to R361, R373, R375): copies that differ begin an output hold, and the one that fails
its self-check retires; a faulty PLL's standby takes over and is a spare used; one that passes its retest is the
standby again; the hold's end is reported, and what ran in it goes on where it stood. Where the rules leave room it
follows the model's log entries 54, 56. It says where these complete: outputCopyMismatch, pllFaultDetected, pllRetest,
outputHoldResume, outputCopyRetire24h. -/
def Obligations.CopiesAndPlls : Prop :=
  (∀ (s : State) (x y : CopyState), s.dev.red.copies = [x, y] → copyServes s.dev 0 = true → copyServes s.dev 1 = true →
    s.dev.red.hold = none → s.dev.red.copyLog = [[], []] →
    Does (.outputCopyMismatch true true) s (fun e => e.red.copies = [.driving, .shadowing] ∧
      e.red.hold = some { cause := 1, onset := s.dev.clk.rp } ∧ e.red.holds = satAdd 65535 s.dev.red.holds 1) ∧
    Does (.outputCopyMismatch true false) s (fun e => e.red.copies = [.driving, .retired] ∧
      e.red.hold = some { cause := 1, onset := s.dev.clk.rp } ∧ e.red.copyLog = [[], [s.dev.spare.run]]) ∧
    Does (.outputCopyMismatch false true) s (fun e => e.red.copies = [.retired, .driving] ∧
      e.red.hold = some { cause := 1, onset := s.dev.clk.rp }) ∧
    Does (.outputCopyMismatch false false) s (fun e => e.red.copies = [.retired, .retired] ∧ e.out.running = false)) ∧
  (∀ (f : Fin 7) (s : State), s.dev.red.pllStandby.length = 7 → s.dev.red.pllUse.length = 7 →
    (s.dev.red.pllStandby.getD f.val false = true → Does (.pllFaultDetected f) s (fun e =>
      e.red.pllUse = s.dev.red.pllUse.set f.val (!(s.dev.red.pllUse.getD f.val false)) ∧
      e.red.pllStandby = s.dev.red.pllStandby.set f.val false ∧ (f.val = 2 → e.red.hold.isSome = true) ∧
      e.spare.uses = s.dev.spare.uses ++ [{ kind := 9, unit := f.val, at_ := s.dev.spare.run }] ∧
      NoticedFirst s.dev e 0x500A (leN 1 f.val ++ leN 1 (bit (!(s.dev.red.pllUse.getD f.val false))) ++ zeros 2))) ∧
    (s.dev.red.pllStandby.getD f.val false = false → Does (.pllRetest f true) s (fun e =>
      e.red = { s.dev.red with pllStandby := s.dev.red.pllStandby.set f.val true } ∧ e.spare.uses = s.dev.spare.uses)) ∧
    (s.dev.red.pllStandby.getD f.val false = true → Does (.pllRetest f false) s (fun e =>
      e.red = { s.dev.red with pllStandby := s.dev.red.pllStandby.set f.val false } ∧
      e.spare.uses = s.dev.spare.uses ++ [{ kind := 9, unit := f.val, at_ := s.dev.spare.run }]))) ∧
  (∀ (gap : Nat) (h : OutHold) (s : State), s.dev.red.hold = some h →
    Does (.outputHoldResume gap) s (fun e => e.red = { s.dev.red with hold := none } ∧
      Noticed s.dev e 0x5005 (leN 1 h.cause ++ zeros 3 ++ leN 4 gap ++ h.onset.bytes) ∧ e.out.resumed = some s.dev.clk.rp ∧
      e.out.sections = s.dev.out.sections.map (fun x => { x with
        start := (if h.onset.before x.start then s.dev.clk.rp
          else RP.plus s.dev.clk.raster x.start (RP.dist s.dev.clk.raster s.dev.clk.rp h.onset)) }) ∧
      SameBut (.tim :: .out :: .red :: reporting) s.dev e)) ∧
  (∀ (c : Fin 2) (s : State), s.dev.red.copies.getD c.val .failed = .retired → s.dev.spare.out24.contains c.val = false →
    Does (.outputCopyRetire24h c) s (fun e => e.spare.out24 = s.dev.spare.out24 ++ [c.val] ∧
      e.spare.uses = s.dev.spare.uses ++ [{ kind := 2, unit := c.val, at_ := s.dev.spare.run }] ∧
      SameBut (.spare :: reporting) s.dev e))

/-- REDUNDANCY_QUERY returns the states of engines, copies and feeds and changes nothing (R371); REDUNDANCY_TEST
injects a wrong signature into an active engine with a standby, or asks for a probe, and is refused an operand it does
not know (R370). It says where these complete: redundancyQuery, redundancyTest. -/
def Obligations.RedundancyCommands : Prop :=
  ∀ (c : Cmd) (s : State),
    Does (.redundancyQuery c) s (fun e => Finished s.dev e 0x50 c s.dev.clk.rp (leN 1 (engByte s.dev) ++
      leN 1 (copyBits s.dev + 16 * bit (s.dev.red.pllUse.getD 2 false)) ++ leN 2 s.dev.red.switches ++ leN 2 s.dev.red.share ++
      leN 1 (bit (feedOf s.dev 0).present + 2 * bit (feedOf s.dev 1).present + 4 * bit (feedOf s.dev 0).fault +
        8 * bit (feedOf s.dev 1).fault) ++ zeros 1 ++ leN 2 (feedOf s.dev 0).mv ++ leN 2 (feedOf s.dev 1).mv ++
      leN 2 s.dev.red.holds ++ leN 2 s.dev.red.unresolved) ∧ SameBut (.comps :: reporting) s.dev e) ∧
    (opB c 0 = 0 → s.dev.isNode = true → opB c 1 ≤ 2 → engineOf s.dev (opB c 1) = .active → (standbyEngine s.dev).isSome = true →
      Does (.redundancyTest c) s (fun e => e.red = { s.dev.red with testCmds := s.dev.red.testCmds ++ [(opB c 1, boundaryRp s.dev, c)] } ∧
        SameBut [.red] s.dev e)) ∧
    (opB c 0 = 1 → probeSkipped s.dev false = false →
      Does (.redundancyTest c) s (fun e => e.red = { s.dev.red with probeCmds := s.dev.red.probeCmds ++ [(boundaryRp s.dev, c)] } ∧
        SameBut [.red] s.dev e)) ∧
    (1 < opB c 0 → Does (.redundancyTest c) s (fun e => Completed s.dev e 0x51 c 4 none [] ∧
      SameBut (.comps :: reporting) s.dev e))

/-- Opcodes 0x52 and 0x53 (R386, R387). HEALTH_QUERY is EXACT and completes OK with health, reason, the kinds reached
and predicted, the spares left, the worst ageing site and the least predicted days. SPARE_APPLY is BOUNDARY and
completes OK once the deferred substitution is made, NOT_APPLICABLE where none is deferred on that port, and
INVALID_OPERAND for another port. Where the rules leave room it follows the model's log entry 59. It says where these
complete: healthQuery, spareApply. -/
def Obligations.HealthCommands : Prop :=
  (classOf 0x52 = .exact ∧ classOf 0x53 = .boundary) ∧
  ∀ (c : Cmd) (s : State),
    Does (.healthQuery c) s (fun e => Finished s.dev e 0x52 c s.dev.clk.rp (leN 1 (healthCode s.dev.spare.health) ++
      leN 1 (reasonCode s.dev) ++ zeros 2 ++ leN 4 (reachedNow s.dev + 65536 * s.dev.spare.predicted) ++
      leN 1 (spareLeft s.dev 3 0) ++ leN 1 (spareLeft s.dev 4 0) ++ leN 1 (spareLeft s.dev 5 0) ++ leN 1 (spareLeft s.dev 11 0) ++
      leN 2 s.dev.spare.ageing ++ leN 2 (leastDays s.dev)) ∧ SameBut (.comps :: reporting) s.dev e) ∧
    (∀ p lane, p = 0 ∨ p = 1 → opB c 0 = 8 + p → deferredOn s.dev (8 + p) = [lane] → spareLeft s.dev 5 0 ≠ 0 →
      Does (.spareApply c) s (fun e => deferredOn e (8 + p) = [] ∧
        e.spare.uses = s.dev.spare.uses ++ [{ kind := 5, unit := lane, at_ := s.dev.spare.run }] ∧
        Finished s.dev e 0x53 c (boundaryRp s.dev) [])) ∧
    (∀ p, p = 0 ∨ p = 1 → opB c 0 = 8 + p → deferredOn s.dev (8 + p) = [] →
      Does (.spareApply c) s (fun e => e.spare = s.dev.spare ∧ Completed s.dev e 0x53 c 6 none [] ∧ SameBut (.comps :: reporting) s.dev e)) ∧
    (opB c 0 ≠ 8 → opB c 0 ≠ 9 → Does (.spareApply c) s (fun e => Completed s.dev e 0x53 c 4 none [] ∧
      SameBut (.comps :: reporting) s.dev e))

/-- Spares and wear monitors (R218, R257, R292, R373, R375 to R377): an ageing sample is kept for the day's mean; a
poor eye three times running brings in a slice, while one is left; failed segments, a regulator phase and a pad leg
are each a spare used; a failed core leaves its role; late firmware is reported, at most once in a frame, and counted;
a word read poisoned in the calibration store is reported and its repair taken up, an upset of the frame store lies in
it, and an error of another store is counted or voids the segments it feeds (R355). Where the rules leave room it
follows the model's log entries 48, 58, 131, 149, 155, 160, 161. It says where these complete: ageingSample,
exhaustionPrediction, eyeWidthSample, segmentAmplitudeCheck, regulatorPhaseRemove, padLegFault, coreSelftest,
fwEventLate, calBankFillDone, holdBufferCopyDone, calStoreScrub, calStoreRepair. -/
def Obligations.SparesBroughtIn : Prop :=
  ∀ s : State,
    (∀ worst, Does (.ageingSample worst) s (fun e => e.spare.ageing = worst ∧
      e.spare.ageToday = s.dev.spare.ageToday ++ [worst] ∧ SameBut (.spare :: reporting) s.dev e)) ∧
    Does .exhaustionPrediction s (fun e => e.spare.ageToday = [] ∧
      (s.dev.spare.ageToday = [] → e.spare.ageDays = lastN 90 s.dev.spare.ageDays) ∧
      (∀ a, s.dev.spare.ageToday = [a] → e.spare.ageDays = lastN 90 (s.dev.spare.ageDays ++ [a])) ∧
      SameBut (.spare :: reporting) s.dev e) ∧
    (∀ (lane : Fin 16) (w : Nat), s.dev.spare.eyes.length = 16 → s.dev.spare.eyeLow.length = 16 →
      (200 ≤ w → Does (.eyeWidthSample lane w) s (fun e => nth e.spare.eyes lane.val = w ∧ nth e.spare.eyeLow lane.val = 0 ∧
        SameBut [.spare] s.dev e)) ∧
      (w < 200 → nth s.dev.spare.eyeLow lane.val = 2 → s.dev.spare.eyeSwap.getD lane.val false = false →
        s.dev.spare.eyeBar.getD lane.val false = false → s.dev.spare.sliceGone.contains lane.val = false → lane.val < 8 →
        (spareLeft s.dev 5 0 ≠ 0 → Does (.eyeWidthSample lane w) s (fun e => nth e.spare.eyeLow lane.val = 0 ∧
          e.spare.uses = s.dev.spare.uses ++ [{ kind := 5, unit := lane.val, at_ := s.dev.spare.run }])) ∧
        (spareLeft s.dev 5 0 = 0 → Does (.eyeWidthSample lane w) s (fun e => e.spare.uses = s.dev.spare.uses ∧
          e.spare.sliceGone = s.dev.spare.sliceGone ++ [lane.val])))) ∧
    (∀ lane : Fin 16, spareLeft s.dev 6 lane.val ≠ 0 → Does (.segmentAmplitudeCheck lane 1) s (fun e =>
      e.spare.uses = s.dev.spare.uses ++ [{ kind := 6, unit := lane.val, at_ := s.dev.spare.run }] ∧
      SameBut (.spare :: reporting) s.dev e)) ∧
    (∀ p : Fin 6, (usesOf s.dev 8).any (fun u => u.unit == p.val) = false → Does (.regulatorPhaseRemove p) s (fun e =>
      e.spare.uses = s.dev.spare.uses ++ [{ kind := 8, unit := p.val, at_ := s.dev.spare.run }] ∧
      SameBut (.spare :: reporting) s.dev e)) ∧
    (∀ p : Fin 98, (usesOf s.dev 7).any (fun u => u.unit == p.val) = false → Does (.padLegFault p) s (fun e =>
      e.spare.uses = s.dev.spare.uses ++ [{ kind := 7, unit := p.val, at_ := s.dev.spare.run }] ∧
      SameBut (.spare :: reporting) s.dev e)) ∧
    (∀ c : Fin 5, s.dev.spare.coreOut.contains c.val = false →
      (coreDue s.dev c.val = false → ∀ pass, Does (.coreSelftest c pass) s (fun e => e = s.dev)) ∧
      (coreDue s.dev c.val = true → Does (.coreSelftest c true) s (fun e => SameBut [.spare] s.dev e ∧ e.spare.cores = s.dev.spare.cores ∧
        e.spare.uses = s.dev.spare.uses) ∧
      Does (.coreSelftest c false) s (fun e => e.spare.cores = coreRoles s.dev.spare c.val ∧
        e.spare.coreOut = s.dev.spare.coreOut ++ [c.val] ∧ SameBut (.spare :: reporting) s.dev e))) ∧
    (∀ (role : Fin 4) (us : Nat) (due : RP), us ≤ 0xFFFFFFFF → Does (.fwEventLate role us due) s (fun e =>
      (s.dev.spare.fwTold = some s.dev.clk.rp.frame → e.notes = s.dev.notes) ∧
      (s.dev.spare.fwTold ≠ some s.dev.clk.rp.frame → ∃ x : RP, Noticed s.dev e 0x0120 (leN 1 role.val ++ leN 1 (s.dev.spare.cores.getD role.val 0) ++ zeros 2 ++ leN 4 us ++ x.bytes) ∧
        (due.line < s.dev.clk.raster.lines → due.sub < 65536 → x = due) ∧ (0 < s.dev.clk.raster.lines → x.line < s.dev.clk.raster.lines)) ∧
      (s.dev.spare.cores.getD role.val 0 < s.dev.spare.coreLate.length → nth e.spare.coreLate (s.dev.spare.cores.getD role.val 0) =
        satAdd 255 (nth s.dev.spare.coreLate (s.dev.spare.cores.getD role.val 0)) 1) ∧
      SameBut (.tim :: .topo :: .spare :: reporting) s.dev e)) ∧
    Does .calBankFillDone s (fun e => e.spare = { s.dev.spare with fills := s.dev.spare.fills.drop 1 } ∧ SameBut [.spare] s.dev e) ∧
    (∀ layer : Fin 8, Does (.holdBufferCopyDone layer) s (fun e => SameBut [.pxl] s.dev e ∧
      ∀ b ∈ e.pxl.buffers, b.layer = layer.val → b.hold = true → b.moving = false)) ∧
    (∀ (x : CalError) (p r : Nat), x.uncorrected = true → s.dev.corr.poison = [] → s.dev.spare.repaired = [] →
      p = (recordNow s.dev).primaries → r = calRegion p x.word → x.word < calWords → r ≠ 4 →
      Does (.calStoreScrub (.cal x)) s (fun e => e.corr.poison = [x.word] ∧
        Noticed s.dev e 0x3013 (leN 1 (nth [0, 1, 1, 2] r) ++ zeros 1 ++ leN 4 (calPixel p x.word) ++ zeros 2))) ∧
    (∀ y, Does (.calStoreScrub (.store y)) s (fun e => e.pxl = { s.dev.pxl with upsets := s.dev.pxl.upsets ++ [y] } ∧ SameBut [.pxl] s.dev e)) ∧
    Does (.calStoreScrub (.other none)) s (fun e => e = s.dev.bump 0x5820 1) ∧
    (∀ (ys : List (Nat × Nat)), s.dev.pxl.graph = none → Does (.calStoreScrub (.other (some ys))) s (fun e =>
      e.word 0x380C = satAdd 0xFFFFFFFF (s.dev.word 0x380C) ys.length ∧ e.pxl.voids = s.dev.pxl.voids ++ ys)) ∧
    (∀ (ys : List (Nat × Nat)) (g : Graph), s.dev.pxl.graph = some g → (∀ x ∈ ys, g.released ≤ segIndex g.record x.1 x.2) → Does (.calStoreScrub (.other (some ys))) s (fun e =>
      e.pxl = { s.dev.pxl with graph := some { g with voids := g.voids ++ ys } } ∧ SameBut [.pxl] s.dev e)) ∧
    (∀ x, s.dev.corr.poison = [x] → Does .calStoreRepair s (fun e => e.corr.poison = [] ∧ (calBank s.dev x, x % 256) ∈ e.spare.repaired ∧
      SameBut [.corr, .spare] s.dev e))

/-! ### Correction, exposure and wear -/

/-- Wear passes and the records in flash (R298, R300, R301, R303, R305, R306): a pass computes every gain and phases
it in; a changed correction record is written to the area that does not hold the newest, and a write that fails is
reported; an exposure save writes the counters as they stood, and its command completes with the record's sequence and
area. Where the rules leave room it follows the model's log entries 47, 49. It says where these complete:
wearPassTimer, wearPassDone, correctionRecordWrite, correctionRecordWriteDone, expoSaveTimer, expoSave, expoSaveDone.
-/
def Obligations.RecordsKept : Prop :=
  ∀ s : State,
    (s.dev.isNode = true → s.dev.corr.wear.frozen = false → s.dev.corr.passing = false → s.dev.corr.phase = none →
      Does .wearPassTimer s (fun e => e.corr.passing = true ∧ e.corr.passDue = false ∧ SameBut (.corr :: reporting) s.dev e)) ∧
    (s.dev.isNode = true → s.dev.corr.wear.frozen = false → s.dev.corr.passing = true →
      Does .wearPassTimer s (fun e => e.corr = { s.dev.corr with passDue := true } ∧ SameBut [.corr] s.dev e)) ∧
    (s.dev.corr.passing = true → Does .wearPassDone s (fun e => e.corr.passing = false ∧
      e.corr.cand = (wearCompute (recordNow s.dev) s.dev.corr).cand ∧ e.corr.gain = s.dev.corr.gain ∧
      e.corr.phase = some { first := nextBoundary s.dev, n := nearest 1 65535 (s.dev.field 0x3854 15 0) } ∧
      SameBut (.corr :: .pxl :: reporting) s.dev e)) ∧
    (s.dev.corr.corrDirty = true → s.dev.corr.corrWriting = none →
      Does .correctionRecordWrite s (fun e => e.corr = { s.dev.corr with corrDirty := false, corrWriting := some (otherArea (newestCorr s.dev.corr), corrRecNow s.dev) } ∧
        SameBut [.corr] s.dev e)) ∧
    (∀ a r, s.dev.corr.corrWriting = some (a, r) →
      Does (.correctionRecordWriteDone true) s (fun e => e.corr = { s.dev.corr with corrWriting := none, corrRecs := setAt s.dev.corr.corrRecs a (some r) } ∧
        SameBut [.corr] s.dev e) ∧
      Does (.correctionRecordWriteDone false) s (fun e => e.corr = { s.dev.corr with corrWriting := none, corrDirty := true, corrRecs := setAt s.dev.corr.corrRecs a none } ∧
        Noticed s.dev e 0x3011 (leN 1 a ++ zeros 3) ∧ SameBut (.corr :: reporting) s.dev e)) ∧
    (s.dev.isNode = true → s.dev.corr.expoSave = none → Does .expoSaveTimer s (fun e =>
      e.corr = { s.dev.corr with expoSave := some { area := otherArea (newestExpo s.dev.corr), cmd := none, erec := expoRecNow s.dev } } ∧
      SameBut [.corr] s.dev e)) ∧
    (∀ c, s.dev.isNode = true → s.dev.corr.expoSave = none → Does (.expoSave c) s (fun e =>
      e.corr = { s.dev.corr with expoSave := some { area := otherArea (newestExpo s.dev.corr), cmd := some (s.dev.clk.rp, c), erec := expoRecNow s.dev } } ∧
      SameBut [.corr] s.dev e)) ∧
    (∀ c, s.dev.isNode = false → Does (.expoSave c) s (fun e => Completed s.dev e 0x36 c 5 none [] ∧ e.corr = s.dev.corr)) ∧
    (∀ x p c, s.dev.corr.expoSave = some x → x.cmd = some (p, c) → s.dev.corr.expoCmds = [] → s.dev.corr.expoDue = false →
      Does (.expoSaveDone true) s (fun e => e.corr = { s.dev.corr with expoSave := none, expoRecs := setAt s.dev.corr.expoRecs x.area (some x.erec), savedAt := s.dev.corr.runSecs } ∧
        Finished s.dev e 0x36 c p (leN 4 x.erec.seq.toNat ++ leN 1 x.area)) ∧
      Does (.expoSaveDone false) s (fun e => e.corr = { s.dev.corr with expoSave := none, expoRecs := setAt s.dev.corr.expoRecs x.area none } ∧
        Noticed s.dev e 0x3012 (leN 1 x.area ++ zeros 3) ∧ Completed s.dev e 0x36 c 0x0B none []))

/-- Correction commands (R293, R294, R296, R308, R310): CCM_LOAD and ENC_LUT_LOAD put a table in force at the next
display frame whose graph is not built; WEAR_SET puts its record in force, or is refused whole; the exposure data
register reads and writes the counter the index selects and moves the index on. Where the rules leave room it follows
the model's log entry 48. It says where these complete: ccmLoad, encLutLoad, wearSet, pxlExpoDataRead,
pxlExpoDataWrite. -/
def Obligations.CorrectionCommands : Prop :=
  ∀ s : State, s.dev.isNode = true →
    (∀ (c : Cmd) (b : List Byte), misaligned c = false → c.host = .data b →
      ((recordNow s.dev).width ≠ 0 → ccmFits none s.dev = true →
        (sameWindow (some (recordNow s.dev)) (recordAt s.dev (nextDisplay s.dev)) = true →
          Does (.ccmLoad c) s (fun e => e.corr.matrix = matrixTable (recordAt s.dev (nextDisplay s.dev)) b ∧
            e.corr.corrDirty = true ∧ Finished s.dev e 0x33 c (RP.start (nextDisplay s.dev)) [] ∧
            SameBut (.corr :: .comps :: reporting) s.dev e)) ∧
        (sameWindow (some (recordNow s.dev)) (recordAt s.dev (nextDisplay s.dev)) = false →
          Does (.ccmLoad c) s (fun e => Completed s.dev e 0x33 c 4 none (leN 1 2) ∧ e.corr = s.dev.corr))) ∧
      (opB c 9 < (recordAt s.dev (nextDisplay s.dev)).primaries →
        Does (.encLutLoad c) s (fun e => e.corr = { s.dev.corr with corrDirty := true, encLuts := setAt s.dev.corr.encLuts (opB c 9) (some (lutOf b)) } ∧
          Finished s.dev e 0x34 c (RP.start (nextDisplay s.dev)) [] ∧ SameBut (.corr :: .comps :: reporting) s.dev e)) ∧
      (wearGood (recordNow s.dev).primaries b = true → s.dev.cal.running.getD 1 none = none →
        Does (.wearSet c) s (fun e => e.corr.wear.frozen = (le b 0 1 == 1) ∧
          (∀ i, i < 4 → i < (recordNow s.dev).primaries → nth e.corr.wear.target i = le b (0x10 + 4 * i) 4 ∧
            e.corr.wear.curves.getD i none = keepCurve (curveOf b i)) ∧
          e.corr.wear.kappa = (if hasBit (le b 1 1) 0 then [32768, 32768, 32768, 32768] else s.dev.corr.wear.kappa) ∧
          e.corr.corrDirty = true ∧ Finished s.dev e 0x35 c (boundaryRp s.dev) [] ∧
          SameBut (.corr :: .comps :: reporting) s.dev e)) ∧
      (wearGood (recordNow s.dev).primaries b = false →
        Does (.wearSet c) s (fun e => Completed s.dev e 0x35 c 4 none [] ∧ e.corr = s.dev.corr))) ∧
    (∀ k, expoSelected s.dev = some k →
      Does .pxlExpoDataRead s (fun e => e.lastRead = BitVec.ofNat 32 (mget s.dev.corr.expo k 0) ∧
        e.word 0x3844 = (s.dev.field 0x3844 18 0 + 1) % 2 ^ 19 ∧ SameBut [.lastRead, .regs] s.dev e) ∧
      (∀ v, Does (.pxlExpoDataWrite v) s (fun e => mget e.corr.expo k 0 = v.toNat ∧
        (∀ j, j ≠ k → mget e.corr.expo j 0 = mget s.dev.corr.expo j 0) ∧
        e.word 0x3844 = (s.dev.field 0x3844 18 0 + 1) % 2 ^ 19 ∧ SameBut [.corr, .regs] s.dev e)))

/-! ### Fixtures -/

/-- DMX ports and RDM (R421 to R426, R429 to R431): DMX_CONFIG puts a record in force; at its break a port sends the
data in force, or the RDM request whose turn it is; a lost source is reported; an RDM request waits for its turn and
completes with its outcome and response; a discovery gives the list of UIDs. Where the rules leave room it follows the
model's log entries 65, 66, 167. It says where these complete: dmxConfig, dmxBreak, dmxSourceLost, rdmResponse,
rdmDiscoveryTimer, rdmRequest. -/
def Obligations.DmxPortsServed : Prop :=
  (∀ (c : Cmd) (s : State) (n : NodeRecord) (x : DmxPort), s.dev.isNode = true → opB c 0 ≤ 15 → s.dev.topo.record = some n →
    s.dev.fix.ports[opB c 0]? = some x → x.running = none → x.jobs = [] → hasBit n.dmxMask (opB c 0) = true →
    dmxRanges s.dev.clk.raster (dmxRecOf c) = true →
    (dmxFits s.dev.clk.raster (dmxRecOf c) = true → Does (.dmxConfig c) s (fun e =>
      e.fix.ports = s.dev.fix.ports.set (opB c 0) { x with drec := dmxRecOf c, engSlots := [] } ∧
      ((dmxRecOf c).persist = true → e.fix.dirty = true ∧ e.fix.image.ports = setAt s.dev.fix.image.ports (opB c 0) (dmxRecOf c)) ∧
      Finished s.dev e 0x60 c (boundaryRp s.dev) [] ∧ SameBut (.fix :: .comps :: reporting) s.dev e)) ∧
    (dmxFits s.dev.clk.raster (dmxRecOf c) = false → Does (.dmxConfig c) s (fun e => Completed s.dev e 0x60 c 4 none [2] ∧
      SameBut (.comps :: reporting) s.dev e))) ∧
  (∀ (p : Fin 16) (s : State) (x : DmxPort) (t r : RP), NoFades s.dev → nextEntry s.dev = none → fixturesOn s.dev = true → s.dev.clk.hold = none →
    s.dev.fix.ports[p.val]? = some x → x.drec.enable = true → nextBreak s.dev x = some t → r = (s.dev.clk.reach t).rp →
    x.busyTo = none → x.running = none → x.fault = false →
    (∀ b, x.drec.rdm = false → packetBytes x r.frame = some b → Does (.dmxBreak p false) s (fun e => e.clk = s.dev.clk.reach t ∧
      (dmxOf e p.val).sent = b ∧ (dmxOf e p.val).lastAt = some r ∧ (dmxOf e p.val).busyTo.isSome = true ∧ (dmxOf e p.val).packet = some (r, x.drec) ∧
      (dmxOf e p.val).drec = x.drec ∧ SameBut [.clk, .fix] s.dev e)) ∧
    (∀ j, x.drec.rdm = true → x.drec.share ≤ x.since + 1 → x.jobs = [j] → j.discover = false → rdmBroadcast j.message = false →
      Does (.dmxBreak p false) s (fun e => (dmxOf e p.val).running = some j ∧ (dmxOf e p.val).jobs = [] ∧
        (dmxOf e p.val).since = 0 ∧ (dmxOf e p.val).tn = x.tn + 1 ∧ (dmxOf e p.val).sent = rdmRequestBytes s.dev p.val j.message))) ∧
  (∀ (p : Fin 16) (s : State) (x : DmxPort), fixturesOn s.dev = true → s.dev.fix.ports[p.val]? = some x →
    (∀ n, x.drec.enable = true → x.lost = false → x.new = some n → Does (.dmxSourceLost p) s (fun e =>
      e.fix = { s.dev.fix with ports := s.dev.fix.ports.set p.val { x with lost := true } } ∧
      Noticed s.dev e 0x6006 (leN 1 p.val ++ leN 1 0 ++ zeros 2 ++ leN 4 n.stamp.toNat) ∧ SameBut (.fix :: reporting) s.dev e)) ∧
    (∀ (j : RdmJob) (o : Fin 4) (b : List Byte), x.running = some j → (o.val = 0 ∨ b = []) → Does (.rdmResponse p o b) s (fun e =>
      e.fix = { s.dev.fix with ports := s.dev.fix.ports.set p.val { x with running := none, resp := b.take 257 } } ∧
      Finished s.dev e 0x61 j.cmd j.at_ (leN 1 o.val ++ zeros 1 ++ leN 2 (b.take 257).length ++ (b.take 257).take 24))) ∧
    (∀ uids, x.drec.enable = true → x.drec.rdm = true → x.jobs = [] → s.dev.field 0x4814 11 0 ≠ 0 → uids ≠ x.uids → uids.length ≤ 64 →
      Does (.rdmDiscoveryTimer p uids) s (fun e => (dmxOf e p.val).uids = uids ∧ (dmxOf e p.val).overflow = false ∧
        Noticed s.dev e 0x6002 (leN 1 p.val ++ zeros 1 ++ leN 2 x.uids.length ++ leN 2 uids.length)))) ∧
  (∀ (c : Cmd) (s : State) (x : DmxPort) (b : List Byte), s.dev.isNode = true → misaligned c = false → opB c 8 ≤ 15 → opB c 9 = 0 →
    s.dev.fix.ports[opB c 8]? = some x → c.host = .data b → be b 0 1 = 0xCC → be b 1 1 = 1 → 24 ≤ be b 2 1 →
    ((x.drec.enable && x.drec.rdm) = true → Does (.rdmRequest c) s (fun e =>
      e.fix = { s.dev.fix with ports := s.dev.fix.ports.set (opB c 8) { x with jobs := queueJob { cmd := c, at_ := s.dev.clk.rp, message := b.take 256, discover := false } x.jobs } } ∧
      SameBut [.fix] s.dev e)) ∧
    ((x.drec.enable && x.drec.rdm) = false → Does (.rdmRequest c) s (fun e => Completed s.dev e 0x61 c 6 none [] ∧
      e.fix = s.dev.fix)))

/-- Strings, the boost supply, the photodiodes and the fixture record (R432 to R441, R449): STRING_CONFIG sets a
channel; a fault switches it off and a good retry clears it; the setpoint follows the largest need in bounded steps;
limits and their ends are reported; a probe's response sets or trims against the reference; a sensor query completes
with its reading, and a calibration window takes it first; a changed record is written to the area that does not hold
the newest. Where the rules leave room it follows the model's log entries 67, 69, 165. It says where these complete:
stringConfig, stringFault, stringRetry, boostStep, boostLimit, boostRestart, stringFeedbackProbe, sensorQuery,
sensorWindowEnd, fixtureRecordWrite. -/
def Obligations.StringsAndSensors : Prop :=
  ∀ s : State,
    (∀ (c : Cmd) (x : StrChan), s.dev.isNode = true → opB c 0 ≤ 15 → bitsOf (opB c 1) 3 2 ≠ 3 → opN c 2 2 ≤ 4095 → 100 ≤ opN c 6 2 →
      opN c 6 2 ≤ 6000 → s.dev.fix.strs[opB c 0]? = some x → c.ops.length = 32 →
      Does (.stringConfig c) s (fun e => (strOf e (opB c 0)).enable = hasBit (opB c 1) 0 ∧ (strOf e (opB c 0)).iset = opN c 2 2 ∧
        (strOf e (opB c 0)).drainMax = opN c 6 2 ∧ (strOf e (opB c 0)).v = (if hasBit (opB c 1) 5 then opN c 4 2 else x.v) ∧
        (hasBit (opB c 1) 4 = true → e.fix.dirty = true) ∧ Finished s.dev e 0x62 c (boundaryRp s.dev) [] ∧
        SameBut (.fix :: .comps :: reporting) s.dev e)) ∧
    (∀ (ch : Fin 16) (cause : Fin 2) (x : StrChan), s.dev.fix.strs[ch.val]? = some x → strMay s.dev ch.val = true →
      Does (.stringFault ch cause) s (fun e =>
        e.fix = { s.dev.fix with strs := s.dev.fix.strs.set ch.val { x with fault := some cause.val } } ∧
        Noticed s.dev e 0x6003 (leN 1 ch.val ++ leN 1 cause.val ++ zeros 2) ∧ SameBut (.fix :: reporting) s.dev e)) ∧
    (fixturesOn s.dev = true → ∀ (ch : Fin 16) (x : StrChan), s.dev.fix.strs[ch.val]? = some x → x.fault.isSome = true →
      Does (.stringRetry ch true) s (fun e =>
        e.fix = { s.dev.fix with strs := s.dev.fix.strs.set ch.val { x with fault := none } } ∧
        Noticed s.dev e 0x6003 (leN 1 ch.val ++ leN 1 5 ++ zeros 2)) ∧
      Does (.stringRetry ch false) s (fun e => e = s.dev)) ∧
    (fixturesOn s.dev = true → s.dev.fix.stopped = false →
      (∀ m : BoostMeas, neediest s.dev m = none → Does (.boostStep m) s (fun e =>
        e.fix = { s.dev.fix with measured := railVolts s.dev m.fb } ∧ SameBut [.fix] s.dev e)) ∧
      (∀ (m : BoostMeas) (ch n : Nat), neediest s.dev m = some (ch, n) → s.dev.fix.limited = false →
        Does (.boostStep m) s (fun e => e.fix = { s.dev.fix with measured := railVolts s.dev m.fb, neediest := ch, setpoint := (clamp (clamp (n : Int) (vMin s.dev) (vMax s.dev)) ((s.dev.fix.setpoint : Int) - 1) (s.dev.fix.setpoint + 10)).toNat } ∧
          SameBut [.fix] s.dev e)) ∧
      (∀ need, s.dev.fix.limited = false → vMax s.dev < need → Does (.boostLimit 0 need) s (fun e =>
        e.fix = { s.dev.fix with limited := true, setpoint := vMax s.dev } ∧
        Noticed s.dev e 0x6004 (leN 1 0 ++ zeros 1 ++ leN 2 need))) ∧
      (∀ need, s.dev.fix.limited = true → need ≤ vMax s.dev → Does (.boostLimit 3 need) s (fun e => e.fix = { s.dev.fix with limited := false } ∧
        Noticed s.dev e 0x6004 (leN 1 3 ++ zeros 1 ++ leN 2 need))) ∧
      (∀ (cause : Fin 4) (need : Nat), cause.val = 1 ∨ cause.val = 2 → Does (.boostLimit cause need) s (fun e =>
        e.fix = { s.dev.fix with stopped := true } ∧ Noticed s.dev e 0x6004 (leN 1 cause.val ++ zeros 1 ++ leN 2 need)))) ∧
    (fixturesOn s.dev = true → s.dev.fix.stopped = true → Does .boostRestart s (fun e =>
      e.fix = { s.dev.fix with stopped := false, setpoint := vMax s.dev } ∧ Noticed s.dev e 0x6004 (leN 1 3 ++ zeros 1 ++ leN 2 0))) ∧
    (∀ (dark r : Reading) (ch : Nat) (x : StrChan) (y : Int), fixturesOn s.dev = true → s.dev.fix.strs[ch]? = some x →
      (List.range 16).filter (fun k => (strOf s.dev k).feedback && (strOf s.dev k).enable) = [ch] → probeFits s.dev 1 = true →
      y = (inputOf r x.sensor : Int) - inputOf dark x.sensor →
      (x.rref = none → Does (.stringFeedbackProbe dark [(ch, r)] false) s (fun e => (strOf e ch).rref = some y ∧
        (strOf e ch).missed = 0 ∧ e.fix.dirty = true ∧ SameBut [.fix] s.dev e)) ∧
      (∀ q : Int, x.rref = some q → q ≤ 8 * y → 0 < y → Does (.stringFeedbackProbe dark [(ch, r)] false) s (fun e =>
        (strOf e ch).trim = (clamp (clamp ((65536 * q + y) / (2 * y)) ((x.trim : Int) - 32) (x.trim + 32)) 16384 65535).toNat ∧
        (strOf e ch).rref = some q ∧ SameBut (.fix :: reporting) s.dev e)) ∧
      Does (.stringFeedbackProbe dark [] true) s (fun e => (strOf e ch).missed = x.missed + 1 ∧ (strOf e ch).trim = x.trim)) ∧
    (∀ c : Cmd, s.dev.isNode = true → 1 ≤ opN c 0 4 → opN c 0 4 ≤ s.dev.clk.raster.frameSub → Does (.sensorQuery c) s (fun e =>
      e.fix.sensor = s.dev.fix.sensor ++ [(s.dev.clk.rp, c)] ∧
      (s.dev.fix.sensor = [] → s.dev.cal.win = none → e.fix.sensorAt = queryStart s.dev c s.dev.clk.rp) ∧ SameBut [.fix] s.dev e)) ∧
    (∀ (r : Reading) (at_ : RP) (c : Cmd), s.dev.cal.win = none → s.dev.fix.sensor = [(at_, c)] → r.saturated = 0 →
      Does (.sensorWindowEnd r) s (fun e => e.fix = { s.dev.fix with sensor := [] } ∧
        Finished s.dev e 0x65 c at_ (leN 4 (r.x % 2 ^ 20) ++ leN 4 (r.y % 2 ^ 20) ++ leN 4 (r.z % 2 ^ 20) ++ leN 4 (r.dk % 2 ^ 20) ++
          s.dev.fix.sensorAt.bytes ++ leN 4 r.cycles))) ∧
    (∀ (r : Reading) (w : CalWin), s.dev.cal.win = some w → w.lit = none → Does (.sensorWindowEnd r) s (fun e =>
      e.cal = { s.dev.cal with win := some { w with lit := some r } } ∧ SameBut [.cal] s.dev e)) ∧
    (s.dev.isNode = true → s.dev.fix.dirty = true →
      Does (.fixtureRecordWrite true) s (fun e => e.fix.dirty = false ∧ e.fix.recs = setAt s.dev.fix.recs (otherArea (newestFix s.dev.fix)) (some { s.dev.fix.image with seq := nextRecSeq FixRec.seq (newestFix s.dev.fix) }) ∧
        SameBut [.fix] s.dev e) ∧
      Does (.fixtureRecordWrite false) s (fun e => e.fix = { s.dev.fix with recs := setAt s.dev.fix.recs (otherArea (newestFix s.dev.fix)) none } ∧
        Noticed s.dev e 0x3011 (leN 1 (otherArea (newestFix s.dev.fix)) ++ zeros 3)))

/-- Pattern engines (R442, R446 to R448): PATTERN_LOAD stops the engine and gives it a program, or is refused with the
first word that is no instruction; a START runs the program from its address with T, X and the registers set, a STOP
halts it; an engine whose T has come goes on. An instruction the table reserves faults the engine. Where the rules
leave room it follows the model's log entries 61, 63. It says where these complete: patternLoad, patternControl,
patternWaitExpiry. -/
def Obligations.PatternsRun : Prop :=
  ∀ (s : State) (n : Nat) (x : PatEngine), NoFades s.dev → s.dev.isNode = true → n < 16 → s.dev.fix.pats[n]? = some x →
    s.dev.fix.pats.length = 16 →
    (∀ (c : Cmd) (b : List Byte), misaligned c = false → opB c 8 = n → c.host = .data b →
      ((progWords b).findIdx? (fun w => (patOp w.toNat).isNone) = none → Does (.patternLoad c) s (fun e =>
        (patOf e n).prog = progWords b ∧ (patOf e n).auto = hasBit (opB c 9) 1 ∧ (patOf e n).pc = 0 ∧ (patOf e n).state = .stopped ∧
        (hasBit (opB c 9) 0 = true → e.fix.dirty = true) ∧ Finished s.dev e 0x63 c (boundaryRp s.dev) [] ∧
        SameBut (.fix :: .comps :: reporting) s.dev e)) ∧
      (∀ i, (progWords b).findIdx? (fun w => (patOp w.toNat).isNone) = some i → Does (.patternLoad c) s (fun e =>
        Completed s.dev e 0x63 c 4 none (leN 1 i) ∧ e.fix = s.dev.fix))) ∧
    (∀ c : Cmd, (List.range 16).filter (hasBit (opN c 0 2)) = [n] → opB c 4 ≤ 63 →
      (opB c 2 = 0 → patOp (x.prog.getD (opB c 4) 0).toNat = some .stop → Does (.patternControl c) s (fun e =>
        patOf e n = { x with t := s.dev.clk.rp, x := 0, v := [opN c 6 2, opN c 8 2, opN c 10 2, opN c 12 2], pc := opB c 4, state := .stopped, fadeWait := none } ∧
        Finished s.dev e 0x64 c s.dev.clk.rp [] ∧ SameBut (.fix :: .comps :: reporting) s.dev e)) ∧
      (opB c 2 = 0 → patOp (x.prog.getD (opB c 4) 0).toNat = none → Does (.patternControl c) s (fun e =>
        (patOf e n).state = .faulted ∧ (patOf e n).pc = opB c 4 ∧ NoticedFirst s.dev e 0x6005 (leN 1 n ++ leN 1 3 ++ leN 1 (opB c 4) ++ zeros 1))) ∧
      (opB c 2 = 0 → opB c 4 ≤ 62 → (∀ r v, patOp (x.prog.getD (opB c 4) 0).toNat = some (.load r v) → r < 4 →
        patOp (x.prog.getD (opB c 4 + 1) 0).toNat = some .stop → Does (.patternControl c) s (fun e =>
          nth (patOf e n).v r = v % 65536 ∧ (patOf e n).state = .stopped))) ∧
      (opB c 2 = 1 → x.state = .running ∨ x.state = .waiting → Does (.patternControl c) s (fun e => (patOf e n).state = .stopped ∧
        Finished s.dev e 0x64 c s.dev.clk.rp [])) ∧
      (opB c 2 = 1 → x.state = .stopped → hasBit (opB c 3) 0 = false → Does (.patternControl c) s (fun e =>
        Completed s.dev e 0x64 c 6 none [] ∧ e.fix = s.dev.fix))) ∧
    (∀ k : Fin 16, k.val = n → nextEntry s.dev = none → fixturesOn s.dev = true → s.dev.clk.hold = none → x.state = .waiting →
      patOp (x.prog.getD x.pc 0).toNat = some .stop → Does (.patternWaitExpiry k) s (fun e => e.clk = s.dev.clk.reach x.t ∧
        (patOf e n).state = .stopped ∧ SameBut [.clk, .fix] s.dev e))

/-! ### Calibration on command -/

/-- Calibration (R453 to R457, R461, R462, R464 to R468): CAL_LINK, CAL_COLOUR and CAL_METER start where none of their
kind runs, and wait otherwise; a waiting one starts when it can; a port's sweep commits the better setting; a colour
fit with too few pairs commits nothing, and a good one commits its kappas; a meter channel is handed over and back
with its new offsets; CAL_CANCEL ends a running one CANCELLED, and completes NOT_PENDING where none runs or waits.
Where the rules leave room it follows the model's log entries 70 to 73, 168. It says where these complete: calLink,
calColour, calMeter, calStart, calLinkPortDone, calColourCollectionEnd, calMeterHandover, calCancel. -/
def Obligations.Calibrations : Prop :=
  ∀ s : State, s.dev.cal.running.length = 3 → s.dev.cal.waiting.length = 3 → s.dev.cal.marker.length = 3 →
    (∀ c : Cmd, s.dev.pwr.state = .run → s.dev.cal.waiting.getD 0 none = none → opN c 0 2 % 1024 ≠ 0 → linkPorts s.dev c ≠ [] →
      (s.dev.cal.running.getD 0 none = none → Does (.calLink c) s (fun e =>
        e.cal.running.getD 0 none = some { cmd := c, at_ := s.dev.clk.rp, start := s.dev.clk.rp } ∧ e.cal.ports = linkPorts s.dev c ∧
        e.cal.marker.getD 0 none = some (c.tag, s.dev.clk.rp) ∧ e.cal.waiting.getD 0 none = none ∧ SameBut [.cal] s.dev e)) ∧
      (∀ j, s.dev.cal.running.getD 0 none = some j → Does (.calLink c) s (fun e =>
        e.cal.running = s.dev.cal.running ∧ (∃ w, e.cal.waiting.getD 0 none = some w ∧ w.cmd = c) ∧ SameBut [.cal] s.dev e))) ∧
    (∀ c : Cmd, s.dev.pwr.state ≠ .run → Does (.calLink c) s (fun e => Completed s.dev e 0x70 c 6 none [] ∧ e.cal = s.dev.cal)) ∧
    (∀ (c : Cmd) (b : List Byte), s.dev.isNode = true → (recordNow s.dev).width ≠ 0 → misaligned c = false → c.host = .data b →
      s.dev.pwr.state = .run → s.dev.out.running = true → colourGood (recordNow s.dev) (colourRec b) = true →
      s.dev.cal.waiting.getD 1 none = none →
      (s.dev.cal.running.getD 1 none = none → calFree 1 s.dev = true →
        Does (.calColour c) s (fun e => e.cal.running.getD 1 none = some { cmd := c, at_ := s.dev.clk.rp, start := s.dev.clk.rp } ∧
          e.cal.pairs = [] ∧ SameBut [.cal] s.dev e)) ∧
      (∀ j, s.dev.cal.running.getD 1 none = some j → Does (.calColour c) s (fun e =>
        e.cal.running = s.dev.cal.running ∧ (∃ w, e.cal.waiting.getD 1 none = some w ∧ w.cmd = c) ∧ SameBut [.cal] s.dev e))) ∧
    (∀ c : Cmd, s.dev.pwr.state = .run → s.dev.cal.waiting.getD 2 none = none → opB c 0 % 64 ≠ 0 →
      (s.dev.cal.running.getD 2 none = none →
        Does (.calMeter c) s (fun e => e.cal.running.getD 2 none = some { cmd := c, at_ := s.dev.clk.rp, start := s.dev.clk.rp } ∧
          e.cal.chans = (List.range 6).filter (hasBit (opB c 0)) ∧ SameBut [.cal] s.dev e)) ∧
      (∀ j, s.dev.cal.running.getD 2 none = some j → Does (.calMeter c) s (fun e =>
        e.cal.running = s.dev.cal.running ∧ (∃ w, e.cal.waiting.getD 2 none = some w ∧ w.cmd = c) ∧ SameBut [.cal] s.dev e))) ∧
    (∀ (k : Fin 3) (j : CalJob), s.dev.cal.waiting.getD k.val none = some j → s.dev.cal.running.getD k.val none = none →
      calFree k.val s.dev = true → s.dev.pwr.state = .run → Does (.calStart k) s (fun e =>
        e.cal.running.getD k.val none = some { j with start := s.dev.clk.rp } ∧ e.cal.waiting.getD k.val none = none ∧
        SameBut [.cal] s.dev e)) ∧
    (∀ (r : LinkSweep) (j : CalJob) (p q : Nat) (rest : List Nat), s.dev.cal.running.getD 0 none = some j →
      (s.dev.cal.ports = p :: q :: rest → p < 8 → (s.dev.port p).up = true → r.locked = true → hasBit (opB j.cmd 2) 0 = true →
        narrowest p r.oldEyes < narrowest p r.newEyes → 200 ≤ narrowest p r.newEyes → r.writeOk = true → s.dev.cal.eyes.length = 10 → s.dev.cal.eq.length = 10 →
        Does (.calLinkPortDone r) s (fun e => e.cal.eq = s.dev.cal.eq.set p r.settings ∧ e.cal.commits = s.dev.cal.commits + 2 ^ p ∧
          nth e.cal.eyes p = narrowest p r.newEyes ∧ e.cal.ports = q :: rest ∧ SameBut [.cal, .spare] s.dev e)) ∧
      (s.dev.cal.ports = [p] → r.locked = false → Does (.calLinkPortDone r) s (fun e => e.cal.running.getD 0 none = none ∧
        e.cal.eq = s.dev.cal.eq ∧ ∃ result, Finished s.dev e 0x70 j.cmd j.at_ result))) ∧
    (∀ (f : ColourFit) (j : CalJob), s.dev.cal.running.getD 1 none = some j →
      ((s.dev.cal.pairs.filter usable).length < 16 → Does (.calColourCollectionEnd f) s (fun e => e.corr = s.dev.corr ∧
        e.cal.running.getD 1 none = none ∧ ∃ v, Finished s.dev e 0x71 j.cmd j.at_
          (colourResult 2 0 v (s.dev.cal.pairs.filter usable).length s.dev.corr.wear.kappa))) ∧
      (∀ rhos, rhos = (fitRho (recordNow s.dev) (colourOf j.cmd) (s.dev.cal.pairs.filter usable) s.dev).1 →
        16 ≤ (s.dev.cal.pairs.filter usable).length → f.residual ≤ (colourOf j.cmd).limit → f.writeOk = true →
        (∃ c, c < 4 ∧ (fitKappa s.dev (colourOf j.cmd) rhos c).isSome = true) →
        Does (.calColourCollectionEnd f) s (fun e => e.cal.running.getD 1 none = none ∧
          (∀ c k, c < 4 → fitKappa s.dev (colourOf j.cmd) rhos c = some k → nth e.corr.wear.kappa c = k) ∧
          e.corr.lastRun = s.dev.corr.runSecs ∧ ∃ result, Finished s.dev e 0x71 j.cmd j.at_ result))) ∧
    (∀ (m : MeterStep) (j : CalJob) (ch : Nat) (rest : List Nat), s.dev.cal.running.getD 2 none = some j →
      s.dev.cal.chans = ch :: rest → ch < 6 →
      (s.dev.cal.spare = none → Does (.calMeterHandover m) s (fun e => e.cal = { s.dev.cal with spare := some ch } ∧
        SameBut [.cal] s.dev e)) ∧
      (s.dev.cal.spare = some ch → rest ≠ [] → m.residV ≤ 4 → m.residI ≤ 4 → m.writeOk = true → s.dev.cal.offs.length = 12 →
        Does (.calMeterHandover m) s (fun e => nthI e.cal.offs (2 * ch) = m.newOffV ∧ nthI e.cal.offs (2 * ch + 1) = m.newOffI ∧
          e.cal.chans = rest ∧ e.cal.spare = none ∧ e.cal.mCommit = s.dev.cal.mCommit + 2 ^ ch ∧ SameBut [.cal] s.dev e))) ∧
    (∀ (c : Cmd) (j : CalJob) (k : Fin 3), (List.range 3).filter (hasBit (opB c 0)) = [k.val] →
      (s.dev.cal.running.getD k.val none = some j → s.dev.cal.waiting.getD k.val none = none → Does (.calCancel c) s (fun e =>
        e.cal.running.getD k.val none = none ∧ ∃ x, Completed s.dev x (calOp k.val) j.cmd 3 none [] ∧
          Finished x e 0x73 c s.dev.clk.rp (leN 1 1))) ∧
      (s.dev.cal.running.getD k.val none = none → s.dev.cal.waiting.getD k.val none = none → Does (.calCancel c) s (fun e =>
        e.cal = s.dev.cal ∧ Completed s.dev e 0x73 c 7 none [])))

/-! ### Energy metering -/

/-- Metering (R472 to R474, R477 to R479, R484): a sample adds its energy to the import or export accumulator of its
channel; a pulse adds its energy with the remainder carried; a glitch is counted; a crossing gives the mains frequency
and an end of the mains is reported; METER_CONFIG puts its record in force or names its first bad field. Where the
rules leave room it follows the model's log entries 74, 169. It says where these complete: meterSample, s0Pulse,
s0Glitch, mainsZcCrossing, mainsLost, meterConfig. -/
def Obligations.EnergyMetered : Prop :=
  ∀ s : State,
    (metering s.dev = true →
      (∀ (ch : Fin 6) (v i : Int) (c : Channel), s.dev.mtr.chans[ch.val]? = some c → c.ifs ≠ 0 → atClamp v = false → atClamp i = false →
        s.dev.cal.offsAt = List.replicate 12 0 → c.imp + energyInc c.k v i < 2 ^ 88 → c.exp_ + energyInc c.k v i < 2 ^ 88 →
        Does (.meterSample ch v i) s (fun e => e.mtr = { s.dev.mtr with chans := s.dev.mtr.chans.set ch.val { c with imp := if 0 < v * i then c.imp + energyInc c.k v i else c.imp, exp_ := if v * i < 0 then c.exp_ + energyInc c.k v i else c.exp_, recent := lastN 8000 (c.recent ++ [(v * c.vfs, i * c.ifs)]) } } ∧
          SameBut [.mtr] s.dev e)) ∧
      (∀ (n : Fin 2) (x : S0In), s.dev.mtr.s0[n.val]? = some x → x.const ≠ 0 →
        (x.energy + (x.rem + 10000000) / x.const < 2 ^ 48 → x.count + 1 < 2 ^ 48 → Does (.s0Pulse n) s (fun e =>
          e.mtr = { s.dev.mtr with s0 := s.dev.mtr.s0.set n.val { x with energy := x.energy + (x.rem + 10000000) / x.const, rem := (x.rem + 10000000) % x.const, count := x.count + 1 } } ∧
          SameBut [.mtr] s.dev e)) ∧
        Does (.s0Glitch n) s (fun e => e.mtr = { s.dev.mtr with s0 := s.dev.mtr.s0.set n.val { x with glitch := satAdd 65535 x.glitch 1, asked := satAdd 65535 x.asked 1 } } ∧
          SameBut [.mtr] s.dev e)) ∧
      (∀ cycles, cycles ≤ 24576 → s.dev.mtr.lastZc.isSome = true → Does (.mainsZcCrossing cycles) s (fun e => e = s.dev)) ∧
      (∀ cycles, 24576 < cycles → s.dev.mtr.crossings ≠ 0 → s.dev.mtr.zcBoth = false → Does (.mainsZcCrossing cycles) s (fun e =>
        e.mtr.freq = (24576000000 + cycles) / (2 * cycles) ∧ e.mtr.lastZc = some s.dev.clk.rp ∧ e.mtr.lost = false ∧
        e.mtr.chans = s.dev.mtr.chans ∧ (s.dev.mtr.lost = false → SameBut [.mtr] s.dev e))) ∧
      (s.dev.mtr.crossings ≠ 0 → s.dev.mtr.lost = false → Does .mainsLost s (fun e => e.mtr.lost = true ∧ e.mtr.freq = 0 ∧
        e.mtr.crossings = 0 ∧ (s.dev.mtr.saveOnLoss = true → e.mtr.save.isSome = true) ∧
        (s.dev.isHead = true → Noticed s.dev e 0x7801 (leN 4 s.dev.mtr.freq ++ zeros 4 ++ rpOr s.dev.mtr.lastZc)) ∧
        SameBut (.mtr :: reporting) s.dev e))) ∧
    (∀ (c : Cmd) (b : List Byte), misaligned c = false → c.host = .data b →
      (meterBad (meterRec b) = none →
        ((meterRec b).period = s.dev.mtr.period ∨ saveOverdue (meterRec b).period s.dev = false →
          Does (.meterConfig c) s (fun e => e.mtr = { (putMeter (meterRec b) s.dev).mtr with byCmd := true } ∧
            Finished s.dev e 0x79 c (boundaryRp s.dev) [] ∧ SameBut (.mtr :: .comps :: reporting) s.dev e)) ∧
        ((meterRec b).period ≠ s.dev.mtr.period → saveOverdue (meterRec b).period s.dev = true →
          Does (.meterConfig c) s (fun e => e.mtr.period = (meterRec b).period ∧ e.mtr.save.isSome = true ∧
            Finished s.dev e 0x79 c (boundaryRp s.dev) [] ∧ SameBut (.mtr :: .comps :: reporting) s.dev e))) ∧
      (∀ o, meterBad (meterRec b) = some o → Does (.meterConfig c) s (fun e => Completed s.dev e 0x79 c 4 none (leN 1 o) ∧
        e.mtr = s.dev.mtr)))

/-- Energy records (R480 to R482, R485, R486): a save begun writes the values as they stand, and done it is the newest
slot; one that fails is reported and tried again in the next row; ENERGY_SAVE completes with the save it starts;
ENERGY_QUERY gives an input's registers. Where the rules leave room it follows the model's log entries 74, 170. It
says where these complete: meterSaveTimer, energySave, meterSaveDone, energyQuery. -/
def Obligations.EnergySaved : Prop :=
  ∀ s : State,
    (metering s.dev = true → s.dev.mtr.save = none → Does .meterSaveTimer s (fun e =>
      e.mtr = { s.dev.mtr with save := some { slot := slotNow s.dev, begun := s.dev.clk.rp, cmds := [] } } ∧ SameBut [.mtr] s.dev e)) ∧
    (∀ c, s.dev.mtr.save = none → Does (.energySave c) s (fun e =>
      e.mtr = { s.dev.mtr with save := some { slot := slotNow s.dev, begun := s.dev.clk.rp, cmds := [(s.dev.clk.rp, c)] } } ∧
      SameBut [.mtr] s.dev e)) ∧
    (∀ (x : MeterSave) (at_ : RP) (c : Cmd), s.dev.mtr.save = some x → x.cmds = [(at_, c)] → s.dev.mtr.again = false →
      s.dev.pwr.hostReset = none → s.dev.pwr.wdReset = false → s.dev.spare.nvmBad.contains x.slot.row = false →
      Does (.meterSaveDone true) s (fun e => e.mtr = { s.dev.mtr with save := none, slot := some x.slot, row := (x.slot.row + 1) % 1024, savedRp := some s.dev.clk.rp } ∧
        Finished s.dev e 0x7A c at_ (leN 4 x.slot.seq.toNat ++ leN 2 x.slot.row)) ∧
      Does (.meterSaveDone false) s (fun e => e.mtr.slot = s.dev.mtr.slot ∧ e.mtr.row = (x.slot.row + 1) % 1024 ∧
        (∃ y, e.mtr.save = some y ∧ y.slot.row = (x.slot.row + 1) % 1024 ∧ y.cmds = s.dev.mtr.againCmds) ∧
        Completed s.dev e 0x7A c 0x0B none [])) ∧
    (∀ (c : Cmd) (x : S0In), 6 ≤ opB c 0 → opB c 0 ≤ 7 → s.dev.mtr.s0[opB c 0 - 6]? = some x → Does (.energyQuery c) s (fun e =>
      e.mtr = { s.dev.mtr with s0 := s.dev.mtr.s0.set (opB c 0 - 6) { x with asked := 0 } } ∧
      Finished s.dev e 0x78 c s.dev.clk.rp (leN 6 x.energy ++ leN 6 x.count ++ leN 4 x.const ++ leN 2 x.asked ++
        leN 1 (bit (hasBit s.dev.mtr.wraps (10 + opB c 0)) + 2 * bit (hasBit s.dev.mtr.wraps (12 + opB c 0))) ++ zeros 13))) ∧
    (∀ c : Cmd, opB c 0 = 8 → Does (.energyQuery c) s (fun e => e.mtr = s.dev.mtr ∧ Finished s.dev e 0x78 c s.dev.clk.rp
      (leN 4 s.dev.mtr.freq ++ leN 1 (bit s.dev.mtr.lost + 2 * bit s.dev.mtr.seen) ++ zeros 3 ++ rpOr s.dev.mtr.lastZc ++ zeros 16))) ∧
    (∀ c : Cmd, opB c 0 < 6 → Does (.energyQuery c) s (fun e => e.mtr = s.dev.mtr ∧ ∃ result, Finished s.dev e 0x78 c s.dev.clk.rp
      (leN 6 (energyReg (s.dev.mtr.chans.getD (opB c 0) {}).imp) ++ leN 6 (energyReg (s.dev.mtr.chans.getD (opB c 0) {}).exp_) ++ result)))

/-! ### Layers and output -/

/-- Layer commands (R262 to R265, R275, R280): at its commit point LAYER_SET changes its layer where the settings
stand, and is refused whole with the reason otherwise; LAYER_LUT_LOAD and LAYER_SCALER_LOAD give a source layer a
table; each takes effect with the next display frame whose graph is not built. Where the rules leave room it follows
the model's log entry 44. It says where these complete: layerSet, layerLutLoad, layerScalerLoad. -/
def Obligations.LayerCommands : Prop :=
  ∀ (c : Cmd) (b : List Byte) (s : State) (f : BitVec 32) (x : Device), s.dev.isNode = true → misaligned c = false → c.host = .data b →
    f = nextDisplay s.dev → x = layersFor f s.dev →
    (∀ ls, layerSetBad (recordAt s.dev f) c = none → ls = modAt x.pxl.layers (opB c 8) (layerApply (layerRec b)) →
      feedsClash ls = false → ((recordAt s.dev f).width = 0 ∨ budgetOf x ls ≤ storeGroups) →
      Does (.layerSet c) s (fun e => e.pxl = { x.pxl with layers := ls } ∧ Finished s.dev e 0x30 c (RP.start f) [] ∧
        SameBut (.pxl :: .comps :: reporting) s.dev e)) ∧
    (∀ ls, layerSetBad (recordAt s.dev f) c = none → ls = modAt x.pxl.layers (opB c 8) (layerApply (layerRec b)) →
      (feedsClash ls = true → Does (.layerSet c) s (fun e => e.pxl = x.pxl ∧ Completed s.dev e 0x30 c 4 none (leN 1 3))) ∧
      (feedsClash ls = false → (recordAt s.dev f).width ≠ 0 → storeGroups < budgetOf x ls →
        Does (.layerSet c) s (fun e => e.pxl = x.pxl ∧ Completed s.dev e 0x30 c 4 none (leN 1 4)))) ∧
    (∀ r, layerSetBad (recordAt s.dev f) c = some r → Does (.layerSet c) s (fun e => e.pxl = x.pxl ∧
        Completed s.dev e 0x30 c 4 none (leN 1 r))) ∧
    ((layerOf x (opB c 8)).source = true → opB c 8 ≤ 7 →
      (opB c 9 < (recordAt s.dev f).primaries → Does (.layerLutLoad c) s (fun e =>
        e.pxl = { x.pxl with layers := modAt x.pxl.layers (opB c 8) (fun l => { l with luts := setAt l.luts (opB c 9) (some (lutOf b)) }) } ∧
        Finished s.dev e 0x31 c (RP.start f) [] ∧ SameBut (.pxl :: .comps :: reporting) s.dev e)) ∧
      (tapsGood (tapsOf b 0 8) = true → tapsGood (tapsOf b 1024 6) = true → Does (.layerScalerLoad c) s (fun e =>
        e.pxl = { x.pxl with layers := modAt x.pxl.layers (opB c 8) (fun l => { l with taps := some { ch := tapsOf b 0 8, cv := tapsOf b 1024 6 } }) } ∧
        Finished s.dev e 0x32 c (RP.start f) [] ∧ SameBut (.pxl :: .comps :: reporting) s.dev e))) ∧
    ((layerOf x (opB c 8)).source = false → Does (.layerLutLoad c) s (fun e => e.pxl = x.pxl ∧ Completed s.dev e 0x31 c 4 none []) ∧
      Does (.layerScalerLoad c) s (fun e => e.pxl = x.pxl ∧ Completed s.dev e 0x32 c 4 none []))

/-- Output commands (R316, R319, R331, R336 to R339): OUT_CONFIG, OUT_PROG_LOAD and OUT_MAP_LOAD change the
configuration where the whole passes its checks, and fail with the reason otherwise, without effect; OUT_ENABLE starts
output that can start, and stops output that runs. Where the rules leave room it follows the model's log entries 53,
151. It says where these complete: outConfig, outProgLoad, outMapLoad, outEnable. -/
def Obligations.OutputCommands : Prop :=
  ∀ (c : Cmd) (s : State), s.dev.isNode = true →
    (∀ b, misaligned c = false → c.host = .data b →
      (outRecGood s.dev.clk.raster (outRecOf b) = true →
        (outReason s.dev.clk.raster (cutLine s.dev) (outRecOf b) s.dev.out.map s.dev.out.programs = none →
          Does (.outConfig c) s (fun e => e.out.orec = outRecOf b ∧ e.out.map = s.dev.out.map ∧ e.out.programs = s.dev.out.programs ∧
            e.out.checked = true ∧ Finished s.dev e 0x40 c (boundaryRp s.dev) [])) ∧
        (∀ r, outReason s.dev.clk.raster (cutLine s.dev) (outRecOf b) s.dev.out.map s.dev.out.programs = some r →
          Does (.outConfig c) s (fun e => e.out = s.dev.out ∧ Completed s.dev e 0x40 c 4 none (leN 1 r)))) ∧
      (outRecGood s.dev.clk.raster (outRecOf b) = false →
        Does (.outConfig c) s (fun e => e.out = s.dev.out ∧ Completed s.dev e 0x40 c 4 none (leN 1 1))) ∧
      (opB c 8 ≤ 7 → outReason s.dev.clk.raster (cutLine s.dev) s.dev.out.orec s.dev.out.map (setAt s.dev.out.programs (opB c 8) (programOf b)) = none →
        Does (.outProgLoad c) s (fun e => e.out.programs = setAt s.dev.out.programs (opB c 8) (programOf b) ∧
          e.out.orec = s.dev.out.orec ∧ e.out.map = s.dev.out.map ∧ Finished s.dev e 0x41 c (boundaryRp s.dev) [])) ∧
      (∀ r, opB c 8 ≤ 7 → outReason s.dev.clk.raster (cutLine s.dev) s.dev.out.orec s.dev.out.map (setAt s.dev.out.programs (opB c 8) (programOf b)) = some r →
        Does (.outProgLoad c) s (fun e => e.out = s.dev.out ∧ Completed s.dev e 0x41 c 4 none (leN 1 r))) ∧
      (∀ r, 1 ≤ opN c 8 4 → opN c 8 4 ≤ 524288 → (mapWords b (opN c 8 4)).all entryKindGood = true →
        outReason s.dev.clk.raster (cutLine s.dev) s.dev.out.orec (mapWords b (opN c 8 4)) s.dev.out.programs = some r →
        Does (.outMapLoad c) s (fun e => e.out = s.dev.out ∧ Completed s.dev e 0x42 c 4 none (leN 1 r))) ∧
      (1 ≤ opN c 8 4 → opN c 8 4 ≤ 524288 → (mapWords b (opN c 8 4)).all entryKindGood = true →
        outReason s.dev.clk.raster (cutLine s.dev) s.dev.out.orec (mapWords b (opN c 8 4)) s.dev.out.programs = none →
        Does (.outMapLoad c) s (fun e => e.out.map = mapWords b (opN c 8 4) ∧ e.out.orec = s.dev.out.orec ∧
          e.out.programs = s.dev.out.programs ∧ Finished s.dev e 0x42 c (boundaryRp s.dev) []))) ∧
    (hasBit (opB c 0) 0 = true → s.dev.out.running = false →
      (canStart s.dev = true → Does (.outEnable c) s (fun e => e.out.running = true ∧ e.word 0x4000 = 1 ∧
        Finished s.dev e 0x43 c (boundaryRp s.dev) [])) ∧
      (s.dev.out.checked = false → Does (.outEnable c) s (fun e => e.out = s.dev.out ∧ Completed s.dev e 0x43 c 6 none []))) ∧
    (hasBit (opB c 0) 0 = false → s.dev.out.running = true → Does (.outEnable c) s (fun e => e.out.running = false ∧
      e.word 0x4000 = 0 ∧ Finished s.dev e 0x43 c (boundaryRp s.dev) []))

/-! ### Registers -/

/-- Register accesses (R8, R507, R532 to R536, R550, R552): a write of a setting keeps its writable bits, and one that
the entry to RUN has locked is ignored and flagged; a read of a counter of the link, ingest, pixel, output or fixture
blocks by BAR0 clears it, and a read at the test port clears nothing; a read of a wide register's lowest word takes a
snapshot of the others; FIX_RDM_DATA moves its index on; OUT_CTRL.EN reads what was written at once. Where the rules
leave room it follows the model's log entries 87, 88. It says where these complete: registerWrite, counterRead,
wideRegisterRead, fixRdmDataRead, outCtrlWrite. -/
def Obligations.RegisterAccess : Prop :=
  ∀ s : State,
    (∀ (a : BitVec 16) (v : Word) (lock : Bool) (m : Nat), s.dev.pwr.readyHost = true → s.dev.pwr.powerOff = false →
      s.dev.isHead = true → a.toNat % 4 = 0 → settingMask s.dev a.toNat = some (lock, m) → wideOf a.toNat = none → lacks s.dev a.toNat = false →
      (lock = false ∨ s.dev.pwr.everRun = false → Does (.registerWrite a v) s (fun e => e.word a.toNat = v.toNat &&& m ∧
        (a.toNat < 0x2000 ∨ 0x2200 ≤ a.toNat → a.toNat ≠ ingReg 0 0 → a.toNat ≠ ingReg 1 0 →
          (∀ x, x ≠ a.toNat → e.word x = s.dev.word x) ∧ SameBut [.regs, .red, .mtr] s.dev e))) ∧
      (lock = true → s.dev.pwr.everRun = true → Does (.registerWrite a v) s (fun e => e.sec.setupLocked = true ∧
        e.regs = s.dev.regs ∧ SameBut [.sec, .hif] s.dev e))) ∧
    (∀ (a : BitVec 16) (v : Word), s.dev.isHead = false ∨ a.toNat % 4 ≠ 0 → Does (.registerWrite a v) s (fun e => e = s.dev)) ∧
    (∀ (a : BitVec 16) (p : Path) (w : Nat), readServed p s.dev = true → w = a.toNat - a.toNat % 4 → wideOf w = none → w ≠ 0x3848 →
      w ≠ 0x481C → Does (.counterRead a p) s (fun e => e.lastRead = BitVec.ofNat 32 (rawWord s.dev w) ∧
        (p = .testPort → SameBut [.lastRead] s.dev e) ∧
        (p = .bar0 → (0x2900 ≤ w ∧ w ≤ 0x291C) ∨ w ∈ [0x1490, 0x1494, 0x3058, 0x305C, 0x3808, 0x380C, 0x404C, 0x4808] →
          lacks s.dev w = false → e.word w = 0 ∧ SameBut [.lastRead, .regs] s.dev e))) ∧
    (∀ (a : BitVec 16) (p : Path), readServed p s.dev = false → Does (.counterRead a p) s (fun e => e = s.dev) ∧
      Does (.wideRegisterRead a p) s (fun e => e = s.dev)) ∧
    (∀ (a : BitVec 16) (p : Path) (b n w : Nat), readServed p s.dev = true → w = a.toNat - a.toNat % 4 → wideOf w = some (b, n) →
      w ≠ 0x3848 → w ≠ 0x481C →
      (w = b → Does (.wideRegisterRead a p) s (fun e => e.lastRead = BitVec.ofNat 32 (rawWord s.dev b) ∧
        ∀ i, 1 ≤ i → i < n → mfind e.snap (b + 4 * i) = some (BitVec.ofNat 32 (rawWord s.dev (b + 4 * i))))) ∧
      (∀ v, w ≠ b → mfind s.dev.snap w = some v → Does (.wideRegisterRead a p) s (fun e => e.lastRead = v ∧
        SameBut [.lastRead] s.dev e))) ∧
    Does .fixRdmDataRead s (fun e => e.lastRead = BitVec.ofNat 32 (le (rdmBuffer s.dev) (4 * s.dev.field 0x4818 15 8) 4) ∧
      e.field 0x4818 15 8 = (s.dev.field 0x4818 15 8 + 1) % 256 ∧ SameBut [.lastRead, .regs] s.dev e) ∧
    (∀ v : Word, s.dev.isNode = true → Does (.outCtrlWrite v) s (fun e => e.word 0x4000 = v.toNat % 2 ∧
      e.out = { s.dev.out with wanted := some (hasBit v.toNat 0) } ∧ SameBut [.out, .regs] s.dev e))

/-! ### Security -/

/-- Keys (R494 to R496): a good record goes into its slot and a bad one is refused with its reason; one for the next
slot waits while a rollover goes on; at the test port the outcome is what KEYLOAD reads; a KEY_ROLLOVER at its
boundary proceeds where the next slot holds the generation expected. A life-cycle change whose due RP is good is
journalled where it is allowed, and completes (R87, R489 to R491). Where the rules leave room it follows the model's
log entries 75, 79, 80, 127. It says where these complete: keyLoad, keyload, keyloadMakeCurrent, keyRollover,
lifecycleSet. -/
def Obligations.KeysAndLifeCycle : Prop :=
  ∀ s : State,
    (∀ (c : Cmd) (b : List Byte), secClosed s.dev = false → misaligned c = false → opB c 8 ≤ 1 →
      (cut c.ops 9 23).any (fun x => x != 0) = false → c.host = .data b →
      (opB c 8 = 0 ∨ s.dev.sched.rolling = none → Does (.keyLoad c) s (fun e =>
        (∀ k, judgeRecord (opB c 8 == 0) false b s.dev = .ok k → Finished s.dev e 0x80 c s.dev.clk.rp (keyResult k) ∧
          e.sec = (placeKey (opB c 8 == 0) k s.dev).sec) ∧
        (∀ r, judgeRecord (opB c 8 == 0) false b s.dev = .error r → Completed s.dev e 0x80 c 4 none (leN 1 r) ∧ e.sec = s.dev.sec) ∧
        SameBut (.sec :: .comps :: reporting) s.dev e)) ∧
      (∀ r, opB c 8 = 1 → s.dev.sched.rolling = some r → Does (.keyLoad c) s (fun e =>
        e.sec = { s.dev.sec with heldKeys := s.dev.sec.heldKeys ++ [{ cmd := some c, body := b }] } ∧ SameBut (.sec :: .sched :: reporting) s.dev e))) ∧
    (∀ b x, portDead s.dev = false → x = (tapPick .keyload s.dev).sec →
      (s.dev.sched.rolling = none → Does (.keyload b) s (fun e =>
        (∀ k, judgeRecord false true b s.dev = .ok k → e.sec = { x with next := some k, keyStat := 0 }) ∧
        (∀ r, judgeRecord false true b s.dev = .error r → e.sec = { x with keyStat := r }) ∧ SameBut [.sec] s.dev e)) ∧
      (∀ r, s.dev.sched.rolling = some r → Does (.keyload b) s (fun e =>
        e.sec = { x with keyStat := 0xFF, heldKeys := s.dev.sec.heldKeys ++ [{ cmd := none, body := b }] })) ∧
      Does (.keyloadMakeCurrent b) s (fun e =>
        (∀ k, judgeRecord true true b s.dev = .ok k → e.sec = { x with cur := some k, keyStat := 0 }) ∧
        (∀ r, judgeRecord true true b s.dev = .error r → e.sec = { x with keyStat := r }) ∧ SameBut [.sec] s.dev e)) ∧
    (∀ c : Cmd, s.dev.pwr.woke = false →
      (∀ k, s.dev.sec.next = some k → k.gen.toNat = opN c 0 4 → Does (.keyRollover c) s (fun e =>
        e.sched = { s.dev.sched with roll := none, rolling := some { k := s.dev.clk.rp.frame, gen := BitVec.ofNat 32 (opN c 0 4), cmd := c } } ∧
        Finished s.dev e 0x81 c (boundaryRp s.dev) [])) ∧
      (s.dev.sec.next = none → Does (.keyRollover c) s (fun e => e.sched = { s.dev.sched with roll := none } ∧
        Completed s.dev e 0x81 c 6 none []))) ∧
    (∀ c : Cmd, isNow c = false → s.dev.tim.firstLock = true →
      (dueGood s.dev.clk.raster c = false → Does (.lifecycleSet c) s (fun e => Completed s.dev e 0x82 c 4 none [] ∧ e.sec = s.dev.sec)) ∧
      (dueGood s.dev.clk.raster c = true → commitPassed s.dev .exact (dueRp c) = false → tooEarly s.dev (dueRp c) = true →
        Does (.lifecycleSet c) s (fun e => Completed s.dev e 0x82 c 8 none [] ∧ e.sec = s.dev.sec))) ∧
    (∀ c : Cmd, s.dev.tim.firstLock = false → Does (.lifecycleSet c) s (fun e => e.sec = s.dev.sec ∧ e.comps = s.dev.comps ∧
      e.sched.entries = s.dev.sched.entries ++ [{ op := 0x82, cmd := c, adm := s.dev.sched.adm, point := dueRp c, due := dueRp c, judged := false }])) ∧
    (∀ c : Cmd, secClosed s.dev = false → s.dev.sec.journal = none → s.dev.tim.firstLock = true → (isNow c = true ∨
        (dueGood s.dev.clk.raster c = true ∧ commitPassed s.dev .exact (dueRp c) = false ∧ tooEarly s.dev (dueRp c) = false)) →
      (lifeRefusal s.dev (opB c 0) (cut c.ops 8 8) = none → Does (.lifecycleSet c) s (fun e =>
        e.sec = { s.dev.sec with journal := some { src := s.dev.sec.life, dst := lifeOf (opB c 0), tag := c.tag } } ∧
        Finished s.dev e 0x82 c s.dev.clk.rp [] ∧ SameBut (.sec :: .comps :: reporting) s.dev e)) ∧
      (∀ r, lifeRefusal s.dev (opB c 0) (cut c.ops 8 8) = some r → Does (.lifecycleSet c) s (fun e => e.sec = s.dev.sec ∧
        Completed s.dev e 0x82 c 4 none (leN 1 r))))

/-- Debug and firmware (R497 to R500, R503 to R505, R508): a challenge's 32 bytes are kept for one response; a good
response grants what the life cycle allows, and a bad one refuses further responses for a time that doubles;
DEBUG_UNLOCK sets a level the life cycle allows; an intrusive instruction of the test port takes every ball; a STAGE
that passes its checks is written to the area that does not run, a SELECT prefers it, and ANTI_ROLLBACK raises the
counter to the running image's version. Where the rules leave room it follows the model's log entries 76, 78, 97. It
says where these complete: dbgChallenge, dbgResponse, dbgRequest, debugUnlock, tapIntrusiveEntry, fwUpdate,
fwUpdateStageDone. -/
def Obligations.DebugAndFirmware : Prop :=
  ∀ s : State,
    (∀ nonce now, portDead s.dev = false → Does (.dbgChallenge nonce now) s (fun e =>
      e.sec = { (tapPick .dbgChallenge s.dev).sec with nonce := some (challengeBytes s.dev nonce, now) } ∧ SameBut [.sec] s.dev e)) ∧
    (∀ (sig m : List Byte) (now at_ : Nat), portDead s.dev = false → s.dev.sec.backTo ≤ now → s.dev.sec.nonce = some (m, at_) →
      now ≤ at_ + 60000 → Does (.dbgResponse sig now) s (fun e => e.sec.nonce = none ∧
        (ecdsaOk Config.debugKey m sig = true → challengeAllows s.dev.sec.life (le m 9 1) = true →
          e.sec.level = le m 9 1 ∧ e.sec.backoff = 0) ∧
        (ecdsaOk Config.debugKey m sig = true → challengeAllows s.dev.sec.life (le m 9 1) = false → e.sec.level = s.dev.sec.level) ∧
        (ecdsaOk Config.debugKey m sig = false → e.sec.level = s.dev.sec.level ∧
          e.sec.backoff = (if s.dev.sec.backoff = 0 then 1 else min 64 (2 * s.dev.sec.backoff)) ∧
          e.sec.backTo = now + 1000 * e.sec.backoff) ∧ SameBut (.sec :: reporting) s.dev e)) ∧
    (portDead s.dev = false → s.dev.sec.life = .provisioned → Does (.dbgRequest 1) s (fun e => e.sec.level = 1 ∧ e.sec.reqLevel = 1 ∧
      (s.dev.sec.level ≠ 1 → Noticed s.dev e 0x8006 (leN 1 s.dev.sec.level ++ leN 1 1 ++ leN 1 1 ++ zeros 1)) ∧
      SameBut (.sec :: reporting) s.dev e)) ∧
    (∀ c : Cmd, opB c 0 ≤ 1 →
      (unlockAllows s.dev.sec.life (opB c 0) = true → s.dev.sec.level ≠ opB c 0 → Does (.debugUnlock c) s (fun e =>
        e.sec = { s.dev.sec with level := opB c 0 } ∧ Finished s.dev e 0x84 c s.dev.clk.rp [])) ∧
      (unlockAllows s.dev.sec.life (opB c 0) = false → Does (.debugUnlock c) s (fun e => e.sec = s.dev.sec ∧
        Completed s.dev e 0x84 c 6 none []))) ∧
    Does .tapIntrusiveEntry s (fun e => e.sec = { s.dev.sec with intrusive := true, tap := e.sec.tap } ∧ e.sec.tap.ir.intrusive = true ∧
      e.sec.tap.capture = 0x01 ∧ (∀ k, (e.sec.tap.ir = .highz → e.sec.tap.ball k = some none) ∧ e.sec.tap.ball k ≠ none) ∧
      e.tim = { s.dev.tim with fresh := s.dev.tim.fresh + 2 } ∧ SameBut [.sec, .tim] s.dev e) ∧
    (∀ c : Cmd, secClosed s.dev = false → s.dev.sec.stageImg = none → s.dev.sec.staging = [] →
      (∀ b, opB c 0 = 0 → opN c 8 8 % 64 = 0 → c.host = .data b → Does (.fwUpdate c) s (fun e =>
        (∀ i, judgeImage b (opN c 0x10 4) s.dev = .ok i → e.sec.stageImg = some i ∧ e.sec.staging = [(s.dev.clk.rp, c)] ∧
          e.sec.images = setAt s.dev.sec.images (1 - s.dev.sec.running) none ∧ e.comps = s.dev.comps) ∧
        (∀ r, judgeImage b (opN c 0x10 4) s.dev = .error r → Completed s.dev e 0x83 c 4 none (leN 1 r) ∧ e.sec = s.dev.sec))) ∧
      (opB c 0 = 1 → imageValid s.dev (1 - s.dev.sec.running) = true → Does (.fwUpdate c) s (fun e =>
        e.sec = { s.dev.sec with preferred := 1 - s.dev.sec.running, trial := true, announce := true, fails := 0 } ∧
        Finished s.dev e 0x83 c s.dev.clk.rp [])) ∧
      (opB c 0 = 1 → imageValid s.dev (1 - s.dev.sec.running) = false → Does (.fwUpdate c) s (fun e => e.sec = s.dev.sec ∧
        Completed s.dev e 0x83 c 6 none [])) ∧
      (∀ i, opB c 0 = 2 → imageOf s.dev s.dev.sec.running = some i → s.dev.sec.rollback < i.sec → Does (.fwUpdate c) s (fun e =>
        e.sec = { s.dev.sec with rollback := i.sec } ∧ Finished s.dev e 0x83 c s.dev.clk.rp []))) ∧
    (∀ (i : Image) (at_ : RP) (c : Cmd), s.dev.sec.stageImg = some i → s.dev.sec.staging = [(at_, c)] →
      Does (.fwUpdateStageDone .written) s (fun e => e.sec = { s.dev.sec with stageImg := none, staging := [], images := setAt s.dev.sec.images (1 - s.dev.sec.running) (some i) } ∧
        Finished s.dev e 0x83 c at_ (leN 1 (1 - s.dev.sec.running) ++ leN 1 i.sec)) ∧
      Does (.fwUpdateStageDone .flashError) s (fun e => e.sec = { s.dev.sec with stageImg := none, staging := [] } ∧
        Completed s.dev e 0x83 c 0x0B none []) ∧
      Does (.fwUpdateStageDone .busError) s (fun e => e.sec = { s.dev.sec with stageImg := none, staging := [] } ∧
        Completed s.dev e 0x83 c 0x0A none []))
end

