-- ==== Sys2Proof/Laws/Frame.lean ====
section
/-! SUPPORT. Laws/Frame.lean: a device with some parts blanked, and what blanking says of SameBut: equal masks compose by
rewriting. -/

namespace Sys2Proof.Laws

open Machine

/-- A device with the parts that `ps` names blanked. -/
def blank (ps : List Part) (d : Device) : Device :=
  { clk := bif has ps .clk then {} else d.clk,
    tim := bif has ps .tim then {} else d.tim,
    sched := bif has ps .sched then {} else d.sched,
    link := bif has ps .link then [] else d.link,
    ing := bif has ps .ing then [] else d.ing,
    topo := bif has ps .topo then {} else d.topo,
    flows := bif has ps .flows then {} else d.flows,
    hif := bif has ps .hif then {} else d.hif,
    gest := bif has ps .gest then {} else d.gest,
    pxl := bif has ps .pxl then {} else d.pxl,
    corr := bif has ps .corr then {} else d.corr,
    out := bif has ps .out then {} else d.out,
    red := bif has ps .red then {} else d.red,
    spare := bif has ps .spare then {} else d.spare,
    fix := bif has ps .fix then {} else d.fix,
    cal := bif has ps .cal then {} else d.cal,
    mtr := bif has ps .mtr then {} else d.mtr,
    sec := bif has ps .sec then {} else d.sec,
    pwr := bif has ps .pwr then {} else d.pwr,
    regs := bif has ps .regs then [] else d.regs,
    wideHold := bif has ps .wideHold then [] else d.wideHold,
    snap := bif has ps .snap then [] else d.snap,
    lastRead := bif has ps .lastRead then 0 else d.lastRead,
    proofIn := bif has ps .proofIn then [] else d.proofIn,
    sent := bif has ps .sent then [] else d.sent,
    host := bif has ps .host then [] else d.host,
    comps := bif has ps .comps then [] else d.comps,
    notes := bif has ps .notes then [] else d.notes }

/-- Whether every part of one list is in another. -/
def sub (ps qs : List Part) : Bool := ps.all (has qs)

theorem bif_of {α : Type} {b : Bool} {x y z : α} (h : b = false → x = y) : (bif b then z else x) = bif b then z else y := by
  cases b
  · exact h rfl
  · rfl

theorem of_bif {α : Type} {b : Bool} {x y z : α} (h : (bif b then z else x) = bif b then z else y) (hb : b = false) : x = y := by
  subst hb
  exact h

/-- Equal masks are agreement on every part that is not masked. -/
theorem mask_iff {ps : List Part} {d e : Device} : blank ps e = blank ps d ↔ SameBut ps d e := by
  simp only [blank, Device.mk.injEq, SameBut]
  repeat' first | exact ⟨of_bif, bif_of⟩ | refine and_congr ?_ ?_

theorem sameBut_of_mask {ps : List Part} {d e : Device} (h : blank ps e = blank ps d) : SameBut ps d e := mask_iff.mp h

theorem mask_of_sameBut {ps : List Part} {d e : Device} (h : SameBut ps d e) : blank ps e = blank ps d := mask_iff.mpr h

theorem has_of_sub {ps qs : List Part} {p : Part} (h : sub ps qs = true) (hp : has ps p = true) : has qs p = true := by
  have mem : ∀ l : List Part, has l p = true → p ∈ l := by
    intro l
    induction l with
    | nil => simp [has]
    | cons a l ih =>
      intro hl
      by_cases e : a = p
      · simp [e]
      · rw [has, if_neg e] at hl
        simp [ih hl]
  exact (List.all_eq_true.mp h) p (mem ps hp)

theorem sub_mono {ps qs rs : List Part} (h : sub ps qs = true) (hr : sub rs ps = true) : sub rs qs = true := by
  refine List.all_eq_true.mpr (fun p hp => ?_)
  exact has_of_sub h (List.all_eq_true.mp hr p hp)

/-- Agreement but for some parts is agreement but for more. -/
theorem sameBut_mono {ps qs : List Part} {d e : Device} (h : sub ps qs = true) (hs : SameBut ps d e) : SameBut qs d e := by
  have keep : ∀ p, has qs p = false → has ps p = false := by
    intro p hq
    cases hp : has ps p
    · rfl
    · rw [has_of_sub h hp] at hq; cases hq
  revert hs
  unfold SameBut
  repeat' first | exact fun hp hq => hp (keep _ hq) | refine And.imp ?_ ?_

/-- A wider mask hides no less. -/
theorem mask_mono {ps qs : List Part} {d e : Device} (h : sub ps qs = true) (hm : blank ps e = blank ps d) :
    blank qs e = blank qs d := mask_of_sameBut (sameBut_mono h (sameBut_of_mask hm))

theorem mask_foldl {α : Type} {ps : List Part} {f : Device → α → Device} (hf : ∀ d a, blank ps (f d a) = blank ps d)
    (l : List α) (d : Device) : blank ps (l.foldl f d) = blank ps d := by
  induction l generalizing d with
  | nil => rfl
  | cons a l ih => rw [List.foldl_cons, ih, hf]

theorem mask_ite {ps : List Part} (c : Prop) [Decidable c] (d e : Device) :
    blank ps (if c then d else e) = if c then blank ps d else blank ps e := apply_ite _ _ _ _

theorem ite_const {α : Type} {c : Prop} [Decidable c] {x y a : α} (hx : x = a) (hy : y = a) : (if c then x else y) = a := by
  split <;> assumption

theorem mask_when {ps : List Part} {f : Device → Device} {d : Device} (c : Bool) (hf : blank ps (f d) = blank ps d) :
    blank ps (when c f d) = blank ps d := by
  cases c
  · rfl
  · exact hf

/-- A device with another's raster clock. -/
def reclk (d e : Device) : Device := { d with clk := e.clk }

theorem reclk_self (d : Device) : reclk d d = d := rfl

theorem blank_quiet (ps : List Part) (f : Device → Device) (d : Device) :
    blank ps (quiet f d) = reclk (blank ps (f d)) (blank ps d) := rfl

theorem blank_when (ps : List Part) (c : Bool) (f : Device → Device) (d : Device) :
    blank ps (when c f d) = if c then blank ps (f d) else blank ps d := by cases c <;> rfl

theorem mask_quiet {ps : List Part} {f : Device → Device} {d : Device} (hf : blank ps (f d) = blank ps d) :
    blank ps (quiet f d) = blank ps d := by
  simp only [blank, Device.mk.injEq, quiet, keepClk] at hf ⊢
  simp_all

theorem blank_set_clk {ps : List Part} (h : has ps .clk = true) (d : Device) (x) :
    blank ps { d with clk := x } = blank ps d := by
  simp [blank, h]

theorem blank_set_tim {ps : List Part} (h : has ps .tim = true) (d : Device) (x) :
    blank ps { d with tim := x } = blank ps d := by
  simp [blank, h]

theorem blank_set_sched {ps : List Part} (h : has ps .sched = true) (d : Device) (x) :
    blank ps { d with sched := x } = blank ps d := by
  simp [blank, h]

theorem blank_set_link {ps : List Part} (h : has ps .link = true) (d : Device) (x) :
    blank ps { d with link := x } = blank ps d := by
  simp [blank, h]

theorem blank_set_ing {ps : List Part} (h : has ps .ing = true) (d : Device) (x) :
    blank ps { d with ing := x } = blank ps d := by
  simp [blank, h]

theorem blank_set_topo {ps : List Part} (h : has ps .topo = true) (d : Device) (x) :
    blank ps { d with topo := x } = blank ps d := by
  simp [blank, h]

theorem blank_set_flows {ps : List Part} (h : has ps .flows = true) (d : Device) (x) :
    blank ps { d with flows := x } = blank ps d := by
  simp [blank, h]

theorem blank_set_hif {ps : List Part} (h : has ps .hif = true) (d : Device) (x) :
    blank ps { d with hif := x } = blank ps d := by
  simp [blank, h]

theorem blank_set_gest {ps : List Part} (h : has ps .gest = true) (d : Device) (x) :
    blank ps { d with gest := x } = blank ps d := by
  simp [blank, h]

theorem blank_set_pxl {ps : List Part} (h : has ps .pxl = true) (d : Device) (x) :
    blank ps { d with pxl := x } = blank ps d := by
  simp [blank, h]

theorem blank_set_corr {ps : List Part} (h : has ps .corr = true) (d : Device) (x) :
    blank ps { d with corr := x } = blank ps d := by
  simp [blank, h]

theorem blank_set_out {ps : List Part} (h : has ps .out = true) (d : Device) (x) :
    blank ps { d with out := x } = blank ps d := by
  simp [blank, h]

theorem blank_set_red {ps : List Part} (h : has ps .red = true) (d : Device) (x) :
    blank ps { d with red := x } = blank ps d := by
  simp [blank, h]

theorem blank_set_spare {ps : List Part} (h : has ps .spare = true) (d : Device) (x) :
    blank ps { d with spare := x } = blank ps d := by
  simp [blank, h]

theorem blank_set_fix {ps : List Part} (h : has ps .fix = true) (d : Device) (x) :
    blank ps { d with fix := x } = blank ps d := by
  simp [blank, h]

theorem blank_set_cal {ps : List Part} (h : has ps .cal = true) (d : Device) (x) :
    blank ps { d with cal := x } = blank ps d := by
  simp [blank, h]

theorem blank_set_mtr {ps : List Part} (h : has ps .mtr = true) (d : Device) (x) :
    blank ps { d with mtr := x } = blank ps d := by
  simp [blank, h]

theorem blank_set_sec {ps : List Part} (h : has ps .sec = true) (d : Device) (x) :
    blank ps { d with sec := x } = blank ps d := by
  simp [blank, h]

theorem blank_set_pwr {ps : List Part} (h : has ps .pwr = true) (d : Device) (x) :
    blank ps { d with pwr := x } = blank ps d := by
  simp [blank, h]

theorem blank_set_regs {ps : List Part} (h : has ps .regs = true) (d : Device) (x) :
    blank ps { d with regs := x } = blank ps d := by
  simp [blank, h]

theorem blank_set_wideHold {ps : List Part} (h : has ps .wideHold = true) (d : Device) (x) :
    blank ps { d with wideHold := x } = blank ps d := by
  simp [blank, h]

theorem blank_set_snap {ps : List Part} (h : has ps .snap = true) (d : Device) (x) :
    blank ps { d with snap := x } = blank ps d := by
  simp [blank, h]

theorem blank_set_lastRead {ps : List Part} (h : has ps .lastRead = true) (d : Device) (x) :
    blank ps { d with lastRead := x } = blank ps d := by
  simp [blank, h]

theorem blank_set_proofIn {ps : List Part} (h : has ps .proofIn = true) (d : Device) (x) :
    blank ps { d with proofIn := x } = blank ps d := by
  simp [blank, h]

theorem blank_set_sent {ps : List Part} (h : has ps .sent = true) (d : Device) (x) :
    blank ps { d with sent := x } = blank ps d := by
  simp [blank, h]

theorem blank_set_host {ps : List Part} (h : has ps .host = true) (d : Device) (x) :
    blank ps { d with host := x } = blank ps d := by
  simp [blank, h]

theorem blank_set_comps {ps : List Part} (h : has ps .comps = true) (d : Device) (x) :
    blank ps { d with comps := x } = blank ps d := by
  simp [blank, h]

theorem blank_set_notes {ps : List Part} (h : has ps .notes = true) (d : Device) (x) :
    blank ps { d with notes := x } = blank ps d := by
  simp [blank, h]

theorem snd_of_eq {α β : Type} {p : α × β} {a : α} {b : β} (h : p = (a, b)) : b = p.2 := by rw [h]

end Sys2Proof.Laws
end

