-- ==== Sys2Proof/Laws/PartsBase.lean ====
section
/-! SUPPORT. Laws/PartsBase.lean: which parts each operation of Bytes, Crypto, Raster, Frames, Ops, Queues, Consist,
TestPort, Reset, Idle, Sched, Rx, Macsec can change, and no other: one lemma per operation. -/

namespace Sys2Proof.Laws

open Machine

theorem mask_dev_setWord {ps : List Part} (hsub : sub [.regs] ps = true) (d : Device) (a v : Nat) :
    blank ps (Device.setWord d a v) = blank ps d := by
  refine mask_mono hsub ?_
  simp (disch := decide) only [Device.setWord, blank_set_regs]

theorem mask_dev_bump {ps : List Part} (hsub : sub [.regs] ps = true) (d : Device) (a n : Nat) :
    blank ps (Device.bump d a n) = blank ps d := by
  refine mask_mono hsub ?_
  simp (disch := decide) only [Device.bump, mask_dev_setWord]

theorem mask_dev_setPort {ps : List Part} (hsub : sub [.link] ps = true) (d : Device) (p : Nat)
    (f : LinkPort → LinkPort) :
    blank ps (Device.setPort d p f) = blank ps d := by
  refine mask_mono hsub ?_
  simp (disch := decide) only [Device.setPort, blank_set_link]

theorem mask_countStat {ps : List Part} (hsub : sub [.link, .ing] ps = true) (d : Device) (p cls : Nat) :
    blank ps (countStat d p cls) = blank ps d := by
  refine mask_mono hsub ?_
  simp (disch := decide) only [countStat, mask_dev_setPort, blank_set_ing, mask_ite, ite_self]

theorem mask_usedSeq {ps : List Part} (hsub : sub [.flows] ps = true) (d : Device) (cls origin pair : Nat) :
    blank ps (usedSeq d cls origin pair) = blank ps d := by
  refine mask_mono hsub ?_
  simp (disch := decide) only [usedSeq, blank_set_flows]

theorem mask_tx {ps : List Part} (hsub : sub [.link, .sent] ps = true) (d : Device) (f : TxFrame) :
    blank ps (tx d f) = blank ps d := by
  refine mask_mono hsub ?_
  simp (disch := decide) only [tx, mask_dev_setPort, blank_set_sent, mask_ite, ite_self]

theorem mask_releasePort {ps : List Part} (hsub : sub [.link, .sent] ps = true) (d : Device) (p : Nat) :
    blank ps (releasePort d p) = blank ps d := by
  refine mask_mono hsub ?_
  unfold releasePort
  repeat' first
    | rw [mask_foldl (by intro d a; repeat' (simp (disch := decide) only [mask_tx]; done))]
    | simp (disch := decide) only [mask_dev_setPort, mask_ite, ite_self]

theorem mask_releasePorts {ps : List Part} (hsub : sub [.link, .sent] ps = true) (d : Device) :
    blank ps (releasePorts d) = blank ps d := by
  refine mask_mono hsub ?_
  unfold releasePorts
  split
  · exact mask_foldl (fun d a => mask_releasePort (by decide) d a) _ _
  · rfl

theorem mask_sendOwn {ps : List Part} (hsub : sub [.link, .sent] ps = true) (d : Device) (f : TxFrame) (twin : Bool)
    (proof : Option (BitVec 32)) :
    blank ps (sendOwn d f twin proof) = blank ps d := by
  refine mask_mono hsub ?_
  simp (disch := decide) only [sendOwn, mask_dev_setPort, mask_releasePort, mask_tx, blank_quiet, reclk_self,
      blank_when, mask_ite, ite_self]

theorem mask_nodeCopy {ps : List Part} (hsub : sub [.link, .sent] ps = true) (cls : Nat) (payload : Nat → List Byte)
    (stamp : RP) (twin : Bool) (proof : Option (BitVec 32)) (n pair dir : Nat) (d : Device) :
    blank ps (nodeCopy cls payload stamp twin proof n pair dir d) = blank ps d := by
  refine mask_mono hsub ?_
  unfold nodeCopy
  repeat' first | (simp (disch := decide) only [mask_sendOwn]; done) | split

theorem mask_nodeSendBy {ps : List Part} (hsub : sub [.link, .flows, .sent] ps = true) (cls : Nat)
    (payload : Nat → List Byte) (stamp : RP) (proof : Option (BitVec 32)) (d : Device) :
    blank ps (nodeSendBy cls payload stamp proof d) = blank ps d := by
  refine mask_mono hsub ?_
  unfold nodeSendBy
  refine mask_foldl ?_ _ _
  intro d a
  repeat' (simp (disch := decide) only [mask_nodeCopy, mask_usedSeq]; done)

theorem mask_nodeSend {ps : List Part} (hsub : sub [.link, .flows, .sent] ps = true) (cls : Nat) (payload : List Byte)
    (stamp : RP) (proof : Option (BitVec 32)) (d : Device) :
    blank ps (nodeSend cls payload stamp proof d) = blank ps d := by
  refine mask_mono hsub ?_
  simp (disch := decide) only [nodeSend, mask_nodeSendBy]

theorem mask_headSend {ps : List Part} (hsub : sub [.link, .flows, .sent] ps = true) (cls : Nat) (bcast : Bool)
    (dst : Nat) (payload : List Byte) (stamp : RP) (r : RingEntry) (pair : Nat) (isX : Bool) (d : Device) :
    blank ps (headSend cls bcast dst payload stamp r pair isX d) = blank ps d := by
  refine mask_mono hsub ?_
  unfold headSend
  refine mask_foldl ?_ _ _
  intro d a
  repeat' (simp (disch := decide) only [mask_sendOwn]; done)

theorem mask_vector {ps : List Part} (hsub : sub [.hif] ps = true) (v : Nat) (d : Device) :
    blank ps (vector v d) = blank ps d := by
  refine mask_mono hsub ?_
  simp (disch := decide) only [vector, blank_set_hif, mask_ite, ite_self]

theorem mask_hostWrite {ps : List Part} (hsub : sub [.host] ps = true) (addr : Nat) (bytes : List Byte) (d : Device) :
    blank ps (hostWrite addr bytes d) = blank ps d := by
  refine mask_mono hsub ?_
  simp (disch := decide) only [hostWrite, blank_set_host]

theorem mask_post {ps : List Part} (hsub : sub [.link, .flows, .hif, .sent] ps = true) (addr : Nat)
    (bytes : List Byte) (d : Device) :
    blank ps (post addr bytes d) = blank ps d := by
  refine mask_mono hsub ?_
  simp (disch := decide) only [post, mask_nodeSend, blank_set_hif, blank_quiet, reclk_self, blank_when, mask_ite,
      ite_self]

theorem mask_writeOut {ps : List Part} (hsub : sub [.link, .flows, .hif, .sent, .host] ps = true) (addr : Nat)
    (bytes : List Byte) (d : Device) :
    blank ps (writeOut addr bytes d) = blank ps d := by
  refine mask_mono hsub ?_
  unfold writeOut
  try dsimp only
  repeat' first
    | rfl
    | (simp (disch := decide) only [mask_hostWrite, mask_post, blank_set_hif, blank_quiet, reclk_self, blank_when, mask_ite, ite_self]; done)
    | split
    | simp (disch := decide) only [mask_hostWrite, mask_post, blank_set_hif, blank_quiet, reclk_self, blank_when, mask_ite, ite_self]

theorem mask_flushPosts {ps : List Part} (hsub : sub [.link, .flows, .hif, .sent, .host] ps = true) (d : Device) :
    blank ps (flushPosts d) = blank ps d := by
  refine mask_mono hsub ?_
  unfold flushPosts
  refine mask_foldl ?_ _ _
  intro d a
  repeat' first
    | rfl
    | (simp (disch := decide) only [mask_writeOut, blank_set_hif, blank_quiet, reclk_self, blank_when, mask_ite, ite_self]; done)
    | split

theorem mask_writeNotice {ps : List Part} (hsub : sub [.link, .flows, .hif, .sent, .host] ps = true) (n : Notice)
    (d : Device) :
    blank ps (writeNotice n d) = blank ps d := by
  refine mask_mono hsub ?_
  simp (disch := decide) only [writeNotice, mask_vector, mask_writeOut, blank_set_hif, mask_ite, ite_self]

theorem mask_flushKept {ps : List Part} (hsub : sub [.link, .flows, .hif, .sent, .host] ps = true) (n : Nat)
    (d : Device)  :
    blank ps (flushKept n d) = blank ps d := by
  refine mask_mono hsub ?_
  induction n generalizing d with
  | zero => rfl
  | succ n ih =>
    unfold flushKept
    split
    · split
      · simp (disch := decide) only [ih, mask_writeNotice, blank_set_hif]
      · rfl
    · rfl

theorem mask_flushEvents {ps : List Part} (hsub : sub [.link, .flows, .hif, .sent, .host] ps = true) (d : Device) :
    blank ps (flushEvents d) = blank ps d := by
  refine mask_mono hsub ?_
  simp (disch := decide) only [flushEvents, mask_flushKept, mask_writeNotice, blank_set_hif, mask_ite, ite_self]

theorem mask_record {ps : List Part} (hsub : sub [.link, .flows, .hif, .sent, .host] ps = true) (n : Notice)
    (d : Device) :
    blank ps (record n d) = blank ps d := by
  refine mask_mono hsub ?_
  simp (disch := decide) only [record, mask_writeNotice, blank_set_hif, mask_ite, ite_self]

theorem mask_raise {ps : List Part} (hsub : sub [.link, .flows, .hif, .sent, .host, .notes] ps = true) (code : Nat)
    (payload : List Byte) (d : Device) :
    blank ps (raise code payload d) = blank ps d := by
  refine mask_mono hsub ?_
  simp (disch := decide) only [raise, mask_record, blank_set_notes]

theorem mask_report {ps : List Part} (hsub : sub [.link, .flows, .hif, .sent, .host, .notes] ps = true) (kind : Nat)
    (subject : Option (BitVec 12)) (code : Nat) (payload : List Byte) (d : Device) :
    blank ps (report kind subject code payload d) = blank ps d := by
  refine mask_mono hsub ?_
  simp (disch := decide) only [report, mask_raise, blank_set_hif, mask_ite, ite_self]

theorem mask_complete {ps : List Part} (hsub : sub [.link, .flows, .hif, .sent, .host, .comps] ps = true) (op : Nat)
    (c : Cmd) (status : Nat) (effect : Option RP) (result : List Byte) (d : Device) :
    blank ps (complete op c status effect result d) = blank ps d := by
  refine mask_mono hsub ?_
  simp (disch := decide) only [complete, mask_vector, mask_writeOut, blank_set_comps, mask_ite, ite_self]

theorem mask_eventLate {ps : List Part} (hsub : sub [.link, .flows, .hif, .sent, .host, .notes] ps = true) (op : Nat)
    (c : Cmd) (effect : Option RP) (d : Device) :
    blank ps (eventLate op c effect d) = blank ps d := by
  refine mask_mono hsub ?_
  simp (disch := decide) only [eventLate, mask_report]

theorem mask_finish {ps : List Part} (hsub : sub [.link, .flows, .hif, .sent, .host, .comps, .notes] ps = true)
    (op : Nat) (c : Cmd) (effect : RP) (result : List Byte) (d : Device) :
    blank ps (finish op c effect result d) = blank ps d := by
  refine mask_mono hsub ?_
  simp (disch := decide) only [finish, mask_complete, mask_eventLate, blank_when, ite_self]

theorem mask_refuse {ps : List Part} (hsub : sub [.link, .flows, .hif, .sent, .host, .comps] ps = true) (op : Nat)
    (c : Cmd) (status : Nat) (reason : List Byte) (d : Device) :
    blank ps (refuse op c status reason d) = blank ps d := by
  refine mask_mono hsub ?_
  simp (disch := decide) only [refuse, mask_complete]

theorem mask_rateEvent {ps : List Part} (hsub : sub [.hif] ps = true) (code subject : Nat) (detail tail : List Byte)
    (n : Nat) (allOnes : Bool) (d : Device) :
    blank ps (rateEvent code subject detail tail n allOnes d) = blank ps d := by
  refine mask_mono hsub ?_
  simp (disch := decide) only [rateEvent, blank_set_hif, mask_ite, ite_self]

theorem mask_wmPut {ps : List Part} (hsub : sub [.sched, .link, .ing, .pxl, .corr] ps = true) (d : Device) (i : Nat)
    (w : Watermark) :
    blank ps (wmPut d i w) = blank ps d := by
  refine mask_mono hsub ?_
  simp (disch := decide) only [wmPut, mask_dev_setPort, blank_set_sched, blank_set_ing, blank_set_pxl, blank_set_corr,
      mask_ite, ite_self]

theorem mask_wmNotice {ps : List Part} (hsub : sub [.link, .flows, .hif, .sent, .host, .notes] ps = true) (i : Nat)
    (w : Watermark) (level count flags : Nat) (d : Device) :
    blank ps (wmNotice i w level count flags d) = blank ps d := by
  refine mask_mono hsub ?_
  simp (disch := decide) only [wmNotice, mask_raise]

theorem mask_sample {ps : List Part}
    (hsub : sub [.sched, .link, .ing, .flows, .hif, .pxl, .corr, .sent, .host, .notes] ps = true) (i level : Nat)
    (d : Device) :
    blank ps (sample i level d) = blank ps d := by
  refine mask_mono hsub ?_
  simp (disch := decide) only [sample, mask_wmNotice, mask_wmPut, mask_ite, ite_self]

theorem mask_sampleSched {ps : List Part} (hsub : sub [.sched, .link, .flows, .hif, .sent, .host, .notes] ps = true)
    (level : Nat) (d : Device) :
    blank ps (sampleSched level d) = blank ps d := by
  refine mask_mono hsub ?_
  have hp : ∀ e w, blank [.sched, .link, .flows, .hif, .sent, .host, .notes] (wmPut e 0 w) = blank [.sched, .link, .flows, .hif, .sent, .host, .notes] e := fun e w => by
    unfold wmPut; simp (disch := decide) only [blank_set_sched, if_true, Nat.reduceLeDiff]
  unfold sampleSched sample
  dsimp only
  (repeat' split) <;> simp (disch := decide) only [hp, mask_wmNotice]

theorem mask_sampleStore {ps : List Part} (hsub : sub [.link, .flows, .hif, .pxl, .sent, .host, .notes] ps = true)
    (level : Nat) (d : Device) :
    blank ps (sampleStore level d) = blank ps d := by
  refine mask_mono hsub ?_
  have hp : ∀ e w, blank [.link, .flows, .hif, .pxl, .sent, .host, .notes] (wmPut e 11 w) = blank [.link, .flows, .hif, .pxl, .sent, .host, .notes] e := fun e w => by
    unfold wmPut; simp (disch := decide) only [blank_set_pxl, if_true, if_false, Nat.reduceLeDiff, OfNat.ofNat_ne_zero]
  unfold sampleStore sample
  dsimp only
  (repeat' split) <;> simp (disch := decide) only [hp, mask_wmNotice]

theorem mask_sampleLoad {ps : List Part} (hsub : sub [.link, .flows, .hif, .pxl, .sent, .host, .notes] ps = true)
    (level : Nat) (d : Device) :
    blank ps (sampleLoad level d) = blank ps d := by
  refine mask_mono hsub ?_
  have hp : ∀ e w, blank [.link, .flows, .hif, .pxl, .sent, .host, .notes] (wmPut e 12 w) = blank [.link, .flows, .hif, .pxl, .sent, .host, .notes] e := fun e w => by
    unfold wmPut; simp (disch := decide) only [blank_set_pxl, if_true, if_false, Nat.reduceEqDiff, Nat.reduceLeDiff, OfNat.ofNat_ne_zero]
  unfold sampleLoad sample
  dsimp only
  (repeat' split) <;> simp (disch := decide) only [hp, mask_wmNotice]

theorem mask_sampleLimit {ps : List Part} (hsub : sub [.link, .flows, .hif, .corr, .sent, .host, .notes] ps = true)
    (level : Nat) (d : Device) :
    blank ps (sampleLimit level d) = blank ps d := by
  refine mask_mono hsub ?_
  have hp : ∀ e w, blank [.link, .flows, .hif, .corr, .sent, .host, .notes] (wmPut e 13 w) = blank [.link, .flows, .hif, .corr, .sent, .host, .notes] e := fun e w => by
    unfold wmPut; simp (disch := decide) only [blank_set_corr, if_false, Nat.reduceEqDiff, Nat.reduceLeDiff, OfNat.ofNat_ne_zero]
  unfold sampleLimit sample
  dsimp only
  (repeat' split) <;> simp (disch := decide) only [hp, mask_wmNotice]

theorem mask_wmAck {ps : List Part}
    (hsub : sub [.sched, .link, .ing, .flows, .hif, .pxl, .corr, .sent, .host, .notes] ps = true) (i : Nat)
    (d : Device) :
    blank ps (wmAck i d) = blank ps d := by
  refine mask_mono hsub ?_
  simp (disch := decide) only [wmAck, mask_wmNotice, mask_wmPut, mask_ite, ite_self]

theorem mask_ackMarks {ps : List Part}
    (hsub : sub [.sched, .link, .ing, .flows, .hif, .pxl, .corr, .sent, .host, .notes] ps = true) (d : Device) :
    blank ps (ackMarks d) = blank ps d := by
  refine mask_mono hsub ?_
  unfold ackMarks
  refine mask_foldl ?_ _ _
  intro d a
  repeat' first | (simp (disch := decide) only [mask_wmAck, mask_ite, ite_self]; done) | split

theorem mask_ackAllMarks {ps : List Part}
    (hsub : sub [.sched, .link, .ing, .flows, .hif, .pxl, .corr, .sent, .host, .notes] ps = true) (d : Device) :
    blank ps (ackAllMarks d) = blank ps d := by
  refine mask_mono hsub ?_
  unfold ackAllMarks
  refine mask_foldl ?_ _ _
  intro d a
  repeat' (simp (disch := decide) only [mask_wmAck, mask_ite, ite_self]; done)

theorem mask_seeC {ps : List Part}
    (hsub : sub [.sched, .link, .ing, .flows, .hif, .pxl, .corr, .sent, .host, .notes] ps = true) (c : BitVec 32)
    (d : Device) :
    blank ps (seeC c d) = blank ps d := by
  refine mask_mono hsub ?_
  simp (disch := decide) only [seeC, mask_ackMarks, mask_flushEvents, mask_raise, blank_set_hif, mask_ite, ite_self]

theorem mask_freeNext {ps : List Part} (hsub : sub [.tim] ps = true) (d : Device) :
    blank ps (freeNext d).2 = blank ps d := by
  refine mask_mono hsub ?_
  simp (disch := decide) only [freeNext, blank_set_tim]

theorem mask_setIng {ps : List Part} (hsub : sub [.ing] ps = true) (p : Nat) (f : IngPort → IngPort) (d : Device) :
    blank ps (setIng p f d) = blank ps d := by
  refine mask_mono hsub ?_
  simp (disch := decide) only [setIng, blank_set_ing]

theorem mask_setQueue {ps : List Part} (hsub : sub [.link, .ing] ps = true) (p : Nat) (f : PortQueue → PortQueue)
    (d : Device) :
    blank ps (setQueue p f d) = blank ps d := by
  refine mask_mono hsub ?_
  simp (disch := decide) only [setQueue, mask_dev_setPort, mask_setIng, mask_ite, ite_self]

theorem mask_queueDrop {ps : List Part} (hsub : sub [.link, .ing] ps = true) (d : Device) (p : Nat) :
    blank ps (queueDrop d p) = blank ps d := by
  refine mask_mono hsub ?_
  simp (disch := decide) only [queueDrop, mask_setQueue]

theorem mask_queueSample {ps : List Part} (hsub : sub [.link, .ing, .flows, .hif, .sent, .host, .notes] ps = true)
    (p level : Nat) (d : Device) :
    blank ps (queueSample p level d) = blank ps d := by
  refine mask_mono hsub ?_
  have h1 : ¬ (queueMark p = 0) := by unfold queueMark; omega
  have h3 : queueMark p ≤ 10 := by unfold queueMark; omega
  have hp : ∀ e w, blank [.link, .ing, .flows, .hif, .sent, .host, .notes] (wmPut e (queueMark p) w) = blank [.link, .ing, .flows, .hif, .sent, .host, .notes] e := fun e w => by
    rw [wmPut, if_neg h1, if_pos h3]
    split
    · rw [Device.setPort, blank_set_link rfl]
    · rw [blank_set_ing rfl]
  unfold queueSample sample
  dsimp only
  (repeat' split) <;> simp (disch := decide) only [hp, mask_wmNotice]

theorem mask_markerWriteFx {ps : List Part} (hsub : sub [.link, .ing, .flows, .hif, .sent, .host, .notes] ps = true)
    (p : Nat) (d : Device) :
    blank ps (markerWriteFx p d) = blank ps d := by
  refine mask_mono hsub ?_
  unfold markerWriteFx
  repeat' first | split | simp (disch := decide) only [mask_queueSample, mask_setQueue]

theorem mask_queueWrite {ps : List Part} (hsub : sub [.link, .ing, .flows, .hif, .sent, .host, .notes] ps = true)
    (p : Nat) (bs : List Byte) (read : Nat) (bad : List Nat) (d : Device) :
    blank ps (queueWrite p bs read bad d).dev = blank ps d := by
  refine mask_mono hsub ?_
  unfold queueWrite
  repeat' first
    | split
    | simp (disch := decide) only [mask_markerWriteFx, mask_queueDrop, mask_queueSample, mask_setQueue]

theorem mask_queueRewind {ps : List Part} (hsub : sub [.link, .ing] ps = true) (p n : Nat) (d : Device) :
    blank ps (queueRewind p n d) = blank ps d := by
  refine mask_mono hsub ?_
  simp (disch := decide) only [queueRewind, mask_setQueue]

theorem mask_queueVerdict {ps : List Part} (hsub : sub [.link, .ing] ps = true) (p : Nat) (bs : List Byte)
    (bad : Bool) (a : Arrival)  :
    blank ps (queueVerdict p bs bad a) = blank ps a.dev := by
  refine mask_mono hsub ?_
  simp (disch := decide) only [queueVerdict, mask_queueRewind, mask_ite, ite_self]

theorem mask_parityCount {ps : List Part} (hsub : sub [.spare] ps = true) (q n : Nat) (d : Device) :
    blank ps (parityCount q n d) = blank ps d := by
  refine mask_mono hsub ?_
  simp (disch := decide) only [parityCount, blank_set_spare, blank_quiet, reclk_self, blank_when, mask_ite, ite_self]

theorem mask_poisoned {ps : List Part} (hsub : sub [.hif, .spare, .regs] ps = true) (p n : Nat) (d : Device) :
    blank ps (poisoned p n d) = blank ps d := by
  refine mask_mono hsub ?_
  simp (disch := decide) only [poisoned, mask_dev_bump, mask_parityCount, mask_rateEvent]

theorem mask_markerReadFx {ps : List Part}
    (hsub : sub [.link, .ing, .flows, .hif, .regs, .sent, .host, .notes] ps = true) (p : Nat) (poison : Bool)
    (d : Device) :
    blank ps (markerReadFx p poison d) = blank ps d := by
  refine mask_mono hsub ?_
  unfold markerReadFx
  repeat' first
    | (simp (disch := decide) only [mask_dev_bump, mask_queueSample, mask_rateEvent, mask_setQueue]; done)
    | split

theorem mask_resetDevice {ps : List Part}
    (hsub : sub [.clk, .tim, .sched, .link, .ing, .topo, .flows, .hif, .gest, .pxl, .corr, .out, .red, .spare, .fix, .cal, .mtr, .sec, .pwr, .regs, .wideHold, .snap, .lastRead, .proofIn] ps = true)
    (cause : Nat) (d : Device) :
    blank ps (resetDevice cause d) = blank ps d := by
  refine mask_mono hsub ?_
  rfl

theorem mask_idle {ps : List Part} (hsub : sub [.clk] ps = true) (d : Device) :
    blank ps (idle d) = blank ps d := by
  refine mask_mono hsub ?_
  simp (disch := decide) only [idle, blank_set_clk, mask_ite, ite_self]

theorem mask_schedSample {ps : List Part} (hsub : sub [.sched, .link, .flows, .hif, .sent, .host, .notes] ps = true)
    (d : Device) :
    blank ps (schedSample d) = blank ps d := by
  refine mask_mono hsub ?_
  simp (disch := decide) only [schedSample, mask_sampleSched]

theorem mask_put {ps : List Part} (hsub : sub [.sched] ps = true) (op : Nat) (c : Cmd) (adm : Nat) (point due : RP)
    (isJudged : Bool) (d : Device) :
    blank ps (put op c adm point due isJudged d) = blank ps d := by
  refine mask_mono hsub ?_
  simp (disch := decide) only [put, blank_set_sched, blank_quiet, reclk_self, blank_when, mask_ite, ite_self]

theorem mask_place {ps : List Part} (hsub : sub [.sched, .link, .flows, .hif, .sent, .host, .notes] ps = true)
    (op : Nat) (c : Cmd) (adm : Nat) (point due : RP) (isJudged : Bool) (d : Device) :
    blank ps (place op c adm point due isJudged d) = blank ps d := by
  refine mask_mono hsub ?_
  simp (disch := decide) only [place, mask_put, mask_schedSample, blank_quiet, reclk_self, blank_when, mask_ite,
      ite_self]

theorem mask_late {ps : List Part} (hsub : sub [.sched, .link, .flows, .hif, .sent, .host, .comps, .notes] ps = true)
    (op : Nat) (c : Cmd) (adm : Nat) (due : RP) (d : Device) :
    blank ps (late op c adm due d) = blank ps d := by
  refine mask_mono hsub ?_
  simp (disch := decide) only [late, mask_eventLate, mask_put, mask_refuse, blank_quiet, reclk_self, blank_when,
      mask_ite, ite_self]

theorem mask_judge {ps : List Part} (hsub : sub [.sched, .link, .flows, .hif, .sent, .host, .comps, .notes] ps = true)
    (op : Nat) (c : Cmd) (adm : Nat) (d : Device) :
    blank ps (judge op c adm d) = blank ps d := by
  refine mask_mono hsub ?_
  simp (disch := decide) only [judge, mask_late, mask_put, mask_refuse, blank_quiet, reclk_self, blank_when, mask_ite,
      ite_self]

theorem mask_syncRoll {ps : List Part} (hsub : sub [.sched] ps = true) (d : Device) :
    blank ps (syncRoll d) = blank ps d := by
  refine mask_mono hsub ?_
  simp (disch := decide) only [syncRoll, blank_set_sched, blank_quiet, reclk_self, blank_when, mask_ite, ite_self]

theorem mask_tidyStaging {ps : List Part} (hsub : sub [.pxl] ps = true) (d : Device) :
    blank ps (tidyStaging d) = blank ps d := by
  refine mask_mono hsub ?_
  simp (disch := decide) only [tidyStaging, blank_set_pxl]

theorem mask_cancelWhere {ps : List Part}
    (hsub : sub [.sched, .link, .flows, .hif, .pxl, .sent, .host, .comps, .notes] ps = true) (p : Entry → Bool)
    (d : Device) :
    blank ps (cancelWhere p d) = blank ps d := by
  refine mask_mono hsub ?_
  unfold cancelWhere
  repeat' first
    | rw [mask_foldl (by intro d a; repeat' (simp (disch := decide) only [mask_complete]; done))]
    | simp (disch := decide) only [mask_schedSample, mask_syncRoll, mask_tidyStaging, blank_set_sched]

theorem mask_rollLatest {ps : List Part}
    (hsub : sub [.sched, .link, .flows, .hif, .pxl, .sent, .host, .comps, .notes] ps = true) (d : Device) :
    blank ps (rollLatest d) = blank ps d := by
  refine mask_mono hsub ?_
  simp (disch := decide) only [rollLatest, mask_cancelWhere, mask_syncRoll, mask_ite, ite_self]

theorem mask_admitCmd {ps : List Part}
    (hsub : sub [.sched, .link, .flows, .hif, .pxl, .sent, .host, .comps, .notes] ps = true) (op : Nat) (c : Cmd)
    (d : Device) :
    blank ps (admitCmd op c d) = blank ps d := by
  refine mask_mono hsub ?_
  simp (disch := decide) only [admitCmd, mask_judge, mask_put, mask_rollLatest, mask_schedSample, blank_set_sched,
      blank_quiet, reclk_self, blank_when, mask_ite, ite_self]

theorem mask_loadRefused {ps : List Part} (hsub : sub [.link, .flows, .hif, .sent, .host, .comps, .notes] ps = true)
    (st : Nat) (c : Cmd) (d : Device) :
    blank ps (loadRefused st c d) = blank ps d := by
  refine mask_mono hsub ?_
  simp (disch := decide) only [loadRefused, mask_eventLate, mask_refuse, blank_quiet, reclk_self, blank_when,
      mask_ite, ite_self]

theorem mask_judgeLoad {ps : List Part}
    (hsub : sub [.link, .topo, .flows, .hif, .sent, .host, .comps, .notes] ps = true) (d : Device) :
    blank ps (judgeLoad d) = blank ps d := by
  refine mask_mono hsub ?_
  unfold judgeLoad
  repeat' first
    | rfl
    | (simp (disch := decide) only [mask_loadRefused, blank_set_topo, blank_quiet, reclk_self, blank_when, mask_ite, ite_self]; done)
    | split

theorem mask_evaluateHeld {ps : List Part}
    (hsub : sub [.sched, .link, .topo, .flows, .hif, .pxl, .sent, .host, .comps, .notes] ps = true) (d : Device) :
    blank ps (evaluateHeld d) = blank ps d := by
  refine mask_mono hsub ?_
  unfold evaluateHeld
  try dsimp only
  repeat' first
    | rfl
    | done
    | (simp (disch := decide) only [mask_judge, mask_judgeLoad, mask_rollLatest, mask_schedSample, mask_tidyStaging, blank_set_sched, blank_quiet, reclk_self, blank_when, mask_ite, ite_self]; done)
    | rw [mask_foldl (by intro d a; repeat' first | rfl | (simp (disch := decide) only [mask_judge, mask_judgeLoad, mask_rollLatest, mask_schedSample, mask_tidyStaging, blank_set_sched, blank_quiet, reclk_self, blank_when, mask_ite, ite_self]; done) | split)]
    | split
    | simp (disch := decide) only [mask_judge, mask_judgeLoad, mask_rollLatest, mask_schedSample, mask_tidyStaging, blank_set_sched, blank_quiet, reclk_self, blank_when, mask_ite, ite_self]

theorem mask_unjudge {ps : List Part} (hsub : sub [.sched] ps = true) (d : Device) :
    blank ps (unjudge d) = blank ps d := by
  refine mask_mono hsub ?_
  simp (disch := decide) only [unjudge, blank_set_sched, blank_quiet, reclk_self, blank_when, mask_ite, ite_self]

theorem mask_skippedEntry {ps : List Part}
    (hsub : sub [.sched, .link, .flows, .hif, .sent, .host, .comps, .notes] ps = true) (e : Entry) (d : Device) :
    blank ps (skippedEntry e d) = blank ps d := by
  refine mask_mono hsub ?_
  simp (disch := decide) only [skippedEntry, mask_late, mask_put, blank_quiet, reclk_self, blank_when, mask_ite,
      ite_self]

theorem mask_afterStep {ps : List Part}
    (hsub : sub [.sched, .link, .flows, .hif, .pxl, .sent, .host, .comps, .notes] ps = true) (was : RP) (d : Device) :
    blank ps (afterStep was d) = blank ps d := by
  refine mask_mono hsub ?_
  unfold afterStep
  try dsimp only
  repeat' first
    | rfl
    | done
    | (simp (disch := decide) only [mask_schedSample, mask_skippedEntry, mask_syncRoll, mask_tidyStaging, blank_set_sched, blank_quiet, reclk_self, blank_when, mask_ite, ite_self]; done)
    | rw [mask_foldl (by intro d a; repeat' first | rfl | (simp (disch := decide) only [mask_schedSample, mask_skippedEntry, mask_syncRoll, mask_tidyStaging, blank_set_sched, blank_quiet, reclk_self, blank_when, mask_ite, ite_self]; done) | split)]
    | split
    | simp (disch := decide) only [mask_schedSample, mask_skippedEntry, mask_syncRoll, mask_tidyStaging, blank_set_sched, blank_quiet, reclk_self, blank_when, mask_ite, ite_self]

theorem mask_dropEntry {ps : List Part} (hsub : sub [.sched] ps = true) (e : Entry) (d : Device) :
    blank ps (dropEntry e d) = blank ps d := by
  refine mask_mono hsub ?_
  simp (disch := decide) only [dropEntry, blank_set_sched]

theorem mask_shutterSetFx {ps : List Part}
    (hsub : sub [.sched, .link, .flows, .hif, .sent, .host, .comps, .notes] ps = true) (c : Cmd) (d : Device) :
    blank ps (shutterSetFx c d) = blank ps d := by
  refine mask_mono hsub ?_
  simp (disch := decide) only [shutterSetFx, mask_finish, mask_refuse, blank_set_sched, mask_ite, ite_self]

theorem mask_nopFx {ps : List Part} (hsub : sub [.link, .flows, .hif, .sent, .host, .comps, .notes] ps = true)
    (c : Cmd) (d : Device) :
    blank ps (nopFx c d) = blank ps d := by
  refine mask_mono hsub ?_
  simp (disch := decide) only [nopFx, mask_finish]

theorem mask_malformed {ps : List Part} (hsub : sub [.regs] ps = true) (p : Nat) (d : Device) :
    blank ps (malformed p d) = blank ps d := by
  refine mask_mono hsub ?_
  simp (disch := decide) only [malformed, mask_dev_bump]

theorem mask_insertNow {ps : List Part} (hsub : sub [.link, .sent] ps = true) (p : Nat) (d : Device) :
    blank ps (insertNow p d) = blank ps d := by
  refine mask_mono hsub ?_
  unfold insertNow
  refine mask_foldl ?_ _ _
  intro d a
  repeat' first
    | rfl
    | (simp (disch := decide) only [mask_dev_setPort, mask_tx, blank_quiet, reclk_self, blank_when, mask_ite, ite_self]; done)
    | split

theorem mask_runPassed {ps : List Part} (hsub : sub [.link, .sent] ps = true) (p n : Nat) (d : Device) :
    blank ps (runPassed p n d) = blank ps d := by
  refine mask_mono hsub ?_
  simp (disch := decide) only [runPassed, mask_dev_setPort, mask_insertNow, mask_ite, ite_self]

theorem mask_hopLimit {ps : List Part} (hsub : sub [.hif, .regs] ps = true) (p : Nat) (h : Hdr) (d : Device) :
    blank ps (hopLimit p h d) = blank ps d := by
  refine mask_mono hsub ?_
  simp (disch := decide) only [hopLimit, mask_malformed, mask_rateEvent, blank_quiet, reclk_self, blank_when,
      mask_ite, ite_self]

theorem mask_forwardFrame {ps : List Part} (hsub : sub [.link, .hif, .regs, .sent] ps = true) (f : RxFrame)
    (w : WireCheck) (edit : List Byte → List Byte) (d : Device) :
    blank ps (forwardFrame f w edit d) = blank ps d := by
  refine mask_mono hsub ?_
  unfold forwardFrame
  try dsimp only
  repeat' first
    | rfl
    | (simp (disch := decide) only [mask_dev_setPort, mask_hopLimit, mask_runPassed, mask_tx, blank_quiet, reclk_self, blank_when, mask_ite, ite_self]; done)
    | split
    | simp (disch := decide) only [mask_dev_setPort, mask_hopLimit, mask_runPassed, mask_tx, blank_quiet, reclk_self, blank_when, mask_ite, ite_self]

theorem mask_learnDir {ps : List Part} (hsub : sub [.link] ps = true) (f : RxFrame) (d : Device) :
    blank ps (learnDir f d) = blank ps d := by
  refine mask_mono hsub ?_
  simp (disch := decide) only [learnDir, mask_dev_setPort, blank_when, ite_self]

theorem mask_learnEnd {ps : List Part} (hsub : sub [.topo] ps = true) (p : Nat) (h : Hdr) (d : Device) :
    blank ps (learnEnd p h d) = blank ps d := by
  refine mask_mono hsub ?_
  simp (disch := decide) only [learnEnd, blank_set_topo, blank_when, ite_self]

theorem mask_countWire {ps : List Part} (hsub : sub [.link, .ing, .regs] ps = true) (p : Nat) (w : WireCheck)
    (d : Device) :
    blank ps (countWire p w d) = blank ps d := by
  refine mask_mono hsub ?_
  unfold countWire
  repeat' first | (simp (disch := decide) only [mask_countStat, mask_dev_bump]; done) | split

theorem mask_leave {ps : List Part} (hsub : sub [.hif, .spare, .regs] ps = true) (f : RxFrame) (full : Bool)
    (fx : Device → Device) (d : Device) (hf : ∀ d, blank ps (fx d) = blank ps d) :
    blank ps ((leave f full fx d).dev) = blank ps d := by
  have hp : ∀ p n e, blank ps (poisoned p n e) = blank ps e := fun p n e => mask_mono hsub (mask_poisoned (by decide) p n e)
  unfold leave
  dsimp only
  repeat' first | rfl | exact hp _ _ _ | exact hf _ | split

theorem mask_rewound {ps : List Part} (hsub : sub [.link, .ing] ps = true) (f : RxFrame) (full : Bool)
    (fx : Device → Device) (d : Device) (hf : ∀ d, blank ps (fx d) = blank ps d) :
    blank ps ((rewound f full fx d).dev) = blank ps d := by
  have hp : ∀ p n e, blank ps (queueRewind p n e) = blank ps e := fun p n e => mask_mono hsub (mask_queueRewind (by decide) p n e)
  unfold rewound
  rw [hf]
  split
  · rfl
  · exact hp _ _ _

theorem mask_frameChecks {ps : List Part} (hsub : sub [.link, .ing, .topo, .hif, .spare, .regs] ps = true)
    (f : RxFrame) (full : Bool) (d : Device) :
    blank ps (frameChecks f full d).dev = blank ps d := by
  refine mask_mono hsub ?_
  unfold frameChecks
  try dsimp only
  repeat' first
    | rfl
    | (simp (disch := decide) only [mask_countStat, mask_learnEnd, mask_malformed, blank_quiet, reclk_self, blank_when, mask_ite, ite_self]; done)
    | (refine mask_fromIngest (by decide) _ _ _ ?_; intro d)
    | (refine mask_leave (by decide) _ _ _ _ ?_; intro d)
    | (refine mask_rewound (by decide) _ _ _ _ ?_; intro d)
    | (refine mask_comeTo (by decide) _ _ _ ?_; intro d)
    | (refine mask_takeNumbered (by decide) _ _ _ _ ?_; intro h b d)
    | (refine mask_takeAnswer (by decide) _ _ _ _ ?_; intro b d)
    | split
    | simp (disch := decide) only [mask_countStat, mask_learnEnd, mask_malformed, blank_quiet, reclk_self, blank_when, mask_ite, ite_self]

theorem mask_framePassed {ps : List Part} (hsub : sub [.link, .hif, .regs, .sent] ps = true) (f : RxFrame)
    (w : WireCheck) (edit : List Byte → List Byte) (d : Device) :
    blank ps (framePassed f w edit d) = blank ps d := by
  refine mask_mono hsub ?_
  simp (disch := decide) only [framePassed, mask_forwardFrame, mask_ite, ite_self]

theorem mask_takeFrame {ps : List Part}
    (hsub : sub [.link, .ing, .topo, .flows, .hif, .spare, .regs, .sent, .host, .notes] ps = true) (f : RxFrame)
    (edit : List Byte → List Byte) (d : Device) :
    blank ps (takeFrame f edit d).dev = blank ps d := by
  refine mask_mono hsub ?_
  have ha : ∀ x, blank [.link, .ing, .topo, .flows, .hif, .spare, .regs, .sent, .host, .notes] (queueWrite f.port.val (queueBytes f) f.read f.bad (countWire f.port.val x d)).dev = blank [.link, .ing, .topo, .flows, .hif, .spare, .regs, .sent, .host, .notes] d :=
    fun x => by simp (disch := decide) only [mask_queueWrite, mask_countWire]
  unfold takeFrame
  dsimp only
  split
  · rfl
  · split
    · exact (mask_leave (by decide) _ _ _ _ (fun _ => rfl)).trans (ha _)
    · split
      · refine (mask_leave (by decide) _ _ _ _ (fun e => mask_dev_bump (by decide) e _ _)).trans ?_
        rw [blank_when, mask_countStat (by decide), ite_self]
        exact ha _
      · split
        · exact (mask_rewound (by decide) _ _ _ _ (fun _ => rfl)).trans (ha _)
        · split
          · refine (mask_rewound (by decide) _ _ _ _ (fun _ => rfl)).trans ?_
            rw [mask_framePassed (by decide)]; exact ha _
          · rw [mask_frameChecks (by decide), mask_learnDir (by decide), mask_framePassed (by decide)]; exact ha _

theorem mask_countGaps {ps : List Part} (hsub : sub [.link] ps = true) (p n : Nat) (d : Device) :
    blank ps (countGaps p n d) = blank ps d := by
  refine mask_mono hsub ?_
  simp (disch := decide) only [countGaps, mask_dev_setPort, mask_ite, ite_self]

theorem mask_dedup {ps : List Part} (hsub : sub [.link, .flows, .regs] ps = true) (p cls origin peer : Nat)
    (seq : BitVec 32) (restart : Bool) (d : Device) :
    blank ps (dedup p cls origin peer seq restart d).2 = blank ps d := by
  refine mask_mono hsub ?_
  unfold dedup
  repeat' first | split | simp (disch := decide) only [mask_countGaps, mask_dev_bump, blank_set_flows]

theorem mask_dedupHdr {ps : List Part} (hsub : sub [.link, .flows, .regs] ps = true) (p : Nat) (h : Hdr) (d : Device) :
    blank ps (dedupHdr p h d).2 = blank ps d := by
  refine mask_mono hsub ?_
  unfold dedupHdr
  repeat' first | (simp (disch := decide) only [mask_dedup]; done) | split

theorem mask_takeClass {ps : List Part}
    (hsub : sub [.link, .ing, .topo, .flows, .hif, .spare, .regs, .sent, .host, .notes] ps = true) (f : RxFrame)
    (edit : List Byte → List Byte) (d : Device) :
    blank ps (takeClass f edit d).dev = blank ps d := by
  refine mask_mono hsub ?_
  unfold takeClass
  dsimp only
  repeat' first | (simp (disch := decide) only [mask_dedupHdr, mask_malformed, mask_takeFrame]; done) | split

theorem mask_takeNumbered {ps : List Part}
    (hsub : sub [.link, .ing, .topo, .flows, .hif, .spare, .regs, .sent, .host, .notes] ps = true) (f : RxFrame)
    (mine : Hdr → List Byte → Bool) (fx : Hdr → List Byte → Device → Device) (d : Device)
    (hf : ∀ h b d, blank ps (fx h b d) = blank ps d) :
    blank ps (takeNumbered f mine fx d) = blank ps d := by
  have he : blank ps (takeClass f id d).dev = blank ps d := mask_mono hsub (mask_takeClass (by decide) f id d)
  unfold takeNumbered
  dsimp only
  split
  · split
    · rw [hf, he]
    · exact he
  · exact he

theorem mask_clearSource {ps : List Part} (hsub : sub [.flows] ps = true) (node : Nat) (d : Device) :
    blank ps (clearSource node d) = blank ps d := by
  refine mask_mono hsub ?_
  simp (disch := decide) only [clearSource, blank_set_flows]

theorem mask_countIng {ps : List Part} (hsub : sub [.link, .ing] ps = true) (p cls : Nat) (d : Device) :
    blank ps (countIng p cls d) = blank ps d := by
  refine mask_mono hsub ?_
  simp (disch := decide) only [countIng, mask_countStat]

theorem mask_usePn {ps : List Part} (hsub : sub [.link, .ing, .flows, .hif, .sent, .host, .notes] ps = true) (p : Nat)
    (d : Device) :
    blank ps (usePn p d) = blank ps d := by
  refine mask_mono hsub ?_
  unfold usePn
  repeat' first | (simp (disch := decide) only [mask_raise, mask_setIng, blank_when, mask_ite, ite_self]; done) | split

theorem mask_startIngest {ps : List Part} (hsub : sub [.link, .ing, .flows, .hif, .sent, .host, .notes] ps = true)
    (p : Nat) (bs : List Byte) (d : Device) :
    blank ps (startIngest p bs d) = blank ps d := by
  refine mask_mono hsub ?_
  unfold startIngest
  repeat' first | (simp (disch := decide) only [mask_tx, mask_usePn, mask_ite, ite_self]; done) | split

theorem mask_sendIngest {ps : List Part} (hsub : sub [.link, .ing, .flows, .hif, .sent, .host, .notes] ps = true)
    (p : Nat) (bs : List Byte) (d : Device) :
    blank ps (sendIngest p bs d) = blank ps d := by
  refine mask_mono hsub ?_
  simp (disch := decide) only [sendIngest, mask_setIng, mask_startIngest, mask_ite, ite_self]

theorem mask_secCheck {ps : List Part} (hsub : sub [.link, .ing, .regs] ps = true) (p : Nat) (bs : List Byte)
    (d : Device) :
    blank ps (secCheck p bs d).2 = blank ps d := by
  refine mask_mono hsub ?_
  unfold secCheck
  repeat' first | rfl | split

theorem mask_ingestIn {ps : List Part}
    (hsub : sub [.link, .ing, .flows, .hif, .spare, .regs, .sent, .host, .notes] ps = true) (x : IngRx) (d : Device) :
    blank ps (ingestIn x d).2 = blank ps d := by
  refine mask_mono hsub ?_
  unfold ingestIn
  repeat' first | split | simp (disch := decide) only [mask_poisoned, mask_queueRewind, mask_queueWrite, mask_secCheck]

theorem mask_fromIngest {ps : List Part}
    (hsub : sub [.link, .ing, .flows, .hif, .spare, .regs, .sent, .host, .notes] ps = true) (x : IngRx)
    (fx : Device → Device) (d : Device) (hf : ∀ d, blank ps (fx d) = blank ps d) :
    blank ps (fromIngest x fx d) = blank ps d := by
  have hi : blank ps (ingestIn x d).2 = blank ps d := mask_mono hsub (mask_ingestIn (by decide) x d)
  unfold fromIngest
  dsimp only
  split
  · rw [hf]; exact hi
  · exact hi

end Sys2Proof.Laws
end

