-- ==== Sys2Proof/Laws/PartsRing.lean ====
section
/-! SUPPORT. Laws/PartsRing.lean: which parts each operation of Time, Map, Bind, HostIf, Ports can change, and no
other: one lemma per operation. -/

namespace Sys2Proof.Laws

open Machine

theorem mask_setTime {ps : List Part} (hsub : sub [.tim] ps = true) (f : Time → Time) (d : Device) :
    blank ps (setTime f d) = blank ps d := by
  refine mask_mono hsub ?_
  simp (disch := decide) only [setTime, blank_set_tim]

theorem mask_dirSet {ps : List Part} (hsub : sub [.tim] ps = true) (pair dir : Nat) (f : DirTime → DirTime)
    (d : Device) :
    blank ps (dirSet pair dir f d) = blank ps d := by
  refine mask_mono hsub ?_
  simp (disch := decide) only [dirSet, mask_setTime]

theorem mask_pairSet {ps : List Part} (hsub : sub [.tim] ps = true) (pair : Nat) (f : PairTime → PairTime)
    (d : Device) :
    blank ps (pairSet pair f d) = blank ps d := by
  refine mask_mono hsub ?_
  simp (disch := decide) only [pairSet, mask_setTime]

theorem mask_storeLambdas {ps : List Part} (hsub : sub [.tim, .sched] ps = true) (pair : Nat) (off : Int) (d : Device) :
    blank ps (storeLambdas pair off d) = blank ps d := by
  refine mask_mono hsub ?_
  simp (disch := decide) only [storeLambdas, mask_dirSet, mask_put, blank_quiet, reclk_self, blank_when, mask_ite,
      ite_self]

theorem mask_setRate {ps : List Part} (hsub : sub [.tim] ps = true) (rate : Int) (d : Device) :
    blank ps (setRate rate d) = blank ps d := by
  refine mask_mono hsub ?_
  simp (disch := decide) only [setRate, mask_setTime]

theorem mask_measured {ps : List Part} (hsub : sub [.tim] ps = true) (d : Device) :
    blank ps (measured d) = blank ps d := by
  refine mask_mono hsub ?_
  simp (disch := decide) only [measured, mask_setTime]

theorem mask_servo {ps : List Part} (hsub : sub [.tim, .link, .flows, .hif, .sent, .host, .notes] ps = true)
    (slew : Nat) (d : Device) :
    blank ps (servo slew d) = blank ps d := by
  refine mask_mono hsub ?_
  simp (disch := decide) only [servo, mask_raise, mask_setRate, mask_setTime, blank_when, ite_self]

theorem mask_enterLocked {ps : List Part} (hsub : sub [.tim, .link, .flows, .hif, .sent, .host, .notes] ps = true)
    (d : Device) :
    blank ps (enterLocked d) = blank ps d := by
  refine mask_mono hsub ?_
  simp (disch := decide) only [enterLocked, mask_raise, mask_setTime]

theorem mask_enterRefused {ps : List Part} (hsub : sub [.tim, .link, .flows, .hif, .sent, .host, .notes] ps = true)
    (off : Int) (d : Device) :
    blank ps (enterRefused off d) = blank ps d := by
  refine mask_mono hsub ?_
  simp (disch := decide) only [enterRefused, mask_raise, mask_setTime]

theorem mask_judgeOffset {ps : List Part} (hsub : sub [.tim, .link, .flows, .hif, .sent, .host, .notes] ps = true)
    (lockNs lockN slew : Nat) (off16 : Int) (d : Device) :
    blank ps (judgeOffset lockNs lockN slew off16 d) = blank ps d := by
  refine mask_mono hsub ?_
  unfold judgeOffset
  repeat' first
    | split
    | simp (disch := decide) only [mask_enterLocked, mask_enterRefused, mask_measured, mask_servo, mask_setTime]

theorem mask_pastMoved {ps : List Part} (hsub : sub [.tim, .link, .ing, .topo, .hif, .mtr] ps = true) (mv : RP → RP)
    (d : Device) :
    blank ps (pastMoved mv d) = blank ps d := by
  refine mask_mono hsub ?_
  rfl

theorem mask_restarted {ps : List Part} (hsub : sub [.clk, .tim, .link, .ing, .topo, .hif, .out, .mtr] ps = true)
    (r : Raster) (d : Device) :
    blank ps (restarted r d) = blank ps d := by
  refine mask_mono hsub ?_
  rfl

theorem mask_stepDone {ps : List Part}
    (hsub : sub [.tim, .sched, .link, .flows, .hif, .pxl, .sent, .host, .comps, .notes] ps = true) (off : Int)
    (was : RP) (d : Device) :
    blank ps (stepDone off was d) = blank ps d := by
  refine mask_mono hsub ?_
  simp (disch := decide) only [stepDone, mask_afterStep, mask_raise, mask_setTime, blank_quiet, reclk_self,
      blank_when, mask_ite, ite_self]

theorem mask_marksMoved {ps : List Part} (hsub : sub [.tim, .out, .fix] ps = true) (n : Int) (d : Device) :
    blank ps (marksMoved n d) = blank ps d := by
  refine mask_mono hsub ?_
  rfl

theorem mask_outStepped {ps : List Part} (hsub : sub [.out] ps = true) (d : Device) :
    blank ps (outStepped d) = blank ps d := by
  refine mask_mono hsub ?_
  simp (disch := decide) only [outStepped, blank_set_out]

theorem mask_makeStep {ps : List Part}
    (hsub : sub [.clk, .tim, .sched, .link, .flows, .hif, .pxl, .out, .fix, .sent, .host, .comps, .notes] ps = true)
    (off16 : Int) (d : Device) :
    blank ps (makeStep off16 d) = blank ps d := by
  refine mask_mono hsub ?_
  simp (disch := decide) only [makeStep, mask_marksMoved, mask_outStepped, mask_setTime, mask_stepDone, blank_set_clk,
      blank_quiet, reclk_self, blank_when, mask_ite, ite_self]

theorem mask_resumeFx {ps : List Part}
    (hsub : sub [.clk, .tim, .sched, .link, .flows, .hif, .pxl, .out, .fix, .sent, .host, .comps, .notes] ps = true)
    (d : Device) :
    blank ps (resumeFx d) = blank ps d := by
  refine mask_mono hsub ?_
  unfold resumeFx
  dsimp only
  split
  · rfl
  · rw [mask_quiet, blank_set_clk rfl]
    dsimp only
    split <;> simp (disch := decide) only [mask_finish, mask_marksMoved, mask_setTime, mask_stepDone, blank_set_clk, blank_quiet, reclk_self, blank_when, mask_ite, ite_self]

theorem mask_tryStep {ps : List Part}
    (hsub : sub [.clk, .tim, .sched, .link, .flows, .hif, .pxl, .out, .fix, .sent, .host, .comps, .notes] ps = true)
    (c : Cmd) (maxStep : Nat) (d : Device) :
    blank ps (tryStep c maxStep d) = blank ps d := by
  refine mask_mono hsub ?_
  unfold tryStep
  simp (disch := decide) only [mask_finish, mask_makeStep, mask_refuse, mask_setTime, blank_quiet, reclk_self,
      blank_when, mask_ite, ite_self]

theorem mask_timeStepFx {ps : List Part}
    (hsub : sub [.clk, .tim, .sched, .link, .flows, .hif, .pxl, .out, .fix, .sent, .host, .comps, .notes] ps = true)
    (c : Cmd) (d : Device) :
    blank ps (timeStepFx c d) = blank ps d := by
  refine mask_mono hsub ?_
  simp (disch := decide) only [timeStepFx, mask_place, mask_tryStep, blank_set_sched, blank_quiet, reclk_self,
      blank_when, mask_ite, ite_self]

theorem mask_timeThresholdFx {ps : List Part}
    (hsub : sub [.tim, .link, .flows, .hif, .regs, .sent, .host, .comps, .notes] ps = true) (c : Cmd) (d : Device) :
    blank ps (timeThresholdFx c d) = blank ps d := by
  refine mask_mono hsub ?_
  simp (disch := decide) only [timeThresholdFx, mask_dev_setWord, mask_finish, mask_refuse, mask_setTime, blank_quiet,
      reclk_self, blank_when, mask_ite, ite_self]

theorem mask_timeQueryFx {ps : List Part} (hsub : sub [.link, .flows, .hif, .sent, .host, .comps, .notes] ps = true)
    (c : Cmd) (d : Device) :
    blank ps (timeQueryFx c d) = blank ps d := by
  refine mask_mono hsub ?_
  simp (disch := decide) only [timeQueryFx, mask_finish]

theorem mask_sendTime {ps : List Part} (hsub : sub [.link, .sent] ps = true) (p dir pair hop : Nat)
    (payload : List Byte) (d : Device) :
    blank ps (sendTime p dir pair hop payload d) = blank ps d := by
  refine mask_mono hsub ?_
  simp (disch := decide) only [sendTime, mask_dev_setPort, mask_sendOwn, mask_tx, blank_quiet, reclk_self, blank_when,
      mask_ite, ite_self]

theorem mask_wakePort {ps : List Part} (hsub : sub [.link, .sent] ps = true) (p : Nat) (d : Device) :
    blank ps (wakePort p d) = blank ps d := by
  refine mask_mono hsub ?_
  unfold wakePort
  refine mask_foldl ?_ _ _
  intro d a
  repeat' (simp (disch := decide) only [mask_tx]; done)

theorem mask_sendRing {ps : List Part} (hsub : sub [.link, .sent] ps = true) (p dir pair : Nat) (d : Device) :
    blank ps (sendRing p dir pair d) = blank ps d := by
  refine mask_mono hsub ?_
  simp (disch := decide) only [sendRing, mask_dev_setPort, mask_releasePort, mask_sendTime, mask_wakePort]

theorem mask_timeTickFx {ps : List Part} (hsub : sub [.link, .sent] ps = true) (d : Device) :
    blank ps (timeTickFx d) = blank ps d := by
  refine mask_mono hsub ?_
  unfold timeTickFx
  repeat' first
    | rw [mask_foldl (by intro d a; repeat' (simp (disch := decide) only [mask_sendRing]; done))]
    | simp (disch := decide) only [mask_ite, ite_self]

theorem mask_delayExchangeFx {ps : List Part} (hsub : sub [.link, .sent] ps = true) (p : Nat) (t1 : BitVec 64)
    (d : Device) :
    blank ps (delayExchangeFx p t1 d) = blank ps d := by
  refine mask_mono hsub ?_
  simp (disch := decide) only [delayExchangeFx, mask_dev_setPort, mask_sendTime, blank_quiet, reclk_self, blank_when,
      mask_ite, ite_self]

theorem mask_takeTime {ps : List Part}
    (hsub : sub [.link, .ing, .topo, .flows, .hif, .spare, .regs, .sent, .host, .notes] ps = true) (f : RxFrame)
    (kind : Nat) (edit : List Byte → List Byte) (d : Device) :
    blank ps (takeTime f kind edit d).dev = blank ps d := by
  refine mask_mono hsub ?_
  unfold takeTime
  repeat' first | split | simp (disch := decide) only [mask_takeClass]

theorem mask_neighbour {ps : List Part} (hsub : sub [.link] ps = true) (p : Nat) (h : Hdr) (d : Device) :
    blank ps (neighbour p h d) = blank ps d := by
  refine mask_mono hsub ?_
  simp (disch := decide) only [neighbour, mask_dev_setPort]

theorem mask_delayReqFx {ps : List Part}
    (hsub : sub [.link, .ing, .topo, .flows, .hif, .spare, .regs, .sent, .host, .notes] ps = true) (f : RxFrame)
    (t3 : BitVec 64) (d : Device) :
    blank ps (delayReqFx f t3 d) = blank ps d := by
  refine mask_mono hsub ?_
  unfold delayReqFx
  dsimp only
  repeat' first
    | rfl
    | (simp (disch := decide) only [mask_neighbour, mask_sendTime, mask_takeTime, blank_quiet, reclk_self, blank_when, mask_ite, ite_self]; done)
    | split

theorem mask_delayRespFx {ps : List Part}
    (hsub : sub [.link, .ing, .topo, .flows, .hif, .spare, .regs, .sent, .host, .notes] ps = true) (f : RxFrame)
    (d : Device) :
    blank ps (delayRespFx f d) = blank ps d := by
  refine mask_mono hsub ?_
  unfold delayRespFx
  dsimp only
  repeat' first | (simp (disch := decide) only [mask_dev_setPort, mask_neighbour, mask_takeTime]; done) | split

theorem mask_insertion {ps : List Part} (hsub : sub [.link, .sent] ps = true) (p follow : Nat) (d : Device) :
    blank ps (insertion p follow d) = blank ps d := by
  refine mask_mono hsub ?_
  simp (disch := decide) only [insertion, mask_dev_setPort, mask_insertNow, blank_quiet, reclk_self, blank_when,
      mask_ite, ite_self]

theorem mask_headTime {ps : List Part} (hsub : sub [.tim, .link, .hif, .regs, .sent] ps = true) (t : TimeRx) (h : Hdr)
    (b : List Byte) (d : Device) :
    blank ps (headTime t h b d) = blank ps d := by
  refine mask_mono hsub ?_
  unfold headTime
  try dsimp only
  repeat' first
    | rfl
    | (simp (disch := decide) only [mask_hopLimit, mask_setTime, mask_tx, blank_quiet, reclk_self, blank_when, mask_ite, ite_self]; done)
    | split
    | simp (disch := decide) only [mask_hopLimit, mask_setTime, mask_tx, blank_quiet, reclk_self, blank_when, mask_ite, ite_self]

theorem mask_presentOf {ps : List Part} (hsub : sub [.tim] ps = true) (pair : Nat) (d : Device) :
    blank ps (presentOf pair d) = blank ps d := by
  refine mask_mono hsub ?_
  unfold presentOf
  repeat' first | rfl | split

theorem mask_adoptRaster {ps : List Part} (hsub : sub [.clk, .tim, .link, .ing, .topo, .hif, .out, .mtr] ps = true)
    (pair : Nat) (r : Raster) (d : Device) :
    blank ps (adoptRaster pair r d) = blank ps d := by
  refine mask_mono hsub ?_
  unfold adoptRaster
  try dsimp only
  repeat' first
    | rfl
    | (simp (disch := decide) only [mask_presentOf, mask_restarted, mask_setTime, blank_quiet, reclk_self, blank_when, mask_ite, ite_self]; done)
    | split
    | simp (disch := decide) only [mask_presentOf, mask_restarted, mask_setTime, blank_quiet, reclk_self, blank_when, mask_ite, ite_self]

theorem mask_foreignRaster {ps : List Part} (hsub : sub [.tim, .link, .flows, .hif, .sent, .host, .notes] ps = true)
    (pair dir : Nat) (r : Raster) (d : Device) :
    blank ps (foreignRaster pair dir r d) = blank ps d := by
  refine mask_mono hsub ?_
  simp (disch := decide) only [foreignRaster, mask_dirSet, mask_pairSet, mask_raise, blank_when, ite_self]

theorem mask_keepDir {ps : List Part} (hsub : sub [.tim] ps = true) (pair : Nat) (t : TimeRx) (h : Hdr)
    (b : List Byte) (d : Device) :
    blank ps (keepDir pair t h b d) = blank ps d := by
  refine mask_mono hsub ?_
  simp (disch := decide) only [keepDir, mask_dirSet, mask_setTime, blank_when, ite_self]

theorem mask_headsAgree {ps : List Part} (hsub : sub [.tim, .link, .flows, .hif, .sent, .host, .notes] ps = true)
    (pair : Nat) (d : Device) :
    blank ps (headsAgree pair d) = blank ps d := by
  refine mask_mono hsub ?_
  unfold headsAgree
  repeat' first | split | simp (disch := decide) only [mask_pairSet, mask_raise, blank_when, ite_self]

theorem mask_pairPeriod {ps : List Part} (hsub : sub [.tim, .link, .flows, .hif, .sent, .host, .notes] ps = true)
    (pair dir : Nat) (d : Device) :
    blank ps (pairPeriod pair dir d) = blank ps d := by
  refine mask_mono hsub ?_
  simp (disch := decide) only [pairPeriod, mask_headsAgree, mask_ite, ite_self]

theorem mask_nodeMeasure {ps : List Part}
    (hsub : sub [.clk, .tim, .sched, .link, .flows, .hif, .pxl, .out, .fix, .sent, .host, .comps, .notes] ps = true)
    (pair dir : Nat) (d : Device) :
    blank ps (nodeMeasure pair dir d) = blank ps d := by
  refine mask_mono hsub ?_
  unfold nodeMeasure
  split
  · rfl
  · simp (disch := decide) only [mask_dirSet, mask_judgeOffset, mask_makeStep, mask_setTime, mask_storeLambdas,
      blank_quiet, reclk_self, blank_when, mask_ite, ite_self]
    (repeat' split) <;> first | rfl | (simp (disch := decide) only [mask_dirSet, mask_judgeOffset, mask_makeStep, mask_setTime, mask_storeLambdas, blank_quiet, reclk_self, blank_when, mask_ite, ite_self]; done)

theorem mask_nodeTime {ps : List Part}
    (hsub : sub [.clk, .tim, .sched, .link, .ing, .topo, .flows, .hif, .pxl, .out, .fix, .mtr, .regs, .sent, .host, .comps, .notes] ps = true)
    (t : TimeRx) (h : Hdr) (b : List Byte) (d : Device) :
    blank ps (nodeTime t h b d) = blank ps d := by
  refine mask_mono hsub ?_
  unfold nodeTime
  simp (disch := decide) only [mask_adoptRaster, mask_foreignRaster, mask_keepDir, mask_malformed, mask_nodeMeasure,
      mask_pairPeriod, blank_quiet, reclk_self, blank_when, mask_ite, ite_self]

theorem mask_timeFrameFx {ps : List Part}
    (hsub : sub [.clk, .tim, .sched, .link, .ing, .topo, .flows, .hif, .pxl, .out, .spare, .fix, .mtr, .regs, .sent, .host, .comps, .notes] ps = true)
    (t : TimeRx) (d : Device) :
    blank ps (timeFrameFx t d) = blank ps d := by
  refine mask_mono hsub ?_
  have hk : blank [.clk, .tim, .sched, .link, .ing, .topo, .flows, .hif, .pxl, .out, .spare, .fix, .mtr, .regs, .sent, .host, .comps, .notes] (keepClk d (takeTime t.frame 0 (timeOnward t d) d).dev) = blank [.clk, .tim, .sched, .link, .ing, .topo, .flows, .hif, .pxl, .out, .spare, .fix, .mtr, .regs, .sent, .host, .comps, .notes] d :=
    mask_quiet (f := fun e => (takeTime t.frame 0 (timeOnward t d) e).dev) (mask_takeTime (by decide) _ _ _ _)
  unfold timeFrameFx
  dsimp only
  repeat' first
    | exact hk
    | (simp (disch := decide) only [mask_headTime, mask_insertion, mask_nodeTime, mask_takeTime, hk, blank_quiet, reclk_self, blank_when, mask_ite, ite_self]; done)
    | split

theorem mask_directionLostFx {ps : List Part} (hsub : sub [.tim, .link, .flows, .hif, .sent, .host, .notes] ps = true)
    (pair dir : Nat) (d : Device) :
    blank ps (directionLostFx pair dir d) = blank ps d := by
  refine mask_mono hsub ?_
  simp (disch := decide) only [directionLostFx, mask_dirSet, mask_report, mask_ite, ite_self]

theorem mask_enterHoldover {ps : List Part} (hsub : sub [.tim, .link, .flows, .hif, .sent, .host, .notes] ps = true)
    (cause : Nat) (subject : Option (BitVec 12)) (d : Device) :
    blank ps (enterHoldover cause subject d) = blank ps d := by
  refine mask_mono hsub ?_
  simp (disch := decide) only [enterHoldover, mask_report, mask_setRate, mask_setTime]

theorem mask_timeLost {ps : List Part} (hsub : sub [.tim, .link, .flows, .hif, .sent, .host, .notes] ps = true)
    (cause : Nat) (subject : Option (BitVec 12)) (d : Device) :
    blank ps (timeLost cause subject d) = blank ps d := by
  refine mask_mono hsub ?_
  unfold timeLost
  repeat' first | (simp (disch := decide) only [mask_enterHoldover, mask_setTime]; done) | split

theorem mask_insertBacklogFx {ps : List Part} (hsub : sub [.link, .flows, .hif, .sent, .host, .notes] ps = true)
    (pair dir : Nat) (d : Device) :
    blank ps (insertBacklogFx pair dir d) = blank ps d := by
  refine mask_mono hsub ?_
  unfold insertBacklogFx
  repeat' first
    | rfl
    | (simp (disch := decide) only [mask_dev_setPort, mask_report, blank_quiet, reclk_self, blank_when, mask_ite, ite_self]; done)
    | split

theorem mask_selectMaster {ps : List Part} (hsub : sub [.tim, .link, .flows, .hif, .sent, .host, .notes] ps = true)
    (ms : List Master) (d : Device) :
    blank ps (selectMaster ms d) = blank ps d := by
  refine mask_mono hsub ?_
  unfold selectMaster
  repeat' first
    | rfl
    | (simp (disch := decide) only [mask_raise, mask_setTime, blank_quiet, reclk_self, blank_when, mask_ite, ite_self]; done)
    | split

theorem mask_ptpAnnounceFx {ps : List Part}
    (hsub : sub [.tim, .link, .ing, .flows, .hif, .spare, .regs, .sent, .host, .notes] ps = true) (rx : IngRx)
    (a : Announce) (d : Device) :
    blank ps (ptpAnnounceFx rx a d) = blank ps d := by
  refine mask_mono hsub ?_
  unfold ptpAnnounceFx
  refine mask_fromIngest (by decide) _ _ _ (fun e => ?_)
  split
  · rfl
  · simp (disch := decide) only [mask_selectMaster, mask_setTime, blank_quiet, reclk_self, blank_when, mask_ite,
      ite_self]

theorem mask_mastersGone {ps : List Part} (hsub : sub [.tim, .link, .flows, .hif, .sent, .host, .notes] ps = true)
    (port : Nat) (d : Device) :
    blank ps (mastersGone port d) = blank ps d := by
  refine mask_mono hsub ?_
  unfold mastersGone
  try dsimp only
  repeat' first
    | rfl
    | (simp (disch := decide) only [mask_selectMaster, blank_quiet, reclk_self, blank_when, mask_ite, ite_self]; done)
    | split
    | simp (disch := decide) only [mask_selectMaster, blank_quiet, reclk_self, blank_when, mask_ite, ite_self]

theorem mask_lockTaken {ps : List Part}
    (hsub : sub [.tim, .sched, .link, .topo, .flows, .hif, .pxl, .out, .sent, .host, .comps, .notes] ps = true)
    (rate : Int) (d : Device) :
    blank ps (lockTaken rate d) = blank ps d := by
  refine mask_mono hsub ?_
  simp (disch := decide) only [lockTaken, mask_evaluateHeld, mask_setTime, blank_set_out, blank_quiet, reclk_self,
      blank_when, mask_ite, ite_self]

theorem mask_headFirstLock {ps : List Part}
    (hsub : sub [.clk, .tim, .sched, .link, .topo, .flows, .hif, .pxl, .out, .sent, .host, .comps, .notes] ps = true)
    (rp : RP) (d : Device) :
    blank ps (headFirstLock rp d) = blank ps d := by
  refine mask_mono hsub ?_
  simp (disch := decide) only [headFirstLock, mask_lockTaken, mask_setTime, blank_set_clk, blank_quiet, reclk_self,
      blank_when, mask_ite, ite_self]

theorem mask_ptpFrames {ps : List Part}
    (hsub : sub [.link, .ing, .flows, .hif, .spare, .regs, .sent, .host, .notes] ps = true) (m : PtpExchange)
    (d : Device) :
    blank ps (ptpFrames m d).2 = blank ps d := by
  refine mask_mono hsub ?_
  simp (disch := decide) only [ptpFrames, mask_ingestIn, mask_setIng, mask_startIngest, blank_when, ite_self]

theorem mask_ptpTaken {ps : List Part}
    (hsub : sub [.clk, .tim, .sched, .link, .topo, .flows, .hif, .pxl, .out, .sent, .host, .comps, .notes] ps = true)
    (m : PtpExchange) (d : Device) :
    blank ps (ptpTaken m d) = blank ps d := by
  refine mask_mono hsub ?_
  unfold ptpTaken
  dsimp only
  repeat' first
    | rfl
    | (simp (disch := decide) only [mask_headFirstLock, mask_judgeOffset, mask_setTime, blank_quiet, reclk_self, blank_when, mask_ite, ite_self]; done)
    | split

theorem mask_ptpMeasurementFx {ps : List Part}
    (hsub : sub [.clk, .tim, .sched, .link, .ing, .topo, .flows, .hif, .pxl, .out, .spare, .regs, .sent, .host, .comps, .notes] ps = true)
    (m : PtpExchange) (d : Device) :
    blank ps (ptpMeasurementFx m d) = blank ps d := by
  refine mask_mono hsub ?_
  have hk : blank [.clk, .tim, .sched, .link, .ing, .topo, .flows, .hif, .pxl, .out, .spare, .regs, .sent, .host, .comps, .notes] (keepClk d (ptpFrames m d).2) = blank [.clk, .tim, .sched, .link, .ing, .topo, .flows, .hif, .pxl, .out, .spare, .regs, .sent, .host, .comps, .notes] d :=
    mask_quiet (f := fun e => (ptpFrames m e).2) (mask_ptpFrames (by decide) m d)
  unfold ptpMeasurementFx
  dsimp only
  split
  · rw [mask_ptpTaken (by decide), hk]
  · exact hk

theorem mask_announceTimeoutFx {ps : List Part}
    (hsub : sub [.tim, .link, .flows, .hif, .sent, .host, .notes] ps = true) (d : Device) :
    blank ps (announceTimeoutFx d) = blank ps d := by
  refine mask_mono hsub ?_
  unfold announceTimeoutFx
  try dsimp only
  repeat' first
    | rfl
    | (simp (disch := decide) only [mask_mastersGone, mask_timeLost, blank_quiet, reclk_self, blank_when, mask_ite, ite_self]; done)
    | split
    | simp (disch := decide) only [mask_mastersGone, mask_timeLost, blank_quiet, reclk_self, blank_when, mask_ite, ite_self]

theorem mask_syncEdgeFx {ps : List Part}
    (hsub : sub [.clk, .tim, .sched, .link, .topo, .flows, .hif, .pxl, .out, .sent, .host, .comps, .notes] ps = true)
    (falling : Bool) (d : Device) :
    blank ps (syncEdgeFx falling d) = blank ps d := by
  refine mask_mono hsub ?_
  unfold syncEdgeFx
  dsimp only
  repeat' first
    | rfl
    | (simp (disch := decide) only [mask_headFirstLock, mask_judgeOffset, mask_setTime, blank_quiet, reclk_self, blank_when, mask_ite, ite_self]; done)
    | split
    | simp (disch := decide) only [mask_headFirstLock, mask_judgeOffset, mask_setTime, blank_quiet, reclk_self, blank_when, mask_ite, ite_self]

theorem mask_syncMissingFx {ps : List Part} (hsub : sub [.tim, .link, .flows, .hif, .sent, .host, .notes] ps = true)
    (d : Device) :
    blank ps (syncMissingFx d) = blank ps d := by
  refine mask_mono hsub ?_
  simp (disch := decide) only [syncMissingFx, mask_setTime, mask_timeLost, mask_ite, ite_self]

theorem mask_wclkEdgeFx {ps : List Part} (hsub : sub [.tim] ps = true) (hz : Nat) (d : Device) :
    blank ps (wclkEdgeFx hz d) = blank ps d := by
  refine mask_mono hsub ?_
  simp (disch := decide) only [wclkEdgeFx, mask_setTime, mask_ite, ite_self]

theorem mask_sendAssign {ps : List Part} (hsub : sub [.link, .flows, .sent] ps = true) (m : SysMap) (r : RingEntry)
    (pair : Nat) (isX : Bool) (n : NodeRecord) (fp : List Byte) (f : BitVec 32) (d : Device) :
    blank ps (sendAssign m r pair isX n fp f d) = blank ps d := by
  refine mask_mono hsub ?_
  simp (disch := decide) only [sendAssign, mask_headSend]

theorem mask_setPair {ps : List Part} (hsub : sub [.topo] ps = true) (pair : Nat) (f : HeadPair → HeadPair)
    (d : Device) :
    blank ps (setPair pair f d) = blank ps d := by
  refine mask_mono hsub ?_
  simp (disch := decide) only [setPair, blank_set_topo]

theorem mask_assignBound {ps : List Part} (hsub : sub [.link, .flows, .sent] ps = true) (m : SysMap) (f : BitVec 32)
    (d : Device) :
    blank ps (assignBound m f d) = blank ps d := by
  refine mask_mono hsub ?_
  unfold assignBound
  refine mask_foldl ?_ _ _
  intro d a
  split
  split
  · refine mask_foldl ?_ _ _
    intro d a
    (repeat' split) <;> (simp (disch := decide) only [mask_sendAssign]; done)
  · rfl

theorem mask_withdrawMap {ps : List Part} (hsub : sub [.link, .topo, .flows, .sent] ps = true) (d : Device) :
    blank ps (withdrawMap d) = blank ps d := by
  refine mask_mono hsub ?_
  unfold withdrawMap
  repeat' first | (simp (disch := decide) only [mask_assignBound, blank_set_topo, mask_ite, ite_self]; done) | split

theorem mask_mapRejected {ps : List Part} (hsub : sub [.link, .flows, .hif, .sent, .host, .notes] ps = true)
    (code idx gen : Nat) (d : Device) :
    blank ps (mapRejected code idx gen d) = blank ps d := by
  refine mask_mono hsub ?_
  simp (disch := decide) only [mapRejected, mask_raise]

theorem mask_rejectMap {ps : List Part}
    (hsub : sub [.link, .topo, .flows, .hif, .sent, .host, .comps, .notes] ps = true) (c : Cmd) (code idx gen : Nat)
    (d : Device) :
    blank ps (rejectMap c code idx gen d) = blank ps d := by
  refine mask_mono hsub ?_
  simp (disch := decide) only [rejectMap, mask_complete, mask_mapRejected, mask_withdrawMap]

theorem mask_mapLoadFx {ps : List Part}
    (hsub : sub [.sched, .link, .topo, .flows, .hif, .sent, .host, .comps, .notes] ps = true) (c : Cmd) (d : Device) :
    blank ps (mapLoadFx c d) = blank ps d := by
  refine mask_mono hsub ?_
  have h : ∀ (e : Device) x y, blank [.sched, .link, .topo, .flows, .hif, .sent, .host, .comps, .notes] (schedSample { e with sched := x, topo := y }) = blank [.sched, .link, .topo, .flows, .hif, .sent, .host, .comps, .notes] e := fun e x y => by
    rw [mask_schedSample (by decide)]
    exact (blank_set_topo rfl { e with sched := x } y).trans (blank_set_sched rfl e x)
  unfold mapLoadFx
  dsimp only
  repeat' first
    | rfl
    | (simp (disch := decide) only [mask_complete, mask_loadRefused, mask_refuse, mask_schedSample, mask_withdrawMap, blank_set_sched, blank_set_topo, h, blank_quiet, reclk_self, blank_when, mask_ite, ite_self]; done)
    | split

theorem mask_announceAt {ps : List Part} (hsub : sub [.link, .topo, .flows, .sent] ps = true) (l : MapLoad)
    (m : SysMap) (f : BitVec 32) (d : Device) :
    blank ps (announceAt l m f d) = blank ps d := by
  refine mask_mono hsub ?_
  simp (disch := decide) only [announceAt, mask_assignBound, blank_set_topo, blank_set_sent, blank_quiet, reclk_self,
      blank_when, mask_ite, ite_self]

theorem mask_announceMap {ps : List Part} (hsub : sub [.link, .topo, .flows, .sent] ps = true) (d : Device) :
    blank ps (announceMap d) = blank ps d := by
  refine mask_mono hsub ?_
  unfold announceMap
  repeat' first
    | rfl
    | (simp (disch := decide) only [mask_announceAt, blank_quiet, reclk_self, blank_when, mask_ite, ite_self]; done)
    | split

theorem mask_mapCheckFx {ps : List Part}
    (hsub : sub [.sched, .link, .topo, .flows, .hif, .sent, .host, .comps, .notes] ps = true) (d : Device) :
    blank ps (mapCheckFx d) = blank ps d := by
  refine mask_mono hsub ?_
  unfold mapCheckFx
  repeat' first
    | (simp (disch := decide) only [mask_announceMap, mask_complete, mask_rejectMap, mask_schedSample, mask_withdrawMap, blank_set_topo]; done)
    | split

theorem mask_mapTimeoutFx {ps : List Part}
    (hsub : sub [.sched, .link, .topo, .flows, .hif, .sent, .host, .comps, .notes] ps = true) (d : Device) :
    blank ps (mapTimeoutFx d) = blank ps d := by
  refine mask_mono hsub ?_
  unfold mapTimeoutFx
  repeat' first | (simp (disch := decide) only [mask_rejectMap, mask_schedSample, mask_ite, ite_self]; done) | split

theorem mask_cancelElsewhere {ps : List Part}
    (hsub : sub [.sched, .link, .topo, .flows, .hif, .sec, .pwr, .sent, .host, .comps, .notes] ps = true)
    (p : Cmd → Bool) (mapToo : Bool) (d : Device) :
    blank ps (cancelElsewhere p mapToo d) = blank ps d := by
  refine mask_mono hsub ?_
  have h : ∀ (e : Device) x y, blank [.sched, .link, .topo, .flows, .hif, .sec, .pwr, .sent, .host, .comps, .notes] { e with sec := x, pwr := y } = blank [.sched, .link, .topo, .flows, .hif, .sec, .pwr, .sent, .host, .comps, .notes] e := fun e x y =>
    (blank_set_pwr rfl { e with sec := x } y).trans (blank_set_sec rfl e x)
  unfold cancelElsewhere
  dsimp only
  rw [mask_schedSample (by decide), mask_foldl (fun e c => mask_complete (by decide) _ _ _ _ _ e),
    mask_foldl (fun e c => mask_complete (by decide) _ _ _ _ _ e)]
  refine (h _ _ _).trans ?_
  repeat' first | rfl | (rw [mask_complete (by decide), mask_withdrawMap (by decide)]; done) | split

theorem mask_schedCancelFx {ps : List Part}
    (hsub : sub [.sched, .link, .topo, .flows, .hif, .pxl, .sec, .pwr, .sent, .host, .comps, .notes] ps = true)
    (c : Cmd) (d : Device) :
    blank ps (schedCancelFx c d) = blank ps d := by
  refine mask_mono hsub ?_
  simp (disch := decide) only [schedCancelFx, mask_cancelElsewhere, mask_cancelWhere, mask_finish, mask_refuse,
      blank_quiet, reclk_self, blank_when, mask_ite, ite_self]

theorem mask_sendCard {ps : List Part} (hsub : sub [.link, .topo, .flows, .hif, .sent] ps = true) (kind : Nat)
    (d : Device) :
    blank ps (sendCard kind d) = blank ps d := by
  refine mask_mono hsub ?_
  unfold sendCard
  try dsimp only
  repeat' first
    | rfl
    | (simp (disch := decide) only [mask_nodeSendBy, blank_set_topo, blank_set_hif, blank_quiet, reclk_self, blank_when, mask_ite, ite_self]; done)
    | split
    | simp (disch := decide) only [mask_nodeSendBy, blank_set_topo, blank_set_hif, blank_quiet, reclk_self, blank_when, mask_ite, ite_self]

theorem mask_sendAnswer {ps : List Part} (hsub : sub [.link, .topo, .sent] ps = true) (a : Answer) (d : Device) :
    blank ps (sendAnswer a d) = blank ps d := by
  refine mask_mono hsub ?_
  simp (disch := decide) only [sendAnswer, mask_dev_setPort, mask_tx, blank_set_topo, mask_ite, ite_self]

theorem mask_bindRequestFx {ps : List Part}
    (hsub : sub [.link, .ing, .topo, .flows, .hif, .spare, .regs, .sent, .host, .notes] ps = true) (f : RxFrame)
    (d : Device) :
    blank ps (bindRequestFx f d) = blank ps d := by
  refine mask_mono hsub ?_
  unfold bindRequestFx
  dsimp only
  repeat' first
    | (simp (disch := decide) only [mask_sendAnswer, mask_takeClass, blank_set_topo, mask_ite, ite_self]; done)
    | split

theorem mask_sendRequestOn {ps : List Part} (hsub : sub [.link, .flows, .sent] ps = true) (r : RingEntry) (pair : Nat)
    (isX : Bool) (d : Device) :
    blank ps (sendRequestOn r pair isX d) = blank ps d := by
  refine mask_mono hsub ?_
  simp (disch := decide) only [sendRequestOn, mask_headSend]

theorem mask_bindTimerFx {ps : List Part} (hsub : sub [.link, .flows, .sent] ps = true) (pair : Nat) (d : Device) :
    blank ps (bindTimerFx pair d) = blank ps d := by
  refine mask_mono hsub ?_
  unfold bindTimerFx
  repeat' first | (simp (disch := decide) only [mask_sendRequestOn, blank_when, mask_ite, ite_self]; done) | split

theorem mask_assignPending {ps : List Part} (hsub : sub [.link, .flows, .sent] ps = true) (pair pos : Nat)
    (fp : List Byte) (d : Device) :
    blank ps (assignPending pair pos fp d) = blank ps d := by
  refine mask_mono hsub ?_
  unfold assignPending
  repeat' first | (simp (disch := decide) only [mask_sendAssign, blank_when, ite_self]; done) | split

theorem mask_bindDevice {ps : List Part} (hsub : sub [.link, .topo, .flows, .hif, .sent, .host, .notes] ps = true)
    (m : SysMap) (ring : Nat) (r : RingEntry) (pair : Nat) (isX : Bool) (pos : Nat) (fp : List Byte) (d : Device) :
    blank ps (bindDevice m ring r pair isX pos fp d) = blank ps d := by
  refine mask_mono hsub ?_
  unfold bindDevice
  repeat' first
    | (simp (disch := decide) only [mask_assignPending, mask_clearSource, mask_raise, mask_sendAssign, mask_setPair, blank_set_hif, mask_ite, ite_self]; done)
    | split

theorem mask_bindAt {ps : List Part} (hsub : sub [.link, .topo, .flows, .hif, .sent, .host, .notes] ps = true)
    (pair : Nat) (b : List Byte) (d : Device) :
    blank ps (bindAt pair b d) = blank ps d := by
  refine mask_mono hsub ?_
  unfold bindAt
  repeat' first | (simp (disch := decide) only [mask_bindDevice, blank_when, ite_self]; done) | split

theorem mask_bindAnswerFx {ps : List Part}
    (hsub : sub [.link, .ing, .topo, .flows, .hif, .spare, .regs, .sent, .host, .notes] ps = true) (f : RxFrame)
    (d : Device) :
    blank ps (bindAnswerFx f d) = blank ps d := by
  refine mask_mono hsub ?_
  exact mask_takeNumbered (by decide) _ _ _ _ (by intro h b d; simp (disch := decide) only [mask_bindAt])

theorem mask_sortReport {ps : List Part} (hsub : sub [.hif] ps = true) (witness : BitVec 12) (kind : BitVec 8)
    (subject : BitVec 12) (first : RP) (d : Device) :
    blank ps (sortReport witness kind subject first d) = blank ps d := by
  refine mask_mono hsub ?_
  simp (disch := decide) only [sortReport, blank_set_hif, mask_ite, ite_self]

theorem mask_takeCard {ps : List Part} (hsub : sub [.topo, .hif] ps = true) (pair : Nat) (h : Hdr) (b : List Byte)
    (d : Device) :
    blank ps (takeCard pair h b d) = blank ps d := by
  refine mask_mono hsub ?_
  unfold takeCard
  rw [mask_foldl (by intro d a; repeat' (simp (disch := decide) only [mask_sortReport]; done))]
  simp (disch := decide) only [mask_setPair, mask_vector, blank_when, ite_self]

theorem mask_replyCardFx {ps : List Part}
    (hsub : sub [.link, .ing, .topo, .flows, .hif, .spare, .regs, .sent, .host, .notes] ps = true) (f : RxFrame)
    (d : Device) :
    blank ps (replyCardFx f d) = blank ps d := by
  refine mask_mono hsub ?_
  exact mask_takeNumbered (by decide) _ _ _ _ (by intro h b d; simp (disch := decide) only [mask_takeCard])

theorem mask_sortCloseFx {ps : List Part} (hsub : sub [.link, .flows, .hif, .sent, .host, .notes] ps = true)
    (kind : BitVec 8) (subject : BitVec 12) (d : Device) :
    blank ps (sortCloseFx kind subject d) = blank ps d := by
  refine mask_mono hsub ?_
  unfold sortCloseFx
  repeat' first | (simp (disch := decide) only [mask_raise, blank_set_hif]; done) | split

theorem mask_stormFx {ps : List Part} (hsub : sub [.link, .flows, .hif, .sent, .host, .notes] ps = true) (d : Device) :
    blank ps (stormFx d) = blank ps d := by
  refine mask_mono hsub ?_
  simp (disch := decide) only [stormFx, mask_raise, blank_set_hif, mask_ite, ite_self]

theorem mask_presentBy {ps : List Part} (hsub : sub [.tim] ps = true) (n : NextRecord) (d : Device) :
    blank ps (presentBy n d) = blank ps d := by
  refine mask_mono hsub ?_
  simp (disch := decide) only [presentBy, mask_presentOf, mask_setTime, blank_when, ite_self]

theorem mask_enforce {ps : List Part} (hsub : sub [.tim, .topo] ps = true) (n : NextRecord) (d : Device) :
    blank ps (enforce n d) = blank ps d := by
  refine mask_mono hsub ?_
  simp (disch := decide) only [enforce, mask_presentBy, mask_setTime, blank_set_topo, blank_when, ite_self]

theorem mask_leaveNode {ps : List Part} (hsub : sub [.topo] ps = true) (d : Device) :
    blank ps (leaveNode d) = blank ps d := by
  refine mask_mono hsub ?_
  simp (disch := decide) only [leaveNode, blank_set_topo]

theorem mask_enforceDue {ps : List Part} (hsub : sub [.tim, .topo] ps = true) (f : BitVec 32) (d : Device) :
    blank ps (enforceDue f d) = blank ps d := by
  refine mask_mono hsub ?_
  unfold enforceDue
  repeat' first
    | rw [mask_foldl (by intro d a; repeat' (simp (disch := decide) only [mask_enforce]; done))]
    | simp (disch := decide) only [mask_leaveNode, blank_set_topo, blank_when, ite_self]

theorem mask_assignOther {ps : List Part} (hsub : sub [.topo] ps = true) (h : Hdr) (b : List Byte) (d : Device) :
    blank ps (assignOther h b d) = blank ps d := by
  refine mask_mono hsub ?_
  simp (disch := decide) only [assignOther, blank_set_topo]

theorem mask_assignTake {ps : List Part} (hsub : sub [.tim, .topo, .flows] ps = true) (pair : Nat) (h : Hdr)
    (b : List Byte) (d : Device) :
    blank ps (assignTake pair h b d) = blank ps d := by
  refine mask_mono hsub ?_
  simp (disch := decide) only [assignTake, mask_assignOther, mask_enforceDue, blank_set_topo, blank_set_flows,
      blank_quiet, reclk_self, blank_when, mask_ite, ite_self]

theorem mask_sendPartner {ps : List Part} (hsub : sub [.link, .flows, .sent] ps = true) (m : SysMap) (r : RingEntry)
    (pair : Nat) (isX : Bool) (d : Device) :
    blank ps (sendPartner m r pair isX d) = blank ps d := by
  refine mask_mono hsub ?_
  unfold sendPartner
  repeat' first | (simp (disch := decide) only [mask_sendOwn, mask_usedSeq]; done) | split

theorem mask_assignFx {ps : List Part}
    (hsub : sub [.tim, .link, .ing, .topo, .flows, .hif, .spare, .regs, .sent, .host, .notes] ps = true) (f : RxFrame)
    (d : Device) :
    blank ps (assignFx f d) = blank ps d := by
  refine mask_mono hsub ?_
  exact mask_takeNumbered (by decide) _ _ _ _ (by intro h b d; simp (disch := decide) only [mask_assignTake])

theorem mask_partnerStep {ps : List Part} (hsub : sub [.link, .topo, .flows, .hif, .sent, .host, .notes] ps = true)
    (pair : Nat) (o i : PartnerInfo) (d : Device) :
    blank ps (partnerStep pair o i d) = blank ps d := by
  refine mask_mono hsub ?_
  unfold partnerStep
  repeat' first
    | rfl
    | (simp (disch := decide) only [mask_raise, mask_setPair, blank_quiet, reclk_self, blank_when, mask_ite, ite_self]; done)
    | split

theorem mask_partnerCompare {ps : List Part} (hsub : sub [.link, .topo, .flows, .hif, .sent, .host, .notes] ps = true)
    (pair : Nat) (d : Device) :
    blank ps (partnerCompare pair d) = blank ps d := by
  refine mask_mono hsub ?_
  unfold partnerCompare
  try dsimp only
  repeat' first
    | rfl
    | (simp (disch := decide) only [mask_partnerStep, blank_quiet, reclk_self, blank_when, mask_ite, ite_self]; done)
    | split
    | simp (disch := decide) only [mask_partnerStep, blank_quiet, reclk_self, blank_when, mask_ite, ite_self]

theorem mask_partnerOwn {ps : List Part} (hsub : sub [.link, .topo, .flows, .hif, .sent, .host, .notes] ps = true)
    (pair : Nat) (isX : Bool) (d : Device) :
    blank ps (partnerOwn pair isX d) = blank ps d := by
  refine mask_mono hsub ?_
  unfold partnerOwn
  try dsimp only
  repeat' first
    | rfl
    | (simp (disch := decide) only [mask_partnerCompare, mask_setPair, blank_quiet, reclk_self, blank_when, mask_ite, ite_self]; done)
    | split
    | simp (disch := decide) only [mask_partnerCompare, mask_setPair, blank_quiet, reclk_self, blank_when, mask_ite, ite_self]

theorem mask_partnerTake {ps : List Part} (hsub : sub [.link, .topo, .flows, .hif, .sent, .host, .notes] ps = true)
    (pair : Nat) (h : Hdr) (b : List Byte) (d : Device) :
    blank ps (partnerTake pair h b d) = blank ps d := by
  refine mask_mono hsub ?_
  unfold partnerTake
  try dsimp only
  repeat' first
    | rfl
    | (simp (disch := decide) only [mask_partnerCompare, mask_setPair, blank_quiet, reclk_self, blank_when, mask_ite, ite_self]; done)
    | split
    | simp (disch := decide) only [mask_partnerCompare, mask_setPair, blank_quiet, reclk_self, blank_when, mask_ite, ite_self]

theorem mask_partnerFx {ps : List Part}
    (hsub : sub [.link, .ing, .topo, .flows, .hif, .spare, .regs, .sent, .host, .notes] ps = true) (f : RxFrame)
    (d : Device) :
    blank ps (partnerFx f d) = blank ps d := by
  refine mask_mono hsub ?_
  exact mask_takeNumbered (by decide) _ _ _ _ (by intro h b d; simp (disch := decide) only [mask_partnerTake])

theorem mask_closingDownFx {ps : List Part} (hsub : sub [.link, .topo, .flows, .hif, .sent, .host, .notes] ps = true)
    (pair : Nat) (d : Device) :
    blank ps (closingDownFx pair d) = blank ps d := by
  refine mask_mono hsub ?_
  unfold closingDownFx
  repeat' first | (simp (disch := decide) only [mask_raise, mask_setPair, mask_ite, ite_self]; done) | split

theorem mask_setHif {ps : List Part} (hsub : sub [.hif] ps = true) (f : Hif → Hif) (d : Device) :
    blank ps (setHif f d) = blank ps d := by
  refine mask_mono hsub ?_
  simp (disch := decide) only [setHif, blank_set_hif]

theorem mask_ringFault {ps : List Part} (hsub : sub [.link, .flows, .hif, .sent, .host, .notes] ps = true)
    (ring detail value : Nat) (d : Device) :
    blank ps (ringFault ring detail value d) = blank ps d := by
  refine mask_mono hsub ?_
  simp (disch := decide) only [ringFault, mask_raise]

theorem mask_dirRead {ps : List Part} (hsub : sub [.link, .flows, .hif, .sent, .host, .notes] ps = true) (node : Nat)
    (r : HostRead) (d : Device) :
    blank ps (dirRead node r d) = blank ps d := by
  refine mask_mono hsub ?_
  unfold dirRead
  repeat' first
    | rw [mask_foldl (by intro d a; repeat' (simp (disch := decide) only [mask_headSend, mask_ite, ite_self]; done))]
    | split
    | simp (disch := decide) only [mask_ringFault, mask_setHif]

theorem mask_cancelOld {ps : List Part}
    (hsub : sub [.sched, .link, .topo, .flows, .hif, .pxl, .sec, .pwr, .sent, .host, .comps, .notes] ps = true)
    (d : Device) :
    blank ps (cancelOld d) = blank ps d := by
  refine mask_mono hsub ?_
  simp (disch := decide) only [cancelOld, mask_cancelElsewhere, mask_cancelWhere, mask_setHif, blank_quiet,
      reclk_self, blank_when, mask_ite, ite_self]

theorem mask_sendRequest {ps : List Part} (hsub : sub [.link, .flows, .hif, .sent] ps = true) (d : Device) :
    blank ps (sendRequest d) = blank ps d := by
  refine mask_mono hsub ?_
  simp (disch := decide) only [sendRequest, mask_nodeSend, mask_setHif, blank_set_flows]

theorem mask_startRings {ps : List Part}
    (hsub : sub [.sched, .link, .ing, .flows, .hif, .pxl, .corr, .sent, .host, .notes] ps = true) (w : LetterWords)
    (d : Device) :
    blank ps (startRings w d) = blank ps d := by
  refine mask_mono hsub ?_
  simp (disch := decide) only [startRings, mask_ackAllMarks, mask_flushEvents, mask_raise, mask_sendRequest,
      mask_setHif, blank_quiet, reclk_self, blank_when, mask_ite, ite_self]

theorem mask_seeP {ps : List Part} (hsub : sub [.link, .flows, .hif, .sent, .host, .notes] ps = true) (p : BitVec 32)
    (d : Device) :
    blank ps (seeP p d) = blank ps d := by
  refine mask_mono hsub ?_
  simp (disch := decide) only [seeP, mask_ringFault, mask_setHif, mask_ite, ite_self]

theorem mask_seeB {ps : List Part} (hsub : sub [.link, .flows, .hif, .sent, .host, .notes] ps = true) (b : BitVec 32)
    (d : Device) :
    blank ps (seeB b d) = blank ps d := by
  refine mask_mono hsub ?_
  simp (disch := decide) only [seeB, mask_ringFault, mask_setHif, mask_ite, ite_self]

theorem mask_ownSeq {ps : List Part}
    (hsub : sub [.sched, .link, .topo, .flows, .hif, .pxl, .sec, .pwr, .sent, .host, .comps, .notes] ps = true)
    (w : LetterWords) (d : Device) :
    blank ps (ownSeq w d) = blank ps d := by
  refine mask_mono hsub ?_
  simp (disch := decide) only [ownSeq, mask_cancelOld, mask_setHif, blank_when, mask_ite, ite_self]

theorem mask_ownEntrySeen {ps : List Part}
    (hsub : sub [.sched, .link, .ing, .flows, .hif, .pxl, .corr, .sent, .host, .notes] ps = true) (w : LetterWords)
    (d : Device) :
    blank ps (ownEntrySeen w d) = blank ps d := by
  refine mask_mono hsub ?_
  simp (disch := decide) only [ownEntrySeen, mask_seeB, mask_seeC, mask_seeP, mask_startRings, mask_ite, ite_self]

theorem mask_answerNode {ps : List Part} (hsub : sub [.link, .flows, .sent] ps = true) (node : BitVec 12) (pair : Nat)
    (payload : List Byte) (d : Device) :
    blank ps (answerNode node pair payload d) = blank ps d := by
  refine mask_mono hsub ?_
  unfold answerNode
  repeat' first
    | rfl
    | (simp (disch := decide) only [mask_headSend, blank_quiet, reclk_self, blank_when, mask_ite, ite_self]; done)
    | split

theorem mask_answerError {ps : List Part} (hsub : sub [.link, .flows, .sent] ps = true) (err : Nat) (q : HeldReq)
    (d : Device) :
    blank ps (answerError err q d) = blank ps d := by
  refine mask_mono hsub ?_
  simp (disch := decide) only [answerError, mask_answerNode]

theorem mask_serveReq {ps : List Part} (hsub : sub [.link, .flows, .hif, .sent] ps = true) (q : HeldReq) (d : Device) :
    blank ps (serveReq q d) = blank ps d := by
  refine mask_mono hsub ?_
  unfold serveReq
  repeat' first | (simp (disch := decide) only [mask_answerError, mask_setHif]; done) | split

theorem mask_serveHeld {ps : List Part} (hsub : sub [.link, .flows, .hif, .sent] ps = true) (d : Device) :
    blank ps (serveHeld d) = blank ps d := by
  refine mask_mono hsub ?_
  unfold serveHeld
  refine mask_foldl ?_ _ _
  intro d a
  repeat' (simp (disch := decide) only [mask_serveReq]; done)

theorem mask_sendMail {ps : List Part} (hsub : sub [.link, .flows, .sent] ps = true) (changed : List Nat)
    (r : RingEntry) (pair : Nat) (isX : Bool) (d : Device) :
    blank ps (sendMail changed r pair isX d) = blank ps d := by
  refine mask_mono hsub ?_
  simp (disch := decide) only [sendMail, mask_headSend]

theorem mask_takeLetter {ps : List Part} (hsub : sub [.hif] ps = true) (ms : List Nat) (z : List Nat × Device)
    (e : Nat × Option LetterWords)  :
    blank ps ((takeLetter ms z e).2) = blank ps z.2 := by
  refine mask_mono hsub ?_
  unfold takeLetter
  (repeat' split) <;> rfl

theorem mask_takeLetters {ps : List Part} (hsub : sub [.hif] ps = true) (es : List (Nat × Option LetterWords))
    (d : Device) :
    blank ps (takeLetters es d).2 = blank ps d := by
  refine mask_mono hsub ?_
  have hgo : ∀ (z : List Nat × Device), blank [.hif] (es.foldl (takeLetter (allMembers d)) z).2 = blank [.hif] z.2 := by
    induction es with
    | nil => intro z; rfl
    | cons a es ih => intro z; rw [List.foldl_cons, ih, mask_takeLetter (by decide)]
  exact hgo _

theorem mask_signalMsix {ps : List Part} (hsub : sub [.hif] ps = true) (d : Device) :
    blank ps (signalMsix d) = blank ps d := by
  refine mask_mono hsub ?_
  simp (disch := decide) only [signalMsix, mask_setHif]

theorem mask_letterboxFx {ps : List Part}
    (hsub : sub [.sched, .link, .ing, .topo, .flows, .hif, .pxl, .corr, .sec, .pwr, .sent, .host, .comps, .notes] ps = true)
    (r : RoundRead) (d : Device) :
    blank ps (letterboxFx r d) = blank ps d := by
  refine mask_mono hsub ?_
  unfold letterboxFx
  repeat' first
    | rw [mask_foldl (by intro d a; repeat' (simp (disch := decide) only [mask_dirRead, mask_sendMail]; done))]
    | split
    | simp (disch := decide) only [mask_ownEntrySeen, mask_ownSeq, mask_raise, mask_rateEvent, mask_serveHeld, mask_setHif, mask_signalMsix, mask_takeLetters, blank_when, ite_self]

theorem mask_nodeLetter {ps : List Part}
    (hsub : sub [.sched, .link, .ing, .topo, .flows, .hif, .pxl, .corr, .sec, .pwr, .sent, .host, .comps, .notes] ps = true)
    (w : LetterWords) (d : Device) :
    blank ps (nodeLetter w d) = blank ps d := by
  refine mask_mono hsub ?_
  simp (disch := decide) only [nodeLetter, mask_cancelOld, mask_seeC, mask_setHif, mask_startRings, blank_when,
      mask_ite, ite_self]

theorem mask_mailbagFx {ps : List Part}
    (hsub : sub [.sched, .link, .ing, .topo, .flows, .hif, .pxl, .corr, .spare, .sec, .pwr, .regs, .sent, .host, .comps, .notes] ps = true)
    (f : RxFrame) (d : Device) :
    blank ps (mailbagFx f d) = blank ps d := by
  refine mask_mono hsub ?_
  exact mask_takeNumbered (by decide) _ _ _ _ (by intro h b d; repeat' first | (simp (disch := decide) only [mask_nodeLetter]; done) | split)

theorem mask_remoteRequestFx {ps : List Part}
    (hsub : sub [.link, .ing, .topo, .flows, .hif, .spare, .regs, .sent, .host, .notes] ps = true) (f : RxFrame)
    (d : Device) :
    blank ps (remoteRequestFx f d) = blank ps d := by
  refine mask_mono hsub ?_
  exact mask_takeNumbered (by decide) _ _ _ _ (by intro h b d; simp (disch := decide) only [mask_serveReq, mask_setHif])

theorem mask_takeAnswer {ps : List Part}
    (hsub : sub [.link, .ing, .topo, .flows, .hif, .spare, .regs, .sent, .host, .notes] ps = true) (f : RxFrame)
    (kind : Nat) (fx : List Byte → Device → Device) (d : Device) (hf : ∀ b d, blank ps (fx b d) = blank ps d) :
    blank ps (takeAnswer f kind fx d) = blank ps d := by
  have hb : ∀ e a n, blank ps (Device.bump e a n) = blank ps e := fun e a n => mask_mono hsub (mask_dev_bump (by decide) e a n)
  have hfl : has ps .flows = true := has_of_sub hsub rfl
  unfold takeAnswer
  refine mask_takeNumbered (sub_mono hsub (by decide)) _ _ _ _ (fun h b e => ?_)
  dsimp only
  repeat' first | exact hb _ _ _ | exact blank_set_flows hfl _ _ | rw [hf, blank_set_flows hfl] | split

theorem mask_remoteResponseFx {ps : List Part}
    (hsub : sub [.link, .ing, .topo, .flows, .hif, .spare, .regs, .sent, .host, .notes] ps = true) (f : RxFrame)
    (d : Device) :
    blank ps (remoteResponseFx f d) = blank ps d := by
  refine mask_mono hsub ?_
  exact mask_takeAnswer (by decide) _ _ _ _ (by intro b d; simp (disch := decide) only [mask_sendRequest, mask_setHif])

theorem mask_remoteErrorFx {ps : List Part}
    (hsub : sub [.link, .ing, .topo, .flows, .hif, .spare, .regs, .sent, .host, .notes] ps = true) (f : RxFrame)
    (d : Device) :
    blank ps (remoteErrorFx f d) = blank ps d := by
  refine mask_mono hsub ?_
  exact mask_takeAnswer (by decide) _ _ _ _ (by intro b d; simp (disch := decide) only [mask_rateEvent, mask_sendRequest, blank_when, ite_self])

theorem mask_writeFailed {ps : List Part} (hsub : sub [.link, .flows, .hif, .sent, .host, .notes] ps = true)
    (node cause addr : Nat) (d : Device) :
    blank ps (writeFailed node cause addr d) = blank ps d := by
  refine mask_mono hsub ?_
  simp (disch := decide) only [writeFailed, mask_raise]

theorem mask_remotePostFx {ps : List Part}
    (hsub : sub [.link, .ing, .topo, .flows, .hif, .spare, .regs, .sent, .host, .notes] ps = true) (f : RxFrame)
    (busErr : Bool) (d : Device) :
    blank ps (remotePostFx f busErr d) = blank ps d := by
  refine mask_mono hsub ?_
  unfold remotePostFx
  dsimp only
  exact mask_takeNumbered (by decide) _ _ _ _ (by intro h b d; repeat' first | (simp (disch := decide) only [mask_dev_bump, mask_hostWrite, mask_vector, mask_writeFailed, mask_ite, ite_self]; done) | split)

theorem mask_timeOut {ps : List Part} (hsub : sub [.link, .flows, .hif, .sent] ps = true) (p : HeldReq → Bool)
    (d : Device) :
    blank ps (timeOut p d) = blank ps d := by
  refine mask_mono hsub ?_
  unfold timeOut
  refine mask_foldl ?_ _ _
  intro d a
  repeat' (simp (disch := decide) only [mask_answerError]; done)

theorem mask_hostReadFx {ps : List Part} (hsub : sub [.link, .flows, .hif, .sent] ps = true) (id : Nat) (r : HostRead)
    (d : Device) :
    blank ps (hostReadFx id r d) = blank ps d := by
  refine mask_mono hsub ?_
  unfold hostReadFx
  repeat' first | (simp (disch := decide) only [mask_answerError, mask_answerNode, mask_setHif]; done) | split

theorem mask_repostFx {ps : List Part} (hsub : sub [.link, .flows, .hif, .sent, .host] ps = true) (d : Device) :
    blank ps (repostFx d) = blank ps d := by
  refine mask_mono hsub ?_
  unfold repostFx
  try dsimp only
  repeat' first
    | rfl
    | (simp (disch := decide) only [mask_flushPosts, mask_writeOut, blank_quiet, reclk_self, blank_when, mask_ite, ite_self]; done)
    | rw [mask_foldl]
    | intro d a
    | split
    | (rename_i hq; rw [snd_of_eq hq])
    | (rename_i hq _; rw [snd_of_eq hq])
    | simp (disch := decide) only [mask_flushPosts, mask_writeOut, blank_quiet, reclk_self, blank_when, mask_ite, ite_self]
    | dsimp only

theorem mask_windowCloseFx {ps : List Part} (hsub : sub [.link, .flows, .hif, .sent, .host, .notes] ps = true)
    (code : BitVec 16) (subject : Nat) (d : Device) :
    blank ps (windowCloseFx code subject d) = blank ps d := by
  refine mask_mono hsub ?_
  unfold windowCloseFx
  repeat' first | (simp (disch := decide) only [mask_raise, mask_report, mask_setHif, mask_ite, ite_self]; done) | split

theorem mask_ringCfgFx {ps : List Part} (hsub : sub [.hif] ps = true) (v : Nat) (d : Device) :
    blank ps (ringCfgFx v d) = blank ps d := by
  refine mask_mono hsub ?_
  simp (disch := decide) only [ringCfgFx, mask_setHif, blank_quiet, reclk_self, blank_when, mask_ite, ite_self]

theorem mask_linkChange {ps : List Part} (hsub : sub [.link, .flows, .hif, .sent, .host, .notes] ps = true)
    (p up cause : Nat) (d : Device) :
    blank ps (linkChange p up cause d) = blank ps d := by
  refine mask_mono hsub ?_
  simp (disch := decide) only [linkChange, mask_raise, mask_report, mask_ite, ite_self]

theorem mask_sendIgmp {ps : List Part} (hsub : sub [.link, .ing, .flows, .hif, .sent, .host, .notes] ps = true)
    (p kind : Nat) (d : Device) (g : BitVec 32) :
    blank ps (sendIgmp p kind d g) = blank ps d := by
  refine mask_mono hsub ?_
  simp (disch := decide) only [sendIgmp, mask_sendIngest]

theorem mask_groupsAt {ps : List Part} (hsub : sub [.link, .ing, .flows, .hif, .sent, .host, .notes] ps = true)
    (d : Device) (p : Nat) :
    blank ps (groupsAt d p) = blank ps d := by
  refine mask_mono hsub ?_
  unfold groupsAt
  repeat' first
    | rw [mask_foldl (by intro d a; repeat' (simp (disch := decide) only [mask_sendIgmp]; done))]
    | simp (disch := decide) only [mask_setIng, mask_ite, ite_self]

theorem mask_updateGroups {ps : List Part} (hsub : sub [.link, .ing, .flows, .hif, .sent, .host, .notes] ps = true)
    (d : Device) :
    blank ps (updateGroups d) = blank ps d := by
  refine mask_mono hsub ?_
  unfold updateGroups
  repeat' first
    | rw [mask_foldl (by intro d a; repeat' (simp (disch := decide) only [mask_groupsAt]; done))]
    | simp (disch := decide) only [mask_ite, ite_self]

theorem mask_repeatReports {ps : List Part} (hsub : sub [.link, .ing, .flows, .hif, .sent, .host, .notes] ps = true)
    (d : Device) :
    blank ps (repeatReports d) = blank ps d := by
  refine mask_mono hsub ?_
  unfold repeatReports
  refine mask_foldl (fun d p => ?_) _ _
  split
  · rfl
  · rw [mask_foldl (fun e g => mask_sendIgmp (by decide) _ _ e g), mask_setIng (by decide)]

theorem mask_portUpFx {ps : List Part} (hsub : sub [.link, .ing, .flows, .hif, .sent, .host, .notes] ps = true)
    (p : Nat) (skews : List Nat) (d : Device) :
    blank ps (portUpFx p skews d) = blank ps d := by
  refine mask_mono hsub ?_
  simp (disch := decide) only [portUpFx, mask_dev_setPort, mask_groupsAt, mask_linkChange, mask_setIng, blank_quiet,
      reclk_self, blank_when, mask_ite, ite_self]

theorem mask_portDownFx {ps : List Part}
    (hsub : sub [.tim, .link, .ing, .flows, .hif, .sent, .host, .notes] ps = true) (p cause : Nat) (d : Device) :
    blank ps (portDownFx p cause d) = blank ps d := by
  refine mask_mono hsub ?_
  unfold portDownFx
  try dsimp only
  repeat' first
    | rfl
    | (simp (disch := decide) only [mask_dev_setPort, mask_linkChange, mask_mastersGone, mask_setIng, blank_quiet, reclk_self, blank_when, mask_ite, ite_self]; done)
    | split
    | simp (disch := decide) only [mask_dev_setPort, mask_linkChange, mask_mastersGone, mask_setIng, blank_quiet, reclk_self, blank_when, mask_ite, ite_self]

theorem mask_fecSwitch {ps : List Part} (hsub : sub [.tim, .link, .ing, .flows, .hif, .sent, .host, .notes] ps = true)
    (d : Device) :
    blank ps (fecSwitch d) = blank ps d := by
  refine mask_mono hsub ?_
  unfold fecSwitch
  refine mask_foldl ?_ _ _
  intro d a
  repeat' first
    | rfl
    | (simp (disch := decide) only [mask_portDownFx, blank_quiet, reclk_self, blank_when, mask_ite, ite_self]; done)
    | split

theorem mask_fecDetectedFx {ps : List Part} (hsub : sub [.link, .flows, .hif, .sent, .host, .notes] ps = true)
    (p : Nat) (fec : Bool) (d : Device) :
    blank ps (fecDetectedFx p fec d) = blank ps d := by
  refine mask_mono hsub ?_
  simp (disch := decide) only [fecDetectedFx, mask_dev_setPort, mask_linkChange, blank_when, mask_ite, ite_self]

theorem mask_eeeNotice {ps : List Part} (hsub : sub [.link, .flows, .hif, .sent, .host, .notes] ps = true) (p : Nat)
    (d : Device) :
    blank ps (eeeNotice p d) = blank ps d := by
  refine mask_mono hsub ?_
  simp (disch := decide) only [eeeNotice, mask_raise]

theorem mask_lpiCheck {ps : List Part} (hsub : sub [.link, .sent] ps = true) (p : Nat) (d : Device) :
    blank ps (lpiCheck p d) = blank ps d := by
  refine mask_mono hsub ?_
  simp (disch := decide) only [lpiCheck, mask_wakePort, blank_when, ite_self]

theorem mask_lpiCheckAll {ps : List Part} (hsub : sub [.link, .sent] ps = true) (d : Device) :
    blank ps (lpiCheckAll d) = blank ps d := by
  refine mask_mono hsub ?_
  unfold lpiCheckAll
  refine mask_foldl ?_ _ _
  intro d a
  repeat' (simp (disch := decide) only [mask_lpiCheck]; done)

theorem mask_wakeTaken {ps : List Part} (hsub : sub [.link, .flows, .hif, .sent, .host, .notes] ps = true)
    (p rxTw txTw : Nat) (d : Device) :
    blank ps (wakeTaken p rxTw txTw d) = blank ps d := by
  refine mask_mono hsub ?_
  simp (disch := decide) only [wakeTaken, mask_dev_setPort, mask_eeeNotice, mask_lpiCheck, blank_quiet, reclk_self,
      blank_when, mask_ite, ite_self]

theorem mask_lldpRead {ps : List Part} (hsub : sub [.link, .flows, .hif, .sent, .host, .notes] ps = true) (p : Nat)
    (bs : List Byte) (d : Device) :
    blank ps (lldpRead p bs d) = blank ps d := by
  refine mask_mono hsub ?_
  unfold lldpRead
  try dsimp only
  repeat' first
    | rfl
    | (simp (disch := decide) only [mask_tx, mask_wakeTaken, blank_quiet, reclk_self, blank_when, mask_ite, ite_self]; done)
    | split
    | simp (disch := decide) only [mask_tx, mask_wakeTaken, blank_quiet, reclk_self, blank_when, mask_ite, ite_self]

theorem mask_lldpReceivedFx {ps : List Part}
    (hsub : sub [.link, .ing, .topo, .flows, .hif, .spare, .regs, .sent, .host, .notes] ps = true) (f : RxFrame)
    (d : Device) :
    blank ps (lldpReceivedFx f d) = blank ps d := by
  refine mask_mono hsub ?_
  unfold lldpReceivedFx
  dsimp only
  split
  · rw [mask_leave (by decide) _ _ _ _ (fun e => mask_lldpRead (by decide) _ _ e)]; simp (disch := decide) only [mask_lldpRead, mask_queueWrite, mask_takeFrame, blank_quiet, reclk_self, blank_when, mask_ite, ite_self]
  · simp (disch := decide) only [mask_lldpRead, mask_queueWrite, mask_takeFrame, blank_quiet, reclk_self, blank_when,
      mask_ite, ite_self]

theorem mask_eeeUnresolvedFx {ps : List Part} (hsub : sub [.link, .flows, .hif, .sent, .host, .notes] ps = true)
    (p : Nat) (d : Device) :
    blank ps (eeeUnresolvedFx p d) = blank ps d := by
  refine mask_mono hsub ?_
  simp (disch := decide) only [eeeUnresolvedFx, mask_dev_setPort, mask_eeeNotice, mask_lpiCheck, blank_when, ite_self]

theorem mask_lpiEntryFx {ps : List Part} (hsub : sub [.link] ps = true) (p : Nat) (d : Device) :
    blank ps (lpiEntryFx p d) = blank ps d := by
  refine mask_mono hsub ?_
  simp (disch := decide) only [lpiEntryFx, mask_dev_setPort, blank_when, ite_self]

theorem mask_pauseOver {ps : List Part} (hsub : sub [.link, .ing, .flows, .hif, .sent, .host, .notes] ps = true)
    (p : Nat) (d : Device) :
    blank ps (pauseOver p d) = blank ps d := by
  refine mask_mono hsub ?_
  unfold pauseOver
  refine mask_foldl ?_ _ _
  intro d a
  repeat' (simp (disch := decide) only [mask_startIngest]; done)

theorem mask_ingestBroken {ps : List Part} (hsub : sub [.link, .ing, .flows, .hif, .sent, .host, .notes] ps = true)
    (x : IngRx) (cls : Nat) (d : Device) :
    blank ps (ingestBroken x cls d) = blank ps d := by
  refine mask_mono hsub ?_
  simp (disch := decide) only [ingestBroken, mask_countIng, mask_queueVerdict, mask_queueWrite, blank_quiet,
      reclk_self, blank_when, mask_ite, ite_self]

theorem mask_controlQueued {ps : List Part}
    (hsub : sub [.link, .ing, .flows, .hif, .spare, .regs, .sent, .host, .notes] ps = true) (x : IngRx) (d : Device) :
    blank ps (controlQueued x d) = blank ps d := by
  refine mask_mono hsub ?_
  simp (disch := decide) only [controlQueued, mask_poisoned, mask_queueWrite, blank_quiet, reclk_self, blank_when,
      mask_ite, ite_self]

theorem mask_pauseTaken {ps : List Part} (hsub : sub [.link, .ing, .flows, .hif, .sent, .host, .notes] ps = true)
    (m : MacControl) (d : Device) :
    blank ps (pauseTaken m d) = blank ps d := by
  refine mask_mono hsub ?_
  simp (disch := decide) only [pauseTaken, mask_pauseOver, mask_setIng, blank_quiet, reclk_self, blank_when, mask_ite,
      ite_self]

theorem mask_macControlFx {ps : List Part}
    (hsub : sub [.link, .ing, .flows, .hif, .spare, .regs, .sent, .host, .notes] ps = true) (m : MacControl)
    (d : Device) :
    blank ps (macControlFx m d) = blank ps d := by
  refine mask_mono hsub ?_
  unfold macControlFx
  try dsimp only
  repeat' first
    | rfl
    | (simp (disch := decide) only [mask_controlQueued, mask_countIng, mask_ingestBroken, mask_pauseTaken, blank_quiet, reclk_self, blank_when, mask_ite, ite_self]; done)
    | split
    | simp (disch := decide) only [mask_controlQueued, mask_countIng, mask_ingestBroken, mask_pauseTaken, blank_quiet, reclk_self, blank_when, mask_ite, ite_self]

theorem mask_rxBlockFx {ps : List Part}
    (hsub : sub [.tim, .link, .ing, .flows, .hif, .out, .regs, .sent, .host, .notes] ps = true) (f : RxFrame)
    (d : Device) :
    blank ps (rxBlockFx f d) = blank ps d := by
  refine mask_mono hsub ?_
  unfold rxBlockFx
  try dsimp only
  repeat' first
    | rfl
    | (simp (disch := decide) only [mask_countStat, mask_dev_setPort, mask_hopLimit, mask_queueVerdict, mask_queueWrite, mask_tx, blank_set_tim, blank_set_out, blank_quiet, reclk_self, blank_when, mask_ite, ite_self]; done)
    | split
    | simp (disch := decide) only [mask_countStat, mask_dev_setPort, mask_hopLimit, mask_queueVerdict, mask_queueWrite, mask_tx, blank_set_tim, blank_set_out, blank_quiet, reclk_self, blank_when, mask_ite, ite_self]

theorem mask_underrunFx {ps : List Part} (hsub : sub [.link, .ing, .flows, .hif, .sent, .host, .notes] ps = true)
    (p : Nat) (sent frame : List Byte) (d : Device) :
    blank ps (underrunFx p sent frame d) = blank ps d := by
  refine mask_mono hsub ?_
  simp (disch := decide) only [underrunFx, mask_countStat, mask_dev_setPort, mask_raise, mask_tx, mask_ite, ite_self]

theorem mask_portThresholdFx {ps : List Part}
    (hsub : sub [.link, .flows, .hif, .sent, .host, .comps, .notes] ps = true) (c : Cmd) (d : Device) :
    blank ps (portThresholdFx c d) = blank ps d := by
  refine mask_mono hsub ?_
  simp (disch := decide) only [portThresholdFx, mask_dev_setPort, mask_finish, mask_refuse, mask_ite, ite_self]

theorem mask_portStatsFx {ps : List Part}
    (hsub : sub [.link, .ing, .flows, .hif, .sent, .host, .comps, .notes] ps = true) (c : Cmd) (d : Device) :
    blank ps (portStatsFx c d) = blank ps d := by
  refine mask_mono hsub ?_
  unfold portStatsFx
  repeat' first | rfl | simp (disch := decide) only [mask_finish]

theorem mask_macsecFx {ps : List Part}
    (hsub : sub [.link, .ing, .flows, .hif, .sent, .host, .comps, .notes] ps = true) (c : Cmd) (d : Device) :
    blank ps (macsecFx c d) = blank ps d := by
  refine mask_mono hsub ?_
  unfold macsecFx
  repeat' first
    | (simp (disch := decide) only [mask_finish, mask_refuse, mask_setIng, mask_ite, ite_self]; done)
    | split

end Sys2Proof.Laws
end

