-- ==== Sys2Proof/Laws/PartsPicture.lean ====
section
/-! SUPPORT. Laws/PartsPicture.lean: which parts each operation of Store, Layers, CalBase, Correct, Output can change,
and no other: one lemma per operation. -/

namespace Sys2Proof.Laws

open Machine

theorem mask_setPxl {ps : List Part} (hsub : sub [.pxl] ps = true) (f : Pixel → Pixel) (d : Device) :
    blank ps (setPxl f d) = blank ps d := by
  refine mask_mono hsub ?_
  simp (disch := decide) only [setPxl, blank_set_pxl]

theorem mask_storeStep1 {ps : List Part} (hsub : sub [.link, .flows, .hif, .pxl, .sent, .host, .notes] ps = true)
    (c : BitVec 32) (rec : NodeRecord) (d : Device) :
    blank ps (storeStep1 c rec d) = blank ps d := by
  refine mask_mono hsub ?_
  unfold storeStep1
  try dsimp only
  repeat' first
    | rfl
    | (simp (disch := decide) only [mask_raise, mask_sampleStore, mask_setPxl, blank_quiet, reclk_self, blank_when, mask_ite, ite_self]; done)
    | split
    | simp (disch := decide) only [mask_raise, mask_sampleStore, mask_setPxl, blank_quiet, reclk_self, blank_when, mask_ite, ite_self]

theorem mask_runMismatch {ps : List Part}
    (hsub : sub [.link, .flows, .hif, .pxl, .regs, .sent, .host, .notes] ps = true) (c : BitVec 32) (s : SliceHdr)
    (d : Device) :
    blank ps (runMismatch c s d) = blank ps d := by
  refine mask_mono hsub ?_
  simp (disch := decide) only [runMismatch, mask_dev_bump, mask_raise, mask_setPxl, blank_quiet, reclk_self,
      blank_when, mask_ite, ite_self]

theorem mask_storeRun {ps : List Part} (hsub : sub [.link, .flows, .hif, .pxl, .regs, .sent, .host, .notes] ps = true)
    (c : BitVec 32) (s : SliceHdr) (data : List Byte) (d : Device) :
    blank ps (storeRun c s data d) = blank ps d := by
  refine mask_mono hsub ?_
  simp (disch := decide) only [storeRun, mask_dev_bump, mask_runMismatch, mask_setPxl, mask_ite, ite_self]

theorem mask_outOfWindow {ps : List Part} (hsub : sub [.tim, .regs] ps = true) (c : BitVec 32) (early : Bool)
    (d : Device) :
    blank ps (outOfWindow c early d) = blank ps d := by
  refine mask_mono hsub ?_
  simp (disch := decide) only [outOfWindow, mask_dev_bump, blank_set_tim]

theorem mask_pixMark {ps : List Part} (hsub : sub [.flows] ps = true) (c : BitVec 32) (n : Nat) (d : Device) :
    blank ps (pixMark c n d) = blank ps d := by
  refine mask_mono hsub ?_
  simp (disch := decide) only [pixMark, blank_set_flows]

theorem mask_sliceTake {ps : List Part}
    (hsub : sub [.tim, .link, .flows, .hif, .pxl, .regs, .sent, .host, .notes] ps = true) (p : Nat) (h : Hdr)
    (b : List Byte) (d : Device) :
    blank ps (sliceTake p h b d) = blank ps d := by
  refine mask_mono hsub ?_
  simp (disch := decide) only [sliceTake, mask_dev_bump, mask_malformed, mask_outOfWindow, mask_pixMark,
      mask_storeRun, mask_ite, ite_self]

theorem mask_pixSliceFx {ps : List Part}
    (hsub : sub [.tim, .link, .ing, .topo, .flows, .hif, .pxl, .spare, .regs, .sent, .host, .notes] ps = true)
    (f : RxFrame) (d : Device) :
    blank ps (pixSliceFx f d) = blank ps d := by
  refine mask_mono hsub ?_
  exact mask_takeNumbered (by decide) _ _ _ _ (by intro h b d; simp (disch := decide) only [mask_sliceTake])

theorem mask_contentFreed {ps : List Part} (hsub : sub [.flows, .pxl] ps = true) (c : BitVec 32) (d : Device) :
    blank ps (contentFreed c d) = blank ps d := by
  refine mask_mono hsub ?_
  simp (disch := decide) only [contentFreed, mask_setPxl, blank_set_flows, blank_quiet, reclk_self, blank_when,
      mask_ite, ite_self]

theorem mask_layersFor {ps : List Part} (hsub : sub [.pxl] ps = true) (f : BitVec 32) (d : Device) :
    blank ps (layersFor f d) = blank ps d := by
  refine mask_mono hsub ?_
  unfold layersFor
  repeat' first | rfl | split

theorem mask_finishAt {ps : List Part} (hsub : sub [.link, .flows, .hif, .sent, .host, .comps, .notes] ps = true)
    (op : Nat) (c : Cmd) (f : BitVec 32) (d : Device) :
    blank ps (finishAt op c f d) = blank ps d := by
  refine mask_mono hsub ?_
  simp (disch := decide) only [finishAt, mask_finish]

theorem mask_layerSetTurn {ps : List Part}
    (hsub : sub [.link, .flows, .hif, .pxl, .sent, .host, .comps, .notes] ps = true) (f : BitVec 32)
    (why : Option Nat) (c : Cmd) (d : Device) :
    blank ps (layerSetTurn f why c d) = blank ps d := by
  refine mask_mono hsub ?_
  unfold layerSetTurn
  repeat' first | (simp (disch := decide) only [mask_finishAt, mask_refuse, mask_setPxl]; done) | split

theorem mask_layerSetsFx {ps : List Part}
    (hsub : sub [.link, .flows, .hif, .pxl, .sent, .host, .comps, .notes] ps = true) (f : BitVec 32) (cs : List Cmd)
    (d : Device) :
    blank ps (layerSetsFx f cs d) = blank ps d := by
  refine mask_mono hsub ?_
  unfold layerSetsFx
  rw [mask_foldl (by intro d a; repeat' (simp (disch := decide) only [mask_layerSetTurn]; done))]
  simp (disch := decide) only [mask_layersFor]

theorem mask_layerSetFx {ps : List Part}
    (hsub : sub [.link, .flows, .hif, .pxl, .sent, .host, .comps, .notes] ps = true) (f : BitVec 32) (c : Cmd)
    (d : Device) :
    blank ps (layerSetFx f c d) = blank ps d := by
  refine mask_mono hsub ?_
  simp (disch := decide) only [layerSetFx, mask_layerSetsFx, mask_refuse, mask_ite, ite_self]

theorem mask_lutLoadFx {ps : List Part}
    (hsub : sub [.link, .flows, .hif, .pxl, .sent, .host, .comps, .notes] ps = true) (f : BitVec 32) (c : Cmd)
    (d : Device) :
    blank ps (lutLoadFx f c d) = blank ps d := by
  refine mask_mono hsub ?_
  unfold lutLoadFx
  repeat' first
    | (simp (disch := decide) only [mask_finishAt, mask_layersFor, mask_refuse, mask_setPxl, mask_ite, ite_self]; done)
    | split

theorem mask_scalerLoadFx {ps : List Part}
    (hsub : sub [.link, .flows, .hif, .pxl, .sent, .host, .comps, .notes] ps = true) (f : BitVec 32) (c : Cmd)
    (d : Device) :
    blank ps (scalerLoadFx f c d) = blank ps d := by
  refine mask_mono hsub ?_
  unfold scalerLoadFx
  repeat' first
    | (simp (disch := decide) only [mask_finishAt, mask_layersFor, mask_refuse, mask_setPxl, mask_ite, ite_self]; done)
    | split

theorem mask_setCal {ps : List Part} (hsub : sub [.cal] ps = true) (f : Cal → Cal) (d : Device) :
    blank ps (setCal f d) = blank ps d := by
  refine mask_mono hsub ?_
  simp (disch := decide) only [setCal, blank_set_cal]

theorem mask_calAborted {ps : List Part} (hsub : sub [.link, .flows, .hif, .sent, .host, .notes] ps = true)
    (kind cause : Nat) (tag : BitVec 32) (start : Option RP) (d : Device) :
    blank ps (calAborted kind cause tag start d) = blank ps d := by
  refine mask_mono hsub ?_
  simp (disch := decide) only [calAborted, mask_raise]

theorem mask_calClear {ps : List Part} (hsub : sub [.spare, .cal] ps = true) (kind : Nat) (d : Device) :
    blank ps (calClear kind d) = blank ps d := by
  refine mask_mono hsub ?_
  simp (disch := decide) only [calClear, mask_setCal]

theorem mask_calAbort {ps : List Part}
    (hsub : sub [.link, .flows, .hif, .spare, .cal, .sent, .host, .comps, .notes] ps = true) (kind cause : Nat)
    (d : Device) :
    blank ps (calAbort kind cause d) = blank ps d := by
  refine mask_mono hsub ?_
  unfold calAbort
  repeat' first | (simp (disch := decide) only [mask_calAborted, mask_calClear, mask_complete]; done) | split

theorem mask_calDrop {ps : List Part} (hsub : sub [.link, .flows, .hif, .cal, .sent, .host, .comps, .notes] ps = true)
    (kind cause : Nat) (d : Device) :
    blank ps (calDrop kind cause d) = blank ps d := by
  refine mask_mono hsub ?_
  unfold calDrop
  repeat' first | (simp (disch := decide) only [mask_calAborted, mask_complete, mask_setCal]; done) | split

theorem mask_calLeave {ps : List Part}
    (hsub : sub [.link, .flows, .hif, .spare, .cal, .sent, .host, .comps, .notes] ps = true) (d : Device) :
    blank ps (calLeave d) = blank ps d := by
  refine mask_mono hsub ?_
  unfold calLeave
  refine mask_foldl ?_ _ _
  intro d a
  repeat' (simp (disch := decide) only [mask_calAbort, mask_calDrop]; done)

theorem mask_calWindow {ps : List Part} (hsub : sub [.cal] ps = true) (w : CalWin) (r : Reading) (d : Device) :
    blank ps (calWindow w r d) = blank ps d := by
  refine mask_mono hsub ?_
  unfold calWindow
  repeat' first | rfl | split

theorem mask_calBoot {ps : List Part} (hsub : sub [.link, .flows, .hif, .cal, .sent, .host, .notes] ps = true)
    (d : Device) :
    blank ps (calBoot d) = blank ps d := by
  refine mask_mono hsub ?_
  unfold calBoot
  refine mask_foldl ?_ _ _
  intro d a
  repeat' first | (simp (disch := decide) only [mask_calAborted, mask_setCal]; done) | split

theorem mask_setCorr {ps : List Part} (hsub : sub [.corr] ps = true) (f : Corr → Corr) (d : Device) :
    blank ps (setCorr f d) = blank ps d := by
  refine mask_mono hsub ?_
  simp (disch := decide) only [setCorr, blank_set_corr]

theorem mask_sensorCheck {ps : List Part} (hsub : sub [.link, .flows, .hif, .corr, .sent, .host, .notes] ps = true)
    (d : Device) :
    blank ps (sensorCheck d) = blank ps d := by
  refine mask_mono hsub ?_
  unfold sensorCheck
  repeat' first
    | rfl
    | (simp (disch := decide) only [mask_raise, mask_setCorr, blank_quiet, reclk_self, blank_when, mask_ite, ite_self]; done)
    | split

theorem mask_wearPass {ps : List Part} (hsub : sub [.link, .flows, .hif, .corr, .sent, .host, .notes] ps = true)
    (d : Device) :
    blank ps (wearPass d) = blank ps d := by
  refine mask_mono hsub ?_
  simp (disch := decide) only [wearPass, mask_sensorCheck, mask_setCorr, mask_ite, ite_self]

theorem mask_wearDoneFx {ps : List Part}
    (hsub : sub [.link, .flows, .hif, .pxl, .corr, .sent, .host, .notes] ps = true) (d : Device) :
    blank ps (wearDoneFx d) = blank ps d := by
  refine mask_mono hsub ?_
  simp (disch := decide) only [wearDoneFx, mask_sampleLimit, mask_setCorr, mask_setPxl, blank_set_corr, blank_quiet,
      reclk_self, blank_when, mask_ite, ite_self]

theorem mask_phaseEnd {ps : List Part} (hsub : sub [.link, .flows, .hif, .corr, .sent, .host, .notes] ps = true)
    (f : BitVec 32) (d : Device) :
    blank ps (phaseEnd f d) = blank ps d := by
  refine mask_mono hsub ?_
  unfold phaseEnd
  repeat' first
    | rfl
    | (simp (disch := decide) only [mask_setCorr, mask_wearPass, blank_quiet, reclk_self, blank_when, mask_ite, ite_self]; done)
    | split

theorem mask_startUpPass {ps : List Part} (hsub : sub [.link, .flows, .hif, .corr, .sent, .host, .notes] ps = true)
    (d : Device) :
    blank ps (startUpPass d) = blank ps d := by
  refine mask_mono hsub ?_
  simp (disch := decide) only [startUpPass, mask_sampleLimit, mask_sensorCheck, mask_setCorr, blank_quiet, reclk_self,
      blank_when, mask_ite, ite_self]

theorem mask_calLoaded {ps : List Part} (hsub : sub [.link, .flows, .hif, .sent, .host, .notes] ps = true)
    (corr expo : Nat) (d : Device) :
    blank ps (calLoaded corr expo d) = blank ps d := by
  refine mask_mono hsub ?_
  simp (disch := decide) only [calLoaded, mask_raise]

theorem mask_loadRecords {ps : List Part} (hsub : sub [.link, .flows, .hif, .corr, .sent, .host, .notes] ps = true)
    (d : Device) :
    blank ps (loadRecords d) = blank ps d := by
  refine mask_mono hsub ?_
  unfold loadRecords
  try dsimp only
  repeat' first
    | rfl
    | (simp (disch := decide) only [mask_calLoaded, mask_setCorr, blank_quiet, reclk_self, blank_when, mask_ite, ite_self]; done)
    | split
    | simp (disch := decide) only [mask_calLoaded, mask_setCorr, blank_quiet, reclk_self, blank_when, mask_ite, ite_self]

theorem mask_compareRecords {ps : List Part} (hsub : sub [.link, .flows, .hif, .corr, .sent, .host, .notes] ps = true)
    (old : Option NodeRecord) (n : NodeRecord) (d : Device) :
    blank ps (compareRecords old n d) = blank ps d := by
  refine mask_mono hsub ?_
  unfold compareRecords
  try dsimp only
  repeat' first
    | rfl
    | (simp (disch := decide) only [mask_calLoaded, mask_setCorr, mask_wearPass, blank_quiet, reclk_self, blank_when, mask_ite, ite_self]; done)
    | split
    | simp (disch := decide) only [mask_calLoaded, mask_setCorr, mask_wearPass, blank_quiet, reclk_self, blank_when, mask_ite, ite_self]

theorem mask_corrChanged {ps : List Part} (hsub : sub [.corr] ps = true) (d : Device) :
    blank ps (corrChanged d) = blank ps d := by
  refine mask_mono hsub ?_
  simp (disch := decide) only [corrChanged, mask_setCorr]

theorem mask_corrWriteFx {ps : List Part} (hsub : sub [.corr] ps = true) (d : Device) :
    blank ps (corrWriteFx d) = blank ps d := by
  refine mask_mono hsub ?_
  simp (disch := decide) only [corrWriteFx, mask_setCorr, mask_ite, ite_self]

theorem mask_corrWrittenFx {ps : List Part} (hsub : sub [.link, .flows, .hif, .corr, .sent, .host, .notes] ps = true)
    (ok : Bool) (d : Device) :
    blank ps (corrWrittenFx ok d) = blank ps d := by
  refine mask_mono hsub ?_
  unfold corrWrittenFx
  repeat' first | (simp (disch := decide) only [mask_raise, mask_setCorr, mask_ite, ite_self]; done) | split

theorem mask_corrCommit {ps : List Part} (hsub : sub [.link, .flows, .hif, .corr, .sent, .host, .notes] ps = true)
    (d : Device) :
    blank ps (corrCommit d) = blank ps d := by
  refine mask_mono hsub ?_
  simp (disch := decide) only [corrCommit, mask_corrWrittenFx, mask_setCorr, blank_quiet, reclk_self, blank_when,
      mask_ite, ite_self]

theorem mask_expoStart {ps : List Part} (hsub : sub [.corr] ps = true) (cmd : Option (RP × Cmd)) (d : Device) :
    blank ps (expoStart cmd d) = blank ps d := by
  refine mask_mono hsub ?_
  unfold expoStart
  repeat' first
    | rfl
    | (simp (disch := decide) only [mask_setCorr, blank_quiet, reclk_self, blank_when, mask_ite, ite_self]; done)
    | split

theorem mask_expoNext {ps : List Part} (hsub : sub [.corr] ps = true) (d : Device) :
    blank ps (expoNext d) = blank ps d := by
  refine mask_mono hsub ?_
  unfold expoNext
  repeat' first | (simp (disch := decide) only [mask_expoStart, mask_setCorr, mask_ite, ite_self]; done) | split

theorem mask_expoDoneFx {ps : List Part}
    (hsub : sub [.link, .flows, .hif, .corr, .sent, .host, .comps, .notes] ps = true) (ok : Bool) (d : Device) :
    blank ps (expoDoneFx ok d) = blank ps d := by
  refine mask_mono hsub ?_
  unfold expoDoneFx
  repeat' first
    | rfl
    | (simp (disch := decide) only [mask_expoNext, mask_finish, mask_raise, mask_refuse, mask_setCorr, blank_quiet, reclk_self, blank_when, mask_ite, ite_self]; done)
    | split

theorem mask_unstage {ps : List Part} (hsub : sub [.pxl] ps = true) (adm : Option Nat) (d : Device) :
    blank ps (unstage adm d) = blank ps d := by
  refine mask_mono hsub ?_
  unfold unstage
  repeat' first | rfl | split

theorem mask_ccmLoadFx {ps : List Part}
    (hsub : sub [.link, .flows, .hif, .pxl, .corr, .sent, .host, .comps, .notes] ps = true) (f : BitVec 32)
    (adm : Option Nat) (was : NodeRecord) (c : Cmd) (d : Device) :
    blank ps (ccmLoadFx f adm was c d) = blank ps d := by
  refine mask_mono hsub ?_
  unfold ccmLoadFx
  repeat' first
    | rfl
    | (simp (disch := decide) only [mask_corrChanged, mask_finishAt, mask_refuse, mask_setCorr, mask_unstage, blank_quiet, reclk_self, blank_when, mask_ite, ite_self]; done)
    | split

theorem mask_encLutFx {ps : List Part}
    (hsub : sub [.link, .flows, .hif, .corr, .sent, .host, .comps, .notes] ps = true) (f : BitVec 32) (c : Cmd)
    (d : Device) :
    blank ps (encLutFx f c d) = blank ps d := by
  refine mask_mono hsub ?_
  unfold encLutFx
  repeat' first
    | (simp (disch := decide) only [mask_corrChanged, mask_finishAt, mask_refuse, mask_setCorr, mask_ite, ite_self]; done)
    | split

theorem mask_wearSetFx {ps : List Part}
    (hsub : sub [.link, .flows, .hif, .corr, .spare, .cal, .sent, .host, .comps, .notes] ps = true) (c : Cmd)
    (d : Device) :
    blank ps (wearSetFx c d) = blank ps d := by
  refine mask_mono hsub ?_
  unfold wearSetFx
  repeat' first
    | rfl
    | (simp (disch := decide) only [mask_calAbort, mask_corrChanged, mask_finish, mask_refuse, mask_setCorr, mask_wearPass, blank_quiet, reclk_self, blank_when, mask_ite, ite_self]; done)
    | split

theorem mask_expoAdvance {ps : List Part} (hsub : sub [.regs] ps = true) (d : Device) :
    blank ps (expoAdvance d) = blank ps d := by
  refine mask_mono hsub ?_
  simp (disch := decide) only [expoAdvance, mask_dev_setWord]

theorem mask_expoReadFx {ps : List Part} (hsub : sub [.regs, .lastRead] ps = true) (d : Device) :
    blank ps (expoReadFx d) = blank ps d := by
  refine mask_mono hsub ?_
  simp (disch := decide) only [expoReadFx, mask_expoAdvance, blank_set_lastRead, mask_ite, ite_self]

theorem mask_expoWriteFx {ps : List Part} (hsub : sub [.corr, .regs] ps = true) (v : Nat) (d : Device) :
    blank ps (expoWriteFx v d) = blank ps d := by
  refine mask_mono hsub ?_
  unfold expoWriteFx
  repeat' first | rfl | split

theorem mask_calPoison {ps : List Part} (hsub : sub [.link, .flows, .hif, .corr, .sent, .host, .notes] ps = true)
    (w : Nat) (d : Device) :
    blank ps (calPoison w d) = blank ps d := by
  refine mask_mono hsub ?_
  simp (disch := decide) only [calPoison, mask_raise, mask_setCorr, blank_quiet, reclk_self, blank_when, mask_ite,
      ite_self]

theorem mask_calRepair {ps : List Part} (hsub : sub [.sched, .corr] ps = true) (w : Nat) (d : Device) :
    blank ps (calRepair w d) = blank ps d := by
  refine mask_mono hsub ?_
  simp (disch := decide) only [calRepair, mask_put, mask_setCorr, blank_quiet, reclk_self, blank_when, mask_ite,
      ite_self]

theorem mask_setOut {ps : List Part} (hsub : sub [.out] ps = true) (f : Output → Output) (d : Device) :
    blank ps (setOut f d) = blank ps d := by
  refine mask_mono hsub ?_
  simp (disch := decide) only [setOut, blank_set_out]

theorem mask_outputState {ps : List Part} (hsub : sub [.link, .flows, .hif, .sent, .host, .notes] ps = true)
    (running cause : Nat) (d : Device) :
    blank ps (outputState running cause d) = blank ps d := by
  refine mask_mono hsub ?_
  simp (disch := decide) only [outputState, mask_raise]

theorem mask_flushHeld {ps : List Part} (hsub : sub [.link, .flows, .hif, .out, .sent, .host, .notes] ps = true)
    (d : Device) :
    blank ps (flushHeld d) = blank ps d := by
  refine mask_mono hsub ?_
  simp (disch := decide) only [flushHeld, mask_raise, mask_setOut, mask_ite, ite_self]

theorem mask_heldNote {ps : List Part} (hsub : sub [.out, .regs] ps = true) (cause : Nat) (d : Device) :
    blank ps (heldNote cause d) = blank ps d := by
  refine mask_mono hsub ?_
  simp (disch := decide) only [heldNote, mask_dev_bump, mask_setOut, blank_quiet, reclk_self, blank_when, mask_ite,
      ite_self]

theorem mask_runInit {ps : List Part} (hsub : sub [.out] ps = true) (d : Device) :
    blank ps (runInit d) = blank ps d := by
  refine mask_mono hsub ?_
  simp (disch := decide) only [runInit, mask_setOut, blank_quiet, reclk_self, blank_when, mask_ite, ite_self]

theorem mask_outStart {ps : List Part} (hsub : sub [.link, .flows, .hif, .out, .sent, .host, .notes] ps = true)
    (f : BitVec 32) (cause : Nat) (d : Device) :
    blank ps (outStart f cause d) = blank ps d := by
  refine mask_mono hsub ?_
  unfold outStart
  try dsimp only
  repeat' first
    | rfl
    | (simp (disch := decide) only [mask_outputState, mask_runInit, mask_setOut, blank_quiet, reclk_self, blank_when, mask_ite, ite_self]; done)
    | split
    | simp (disch := decide) only [mask_outputState, mask_runInit, mask_setOut, blank_quiet, reclk_self, blank_when, mask_ite, ite_self]

theorem mask_outStop {ps : List Part} (hsub : sub [.link, .flows, .hif, .out, .sent, .host, .notes] ps = true)
    (cause : Nat) (d : Device) :
    blank ps (outStop cause d) = blank ps d := by
  refine mask_mono hsub ?_
  simp (disch := decide) only [outStop, mask_flushHeld, mask_outputState, mask_setOut, blank_quiet, reclk_self,
      blank_when, mask_ite, ite_self]

theorem mask_settleLoad {ps : List Part} (hsub : sub [.tim, .out] ps = true) (d : Device) :
    blank ps (settleLoad d) = blank ps d := by
  refine mask_mono hsub ?_
  have hp : ∀ (l : Load) (xs : List LoadPos) (z : Device × List LoadPos), blank [.tim, .out] (xs.foldl (fun (d, ps) p =>
      ((freeNext d).2, ps ++ [posNow d l (freeNext d).1 p])) z).1 = blank [.tim, .out] z.1 := by
    intro l xs
    induction xs with
    | nil => intro z; rfl
    | cons x xs ih => intro z; rw [List.foldl_cons, ih]; exact mask_freeNext (by decide) _
  unfold settleLoad
  split
  · dsimp only
    rw [mask_setOut (by decide)]
    exact hp _ _ _
  · rfl

theorem mask_pauseLoad {ps : List Part} (hsub : sub [.out] ps = true) (list : List Nat) (d : Device) :
    blank ps (pauseLoad list d) = blank ps d := by
  refine mask_mono hsub ?_
  simp (disch := decide) only [pauseLoad, mask_setOut, blank_quiet, reclk_self, blank_when, mask_ite, ite_self]

theorem mask_runSections {ps : List Part} (hsub : sub [.out] ps = true) (list : List Nat) (d : Device) :
    blank ps (runSections list d) = blank ps d := by
  refine mask_mono hsub ?_
  rfl

theorem mask_scanStart {ps : List Part} (hsub : sub [.out] ps = true) (f : BitVec 32) (d : Device) :
    blank ps (scanStart f d) = blank ps d := by
  refine mask_mono hsub ?_
  simp (disch := decide) only [scanStart, mask_setOut, blank_quiet, reclk_self, blank_when, mask_ite, ite_self]

theorem mask_lateSwap {ps : List Part} (hsub : sub [.link, .flows, .hif, .sent, .host, .notes] ps = true)
    (f : BitVec 32) (k : Nat) (d : Device) :
    blank ps (lateSwap f k d) = blank ps d := by
  refine mask_mono hsub ?_
  simp (disch := decide) only [lateSwap, mask_report]

theorem mask_loadBegin {ps : List Part} (hsub : sub [.tim, .link, .flows, .hif, .out, .sent, .host, .notes] ps = true)
    (f : BitVec 32) (d : Device) :
    blank ps (loadBegin f d) = blank ps d := by
  refine mask_mono hsub ?_
  unfold loadBegin
  try dsimp only
  repeat' first
    | rfl
    | (simp (disch := decide) only [mask_lateSwap, mask_setOut, mask_settleLoad, blank_quiet, reclk_self, blank_when, mask_ite, ite_self]; done)
    | split
    | simp (disch := decide) only [mask_lateSwap, mask_setOut, mask_settleLoad, blank_quiet, reclk_self, blank_when, mask_ite, ite_self]

theorem mask_loadReleased {ps : List Part} (hsub : sub [.out] ps = true) (f : BitVec 32) (inTime : Bool)
    (n : NodeRecord) (d : Device) :
    blank ps (loadReleased f inTime n d) = blank ps d := by
  refine mask_mono hsub ?_
  unfold loadReleased
  repeat' first | rfl | split

theorem mask_subStartFx {ps : List Part}
    (hsub : sub [.tim, .link, .flows, .hif, .out, .regs, .sent, .host, .notes] ps = true) (f : BitVec 32) (k : Nat)
    (d : Device) :
    blank ps (subStartFx f k d) = blank ps d := by
  refine mask_mono hsub ?_
  unfold subStartFx
  try dsimp only
  repeat' first
    | rfl
    | (simp (disch := decide) only [mask_flushHeld, mask_heldNote, mask_lateSwap, mask_runSections, mask_scanStart, mask_setOut, mask_settleLoad, blank_quiet, reclk_self, blank_when, mask_ite, ite_self]; done)
    | split
    | simp (disch := decide) only [mask_flushHeld, mask_heldNote, mask_lateSwap, mask_runSections, mask_scanStart, mask_setOut, mask_settleLoad, blank_quiet, reclk_self, blank_when, mask_ite, ite_self]

theorem mask_heldRepeatFx {ps : List Part} (hsub : sub [.tim, .out, .regs] ps = true) (d : Device) :
    blank ps (heldRepeatFx d) = blank ps d := by
  refine mask_mono hsub ?_
  unfold heldRepeatFx
  try dsimp only
  repeat' first
    | rfl
    | (simp (disch := decide) only [mask_heldNote, mask_runSections, mask_scanStart, mask_settleLoad, blank_quiet, reclk_self, blank_when, mask_ite, ite_self]; done)
    | split
    | simp (disch := decide) only [mask_heldNote, mask_runSections, mask_scanStart, mask_settleLoad, blank_quiet, reclk_self, blank_when, mask_ite, ite_self]

theorem mask_shutterOpenFx {ps : List Part} (hsub : sub [.clk, .sched] ps = true) (w : Nat) (d : Device) :
    blank ps (shutterOpenFx w d) = blank ps d := by
  refine mask_mono hsub ?_
  unfold shutterOpenFx
  try dsimp only
  repeat' first | rfl | split

theorem mask_shutterCloseFx {ps : List Part} (hsub : sub [.clk, .sched] ps = true) (w : Nat) (d : Device) :
    blank ps (shutterCloseFx w d) = blank ps d := by
  refine mask_mono hsub ?_
  unfold shutterCloseFx
  try dsimp only
  repeat' first | rfl | split

theorem mask_shutterEdgeFx {ps : List Part} (hsub : sub [.clk, .sched] ps = true) (w : Nat) (close : Bool)
    (d : Device) :
    blank ps (shutterEdgeFx w close d) = blank ps d := by
  refine mask_mono hsub ?_
  simp (disch := decide) only [shutterEdgeFx, mask_shutterCloseFx, mask_shutterOpenFx, mask_ite, ite_self]

theorem mask_outPut {ps : List Part} (hsub : sub [.out] ps = true) (f : BitVec 32) (x : OutConf) (d : Device) :
    blank ps (outPut f x d) = blank ps d := by
  refine mask_mono hsub ?_
  simp (disch := decide) only [outPut, mask_setOut]

theorem mask_layoutFx {ps : List Part} (hsub : sub [.tim, .link, .flows, .hif, .out, .sent, .host, .notes] ps = true)
    (f : BitVec 32) (d : Device) :
    blank ps (layoutFx f d) = blank ps d := by
  refine mask_mono hsub ?_
  unfold layoutFx
  try dsimp only
  repeat' first
    | rfl
    | (simp (disch := decide) only [mask_outputState, mask_runInit, mask_setOut, mask_settleLoad, blank_quiet, reclk_self, blank_when, mask_ite, ite_self]; done)
    | split
    | simp (disch := decide) only [mask_outputState, mask_runInit, mask_setOut, mask_settleLoad, blank_quiet, reclk_self, blank_when, mask_ite, ite_self]

theorem mask_outPutBy {ps : List Part} (hsub : sub [.out] ps = true) (op : Nat) (x : OutConf) (d : Device) :
    blank ps (outPutBy op x d) = blank ps d := by
  refine mask_mono hsub ?_
  simp (disch := decide) only [outPutBy, mask_outPut, mask_setOut, blank_quiet, reclk_self, blank_when, mask_ite,
      ite_self]

theorem mask_outTurn {ps : List Part} (hsub : sub [.link, .flows, .hif, .out, .sent, .host, .comps, .notes] ps = true)
    (why : Option Nat) (op : Nat) (c : Cmd) (d : Device) :
    blank ps (outTurn why op c d) = blank ps d := by
  refine mask_mono hsub ?_
  unfold outTurn
  try dsimp only
  repeat' first
    | rfl
    | (simp (disch := decide) only [mask_finish, mask_outPutBy, mask_refuse, blank_quiet, reclk_self, blank_when, mask_ite, ite_self]; done)
    | split
    | simp (disch := decide) only [mask_finish, mask_outPutBy, mask_refuse, blank_quiet, reclk_self, blank_when, mask_ite, ite_self]

theorem mask_outJudge {ps : List Part} (hsub : sub [.out] ps = true) (p : RP) (cs : List (Nat × Cmd)) (d : Device) :
    blank ps (outJudge p cs d) = blank ps d := by
  refine mask_mono hsub ?_
  simp (disch := decide) only [outJudge, mask_setOut, mask_ite, ite_self]

theorem mask_outCmdFx {ps : List Part}
    (hsub : sub [.tim, .link, .flows, .hif, .out, .sent, .host, .comps, .notes] ps = true) (op : Nat) (c : Cmd)
    (d : Device) :
    blank ps (outCmdFx op c d) = blank ps d := by
  refine mask_mono hsub ?_
  simp (disch := decide) only [outCmdFx, mask_layoutFx, mask_outTurn, mask_refuse, blank_when, mask_ite, ite_self]

theorem mask_outEnableFx {ps : List Part}
    (hsub : sub [.link, .flows, .hif, .out, .regs, .sent, .host, .comps, .notes] ps = true) (c : Cmd) (d : Device) :
    blank ps (outEnableFx c d) = blank ps d := by
  refine mask_mono hsub ?_
  simp (disch := decide) only [outEnableFx, mask_dev_setWord, mask_finish, mask_outStart, mask_outStop, mask_refuse,
      mask_setOut, mask_ite, ite_self]

theorem mask_outCtrlFx {ps : List Part} (hsub : sub [.out, .regs] ps = true) (v : Nat) (d : Device) :
    blank ps (outCtrlFx v d) = blank ps d := by
  refine mask_mono hsub ?_
  simp (disch := decide) only [outCtrlFx, mask_dev_setWord, mask_setOut, mask_ite, ite_self]

theorem mask_outBoundary {ps : List Part} (hsub : sub [.link, .flows, .hif, .out, .sent, .host, .notes] ps = true)
    (f : BitVec 32) (d : Device) :
    blank ps (outBoundary f d) = blank ps d := by
  refine mask_mono hsub ?_
  unfold outBoundary
  try dsimp only
  repeat' first
    | rfl
    | (simp (disch := decide) only [mask_outStart, mask_outStop, mask_setOut, blank_quiet, reclk_self, blank_when, mask_ite, ite_self]; done)
    | split
    | simp (disch := decide) only [mask_outStart, mask_outStop, mask_setOut, blank_quiet, reclk_self, blank_when, mask_ite, ite_self]

theorem mask_outCheck {ps : List Part} (hsub : sub [.link, .flows, .hif, .out, .sent, .host, .notes] ps = true)
    (d : Device) :
    blank ps (outCheck d) = blank ps d := by
  refine mask_mono hsub ?_
  unfold outCheck
  repeat' first | (simp (disch := decide) only [mask_outputState, mask_setOut]; done) | split

end Sys2Proof.Laws
end

