-- ==== Sys2Proof/Laws/PartsUpkeep.lean ====
section
/-! SUPPORT. Laws/PartsUpkeep.lean: which parts each operation of Spares, Redundancy, Compose, Ingest can change, and
no other: one lemma per operation. -/

namespace Sys2Proof.Laws

open Machine

theorem mask_setSpare {ps : List Part} (hsub : sub [.spare] ps = true) (f : Spares → Spares) (d : Device) :
    blank ps (setSpare f d) = blank ps d := by
  refine mask_mono hsub ?_
  simp (disch := decide) only [setSpare, blank_set_spare]

theorem mask_judgeHealth {ps : List Part} (hsub : sub [.link, .flows, .hif, .spare, .sent, .host, .notes] ps = true)
    (d : Device) :
    blank ps (judgeHealth d) = blank ps d := by
  refine mask_mono hsub ?_
  simp (disch := decide) only [judgeHealth, mask_report, mask_setSpare, blank_quiet, reclk_self, blank_when, mask_ite,
      ite_self]

theorem mask_predict {ps : List Part} (hsub : sub [.link, .flows, .hif, .spare, .sent, .host, .notes] ps = true)
    (d : Device) :
    blank ps (predict d) = blank ps d := by
  refine mask_mono hsub ?_
  simp (disch := decide) only [predict, mask_judgeHealth, mask_setSpare]

theorem mask_spareTaken {ps : List Part} (hsub : sub [.link, .flows, .hif, .spare, .sent, .host, .notes] ps = true)
    (kind unit : Nat) (d : Device) :
    blank ps (spareTaken kind unit d) = blank ps d := by
  refine mask_mono hsub ?_
  simp (disch := decide) only [spareTaken, mask_report, mask_setSpare, blank_quiet, reclk_self, blank_when, mask_ite,
      ite_self]

theorem mask_judged {ps : List Part} (hsub : sub [.link, .flows, .hif, .spare, .sent, .host, .notes] ps = true)
    (was d : Device) :
    blank ps (judged was d) = blank ps d := by
  refine mask_mono hsub ?_
  simp (disch := decide) only [judged, mask_judgeHealth, mask_predict, blank_quiet, reclk_self, blank_when, mask_ite,
      ite_self]

theorem mask_spareUsed {ps : List Part} (hsub : sub [.link, .flows, .hif, .spare, .sent, .host, .notes] ps = true)
    (kind unit : Nat) (d : Device) :
    blank ps (spareUsed kind unit d) = blank ps d := by
  refine mask_mono hsub ?_
  unfold spareUsed
  try dsimp only
  repeat' first
    | rfl
    | (simp (disch := decide) only [mask_predict, mask_spareTaken, blank_quiet, reclk_self, blank_when, mask_ite, ite_self]; done)
    | split
    | simp (disch := decide) only [mask_predict, mask_spareTaken, blank_quiet, reclk_self, blank_when, mask_ite, ite_self]

theorem mask_sliceDue {ps : List Part}
    (hsub : sub [.tim, .link, .ing, .flows, .hif, .spare, .sent, .host, .notes] ps = true) (lane : Nat) (d : Device) :
    blank ps (sliceDue lane d) = blank ps d := by
  refine mask_mono hsub ?_
  unfold sliceDue
  try dsimp only
  repeat' first
    | rfl
    | (simp (disch := decide) only [mask_portDownFx, mask_setSpare, mask_spareTaken, blank_quiet, reclk_self, blank_when, mask_ite, ite_self]; done)
    | split
    | simp (disch := decide) only [mask_portDownFx, mask_setSpare, mask_spareTaken, blank_quiet, reclk_self, blank_when, mask_ite, ite_self]

theorem mask_eyeSwapFx {ps : List Part}
    (hsub : sub [.tim, .link, .ing, .flows, .hif, .spare, .sent, .host, .notes] ps = true) (lane : Nat) (d : Device) :
    blank ps (eyeSwapFx lane d) = blank ps d := by
  refine mask_mono hsub ?_
  unfold eyeSwapFx
  try dsimp only
  repeat' first
    | rfl
    | (simp (disch := decide) only [mask_setSpare, mask_sliceDue, blank_quiet, reclk_self, blank_when, mask_ite, ite_self]; done)
    | split
    | simp (disch := decide) only [mask_setSpare, mask_sliceDue, blank_quiet, reclk_self, blank_when, mask_ite, ite_self]

theorem mask_deferredMade {ps : List Part}
    (hsub : sub [.tim, .link, .ing, .flows, .hif, .spare, .sent, .host, .notes] ps = true) (p : Nat) (d : Device) :
    blank ps (deferredMade p d) = blank ps d := by
  refine mask_mono hsub ?_
  unfold deferredMade
  try dsimp only
  repeat' first
    | rfl
    | (simp (disch := decide) only [mask_eyeSwapFx, blank_quiet, reclk_self, blank_when, mask_ite, ite_self]; done)
    | rw [mask_foldl]
    | intro d a
    | split
    | (rename_i hq; rw [snd_of_eq hq])
    | (rename_i hq _; rw [snd_of_eq hq])
    | simp (disch := decide) only [mask_eyeSwapFx, blank_quiet, reclk_self, blank_when, mask_ite, ite_self]
    | dsimp only

theorem mask_applyDeferred {ps : List Part}
    (hsub : sub [.tim, .link, .ing, .flows, .hif, .spare, .sent, .host, .notes] ps = true) (p : Nat) (d : Device) :
    blank ps (applyDeferred p d) = blank ps d := by
  refine mask_mono hsub ?_
  unfold applyDeferred
  try dsimp only
  repeat' first
    | rfl
    | (simp (disch := decide) only [mask_deferredMade, mask_judged, blank_quiet, reclk_self, blank_when, mask_ite, ite_self]; done)
    | split
    | simp (disch := decide) only [mask_deferredMade, mask_judged, blank_quiet, reclk_self, blank_when, mask_ite, ite_self]

theorem mask_ingestDown {ps : List Part}
    (hsub : sub [.tim, .link, .ing, .flows, .hif, .spare, .sent, .host, .notes] ps = true) (p cause : Nat)
    (d : Device) :
    blank ps (ingestDown p cause d) = blank ps d := by
  refine mask_mono hsub ?_
  simp (disch := decide) only [ingestDown, mask_applyDeferred, mask_portDownFx, blank_quiet, reclk_self, blank_when,
      mask_ite, ite_self]

theorem mask_takeSlice {ps : List Part}
    (hsub : sub [.tim, .link, .ing, .flows, .hif, .spare, .sent, .host, .notes] ps = true) (lane : Nat) (eye : Bool)
    (d : Device) :
    blank ps (takeSlice lane eye d) = blank ps d := by
  refine mask_mono hsub ?_
  unfold takeSlice
  try dsimp only
  repeat' first
    | rfl
    | (simp (disch := decide) only [mask_deferredMade, mask_eyeSwapFx, mask_judged, mask_sliceDue, blank_quiet, reclk_self, blank_when, mask_ite, ite_self]; done)
    | split
    | simp (disch := decide) only [mask_deferredMade, mask_eyeSwapFx, mask_judged, mask_sliceDue, blank_quiet, reclk_self, blank_when, mask_ite, ite_self]

theorem mask_retryDeferred {ps : List Part}
    (hsub : sub [.tim, .link, .ing, .flows, .hif, .spare, .sent, .host, .notes] ps = true) (d : Device) :
    blank ps (retryDeferred d) = blank ps d := by
  refine mask_mono hsub ?_
  unfold retryDeferred
  refine mask_foldl ?_ _ _
  intro d a
  repeat' first
    | rfl
    | (simp (disch := decide) only [mask_applyDeferred, blank_quiet, reclk_self, blank_when, mask_ite, ite_self]; done)
    | split

theorem mask_eyeSlice {ps : List Part}
    (hsub : sub [.tim, .link, .ing, .flows, .hif, .spare, .sent, .host, .notes] ps = true) (lane : Nat) (d : Device) :
    blank ps (eyeSlice lane d) = blank ps d := by
  refine mask_mono hsub ?_
  unfold eyeSlice
  try dsimp only
  repeat' first
    | rfl
    | (simp (disch := decide) only [mask_raise, mask_setSpare, mask_takeSlice, blank_quiet, reclk_self, blank_when, mask_ite, ite_self]; done)
    | split
    | simp (disch := decide) only [mask_raise, mask_setSpare, mask_takeSlice, blank_quiet, reclk_self, blank_when, mask_ite, ite_self]

theorem mask_returnSlice {ps : List Part} (hsub : sub [.link, .flows, .hif, .spare, .sent, .host, .notes] ps = true)
    (lane : Nat) (d : Device) :
    blank ps (returnSlice lane d) = blank ps d := by
  refine mask_mono hsub ?_
  unfold returnSlice
  repeat' first
    | rfl
    | (simp (disch := decide) only [mask_judgeHealth, mask_setSpare, blank_quiet, reclk_self, blank_when, mask_ite, ite_self]; done)
    | split

theorem mask_eyeFx {ps : List Part}
    (hsub : sub [.tim, .link, .ing, .flows, .hif, .spare, .sent, .host, .notes] ps = true) (lane width : Nat)
    (d : Device) :
    blank ps (eyeFx lane width d) = blank ps d := by
  refine mask_mono hsub ?_
  simp (disch := decide) only [eyeFx, mask_eyeSlice, mask_raise, mask_returnSlice, mask_setSpare, blank_quiet,
      reclk_self, blank_when, mask_ite, ite_self]

theorem mask_parityJudge {ps : List Part}
    (hsub : sub [.tim, .link, .ing, .flows, .hif, .spare, .sent, .host, .notes] ps = true) (q : Nat) (d : Device) :
    blank ps (parityJudge q d) = blank ps d := by
  refine mask_mono hsub ?_
  unfold parityJudge
  try dsimp only
  repeat' first
    | rfl
    | (simp (disch := decide) only [mask_setSpare, mask_takeSlice, blank_quiet, reclk_self, blank_when, mask_ite, ite_self]; done)
    | split
    | simp (disch := decide) only [mask_setSpare, mask_takeSlice, blank_quiet, reclk_self, blank_when, mask_ite, ite_self]

theorem mask_paritySubst {ps : List Part}
    (hsub : sub [.tim, .link, .ing, .flows, .hif, .spare, .sent, .host, .notes] ps = true) (d : Device) :
    blank ps (paritySubst d) = blank ps d := by
  refine mask_mono hsub ?_
  unfold paritySubst
  refine mask_foldl ?_ _ _
  intro d a
  repeat' first
    | rfl
    | (simp (disch := decide) only [mask_parityJudge, blank_quiet, reclk_self, blank_when, mask_ite, ite_self]; done)
    | split

theorem mask_takeSegment {ps : List Part} (hsub : sub [.link, .flows, .hif, .spare, .sent, .host, .notes] ps = true)
    (lane : Nat) (d : Device) :
    blank ps (takeSegment lane d) = blank ps d := by
  refine mask_mono hsub ?_
  unfold takeSegment
  try dsimp only
  repeat' first
    | rfl
    | (simp (disch := decide) only [mask_spareTaken, blank_quiet, reclk_self, blank_when, mask_ite, ite_self]; done)
    | split
    | simp (disch := decide) only [mask_spareTaken, blank_quiet, reclk_self, blank_when, mask_ite, ite_self]

theorem mask_predictionFx {ps : List Part} (hsub : sub [.link, .flows, .hif, .spare, .sent, .host, .notes] ps = true)
    (d : Device) :
    blank ps (predictionFx d) = blank ps d := by
  refine mask_mono hsub ?_
  simp (disch := decide) only [predictionFx, mask_predict, mask_setSpare, blank_quiet, reclk_self, blank_when,
      mask_ite, ite_self]

theorem mask_coreTestFx {ps : List Part} (hsub : sub [.link, .flows, .hif, .spare, .sent, .host, .notes] ps = true)
    (c : Nat) (pass : Bool) (d : Device) :
    blank ps (coreTestFx c pass d) = blank ps d := by
  refine mask_mono hsub ?_
  simp (disch := decide) only [coreTestFx, mask_judgeHealth, mask_setSpare, mask_spareUsed, blank_quiet, reclk_self,
      blank_when, mask_ite, ite_self]

theorem mask_lateServo {ps : List Part} (hsub : sub [.tim] ps = true) (due : RP) (d : Device) :
    blank ps (lateServo due d) = blank ps d := by
  refine mask_mono hsub ?_
  unfold lateServo
  repeat' first
    | rfl
    | (simp (disch := decide) only [mask_setTime, blank_quiet, reclk_self, blank_when, mask_ite, ite_self]; done)
    | split

theorem mask_lateCard {ps : List Part} (hsub : sub [.tim, .link, .topo, .hif] ps = true) (due : RP) (d : Device) :
    blank ps (lateCard due d) = blank ps d := by
  refine mask_mono hsub ?_
  unfold lateCard
  repeat' first
    | rfl
    | (simp (disch := decide) only [mask_setTime, blank_set_link, blank_set_topo, blank_set_hif, blank_quiet, reclk_self, blank_when, mask_ite, ite_self]; done)
    | split

theorem mask_fwLateFx {ps : List Part}
    (hsub : sub [.tim, .link, .topo, .flows, .hif, .spare, .sent, .host, .notes] ps = true) (role lateUs : Nat)
    (due : RP) (d : Device) :
    blank ps (fwLateFx role lateUs due d) = blank ps d := by
  refine mask_mono hsub ?_
  unfold fwLateFx
  try dsimp only
  repeat' first
    | rfl
    | (simp (disch := decide) only [mask_lateCard, mask_lateServo, mask_raise, mask_setSpare, blank_quiet, reclk_self, blank_when, mask_ite, ite_self]; done)
    | split
    | simp (disch := decide) only [mask_lateCard, mask_lateServo, mask_raise, mask_setSpare, blank_quiet, reclk_self, blank_when, mask_ite, ite_self]

theorem mask_copy24Fx {ps : List Part} (hsub : sub [.link, .flows, .hif, .spare, .sent, .host, .notes] ps = true)
    (c : Nat) (d : Device) :
    blank ps (copy24Fx c d) = blank ps d := by
  refine mask_mono hsub ?_
  simp (disch := decide) only [copy24Fx, mask_setSpare, mask_spareUsed, mask_ite, ite_self]

theorem mask_takeBank {ps : List Part} (hsub : sub [.link, .flows, .hif, .spare, .sent, .host, .notes] ps = true)
    (bank : Nat) (d : Device) :
    blank ps (takeBank bank d) = blank ps d := by
  refine mask_mono hsub ?_
  simp (disch := decide) only [takeBank, mask_setSpare, mask_spareUsed, blank_quiet, reclk_self, blank_when, mask_ite,
      ite_self]

theorem mask_calErrorFx {ps : List Part}
    (hsub : sub [.link, .flows, .hif, .corr, .spare, .cal, .sent, .host, .notes] ps = true) (e : CalError)
    (d : Device) :
    blank ps (calErrorFx e d) = blank ps d := by
  refine mask_mono hsub ?_
  unfold calErrorFx
  try dsimp only
  repeat' first
    | rfl
    | (simp (disch := decide) only [mask_calPoison, mask_setSpare, mask_takeBank, blank_set_cal, blank_quiet, reclk_self, blank_when, mask_ite, ite_self]; done)
    | split
    | simp (disch := decide) only [mask_calPoison, mask_setSpare, mask_takeBank, blank_set_cal, blank_quiet, reclk_self, blank_when, mask_ite, ite_self]

theorem mask_calRepairFx {ps : List Part} (hsub : sub [.sched, .corr, .spare] ps = true) (d : Device) :
    blank ps (calRepairFx d) = blank ps d := by
  refine mask_mono hsub ?_
  unfold calRepairFx
  refine mask_foldl ?_ _ _
  intro d a
  repeat' first
    | rfl
    | (simp (disch := decide) only [mask_calRepair, mask_setSpare, blank_quiet, reclk_self, blank_when, mask_ite, ite_self]; done)
    | split

theorem mask_fsSubstitute {ps : List Part} (hsub : sub [.pxl, .spare] ps = true) (bank : Nat) (row : Option Nat)
    (moves : Buffer → Bool) (d : Device) :
    blank ps (fsSubstitute bank row moves d) = blank ps d := by
  refine mask_mono hsub ?_
  simp (disch := decide) only [fsSubstitute, mask_setPxl, mask_setSpare]

theorem mask_fsBank {ps : List Part} (hsub : sub [.link, .flows, .hif, .pxl, .spare, .sent, .host, .notes] ps = true)
    (bank : Nat) (d : Device) :
    blank ps (fsBank bank d) = blank ps d := by
  refine mask_mono hsub ?_
  simp (disch := decide) only [fsBank, mask_fsSubstitute, mask_setSpare, mask_spareUsed, blank_quiet, reclk_self,
      blank_when, mask_ite, ite_self]

theorem mask_fsRow {ps : List Part} (hsub : sub [.link, .flows, .hif, .pxl, .spare, .sent, .host, .notes] ps = true)
    (e : StoreError) (d : Device) :
    blank ps (fsRow e d) = blank ps d := by
  refine mask_mono hsub ?_
  simp (disch := decide) only [fsRow, mask_fsBank, mask_fsSubstitute, mask_setSpare, blank_quiet, reclk_self,
      blank_when, mask_ite, ite_self]

theorem mask_fsError {ps : List Part} (hsub : sub [.link, .flows, .hif, .pxl, .spare, .sent, .host, .notes] ps = true)
    (e : StoreError) (d : Device) :
    blank ps (fsError e d) = blank ps d := by
  refine mask_mono hsub ?_
  simp (disch := decide) only [fsError, mask_fsBank, mask_fsRow, mask_setSpare, blank_quiet, reclk_self, blank_when,
      mask_ite, ite_self]

theorem mask_healthQueryFx {ps : List Part} (hsub : sub [.link, .flows, .hif, .sent, .host, .comps, .notes] ps = true)
    (c : Cmd) (d : Device) :
    blank ps (healthQueryFx c d) = blank ps d := by
  refine mask_mono hsub ?_
  simp (disch := decide) only [healthQueryFx, mask_finish, blank_quiet, reclk_self, blank_when, mask_ite, ite_self]

theorem mask_spareApplyFx {ps : List Part}
    (hsub : sub [.tim, .link, .ing, .flows, .hif, .spare, .sent, .host, .comps, .notes] ps = true) (c : Cmd)
    (d : Device) :
    blank ps (spareApplyFx c d) = blank ps d := by
  refine mask_mono hsub ?_
  simp (disch := decide) only [spareApplyFx, mask_applyDeferred, mask_finish, mask_refuse, blank_quiet, reclk_self,
      blank_when, mask_ite, ite_self]

theorem mask_setRed {ps : List Part} (hsub : sub [.red] ps = true) (f : Redund → Redund) (d : Device) :
    blank ps (setRed f d) = blank ps d := by
  refine mask_mono hsub ?_
  simp (disch := decide) only [setRed, blank_set_red]

theorem mask_setEngine {ps : List Part} (hsub : sub [.red] ps = true) (e : Nat) (s : EngState) (d : Device) :
    blank ps (setEngine e s d) = blank ps d := by
  refine mask_mono hsub ?_
  simp (disch := decide) only [setEngine, mask_setRed]

theorem mask_engineFailedNotice {ps : List Part} (hsub : sub [.link, .flows, .hif, .sent, .host, .notes] ps = true)
    (e unitKind : Nat) (d : Device) :
    blank ps (engineFailedNotice e unitKind d) = blank ps d := by
  refine mask_mono hsub ?_
  simp (disch := decide) only [engineFailedNotice, mask_raise]

theorem mask_engineGone {ps : List Part}
    (hsub : sub [.link, .flows, .hif, .red, .spare, .sent, .host, .notes] ps = true) (e unitKind : Nat) (d : Device) :
    blank ps (engineGone e unitKind d) = blank ps d := by
  refine mask_mono hsub ?_
  unfold engineGone
  try dsimp only
  repeat' first
    | rfl
    | (simp (disch := decide) only [mask_engineFailedNotice, mask_setEngine, mask_spareTaken, blank_quiet, reclk_self, blank_when, mask_ite, ite_self]; done)
    | split
    | simp (disch := decide) only [mask_engineFailedNotice, mask_setEngine, mask_spareTaken, blank_quiet, reclk_self, blank_when, mask_ite, ite_self]

theorem mask_failEngine {ps : List Part}
    (hsub : sub [.link, .flows, .hif, .red, .spare, .sent, .host, .notes] ps = true) (e unitKind : Nat) (d : Device) :
    blank ps (failEngine e unitKind d) = blank ps d := by
  refine mask_mono hsub ?_
  unfold failEngine
  try dsimp only
  repeat' first
    | rfl
    | (simp (disch := decide) only [mask_engineGone, mask_judged, blank_quiet, reclk_self, blank_when, mask_ite, ite_self]; done)
    | split
    | simp (disch := decide) only [mask_engineGone, mask_judged, blank_quiet, reclk_self, blank_when, mask_ite, ite_self]

theorem mask_mismatchFx {ps : List Part} (hsub : sub [.red, .spare] ps = true) (m : Mismatch) (d : Device) :
    blank ps (mismatchFx m d) = blank ps d := by
  refine mask_mono hsub ?_
  simp (disch := decide) only [mismatchFx, mask_parityCount, mask_setRed, blank_when, mask_ite, ite_self]

theorem mask_voidItem {ps : List Part} (hsub : sub [.pxl] ps = true) (a : Arb) (d : Device) :
    blank ps (voidItem a d) = blank ps d := by
  refine mask_mono hsub ?_
  simp (disch := decide) only [voidItem, mask_setPxl, blank_quiet, reclk_self, blank_when, mask_ite, ite_self]

theorem mask_unresolvedNotice {ps : List Part}
    (hsub : sub [.link, .flows, .hif, .red, .sent, .host, .notes] ps = true) (a : Arb) (d : Device) :
    blank ps (unresolvedNotice a d) = blank ps d := by
  refine mask_mono hsub ?_
  simp (disch := decide) only [unresolvedNotice, mask_raise, mask_setRed, blank_quiet, reclk_self, blank_when,
      mask_ite, ite_self]

theorem mask_switchover {ps : List Part}
    (hsub : sub [.link, .flows, .hif, .red, .spare, .regs, .sent, .host, .notes] ps = true) (a : Arb) (e k : Nat)
    (d : Device) :
    blank ps (switchover a e k d) = blank ps d := by
  refine mask_mono hsub ?_
  simp (disch := decide) only [switchover, mask_dev_bump, mask_judgeHealth, mask_raise, mask_setEngine, mask_setRed]

theorem mask_testDone {ps : List Part}
    (hsub : sub [.tim, .link, .flows, .hif, .sent, .host, .comps, .notes] ps = true) (a : Arb) (left : Option Nat)
    (d : Device) :
    blank ps (testDone a left d) = blank ps d := by
  refine mask_mono hsub ?_
  unfold testDone
  repeat' first
    | rfl
    | (simp (disch := decide) only [mask_finish, mask_freeNext, blank_quiet, reclk_self, blank_when, mask_ite, ite_self]; done)
    | split

theorem mask_arbFx {ps : List Part}
    (hsub : sub [.tim, .link, .flows, .hif, .pxl, .red, .spare, .regs, .sent, .host, .comps, .notes] ps = true)
    (loser : Option (Fin 3)) (d : Device) :
    blank ps (arbFx loser d) = blank ps d := by
  refine mask_mono hsub ?_
  unfold arbFx
  repeat' first
    | rfl
    | (simp (disch := decide) only [mask_setRed, mask_switchover, mask_testDone, mask_unresolvedNotice, mask_voidItem, blank_quiet, reclk_self, blank_when, mask_ite, ite_self]; done)
    | split

theorem mask_unitTestFx {ps : List Part}
    (hsub : sub [.tim, .link, .flows, .hif, .red, .spare, .sent, .host, .comps, .notes] ps = true) (pass : List Bool)
    (unitKind : Nat) (d : Device) :
    blank ps (unitTestFx pass unitKind d) = blank ps d := by
  refine mask_mono hsub ?_
  unfold unitTestFx
  try dsimp only
  repeat' first
    | rfl
    | (simp (disch := decide) only [mask_engineGone, mask_judged, mask_setRed, mask_testDone, mask_unresolvedNotice, blank_quiet, reclk_self, blank_when, mask_ite, ite_self]; done)
    | rw [mask_foldl]
    | intro d a
    | split
    | (rename_i hq; rw [snd_of_eq hq])
    | (rename_i hq _; rw [snd_of_eq hq])
    | simp (disch := decide) only [mask_engineGone, mask_judged, mask_setRed, mask_testDone, mask_unresolvedNotice, blank_quiet, reclk_self, blank_when, mask_ite, ite_self]
    | dsimp only

theorem mask_passRound {ps : List Part}
    (hsub : sub [.tim, .link, .flows, .hif, .red, .spare, .sent, .host, .notes] ps = true) (e : Nat) (d : Device) :
    blank ps (passRound e d) = blank ps d := by
  refine mask_mono hsub ?_
  simp (disch := decide) only [passRound, mask_failEngine, mask_freeNext, mask_raise, mask_setEngine, mask_setRed,
      mask_ite, ite_self]

theorem mask_roundFx {ps : List Part}
    (hsub : sub [.tim, .link, .flows, .hif, .red, .spare, .regs, .sent, .host, .notes] ps = true) (e : Nat)
    (how : RoundEnd) (d : Device) :
    blank ps (roundFx e how d) = blank ps d := by
  refine mask_mono hsub ?_
  unfold roundFx
  repeat' first | (simp (disch := decide) only [mask_dev_bump, mask_failEngine, mask_passRound]; done) | split

theorem mask_holdBegin {ps : List Part} (hsub : sub [.tim, .out, .red, .regs] ps = true) (cause : Nat) (d : Device) :
    blank ps (holdBegin cause d) = blank ps d := by
  refine mask_mono hsub ?_
  simp (disch := decide) only [holdBegin, mask_heldNote, mask_setRed, mask_settleLoad, blank_quiet, reclk_self,
      blank_when, mask_ite, ite_self]

theorem mask_retireCopy {ps : List Part}
    (hsub : sub [.link, .flows, .hif, .red, .spare, .sent, .host, .notes] ps = true) (c : Nat) (d : Device) :
    blank ps (retireCopy c d) = blank ps d := by
  refine mask_mono hsub ?_
  unfold retireCopy
  try dsimp only
  repeat' first
    | rfl
    | (simp (disch := decide) only [mask_setRed, mask_spareTaken, blank_quiet, reclk_self, blank_when, mask_ite, ite_self]; done)
    | split
    | simp (disch := decide) only [mask_setRed, mask_spareTaken, blank_quiet, reclk_self, blank_when, mask_ite, ite_self]

theorem mask_copyMismatchFx {ps : List Part}
    (hsub : sub [.tim, .link, .flows, .hif, .out, .red, .spare, .regs, .sent, .host, .notes] ps = true) (p0 p1 : Bool)
    (d : Device) :
    blank ps (copyMismatchFx p0 p1 d) = blank ps d := by
  refine mask_mono hsub ?_
  unfold copyMismatchFx
  try dsimp only
  repeat' first
    | rfl
    | (simp (disch := decide) only [mask_engineFailedNotice, mask_freeNext, mask_holdBegin, mask_judged, mask_outStop, mask_retireCopy, mask_setRed, blank_quiet, reclk_self, blank_when, mask_ite, ite_self]; done)
    | split
    | simp (disch := decide) only [mask_engineFailedNotice, mask_freeNext, mask_holdBegin, mask_judged, mask_outStop, mask_retireCopy, mask_setRed, blank_quiet, reclk_self, blank_when, mask_ite, ite_self]

theorem mask_darkGapCheck {ps : List Part}
    (hsub : sub [.tim, .link, .flows, .hif, .red, .spare, .sent, .host, .notes] ps = true) (d : Device) :
    blank ps (darkGapCheck d) = blank ps d := by
  refine mask_mono hsub ?_
  unfold darkGapCheck
  try dsimp only
  repeat' first
    | rfl
    | done
    | (simp (disch := decide) only [mask_freeNext, mask_judgeHealth, mask_setRed, mask_setSpare, blank_quiet, reclk_self, blank_when, mask_ite, ite_self]; done)
    | rw [mask_foldl (by intro d a; repeat' first | rfl | (simp (disch := decide) only [mask_freeNext, mask_judgeHealth, mask_setRed, mask_setSpare, blank_quiet, reclk_self, blank_when, mask_ite, ite_self]; done) | split)]
    | split
    | simp (disch := decide) only [mask_freeNext, mask_judgeHealth, mask_setRed, mask_setSpare, blank_quiet, reclk_self, blank_when, mask_ite, ite_self]

theorem mask_pllFaultFx {ps : List Part}
    (hsub : sub [.tim, .link, .flows, .hif, .out, .red, .spare, .regs, .sent, .host, .notes] ps = true) (f : Nat)
    (d : Device) :
    blank ps (pllFaultFx f d) = blank ps d := by
  refine mask_mono hsub ?_
  simp (disch := decide) only [pllFaultFx, mask_holdBegin, mask_raise, mask_setRed, mask_spareUsed, blank_quiet,
      reclk_self, blank_when, mask_ite, ite_self]

theorem mask_pllTested {ps : List Part}
    (hsub : sub [.link, .flows, .hif, .red, .spare, .sent, .host, .notes] ps = true) (f : Nat) (pass : Bool)
    (d : Device) :
    blank ps (pllTested f pass d) = blank ps d := by
  refine mask_mono hsub ?_
  unfold pllTested
  try dsimp only
  repeat' first
    | rfl
    | (simp (disch := decide) only [mask_setRed, mask_spareTaken, blank_quiet, reclk_self, blank_when, mask_ite, ite_self]; done)
    | split
    | simp (disch := decide) only [mask_setRed, mask_spareTaken, blank_quiet, reclk_self, blank_when, mask_ite, ite_self]

theorem mask_pllRetestFx {ps : List Part}
    (hsub : sub [.link, .flows, .hif, .red, .spare, .sent, .host, .notes] ps = true) (f : Nat) (pass : Bool)
    (d : Device) :
    blank ps (pllRetestFx f pass d) = blank ps d := by
  refine mask_mono hsub ?_
  unfold pllRetestFx
  try dsimp only
  repeat' first
    | rfl
    | (simp (disch := decide) only [mask_judged, mask_pllTested, blank_quiet, reclk_self, blank_when, mask_ite, ite_self]; done)
    | split
    | simp (disch := decide) only [mask_judged, mask_pllTested, blank_quiet, reclk_self, blank_when, mask_ite, ite_self]

theorem mask_seqResume {ps : List Part} (hsub : sub [.out] ps = true) (onset : RP) (gap : Int) (d : Device) :
    blank ps (seqResume onset gap d) = blank ps d := by
  refine mask_mono hsub ?_
  simp (disch := decide) only [seqResume, mask_setOut, blank_quiet, reclk_self, blank_when, mask_ite, ite_self]

theorem mask_holdResumeFx {ps : List Part}
    (hsub : sub [.tim, .link, .flows, .hif, .out, .red, .sent, .host, .notes] ps = true) (gapNs : Nat) (d : Device) :
    blank ps (holdResumeFx gapNs d) = blank ps d := by
  refine mask_mono hsub ?_
  unfold holdResumeFx
  try dsimp only
  repeat' first
    | rfl
    | (simp (disch := decide) only [mask_raise, mask_seqResume, mask_setRed, mask_settleLoad, blank_quiet, reclk_self, blank_when, mask_ite, ite_self]; done)
    | split
    | simp (disch := decide) only [mask_raise, mask_seqResume, mask_setRed, mask_settleLoad, blank_quiet, reclk_self, blank_when, mask_ite, ite_self]

theorem mask_setFeed {ps : List Part} (hsub : sub [.red] ps = true) (f : Nat) (g : Feed → Feed) (d : Device) :
    blank ps (setFeed f g d) = blank ps d := by
  refine mask_mono hsub ?_
  simp (disch := decide) only [setFeed, mask_setRed]

theorem mask_settleShare {ps : List Part} (hsub : sub [.red] ps = true) (d : Device) :
    blank ps (settleShare d) = blank ps d := by
  refine mask_mono hsub ?_
  simp (disch := decide) only [settleShare, mask_setRed, blank_quiet, reclk_self, blank_when, mask_ite, ite_self]

theorem mask_skipProbes {ps : List Part} (hsub : sub [.link, .flows, .hif, .red, .sent, .host, .comps] ps = true)
    (d : Device) :
    blank ps (skipProbes d) = blank ps d := by
  refine mask_mono hsub ?_
  unfold skipProbes
  refine mask_foldl ?_ _ _
  intro d a
  repeat' first
    | rfl
    | (simp (disch := decide) only [mask_refuse, mask_setRed, blank_quiet, reclk_self, blank_when, mask_ite, ite_self]; done)
    | split

theorem mask_feedLostFx {ps : List Part}
    (hsub : sub [.link, .flows, .hif, .red, .sent, .host, .comps, .notes] ps = true) (f : Nat) (reverse : Bool)
    (mv : Nat) (d : Device) :
    blank ps (feedLostFx f reverse mv d) = blank ps d := by
  refine mask_mono hsub ?_
  simp (disch := decide) only [feedLostFx, mask_report, mask_setFeed, mask_settleShare, mask_skipProbes, mask_ite,
      ite_self]

theorem mask_feedRestoredFx {ps : List Part} (hsub : sub [.link, .flows, .hif, .red, .sent, .host, .notes] ps = true)
    (f mv : Nat) (d : Device) :
    blank ps (feedRestoredFx f mv d) = blank ps d := by
  refine mask_mono hsub ?_
  simp (disch := decide) only [feedRestoredFx, mask_raise, mask_setFeed, mask_settleShare, mask_ite, ite_self]

theorem mask_pathFault {ps : List Part}
    (hsub : sub [.link, .flows, .hif, .red, .spare, .sent, .host, .notes] ps = true) (f share : Nat) (d : Device) :
    blank ps (pathFault f share d) = blank ps d := by
  refine mask_mono hsub ?_
  simp (disch := decide) only [pathFault, mask_judgeHealth, mask_raise, mask_setFeed, mask_ite, ite_self]

theorem mask_feedProbeFx {ps : List Part}
    (hsub : sub [.link, .flows, .hif, .red, .spare, .sent, .host, .comps, .notes] ps = true) (a b : Nat)
    (lowCurrent : Bool) (d : Device) :
    blank ps (feedProbeFx a b lowCurrent d) = blank ps d := by
  refine mask_mono hsub ?_
  unfold feedProbeFx
  try dsimp only
  repeat' first
    | rfl
    | done
    | (simp (disch := decide) only [mask_finish, mask_pathFault, mask_setFeed, mask_setRed, mask_skipProbes, blank_quiet, reclk_self, blank_when, mask_ite, ite_self]; done)
    | rw [mask_foldl (by intro d a; repeat' first | rfl | (simp (disch := decide) only [mask_finish, mask_pathFault, mask_setFeed, mask_setRed, mask_skipProbes, blank_quiet, reclk_self, blank_when, mask_ite, ite_self]; done) | split)]
    | split
    | simp (disch := decide) only [mask_finish, mask_pathFault, mask_setFeed, mask_setRed, mask_skipProbes, blank_quiet, reclk_self, blank_when, mask_ite, ite_self]

theorem mask_shareLimitFx {ps : List Part} (hsub : sub [.link, .flows, .hif, .red, .sent, .host, .notes] ps = true)
    (share : Nat) (diffMv : Int) (d : Device) :
    blank ps (shareLimitFx share diffMv d) = blank ps d := by
  refine mask_mono hsub ?_
  simp (disch := decide) only [shareLimitFx, mask_raise, mask_setRed, mask_settleShare, blank_quiet, reclk_self,
      blank_when, mask_ite, ite_self]

theorem mask_redundancyQueryFx {ps : List Part}
    (hsub : sub [.link, .flows, .hif, .sent, .host, .comps, .notes] ps = true) (c : Cmd) (d : Device) :
    blank ps (redundancyQueryFx c d) = blank ps d := by
  refine mask_mono hsub ?_
  simp (disch := decide) only [redundancyQueryFx, mask_finish]

theorem mask_redundancyTestFx {ps : List Part}
    (hsub : sub [.link, .flows, .hif, .red, .sent, .host, .comps] ps = true) (c : Cmd) (d : Device) :
    blank ps (redundancyTestFx c d) = blank ps d := by
  refine mask_mono hsub ?_
  simp (disch := decide) only [redundancyTestFx, mask_refuse, mask_setRed, blank_quiet, reclk_self, blank_when,
      mask_ite, ite_self]

theorem mask_lineBuf {ps : List Part} (hsub : sub [.link, .flows, .hif, .pxl, .sent, .host, .notes] ps = true)
    (n : NodeRecord) (c : BitVec 32) (d : Device) :
    blank ps (lineBuf n c d) = blank ps d := by
  refine mask_mono hsub ?_
  unfold lineBuf
  refine mask_foldl ?_ _ _
  intro d a
  repeat' (simp (disch := decide) only [mask_raise, mask_setPxl, blank_when, mask_ite, ite_self]; done)

theorem mask_lateNote {ps : List Part}
    (hsub : sub [.sched, .link, .flows, .hif, .pxl, .regs, .sent, .host, .comps, .notes] ps = true) (g : Graph)
    (d : Device) :
    blank ps (lateNote g d) = blank ps d := by
  refine mask_mono hsub ?_
  unfold lateNote
  try dsimp only
  repeat' first
    | rfl
    | done
    | (simp (disch := decide) only [mask_dev_bump, mask_late, mask_report, mask_setPxl, blank_quiet, reclk_self, blank_when, mask_ite, ite_self]; done)
    | rw [mask_foldl (by intro d a; repeat' first | rfl | (simp (disch := decide) only [mask_dev_bump, mask_late, mask_report, mask_setPxl, blank_quiet, reclk_self, blank_when, mask_ite, ite_self]; done) | split)]
    | split
    | simp (disch := decide) only [mask_dev_bump, mask_late, mask_report, mask_setPxl, blank_quiet, reclk_self, blank_when, mask_ite, ite_self]

theorem mask_freeUnsourced {ps : List Part} (hsub : sub [.pxl] ps = true) (n : NodeRecord) (d : Device) :
    blank ps (freeUnsourced n d) = blank ps d := by
  refine mask_mono hsub ?_
  simp (disch := decide) only [freeUnsourced, mask_setPxl, blank_quiet, reclk_self, blank_when, mask_ite, ite_self]

theorem mask_buildGraph {ps : List Part}
    (hsub : sub [.sched, .link, .flows, .hif, .pxl, .regs, .sent, .host, .comps, .notes] ps = true) (f : BitVec 32)
    (d : Device) :
    blank ps (buildGraph f d) = blank ps d := by
  refine mask_mono hsub ?_
  simp (disch := decide) only [buildGraph, mask_freeUnsourced, mask_lateNote, mask_lineBuf, mask_setPxl, blank_quiet,
      reclk_self, blank_when, mask_ite, ite_self]

theorem mask_releaseTo {ps : List Part} (hsub : sub [.pxl, .regs] ps = true) (n : Nat) (d : Device) :
    blank ps (releaseTo n d) = blank ps d := by
  refine mask_mono hsub ?_
  unfold releaseTo
  repeat' first
    | rfl
    | (simp (disch := decide) only [mask_dev_bump, mask_setPxl, blank_quiet, reclk_self, blank_when, mask_ite, ite_self]; done)
    | split

theorem mask_queuesHeld {ps : List Part} (hsub : sub [.pxl] ps = true) (d : Device) :
    blank ps (queuesHeld d) = blank ps d := by
  refine mask_mono hsub ?_
  unfold queuesHeld
  repeat' first
    | rfl
    | (simp (disch := decide) only [mask_setPxl, blank_quiet, reclk_self, blank_when, mask_ite, ite_self]; done)
    | split

theorem mask_sendProof {ps : List Part} (hsub : sub [.link, .flows, .proofIn, .sent] ps = true) (g : Graph)
    (d : Device) :
    blank ps (sendProof g d) = blank ps d := by
  refine mask_mono hsub ?_
  unfold sendProof
  repeat' first
    | rw [mask_foldl (by intro d a; repeat' (simp (disch := decide) only [mask_nodeSend, blank_set_proofIn, mask_ite, ite_self]; done))]
    | simp (disch := decide) only [mask_ite, ite_self]

theorem mask_expose {ps : List Part} (hsub : sub [.corr] ps = true) (n : NodeRecord) (e : BitVec 32 × NatMap Nat)
    (d : Device) :
    blank ps (expose n e d) = blank ps d := by
  refine mask_mono hsub ?_
  simp (disch := decide) only [expose, mask_setCorr]

theorem mask_expoFrame {ps : List Part}
    (hsub : sub [.tim, .link, .flows, .hif, .pxl, .corr, .sent, .host, .notes] ps = true) (f : BitVec 32)
    (d : Device) :
    blank ps (expoFrame f d) = blank ps d := by
  refine mask_mono hsub ?_
  unfold expoFrame
  try dsimp only
  repeat' first
    | rfl
    | done
    | (simp (disch := decide) only [mask_expose, mask_freeNext, mask_raise, mask_setPxl, blank_quiet, reclk_self, blank_when, mask_ite, ite_self]; done)
    | rw [mask_foldl (by intro d a; repeat' first | rfl | (simp (disch := decide) only [mask_expose, mask_freeNext, mask_raise, mask_setPxl, blank_quiet, reclk_self, blank_when, mask_ite, ite_self]; done) | split)]
    | split
    | simp (disch := decide) only [mask_expose, mask_freeNext, mask_raise, mask_setPxl, blank_quiet, reclk_self, blank_when, mask_ite, ite_self]

theorem mask_expoBoundary {ps : List Part}
    (hsub : sub [.tim, .link, .flows, .hif, .pxl, .corr, .sent, .host, .notes] ps = true) (f : BitVec 32)
    (d : Device) :
    blank ps (expoBoundary f d) = blank ps d := by
  refine mask_mono hsub ?_
  unfold expoBoundary
  try dsimp only
  repeat' first
    | rfl
    | (simp (disch := decide) only [mask_expoFrame, blank_quiet, reclk_self, blank_when, mask_ite, ite_self]; done)
    | split
    | simp (disch := decide) only [mask_expoFrame, blank_quiet, reclk_self, blank_when, mask_ite, ite_self]

theorem mask_poisonNote {ps : List Part} (hsub : sub [.link, .flows, .hif, .sent, .host, .notes] ps = true)
    (g : Graph) (d : Device) :
    blank ps (poisonNote g d) = blank ps d := by
  refine mask_mono hsub ?_
  unfold poisonNote
  repeat' first | (simp (disch := decide) only [mask_raise]; done) | split

theorem mask_shareNote {ps : List Part} (hsub : sub [.link, .flows, .hif, .pxl, .sent, .host, .notes] ps = true)
    (share : Nat) (d : Device) :
    blank ps (shareNote share d) = blank ps d := by
  refine mask_mono hsub ?_
  simp (disch := decide) only [shareNote, mask_sampleLoad, mask_setPxl]

theorem mask_passBuffers {ps : List Part} (hsub : sub [.flows, .pxl] ps = true) (g : Graph) (c : BitVec 32)
    (d : Device) :
    blank ps (passBuffers g c d) = blank ps d := by
  refine mask_mono hsub ?_
  simp (disch := decide) only [passBuffers, mask_contentFreed, mask_setPxl, blank_quiet, reclk_self, blank_when,
      mask_ite, ite_self]

theorem mask_finishGraph {ps : List Part}
    (hsub : sub [.link, .flows, .hif, .pxl, .out, .proofIn, .sent, .host, .notes] ps = true) (g : Graph) (cut : Bool)
    (d : Device) :
    blank ps (finishGraph g cut d) = blank ps d := by
  refine mask_mono hsub ?_
  simp (disch := decide) only [finishGraph, mask_loadReleased, mask_passBuffers, mask_poisonNote, mask_report,
      mask_sendProof, mask_setPxl, mask_shareNote, blank_quiet, reclk_self, blank_when, mask_ite, ite_self]

theorem mask_finishIf {ps : List Part}
    (hsub : sub [.link, .flows, .hif, .pxl, .out, .proofIn, .sent, .host, .notes] ps = true) (cut : Bool)
    (d : Device) :
    blank ps (finishIf cut d) = blank ps d := by
  refine mask_mono hsub ?_
  unfold finishIf
  try dsimp only
  repeat' first
    | rfl
    | (simp (disch := decide) only [mask_finishGraph, blank_quiet, reclk_self, blank_when, mask_ite, ite_self]; done)
    | split
    | simp (disch := decide) only [mask_finishGraph, blank_quiet, reclk_self, blank_when, mask_ite, ite_self]

theorem mask_composeOn {ps : List Part}
    (hsub : sub [.link, .flows, .hif, .pxl, .out, .regs, .proofIn, .sent, .host, .notes] ps = true) (d : Device) :
    blank ps (composeOn d) = blank ps d := by
  refine mask_mono hsub ?_
  unfold composeOn
  try dsimp only
  repeat' first
    | rfl
    | (simp (disch := decide) only [mask_finishIf, mask_queuesHeld, mask_releaseTo, blank_quiet, reclk_self, blank_when, mask_ite, ite_self]; done)
    | split
    | simp (disch := decide) only [mask_finishIf, mask_queuesHeld, mask_releaseTo, blank_quiet, reclk_self, blank_when, mask_ite, ite_self]

theorem mask_fetchPass {ps : List Part}
    (hsub : sub [.link, .flows, .hif, .pxl, .spare, .sent, .host, .notes] ps = true) (hold : Bool)
    (xs : List (Nat × Nat)) (d : Device) :
    blank ps (fetchPass hold xs d) = blank ps d := by
  refine mask_mono hsub ?_
  unfold fetchPass
  try dsimp only
  repeat' first
    | rfl
    | done
    | (simp (disch := decide) only [mask_fsError, mask_setPxl, blank_quiet, reclk_self, blank_when, mask_ite, ite_self]; done)
    | rw [mask_foldl (by intro d a; repeat' first | rfl | (simp (disch := decide) only [mask_fsError, mask_setPxl, blank_quiet, reclk_self, blank_when, mask_ite, ite_self]; done) | split)]
    | split
    | simp (disch := decide) only [mask_fsError, mask_setPxl, blank_quiet, reclk_self, blank_when, mask_ite, ite_self]

theorem mask_fetchErrors {ps : List Part}
    (hsub : sub [.link, .flows, .hif, .pxl, .spare, .sent, .host, .notes] ps = true) (k : Nat) (d : Device) :
    blank ps (fetchErrors k d) = blank ps d := by
  refine mask_mono hsub ?_
  unfold fetchErrors
  try dsimp only
  repeat' first
    | rfl
    | (simp (disch := decide) only [mask_fetchPass, blank_quiet, reclk_self, blank_when, mask_ite, ite_self]; done)
    | split
    | simp (disch := decide) only [mask_fetchPass, blank_quiet, reclk_self, blank_when, mask_ite, ite_self]

theorem mask_cutGraph {ps : List Part}
    (hsub : sub [.tim, .link, .flows, .hif, .pxl, .out, .spare, .regs, .proofIn, .sent, .host, .notes] ps = true)
    (d : Device) :
    blank ps (cutGraph d) = blank ps d := by
  refine mask_mono hsub ?_
  unfold cutGraph
  try dsimp only
  repeat' first
    | rfl
    | (simp (disch := decide) only [mask_fetchErrors, mask_finishIf, mask_freeNext, mask_releaseTo, mask_setPxl, blank_quiet, reclk_self, blank_when, mask_ite, ite_self]; done)
    | split
    | simp (disch := decide) only [mask_fetchErrors, mask_finishIf, mask_freeNext, mask_releaseTo, mask_setPxl, blank_quiet, reclk_self, blank_when, mask_ite, ite_self]

theorem mask_staleGraph {ps : List Part}
    (hsub : sub [.tim, .link, .flows, .hif, .pxl, .out, .spare, .regs, .proofIn, .sent, .host, .notes] ps = true)
    (d : Device) :
    blank ps (staleGraph d) = blank ps d := by
  refine mask_mono hsub ?_
  unfold staleGraph
  try dsimp only
  repeat' first
    | rfl
    | (simp (disch := decide) only [mask_cutGraph, blank_quiet, reclk_self, blank_when, mask_ite, ite_self]; done)
    | split
    | simp (disch := decide) only [mask_cutGraph, blank_quiet, reclk_self, blank_when, mask_ite, ite_self]

theorem mask_composeDoneFx {ps : List Part}
    (hsub : sub [.tim, .link, .flows, .hif, .pxl, .out, .spare, .regs, .proofIn, .sent, .host, .notes] ps = true)
    (d : Device) :
    blank ps (composeDoneFx d) = blank ps d := by
  refine mask_mono hsub ?_
  unfold composeDoneFx
  try dsimp only
  repeat' first
    | rfl
    | (simp (disch := decide) only [mask_composeOn, mask_fetchErrors, mask_setPxl, mask_staleGraph, blank_quiet, reclk_self, blank_when, mask_ite, ite_self]; done)
    | split
    | simp (disch := decide) only [mask_composeOn, mask_fetchErrors, mask_setPxl, mask_staleGraph, blank_quiet, reclk_self, blank_when, mask_ite, ite_self]

theorem mask_spoilSeg {ps : List Part} (hsub : sub [.tim, .pxl] ps = true) (n : NodeRecord) (ys : Nat × Nat)
    (d : Device) :
    blank ps (spoilSeg n ys d) = blank ps d := by
  refine mask_mono hsub ?_
  unfold spoilSeg
  try dsimp only
  repeat' first
    | rfl
    | (simp (disch := decide) only [mask_freeNext, mask_setPxl, blank_quiet, reclk_self, blank_when, mask_ite, ite_self]; done)
    | rw [mask_foldl]
    | intro d a
    | split
    | (rename_i hq; rw [snd_of_eq hq])
    | (rename_i hq _; rw [snd_of_eq hq])
    | simp (disch := decide) only [mask_freeNext, mask_setPxl, blank_quiet, reclk_self, blank_when, mask_ite, ite_self]
    | dsimp only

theorem mask_loadAgain {ps : List Part} (hsub : sub [.out] ps = true) (n : NodeRecord) (d : Device) :
    blank ps (loadAgain n d) = blank ps d := by
  refine mask_mono hsub ?_
  simp (disch := decide) only [loadAgain, mask_setOut, blank_quiet, reclk_self, blank_when, mask_ite, ite_self]

theorem mask_outVoid {ps : List Part} (hsub : sub [.tim, .pxl, .out, .regs] ps = true) (ys : List (Nat × Nat))
    (d : Device) :
    blank ps (outVoid ys d) = blank ps d := by
  refine mask_mono hsub ?_
  unfold outVoid
  try dsimp only
  repeat' first
    | rfl
    | (simp (disch := decide) only [mask_dev_bump, mask_loadAgain, mask_setPxl, mask_spoilSeg, blank_quiet, reclk_self, blank_when, mask_ite, ite_self]; done)
    | rw [mask_foldl]
    | intro d a
    | split
    | (rename_i hq; rw [snd_of_eq hq])
    | (rename_i hq _; rw [snd_of_eq hq])
    | simp (disch := decide) only [mask_dev_bump, mask_loadAgain, mask_setPxl, mask_spoilSeg, blank_quiet, reclk_self, blank_when, mask_ite, ite_self]
    | dsimp only

theorem mask_outErrorFx {ps : List Part} (hsub : sub [.tim, .pxl, .out, .regs] ps = true)
    (beyond : Option (List (Nat × Nat))) (d : Device) :
    blank ps (outErrorFx beyond d) = blank ps d := by
  refine mask_mono hsub ?_
  unfold outErrorFx
  try dsimp only
  repeat' first
    | rfl
    | (simp (disch := decide) only [mask_dev_bump, mask_outVoid, blank_quiet, reclk_self, blank_when, mask_ite, ite_self]; done)
    | split
    | simp (disch := decide) only [mask_dev_bump, mask_outVoid, blank_quiet, reclk_self, blank_when, mask_ite, ite_self]

theorem mask_memErrorFx {ps : List Part}
    (hsub : sub [.tim, .link, .flows, .hif, .pxl, .corr, .out, .spare, .cal, .regs, .sent, .host, .notes] ps = true)
    (e : MemError) (d : Device) :
    blank ps (memErrorFx e d) = blank ps d := by
  refine mask_mono hsub ?_
  unfold memErrorFx
  repeat' first
    | rfl
    | (simp (disch := decide) only [mask_calErrorFx, mask_outErrorFx, mask_setPxl, blank_quiet, reclk_self, blank_when, mask_ite, ite_self]; done)
    | split

theorem mask_contentOver {ps : List Part} (hsub : sub [.flows, .pxl] ps = true) (c : BitVec 32) (d : Device) :
    blank ps (contentOver c d) = blank ps d := by
  refine mask_mono hsub ?_
  simp (disch := decide) only [contentOver, mask_contentFreed, mask_setPxl, blank_quiet, reclk_self, blank_when,
      mask_ite, ite_self]

theorem mask_deadlineFx {ps : List Part}
    (hsub : sub [.tim, .link, .flows, .hif, .pxl, .out, .spare, .regs, .proofIn, .sent, .host, .notes] ps = true)
    (f : BitVec 32) (d : Device) :
    blank ps (deadlineFx f d) = blank ps d := by
  refine mask_mono hsub ?_
  unfold deadlineFx
  try dsimp only
  repeat' first
    | rfl
    | (simp (disch := decide) only [mask_contentOver, mask_cutGraph, mask_layersFor, mask_staleGraph, mask_storeStep1, blank_set_tim, blank_quiet, reclk_self, blank_when, mask_ite, ite_self]; done)
    | split
    | simp (disch := decide) only [mask_contentOver, mask_cutGraph, mask_layersFor, mask_staleGraph, mask_storeStep1, blank_set_tim, blank_quiet, reclk_self, blank_when, mask_ite, ite_self]

theorem mask_setGest {ps : List Part} (hsub : sub [.gest] ps = true) (f : Ingest → Ingest) (d : Device) :
    blank ps (setGest f d) = blank ps d := by
  refine mask_mono hsub ?_
  simp (disch := decide) only [setGest, blank_set_gest]

theorem mask_setSlot {ps : List Part} (hsub : sub [.gest] ps = true) (i : Nat) (f : Slot → Slot) (d : Device) :
    blank ps (setSlot i f d) = blank ps d := by
  refine mask_mono hsub ?_
  simp (disch := decide) only [setSlot, mask_setGest]

theorem mask_releaseRun {ps : List Part}
    (hsub : sub [.link, .flows, .hif, .pxl, .regs, .sent, .host, .notes] ps = true) (m : SysMap) (slot : Nat)
    (c : BitVec 32) (u : Run) (b : List Byte) (g : Nat) (d : Device) :
    blank ps (releaseRun m slot c u b g d) = blank ps d := by
  refine mask_mono hsub ?_
  unfold releaseRun
  repeat' first
    | rw [mask_foldl (by intro d a; repeat' (simp (disch := decide) only [mask_sendOwn]; done))]
    | split
    | simp (disch := decide) only [mask_storeRun, mask_ite, ite_self]

theorem mask_endRuns {ps : List Part} (hsub : sub [.gest] ps = true) (slot : Nat) (c : BitVec 32)
    (us : List (Run × Nat)) (d : Device) :
    blank ps (endRuns slot c us d) = blank ps d := by
  refine mask_mono hsub ?_
  simp (disch := decide) only [endRuns, mask_setSlot]

theorem mask_releaseStep {ps : List Part}
    (hsub : sub [.link, .flows, .hif, .gest, .pxl, .regs, .sent, .host, .notes] ps = true) (slot : Nat) (a : Assembly)
    (us : List (Run × Nat)) (bl : List Nat) (d : Device)  :
    blank ps (releaseStep slot a us bl d) = blank ps d := by
  refine mask_mono hsub ?_
  induction us generalizing bl d with
  | nil => rfl
  | cons u us ih =>
    unfold releaseStep
    repeat' first | (simp (disch := decide) only [mask_endRuns, mask_releaseRun, ih, mask_ite]; done) | split

theorem mask_release {ps : List Part}
    (hsub : sub [.link, .flows, .hif, .gest, .pxl, .regs, .sent, .host, .notes] ps = true) (slot : Nat)
    (c : BitVec 32) (d : Device) :
    blank ps (release slot c d) = blank ps d := by
  refine mask_mono hsub ?_
  unfold release
  repeat' first | (simp (disch := decide) only [mask_releaseStep]; done) | split

theorem mask_abandon {ps : List Part} (hsub : sub [.gest, .regs] ps = true) (slot : Nat) (c : BitVec 32)
    (p : Run → Bool) (d : Device) :
    blank ps (abandon slot c p d) = blank ps d := by
  refine mask_mono hsub ?_
  unfold abandon
  split
  · rfl
  · simp (disch := decide) only [mask_dev_bump, mask_endRuns, mask_setSlot]

theorem mask_fixMap {ps : List Part} (hsub : sub [.gest] ps = true) (c : BitVec 32) (d : Device) :
    blank ps (fixMap c d) = blank ps d := by
  refine mask_mono hsub ?_
  unfold fixMap
  repeat' first | rfl | split

theorem mask_takeRows {ps : List Part}
    (hsub : sub [.link, .flows, .hif, .gest, .pxl, .regs, .sent, .host, .notes] ps = true) (slot : Nat)
    (r : StreamRec) (c : BitVec 32) (stamp : Option (BitVec 32)) (rows : List Srd) (d : Device) :
    blank ps (takeRows slot r c stamp rows d) = blank ps d := by
  refine mask_mono hsub ?_
  unfold takeRows
  repeat' first
    | rfl
    | (simp (disch := decide) only [mask_release, mask_setSlot, blank_quiet, reclk_self, blank_when, mask_ite, ite_self]; done)
    | split

theorem mask_openFrame {ps : List Part}
    (hsub : sub [.link, .flows, .hif, .gest, .pxl, .regs, .sent, .host, .notes] ps = true) (slot : Nat)
    (c : BitVec 32) (d : Device) :
    blank ps (openFrame slot c d) = blank ps d := by
  refine mask_mono hsub ?_
  unfold openFrame
  repeat' first
    | rfl
    | (simp (disch := decide) only [mask_takeRows, blank_quiet, reclk_self, blank_when, mask_ite, ite_self]; done)
    | split

theorem mask_ingestCutoff {ps : List Part}
    (hsub : sub [.link, .flows, .hif, .gest, .pxl, .regs, .sent, .host, .notes] ps = true) (f : BitVec 32)
    (d : Device) :
    blank ps (ingestCutoff f d) = blank ps d := by
  refine mask_mono hsub ?_
  unfold ingestCutoff
  simp (disch := decide) only [mask_abandon, mask_openFrame, mask_release, mask_setGest, mask_setSlot, blank_quiet,
      reclk_self, blank_when, mask_ite, ite_self]
  refine mask_foldl ?_ _ _
  intro d a
  simp (disch := decide) only [mask_abandon, mask_openFrame, mask_release, mask_setGest, mask_setSlot, blank_quiet,
      reclk_self, blank_when, mask_ite, ite_self]
  rw [mask_foldl (fun e x => by simp (disch := decide) only [mask_abandon, mask_openFrame, mask_release, mask_setGest, mask_setSlot, blank_quiet, reclk_self, blank_when, mask_ite, ite_self]), mask_foldl (fun e x => mask_openFrame (by decide) _ _ e)]

theorem mask_putStream {ps : List Part} (hsub : sub [.gest] ps = true) (slot : Nat) (r : Option StreamRec)
    (f : BitVec 32) (d : Device) :
    blank ps (putStream slot r f d) = blank ps d := by
  refine mask_mono hsub ?_
  simp (disch := decide) only [putStream, mask_setSlot]

theorem mask_arpFx {ps : List Part}
    (hsub : sub [.link, .ing, .flows, .hif, .spare, .regs, .sent, .host, .notes] ps = true) (x : IngRx)
    (ip : BitVec 32) (mac : BitVec 48) (from_ : BitVec 32) (d : Device) :
    blank ps (arpFx x ip mac from_ d) = blank ps d := by
  refine mask_mono hsub ?_
  unfold arpFx
  repeat' first
    | (refine mask_fromIngest (by decide) _ _ _ ?_; intro d)
    | split
    | simp (disch := decide) only [mask_sendIngest, blank_when]

theorem mask_igmpQueryFx {ps : List Part}
    (hsub : sub [.link, .ing, .flows, .hif, .spare, .regs, .sent, .host, .notes] ps = true) (x : IngRx) (d : Device) :
    blank ps (igmpQueryFx x d) = blank ps d := by
  refine mask_mono hsub ?_
  unfold igmpQueryFx
  refine mask_when _ (mask_fromIngest (by decide) _ _ _ (fun e => ?_))
  exact mask_foldl (fun e g => mask_sendIgmp (by decide) _ _ e g) _ _

theorem mask_ingestOddFx {ps : List Part}
    (hsub : sub [.link, .ing, .flows, .hif, .spare, .regs, .sent, .host, .notes] ps = true) (x : IngRx)
    (why : IngestOdd) (d : Device) :
    blank ps (ingestOddFx x why d) = blank ps d := by
  refine mask_mono hsub ?_
  unfold ingestOddFx
  repeat' first
    | rfl
    | (refine mask_fromIngest (by decide) _ _ _ ?_; intro d)
    | split
    | simp (disch := decide) only [mask_dev_bump, mask_ingestBroken, blank_when, ite_self]

theorem mask_pathDelivery {ps : List Part}
    (hsub : sub [.link, .ing, .flows, .hif, .gest, .sent, .host, .notes] ps = true) (slot p : Nat) (seq : BitVec 32)
    (d : Device) :
    blank ps (pathDelivery slot p seq d) = blank ps d := by
  refine mask_mono hsub ?_
  unfold pathDelivery
  repeat' first | split | simp (disch := decide) only [mask_raise, mask_setSlot, blank_set_ing, blank_when, ite_self]

theorem mask_setMerge {ps : List Part} (hsub : sub [.gest] ps = true) (slot : Nat) (old : Bool)
    (f : MergeState → MergeState) (d : Device) :
    blank ps (setMerge slot old f d) = blank ps d := by
  refine mask_mono hsub ?_
  simp (disch := decide) only [setMerge, mask_setSlot]

theorem mask_abandonGap {ps : List Part}
    (hsub : sub [.link, .flows, .hif, .gest, .pxl, .regs, .sent, .host, .notes] ps = true) (slot : Nat) (w : Nat)
    (a b : Span) (d : Device) :
    blank ps (abandonGap slot w a b d) = blank ps d := by
  refine mask_mono hsub ?_
  unfold abandonGap
  refine mask_foldl ?_ _ _
  intro d a
  repeat' (simp (disch := decide) only [mask_abandon, mask_release]; done)

theorem mask_advanceHi {ps : List Part}
    (hsub : sub [.link, .flows, .hif, .gest, .pxl, .regs, .sent, .host, .notes] ps = true) (slot : Nat)
    (r : StreamRec) (old : Bool) (seq : BitVec 32) (d : Device) :
    blank ps (advanceHi slot r old seq d) = blank ps d := by
  refine mask_mono hsub ?_
  unfold advanceHi
  repeat' first
    | rw [mask_foldl (by intro d a; repeat' (simp (disch := decide) only [mask_abandonGap, mask_ite, ite_self]; done))]
    | split
    | simp (disch := decide) only [mask_setMerge, mask_setSlot]

theorem mask_keepSpan {ps : List Part} (hsub : sub [.gest] ps = true) (slot : Nat) (r : StreamRec) (old : Bool)
    (x : Span) (d : Device) :
    blank ps (keepSpan slot r old x d) = blank ps d := by
  refine mask_mono hsub ?_
  simp (disch := decide) only [keepSpan, mask_setMerge]

theorem mask_stampNote {ps : List Part} (hsub : sub [.gest] ps = true) (slot : Nat) (ts c : BitVec 32) (d : Device) :
    blank ps (stampNote slot ts c d) = blank ps d := by
  refine mask_mono hsub ?_
  simp (disch := decide) only [stampNote, mask_setSlot]

theorem mask_placePacket {ps : List Part}
    (hsub : sub [.link, .flows, .hif, .gest, .pxl, .regs, .sent, .host, .notes] ps = true) (slot : Nat)
    (r : StreamRec) (old : Bool) (p : RtpPacket) (c : BitVec 32) (d : Device) :
    blank ps (placePacket slot r old p c d) = blank ps d := by
  refine mask_mono hsub ?_
  simp (disch := decide) only [placePacket, mask_dev_bump, mask_keepSpan, mask_raise, mask_setSlot, mask_stampNote,
      mask_takeRows, blank_when, mask_ite, ite_self]

theorem mask_slotPacket {ps : List Part}
    (hsub : sub [.link, .ing, .flows, .hif, .gest, .pxl, .regs, .sent, .host, .notes] ps = true) (slot : Nat)
    (b : Belongs) (p : RtpPacket) (d : Device) :
    blank ps (slotPacket slot b p d) = blank ps d := by
  refine mask_mono hsub ?_
  unfold slotPacket
  repeat' first
    | split
    | simp (disch := decide) only [mask_advanceHi, mask_dev_bump, mask_pathDelivery, mask_placePacket, mask_setSlot, blank_when, mask_ite, ite_self]

theorem mask_rtpFx {ps : List Part}
    (hsub : sub [.link, .ing, .flows, .hif, .gest, .pxl, .spare, .regs, .sent, .host, .notes] ps = true)
    (p : RtpPacket) (d : Device) :
    blank ps (rtpFx p d) = blank ps d := by
  refine mask_mono hsub ?_
  unfold rtpFx
  refine mask_when _ (mask_fromIngest (by decide) _ _ _ (fun e => ?_))
  dsimp only
  split
  · exact mask_dev_bump (by decide) _ _ _
  · exact mask_foldl (fun e x => mask_slotPacket (by decide) _ _ _ e) _ _

theorem mask_pathLostFx {ps : List Part} (hsub : sub [.link, .flows, .hif, .gest, .sent, .host, .notes] ps = true)
    (slot p : Nat) (d : Device) :
    blank ps (pathLostFx slot p d) = blank ps d := by
  refine mask_mono hsub ?_
  unfold pathLostFx
  repeat' first | split | simp (disch := decide) only [mask_raise, mask_setSlot]

theorem mask_streamLostFx {ps : List Part} (hsub : sub [.link, .flows, .hif, .gest, .sent, .host, .notes] ps = true)
    (slot : Nat) (d : Device) :
    blank ps (streamLostFx slot d) = blank ps d := by
  refine mask_mono hsub ?_
  unfold streamLostFx
  repeat' first | split | simp (disch := decide) only [mask_raise, mask_setSlot]

theorem mask_queueBulk {ps : List Part} (hsub : sub [.hif] ps = true) (b : List Byte) (status : Nat) (waits : Bool)
    (d : Device) :
    blank ps (queueBulk b status waits d) = blank ps d := by
  refine mask_mono hsub ?_
  simp (disch := decide) only [queueBulk, mask_setHif, blank_quiet, reclk_self, blank_when, mask_ite, ite_self]

theorem mask_setBulk {ps : List Part} (hsub : sub [.hif] ps = true) (pos : BitVec 32) (f : BulkEntry → BulkEntry)
    (d : Device) :
    blank ps (setBulk pos f d) = blank ps d := by
  refine mask_mono hsub ?_
  simp (disch := decide) only [setBulk, mask_setHif]

theorem mask_bulkLine {ps : List Part}
    (hsub : sub [.link, .flows, .hif, .gest, .pxl, .regs, .sent, .host, .notes] ps = true) (e : BulkEntry)
    (r : StreamRec) (y : Nat) (x : HostRead) (d : Device) :
    blank ps (bulkLine e r y x d) = blank ps d := by
  refine mask_mono hsub ?_
  unfold bulkLine
  repeat' first
    | (simp (disch := decide) only [mask_abandon, mask_release, mask_setBulk, mask_takeRows, blank_when, ite_self]; done)
    | split

theorem mask_readBulk {ps : List Part}
    (hsub : sub [.link, .flows, .hif, .gest, .pxl, .regs, .sent, .host, .notes] ps = true) (pos : BitVec 32)
    (slot : Nat) (r : StreamRec) (c : BitVec 32) (lines : List HostRead) (d : Device) :
    blank ps (readBulk pos slot r c lines d) = blank ps d := by
  refine mask_mono hsub ?_
  unfold readBulk
  try dsimp only
  repeat' first
    | rfl
    | (simp (disch := decide) only [mask_bulkLine, mask_openFrame, mask_setBulk, mask_setHif, mask_stampNote, blank_quiet, reclk_self, blank_when, mask_ite, ite_self]; done)
    | rw [mask_foldl]
    | intro d a
    | split
    | (rename_i hq; rw [snd_of_eq hq])
    | (rename_i hq _; rw [snd_of_eq hq])
    | simp (disch := decide) only [mask_bulkLine, mask_openFrame, mask_setBulk, mask_setHif, mask_stampNote, blank_quiet, reclk_self, blank_when, mask_ite, ite_self]
    | dsimp only

theorem mask_startEntry {ps : List Part}
    (hsub : sub [.link, .flows, .hif, .gest, .pxl, .regs, .sent, .host, .notes] ps = true) (e : BulkEntry)
    (d : Device) :
    blank ps (startEntry e d) = blank ps d := by
  refine mask_mono hsub ?_
  unfold startEntry
  try dsimp only
  repeat' first
    | rfl
    | (simp (disch := decide) only [mask_raise, mask_readBulk, mask_setBulk, blank_quiet, reclk_self, blank_when, mask_ite, ite_self]; done)
    | split
    | simp (disch := decide) only [mask_raise, mask_readBulk, mask_setBulk, blank_quiet, reclk_self, blank_when, mask_ite, ite_self]

theorem mask_startBulk {ps : List Part}
    (hsub : sub [.link, .flows, .hif, .gest, .pxl, .regs, .sent, .host, .notes] ps = true) (d : Device) :
    blank ps (startBulk d) = blank ps d := by
  refine mask_mono hsub ?_
  unfold startBulk
  try dsimp only
  repeat' first
    | rfl
    | (simp (disch := decide) only [mask_startEntry, blank_quiet, reclk_self, blank_when, mask_ite, ite_self]; done)
    | rw [mask_foldl]
    | intro d a
    | split
    | (rename_i hq; rw [snd_of_eq hq])
    | (rename_i hq _; rw [snd_of_eq hq])
    | simp (disch := decide) only [mask_startEntry, blank_quiet, reclk_self, blank_when, mask_ite, ite_self]
    | dsimp only

theorem mask_bulkReadDone {ps : List Part}
    (hsub : sub [.link, .flows, .hif, .gest, .pxl, .regs, .sent, .host, .notes] ps = true) (id : Nat) (x : HostRead)
    (d : Device) :
    blank ps (bulkReadDone id x d) = blank ps d := by
  refine mask_mono hsub ?_
  unfold bulkReadDone
  repeat' first | (simp (disch := decide) only [mask_bulkLine, mask_setBulk]; done) | split

theorem mask_bulkReadFx {ps : List Part}
    (hsub : sub [.link, .flows, .hif, .gest, .pxl, .regs, .sent, .host, .notes] ps = true) (b : List Byte)
    (lines : List HostRead) (d : Device) :
    blank ps (bulkReadFx b lines d) = blank ps d := by
  refine mask_mono hsub ?_
  unfold bulkReadFx
  try dsimp only
  repeat' first
    | rfl
    | (simp (disch := decide) only [mask_queueBulk, mask_raise, mask_readBulk, blank_quiet, reclk_self, blank_when, mask_ite, ite_self]; done)
    | split
    | simp (disch := decide) only [mask_queueBulk, mask_raise, mask_readBulk, blank_quiet, reclk_self, blank_when, mask_ite, ite_self]

theorem mask_bulkDoneFx {ps : List Part} (hsub : sub [.hif, .host] ps = true) (d : Device) :
    blank ps (bulkDoneFx d) = blank ps d := by
  refine mask_mono hsub ?_
  unfold bulkDoneFx
  repeat' first
    | (simp (disch := decide) only [mask_hostWrite, mask_setHif, mask_vector, mask_ite, ite_self]; done)
    | split

theorem mask_putSources {ps : List Part} (hsub : sub [.link, .flows, .hif, .gest, .sent, .host, .notes] ps = true)
    (u : Nat) (ss : List SacnSource) (d : Device) :
    blank ps (putSources u ss d) = blank ps d := by
  refine mask_mono hsub ?_
  simp (disch := decide) only [putSources, mask_raise, mask_setGest, blank_when, ite_self]

theorem mask_sacnFx {ps : List Part}
    (hsub : sub [.link, .ing, .flows, .hif, .gest, .spare, .regs, .sent, .host, .notes] ps = true) (p : SacnPacket)
    (d : Device) :
    blank ps (sacnFx p d) = blank ps d := by
  refine mask_mono hsub ?_
  unfold sacnFx
  repeat' first
    | (refine mask_fromIngest (by decide) _ _ _ ?_; intro d)
    | split
    | simp (disch := decide) only [mask_dev_bump, mask_putSources, blank_when]

theorem mask_sacnTimeoutFx {ps : List Part} (hsub : sub [.link, .flows, .hif, .gest, .sent, .host, .notes] ps = true)
    (u cid : Nat) (d : Device) :
    blank ps (sacnTimeoutFx u cid d) = blank ps d := by
  refine mask_mono hsub ?_
  simp (disch := decide) only [sacnTimeoutFx, mask_putSources, mask_ite, ite_self]

theorem mask_streamSetFx {ps : List Part}
    (hsub : sub [.tim, .link, .ing, .flows, .hif, .gest, .spare, .sent, .host, .comps, .notes] ps = true) (c : Cmd)
    (d : Device) :
    blank ps (streamSetFx c d) = blank ps d := by
  refine mask_mono hsub ?_
  unfold streamSetFx
  try dsimp only
  repeat' first
    | rfl
    | (simp (disch := decide) only [mask_finish, mask_putStream, mask_refuse, mask_retryDeferred, mask_updateGroups, blank_quiet, reclk_self, blank_when, mask_ite, ite_self]; done)
    | split
    | simp (disch := decide) only [mask_finish, mask_putStream, mask_refuse, mask_retryDeferred, mask_updateGroups, blank_quiet, reclk_self, blank_when, mask_ite, ite_self]

theorem mask_streamQueryFx {ps : List Part}
    (hsub : sub [.link, .flows, .hif, .gest, .sent, .host, .comps, .notes] ps = true) (c : Cmd) (d : Device) :
    blank ps (streamQueryFx c d) = blank ps d := by
  refine mask_mono hsub ?_
  simp (disch := decide) only [streamQueryFx, mask_finish, mask_refuse, mask_setSlot, mask_ite, ite_self]

theorem mask_recheckSlots {ps : List Part}
    (hsub : sub [.tim, .link, .ing, .flows, .hif, .gest, .spare, .sent, .host, .notes] ps = true) (f : BitVec 32)
    (d : Device) :
    blank ps (recheckSlots f d) = blank ps d := by
  refine mask_mono hsub ?_
  unfold recheckSlots
  simp (disch := decide) only [mask_putStream, mask_raise, mask_retryDeferred, mask_setGest, mask_updateGroups,
      blank_quiet, reclk_self, blank_when, mask_ite, ite_self]
  rw [mask_foldl (by intro d a; repeat' first | rfl | (simp (disch := decide) only [mask_putStream, mask_raise, mask_retryDeferred, mask_setGest, mask_updateGroups, blank_quiet, reclk_self, blank_when, mask_ite, ite_self]; done) | split)]

end Sys2Proof.Laws
end

