-- ==== Sys2Proof/Laws/PartsFixtures.lean ====
section
/-! SUPPORT. Laws/PartsFixtures.lean: which parts each operation of Pattern, Fixtures, Calib, Meter can change, and no
other: one lemma per operation. -/

namespace Sys2Proof.Laws

open Machine

theorem mask_setFix {ps : List Part} (hsub : sub [.fix] ps = true) (f : Fix → Fix) (d : Device) :
    blank ps (setFix f d) = blank ps d := by
  refine mask_mono hsub ?_
  simp (disch := decide) only [setFix, blank_set_fix]

theorem mask_setDmx {ps : List Part} (hsub : sub [.fix] ps = true) (p : Nat) (f : DmxPort → DmxPort) (d : Device) :
    blank ps (setDmx p f d) = blank ps d := by
  refine mask_mono hsub ?_
  simp (disch := decide) only [setDmx, mask_setFix]

theorem mask_setStr {ps : List Part} (hsub : sub [.fix] ps = true) (c : Nat) (f : StrChan → StrChan) (d : Device) :
    blank ps (setStr c f d) = blank ps d := by
  refine mask_mono hsub ?_
  simp (disch := decide) only [setStr, mask_setFix]

theorem mask_setPat {ps : List Part} (hsub : sub [.fix] ps = true) (n : Nat) (f : PatEngine → PatEngine) (d : Device) :
    blank ps (setPat n f d) = blank ps d := by
  refine mask_mono hsub ?_
  simp (disch := decide) only [setPat, mask_setFix]

theorem mask_writeTarget {ps : List Part} (hsub : sub [.fix] ps = true) (n : Nat) (t : Target) (v : Nat) (d : Device) :
    blank ps (writeTarget n t v d) = blank ps d := by
  refine mask_mono hsub ?_
  unfold writeTarget
  repeat' first | rfl | split

theorem mask_endFades {ps : List Part} (hsub : sub [.fix] ps = true) (t : Target) (d : Device) :
    blank ps (endFades t d) = blank ps d := by
  refine mask_mono hsub ?_
  simp (disch := decide) only [endFades, mask_setFix]

theorem mask_targetValue {ps : List Part} (hsub : sub [.tim] ps = true) (t : Target) (at_ : RP) (d : Device) :
    blank ps (targetValue t at_ d).2 = blank ps d := by
  refine mask_mono hsub ?_
  unfold targetValue
  repeat' first | rfl | split

theorem mask_stopFades {ps : List Part} (hsub : sub [.fix] ps = true) (n : Nat) (at_ : RP) (d : Device) :
    blank ps (stopFades n at_ d) = blank ps d := by
  refine mask_mono hsub ?_
  unfold stopFades
  refine mask_foldl ?_ _ _
  intro d a
  repeat' (simp (disch := decide) only [mask_writeTarget]; done)

theorem mask_sampleFades {ps : List Part} (hsub : sub [.fix] ps = true) (mine : Target → Bool) (at_ : RP) (d : Device) :
    blank ps (sampleFades mine at_ d) = blank ps d := by
  refine mask_mono hsub ?_
  unfold sampleFades
  refine mask_foldl ?_ _ _
  intro d a
  simp (disch := decide) only [mask_setPat]
  rw [mask_foldl (by intro d a; simp (disch := decide) only [mask_writeTarget])]

theorem mask_patFault {ps : List Part} (hsub : sub [.link, .flows, .hif, .fix, .sent, .host, .notes] ps = true)
    (n cause : Nat) (d : Device) :
    blank ps (patFault n cause d) = blank ps d := by
  refine mask_mono hsub ?_
  simp (disch := decide) only [patFault, mask_raise, mask_setPat]

theorem mask_waitFor {ps : List Part} (hsub : sub [.fix] ps = true) (n : Nat) (t : RP) (d : Device) :
    blank ps (waitFor n t d).2 = blank ps d := by
  refine mask_mono hsub ?_
  unfold waitFor
  repeat' first | rfl | split

theorem mask_setReg {ps : List Part} (hsub : sub [.fix] ps = true) (n r v : Nat) (d : Device) :
    blank ps (setReg n r v d) = blank ps d := by
  refine mask_mono hsub ?_
  simp (disch := decide) only [setReg, mask_setPat]

theorem mask_nextPc {ps : List Part} (hsub : sub [.fix] ps = true) (n : Nat) (d : Device) :
    blank ps (nextPc n d) = blank ps d := by
  refine mask_mono hsub ?_
  simp (disch := decide) only [nextPc, mask_setPat]

theorem mask_startFade {ps : List Part} (hsub : sub [.tim, .link, .flows, .hif, .fix, .sent, .host, .notes] ps = true)
    (n : Nat) (t : Target) (e u : Nat) (ms : Bool) (d : Device) :
    blank ps (startFade n t e u ms d).2 = blank ps d := by
  refine mask_mono hsub ?_
  unfold startFade
  repeat' first
    | split
    | simp (disch := decide) only [mask_endFades, mask_nextPc, mask_patFault, mask_setPat, mask_targetValue]

theorem mask_patInstr {ps : List Part} (hsub : sub [.tim, .link, .flows, .hif, .fix, .sent, .host, .notes] ps = true)
    (n : Nat) (d : Device) :
    blank ps (patInstr n d).2 = blank ps d := by
  refine mask_mono hsub ?_
  unfold patInstr
  dsimp only
  (repeat' split) <;> (simp (disch := decide) only [mask_endFades, mask_nextPc, mask_patFault, mask_setPat, mask_setReg, mask_startFade, mask_waitFor, mask_writeTarget]; done)

theorem mask_patRun {ps : List Part} (hsub : sub [.tim, .link, .flows, .hif, .fix, .sent, .host, .notes] ps = true)
    (k n : Nat) (d : Device)  :
    blank ps (patRun k n d) = blank ps d := by
  refine mask_mono hsub ?_
  induction k generalizing d with
  | zero => simp (disch := decide) only [patRun, mask_patFault]
  | succ k ih =>
    unfold patRun
    split
    · rename_i hq; rw [ih, snd_of_eq hq]; simp (disch := decide) only [mask_patInstr]
    · rename_i hq; rw [snd_of_eq hq]; simp (disch := decide) only [mask_patInstr]

theorem mask_patSettle {ps : List Part} (hsub : sub [.tim, .link, .flows, .hif, .fix, .sent, .host, .notes] ps = true)
    (at_ : RP) (d : Device) :
    blank ps (patSettle at_ d) = blank ps d := by
  refine mask_mono hsub ?_
  unfold patSettle
  refine mask_foldl ?_ _ _
  intro d a
  dsimp only
  split
  · split
    · rfl
    · split
      · rename_i hq; rw [mask_patRun (by decide), snd_of_eq hq]; simp (disch := decide) only [mask_setPat, mask_waitFor]
      · rename_i hq; rw [snd_of_eq hq]; simp (disch := decide) only [mask_setPat, mask_waitFor]
  · rfl

theorem mask_patExpiryFx {ps : List Part}
    (hsub : sub [.clk, .tim, .link, .flows, .hif, .fix, .sent, .host, .notes] ps = true) (n : Nat) (d : Device) :
    blank ps (patExpiryFx n d) = blank ps d := by
  refine mask_mono hsub ?_
  unfold patExpiryFx
  simp (disch := decide) only [mask_patRun, mask_patSettle, mask_setPat, blank_set_clk, blank_quiet, reclk_self,
      mask_ite, ite_self]

theorem mask_haltPat {ps : List Part} (hsub : sub [.fix] ps = true) (n : Nat) (at_ : RP) (d : Device) :
    blank ps (haltPat n at_ d) = blank ps d := by
  refine mask_mono hsub ?_
  simp (disch := decide) only [haltPat, mask_setPat, mask_stopFades]

theorem mask_startPat {ps : List Part} (hsub : sub [.tim, .link, .flows, .hif, .fix, .sent, .host, .notes] ps = true)
    (n : Nat) (at_ : RP) (a : Nat) (v : List Nat) (d : Device) :
    blank ps (startPat n at_ a v d) = blank ps d := by
  refine mask_mono hsub ?_
  simp (disch := decide) only [startPat, mask_patRun, mask_setPat, mask_stopFades]

theorem mask_patternLoadFx {ps : List Part}
    (hsub : sub [.tim, .link, .flows, .hif, .fix, .sent, .host, .comps, .notes] ps = true) (c : Cmd) (d : Device) :
    blank ps (patternLoadFx c d) = blank ps d := by
  refine mask_mono hsub ?_
  unfold patternLoadFx
  repeat' first
    | split
    | simp (disch := decide) only [mask_finish, mask_haltPat, mask_patSettle, mask_refuse, mask_setFix, mask_setPat, blank_when, mask_ite, ite_self]

theorem mask_releaseSlots {ps : List Part} (hsub : sub [.fix] ps = true) (n : Nat) (d : Device) :
    blank ps (releaseSlots n d) = blank ps d := by
  refine mask_mono hsub ?_
  simp (disch := decide) only [releaseSlots, mask_setFix]

theorem mask_patternControlFx {ps : List Part}
    (hsub : sub [.tim, .link, .flows, .hif, .fix, .sent, .host, .comps, .notes] ps = true) (c : Cmd) (d : Device) :
    blank ps (patternControlFx c d) = blank ps d := by
  refine mask_mono hsub ?_
  unfold patternControlFx
  repeat' first
    | rw [mask_foldl (by intro d a; repeat' (simp (disch := decide) only [mask_haltPat, mask_releaseSlots, mask_startPat, blank_when, ite_self]; done))]
    | simp (disch := decide) only [mask_finish, mask_patSettle, mask_refuse, mask_ite, ite_self]

theorem mask_sourceNote {ps : List Part} (hsub : sub [.link, .flows, .hif, .sent, .host, .notes] ps = true)
    (p back : Nat) (d : Device) :
    blank ps (sourceNote p back d) = blank ps d := by
  refine mask_mono hsub ?_
  simp (disch := decide) only [sourceNote, mask_raise]

theorem mask_keepFix {ps : List Part} (hsub : sub [.link, .flows, .hif, .fix, .regs, .sent, .host, .notes] ps = true)
    (p : Nat) (stamp : BitVec 32) (data : List Byte) (d : Device) :
    blank ps (keepFix p stamp data d) = blank ps d := by
  refine mask_mono hsub ?_
  unfold keepFix
  repeat' first
    | split
    | simp (disch := decide) only [mask_dev_bump, mask_setDmx, mask_sourceNote, blank_when, ite_self]

theorem mask_fixFx {ps : List Part}
    (hsub : sub [.link, .ing, .topo, .flows, .hif, .spare, .fix, .regs, .sent, .host, .notes] ps = true) (f : RxFrame)
    (d : Device) :
    blank ps (fixFx f d) = blank ps d := by
  refine mask_mono hsub ?_
  exact mask_takeNumbered (by decide) _ _ _ _ (by intro h b d; simp (disch := decide) only [mask_keepFix])

theorem mask_sendFix {ps : List Part}
    (hsub : sub [.link, .flows, .hif, .gest, .fix, .regs, .sent, .host, .notes] ps = true) (f : BitVec 32)
    (d : Device) :
    blank ps (sendFix f d) = blank ps d := by
  refine mask_mono hsub ?_
  unfold sendFix
  repeat' first
    | rw [mask_foldl (by intro d a; repeat' first | (simp (disch := decide) only [mask_headSend, mask_keepFix, mask_ite, ite_self]; done) | split)]
    | simp (disch := decide) only [mask_setGest, mask_ite, ite_self]

theorem mask_dropJobs {ps : List Part} (hsub : sub [.link, .flows, .hif, .fix, .sent, .host, .comps] ps = true)
    (p : Nat) (d : Device) :
    blank ps (dropJobs p d) = blank ps d := by
  refine mask_mono hsub ?_
  unfold dropJobs
  refine mask_foldl ?_ _ _
  intro d a
  repeat' first
    | rfl
    | (simp (disch := decide) only [mask_complete, mask_setDmx, blank_quiet, reclk_self, blank_when, mask_ite, ite_self]; done)
    | split

theorem mask_putDmx {ps : List Part} (hsub : sub [.link, .flows, .hif, .fix, .sent, .host, .comps] ps = true)
    (p : Nat) (r : DmxRec) (d : Device) :
    blank ps (putDmx p r d) = blank ps d := by
  refine mask_mono hsub ?_
  simp (disch := decide) only [putDmx, mask_dropJobs, mask_setDmx, blank_when, ite_self]

theorem mask_dmxConfigFx {ps : List Part}
    (hsub : sub [.link, .flows, .hif, .fix, .sent, .host, .comps, .notes] ps = true) (c : Cmd) (d : Device) :
    blank ps (dmxConfigFx c d) = blank ps d := by
  refine mask_mono hsub ?_
  simp (disch := decide) only [dmxConfigFx, mask_finish, mask_putDmx, mask_refuse, mask_setFix, blank_when, mask_ite,
      ite_self]

theorem mask_rxCompare {ps : List Part} (hsub : sub [.link, .flows, .hif, .fix, .sent, .host, .notes] ps = true)
    (p : Nat) (bad : Bool) (d : Device) :
    blank ps (rxCompare p bad d) = blank ps d := by
  refine mask_mono hsub ?_
  simp (disch := decide) only [rxCompare, mask_raise, mask_setDmx, blank_when, mask_ite, ite_self]

theorem mask_endRdm {ps : List Part} (hsub : sub [.link, .flows, .hif, .fix, .sent, .host, .comps, .notes] ps = true)
    (p outcome : Nat) (b : List Byte) (d : Device) :
    blank ps (endRdm p outcome b d) = blank ps d := by
  refine mask_mono hsub ?_
  unfold endRdm
  repeat' first | (simp (disch := decide) only [mask_finish, mask_setDmx]; done) | split

theorem mask_rdmSend {ps : List Part} (hsub : sub [.link, .flows, .hif, .fix, .sent, .host, .comps, .notes] ps = true)
    (p : Nat) (bad : Bool) (j : RdmJob) (d : Device) :
    blank ps (rdmSend p bad j d) = blank ps d := by
  refine mask_mono hsub ?_
  simp (disch := decide) only [rdmSend, mask_endRdm, mask_rxCompare, mask_setDmx, blank_set_sent, blank_quiet,
      reclk_self, blank_when, mask_ite, ite_self]

theorem mask_packetSend {ps : List Part} (hsub : sub [.link, .flows, .hif, .fix, .sent, .host, .notes] ps = true)
    (p : Nat) (bad : Bool) (d : Device) :
    blank ps (packetSend p bad d) = blank ps d := by
  refine mask_mono hsub ?_
  unfold packetSend
  try dsimp only
  repeat' first
    | rfl
    | (simp (disch := decide) only [mask_rxCompare, mask_setDmx, blank_set_sent, blank_quiet, reclk_self, blank_when, mask_ite, ite_self]; done)
    | split
    | simp (disch := decide) only [mask_rxCompare, mask_setDmx, blank_set_sent, blank_quiet, reclk_self, blank_when, mask_ite, ite_self]

theorem mask_breakTurn {ps : List Part}
    (hsub : sub [.tim, .link, .flows, .hif, .fix, .sent, .host, .comps, .notes] ps = true) (p : Nat) (bad : Bool)
    (x : DmxPort) (d : Device) :
    blank ps (breakTurn p bad x d) = blank ps d := by
  refine mask_mono hsub ?_
  have h0 : blank [.tim, .link, .flows, .hif, .fix, .sent, .host, .comps, .notes] (patSettle d.clk.rp (sampleFades (fun t => match t with | .slot q _ => q == p | .str _ => false) d.clk.rp d)) = blank [.tim, .link, .flows, .hif, .fix, .sent, .host, .comps, .notes] d := by
    rw [mask_patSettle (by decide), mask_sampleFades (by decide)]
  unfold breakTurn
  split
  · rw [mask_rdmSend (by decide)]; exact h0
  · rw [mask_setDmx (by decide)]; exact h0
  · rw [mask_packetSend (by decide)]; exact h0

theorem mask_breakWork {ps : List Part}
    (hsub : sub [.tim, .link, .flows, .hif, .fix, .sent, .host, .comps, .notes] ps = true) (p : Nat) (bad : Bool)
    (d : Device) :
    blank ps (breakWork p bad d) = blank ps d := by
  refine mask_mono hsub ?_
  simp (disch := decide) only [breakWork, mask_breakTurn, mask_endRdm, mask_setDmx, mask_setFix, blank_when, mask_ite,
      ite_self]

theorem mask_dmxBreakFx {ps : List Part}
    (hsub : sub [.clk, .tim, .link, .flows, .hif, .fix, .sent, .host, .comps, .notes] ps = true) (p : Nat)
    (bad : Bool) (d : Device) :
    blank ps (dmxBreakFx p bad d) = blank ps d := by
  refine mask_mono hsub ?_
  unfold dmxBreakFx
  repeat' first | split | simp (disch := decide) only [mask_breakWork, blank_set_clk, blank_quiet, reclk_self, mask_ite]

theorem mask_dmxLostFx {ps : List Part} (hsub : sub [.link, .flows, .hif, .fix, .sent, .host, .notes] ps = true)
    (p : Nat) (d : Device) :
    blank ps (dmxLostFx p d) = blank ps d := by
  refine mask_mono hsub ?_
  simp (disch := decide) only [dmxLostFx, mask_setDmx, mask_sourceNote, mask_ite, ite_self]

theorem mask_rdmRequestFx {ps : List Part} (hsub : sub [.link, .flows, .hif, .fix, .sent, .host, .comps] ps = true)
    (c : Cmd) (d : Device) :
    blank ps (rdmRequestFx c d) = blank ps d := by
  refine mask_mono hsub ?_
  unfold rdmRequestFx
  repeat' first
    | rfl
    | (simp (disch := decide) only [mask_refuse, mask_setDmx, blank_quiet, reclk_self, blank_when, mask_ite, ite_self]; done)
    | split

theorem mask_rdmResponseFx {ps : List Part}
    (hsub : sub [.link, .flows, .hif, .fix, .sent, .host, .comps, .notes] ps = true) (p outcome : Nat) (b : List Byte)
    (d : Device) :
    blank ps (rdmResponseFx p outcome b d) = blank ps d := by
  refine mask_mono hsub ?_
  simp (disch := decide) only [rdmResponseFx, mask_endRdm, mask_ite, ite_self]

theorem mask_rdmDiscoveryFx {ps : List Part}
    (hsub : sub [.link, .flows, .hif, .fix, .sent, .host, .comps, .notes] ps = true) (p : Nat) (uids : List Nat)
    (d : Device) :
    blank ps (rdmDiscoveryFx p uids d) = blank ps d := by
  refine mask_mono hsub ?_
  unfold rdmDiscoveryFx
  repeat' first
    | rw [mask_foldl (by intro d a; repeat' (simp (disch := decide) only [mask_finish]; done))]
    | simp (disch := decide) only [mask_raise, mask_setDmx, blank_when, mask_ite, ite_self]

theorem mask_rdmDataFx {ps : List Part} (hsub : sub [.regs, .lastRead] ps = true) (d : Device) :
    blank ps (rdmDataFx d) = blank ps d := by
  refine mask_mono hsub ?_
  simp (disch := decide) only [rdmDataFx, mask_dev_setWord, blank_set_lastRead]

theorem mask_stringNote {ps : List Part} (hsub : sub [.link, .flows, .hif, .sent, .host, .notes] ps = true)
    (ch cause : Nat) (d : Device) :
    blank ps (stringNote ch cause d) = blank ps d := by
  refine mask_mono hsub ?_
  simp (disch := decide) only [stringNote, mask_raise]

theorem mask_strSample {ps : List Part} (hsub : sub [.tim, .link, .flows, .hif, .fix, .sent, .host, .notes] ps = true)
    (d : Device) :
    blank ps (strSample d) = blank ps d := by
  refine mask_mono hsub ?_
  simp (disch := decide) only [strSample, mask_patSettle, mask_sampleFades, mask_setFix, blank_quiet, reclk_self,
      blank_when, mask_ite, ite_self]

theorem mask_putStr {ps : List Part} (hsub : sub [.fix] ps = true) (ch : Nat) (b : List Byte) (d : Device) :
    blank ps (putStr ch b d) = blank ps d := by
  refine mask_mono hsub ?_
  simp (disch := decide) only [putStr, mask_setStr]

theorem mask_stringConfigFx {ps : List Part}
    (hsub : sub [.link, .flows, .hif, .fix, .sent, .host, .comps, .notes] ps = true) (c : Cmd) (d : Device) :
    blank ps (stringConfigFx c d) = blank ps d := by
  refine mask_mono hsub ?_
  simp (disch := decide) only [stringConfigFx, mask_finish, mask_putStr, mask_refuse, mask_setFix, blank_quiet,
      reclk_self, blank_when, mask_ite, ite_self]

theorem mask_stringFaultFx {ps : List Part} (hsub : sub [.link, .flows, .hif, .fix, .sent, .host, .notes] ps = true)
    (ch cause : Nat) (d : Device) :
    blank ps (stringFaultFx ch cause d) = blank ps d := by
  refine mask_mono hsub ?_
  simp (disch := decide) only [stringFaultFx, mask_setStr, mask_stringNote, mask_ite, ite_self]

theorem mask_stringRetryFx {ps : List Part} (hsub : sub [.link, .flows, .hif, .fix, .sent, .host, .notes] ps = true)
    (ch : Nat) (good : Bool) (d : Device) :
    blank ps (stringRetryFx ch good d) = blank ps d := by
  refine mask_mono hsub ?_
  simp (disch := decide) only [stringRetryFx, mask_setStr, mask_stringNote, mask_ite, ite_self]

theorem mask_keepRef {ps : List Part} (hsub : sub [.fix] ps = true) (ch : Nat) (r : Int) (d : Device) :
    blank ps (keepRef ch r d) = blank ps d := by
  refine mask_mono hsub ?_
  simp (disch := decide) only [keepRef, mask_setFix, mask_setStr]

theorem mask_trimStep {ps : List Part} (hsub : sub [.tim, .link, .flows, .hif, .fix, .sent, .host, .notes] ps = true)
    (ch : Nat) (r : Int) (d : Device) :
    blank ps (trimStep ch r d) = blank ps d := by
  refine mask_mono hsub ?_
  unfold trimStep
  try dsimp only
  repeat' first
    | split
    | simp (disch := decide) only [mask_freeNext, mask_keepRef, mask_setStr, mask_stringNote, blank_when, ite_self]

theorem mask_probeFx {ps : List Part} (hsub : sub [.tim, .link, .flows, .hif, .fix, .sent, .host, .notes] ps = true)
    (dark : Reading) (rs : List (Nat × Reading)) (missed : Bool) (d : Device) :
    blank ps (probeFx dark rs missed d) = blank ps d := by
  refine mask_mono hsub ?_
  unfold probeFx
  try dsimp only
  repeat' first
    | rfl
    | done
    | (simp (disch := decide) only [mask_setStr, mask_stringNote, mask_trimStep, blank_quiet, reclk_self, blank_when, mask_ite, ite_self]; done)
    | rw [mask_foldl (by intro d a; repeat' first | rfl | (simp (disch := decide) only [mask_setStr, mask_stringNote, mask_trimStep, blank_quiet, reclk_self, blank_when, mask_ite, ite_self]; done) | split)]
    | split
    | simp (disch := decide) only [mask_setStr, mask_stringNote, mask_trimStep, blank_quiet, reclk_self, blank_when, mask_ite, ite_self]

theorem mask_boostStepFx {ps : List Part} (hsub : sub [.fix] ps = true) (m : BoostMeas) (d : Device) :
    blank ps (boostStepFx m d) = blank ps d := by
  refine mask_mono hsub ?_
  unfold boostStepFx
  try dsimp only
  repeat' first
    | rfl
    | (simp (disch := decide) only [mask_setFix, blank_quiet, reclk_self, blank_when, mask_ite, ite_self]; done)
    | split
    | simp (disch := decide) only [mask_setFix, blank_quiet, reclk_self, blank_when, mask_ite, ite_self]

theorem mask_boostNote {ps : List Part} (hsub : sub [.link, .flows, .hif, .sent, .host, .notes] ps = true)
    (cause need : Nat) (d : Device) :
    blank ps (boostNote cause need d) = blank ps d := by
  refine mask_mono hsub ?_
  simp (disch := decide) only [boostNote, mask_raise]

theorem mask_boostLimitFx {ps : List Part} (hsub : sub [.link, .flows, .hif, .fix, .sent, .host, .notes] ps = true)
    (cause need : Nat) (d : Device) :
    blank ps (boostLimitFx cause need d) = blank ps d := by
  refine mask_mono hsub ?_
  simp (disch := decide) only [boostLimitFx, mask_boostNote, mask_setFix, blank_quiet, reclk_self, blank_when,
      mask_ite, ite_self]

theorem mask_boostRestartFx {ps : List Part} (hsub : sub [.link, .flows, .hif, .fix, .sent, .host, .notes] ps = true)
    (d : Device) :
    blank ps (boostRestartFx d) = blank ps d := by
  refine mask_mono hsub ?_
  simp (disch := decide) only [boostRestartFx, mask_boostNote, mask_setFix, mask_ite, ite_self]

theorem mask_sensorQueryFx {ps : List Part} (hsub : sub [.link, .flows, .hif, .fix, .sent, .host, .comps] ps = true)
    (c : Cmd) (d : Device) :
    blank ps (sensorQueryFx c d) = blank ps d := by
  refine mask_mono hsub ?_
  simp (disch := decide) only [sensorQueryFx, mask_refuse, mask_setFix, mask_ite, ite_self]

theorem mask_sensorNext {ps : List Part} (hsub : sub [.fix] ps = true) (d : Device) :
    blank ps (sensorNext d) = blank ps d := by
  refine mask_mono hsub ?_
  unfold sensorNext
  repeat' first | rfl | split

theorem mask_sensorEndFx {ps : List Part}
    (hsub : sub [.link, .flows, .hif, .fix, .cal, .sent, .host, .comps, .notes] ps = true) (r : Reading)
    (d : Device) :
    blank ps (sensorEndFx r d) = blank ps d := by
  refine mask_mono hsub ?_
  unfold sensorEndFx
  repeat' first
    | (simp (disch := decide) only [mask_calWindow, mask_finish, mask_sensorNext, mask_setFix, blank_when, ite_self]; done)
    | split

theorem mask_fixtureWriteFx {ps : List Part} (hsub : sub [.link, .flows, .hif, .fix, .sent, .host, .notes] ps = true)
    (ok : Bool) (d : Device) :
    blank ps (fixtureWriteFx ok d) = blank ps d := by
  refine mask_mono hsub ?_
  simp (disch := decide) only [fixtureWriteFx, mask_raise, mask_setFix, mask_ite, ite_self]

theorem mask_loadFixtures {ps : List Part} (hsub : sub [.fix] ps = true) (d : Device) :
    blank ps (loadFixtures d) = blank ps d := by
  refine mask_mono hsub ?_
  unfold loadFixtures
  repeat' first | rw [mask_foldl (by intro d a; repeat' rfl)] | split | simp (disch := decide) only [mask_setFix]

theorem mask_autostart {ps : List Part} (hsub : sub [.tim, .link, .flows, .hif, .fix, .sent, .host, .notes] ps = true)
    (d : Device) :
    blank ps (autostart d) = blank ps d := by
  refine mask_mono hsub ?_
  unfold autostart
  split
  · rfl
  · dsimp only
    rw [mask_patSettle (by decide), mask_foldl (by intro d a; exact mask_startPat (by decide) _ _ _ _ _), mask_setFix (by decide), mask_setFix (by decide)]

theorem mask_calDone {ps : List Part} (hsub : sub [.link, .flows, .hif, .cal, .sent, .host, .notes] ps = true)
    (kind : Nat) (j : CalJob) (committed : Bool) (q : Nat) (d : Device) :
    blank ps (calDone kind j committed q d) = blank ps d := by
  refine mask_mono hsub ?_
  simp (disch := decide) only [calDone, mask_raise, mask_setCal]

theorem mask_calEnd {ps : List Part}
    (hsub : sub [.link, .flows, .hif, .spare, .cal, .sent, .host, .comps, .notes] ps = true) (kind : Nat) (j : CalJob)
    (committed : Bool) (q : Nat) (result : List Byte) (d : Device) :
    blank ps (calEnd kind j committed q result d) = blank ps d := by
  refine mask_mono hsub ?_
  simp (disch := decide) only [calEnd, mask_calClear, mask_calDone, mask_finish]

theorem mask_calFlashError {ps : List Part}
    (hsub : sub [.link, .flows, .hif, .spare, .cal, .sent, .host, .comps] ps = true) (kind : Nat) (j : CalJob)
    (d : Device) :
    blank ps (calFlashError kind j d) = blank ps d := by
  refine mask_mono hsub ?_
  simp (disch := decide) only [calFlashError, mask_calClear, mask_complete]

theorem mask_calBegin {ps : List Part} (hsub : sub [.spare, .cal] ps = true) (kind : Nat) (j : CalJob) (d : Device) :
    blank ps (calBegin kind j d) = blank ps d := by
  refine mask_mono hsub ?_
  simp (disch := decide) only [calBegin, mask_calClear, mask_setCal, mask_ite, ite_self]

theorem mask_calStartFx {ps : List Part} (hsub : sub [.spare, .cal] ps = true) (kind : Nat) (d : Device) :
    blank ps (calStartFx kind d) = blank ps d := by
  refine mask_mono hsub ?_
  unfold calStartFx
  repeat' first | (simp (disch := decide) only [mask_calBegin, mask_ite, ite_self]; done) | split

theorem mask_calPlace {ps : List Part}
    (hsub : sub [.link, .flows, .hif, .spare, .cal, .sent, .host, .comps, .notes] ps = true) (kind : Nat) (c : Cmd)
    (d : Device) :
    blank ps (calPlace kind c d) = blank ps d := by
  refine mask_mono hsub ?_
  simp (disch := decide) only [calPlace, mask_calDrop, mask_calStartFx, mask_setCal]

theorem mask_calLinkFx {ps : List Part}
    (hsub : sub [.link, .flows, .hif, .spare, .cal, .sent, .host, .comps, .notes] ps = true) (c : Cmd) (d : Device) :
    blank ps (calLinkFx c d) = blank ps d := by
  refine mask_mono hsub ?_
  simp (disch := decide) only [calLinkFx, mask_calPlace, mask_refuse, mask_ite, ite_self]

theorem mask_phaseBegin {ps : List Part} (hsub : sub [.cal] ps = true) (kind unit : Nat) (old new : List Int)
    (d : Device) :
    blank ps (phaseBegin kind unit old new d) = blank ps d := by
  refine mask_mono hsub ?_
  simp (disch := decide) only [phaseBegin, mask_setCal, blank_quiet, reclk_self, blank_when, mask_ite, ite_self]

theorem mask_calBlanking {ps : List Part} (hsub : sub [.cal] ps = true) (f : BitVec 32) (d : Device) :
    blank ps (calBlanking f d) = blank ps d := by
  refine mask_mono hsub ?_
  simp (disch := decide) only [calBlanking, mask_setCal, blank_quiet, reclk_self, blank_when, mask_ite, ite_self]

theorem mask_calPortFx {ps : List Part}
    (hsub : sub [.tim, .link, .ing, .flows, .hif, .spare, .cal, .sent, .host, .comps, .notes] ps = true)
    (r : LinkSweep) (d : Device) :
    blank ps (calPortFx r d) = blank ps d := by
  refine mask_mono hsub ?_
  unfold calPortFx
  try dsimp only
  repeat' first
    | rfl
    | done
    | (simp (disch := decide) only [mask_calEnd, mask_calFlashError, mask_eyeFx, mask_phaseBegin, mask_setCal, blank_quiet, reclk_self, blank_when, mask_ite, ite_self]; done)
    | rw [mask_foldl (by intro d a; repeat' first | rfl | (simp (disch := decide) only [mask_calEnd, mask_calFlashError, mask_eyeFx, mask_phaseBegin, mask_setCal, blank_quiet, reclk_self, blank_when, mask_ite, ite_self]; done) | split)]
    | split
    | simp (disch := decide) only [mask_calEnd, mask_calFlashError, mask_eyeFx, mask_phaseBegin, mask_setCal, blank_quiet, reclk_self, blank_when, mask_ite, ite_self]

theorem mask_calColourFx {ps : List Part}
    (hsub : sub [.link, .flows, .hif, .spare, .cal, .sent, .host, .comps, .notes] ps = true) (c : Cmd) (d : Device) :
    blank ps (calColourFx c d) = blank ps d := by
  refine mask_mono hsub ?_
  unfold calColourFx
  repeat' first | (simp (disch := decide) only [mask_calPlace, mask_refuse, mask_ite, ite_self]; done) | split

theorem mask_calPairBegin {ps : List Part} (hsub : sub [.cal] ps = true) (f : BitVec 32) (d : Device) :
    blank ps (calPairBegin f d) = blank ps d := by
  refine mask_mono hsub ?_
  unfold calPairBegin
  repeat' first
    | rfl
    | (simp (disch := decide) only [mask_setCal, blank_quiet, reclk_self, blank_when, mask_ite, ite_self]; done)
    | split

theorem mask_fitRho {ps : List Part} (hsub : sub [.tim] ps = true) (n : NodeRecord) (r : ColourRec)
    (pairs : List CalPair) (d : Device) :
    blank ps (fitRho n r pairs d).2 = blank ps d := by
  refine mask_mono hsub ?_
  unfold fitRho
  try dsimp only
  repeat' first
    | rfl
    | (simp (disch := decide) only [mask_freeNext, blank_quiet, reclk_self, blank_when, mask_ite, ite_self]; done)
    | split
    | simp (disch := decide) only [mask_freeNext, blank_quiet, reclk_self, blank_when, mask_ite, ite_self]

theorem mask_calColourEndFx {ps : List Part}
    (hsub : sub [.tim, .link, .flows, .hif, .corr, .spare, .cal, .sent, .host, .comps, .notes] ps = true)
    (f : ColourFit) (d : Device) :
    blank ps (calColourEndFx f d) = blank ps d := by
  refine mask_mono hsub ?_
  unfold calColourEndFx
  try dsimp only
  repeat' first
    | rfl
    | (simp (disch := decide) only [mask_calEnd, mask_calFlashError, mask_corrCommit, mask_fitRho, mask_freeNext, mask_setCorr, mask_wearPass, blank_quiet, reclk_self, blank_when, mask_ite, ite_self]; done)
    | split
    | simp (disch := decide) only [mask_calEnd, mask_calFlashError, mask_corrCommit, mask_fitRho, mask_freeNext, mask_setCorr, mask_wearPass, blank_quiet, reclk_self, blank_when, mask_ite, ite_self]

theorem mask_calMeterFx {ps : List Part}
    (hsub : sub [.link, .flows, .hif, .spare, .cal, .sent, .host, .comps, .notes] ps = true) (c : Cmd) (d : Device) :
    blank ps (calMeterFx c d) = blank ps d := by
  refine mask_mono hsub ?_
  simp (disch := decide) only [calMeterFx, mask_calPlace, mask_refuse, mask_ite, ite_self]

theorem mask_calHandoverFx {ps : List Part}
    (hsub : sub [.link, .flows, .hif, .spare, .cal, .sent, .host, .comps, .notes] ps = true) (m : MeterStep)
    (d : Device) :
    blank ps (calHandoverFx m d) = blank ps d := by
  refine mask_mono hsub ?_
  unfold calHandoverFx
  repeat' first
    | (simp (disch := decide) only [mask_calEnd, mask_calFlashError, mask_phaseBegin, mask_setCal, blank_when, mask_ite, ite_self]; done)
    | split

theorem mask_calCancelFx {ps : List Part}
    (hsub : sub [.link, .flows, .hif, .spare, .cal, .sent, .host, .comps, .notes] ps = true) (c : Cmd) (d : Device) :
    blank ps (calCancelFx c d) = blank ps d := by
  refine mask_mono hsub ?_
  unfold calCancelFx
  repeat' first
    | rw [mask_foldl (by intro d a; repeat' (simp (disch := decide) only [mask_calAbort, mask_calDrop]; done))]
    | simp (disch := decide) only [mask_finish, mask_refuse, mask_ite, ite_self]

theorem mask_setMtr {ps : List Part} (hsub : sub [.mtr] ps = true) (f : Meter → Meter) (d : Device) :
    blank ps (setMtr f d) = blank ps d := by
  refine mask_mono hsub ?_
  simp (disch := decide) only [setMtr, blank_set_mtr]

theorem mask_energyWrap {ps : List Part} (hsub : sub [.link, .flows, .hif, .mtr, .sent, .host, .notes] ps = true)
    (reg kind bit_ : Nat) (d : Device) :
    blank ps (energyWrap reg kind bit_ d) = blank ps d := by
  refine mask_mono hsub ?_
  simp (disch := decide) only [energyWrap, mask_raise, mask_setMtr]

theorem mask_meterSampleFx {ps : List Part}
    (hsub : sub [.link, .flows, .hif, .mtr, .regs, .sent, .host, .notes] ps = true) (ch : Nat) (rawV rawI : Int)
    (d : Device) :
    blank ps (meterSampleFx ch rawV rawI d) = blank ps d := by
  refine mask_mono hsub ?_
  simp (disch := decide) only [meterSampleFx, mask_dev_bump, mask_energyWrap, mask_setMtr, blank_quiet, reclk_self,
      blank_when, mask_ite, ite_self]

theorem mask_s0PulseFx {ps : List Part} (hsub : sub [.link, .flows, .hif, .mtr, .sent, .host, .notes] ps = true)
    (i : Nat) (d : Device) :
    blank ps (s0PulseFx i d) = blank ps d := by
  refine mask_mono hsub ?_
  simp (disch := decide) only [s0PulseFx, mask_energyWrap, mask_setMtr, blank_when, mask_ite, ite_self]

theorem mask_s0GlitchFx {ps : List Part} (hsub : sub [.mtr] ps = true) (i : Nat) (d : Device) :
    blank ps (s0GlitchFx i d) = blank ps d := by
  refine mask_mono hsub ?_
  simp (disch := decide) only [s0GlitchFx, mask_setMtr, mask_ite, ite_self]

theorem mask_saveStart {ps : List Part} (hsub : sub [.mtr] ps = true) (cmd : Option (RP × Cmd)) (d : Device) :
    blank ps (saveStart cmd d) = blank ps d := by
  refine mask_mono hsub ?_
  unfold saveStart
  repeat' first | rfl | split

theorem mask_rowRemap {ps : List Part} (hsub : sub [.link, .flows, .hif, .spare, .sent, .host, .notes] ps = true)
    (row : Nat) (d : Device) :
    blank ps (rowRemap row d) = blank ps d := by
  refine mask_mono hsub ?_
  simp (disch := decide) only [rowRemap, mask_setSpare, mask_spareUsed, blank_quiet, reclk_self, blank_when, mask_ite,
      ite_self]

theorem mask_rowWritten {ps : List Part} (hsub : sub [.link, .flows, .hif, .spare, .sent, .host, .notes] ps = true)
    (row : Nat) (d : Device) :
    blank ps (rowWritten row d) = blank ps d := by
  refine mask_mono hsub ?_
  unfold rowWritten
  try dsimp only
  repeat' first
    | rfl
    | (simp (disch := decide) only [mask_rowRemap, mask_setSpare, blank_quiet, reclk_self, blank_when, mask_ite, ite_self]; done)
    | split
    | simp (disch := decide) only [mask_rowRemap, mask_setSpare, blank_quiet, reclk_self, blank_when, mask_ite, ite_self]

theorem mask_saveNext {ps : List Part} (hsub : sub [.mtr] ps = true) (retry : Bool) (d : Device) :
    blank ps (saveNext retry d) = blank ps d := by
  refine mask_mono hsub ?_
  simp (disch := decide) only [saveNext, mask_setMtr, mask_ite, ite_self]

theorem mask_saveDoneFx {ps : List Part}
    (hsub : sub [.link, .flows, .hif, .spare, .mtr, .sent, .host, .comps, .notes] ps = true) (ok : Bool)
    (d : Device) :
    blank ps (saveDoneFx ok d) = blank ps d := by
  refine mask_mono hsub ?_
  unfold saveDoneFx
  try dsimp only
  repeat' first
    | rfl
    | (simp (disch := decide) only [mask_complete, mask_finish, mask_raise, mask_rowRemap, mask_rowWritten, mask_saveNext, mask_setMtr, mask_setSpare, blank_quiet, reclk_self, blank_when, mask_ite, ite_self]; done)
    | rw [mask_foldl]
    | intro d a
    | split
    | (rename_i hq; rw [snd_of_eq hq])
    | (rename_i hq _; rw [snd_of_eq hq])
    | simp (disch := decide) only [mask_complete, mask_finish, mask_raise, mask_rowRemap, mask_rowWritten, mask_saveNext, mask_setMtr, mask_setSpare, blank_quiet, reclk_self, blank_when, mask_ite, ite_self]
    | dsimp only

theorem mask_loadMeter {ps : List Part} (hsub : sub [.mtr] ps = true) (d : Device) :
    blank ps (loadMeter d) = blank ps d := by
  refine mask_mono hsub ?_
  unfold loadMeter
  repeat' first | rfl | split

theorem mask_crossingFx {ps : List Part} (hsub : sub [.link, .flows, .hif, .mtr, .sent, .host, .notes] ps = true)
    (cycles : Nat) (d : Device) :
    blank ps (crossingFx cycles d) = blank ps d := by
  refine mask_mono hsub ?_
  simp (disch := decide) only [crossingFx, mask_raise, mask_setMtr, blank_quiet, reclk_self, blank_when, mask_ite,
      ite_self]

theorem mask_mainsLostFx {ps : List Part} (hsub : sub [.link, .flows, .hif, .mtr, .sent, .host, .notes] ps = true)
    (d : Device) :
    blank ps (mainsLostFx d) = blank ps d := by
  refine mask_mono hsub ?_
  simp (disch := decide) only [mainsLostFx, mask_report, mask_saveStart, mask_setMtr, blank_when, mask_ite, ite_self]

theorem mask_putMeter {ps : List Part} (hsub : sub [.mtr] ps = true) (x : MeterSet) (d : Device) :
    blank ps (putMeter x d) = blank ps d := by
  refine mask_mono hsub ?_
  simp (disch := decide) only [putMeter, mask_setMtr]

theorem mask_meterFromRegs {ps : List Part} (hsub : sub [.mtr] ps = true) (d : Device) :
    blank ps (meterFromRegs d) = blank ps d := by
  refine mask_mono hsub ?_
  simp (disch := decide) only [meterFromRegs, mask_putMeter, mask_ite, ite_self]

theorem mask_meterConfigFx {ps : List Part}
    (hsub : sub [.link, .flows, .hif, .mtr, .sent, .host, .comps, .notes] ps = true) (c : Cmd) (d : Device) :
    blank ps (meterConfigFx c d) = blank ps d := by
  refine mask_mono hsub ?_
  unfold meterConfigFx
  try dsimp only
  repeat' first
    | rfl
    | (simp (disch := decide) only [mask_finish, mask_putMeter, mask_refuse, mask_saveStart, mask_setMtr, blank_quiet, reclk_self, blank_when, mask_ite, ite_self]; done)
    | split
    | simp (disch := decide) only [mask_finish, mask_putMeter, mask_refuse, mask_saveStart, mask_setMtr, blank_quiet, reclk_self, blank_when, mask_ite, ite_self]

theorem mask_meterMean {ps : List Part} (hsub : sub [.tim] ps = true) (sum : Int) (n unit : Nat) (d : Device) :
    blank ps (meterMean sum n unit d).2 = blank ps d := by
  refine mask_mono hsub ?_
  unfold meterMean
  try dsimp only
  repeat' first | rfl | split

theorem mask_queryChannel {ps : List Part}
    (hsub : sub [.tim, .link, .flows, .hif, .sent, .host, .comps, .notes] ps = true) (c : Cmd) (i : Nat)
    (d : Device) :
    blank ps (queryChannel c i d) = blank ps d := by
  refine mask_mono hsub ?_
  unfold queryChannel
  rw [mask_finish (by decide), mask_meterMean (by decide), mask_meterMean (by decide), mask_meterMean (by decide)]

theorem mask_energyQueryFx {ps : List Part}
    (hsub : sub [.tim, .link, .flows, .hif, .mtr, .sent, .host, .comps, .notes] ps = true) (c : Cmd) (d : Device) :
    blank ps (energyQueryFx c d) = blank ps d := by
  refine mask_mono hsub ?_
  simp (disch := decide) only [energyQueryFx, mask_finish, mask_queryChannel, mask_refuse, mask_setMtr, mask_ite,
      ite_self]

end Sys2Proof.Laws
end

