-- ==== Sys2Proof/Laws/PartsSystem.lean ====
section
/-! SUPPORT. Laws/PartsSystem.lean: which parts each operation of Security, Power, Registers, Rows can change, and no
other: one lemma per operation. -/

namespace Sys2Proof.Laws

open Machine

theorem mask_setSec {ps : List Part} (hsub : sub [.sec] ps = true) (f : Sec → Sec) (d : Device) :
    blank ps (setSec f d) = blank ps d := by
  refine mask_mono hsub ?_
  simp (disch := decide) only [setSec, blank_set_sec]

theorem mask_tapPick {ps : List Part} (hsub : sub [.sec] ps = true) (i : TapInstr) (d : Device) :
    blank ps (tapPick i d) = blank ps d := by
  refine mask_mono hsub ?_
  simp (disch := decide) only [tapPick, mask_setSec, blank_when, ite_self]

theorem mask_setLevel {ps : List Part} (hsub : sub [.link, .flows, .hif, .sec, .sent, .host, .notes] ps = true)
    (new path : Nat) (d : Device) :
    blank ps (setLevel new path d) = blank ps d := by
  refine mask_mono hsub ?_
  simp (disch := decide) only [setLevel, mask_raise, mask_setSec, mask_ite, ite_self]

theorem mask_dbgRequestFx {ps : List Part} (hsub : sub [.link, .flows, .hif, .sec, .sent, .host, .notes] ps = true)
    (level : BitVec 2) (d : Device) :
    blank ps (dbgRequestFx level d) = blank ps d := by
  refine mask_mono hsub ?_
  simp (disch := decide) only [dbgRequestFx, mask_setLevel, mask_setSec, mask_tapPick, blank_when, mask_ite, ite_self]

theorem mask_dbgChallengeFx {ps : List Part} (hsub : sub [.sec] ps = true) (nonce : List Byte) (nowMs : Nat)
    (d : Device) :
    blank ps (dbgChallengeFx nonce nowMs d) = blank ps d := by
  refine mask_mono hsub ?_
  simp (disch := decide) only [dbgChallengeFx, mask_setSec, mask_tapPick, mask_ite, ite_self]

theorem mask_dbgResponseFx {ps : List Part} (hsub : sub [.link, .flows, .hif, .sec, .sent, .host, .notes] ps = true)
    (sig : List Byte) (nowMs : Nat) (d : Device) :
    blank ps (dbgResponseFx sig nowMs d) = blank ps d := by
  refine mask_mono hsub ?_
  simp (disch := decide) only [dbgResponseFx, mask_setLevel, mask_setSec, mask_tapPick, blank_when, mask_ite, ite_self]

theorem mask_debugUnlockFx {ps : List Part}
    (hsub : sub [.link, .flows, .hif, .sec, .sent, .host, .comps, .notes] ps = true) (c : Cmd) (d : Device) :
    blank ps (debugUnlockFx c d) = blank ps d := by
  refine mask_mono hsub ?_
  simp (disch := decide) only [debugUnlockFx, mask_finish, mask_refuse, mask_setLevel, mask_ite, ite_self]

theorem mask_tapEntryFx {ps : List Part} (hsub : sub [.tim, .sec] ps = true) (d : Device) :
    blank ps (tapEntryFx d) = blank ps d := by
  refine mask_mono hsub ?_
  simp (disch := decide) only [tapEntryFx, mask_freeNext, mask_setSec]

theorem mask_tapExitFx {ps : List Part}
    (hsub : sub [.clk, .tim, .sched, .link, .ing, .topo, .flows, .hif, .gest, .pxl, .corr, .out, .red, .spare, .fix, .cal, .mtr, .sec, .pwr, .regs, .wideHold, .snap, .lastRead, .proofIn] ps = true)
    (d : Device) :
    blank ps (tapExitFx d) = blank ps d := by
  refine mask_mono hsub ?_
  simp (disch := decide) only [tapExitFx, mask_resetDevice, mask_ite, ite_self]

theorem mask_placeKey {ps : List Part} (hsub : sub [.sec] ps = true) (current : Bool) (k : LinkKey) (d : Device) :
    blank ps (placeKey current k d) = blank ps d := by
  refine mask_mono hsub ?_
  simp (disch := decide) only [placeKey, mask_setSec]

theorem mask_keyApply {ps : List Part}
    (hsub : sub [.link, .flows, .hif, .sec, .sent, .host, .comps, .notes] ps = true) (c : Cmd) (b : List Byte)
    (d : Device) :
    blank ps (keyApply c b d) = blank ps d := by
  refine mask_mono hsub ?_
  unfold keyApply
  repeat' first | split | simp (disch := decide) only [mask_finish, mask_placeKey, mask_refuse]

theorem mask_keyLoadFx {ps : List Part}
    (hsub : sub [.sched, .link, .flows, .hif, .sec, .sent, .host, .comps, .notes] ps = true) (c : Cmd) (d : Device) :
    blank ps (keyLoadFx c d) = blank ps d := by
  refine mask_mono hsub ?_
  unfold keyLoadFx
  repeat' first
    | (simp (disch := decide) only [mask_keyApply, mask_refuse, mask_schedSample, mask_setSec, mask_ite, ite_self]; done)
    | split

theorem mask_portApply {ps : List Part} (hsub : sub [.sec] ps = true) (current : Bool) (b : List Byte) (d : Device) :
    blank ps (portApply current b d) = blank ps d := by
  refine mask_mono hsub ?_
  unfold portApply
  repeat' first | rfl | split

theorem mask_keyloadFx {ps : List Part} (hsub : sub [.sec] ps = true) (b : List Byte) (d : Device) :
    blank ps (keyloadFx b d) = blank ps d := by
  refine mask_mono hsub ?_
  simp (disch := decide) only [keyloadFx, mask_portApply, mask_setSec, mask_tapPick, mask_ite, ite_self]

theorem mask_keyloadCurrentFx {ps : List Part} (hsub : sub [.sec] ps = true) (b : List Byte) (d : Device) :
    blank ps (keyloadCurrentFx b d) = blank ps d := by
  refine mask_mono hsub ?_
  simp (disch := decide) only [keyloadCurrentFx, mask_portApply, mask_tapPick, mask_ite, ite_self]

theorem mask_rollPoint {ps : List Part}
    (hsub : sub [.sched, .link, .flows, .hif, .sent, .host, .comps, .notes] ps = true) (c : Cmd) (d : Device) :
    blank ps (rollPoint c d) = blank ps d := by
  refine mask_mono hsub ?_
  simp (disch := decide) only [rollPoint, mask_finish, mask_refuse, blank_set_sched, mask_ite, ite_self]

theorem mask_rollEnd {ps : List Part}
    (hsub : sub [.sched, .link, .flows, .hif, .sec, .sent, .host, .comps, .notes] ps = true) (d : Device) :
    blank ps (rollEnd d) = blank ps d := by
  refine mask_mono hsub ?_
  unfold rollEnd
  repeat' first
    | rw [mask_foldl (by intro d a; repeat' first | (simp (disch := decide) only [mask_keyApply, mask_portApply]; done) | split)]
    | split
    | simp (disch := decide) only [mask_raise, mask_schedSample, mask_setSec, blank_set_sched]

theorem mask_lifecycleWork {ps : List Part}
    (hsub : sub [.link, .flows, .hif, .sec, .sent, .host, .comps, .notes] ps = true) (c : Cmd) (d : Device) :
    blank ps (lifecycleWork c d) = blank ps d := by
  refine mask_mono hsub ?_
  unfold lifecycleWork
  repeat' first | split | simp (disch := decide) only [mask_finish, mask_refuse, mask_setSec]

theorem mask_lifecycleSetFx {ps : List Part}
    (hsub : sub [.sched, .link, .flows, .hif, .pxl, .sec, .sent, .host, .comps, .notes] ps = true) (c : Cmd)
    (d : Device) :
    blank ps (lifecycleSetFx c d) = blank ps d := by
  refine mask_mono hsub ?_
  simp (disch := decide) only [lifecycleSetFx, mask_admitCmd, mask_eventLate, mask_lifecycleWork, mask_refuse,
      blank_quiet, reclk_self, blank_when, mask_ite, ite_self]

theorem mask_selfResetFx {ps : List Part}
    (hsub : sub [.clk, .tim, .sched, .link, .ing, .topo, .flows, .hif, .gest, .pxl, .corr, .out, .red, .spare, .fix, .cal, .mtr, .sec, .pwr, .regs, .wideHold, .snap, .lastRead, .proofIn] ps = true)
    (d : Device) :
    blank ps (selfResetFx d) = blank ps d := by
  refine mask_mono hsub ?_
  simp (disch := decide) only [selfResetFx, mask_resetDevice, mask_ite, ite_self]

theorem mask_eraseFor {ps : List Part}
    (hsub : sub [.link, .flows, .hif, .red, .spare, .sec, .sent, .host, .notes] ps = true) (dst : Life) (d : Device) :
    blank ps (eraseFor dst d) = blank ps d := by
  refine mask_mono hsub ?_
  unfold eraseFor
  try dsimp only
  repeat' first
    | rfl
    | (simp (disch := decide) only [mask_report, mask_setSec, blank_set_red, blank_set_spare, blank_quiet, reclk_self, blank_when, mask_ite, ite_self]; done)
    | split
    | simp (disch := decide) only [mask_report, mask_setSec, blank_set_red, blank_set_spare, blank_quiet, reclk_self, blank_when, mask_ite, ite_self]

theorem mask_applyJournal {ps : List Part}
    (hsub : sub [.link, .flows, .hif, .red, .spare, .sec, .sent, .host, .notes] ps = true) (d : Device) :
    blank ps (applyJournal d) = blank ps d := by
  refine mask_mono hsub ?_
  unfold applyJournal
  repeat' first
    | rfl
    | (simp (disch := decide) only [mask_eraseFor, mask_raise, mask_setLevel, mask_setSec, blank_quiet, reclk_self, blank_when, mask_ite, ite_self]; done)
    | split

theorem mask_imageChanged {ps : List Part} (hsub : sub [.link, .flows, .hif, .sent, .host, .notes] ps = true)
    (a cause : Nat) (d : Device) :
    blank ps (imageChanged a cause d) = blank ps d := by
  refine mask_mono hsub ?_
  unfold imageChanged
  repeat' first | (simp (disch := decide) only [mask_raise]; done) | split

theorem mask_rollbackRefused {ps : List Part} (hsub : sub [.link, .flows, .hif, .sent, .host, .notes] ps = true)
    (a ver : Nat) (d : Device) :
    blank ps (rollbackRefused a ver d) = blank ps d := by
  refine mask_mono hsub ?_
  simp (disch := decide) only [rollbackRefused, mask_raise]

theorem mask_skipImage {ps : List Part} (hsub : sub [.link, .flows, .hif, .sent, .host, .notes] ps = true) (a : Nat)
    (d : Device) :
    blank ps (skipImage a d) = blank ps d := by
  refine mask_mono hsub ?_
  unfold skipImage
  repeat' first
    | rfl
    | (simp (disch := decide) only [mask_rollbackRefused, blank_quiet, reclk_self, blank_when, mask_ite, ite_self]; done)
    | split

theorem mask_bootImage {ps : List Part} (hsub : sub [.link, .flows, .hif, .sec, .sent, .host, .notes] ps = true)
    (d : Device) :
    blank ps (bootImage d) = blank ps d := by
  refine mask_mono hsub ?_
  unfold bootImage
  try dsimp only
  repeat' first
    | rfl
    | (simp (disch := decide) only [mask_imageChanged, mask_setSec, mask_skipImage, blank_quiet, reclk_self, blank_when, mask_ite, ite_self]; done)
    | split
    | simp (disch := decide) only [mask_imageChanged, mask_setSec, mask_skipImage, blank_quiet, reclk_self, blank_when, mask_ite, ite_self]

theorem mask_judgeStart {ps : List Part} (hsub : sub [.sec] ps = true) (us : Nat) (d : Device) :
    blank ps (judgeStart us d) = blank ps d := by
  refine mask_mono hsub ?_
  simp (disch := decide) only [judgeStart, mask_setSec, mask_ite, ite_self]

theorem mask_fwServe {ps : List Part} (hsub : sub [.link, .flows, .hif, .sec, .sent, .host, .comps, .notes] ps = true)
    (at_ : RP) (c : Cmd) (d : Device) :
    blank ps (fwServe at_ c d) = blank ps d := by
  refine mask_mono hsub ?_
  unfold fwServe
  repeat' first
    | (simp (disch := decide) only [mask_finish, mask_refuse, mask_rollbackRefused, mask_setSec, blank_when, mask_ite, ite_self]; done)
    | split

theorem mask_fwRun {ps : List Part} (hsub : sub [.link, .flows, .hif, .sec, .sent, .host, .comps, .notes] ps = true)
    (n : Nat) (d : Device)  :
    blank ps (fwRun n d) = blank ps d := by
  refine mask_mono hsub ?_
  induction n generalizing d with
  | zero => rfl
  | succ n ih =>
    unfold fwRun
    split
    · rfl
    · split
      · rfl
      · simp (disch := decide) only [ih, mask_fwServe, mask_setSec, mask_ite, ite_self]

theorem mask_fwUpdateFx {ps : List Part}
    (hsub : sub [.link, .flows, .hif, .sec, .sent, .host, .comps, .notes] ps = true) (c : Cmd) (d : Device) :
    blank ps (fwUpdateFx c d) = blank ps d := by
  refine mask_mono hsub ?_
  simp (disch := decide) only [fwUpdateFx, mask_fwRun, mask_refuse, mask_setSec, blank_quiet, reclk_self, blank_when,
      mask_ite, ite_self]

theorem mask_stageDoneFx {ps : List Part}
    (hsub : sub [.link, .flows, .hif, .sec, .sent, .host, .comps, .notes] ps = true) (how : StageEnd) (d : Device) :
    blank ps (stageDoneFx how d) = blank ps d := by
  refine mask_mono hsub ?_
  unfold stageDoneFx
  repeat' first | (simp (disch := decide) only [mask_finish, mask_fwRun, mask_refuse, mask_setSec]; done) | split

theorem mask_setPwr {ps : List Part} (hsub : sub [.pwr] ps = true) (f : Power → Power) (d : Device) :
    blank ps (setPwr f d) = blank ps d := by
  refine mask_mono hsub ?_
  simp (disch := decide) only [setPwr, blank_set_pwr]

theorem mask_powerOnFx {ps : List Part}
    (hsub : sub [.clk, .tim, .sched, .link, .ing, .topo, .flows, .hif, .gest, .pxl, .corr, .out, .red, .spare, .fix, .cal, .mtr, .sec, .pwr, .regs, .wideHold, .snap, .lastRead, .proofIn] ps = true)
    (d : Device) :
    blank ps (powerOnFx d) = blank ps d := by
  refine mask_mono hsub ?_
  simp (disch := decide) only [powerOnFx, mask_resetDevice, mask_setPwr, mask_ite, ite_self]

theorem mask_brownOutFx {ps : List Part}
    (hsub : sub [.clk, .tim, .sched, .link, .ing, .topo, .flows, .hif, .gest, .pxl, .corr, .out, .red, .spare, .fix, .cal, .mtr, .sec, .pwr, .regs, .wideHold, .snap, .lastRead, .proofIn] ps = true)
    (d : Device) :
    blank ps (brownOutFx d) = blank ps d := by
  refine mask_mono hsub ?_
  simp (disch := decide) only [brownOutFx, mask_resetDevice, mask_setPwr]

theorem mask_refLostFx {ps : List Part}
    (hsub : sub [.clk, .tim, .sched, .link, .ing, .topo, .flows, .hif, .gest, .pxl, .corr, .out, .red, .spare, .fix, .cal, .mtr, .sec, .pwr, .regs, .wideHold, .snap, .lastRead, .proofIn] ps = true)
    (d : Device) :
    blank ps (refLostFx d) = blank ps d := by
  refine mask_mono hsub ?_
  simp (disch := decide) only [refLostFx, mask_resetDevice, mask_ite, ite_self]

theorem mask_coreWatchdogFx {ps : List Part}
    (hsub : sub [.clk, .tim, .sched, .link, .ing, .topo, .flows, .hif, .gest, .pxl, .corr, .out, .red, .spare, .fix, .cal, .mtr, .sec, .pwr, .regs, .wideHold, .snap, .lastRead, .proofIn] ps = true)
    (d : Device) :
    blank ps (coreWatchdogFx d) = blank ps d := by
  refine mask_mono hsub ?_
  simp (disch := decide) only [coreWatchdogFx, mask_resetDevice, mask_ite, ite_self]

theorem mask_pwrResetFx {ps : List Part}
    (hsub : sub [.clk, .tim, .sched, .link, .ing, .topo, .flows, .hif, .gest, .pxl, .corr, .out, .red, .spare, .fix, .cal, .mtr, .sec, .pwr, .regs, .wideHold, .snap, .lastRead, .proofIn] ps = true)
    (v : Nat) (d : Device) :
    blank ps (pwrResetFx v d) = blank ps d := by
  refine mask_mono hsub ?_
  simp (disch := decide) only [pwrResetFx, mask_resetDevice, mask_ite, ite_self]

theorem mask_pcieResetFx {ps : List Part} (hsub : sub [.hif] ps = true) (d : Device) :
    blank ps (pcieResetFx d) = blank ps d := by
  refine mask_mono hsub ?_
  simp (disch := decide) only [pcieResetFx, mask_setHif, mask_ite, ite_self]

theorem mask_testEngines {ps : List Part}
    (hsub : sub [.tim, .link, .flows, .hif, .red, .spare, .sent, .host, .notes] ps = true) (pass : List Bool)
    (d : Device) :
    blank ps (testEngines pass d) = blank ps d := by
  refine mask_mono hsub ?_
  unfold testEngines
  try dsimp only
  repeat' first
    | rfl
    | (simp (disch := decide) only [mask_engineFailedNotice, mask_engineGone, mask_freeNext, mask_setRed, blank_quiet, reclk_self, blank_when, mask_ite, ite_self]; done)
    | rw [mask_foldl]
    | intro d a
    | split
    | (rename_i hq; rw [snd_of_eq hq])
    | (rename_i hq _; rw [snd_of_eq hq])
    | simp (disch := decide) only [mask_engineFailedNotice, mask_engineGone, mask_freeNext, mask_setRed, blank_quiet, reclk_self, blank_when, mask_ite, ite_self]
    | dsimp only

theorem mask_testCopies {ps : List Part}
    (hsub : sub [.link, .flows, .hif, .red, .spare, .sent, .host, .notes] ps = true) (pass : List Bool) (d : Device) :
    blank ps (testCopies pass d) = blank ps d := by
  refine mask_mono hsub ?_
  simp (disch := decide) only [testCopies, mask_retireCopy, mask_setRed, blank_when, mask_ite, ite_self]

theorem mask_testPlls {ps : List Part}
    (hsub : sub [.link, .flows, .hif, .red, .spare, .sent, .host, .notes] ps = true) (mask : Nat) (d : Device) :
    blank ps (testPlls mask d) = blank ps d := by
  refine mask_mono hsub ?_
  unfold testPlls
  dsimp only
  rw [mask_foldl (fun e a => mask_pllTested (by decide) _ _ e), mask_setRed (by decide)]

theorem mask_bootTests {ps : List Part}
    (hsub : sub [.tim, .link, .ing, .flows, .hif, .red, .spare, .sent, .host, .notes] ps = true) (b : BootInputs)
    (d : Device) :
    blank ps (bootTests b d) = blank ps d := by
  refine mask_mono hsub ?_
  unfold bootTests
  simp (disch := decide) only [mask_deferredMade, mask_judged, mask_testCopies, mask_testEngines, mask_testPlls,
      blank_quiet, reclk_self, blank_when, mask_ite, ite_self]

theorem mask_bootSteps {ps : List Part}
    (hsub : sub [.tim, .link, .ing, .flows, .hif, .red, .spare, .sec, .pwr, .regs, .sent, .host, .notes] ps = true)
    (b : BootInputs) (d : Device) :
    blank ps (bootSteps b d) = blank ps d := by
  refine mask_mono hsub ?_
  unfold bootSteps
  simp (disch := decide) only [mask_applyJournal, mask_bootImage, mask_bootTests, mask_dev_setWord, mask_setPwr,
      mask_setSec, blank_quiet, reclk_self, blank_when, mask_ite, ite_self]

theorem mask_resetReleaseFx {ps : List Part}
    (hsub : sub [.tim, .link, .ing, .flows, .hif, .red, .spare, .sec, .pwr, .regs, .sent, .host, .notes] ps = true)
    (b : BootInputs) (d : Device) :
    blank ps (resetReleaseFx b d) = blank ps d := by
  refine mask_mono hsub ?_
  simp (disch := decide) only [resetReleaseFx, mask_bootSteps, mask_setPwr, blank_quiet, reclk_self, blank_when,
      mask_ite, ite_self]

theorem mask_refReturnFx {ps : List Part}
    (hsub : sub [.tim, .link, .ing, .flows, .hif, .red, .spare, .sec, .pwr, .regs, .sent, .host, .notes] ps = true)
    (d : Device) :
    blank ps (refReturnFx d) = blank ps d := by
  refine mask_mono hsub ?_
  unfold refReturnFx
  try dsimp only
  repeat' first
    | rfl
    | (simp (disch := decide) only [mask_bootSteps, mask_setPwr, blank_quiet, reclk_self, blank_when, mask_ite, ite_self]; done)
    | split
    | simp (disch := decide) only [mask_bootSteps, mask_setPwr, blank_quiet, reclk_self, blank_when, mask_ite, ite_self]

theorem mask_stateChanged {ps : List Part} (hsub : sub [.link, .flows, .hif, .sent, .host, .notes] ps = true)
    (old new : PState) (cause : Nat) (d : Device) :
    blank ps (stateChanged old new cause d) = blank ps d := by
  refine mask_mono hsub ?_
  simp (disch := decide) only [stateChanged, mask_raise]

theorem mask_enableLinks {ps : List Part} (hsub : sub [.link] ps = true) (d : Device) :
    blank ps (enableLinks d) = blank ps d := by
  refine mask_mono hsub ?_
  simp (disch := decide) only [enableLinks, blank_set_link]

theorem mask_enableIngest {ps : List Part} (hsub : sub [.ing] ps = true) (d : Device) :
    blank ps (enableIngest d) = blank ps d := by
  refine mask_mono hsub ?_
  simp (disch := decide) only [enableIngest, blank_set_ing, mask_ite, ite_self]

theorem mask_stopIngest {ps : List Part}
    (hsub : sub [.tim, .link, .ing, .flows, .hif, .spare, .sent, .host, .notes] ps = true) (d : Device) :
    blank ps (stopIngest d) = blank ps d := by
  refine mask_mono hsub ?_
  unfold stopIngest
  try dsimp only
  repeat' first
    | rfl
    | (simp (disch := decide) only [mask_ingestDown, blank_set_ing, blank_quiet, reclk_self, blank_when, mask_ite, ite_self]; done)
    | split
    | simp (disch := decide) only [mask_ingestDown, blank_set_ing, blank_quiet, reclk_self, blank_when, mask_ite, ite_self]

theorem mask_restoreRetained {ps : List Part}
    (hsub : sub [.tim, .sched, .link, .topo, .flows, .hif, .pxl, .pwr, .sent, .host, .comps, .notes] ps = true)
    (d : Device) :
    blank ps (restoreRetained d) = blank ps d := by
  refine mask_mono hsub ?_
  unfold restoreRetained
  try dsimp only
  repeat' first
    | rfl
    | (simp (disch := decide) only [mask_evaluateHeld, mask_setPwr, blank_set_tim, blank_set_sched, blank_set_topo, blank_set_flows, blank_set_hif, blank_quiet, reclk_self, blank_when, mask_ite, ite_self]; done)
    | split
    | simp (disch := decide) only [mask_evaluateHeld, mask_setPwr, blank_set_tim, blank_set_sched, blank_set_topo, blank_set_flows, blank_set_hif, blank_quiet, reclk_self, blank_when, mask_ite, ite_self]

theorem mask_enterState {ps : List Part}
    (hsub : sub [.link, .ing, .flows, .hif, .out, .pwr, .sent, .host, .notes] ps = true) (target old : PState)
    (cause : Nat) (d : Device) :
    blank ps (enterState target old cause d) = blank ps d := by
  refine mask_mono hsub ?_
  simp (disch := decide) only [enterState, mask_enableIngest, mask_lpiCheckAll, mask_setOut, mask_setPwr,
      mask_stateChanged, blank_when, mask_ite, ite_self]

theorem mask_transEnd {ps : List Part}
    (hsub : sub [.link, .ing, .flows, .hif, .out, .pwr, .sent, .host, .comps, .notes] ps = true) (us : Nat)
    (d : Device) :
    blank ps (transEnd us d) = blank ps d := by
  refine mask_mono hsub ?_
  unfold transEnd
  repeat' first | (simp (disch := decide) only [mask_enterState, mask_finish, mask_setPwr]; done) | split

theorem mask_readyHostFx {ps : List Part}
    (hsub : sub [.tim, .sched, .link, .ing, .topo, .flows, .hif, .pxl, .out, .cal, .sec, .pwr, .sent, .host, .comps, .notes] ps = true)
    (us : Nat) (d : Device) :
    blank ps (readyHostFx us d) = blank ps d := by
  refine mask_mono hsub ?_
  unfold readyHostFx
  try dsimp only
  repeat' first
    | rfl
    | (simp (disch := decide) only [mask_calBoot, mask_enableIngest, mask_enableLinks, mask_judgeStart, mask_raise, mask_restoreRetained, mask_setPwr, mask_setSec, mask_transEnd, blank_quiet, reclk_self, blank_when, mask_ite, ite_self]; done)
    | split
    | simp (disch := decide) only [mask_calBoot, mask_enableIngest, mask_enableLinks, mask_judgeStart, mask_raise, mask_restoreRetained, mask_setPwr, mask_setSec, mask_transEnd, blank_quiet, reclk_self, blank_when, mask_ite, ite_self]

theorem mask_loadStores {ps : List Part} (hsub : sub [.link, .flows, .hif, .corr, .sent, .host, .notes] ps = true)
    (d : Device) :
    blank ps (loadStores d) = blank ps d := by
  refine mask_mono hsub ?_
  simp (disch := decide) only [loadStores, mask_loadRecords, mask_startUpPass, mask_ite, ite_self]

theorem mask_readyLightFx {ps : List Part}
    (hsub : sub [.link, .ing, .flows, .hif, .corr, .out, .fix, .mtr, .pwr, .sent, .host, .comps, .notes] ps = true)
    (d : Device) :
    blank ps (readyLightFx d) = blank ps d := by
  refine mask_mono hsub ?_
  simp (disch := decide) only [readyLightFx, mask_loadFixtures, mask_loadMeter, mask_loadStores, mask_meterFromRegs,
      mask_setPwr, mask_transEnd, mask_ite, ite_self]

theorem mask_baseBad {ps : List Part} (hsub : sub [.link, .flows, .hif, .sent, .host, .notes] ps = true)
    (a detail : Nat) (d : Device) :
    blank ps (baseBad a detail d).2 = blank ps d := by
  refine mask_mono hsub ?_
  unfold baseBad
  repeat' first | (simp (disch := decide) only [mask_ringFault]; done) | split

theorem mask_headRunClock {ps : List Part} (hsub : sub [.clk, .tim, .link, .ing, .topo, .hif, .out, .mtr] ps = true)
    (d : Device) :
    blank ps (headRunClock d) = blank ps d := by
  refine mask_mono hsub ?_
  unfold headRunClock
  repeat' first
    | rfl
    | (simp (disch := decide) only [mask_restarted, blank_quiet, reclk_self, blank_when, mask_ite, ite_self]; done)
    | split

theorem mask_headRun {ps : List Part}
    (hsub : sub [.tim, .sched, .link, .topo, .flows, .hif, .pxl, .sent, .host, .comps, .notes] ps = true)
    (d : Device) :
    blank ps (headRun d) = blank ps d := by
  refine mask_mono hsub ?_
  simp (disch := decide) only [headRun, mask_baseBad, mask_enterLocked, mask_evaluateHeld, mask_raise, mask_setHif,
      mask_setTime, blank_quiet, reclk_self, blank_when, mask_ite, ite_self]

theorem mask_runEntryFx {ps : List Part}
    (hsub : sub [.clk, .tim, .sched, .link, .ing, .topo, .flows, .hif, .pxl, .out, .fix, .mtr, .pwr, .sent, .host, .comps, .notes] ps = true)
    (d : Device) :
    blank ps (runEntryFx d) = blank ps d := by
  refine mask_mono hsub ?_
  simp (disch := decide) only [runEntryFx, mask_enterState, mask_headRun, mask_headRunClock, mask_outCheck,
      mask_setFix, mask_setPwr, mask_setTime, blank_quiet, reclk_self, blank_when, mask_ite, ite_self]

theorem mask_pwrStartFx {ps : List Part} (hsub : sub [.pwr] ps = true) (v : Nat) (d : Device) :
    blank ps (pwrStartFx v d) = blank ps d := by
  refine mask_mono hsub ?_
  simp (disch := decide) only [pwrStartFx, mask_setPwr, mask_ite, ite_self]

theorem mask_fixturesStop {ps : List Part} (hsub : sub [.fix] ps = true) (d : Device) :
    blank ps (fixturesStop d) = blank ps d := by
  refine mask_mono hsub ?_
  unfold fixturesStop
  refine mask_foldl ?_ _ _
  intro d a
  repeat' (simp (disch := decide) only [mask_haltPat]; done)

theorem mask_tasksGone {ps : List Part} (hsub : sub [.pxl] ps = true) (d : Device) :
    blank ps (tasksGone d) = blank ps d := by
  refine mask_mono hsub ?_
  simp (disch := decide) only [tasksGone, mask_setPxl]

theorem mask_standbySteps {ps : List Part}
    (hsub : sub [.tim, .link, .ing, .flows, .hif, .pxl, .corr, .out, .spare, .fix, .cal, .sent, .host, .comps, .notes] ps = true)
    (d : Device) :
    blank ps (standbySteps d) = blank ps d := by
  refine mask_mono hsub ?_
  simp (disch := decide) only [standbySteps, mask_calLeave, mask_corrWriteFx, mask_expoStart, mask_fixturesStop,
      mask_outStop, mask_stopIngest, mask_tasksGone, mask_timeLost, mask_ite, ite_self]

theorem mask_transBegin {ps : List Part} (hsub : sub [.pwr] ps = true) (target : PState) (cause : Nat)
    (cmd : Option Cmd) (d : Device) :
    blank ps (transBegin target cause cmd d) = blank ps d := by
  refine mask_mono hsub ?_
  simp (disch := decide) only [transBegin, mask_setPwr]

theorem mask_moveTo {ps : List Part}
    (hsub : sub [.tim, .link, .ing, .flows, .hif, .pxl, .corr, .out, .spare, .fix, .cal, .mtr, .pwr, .sent, .host, .comps, .notes] ps = true)
    (target : PState) (cause : Nat) (cmd : Option Cmd) (d : Device) :
    blank ps (moveTo target cause cmd d) = blank ps d := by
  refine mask_mono hsub ?_
  unfold moveTo
  cases cmd <;> cases target <;> simp (disch := decide) only [mask_calLeave, mask_enterState, mask_finish, mask_outStart, mask_outStop, mask_saveStart, mask_setOut, mask_setPwr, mask_standbySteps, mask_tasksGone, mask_transBegin, mask_ite, ite_self]

theorem mask_hibernateSet {ps : List Part} (hsub : sub [.pwr] ps = true) (c : Cmd) (d : Device) :
    blank ps (hibernateSet c d) = blank ps d := by
  refine mask_mono hsub ?_
  simp (disch := decide) only [hibernateSet, mask_setPwr]

theorem mask_powerSetFx {ps : List Part}
    (hsub : sub [.tim, .sched, .link, .ing, .flows, .hif, .pxl, .corr, .out, .spare, .fix, .cal, .mtr, .pwr, .sent, .host, .comps, .notes] ps = true)
    (c : Cmd) (d : Device) :
    blank ps (powerSetFx c d) = blank ps d := by
  refine mask_mono hsub ?_
  simp (disch := decide) only [powerSetFx, mask_hibernateSet, mask_moveTo, mask_refuse, mask_schedSample, mask_setPwr,
      mask_ite, ite_self]

theorem mask_savesEnd {ps : List Part}
    (hsub : sub [.link, .flows, .hif, .corr, .spare, .mtr, .sent, .host, .comps, .notes] ps = true) (d : Device) :
    blank ps (savesEnd d) = blank ps d := by
  refine mask_mono hsub ?_
  simp (disch := decide) only [savesEnd, mask_corrWrittenFx, mask_expoDoneFx, mask_saveDoneFx]

theorem mask_retain {ps : List Part} (hsub : sub [.sched, .pwr] ps = true) (d : Device) :
    blank ps (retain d) = blank ps d := by
  refine mask_mono hsub ?_
  simp (disch := decide) only [retain, mask_setPwr]

theorem mask_storesWiped {ps : List Part} (hsub : sub [.pxl, .corr] ps = true) (d : Device) :
    blank ps (storesWiped d) = blank ps d := by
  refine mask_mono hsub ?_
  simp (disch := decide) only [storesWiped, mask_setCorr, mask_setPxl, mask_tasksGone, blank_quiet, reclk_self,
      blank_when, mask_ite, ite_self]

theorem mask_transDoneFx {ps : List Part}
    (hsub : sub [.sched, .link, .ing, .flows, .hif, .pxl, .corr, .out, .spare, .mtr, .pwr, .sent, .host, .comps, .notes] ps = true)
    (us : Nat) (d : Device) :
    blank ps (transDoneFx us d) = blank ps d := by
  refine mask_mono hsub ?_
  unfold transDoneFx
  repeat' first
    | (simp (disch := decide) only [mask_finish, mask_loadStores, mask_retain, mask_savesEnd, mask_setPwr, mask_stateChanged, mask_storesWiped, mask_transEnd, mask_ite]; done)
    | split

theorem mask_hibernated {ps : List Part}
    (hsub : sub [.clk, .tim, .sched, .link, .ing, .topo, .flows, .hif, .gest, .pxl, .corr, .out, .red, .spare, .fix, .cal, .mtr, .sec, .pwr, .regs, .wideHold, .snap, .lastRead, .proofIn, .sent, .host, .comps, .notes] ps = true)
    (d : Device) :
    blank ps (hibernated d) = blank ps d := by
  refine mask_mono hsub ?_
  rfl

theorem mask_retainRings {ps : List Part} (hsub : sub [.pwr] ps = true) (d : Device) :
    blank ps (retainRings d) = blank ps d := by
  refine mask_mono hsub ?_
  simp (disch := decide) only [retainRings, mask_setPwr]

theorem mask_wakeUp {ps : List Part}
    (hsub : sub [.tim, .link, .ing, .flows, .hif, .red, .spare, .sec, .pwr, .regs, .sent, .host, .notes] ps = true)
    (cause : Nat) (d : Device) :
    blank ps (wakeUp cause d) = blank ps d := by
  refine mask_mono hsub ?_
  simp (disch := decide) only [wakeUp, mask_bootSteps, mask_setPwr, blank_quiet, reclk_self, blank_when, mask_ite,
      ite_self]

theorem mask_linksDown {ps : List Part} (hsub : sub [.tim, .link, .ing, .flows, .hif, .sent, .host, .notes] ps = true)
    (d : Device) :
    blank ps (linksDown d) = blank ps d := by
  refine mask_mono hsub ?_
  unfold linksDown
  refine mask_foldl ?_ _ _
  intro d a
  repeat' first
    | rfl
    | (simp (disch := decide) only [mask_portDownFx, blank_quiet, reclk_self, blank_when, mask_ite, ite_self]; done)
    | split

theorem mask_powerDownFx {ps : List Part}
    (hsub : sub [.clk, .tim, .sched, .link, .ing, .topo, .flows, .hif, .gest, .pxl, .corr, .out, .red, .spare, .fix, .cal, .mtr, .sec, .pwr, .regs, .wideHold, .snap, .lastRead, .proofIn, .sent, .host, .comps, .notes] ps = true)
    (d : Device) :
    blank ps (powerDownFx d) = blank ps d := by
  refine mask_mono hsub ?_
  rfl

theorem mask_wakeNFx {ps : List Part}
    (hsub : sub [.tim, .link, .ing, .flows, .hif, .red, .spare, .sec, .pwr, .regs, .sent, .host, .notes] ps = true)
    (d : Device) :
    blank ps (wakeNFx d) = blank ps d := by
  refine mask_mono hsub ?_
  simp (disch := decide) only [wakeNFx, mask_setPwr, mask_wakeUp, blank_quiet, reclk_self, blank_when, mask_ite,
      ite_self]

theorem mask_wakeTimerFx {ps : List Part}
    (hsub : sub [.tim, .link, .ing, .flows, .hif, .red, .spare, .sec, .pwr, .regs, .sent, .host, .notes] ps = true)
    (d : Device) :
    blank ps (wakeTimerFx d) = blank ps d := by
  refine mask_mono hsub ?_
  simp (disch := decide) only [wakeTimerFx, mask_setPwr, mask_wakeUp, blank_quiet, reclk_self, blank_when, mask_ite,
      ite_self]

theorem mask_watchdogFx {ps : List Part}
    (hsub : sub [.link, .flows, .hif, .pwr, .sent, .host, .comps, .notes] ps = true) (c : Cmd) (d : Device) :
    blank ps (watchdogFx c d) = blank ps d := by
  refine mask_mono hsub ?_
  simp (disch := decide) only [watchdogFx, mask_finish, mask_refuse, mask_setPwr, blank_quiet, reclk_self, blank_when,
      mask_ite, ite_self]

theorem mask_watchdogExpiryFx {ps : List Part} (hsub : sub [.mtr, .pwr] ps = true) (d : Device) :
    blank ps (watchdogExpiryFx d) = blank ps d := by
  refine mask_mono hsub ?_
  simp (disch := decide) only [watchdogExpiryFx, mask_saveStart, mask_setPwr, blank_quiet, reclk_self, blank_when,
      mask_ite, ite_self]

theorem mask_wakeMove {ps : List Part}
    (hsub : sub [.tim, .link, .ing, .flows, .hif, .pxl, .corr, .out, .spare, .fix, .cal, .mtr, .pwr, .sent, .host, .comps, .notes] ps = true)
    (cause : Nat) (d : Device) :
    blank ps (wakeMove cause d) = blank ps d := by
  refine mask_mono hsub ?_
  simp (disch := decide) only [wakeMove, mask_moveTo, mask_setPwr, blank_quiet, reclk_self, blank_when, mask_ite,
      ite_self]

theorem mask_watchdogMove {ps : List Part}
    (hsub : sub [.tim, .link, .ing, .flows, .hif, .pxl, .corr, .out, .spare, .fix, .cal, .mtr, .pwr, .sent, .host, .comps, .notes] ps = true)
    (d : Device) :
    blank ps (watchdogMove d) = blank ps d := by
  refine mask_mono hsub ?_
  simp (disch := decide) only [watchdogMove, mask_moveTo, mask_saveStart, mask_setPwr, blank_quiet, reclk_self,
      blank_when, mask_ite, ite_self]

theorem mask_powerBoundary {ps : List Part}
    (hsub : sub [.tim, .sched, .link, .ing, .flows, .hif, .pxl, .corr, .out, .spare, .fix, .cal, .mtr, .pwr, .sent, .host, .comps, .notes] ps = true)
    (d : Device) :
    blank ps (powerBoundary d) = blank ps d := by
  refine mask_mono hsub ?_
  unfold powerBoundary
  try dsimp only
  repeat' first
    | rfl
    | (simp (disch := decide) only [mask_powerSetFx, mask_schedSample, mask_setPwr, mask_wakeMove, mask_watchdogMove, blank_quiet, reclk_self, blank_when, mask_ite, ite_self]; done)
    | rw [mask_foldl]
    | intro d a
    | split
    | (rename_i hq; rw [snd_of_eq hq])
    | (rename_i hq _; rw [snd_of_eq hq])
    | simp (disch := decide) only [mask_powerSetFx, mask_schedSample, mask_setPwr, mask_wakeMove, mask_watchdogMove, blank_quiet, reclk_self, blank_when, mask_ite, ite_self]
    | dsimp only

theorem mask_resetRequestFx {ps : List Part} (hsub : sub [.corr, .mtr, .pwr] ps = true) (c : Cmd) (d : Device) :
    blank ps (resetRequestFx c d) = blank ps d := by
  refine mask_mono hsub ?_
  unfold resetRequestFx
  try dsimp only
  repeat' first
    | rfl
    | (simp (disch := decide) only [mask_expoStart, mask_saveStart, mask_setPwr, blank_quiet, reclk_self, blank_when, mask_ite, ite_self]; done)
    | split
    | simp (disch := decide) only [mask_expoStart, mask_saveStart, mask_setPwr, blank_quiet, reclk_self, blank_when, mask_ite, ite_self]

theorem mask_hostResetSaved {ps : List Part}
    (hsub : sub [.link, .flows, .hif, .pwr, .sent, .host, .comps, .notes] ps = true) (expo ok : Bool) (d : Device) :
    blank ps (hostResetSaved expo ok d) = blank ps d := by
  refine mask_mono hsub ?_
  unfold hostResetSaved
  try dsimp only
  repeat' first
    | rfl
    | done
    | (simp (disch := decide) only [mask_complete, mask_finish, mask_setPwr, blank_quiet, reclk_self, blank_when, mask_ite, ite_self]; done)
    | rw [mask_foldl (by intro d a; repeat' first | rfl | (simp (disch := decide) only [mask_complete, mask_finish, mask_setPwr, blank_quiet, reclk_self, blank_when, mask_ite, ite_self]; done) | split)]
    | split
    | simp (disch := decide) only [mask_complete, mask_finish, mask_setPwr, blank_quiet, reclk_self, blank_when, mask_ite, ite_self]

theorem mask_meterDoneFx {ps : List Part}
    (hsub : sub [.clk, .tim, .sched, .link, .ing, .topo, .flows, .hif, .gest, .pxl, .corr, .out, .red, .spare, .fix, .cal, .mtr, .sec, .pwr, .regs, .wideHold, .snap, .lastRead, .proofIn, .sent, .host, .comps, .notes] ps = true)
    (ok : Bool) (d : Device) :
    blank ps (meterDoneFx ok d) = blank ps d := by
  refine mask_mono hsub ?_
  simp (disch := decide) only [meterDoneFx, mask_hostResetSaved, mask_resetDevice, mask_saveDoneFx, blank_quiet,
      reclk_self, mask_ite, ite_self]

theorem mask_hostResetFx {ps : List Part}
    (hsub : sub [.clk, .tim, .sched, .link, .ing, .topo, .flows, .hif, .gest, .pxl, .corr, .out, .red, .spare, .fix, .cal, .mtr, .sec, .pwr, .regs, .wideHold, .snap, .lastRead, .proofIn] ps = true)
    (d : Device) :
    blank ps (hostResetFx d) = blank ps d := by
  refine mask_mono hsub ?_
  unfold hostResetFx
  repeat' first | rfl | split

theorem mask_clearRead {ps : List Part} (hsub : sub [.link, .ing, .pxl, .fix, .mtr, .regs] ps = true) (a : Nat)
    (d : Device) :
    blank ps (clearRead a d) = blank ps d := by
  refine mask_mono hsub ?_
  simp (disch := decide) only [clearRead, mask_dev_setPort, mask_dev_setWord, mask_setFix, mask_setIng, mask_setMtr,
      mask_setPxl, mask_ite, ite_self]

theorem mask_takeSnap {ps : List Part} (hsub : sub [.snap] ps = true) (base n : Nat) (d : Device) :
    blank ps (takeSnap base n d) = blank ps d := by
  refine mask_mono hsub ?_
  simp (disch := decide) only [takeSnap, blank_set_snap]

theorem mask_readReg {ps : List Part}
    (hsub : sub [.tim, .link, .ing, .pxl, .fix, .mtr, .regs, .snap, .lastRead] ps = true) (keep : Bool) (a : Nat)
    (d : Device) :
    blank ps (readReg keep a d) = blank ps d := by
  refine mask_mono hsub ?_
  unfold readReg
  repeat' first
    | (simp (disch := decide) only [mask_clearRead, mask_expoReadFx, mask_freeNext, mask_rdmDataFx, mask_takeSnap, blank_set_lastRead, mask_ite, ite_self]; done)
    | split

theorem mask_readBy {ps : List Part}
    (hsub : sub [.tim, .link, .ing, .pxl, .fix, .mtr, .regs, .snap, .lastRead] ps = true) (path : Path) (a : Nat)
    (d : Device) :
    blank ps (readBy path a d) = blank ps d := by
  refine mask_mono hsub ?_
  simp (disch := decide) only [readBy, mask_readReg, mask_ite, ite_self]

theorem mask_putWord {ps : List Part}
    (hsub : sub [.tim, .link, .ing, .flows, .hif, .out, .red, .spare, .mtr, .regs, .sent, .host, .notes] ps = true)
    (a v : Nat) (d : Device) :
    blank ps (putWord a v d) = blank ps d := by
  refine mask_mono hsub ?_
  unfold putWord
  try dsimp only
  repeat' first
    | rfl
    | (simp (disch := decide) only [mask_dev_setWord, mask_fecSwitch, mask_ingestDown, mask_meterFromRegs, mask_setHif, mask_setOut, mask_settleShare, blank_quiet, reclk_self, blank_when, mask_ite, ite_self]; done)
    | split
    | simp (disch := decide) only [mask_dev_setWord, mask_fecSwitch, mask_ingestDown, mask_meterFromRegs, mask_setHif, mask_setOut, mask_settleShare, blank_quiet, reclk_self, blank_when, mask_ite, ite_self]

theorem mask_applySetting {ps : List Part}
    (hsub : sub [.tim, .link, .ing, .flows, .hif, .out, .red, .spare, .mtr, .regs, .wideHold, .sent, .host, .notes] ps = true)
    (a v : Nat) (d : Device) :
    blank ps (applySetting a v d) = blank ps d := by
  refine mask_mono hsub ?_
  unfold applySetting
  try dsimp only
  repeat' first
    | rfl
    | done
    | (simp (disch := decide) only [mask_putWord, blank_set_wideHold, blank_quiet, reclk_self, blank_when, mask_ite, ite_self]; done)
    | rw [mask_foldl (by intro d a; repeat' first | rfl | (simp (disch := decide) only [mask_putWord, blank_set_wideHold, blank_quiet, reclk_self, blank_when, mask_ite, ite_self]; done) | split)]
    | split
    | simp (disch := decide) only [mask_putWord, blank_set_wideHold, blank_quiet, reclk_self, blank_when, mask_ite, ite_self]

theorem mask_lockedWrite {ps : List Part} (hsub : sub [.hif, .sec] ps = true) (a : Nat) (d : Device) :
    blank ps (lockedWrite a d) = blank ps d := by
  refine mask_mono hsub ?_
  simp (disch := decide) only [lockedWrite, mask_rateEvent, mask_setSec]

theorem mask_writeReg {ps : List Part}
    (hsub : sub [.tim, .link, .ing, .flows, .hif, .corr, .out, .red, .spare, .mtr, .sec, .pwr, .regs, .wideHold, .sent, .host, .notes] ps = true)
    (a v : Nat) (d : Device) :
    blank ps (writeReg a v d) = blank ps d := by
  refine mask_mono hsub ?_
  unfold writeReg
  rw [mask_ite, mask_ite, mask_ite, mask_ite, mask_ite, mask_ite, mask_ite, mask_ite, mask_ite, mask_ite, mask_ite, mask_ite,
    mask_ite, mask_ite, mask_ite]
  rw [mask_lockedWrite (by decide), mask_setSec (by decide), mask_pwrStartFx (by decide), mask_setPwr (by decide), mask_ringCfgFx (by decide), mask_setHif (by decide), mask_expoWriteFx (by decide), mask_outCtrlFx (by decide), mask_setMtr (by decide), mask_applySetting (by decide)]
  (repeat' refine ite_const ?_ ?_) <;> rfl

theorem mask_registerWriteFx {ps : List Part}
    (hsub : sub [.clk, .tim, .sched, .link, .ing, .topo, .flows, .hif, .gest, .pxl, .corr, .out, .red, .spare, .fix, .cal, .mtr, .sec, .pwr, .regs, .wideHold, .snap, .lastRead, .proofIn, .sent, .host, .notes] ps = true)
    (a v : Nat) (d : Device) :
    blank ps (registerWriteFx a v d) = blank ps d := by
  refine mask_mono hsub ?_
  simp (disch := decide) only [registerWriteFx, mask_pwrResetFx, mask_writeReg, blank_quiet, reclk_self, blank_when,
      mask_ite, ite_self]

theorem mask_ctrlRespond {ps : List Part} (hsub : sub [.link, .flows, .sent] ps = true) (p : Nat) (h : Hdr)
    (payload : List Byte) (d : Device) :
    blank ps (ctrlRespond p h payload d) = blank ps d := by
  refine mask_mono hsub ?_
  unfold ctrlRespond
  refine mask_foldl ?_ _ _
  intro d a
  repeat' (simp (disch := decide) only [mask_sendOwn]; done)

theorem mask_ctrlReadAll {ps : List Part}
    (hsub : sub [.tim, .link, .ing, .pxl, .fix, .mtr, .regs, .snap, .lastRead] ps = true) (es : List (Nat × Nat))
    (d : Device) :
    blank ps (ctrlReadAll es d).2.2 = blank ps d := by
  refine mask_mono hsub ?_
  have hgo : ∀ (es : List (Nat × Nat)) (z : List Byte × Bool × Device) (g : List Byte × Bool × Device → Nat × Nat → List Byte × Bool × Device),
      (∀ z a, blank [.tim, .link, .ing, .pxl, .fix, .mtr, .regs, .snap, .lastRead] (g z a).2.2 = blank [.tim, .link, .ing, .pxl, .fix, .mtr, .regs, .snap, .lastRead] z.2.2) → blank [.tim, .link, .ing, .pxl, .fix, .mtr, .regs, .snap, .lastRead] (es.foldl g z).2.2 = blank [.tim, .link, .ing, .pxl, .fix, .mtr, .regs, .snap, .lastRead] z.2.2 := by
    intro es z g hg
    induction es generalizing z with
    | nil => rfl
    | cons a es ih => rw [List.foldl_cons, ih, hg]
  unfold ctrlReadAll
  rw [hgo]
  intro z a
  dsimp only
  split
  · rw [mask_readReg (by decide)]
  · rfl

theorem mask_ctrlReadFx {ps : List Part}
    (hsub : sub [.tim, .link, .ing, .topo, .flows, .hif, .pxl, .spare, .fix, .mtr, .regs, .snap, .lastRead, .sent, .host, .notes] ps = true)
    (f : RxFrame) (d : Device) :
    blank ps (ctrlReadFx f d) = blank ps d := by
  refine mask_mono hsub ?_
  exact mask_takeNumbered (by decide) _ _ _ _ (by intro h b d; simp (disch := decide) only [mask_ctrlReadAll, mask_ctrlRespond, mask_ite, ite_self])

theorem mask_ctrlWriteAll {ps : List Part}
    (hsub : sub [.tim, .link, .ing, .flows, .hif, .corr, .out, .red, .spare, .mtr, .sec, .pwr, .regs, .wideHold, .sent, .host, .notes] ps = true)
    (es : List (Nat × Nat)) (d : Device) :
    blank ps (ctrlWriteAll es d).2.2 = blank ps d := by
  refine mask_mono hsub ?_
  have hgo : ∀ (es : List (Nat × Nat)) (z : Bool × Bool × Device) (g : Bool × Bool × Device → Nat × Nat → Bool × Bool × Device),
      (∀ z a, blank [.tim, .link, .ing, .flows, .hif, .corr, .out, .red, .spare, .mtr, .sec, .pwr, .regs, .wideHold, .sent, .host, .notes] (g z a).2.2 = blank [.tim, .link, .ing, .flows, .hif, .corr, .out, .red, .spare, .mtr, .sec, .pwr, .regs, .wideHold, .sent, .host, .notes] z.2.2) → blank [.tim, .link, .ing, .flows, .hif, .corr, .out, .red, .spare, .mtr, .sec, .pwr, .regs, .wideHold, .sent, .host, .notes] (es.foldl g z).2.2 = blank [.tim, .link, .ing, .flows, .hif, .corr, .out, .red, .spare, .mtr, .sec, .pwr, .regs, .wideHold, .sent, .host, .notes] z.2.2 := by
    intro es z g hg
    induction es generalizing z with
    | nil => rfl
    | cons a es ih => rw [List.foldl_cons, ih, hg]
  unfold ctrlWriteAll
  rw [hgo]
  intro z a
  dsimp only
  split
  · rw [mask_writeReg (by decide)]
  · rfl

theorem mask_ctrlWriteCore {ps : List Part}
    (hsub : sub [.tim, .link, .ing, .topo, .flows, .hif, .corr, .out, .red, .spare, .mtr, .sec, .pwr, .regs, .wideHold, .sent, .host, .notes] ps = true)
    (f : RxFrame) (d : Device) :
    blank ps (ctrlWriteCore f d) = blank ps d := by
  refine mask_mono hsub ?_
  exact mask_takeNumbered (by decide) _ _ _ _ (by intro h b d; simp (disch := decide) only [mask_ctrlRespond, mask_ctrlWriteAll, mask_setPwr, blank_quiet, reclk_self, blank_when, mask_ite, ite_self])

theorem mask_ctrlWriteFx {ps : List Part}
    (hsub : sub [.clk, .tim, .sched, .link, .ing, .topo, .flows, .hif, .gest, .pxl, .corr, .out, .red, .spare, .fix, .cal, .mtr, .sec, .pwr, .regs, .wideHold, .snap, .lastRead, .proofIn, .sent, .host, .notes] ps = true)
    (f : RxFrame) (d : Device) :
    blank ps (ctrlWriteFx f d) = blank ps d := by
  refine mask_mono hsub ?_
  simp (disch := decide) only [ctrlWriteFx, mask_ctrlWriteCore, mask_resetDevice, blank_quiet, reclk_self, mask_ite,
      ite_self]

theorem mask_ctrlUnlistedFx {ps : List Part}
    (hsub : sub [.link, .ing, .topo, .flows, .hif, .spare, .regs, .sent, .host, .notes] ps = true) (f : RxFrame)
    (d : Device) :
    blank ps (ctrlUnlistedFx f d) = blank ps d := by
  refine mask_mono hsub ?_
  exact mask_takeNumbered (by decide) _ _ _ _ (by intro h b d; simp (disch := decide) only [mask_ctrlRespond, mask_ite, ite_self])

theorem mask_proofFx {ps : List Part}
    (hsub : sub [.link, .ing, .topo, .flows, .hif, .spare, .regs, .proofIn, .sent, .host, .notes] ps = true)
    (f : RxFrame) (d : Device) :
    blank ps (proofFx f d) = blank ps d := by
  refine mask_mono hsub ?_
  exact mask_takeNumbered (by decide) _ _ _ _ (by intro h b d; simp (disch := decide) only [blank_set_proofIn])

theorem mask_acquireFx {ps : List Part}
    (hsub : sub [.clk, .tim, .sched, .link, .topo, .flows, .hif, .pxl, .out, .sent, .host, .comps, .notes] ps = true)
    (rate : Int) (d : Device) :
    blank ps (acquireFx rate d) = blank ps d := by
  refine mask_mono hsub ?_
  unfold acquireFx
  repeat' first
    | rfl
    | (simp (disch := decide) only [mask_lockTaken, mask_outCheck, mask_setTime, mask_storeLambdas, blank_set_clk, blank_quiet, reclk_self, blank_when, mask_ite, ite_self]; done)
    | split

theorem mask_readoptDark {ps : List Part}
    (hsub : sub [.link, .flows, .hif, .pxl, .out, .fix, .sent, .host, .notes] ps = true) (v : Nat) (d : Device) :
    blank ps (readoptDark v d) = blank ps d := by
  refine mask_mono hsub ?_
  simp (disch := decide) only [readoptDark, mask_fixturesStop, mask_outStop, mask_setFix, mask_setPxl, mask_tasksGone]

theorem mask_leftDark {ps : List Part}
    (hsub : sub [.tim, .link, .flows, .hif, .pxl, .out, .fix, .sent, .host, .notes] ps = true)
    (was : Option (BitVec 12)) (d : Device) :
    blank ps (leftDark was d) = blank ps d := by
  refine mask_mono hsub ?_
  simp (disch := decide) only [leftDark, mask_freeNext, mask_readoptDark, mask_setOut, blank_quiet, reclk_self,
      blank_when, mask_ite, ite_self]

theorem mask_readoptClear {ps : List Part} (hsub : sub [.sched, .flows, .out] ps = true) (d : Device) :
    blank ps (readoptClear d) = blank ps d := by
  refine mask_mono hsub ?_
  rfl

theorem mask_readoptStop {ps : List Part}
    (hsub : sub [.tim, .sched, .link, .flows, .hif, .pxl, .out, .fix, .sent, .host, .notes] ps = true) (pair : Nat)
    (d : Device) :
    blank ps (readoptStop pair d) = blank ps d := by
  refine mask_mono hsub ?_
  simp (disch := decide) only [readoptStop, mask_freeNext, mask_raise, mask_readoptClear, mask_readoptDark,
      mask_unjudge]

theorem mask_readoptFx {ps : List Part}
    (hsub : sub [.clk, .tim, .sched, .link, .ing, .topo, .flows, .hif, .pxl, .out, .fix, .mtr, .sent, .host, .notes] ps = true)
    (d : Device) :
    blank ps (readoptFx d) = blank ps d := by
  refine mask_mono hsub ?_
  unfold readoptFx
  try dsimp only
  repeat' first
    | rfl
    | (simp (disch := decide) only [mask_presentOf, mask_readoptStop, mask_restarted, mask_setOut, mask_setTime, blank_quiet, reclk_self, blank_when, mask_ite, ite_self]; done)
    | split
    | simp (disch := decide) only [mask_presentOf, mask_readoptStop, mask_restarted, mask_setOut, mask_setTime, blank_quiet, reclk_self, blank_when, mask_ite, ite_self]

theorem mask_ccmAdmit {ps : List Part}
    (hsub : sub [.sched, .link, .flows, .hif, .pxl, .sent, .host, .comps, .notes] ps = true) (c : Cmd) (d : Device) :
    blank ps (ccmAdmit c d) = blank ps d := by
  refine mask_mono hsub ?_
  simp (disch := decide) only [ccmAdmit, mask_admitCmd, mask_refuse, mask_sampleStore, mask_setPxl, mask_tidyStaging,
      blank_quiet, reclk_self, blank_when, mask_ite, ite_self]

theorem mask_admission {ps : List Part}
    (hsub : sub [.sched, .link, .topo, .flows, .hif, .pxl, .sec, .sent, .host, .comps, .notes] ps = true) (op : Nat)
    (c : Cmd) (d : Device) :
    blank ps (admission op c d) = blank ps d := by
  refine mask_mono hsub ?_
  simp (disch := decide) only [admission, mask_admitCmd, mask_ccmAdmit, mask_lifecycleSetFx, mask_mapLoadFx,
      mask_refuse, blank_quiet, reclk_self, blank_when, mask_ite, ite_self]

theorem mask_fetched {ps : List Part} (hsub : sub [.hif] ps = true) (d : Device) :
    blank ps (fetched d) = blank ps d := by
  refine mask_mono hsub ?_
  simp (disch := decide) only [fetched, mask_setHif]

theorem mask_fetchFx {ps : List Part}
    (hsub : sub [.sched, .link, .topo, .flows, .hif, .pxl, .sec, .sent, .host, .comps, .notes] ps = true)
    (b : List Byte) (busErr : Bool) (host : HostRead) (d : Device) :
    blank ps (fetchFx b busErr host d) = blank ps d := by
  refine mask_mono hsub ?_
  simp (disch := decide) only [fetchFx, mask_admission, mask_fetched, mask_rateEvent, mask_refuse, mask_sendRequest,
      mask_setHif, blank_quiet, reclk_self, blank_when, mask_ite, ite_self]

theorem mask_runLow {ps : List Part}
    (hsub : sub [.tim, .sched, .link, .ing, .topo, .flows, .hif, .gest, .pxl, .corr, .out, .spare, .cal, .sec, .pwr, .regs, .sent, .host, .comps, .notes] ps = true)
    (op : Nat) (c : Cmd) (d : Device) :
    blank ps (runLow op c d) = blank ps d := by
  refine mask_mono hsub ?_
  unfold runLow
  try dsimp only
  repeat' first
    | rfl
    | (simp (disch := decide) only [mask_expoStart, mask_macsecFx, mask_nopFx, mask_outEnableFx, mask_portStatsFx, mask_portThresholdFx, mask_schedCancelFx, mask_shutterSetFx, mask_streamQueryFx, mask_streamSetFx, mask_timeQueryFx, mask_timeThresholdFx, mask_wearSetFx, blank_quiet, reclk_self, blank_when, mask_ite, ite_self]; done)
    | split
    | simp (disch := decide) only [mask_expoStart, mask_macsecFx, mask_nopFx, mask_outEnableFx, mask_portStatsFx, mask_portThresholdFx, mask_schedCancelFx, mask_shutterSetFx, mask_streamQueryFx, mask_streamSetFx, mask_timeQueryFx, mask_timeThresholdFx, mask_wearSetFx, blank_quiet, reclk_self, blank_when, mask_ite, ite_self]

theorem mask_runMid {ps : List Part}
    (hsub : sub [.tim, .link, .ing, .flows, .hif, .red, .spare, .fix, .cal, .sent, .host, .comps, .notes] ps = true)
    (op : Nat) (c : Cmd) (d : Device) :
    blank ps (runMid op c d) = blank ps d := by
  refine mask_mono hsub ?_
  unfold runMid
  iterate 14 rw [mask_ite]
  rw [mask_redundancyQueryFx (by decide)]
  rw [mask_redundancyTestFx (by decide)]
  rw [mask_healthQueryFx (by decide)]
  rw [mask_spareApplyFx (by decide)]
  rw [mask_dmxConfigFx (by decide)]
  rw [mask_rdmRequestFx (by decide)]
  rw [mask_stringConfigFx (by decide)]
  rw [mask_patternLoadFx (by decide)]
  rw [mask_patternControlFx (by decide)]
  rw [mask_sensorQueryFx (by decide)]
  rw [mask_calLinkFx (by decide)]
  rw [mask_calColourFx (by decide)]
  rw [mask_calMeterFx (by decide)]
  rw [mask_calCancelFx (by decide)]
  rw [mask_nopFx (by decide)]
  iterate 14 refine ite_const rfl ?_
  rfl

theorem mask_runHigh {ps : List Part}
    (hsub : sub [.tim, .sched, .link, .ing, .flows, .hif, .pxl, .corr, .out, .spare, .fix, .cal, .mtr, .sec, .pwr, .sent, .host, .comps, .notes] ps = true)
    (op : Nat) (c : Cmd) (d : Device) :
    blank ps (runHigh op c d) = blank ps d := by
  refine mask_mono hsub ?_
  simp (disch := decide) only [runHigh, mask_debugUnlockFx, mask_energyQueryFx, mask_fwUpdateFx, mask_keyLoadFx,
      mask_lifecycleWork, mask_meterConfigFx, mask_nopFx, mask_powerSetFx, mask_resetRequestFx, mask_rollPoint,
      mask_saveStart, mask_watchdogFx, blank_quiet, reclk_self, blank_when, mask_ite, ite_self]

theorem mask_runOp {ps : List Part}
    (hsub : sub [.tim, .sched, .link, .ing, .topo, .flows, .hif, .gest, .pxl, .corr, .out, .red, .spare, .fix, .cal, .mtr, .sec, .pwr, .regs, .sent, .host, .comps, .notes] ps = true)
    (op : Nat) (c : Cmd) (d : Device) :
    blank ps (runOp op c d) = blank ps d := by
  refine mask_mono hsub ?_
  simp (disch := decide) only [runOp, mask_runHigh, mask_runLow, mask_runMid, mask_ite, ite_self]

theorem mask_dropEntries {ps : List Part} (hsub : sub [.sched, .link, .flows, .hif, .sent, .host, .notes] ps = true)
    (es : List Entry) (d : Device) :
    blank ps (dropEntries es d) = blank ps d := by
  refine mask_mono hsub ?_
  unfold dropEntries
  simp (disch := decide) only [mask_schedSample]
  rw [mask_foldl (by intro d a; repeat' rfl)]

theorem mask_runDisplay {ps : List Part}
    (hsub : sub [.link, .flows, .hif, .pxl, .corr, .sent, .host, .comps, .notes] ps = true) (f : BitVec 32)
    (e : Entry) (d : Device) :
    blank ps (runDisplay f e d) = blank ps d := by
  refine mask_mono hsub ?_
  simp (disch := decide) only [runDisplay, mask_ccmLoadFx, mask_encLutFx, mask_lutLoadFx, mask_scalerLoadFx, mask_ite,
      ite_self]

theorem mask_commitDisplay {ps : List Part}
    (hsub : sub [.sched, .link, .flows, .hif, .pxl, .corr, .sent, .host, .comps, .notes] ps = true) (f : BitVec 32)
    (d : Device) :
    blank ps (commitDisplay f d) = blank ps d := by
  refine mask_mono hsub ?_
  unfold commitDisplay
  rw [mask_foldl (by intro d a; repeat' (simp (disch := decide) only [mask_layerSetTurn, mask_runDisplay, mask_ite, ite_self]; done))]
  simp (disch := decide) only [mask_dropEntries, mask_layersFor]

theorem mask_cutoffWork {ps : List Part}
    (hsub : sub [.tim, .sched, .link, .flows, .hif, .gest, .pxl, .corr, .out, .spare, .regs, .proofIn, .sent, .host, .comps, .notes] ps = true)
    (f : BitVec 32) (d : Device) :
    blank ps (cutoffWork f d) = blank ps d := by
  refine mask_mono hsub ?_
  simp (disch := decide) only [cutoffWork, mask_buildGraph, mask_commitDisplay, mask_ingestCutoff, mask_layersFor,
      mask_loadBegin, mask_setTime, mask_staleGraph, blank_quiet, reclk_self, blank_when, mask_ite, ite_self]

theorem mask_settle {ps : List Part}
    (hsub : sub [.clk, .tim, .sched, .link, .flows, .hif, .gest, .pxl, .corr, .out, .spare, .regs, .proofIn, .sent, .host, .comps, .notes] ps = true)
    (was : RP) (d : Device) :
    blank ps (settle was d) = blank ps d := by
  refine mask_mono hsub ?_
  simp (disch := decide) only [settle, mask_cutoffWork, mask_staleGraph, blank_quiet, reclk_self, blank_when,
      mask_ite, ite_self]

theorem mask_runStep {ps : List Part}
    (hsub : sub [.clk, .tim, .sched, .link, .flows, .hif, .gest, .pxl, .corr, .out, .spare, .fix, .regs, .proofIn, .sent, .host, .comps, .notes] ps = true)
    (e : Entry) (d : Device) :
    blank ps (runStep e d) = blank ps d := by
  refine mask_mono hsub ?_
  simp (disch := decide) only [runStep, mask_dropEntry, mask_schedSample, mask_settle, mask_tryStep, blank_set_sched,
      blank_quiet, reclk_self, blank_when, mask_ite, ite_self]

theorem mask_mapLate {ps : List Part}
    (hsub : sub [.sched, .link, .flows, .hif, .sent, .host, .comps, .notes] ps = true) (e : Entry) (d : Device) :
    blank ps (mapLate e d) = blank ps d := by
  refine mask_mono hsub ?_
  simp (disch := decide) only [mapLate, mask_dropEntry, mask_eventLate, mask_refuse, mask_schedSample,
      blank_set_sched, blank_quiet, reclk_self, blank_when, mask_ite, ite_self]

theorem mask_runOut {ps : List Part}
    (hsub : sub [.tim, .sched, .link, .flows, .hif, .out, .sent, .host, .comps, .notes] ps = true) (e : Entry)
    (d : Device) :
    blank ps (runOut e d) = blank ps d := by
  refine mask_mono hsub ?_
  unfold runOut
  try dsimp only
  repeat' first
    | rfl
    | (simp (disch := decide) only [mask_dropEntry, mask_layoutFx, mask_mapLate, mask_outJudge, mask_outTurn, mask_schedSample, blank_quiet, reclk_self, blank_when, mask_ite, ite_self]; done)
    | split
    | simp (disch := decide) only [mask_dropEntry, mask_layoutFx, mask_mapLate, mask_outJudge, mask_outTurn, mask_schedSample, blank_quiet, reclk_self, blank_when, mask_ite, ite_self]

theorem mask_runPlain {ps : List Part}
    (hsub : sub [.tim, .sched, .link, .ing, .topo, .flows, .hif, .gest, .pxl, .corr, .out, .red, .spare, .fix, .cal, .mtr, .sec, .pwr, .regs, .sent, .host, .comps, .notes] ps = true)
    (e : Entry) (d : Device) :
    blank ps (runPlain e d) = blank ps d := by
  refine mask_mono hsub ?_
  simp (disch := decide) only [runPlain, mask_dropEntry, mask_runOp, mask_schedSample]

theorem mask_runOne {ps : List Part}
    (hsub : sub [.clk, .tim, .sched, .link, .ing, .topo, .flows, .hif, .gest, .pxl, .corr, .out, .red, .spare, .fix, .cal, .mtr, .sec, .pwr, .regs, .proofIn, .sent, .host, .comps, .notes] ps = true)
    (e : Entry) (d : Device) :
    blank ps (runOne e d) = blank ps d := by
  refine mask_mono hsub ?_
  simp (disch := decide) only [runOne, mask_runOut, mask_runPlain, mask_runStep, blank_set_clk, blank_quiet,
      reclk_self, mask_ite, ite_self]

theorem mask_targetsFirst {ps : List Part}
    (hsub : sub [.clk, .tim, .sched, .link, .ing, .topo, .flows, .hif, .gest, .pxl, .corr, .out, .red, .spare, .fix, .cal, .mtr, .sec, .pwr, .regs, .proofIn, .sent, .host, .comps, .notes] ps = true)
    (e : Entry) (d : Device) :
    blank ps (targetsFirst e d) = blank ps d := by
  refine mask_mono hsub ?_
  unfold targetsFirst
  try dsimp only
  repeat' first
    | rfl
    | done
    | (simp (disch := decide) only [mask_commitDisplay, mask_runOne, blank_quiet, reclk_self, blank_when, mask_ite, ite_self]; done)
    | rw [mask_foldl (by intro d a; repeat' first | rfl | (simp (disch := decide) only [mask_commitDisplay, mask_runOne, blank_quiet, reclk_self, blank_when, mask_ite, ite_self]; done) | split)]
    | split
    | simp (disch := decide) only [mask_commitDisplay, mask_runOne, blank_quiet, reclk_self, blank_when, mask_ite, ite_self]

theorem mask_recordHook {ps : List Part}
    (hsub : sub [.link, .flows, .hif, .corr, .spare, .cal, .sent, .host, .comps, .notes] ps = true)
    (old : Option NodeRecord) (d : Device) :
    blank ps (recordHook old d) = blank ps d := by
  refine mask_mono hsub ?_
  unfold recordHook
  repeat' first | (simp (disch := decide) only [mask_calAbort, mask_compareRecords, mask_ite, ite_self]; done) | split

theorem mask_mapInForce {ps : List Part}
    (hsub : sub [.tim, .sched, .link, .ing, .topo, .flows, .hif, .gest, .corr, .spare, .cal, .sent, .host, .comps, .notes] ps = true)
    (l : MapLoad) (m : SysMap) (d : Device) :
    blank ps (mapInForce l m d) = blank ps d := by
  refine mask_mono hsub ?_
  unfold mapInForce
  dsimp only
  simp (disch := decide) only [mask_clearSource, mask_fecSwitch, mask_finish, mask_recheckSlots, mask_recordHook,
      mask_schedSample, mask_sendRequestOn, mask_setHif, blank_set_topo, blank_quiet, reclk_self, blank_when,
      mask_ite, ite_self]
  rw [mask_foldl (fun e a => by simp (disch := decide) only [mask_clearSource, mask_fecSwitch, mask_finish, mask_recheckSlots, mask_recordHook, mask_schedSample, mask_sendRequestOn, mask_setHif, blank_set_topo, blank_quiet, reclk_self, blank_when, mask_ite, ite_self])]
  simp (disch := decide) only [mask_clearSource, mask_fecSwitch, mask_finish, mask_recheckSlots, mask_recordHook,
      mask_schedSample, mask_sendRequestOn, mask_setHif, blank_set_topo, blank_quiet, reclk_self, blank_when,
      mask_ite, ite_self]
  rw [mask_foldl (fun e a => mask_clearSource (by decide) _ _)]
  simp (disch := decide) only [mask_clearSource, mask_fecSwitch, mask_finish, mask_recheckSlots, mask_recordHook,
      mask_schedSample, mask_sendRequestOn, mask_setHif, blank_set_topo, blank_quiet, reclk_self, blank_when,
      mask_ite, ite_self]

theorem mask_mapPutOff {ps : List Part} (hsub : sub [.link, .topo, .flows, .sent] ps = true) (f : BitVec 32)
    (l : MapLoad) (m : SysMap) (d : Device) :
    blank ps (mapPutOff f l m d) = blank ps d := by
  refine mask_mono hsub ?_
  simp (disch := decide) only [mapPutOff, mask_announceAt, mask_withdrawMap, blank_set_topo, blank_set_sent,
      blank_quiet, reclk_self, blank_when, mask_ite, ite_self]

theorem mask_mapBoundary {ps : List Part}
    (hsub : sub [.tim, .sched, .link, .ing, .topo, .flows, .hif, .gest, .corr, .spare, .cal, .sent, .host, .comps, .notes] ps = true)
    (f : BitVec 32) (d : Device) :
    blank ps (mapBoundary f d) = blank ps d := by
  refine mask_mono hsub ?_
  unfold mapBoundary
  try dsimp only
  repeat' first
    | rfl
    | (simp (disch := decide) only [mask_announceMap, mask_mapInForce, mask_mapPutOff, blank_quiet, reclk_self, blank_when, mask_ite, ite_self]; done)
    | split
    | simp (disch := decide) only [mask_announceMap, mask_mapInForce, mask_mapPutOff, blank_quiet, reclk_self, blank_when, mask_ite, ite_self]

theorem mask_runNext {ps : List Part}
    (hsub : sub [.clk, .tim, .sched, .link, .ing, .topo, .flows, .hif, .gest, .pxl, .corr, .out, .red, .spare, .fix, .cal, .mtr, .sec, .pwr, .regs, .proofIn, .sent, .host, .comps, .notes] ps = true)
    (e : Entry) (d : Device) :
    blank ps (runNext e d) = blank ps d := by
  refine mask_mono hsub ?_
  simp (disch := decide) only [runNext, mask_mapBoundary, mask_runOne, mask_targetsFirst, blank_set_clk, blank_quiet,
      reclk_self, mask_ite, ite_self]

theorem mask_alignedFx {ps : List Part}
    (hsub : sub [.clk, .tim, .sched, .link, .ing, .topo, .flows, .hif, .gest, .pxl, .corr, .out, .red, .spare, .fix, .cal, .mtr, .sec, .pwr, .regs, .proofIn, .sent, .host, .comps, .notes] ps = true)
    (d : Device) :
    blank ps (alignedFx d) = blank ps d := by
  refine mask_mono hsub ?_
  unfold alignedFx
  repeat' first | (simp (disch := decide) only [mask_runNext, mask_ite, ite_self]; done) | split

theorem mask_runDue {ps : List Part}
    (hsub : sub [.clk, .tim, .sched, .link, .ing, .topo, .flows, .hif, .gest, .pxl, .corr, .out, .red, .spare, .fix, .cal, .mtr, .sec, .pwr, .regs, .proofIn, .sent, .host, .comps, .notes] ps = true)
    (n : Nat) (p : RP) (d : Device)  :
    blank ps (runDue n p d) = blank ps d := by
  refine mask_mono hsub ?_
  induction n generalizing d with
  | zero => rfl
  | succ n ih =>
    unfold runDue
    split
    · rfl
    · split
      · rfl
      · rw [ih]; exact mask_runNext (by decide) _ _

theorem mask_dueBy {ps : List Part}
    (hsub : sub [.clk, .tim, .sched, .link, .ing, .topo, .flows, .hif, .gest, .pxl, .corr, .out, .red, .spare, .fix, .cal, .mtr, .sec, .pwr, .regs, .proofIn, .sent, .host, .comps, .notes] ps = true)
    (p : RP) (d : Device) :
    blank ps (dueBy p d) = blank ps d := by
  refine mask_mono hsub ?_
  simp (disch := decide) only [dueBy, mask_runDue]

theorem mask_comeTo {ps : List Part}
    (hsub : sub [.clk, .tim, .sched, .link, .ing, .topo, .flows, .hif, .gest, .pxl, .corr, .out, .red, .spare, .fix, .cal, .mtr, .sec, .pwr, .regs, .proofIn, .sent, .host, .comps, .notes] ps = true)
    (p : RP) (fx : Device → Device) (d : Device) (hf : ∀ d, blank ps (fx d) = blank ps d) :
    blank ps (comeTo p fx d) = blank ps d := by
  have hd : blank ps (dueBy p d) = blank ps d := mask_mono hsub (mask_dueBy (by decide) p d)
  have hc : has ps .clk = true := has_of_sub hsub rfl
  unfold comeTo
  dsimp only
  split
  · exact hd
  · rw [mask_quiet (hf _), blank_set_clk hc]; exact hd

theorem mask_dueFirst {ps : List Part}
    (hsub : sub [.clk, .tim, .sched, .link, .ing, .topo, .flows, .hif, .gest, .pxl, .corr, .out, .red, .spare, .fix, .cal, .mtr, .sec, .pwr, .regs, .proofIn, .sent, .host, .comps, .notes] ps = true)
    (at_ : Device → Option RP) (d : Device) :
    blank ps (dueFirst at_ d) = blank ps d := by
  refine mask_mono hsub ?_
  unfold dueFirst
  try dsimp only
  repeat' first
    | rfl
    | (simp (disch := decide) only [mask_dueBy, blank_quiet, reclk_self, blank_when, mask_ite, ite_self]; done)
    | split
    | simp (disch := decide) only [mask_dueBy, blank_quiet, reclk_self, blank_when, mask_ite, ite_self]

theorem mask_cutoffFx {ps : List Part}
    (hsub : sub [.clk, .tim, .sched, .link, .ing, .topo, .flows, .hif, .gest, .pxl, .corr, .out, .red, .spare, .fix, .cal, .mtr, .sec, .pwr, .regs, .proofIn, .sent, .host, .comps, .notes] ps = true)
    (d : Device) :
    blank ps (cutoffFx d) = blank ps d := by
  refine mask_mono hsub ?_
  unfold cutoffFx
  split
  · rfl
  · exact mask_comeTo (by decide) _ _ _ (fun e => mask_cutoffWork (by decide) _ e)

theorem mask_deadlineStep {ps : List Part}
    (hsub : sub [.clk, .tim, .sched, .link, .ing, .topo, .flows, .hif, .gest, .pxl, .corr, .out, .red, .spare, .fix, .cal, .mtr, .sec, .pwr, .regs, .proofIn, .sent, .host, .comps, .notes] ps = true)
    (d : Device) :
    blank ps (deadlineStep d) = blank ps d := by
  refine mask_mono hsub ?_
  unfold deadlineStep
  split
  · rfl
  · exact mask_comeTo (by decide) _ _ _ (fun e => by rw [mask_calBlanking (by decide), mask_deadlineFx (by decide)])

theorem mask_subWork {ps : List Part}
    (hsub : sub [.tim, .link, .flows, .hif, .out, .red, .spare, .fix, .cal, .regs, .sent, .host, .notes] ps = true)
    (f : BitVec 32) (k : Nat) (d : Device) :
    blank ps (subWork f k d) = blank ps d := by
  refine mask_mono hsub ?_
  unfold subWork
  try dsimp only
  repeat' first
    | rfl
    | (simp (disch := decide) only [mask_calPairBegin, mask_darkGapCheck, mask_setOut, mask_strSample, mask_subStartFx, blank_quiet, reclk_self, blank_when, mask_ite, ite_self]; done)
    | split
    | simp (disch := decide) only [mask_calPairBegin, mask_darkGapCheck, mask_setOut, mask_strSample, mask_subStartFx, blank_quiet, reclk_self, blank_when, mask_ite, ite_self]

theorem mask_subDue {ps : List Part}
    (hsub : sub [.clk, .tim, .sched, .link, .ing, .topo, .flows, .hif, .gest, .pxl, .corr, .out, .red, .spare, .fix, .cal, .mtr, .sec, .pwr, .regs, .proofIn, .sent, .host, .comps, .notes] ps = true)
    (d : Device) :
    blank ps (subDue d) = blank ps d := by
  refine mask_mono hsub ?_
  unfold subDue
  repeat' first | (simp (disch := decide) only [mask_dueBy]; done) | split

theorem mask_subRow {ps : List Part}
    (hsub : sub [.clk, .tim, .sched, .link, .ing, .topo, .flows, .hif, .gest, .pxl, .corr, .out, .red, .spare, .fix, .cal, .mtr, .sec, .pwr, .regs, .proofIn, .sent, .host, .comps, .notes] ps = true)
    (d : Device) :
    blank ps (subRow d) = blank ps d := by
  refine mask_mono hsub ?_
  unfold subRow
  split
  · rfl
  · dsimp only
    split
    · rw [mask_comeTo (by decide) _ _ _ (fun e => mask_subWork (by decide) _ _ e)]; simp (disch := decide) only [mask_subDue, mask_subWork, blank_quiet, reclk_self, blank_when, mask_ite, ite_self]
    · simp (disch := decide) only [mask_subDue, mask_subWork, blank_quiet, reclk_self, blank_when, mask_ite, ite_self]

theorem mask_frameMarks {ps : List Part} (hsub : sub [.tim] ps = true) (d : Device) :
    blank ps (frameMarks d) = blank ps d := by
  refine mask_mono hsub ?_
  simp (disch := decide) only [frameMarks, mask_setTime, mask_ite, ite_self]

theorem mask_partnerBoundary {ps : List Part}
    (hsub : sub [.link, .topo, .flows, .hif, .sent, .host, .notes] ps = true) (d : Device) :
    blank ps (partnerBoundary d) = blank ps d := by
  refine mask_mono hsub ?_
  unfold partnerBoundary
  try dsimp only
  repeat' first
    | rfl
    | (simp (disch := decide) only [mask_partnerOwn, mask_sendPartner, mask_setPair, blank_quiet, reclk_self, blank_when, mask_ite, ite_self]; done)
    | rw [mask_foldl]
    | intro d a
    | split
    | (rename_i hq; rw [snd_of_eq hq])
    | (rename_i hq _; rw [snd_of_eq hq])
    | simp (disch := decide) only [mask_partnerOwn, mask_sendPartner, mask_setPair, blank_quiet, reclk_self, blank_when, mask_ite, ite_self]
    | dsimp only

theorem mask_feedStart {ps : List Part} (hsub : sub [.link, .topo, .flows, .sent] ps = true) (r : RingEntry)
    (pair : Nat) (isX : Bool) (d : Device) :
    blank ps (feedStart r pair isX d) = blank ps d := by
  refine mask_mono hsub ?_
  unfold feedStart
  refine mask_foldl ?_ _ _
  intro d a
  repeat' first
    | rfl
    | (simp (disch := decide) only [mask_headSend, mask_setPair, blank_quiet, reclk_self, blank_when, mask_ite, ite_self]; done)
    | split

theorem mask_feedRing {ps : List Part} (hsub : sub [.link, .topo, .flows, .hif, .sent, .host, .notes] ps = true)
    (m : SysMap) (r : RingEntry) (pair : Nat) (isX : Bool) (d : Device) :
    blank ps (feedRing m r pair isX d) = blank ps d := by
  refine mask_mono hsub ?_
  unfold feedRing
  try dsimp only
  repeat' first
    | rfl
    | (simp (disch := decide) only [mask_feedStart, mask_mapRejected, mask_setPair, blank_quiet, reclk_self, blank_when, mask_ite, ite_self]; done)
    | split
    | simp (disch := decide) only [mask_feedStart, mask_mapRejected, mask_setPair, blank_quiet, reclk_self, blank_when, mask_ite, ite_self]

theorem mask_feedBoundary {ps : List Part} (hsub : sub [.link, .topo, .flows, .hif, .sent, .host, .notes] ps = true)
    (d : Device) :
    blank ps (feedBoundary d) = blank ps d := by
  refine mask_mono hsub ?_
  unfold feedBoundary
  try dsimp only
  repeat' first
    | rfl
    | (simp (disch := decide) only [mask_feedRing, blank_quiet, reclk_self, blank_when, mask_ite, ite_self]; done)
    | rw [mask_foldl]
    | intro d a
    | split
    | (rename_i hq; rw [snd_of_eq hq])
    | (rename_i hq _; rw [snd_of_eq hq])
    | simp (disch := decide) only [mask_feedRing, blank_quiet, reclk_self, blank_when, mask_ite, ite_self]
    | dsimp only

theorem mask_recordBoundary {ps : List Part}
    (hsub : sub [.tim, .link, .topo, .flows, .hif, .pxl, .corr, .out, .spare, .fix, .cal, .sent, .host, .comps, .notes] ps = true)
    (f : BitVec 32) (d : Device) :
    blank ps (recordBoundary f d) = blank ps d := by
  refine mask_mono hsub ?_
  unfold recordBoundary
  try dsimp only
  repeat' first
    | rfl
    | (simp (disch := decide) only [mask_enforceDue, mask_leftDark, mask_recordHook, blank_quiet, reclk_self, blank_when, mask_ite, ite_self]; done)
    | split
    | simp (disch := decide) only [mask_enforceDue, mask_leftDark, mask_recordHook, blank_quiet, reclk_self, blank_when, mask_ite, ite_self]

theorem mask_cardBoundary {ps : List Part} (hsub : sub [.tim, .link, .topo, .flows, .hif, .sent] ps = true)
    (f : BitVec 32) (d : Device) :
    blank ps (cardBoundary f d) = blank ps d := by
  refine mask_mono hsub ?_
  unfold cardBoundary
  repeat' first
    | rw [mask_foldl (by intro d a; repeat' (simp (disch := decide) only [mask_sendAnswer]; done))]
    | simp (disch := decide) only [mask_sendCard, mask_setTime, blank_set_topo, mask_ite, ite_self]

theorem mask_windowBoundary {ps : List Part} (hsub : sub [.tim, .link, .flows, .hif, .sent, .host, .notes] ps = true)
    (d : Device) :
    blank ps (windowBoundary d) = blank ps d := by
  refine mask_mono hsub ?_
  unfold windowBoundary
  repeat' first | (simp (disch := decide) only [mask_report, mask_setTime]; done) | split

theorem mask_runBoundary {ps : List Part} (hsub : sub [.corr, .spare] ps = true) (d : Device) :
    blank ps (runBoundary d) = blank ps d := by
  refine mask_mono hsub ?_
  simp (disch := decide) only [runBoundary, mask_setCorr, mask_setSpare, mask_ite, ite_self]

theorem mask_wakeOver {ps : List Part} (hsub : sub [.pwr] ps = true) (d : Device) :
    blank ps (wakeOver d) = blank ps d := by
  refine mask_mono hsub ?_
  simp (disch := decide) only [wakeOver, mask_setPwr, blank_when, ite_self]

theorem mask_boundaryWork {ps : List Part}
    (hsub : sub [.tim, .sched, .link, .ing, .topo, .flows, .hif, .gest, .pxl, .corr, .out, .spare, .fix, .cal, .mtr, .sec, .pwr, .regs, .sent, .host, .comps, .notes] ps = true)
    (f : BitVec 32) (d : Device) :
    blank ps (boundaryWork f d) = blank ps d := by
  refine mask_mono hsub ?_
  unfold boundaryWork
  simp (disch := decide) only [mask_autostart, mask_cardBoundary, mask_expoBoundary, mask_feedBoundary, mask_fixMap,
      mask_flushPosts, mask_frameMarks, mask_layoutFx, mask_mapBoundary, mask_outBoundary, mask_paritySubst,
      mask_partnerBoundary, mask_phaseEnd, mask_powerBoundary, mask_recordBoundary, mask_releasePorts,
      mask_repeatReports, mask_rollEnd, mask_runBoundary, mask_sendFix, mask_setTime, mask_startBulk, mask_wakeOver,
      mask_windowBoundary, blank_quiet, reclk_self, blank_when, mask_ite, ite_self]

theorem mask_boundaryFx {ps : List Part}
    (hsub : sub [.clk, .tim, .sched, .link, .ing, .topo, .flows, .hif, .gest, .pxl, .corr, .out, .red, .spare, .fix, .cal, .mtr, .sec, .pwr, .regs, .proofIn, .sent, .host, .comps, .notes] ps = true)
    (d : Device) :
    blank ps (boundaryFx d) = blank ps d := by
  refine mask_mono hsub ?_
  simp (disch := decide) only [boundaryFx, mask_boundaryWork, mask_dueBy, blank_set_clk, blank_quiet, reclk_self,
      mask_ite, ite_self]

end Sys2Proof.Laws
end

