-- ==== Sys2Proof/Laws/State.lean ====
section
/-! SUPPORT. Laws/State.lean: each part of a device after each of the updates of State's parts. -/

namespace Sys2Proof.Laws

open Machine

@[simp] theorem setTime_clk (f : Time → Time) (d : Device) : (setTime f d).clk = d.clk := rfl
@[simp] theorem setTime_tim (f : Time → Time) (d : Device) : (setTime f d).tim = f d.tim := rfl
@[simp] theorem setTime_sched (f : Time → Time) (d : Device) : (setTime f d).sched = d.sched := rfl
@[simp] theorem setTime_link (f : Time → Time) (d : Device) : (setTime f d).link = d.link := rfl
@[simp] theorem setTime_ing (f : Time → Time) (d : Device) : (setTime f d).ing = d.ing := rfl
@[simp] theorem setTime_topo (f : Time → Time) (d : Device) : (setTime f d).topo = d.topo := rfl
@[simp] theorem setTime_flows (f : Time → Time) (d : Device) : (setTime f d).flows = d.flows := rfl
@[simp] theorem setTime_hif (f : Time → Time) (d : Device) : (setTime f d).hif = d.hif := rfl
@[simp] theorem setTime_gest (f : Time → Time) (d : Device) : (setTime f d).gest = d.gest := rfl
@[simp] theorem setTime_pxl (f : Time → Time) (d : Device) : (setTime f d).pxl = d.pxl := rfl
@[simp] theorem setTime_corr (f : Time → Time) (d : Device) : (setTime f d).corr = d.corr := rfl
@[simp] theorem setTime_out (f : Time → Time) (d : Device) : (setTime f d).out = d.out := rfl
@[simp] theorem setTime_red (f : Time → Time) (d : Device) : (setTime f d).red = d.red := rfl
@[simp] theorem setTime_spare (f : Time → Time) (d : Device) : (setTime f d).spare = d.spare := rfl
@[simp] theorem setTime_fix (f : Time → Time) (d : Device) : (setTime f d).fix = d.fix := rfl
@[simp] theorem setTime_cal (f : Time → Time) (d : Device) : (setTime f d).cal = d.cal := rfl
@[simp] theorem setTime_mtr (f : Time → Time) (d : Device) : (setTime f d).mtr = d.mtr := rfl
@[simp] theorem setTime_sec (f : Time → Time) (d : Device) : (setTime f d).sec = d.sec := rfl
@[simp] theorem setTime_pwr (f : Time → Time) (d : Device) : (setTime f d).pwr = d.pwr := rfl
@[simp] theorem setTime_regs (f : Time → Time) (d : Device) : (setTime f d).regs = d.regs := rfl
@[simp] theorem setTime_wideHold (f : Time → Time) (d : Device) : (setTime f d).wideHold = d.wideHold := rfl
@[simp] theorem setTime_snap (f : Time → Time) (d : Device) : (setTime f d).snap = d.snap := rfl
@[simp] theorem setTime_lastRead (f : Time → Time) (d : Device) : (setTime f d).lastRead = d.lastRead := rfl
@[simp] theorem setTime_proofIn (f : Time → Time) (d : Device) : (setTime f d).proofIn = d.proofIn := rfl
@[simp] theorem setTime_sent (f : Time → Time) (d : Device) : (setTime f d).sent = d.sent := rfl
@[simp] theorem setTime_host (f : Time → Time) (d : Device) : (setTime f d).host = d.host := rfl
@[simp] theorem setTime_comps (f : Time → Time) (d : Device) : (setTime f d).comps = d.comps := rfl
@[simp] theorem setTime_notes (f : Time → Time) (d : Device) : (setTime f d).notes = d.notes := rfl

@[simp] theorem setHif_clk (f : Hif → Hif) (d : Device) : (setHif f d).clk = d.clk := rfl
@[simp] theorem setHif_tim (f : Hif → Hif) (d : Device) : (setHif f d).tim = d.tim := rfl
@[simp] theorem setHif_sched (f : Hif → Hif) (d : Device) : (setHif f d).sched = d.sched := rfl
@[simp] theorem setHif_link (f : Hif → Hif) (d : Device) : (setHif f d).link = d.link := rfl
@[simp] theorem setHif_ing (f : Hif → Hif) (d : Device) : (setHif f d).ing = d.ing := rfl
@[simp] theorem setHif_topo (f : Hif → Hif) (d : Device) : (setHif f d).topo = d.topo := rfl
@[simp] theorem setHif_flows (f : Hif → Hif) (d : Device) : (setHif f d).flows = d.flows := rfl
@[simp] theorem setHif_hif (f : Hif → Hif) (d : Device) : (setHif f d).hif = f d.hif := rfl
@[simp] theorem setHif_gest (f : Hif → Hif) (d : Device) : (setHif f d).gest = d.gest := rfl
@[simp] theorem setHif_pxl (f : Hif → Hif) (d : Device) : (setHif f d).pxl = d.pxl := rfl
@[simp] theorem setHif_corr (f : Hif → Hif) (d : Device) : (setHif f d).corr = d.corr := rfl
@[simp] theorem setHif_out (f : Hif → Hif) (d : Device) : (setHif f d).out = d.out := rfl
@[simp] theorem setHif_red (f : Hif → Hif) (d : Device) : (setHif f d).red = d.red := rfl
@[simp] theorem setHif_spare (f : Hif → Hif) (d : Device) : (setHif f d).spare = d.spare := rfl
@[simp] theorem setHif_fix (f : Hif → Hif) (d : Device) : (setHif f d).fix = d.fix := rfl
@[simp] theorem setHif_cal (f : Hif → Hif) (d : Device) : (setHif f d).cal = d.cal := rfl
@[simp] theorem setHif_mtr (f : Hif → Hif) (d : Device) : (setHif f d).mtr = d.mtr := rfl
@[simp] theorem setHif_sec (f : Hif → Hif) (d : Device) : (setHif f d).sec = d.sec := rfl
@[simp] theorem setHif_pwr (f : Hif → Hif) (d : Device) : (setHif f d).pwr = d.pwr := rfl
@[simp] theorem setHif_regs (f : Hif → Hif) (d : Device) : (setHif f d).regs = d.regs := rfl
@[simp] theorem setHif_wideHold (f : Hif → Hif) (d : Device) : (setHif f d).wideHold = d.wideHold := rfl
@[simp] theorem setHif_snap (f : Hif → Hif) (d : Device) : (setHif f d).snap = d.snap := rfl
@[simp] theorem setHif_lastRead (f : Hif → Hif) (d : Device) : (setHif f d).lastRead = d.lastRead := rfl
@[simp] theorem setHif_proofIn (f : Hif → Hif) (d : Device) : (setHif f d).proofIn = d.proofIn := rfl
@[simp] theorem setHif_sent (f : Hif → Hif) (d : Device) : (setHif f d).sent = d.sent := rfl
@[simp] theorem setHif_host (f : Hif → Hif) (d : Device) : (setHif f d).host = d.host := rfl
@[simp] theorem setHif_comps (f : Hif → Hif) (d : Device) : (setHif f d).comps = d.comps := rfl
@[simp] theorem setHif_notes (f : Hif → Hif) (d : Device) : (setHif f d).notes = d.notes := rfl

@[simp] theorem setGest_clk (f : Ingest → Ingest) (d : Device) : (setGest f d).clk = d.clk := rfl
@[simp] theorem setGest_tim (f : Ingest → Ingest) (d : Device) : (setGest f d).tim = d.tim := rfl
@[simp] theorem setGest_sched (f : Ingest → Ingest) (d : Device) : (setGest f d).sched = d.sched := rfl
@[simp] theorem setGest_link (f : Ingest → Ingest) (d : Device) : (setGest f d).link = d.link := rfl
@[simp] theorem setGest_ing (f : Ingest → Ingest) (d : Device) : (setGest f d).ing = d.ing := rfl
@[simp] theorem setGest_topo (f : Ingest → Ingest) (d : Device) : (setGest f d).topo = d.topo := rfl
@[simp] theorem setGest_flows (f : Ingest → Ingest) (d : Device) : (setGest f d).flows = d.flows := rfl
@[simp] theorem setGest_hif (f : Ingest → Ingest) (d : Device) : (setGest f d).hif = d.hif := rfl
@[simp] theorem setGest_gest (f : Ingest → Ingest) (d : Device) : (setGest f d).gest = f d.gest := rfl
@[simp] theorem setGest_pxl (f : Ingest → Ingest) (d : Device) : (setGest f d).pxl = d.pxl := rfl
@[simp] theorem setGest_corr (f : Ingest → Ingest) (d : Device) : (setGest f d).corr = d.corr := rfl
@[simp] theorem setGest_out (f : Ingest → Ingest) (d : Device) : (setGest f d).out = d.out := rfl
@[simp] theorem setGest_red (f : Ingest → Ingest) (d : Device) : (setGest f d).red = d.red := rfl
@[simp] theorem setGest_spare (f : Ingest → Ingest) (d : Device) : (setGest f d).spare = d.spare := rfl
@[simp] theorem setGest_fix (f : Ingest → Ingest) (d : Device) : (setGest f d).fix = d.fix := rfl
@[simp] theorem setGest_cal (f : Ingest → Ingest) (d : Device) : (setGest f d).cal = d.cal := rfl
@[simp] theorem setGest_mtr (f : Ingest → Ingest) (d : Device) : (setGest f d).mtr = d.mtr := rfl
@[simp] theorem setGest_sec (f : Ingest → Ingest) (d : Device) : (setGest f d).sec = d.sec := rfl
@[simp] theorem setGest_pwr (f : Ingest → Ingest) (d : Device) : (setGest f d).pwr = d.pwr := rfl
@[simp] theorem setGest_regs (f : Ingest → Ingest) (d : Device) : (setGest f d).regs = d.regs := rfl
@[simp] theorem setGest_wideHold (f : Ingest → Ingest) (d : Device) : (setGest f d).wideHold = d.wideHold := rfl
@[simp] theorem setGest_snap (f : Ingest → Ingest) (d : Device) : (setGest f d).snap = d.snap := rfl
@[simp] theorem setGest_lastRead (f : Ingest → Ingest) (d : Device) : (setGest f d).lastRead = d.lastRead := rfl
@[simp] theorem setGest_proofIn (f : Ingest → Ingest) (d : Device) : (setGest f d).proofIn = d.proofIn := rfl
@[simp] theorem setGest_sent (f : Ingest → Ingest) (d : Device) : (setGest f d).sent = d.sent := rfl
@[simp] theorem setGest_host (f : Ingest → Ingest) (d : Device) : (setGest f d).host = d.host := rfl
@[simp] theorem setGest_comps (f : Ingest → Ingest) (d : Device) : (setGest f d).comps = d.comps := rfl
@[simp] theorem setGest_notes (f : Ingest → Ingest) (d : Device) : (setGest f d).notes = d.notes := rfl

@[simp] theorem setPxl_clk (f : Pixel → Pixel) (d : Device) : (setPxl f d).clk = d.clk := rfl
@[simp] theorem setPxl_tim (f : Pixel → Pixel) (d : Device) : (setPxl f d).tim = d.tim := rfl
@[simp] theorem setPxl_sched (f : Pixel → Pixel) (d : Device) : (setPxl f d).sched = d.sched := rfl
@[simp] theorem setPxl_link (f : Pixel → Pixel) (d : Device) : (setPxl f d).link = d.link := rfl
@[simp] theorem setPxl_ing (f : Pixel → Pixel) (d : Device) : (setPxl f d).ing = d.ing := rfl
@[simp] theorem setPxl_topo (f : Pixel → Pixel) (d : Device) : (setPxl f d).topo = d.topo := rfl
@[simp] theorem setPxl_flows (f : Pixel → Pixel) (d : Device) : (setPxl f d).flows = d.flows := rfl
@[simp] theorem setPxl_hif (f : Pixel → Pixel) (d : Device) : (setPxl f d).hif = d.hif := rfl
@[simp] theorem setPxl_gest (f : Pixel → Pixel) (d : Device) : (setPxl f d).gest = d.gest := rfl
@[simp] theorem setPxl_pxl (f : Pixel → Pixel) (d : Device) : (setPxl f d).pxl = f d.pxl := rfl
@[simp] theorem setPxl_corr (f : Pixel → Pixel) (d : Device) : (setPxl f d).corr = d.corr := rfl
@[simp] theorem setPxl_out (f : Pixel → Pixel) (d : Device) : (setPxl f d).out = d.out := rfl
@[simp] theorem setPxl_red (f : Pixel → Pixel) (d : Device) : (setPxl f d).red = d.red := rfl
@[simp] theorem setPxl_spare (f : Pixel → Pixel) (d : Device) : (setPxl f d).spare = d.spare := rfl
@[simp] theorem setPxl_fix (f : Pixel → Pixel) (d : Device) : (setPxl f d).fix = d.fix := rfl
@[simp] theorem setPxl_cal (f : Pixel → Pixel) (d : Device) : (setPxl f d).cal = d.cal := rfl
@[simp] theorem setPxl_mtr (f : Pixel → Pixel) (d : Device) : (setPxl f d).mtr = d.mtr := rfl
@[simp] theorem setPxl_sec (f : Pixel → Pixel) (d : Device) : (setPxl f d).sec = d.sec := rfl
@[simp] theorem setPxl_pwr (f : Pixel → Pixel) (d : Device) : (setPxl f d).pwr = d.pwr := rfl
@[simp] theorem setPxl_regs (f : Pixel → Pixel) (d : Device) : (setPxl f d).regs = d.regs := rfl
@[simp] theorem setPxl_wideHold (f : Pixel → Pixel) (d : Device) : (setPxl f d).wideHold = d.wideHold := rfl
@[simp] theorem setPxl_snap (f : Pixel → Pixel) (d : Device) : (setPxl f d).snap = d.snap := rfl
@[simp] theorem setPxl_lastRead (f : Pixel → Pixel) (d : Device) : (setPxl f d).lastRead = d.lastRead := rfl
@[simp] theorem setPxl_proofIn (f : Pixel → Pixel) (d : Device) : (setPxl f d).proofIn = d.proofIn := rfl
@[simp] theorem setPxl_sent (f : Pixel → Pixel) (d : Device) : (setPxl f d).sent = d.sent := rfl
@[simp] theorem setPxl_host (f : Pixel → Pixel) (d : Device) : (setPxl f d).host = d.host := rfl
@[simp] theorem setPxl_comps (f : Pixel → Pixel) (d : Device) : (setPxl f d).comps = d.comps := rfl
@[simp] theorem setPxl_notes (f : Pixel → Pixel) (d : Device) : (setPxl f d).notes = d.notes := rfl

@[simp] theorem setCorr_clk (f : Corr → Corr) (d : Device) : (setCorr f d).clk = d.clk := rfl
@[simp] theorem setCorr_tim (f : Corr → Corr) (d : Device) : (setCorr f d).tim = d.tim := rfl
@[simp] theorem setCorr_sched (f : Corr → Corr) (d : Device) : (setCorr f d).sched = d.sched := rfl
@[simp] theorem setCorr_link (f : Corr → Corr) (d : Device) : (setCorr f d).link = d.link := rfl
@[simp] theorem setCorr_ing (f : Corr → Corr) (d : Device) : (setCorr f d).ing = d.ing := rfl
@[simp] theorem setCorr_topo (f : Corr → Corr) (d : Device) : (setCorr f d).topo = d.topo := rfl
@[simp] theorem setCorr_flows (f : Corr → Corr) (d : Device) : (setCorr f d).flows = d.flows := rfl
@[simp] theorem setCorr_hif (f : Corr → Corr) (d : Device) : (setCorr f d).hif = d.hif := rfl
@[simp] theorem setCorr_gest (f : Corr → Corr) (d : Device) : (setCorr f d).gest = d.gest := rfl
@[simp] theorem setCorr_pxl (f : Corr → Corr) (d : Device) : (setCorr f d).pxl = d.pxl := rfl
@[simp] theorem setCorr_corr (f : Corr → Corr) (d : Device) : (setCorr f d).corr = f d.corr := rfl
@[simp] theorem setCorr_out (f : Corr → Corr) (d : Device) : (setCorr f d).out = d.out := rfl
@[simp] theorem setCorr_red (f : Corr → Corr) (d : Device) : (setCorr f d).red = d.red := rfl
@[simp] theorem setCorr_spare (f : Corr → Corr) (d : Device) : (setCorr f d).spare = d.spare := rfl
@[simp] theorem setCorr_fix (f : Corr → Corr) (d : Device) : (setCorr f d).fix = d.fix := rfl
@[simp] theorem setCorr_cal (f : Corr → Corr) (d : Device) : (setCorr f d).cal = d.cal := rfl
@[simp] theorem setCorr_mtr (f : Corr → Corr) (d : Device) : (setCorr f d).mtr = d.mtr := rfl
@[simp] theorem setCorr_sec (f : Corr → Corr) (d : Device) : (setCorr f d).sec = d.sec := rfl
@[simp] theorem setCorr_pwr (f : Corr → Corr) (d : Device) : (setCorr f d).pwr = d.pwr := rfl
@[simp] theorem setCorr_regs (f : Corr → Corr) (d : Device) : (setCorr f d).regs = d.regs := rfl
@[simp] theorem setCorr_wideHold (f : Corr → Corr) (d : Device) : (setCorr f d).wideHold = d.wideHold := rfl
@[simp] theorem setCorr_snap (f : Corr → Corr) (d : Device) : (setCorr f d).snap = d.snap := rfl
@[simp] theorem setCorr_lastRead (f : Corr → Corr) (d : Device) : (setCorr f d).lastRead = d.lastRead := rfl
@[simp] theorem setCorr_proofIn (f : Corr → Corr) (d : Device) : (setCorr f d).proofIn = d.proofIn := rfl
@[simp] theorem setCorr_sent (f : Corr → Corr) (d : Device) : (setCorr f d).sent = d.sent := rfl
@[simp] theorem setCorr_host (f : Corr → Corr) (d : Device) : (setCorr f d).host = d.host := rfl
@[simp] theorem setCorr_comps (f : Corr → Corr) (d : Device) : (setCorr f d).comps = d.comps := rfl
@[simp] theorem setCorr_notes (f : Corr → Corr) (d : Device) : (setCorr f d).notes = d.notes := rfl

@[simp] theorem setOut_clk (f : Output → Output) (d : Device) : (setOut f d).clk = d.clk := rfl
@[simp] theorem setOut_tim (f : Output → Output) (d : Device) : (setOut f d).tim = d.tim := rfl
@[simp] theorem setOut_sched (f : Output → Output) (d : Device) : (setOut f d).sched = d.sched := rfl
@[simp] theorem setOut_link (f : Output → Output) (d : Device) : (setOut f d).link = d.link := rfl
@[simp] theorem setOut_ing (f : Output → Output) (d : Device) : (setOut f d).ing = d.ing := rfl
@[simp] theorem setOut_topo (f : Output → Output) (d : Device) : (setOut f d).topo = d.topo := rfl
@[simp] theorem setOut_flows (f : Output → Output) (d : Device) : (setOut f d).flows = d.flows := rfl
@[simp] theorem setOut_hif (f : Output → Output) (d : Device) : (setOut f d).hif = d.hif := rfl
@[simp] theorem setOut_gest (f : Output → Output) (d : Device) : (setOut f d).gest = d.gest := rfl
@[simp] theorem setOut_pxl (f : Output → Output) (d : Device) : (setOut f d).pxl = d.pxl := rfl
@[simp] theorem setOut_corr (f : Output → Output) (d : Device) : (setOut f d).corr = d.corr := rfl
@[simp] theorem setOut_out (f : Output → Output) (d : Device) : (setOut f d).out = f d.out := rfl
@[simp] theorem setOut_red (f : Output → Output) (d : Device) : (setOut f d).red = d.red := rfl
@[simp] theorem setOut_spare (f : Output → Output) (d : Device) : (setOut f d).spare = d.spare := rfl
@[simp] theorem setOut_fix (f : Output → Output) (d : Device) : (setOut f d).fix = d.fix := rfl
@[simp] theorem setOut_cal (f : Output → Output) (d : Device) : (setOut f d).cal = d.cal := rfl
@[simp] theorem setOut_mtr (f : Output → Output) (d : Device) : (setOut f d).mtr = d.mtr := rfl
@[simp] theorem setOut_sec (f : Output → Output) (d : Device) : (setOut f d).sec = d.sec := rfl
@[simp] theorem setOut_pwr (f : Output → Output) (d : Device) : (setOut f d).pwr = d.pwr := rfl
@[simp] theorem setOut_regs (f : Output → Output) (d : Device) : (setOut f d).regs = d.regs := rfl
@[simp] theorem setOut_wideHold (f : Output → Output) (d : Device) : (setOut f d).wideHold = d.wideHold := rfl
@[simp] theorem setOut_snap (f : Output → Output) (d : Device) : (setOut f d).snap = d.snap := rfl
@[simp] theorem setOut_lastRead (f : Output → Output) (d : Device) : (setOut f d).lastRead = d.lastRead := rfl
@[simp] theorem setOut_proofIn (f : Output → Output) (d : Device) : (setOut f d).proofIn = d.proofIn := rfl
@[simp] theorem setOut_sent (f : Output → Output) (d : Device) : (setOut f d).sent = d.sent := rfl
@[simp] theorem setOut_host (f : Output → Output) (d : Device) : (setOut f d).host = d.host := rfl
@[simp] theorem setOut_comps (f : Output → Output) (d : Device) : (setOut f d).comps = d.comps := rfl
@[simp] theorem setOut_notes (f : Output → Output) (d : Device) : (setOut f d).notes = d.notes := rfl

@[simp] theorem setRed_clk (f : Redund → Redund) (d : Device) : (setRed f d).clk = d.clk := rfl
@[simp] theorem setRed_tim (f : Redund → Redund) (d : Device) : (setRed f d).tim = d.tim := rfl
@[simp] theorem setRed_sched (f : Redund → Redund) (d : Device) : (setRed f d).sched = d.sched := rfl
@[simp] theorem setRed_link (f : Redund → Redund) (d : Device) : (setRed f d).link = d.link := rfl
@[simp] theorem setRed_ing (f : Redund → Redund) (d : Device) : (setRed f d).ing = d.ing := rfl
@[simp] theorem setRed_topo (f : Redund → Redund) (d : Device) : (setRed f d).topo = d.topo := rfl
@[simp] theorem setRed_flows (f : Redund → Redund) (d : Device) : (setRed f d).flows = d.flows := rfl
@[simp] theorem setRed_hif (f : Redund → Redund) (d : Device) : (setRed f d).hif = d.hif := rfl
@[simp] theorem setRed_gest (f : Redund → Redund) (d : Device) : (setRed f d).gest = d.gest := rfl
@[simp] theorem setRed_pxl (f : Redund → Redund) (d : Device) : (setRed f d).pxl = d.pxl := rfl
@[simp] theorem setRed_corr (f : Redund → Redund) (d : Device) : (setRed f d).corr = d.corr := rfl
@[simp] theorem setRed_out (f : Redund → Redund) (d : Device) : (setRed f d).out = d.out := rfl
@[simp] theorem setRed_red (f : Redund → Redund) (d : Device) : (setRed f d).red = f d.red := rfl
@[simp] theorem setRed_spare (f : Redund → Redund) (d : Device) : (setRed f d).spare = d.spare := rfl
@[simp] theorem setRed_fix (f : Redund → Redund) (d : Device) : (setRed f d).fix = d.fix := rfl
@[simp] theorem setRed_cal (f : Redund → Redund) (d : Device) : (setRed f d).cal = d.cal := rfl
@[simp] theorem setRed_mtr (f : Redund → Redund) (d : Device) : (setRed f d).mtr = d.mtr := rfl
@[simp] theorem setRed_sec (f : Redund → Redund) (d : Device) : (setRed f d).sec = d.sec := rfl
@[simp] theorem setRed_pwr (f : Redund → Redund) (d : Device) : (setRed f d).pwr = d.pwr := rfl
@[simp] theorem setRed_regs (f : Redund → Redund) (d : Device) : (setRed f d).regs = d.regs := rfl
@[simp] theorem setRed_wideHold (f : Redund → Redund) (d : Device) : (setRed f d).wideHold = d.wideHold := rfl
@[simp] theorem setRed_snap (f : Redund → Redund) (d : Device) : (setRed f d).snap = d.snap := rfl
@[simp] theorem setRed_lastRead (f : Redund → Redund) (d : Device) : (setRed f d).lastRead = d.lastRead := rfl
@[simp] theorem setRed_proofIn (f : Redund → Redund) (d : Device) : (setRed f d).proofIn = d.proofIn := rfl
@[simp] theorem setRed_sent (f : Redund → Redund) (d : Device) : (setRed f d).sent = d.sent := rfl
@[simp] theorem setRed_host (f : Redund → Redund) (d : Device) : (setRed f d).host = d.host := rfl
@[simp] theorem setRed_comps (f : Redund → Redund) (d : Device) : (setRed f d).comps = d.comps := rfl
@[simp] theorem setRed_notes (f : Redund → Redund) (d : Device) : (setRed f d).notes = d.notes := rfl

@[simp] theorem setSpare_clk (f : Spares → Spares) (d : Device) : (setSpare f d).clk = d.clk := rfl
@[simp] theorem setSpare_tim (f : Spares → Spares) (d : Device) : (setSpare f d).tim = d.tim := rfl
@[simp] theorem setSpare_sched (f : Spares → Spares) (d : Device) : (setSpare f d).sched = d.sched := rfl
@[simp] theorem setSpare_link (f : Spares → Spares) (d : Device) : (setSpare f d).link = d.link := rfl
@[simp] theorem setSpare_ing (f : Spares → Spares) (d : Device) : (setSpare f d).ing = d.ing := rfl
@[simp] theorem setSpare_topo (f : Spares → Spares) (d : Device) : (setSpare f d).topo = d.topo := rfl
@[simp] theorem setSpare_flows (f : Spares → Spares) (d : Device) : (setSpare f d).flows = d.flows := rfl
@[simp] theorem setSpare_hif (f : Spares → Spares) (d : Device) : (setSpare f d).hif = d.hif := rfl
@[simp] theorem setSpare_gest (f : Spares → Spares) (d : Device) : (setSpare f d).gest = d.gest := rfl
@[simp] theorem setSpare_pxl (f : Spares → Spares) (d : Device) : (setSpare f d).pxl = d.pxl := rfl
@[simp] theorem setSpare_corr (f : Spares → Spares) (d : Device) : (setSpare f d).corr = d.corr := rfl
@[simp] theorem setSpare_out (f : Spares → Spares) (d : Device) : (setSpare f d).out = d.out := rfl
@[simp] theorem setSpare_red (f : Spares → Spares) (d : Device) : (setSpare f d).red = d.red := rfl
@[simp] theorem setSpare_spare (f : Spares → Spares) (d : Device) : (setSpare f d).spare = f d.spare := rfl
@[simp] theorem setSpare_fix (f : Spares → Spares) (d : Device) : (setSpare f d).fix = d.fix := rfl
@[simp] theorem setSpare_cal (f : Spares → Spares) (d : Device) : (setSpare f d).cal = d.cal := rfl
@[simp] theorem setSpare_mtr (f : Spares → Spares) (d : Device) : (setSpare f d).mtr = d.mtr := rfl
@[simp] theorem setSpare_sec (f : Spares → Spares) (d : Device) : (setSpare f d).sec = d.sec := rfl
@[simp] theorem setSpare_pwr (f : Spares → Spares) (d : Device) : (setSpare f d).pwr = d.pwr := rfl
@[simp] theorem setSpare_regs (f : Spares → Spares) (d : Device) : (setSpare f d).regs = d.regs := rfl
@[simp] theorem setSpare_wideHold (f : Spares → Spares) (d : Device) : (setSpare f d).wideHold = d.wideHold := rfl
@[simp] theorem setSpare_snap (f : Spares → Spares) (d : Device) : (setSpare f d).snap = d.snap := rfl
@[simp] theorem setSpare_lastRead (f : Spares → Spares) (d : Device) : (setSpare f d).lastRead = d.lastRead := rfl
@[simp] theorem setSpare_proofIn (f : Spares → Spares) (d : Device) : (setSpare f d).proofIn = d.proofIn := rfl
@[simp] theorem setSpare_sent (f : Spares → Spares) (d : Device) : (setSpare f d).sent = d.sent := rfl
@[simp] theorem setSpare_host (f : Spares → Spares) (d : Device) : (setSpare f d).host = d.host := rfl
@[simp] theorem setSpare_comps (f : Spares → Spares) (d : Device) : (setSpare f d).comps = d.comps := rfl
@[simp] theorem setSpare_notes (f : Spares → Spares) (d : Device) : (setSpare f d).notes = d.notes := rfl

@[simp] theorem setFix_clk (f : Fix → Fix) (d : Device) : (setFix f d).clk = d.clk := rfl
@[simp] theorem setFix_tim (f : Fix → Fix) (d : Device) : (setFix f d).tim = d.tim := rfl
@[simp] theorem setFix_sched (f : Fix → Fix) (d : Device) : (setFix f d).sched = d.sched := rfl
@[simp] theorem setFix_link (f : Fix → Fix) (d : Device) : (setFix f d).link = d.link := rfl
@[simp] theorem setFix_ing (f : Fix → Fix) (d : Device) : (setFix f d).ing = d.ing := rfl
@[simp] theorem setFix_topo (f : Fix → Fix) (d : Device) : (setFix f d).topo = d.topo := rfl
@[simp] theorem setFix_flows (f : Fix → Fix) (d : Device) : (setFix f d).flows = d.flows := rfl
@[simp] theorem setFix_hif (f : Fix → Fix) (d : Device) : (setFix f d).hif = d.hif := rfl
@[simp] theorem setFix_gest (f : Fix → Fix) (d : Device) : (setFix f d).gest = d.gest := rfl
@[simp] theorem setFix_pxl (f : Fix → Fix) (d : Device) : (setFix f d).pxl = d.pxl := rfl
@[simp] theorem setFix_corr (f : Fix → Fix) (d : Device) : (setFix f d).corr = d.corr := rfl
@[simp] theorem setFix_out (f : Fix → Fix) (d : Device) : (setFix f d).out = d.out := rfl
@[simp] theorem setFix_red (f : Fix → Fix) (d : Device) : (setFix f d).red = d.red := rfl
@[simp] theorem setFix_spare (f : Fix → Fix) (d : Device) : (setFix f d).spare = d.spare := rfl
@[simp] theorem setFix_fix (f : Fix → Fix) (d : Device) : (setFix f d).fix = f d.fix := rfl
@[simp] theorem setFix_cal (f : Fix → Fix) (d : Device) : (setFix f d).cal = d.cal := rfl
@[simp] theorem setFix_mtr (f : Fix → Fix) (d : Device) : (setFix f d).mtr = d.mtr := rfl
@[simp] theorem setFix_sec (f : Fix → Fix) (d : Device) : (setFix f d).sec = d.sec := rfl
@[simp] theorem setFix_pwr (f : Fix → Fix) (d : Device) : (setFix f d).pwr = d.pwr := rfl
@[simp] theorem setFix_regs (f : Fix → Fix) (d : Device) : (setFix f d).regs = d.regs := rfl
@[simp] theorem setFix_wideHold (f : Fix → Fix) (d : Device) : (setFix f d).wideHold = d.wideHold := rfl
@[simp] theorem setFix_snap (f : Fix → Fix) (d : Device) : (setFix f d).snap = d.snap := rfl
@[simp] theorem setFix_lastRead (f : Fix → Fix) (d : Device) : (setFix f d).lastRead = d.lastRead := rfl
@[simp] theorem setFix_proofIn (f : Fix → Fix) (d : Device) : (setFix f d).proofIn = d.proofIn := rfl
@[simp] theorem setFix_sent (f : Fix → Fix) (d : Device) : (setFix f d).sent = d.sent := rfl
@[simp] theorem setFix_host (f : Fix → Fix) (d : Device) : (setFix f d).host = d.host := rfl
@[simp] theorem setFix_comps (f : Fix → Fix) (d : Device) : (setFix f d).comps = d.comps := rfl
@[simp] theorem setFix_notes (f : Fix → Fix) (d : Device) : (setFix f d).notes = d.notes := rfl

@[simp] theorem setCal_clk (f : Cal → Cal) (d : Device) : (setCal f d).clk = d.clk := rfl
@[simp] theorem setCal_tim (f : Cal → Cal) (d : Device) : (setCal f d).tim = d.tim := rfl
@[simp] theorem setCal_sched (f : Cal → Cal) (d : Device) : (setCal f d).sched = d.sched := rfl
@[simp] theorem setCal_link (f : Cal → Cal) (d : Device) : (setCal f d).link = d.link := rfl
@[simp] theorem setCal_ing (f : Cal → Cal) (d : Device) : (setCal f d).ing = d.ing := rfl
@[simp] theorem setCal_topo (f : Cal → Cal) (d : Device) : (setCal f d).topo = d.topo := rfl
@[simp] theorem setCal_flows (f : Cal → Cal) (d : Device) : (setCal f d).flows = d.flows := rfl
@[simp] theorem setCal_hif (f : Cal → Cal) (d : Device) : (setCal f d).hif = d.hif := rfl
@[simp] theorem setCal_gest (f : Cal → Cal) (d : Device) : (setCal f d).gest = d.gest := rfl
@[simp] theorem setCal_pxl (f : Cal → Cal) (d : Device) : (setCal f d).pxl = d.pxl := rfl
@[simp] theorem setCal_corr (f : Cal → Cal) (d : Device) : (setCal f d).corr = d.corr := rfl
@[simp] theorem setCal_out (f : Cal → Cal) (d : Device) : (setCal f d).out = d.out := rfl
@[simp] theorem setCal_red (f : Cal → Cal) (d : Device) : (setCal f d).red = d.red := rfl
@[simp] theorem setCal_spare (f : Cal → Cal) (d : Device) : (setCal f d).spare = d.spare := rfl
@[simp] theorem setCal_fix (f : Cal → Cal) (d : Device) : (setCal f d).fix = d.fix := rfl
@[simp] theorem setCal_cal (f : Cal → Cal) (d : Device) : (setCal f d).cal = f d.cal := rfl
@[simp] theorem setCal_mtr (f : Cal → Cal) (d : Device) : (setCal f d).mtr = d.mtr := rfl
@[simp] theorem setCal_sec (f : Cal → Cal) (d : Device) : (setCal f d).sec = d.sec := rfl
@[simp] theorem setCal_pwr (f : Cal → Cal) (d : Device) : (setCal f d).pwr = d.pwr := rfl
@[simp] theorem setCal_regs (f : Cal → Cal) (d : Device) : (setCal f d).regs = d.regs := rfl
@[simp] theorem setCal_wideHold (f : Cal → Cal) (d : Device) : (setCal f d).wideHold = d.wideHold := rfl
@[simp] theorem setCal_snap (f : Cal → Cal) (d : Device) : (setCal f d).snap = d.snap := rfl
@[simp] theorem setCal_lastRead (f : Cal → Cal) (d : Device) : (setCal f d).lastRead = d.lastRead := rfl
@[simp] theorem setCal_proofIn (f : Cal → Cal) (d : Device) : (setCal f d).proofIn = d.proofIn := rfl
@[simp] theorem setCal_sent (f : Cal → Cal) (d : Device) : (setCal f d).sent = d.sent := rfl
@[simp] theorem setCal_host (f : Cal → Cal) (d : Device) : (setCal f d).host = d.host := rfl
@[simp] theorem setCal_comps (f : Cal → Cal) (d : Device) : (setCal f d).comps = d.comps := rfl
@[simp] theorem setCal_notes (f : Cal → Cal) (d : Device) : (setCal f d).notes = d.notes := rfl

@[simp] theorem setMtr_clk (f : Meter → Meter) (d : Device) : (setMtr f d).clk = d.clk := rfl
@[simp] theorem setMtr_tim (f : Meter → Meter) (d : Device) : (setMtr f d).tim = d.tim := rfl
@[simp] theorem setMtr_sched (f : Meter → Meter) (d : Device) : (setMtr f d).sched = d.sched := rfl
@[simp] theorem setMtr_link (f : Meter → Meter) (d : Device) : (setMtr f d).link = d.link := rfl
@[simp] theorem setMtr_ing (f : Meter → Meter) (d : Device) : (setMtr f d).ing = d.ing := rfl
@[simp] theorem setMtr_topo (f : Meter → Meter) (d : Device) : (setMtr f d).topo = d.topo := rfl
@[simp] theorem setMtr_flows (f : Meter → Meter) (d : Device) : (setMtr f d).flows = d.flows := rfl
@[simp] theorem setMtr_hif (f : Meter → Meter) (d : Device) : (setMtr f d).hif = d.hif := rfl
@[simp] theorem setMtr_gest (f : Meter → Meter) (d : Device) : (setMtr f d).gest = d.gest := rfl
@[simp] theorem setMtr_pxl (f : Meter → Meter) (d : Device) : (setMtr f d).pxl = d.pxl := rfl
@[simp] theorem setMtr_corr (f : Meter → Meter) (d : Device) : (setMtr f d).corr = d.corr := rfl
@[simp] theorem setMtr_out (f : Meter → Meter) (d : Device) : (setMtr f d).out = d.out := rfl
@[simp] theorem setMtr_red (f : Meter → Meter) (d : Device) : (setMtr f d).red = d.red := rfl
@[simp] theorem setMtr_spare (f : Meter → Meter) (d : Device) : (setMtr f d).spare = d.spare := rfl
@[simp] theorem setMtr_fix (f : Meter → Meter) (d : Device) : (setMtr f d).fix = d.fix := rfl
@[simp] theorem setMtr_cal (f : Meter → Meter) (d : Device) : (setMtr f d).cal = d.cal := rfl
@[simp] theorem setMtr_mtr (f : Meter → Meter) (d : Device) : (setMtr f d).mtr = f d.mtr := rfl
@[simp] theorem setMtr_sec (f : Meter → Meter) (d : Device) : (setMtr f d).sec = d.sec := rfl
@[simp] theorem setMtr_pwr (f : Meter → Meter) (d : Device) : (setMtr f d).pwr = d.pwr := rfl
@[simp] theorem setMtr_regs (f : Meter → Meter) (d : Device) : (setMtr f d).regs = d.regs := rfl
@[simp] theorem setMtr_wideHold (f : Meter → Meter) (d : Device) : (setMtr f d).wideHold = d.wideHold := rfl
@[simp] theorem setMtr_snap (f : Meter → Meter) (d : Device) : (setMtr f d).snap = d.snap := rfl
@[simp] theorem setMtr_lastRead (f : Meter → Meter) (d : Device) : (setMtr f d).lastRead = d.lastRead := rfl
@[simp] theorem setMtr_proofIn (f : Meter → Meter) (d : Device) : (setMtr f d).proofIn = d.proofIn := rfl
@[simp] theorem setMtr_sent (f : Meter → Meter) (d : Device) : (setMtr f d).sent = d.sent := rfl
@[simp] theorem setMtr_host (f : Meter → Meter) (d : Device) : (setMtr f d).host = d.host := rfl
@[simp] theorem setMtr_comps (f : Meter → Meter) (d : Device) : (setMtr f d).comps = d.comps := rfl
@[simp] theorem setMtr_notes (f : Meter → Meter) (d : Device) : (setMtr f d).notes = d.notes := rfl

@[simp] theorem setSec_clk (f : Sec → Sec) (d : Device) : (setSec f d).clk = d.clk := rfl
@[simp] theorem setSec_tim (f : Sec → Sec) (d : Device) : (setSec f d).tim = d.tim := rfl
@[simp] theorem setSec_sched (f : Sec → Sec) (d : Device) : (setSec f d).sched = d.sched := rfl
@[simp] theorem setSec_link (f : Sec → Sec) (d : Device) : (setSec f d).link = d.link := rfl
@[simp] theorem setSec_ing (f : Sec → Sec) (d : Device) : (setSec f d).ing = d.ing := rfl
@[simp] theorem setSec_topo (f : Sec → Sec) (d : Device) : (setSec f d).topo = d.topo := rfl
@[simp] theorem setSec_flows (f : Sec → Sec) (d : Device) : (setSec f d).flows = d.flows := rfl
@[simp] theorem setSec_hif (f : Sec → Sec) (d : Device) : (setSec f d).hif = d.hif := rfl
@[simp] theorem setSec_gest (f : Sec → Sec) (d : Device) : (setSec f d).gest = d.gest := rfl
@[simp] theorem setSec_pxl (f : Sec → Sec) (d : Device) : (setSec f d).pxl = d.pxl := rfl
@[simp] theorem setSec_corr (f : Sec → Sec) (d : Device) : (setSec f d).corr = d.corr := rfl
@[simp] theorem setSec_out (f : Sec → Sec) (d : Device) : (setSec f d).out = d.out := rfl
@[simp] theorem setSec_red (f : Sec → Sec) (d : Device) : (setSec f d).red = d.red := rfl
@[simp] theorem setSec_spare (f : Sec → Sec) (d : Device) : (setSec f d).spare = d.spare := rfl
@[simp] theorem setSec_fix (f : Sec → Sec) (d : Device) : (setSec f d).fix = d.fix := rfl
@[simp] theorem setSec_cal (f : Sec → Sec) (d : Device) : (setSec f d).cal = d.cal := rfl
@[simp] theorem setSec_mtr (f : Sec → Sec) (d : Device) : (setSec f d).mtr = d.mtr := rfl
@[simp] theorem setSec_sec (f : Sec → Sec) (d : Device) : (setSec f d).sec = f d.sec := rfl
@[simp] theorem setSec_pwr (f : Sec → Sec) (d : Device) : (setSec f d).pwr = d.pwr := rfl
@[simp] theorem setSec_regs (f : Sec → Sec) (d : Device) : (setSec f d).regs = d.regs := rfl
@[simp] theorem setSec_wideHold (f : Sec → Sec) (d : Device) : (setSec f d).wideHold = d.wideHold := rfl
@[simp] theorem setSec_snap (f : Sec → Sec) (d : Device) : (setSec f d).snap = d.snap := rfl
@[simp] theorem setSec_lastRead (f : Sec → Sec) (d : Device) : (setSec f d).lastRead = d.lastRead := rfl
@[simp] theorem setSec_proofIn (f : Sec → Sec) (d : Device) : (setSec f d).proofIn = d.proofIn := rfl
@[simp] theorem setSec_sent (f : Sec → Sec) (d : Device) : (setSec f d).sent = d.sent := rfl
@[simp] theorem setSec_host (f : Sec → Sec) (d : Device) : (setSec f d).host = d.host := rfl
@[simp] theorem setSec_comps (f : Sec → Sec) (d : Device) : (setSec f d).comps = d.comps := rfl
@[simp] theorem setSec_notes (f : Sec → Sec) (d : Device) : (setSec f d).notes = d.notes := rfl

@[simp] theorem setPwr_clk (f : Power → Power) (d : Device) : (setPwr f d).clk = d.clk := rfl
@[simp] theorem setPwr_tim (f : Power → Power) (d : Device) : (setPwr f d).tim = d.tim := rfl
@[simp] theorem setPwr_sched (f : Power → Power) (d : Device) : (setPwr f d).sched = d.sched := rfl
@[simp] theorem setPwr_link (f : Power → Power) (d : Device) : (setPwr f d).link = d.link := rfl
@[simp] theorem setPwr_ing (f : Power → Power) (d : Device) : (setPwr f d).ing = d.ing := rfl
@[simp] theorem setPwr_topo (f : Power → Power) (d : Device) : (setPwr f d).topo = d.topo := rfl
@[simp] theorem setPwr_flows (f : Power → Power) (d : Device) : (setPwr f d).flows = d.flows := rfl
@[simp] theorem setPwr_hif (f : Power → Power) (d : Device) : (setPwr f d).hif = d.hif := rfl
@[simp] theorem setPwr_gest (f : Power → Power) (d : Device) : (setPwr f d).gest = d.gest := rfl
@[simp] theorem setPwr_pxl (f : Power → Power) (d : Device) : (setPwr f d).pxl = d.pxl := rfl
@[simp] theorem setPwr_corr (f : Power → Power) (d : Device) : (setPwr f d).corr = d.corr := rfl
@[simp] theorem setPwr_out (f : Power → Power) (d : Device) : (setPwr f d).out = d.out := rfl
@[simp] theorem setPwr_red (f : Power → Power) (d : Device) : (setPwr f d).red = d.red := rfl
@[simp] theorem setPwr_spare (f : Power → Power) (d : Device) : (setPwr f d).spare = d.spare := rfl
@[simp] theorem setPwr_fix (f : Power → Power) (d : Device) : (setPwr f d).fix = d.fix := rfl
@[simp] theorem setPwr_cal (f : Power → Power) (d : Device) : (setPwr f d).cal = d.cal := rfl
@[simp] theorem setPwr_mtr (f : Power → Power) (d : Device) : (setPwr f d).mtr = d.mtr := rfl
@[simp] theorem setPwr_sec (f : Power → Power) (d : Device) : (setPwr f d).sec = d.sec := rfl
@[simp] theorem setPwr_pwr (f : Power → Power) (d : Device) : (setPwr f d).pwr = f d.pwr := rfl
@[simp] theorem setPwr_regs (f : Power → Power) (d : Device) : (setPwr f d).regs = d.regs := rfl
@[simp] theorem setPwr_wideHold (f : Power → Power) (d : Device) : (setPwr f d).wideHold = d.wideHold := rfl
@[simp] theorem setPwr_snap (f : Power → Power) (d : Device) : (setPwr f d).snap = d.snap := rfl
@[simp] theorem setPwr_lastRead (f : Power → Power) (d : Device) : (setPwr f d).lastRead = d.lastRead := rfl
@[simp] theorem setPwr_proofIn (f : Power → Power) (d : Device) : (setPwr f d).proofIn = d.proofIn := rfl
@[simp] theorem setPwr_sent (f : Power → Power) (d : Device) : (setPwr f d).sent = d.sent := rfl
@[simp] theorem setPwr_host (f : Power → Power) (d : Device) : (setPwr f d).host = d.host := rfl
@[simp] theorem setPwr_comps (f : Power → Power) (d : Device) : (setPwr f d).comps = d.comps := rfl
@[simp] theorem setPwr_notes (f : Power → Power) (d : Device) : (setPwr f d).notes = d.notes := rfl

@[simp] theorem setWord_clk (d : Device) (a v : Nat) : (d.setWord a v).clk = d.clk := rfl
@[simp] theorem setWord_tim (d : Device) (a v : Nat) : (d.setWord a v).tim = d.tim := rfl
@[simp] theorem setWord_sched (d : Device) (a v : Nat) : (d.setWord a v).sched = d.sched := rfl
@[simp] theorem setWord_link (d : Device) (a v : Nat) : (d.setWord a v).link = d.link := rfl
@[simp] theorem setWord_ing (d : Device) (a v : Nat) : (d.setWord a v).ing = d.ing := rfl
@[simp] theorem setWord_topo (d : Device) (a v : Nat) : (d.setWord a v).topo = d.topo := rfl
@[simp] theorem setWord_flows (d : Device) (a v : Nat) : (d.setWord a v).flows = d.flows := rfl
@[simp] theorem setWord_hif (d : Device) (a v : Nat) : (d.setWord a v).hif = d.hif := rfl
@[simp] theorem setWord_gest (d : Device) (a v : Nat) : (d.setWord a v).gest = d.gest := rfl
@[simp] theorem setWord_pxl (d : Device) (a v : Nat) : (d.setWord a v).pxl = d.pxl := rfl
@[simp] theorem setWord_corr (d : Device) (a v : Nat) : (d.setWord a v).corr = d.corr := rfl
@[simp] theorem setWord_out (d : Device) (a v : Nat) : (d.setWord a v).out = d.out := rfl
@[simp] theorem setWord_red (d : Device) (a v : Nat) : (d.setWord a v).red = d.red := rfl
@[simp] theorem setWord_spare (d : Device) (a v : Nat) : (d.setWord a v).spare = d.spare := rfl
@[simp] theorem setWord_fix (d : Device) (a v : Nat) : (d.setWord a v).fix = d.fix := rfl
@[simp] theorem setWord_cal (d : Device) (a v : Nat) : (d.setWord a v).cal = d.cal := rfl
@[simp] theorem setWord_mtr (d : Device) (a v : Nat) : (d.setWord a v).mtr = d.mtr := rfl
@[simp] theorem setWord_sec (d : Device) (a v : Nat) : (d.setWord a v).sec = d.sec := rfl
@[simp] theorem setWord_pwr (d : Device) (a v : Nat) : (d.setWord a v).pwr = d.pwr := rfl
@[simp] theorem setWord_wideHold (d : Device) (a v : Nat) : (d.setWord a v).wideHold = d.wideHold := rfl
@[simp] theorem setWord_snap (d : Device) (a v : Nat) : (d.setWord a v).snap = d.snap := rfl
@[simp] theorem setWord_lastRead (d : Device) (a v : Nat) : (d.setWord a v).lastRead = d.lastRead := rfl
@[simp] theorem setWord_proofIn (d : Device) (a v : Nat) : (d.setWord a v).proofIn = d.proofIn := rfl
@[simp] theorem setWord_sent (d : Device) (a v : Nat) : (d.setWord a v).sent = d.sent := rfl
@[simp] theorem setWord_host (d : Device) (a v : Nat) : (d.setWord a v).host = d.host := rfl
@[simp] theorem setWord_comps (d : Device) (a v : Nat) : (d.setWord a v).comps = d.comps := rfl
@[simp] theorem setWord_notes (d : Device) (a v : Nat) : (d.setWord a v).notes = d.notes := rfl

@[simp] theorem bump_clk (d : Device) (a n : Nat) : (d.bump a n).clk = d.clk := rfl
@[simp] theorem bump_tim (d : Device) (a n : Nat) : (d.bump a n).tim = d.tim := rfl
@[simp] theorem bump_sched (d : Device) (a n : Nat) : (d.bump a n).sched = d.sched := rfl
@[simp] theorem bump_link (d : Device) (a n : Nat) : (d.bump a n).link = d.link := rfl
@[simp] theorem bump_ing (d : Device) (a n : Nat) : (d.bump a n).ing = d.ing := rfl
@[simp] theorem bump_topo (d : Device) (a n : Nat) : (d.bump a n).topo = d.topo := rfl
@[simp] theorem bump_flows (d : Device) (a n : Nat) : (d.bump a n).flows = d.flows := rfl
@[simp] theorem bump_hif (d : Device) (a n : Nat) : (d.bump a n).hif = d.hif := rfl
@[simp] theorem bump_gest (d : Device) (a n : Nat) : (d.bump a n).gest = d.gest := rfl
@[simp] theorem bump_pxl (d : Device) (a n : Nat) : (d.bump a n).pxl = d.pxl := rfl
@[simp] theorem bump_corr (d : Device) (a n : Nat) : (d.bump a n).corr = d.corr := rfl
@[simp] theorem bump_out (d : Device) (a n : Nat) : (d.bump a n).out = d.out := rfl
@[simp] theorem bump_red (d : Device) (a n : Nat) : (d.bump a n).red = d.red := rfl
@[simp] theorem bump_spare (d : Device) (a n : Nat) : (d.bump a n).spare = d.spare := rfl
@[simp] theorem bump_fix (d : Device) (a n : Nat) : (d.bump a n).fix = d.fix := rfl
@[simp] theorem bump_cal (d : Device) (a n : Nat) : (d.bump a n).cal = d.cal := rfl
@[simp] theorem bump_mtr (d : Device) (a n : Nat) : (d.bump a n).mtr = d.mtr := rfl
@[simp] theorem bump_sec (d : Device) (a n : Nat) : (d.bump a n).sec = d.sec := rfl
@[simp] theorem bump_pwr (d : Device) (a n : Nat) : (d.bump a n).pwr = d.pwr := rfl
@[simp] theorem bump_wideHold (d : Device) (a n : Nat) : (d.bump a n).wideHold = d.wideHold := rfl
@[simp] theorem bump_snap (d : Device) (a n : Nat) : (d.bump a n).snap = d.snap := rfl
@[simp] theorem bump_lastRead (d : Device) (a n : Nat) : (d.bump a n).lastRead = d.lastRead := rfl
@[simp] theorem bump_proofIn (d : Device) (a n : Nat) : (d.bump a n).proofIn = d.proofIn := rfl
@[simp] theorem bump_sent (d : Device) (a n : Nat) : (d.bump a n).sent = d.sent := rfl
@[simp] theorem bump_host (d : Device) (a n : Nat) : (d.bump a n).host = d.host := rfl
@[simp] theorem bump_comps (d : Device) (a n : Nat) : (d.bump a n).comps = d.comps := rfl
@[simp] theorem bump_notes (d : Device) (a n : Nat) : (d.bump a n).notes = d.notes := rfl

@[simp] theorem setPort_clk (d : Device) (n : Nat) (f : LinkPort → LinkPort) : (d.setPort n f).clk = d.clk := rfl
@[simp] theorem setPort_tim (d : Device) (n : Nat) (f : LinkPort → LinkPort) : (d.setPort n f).tim = d.tim := rfl
@[simp] theorem setPort_sched (d : Device) (n : Nat) (f : LinkPort → LinkPort) : (d.setPort n f).sched = d.sched := rfl
@[simp] theorem setPort_link (d : Device) (n : Nat) (f : LinkPort → LinkPort) : (d.setPort n f).link = modAt d.link n f := rfl
@[simp] theorem setPort_ing (d : Device) (n : Nat) (f : LinkPort → LinkPort) : (d.setPort n f).ing = d.ing := rfl
@[simp] theorem setPort_topo (d : Device) (n : Nat) (f : LinkPort → LinkPort) : (d.setPort n f).topo = d.topo := rfl
@[simp] theorem setPort_flows (d : Device) (n : Nat) (f : LinkPort → LinkPort) : (d.setPort n f).flows = d.flows := rfl
@[simp] theorem setPort_hif (d : Device) (n : Nat) (f : LinkPort → LinkPort) : (d.setPort n f).hif = d.hif := rfl
@[simp] theorem setPort_gest (d : Device) (n : Nat) (f : LinkPort → LinkPort) : (d.setPort n f).gest = d.gest := rfl
@[simp] theorem setPort_pxl (d : Device) (n : Nat) (f : LinkPort → LinkPort) : (d.setPort n f).pxl = d.pxl := rfl
@[simp] theorem setPort_corr (d : Device) (n : Nat) (f : LinkPort → LinkPort) : (d.setPort n f).corr = d.corr := rfl
@[simp] theorem setPort_out (d : Device) (n : Nat) (f : LinkPort → LinkPort) : (d.setPort n f).out = d.out := rfl
@[simp] theorem setPort_red (d : Device) (n : Nat) (f : LinkPort → LinkPort) : (d.setPort n f).red = d.red := rfl
@[simp] theorem setPort_spare (d : Device) (n : Nat) (f : LinkPort → LinkPort) : (d.setPort n f).spare = d.spare := rfl
@[simp] theorem setPort_fix (d : Device) (n : Nat) (f : LinkPort → LinkPort) : (d.setPort n f).fix = d.fix := rfl
@[simp] theorem setPort_cal (d : Device) (n : Nat) (f : LinkPort → LinkPort) : (d.setPort n f).cal = d.cal := rfl
@[simp] theorem setPort_mtr (d : Device) (n : Nat) (f : LinkPort → LinkPort) : (d.setPort n f).mtr = d.mtr := rfl
@[simp] theorem setPort_sec (d : Device) (n : Nat) (f : LinkPort → LinkPort) : (d.setPort n f).sec = d.sec := rfl
@[simp] theorem setPort_pwr (d : Device) (n : Nat) (f : LinkPort → LinkPort) : (d.setPort n f).pwr = d.pwr := rfl
@[simp] theorem setPort_regs (d : Device) (n : Nat) (f : LinkPort → LinkPort) : (d.setPort n f).regs = d.regs := rfl
@[simp] theorem setPort_wideHold (d : Device) (n : Nat) (f : LinkPort → LinkPort) : (d.setPort n f).wideHold = d.wideHold := rfl
@[simp] theorem setPort_snap (d : Device) (n : Nat) (f : LinkPort → LinkPort) : (d.setPort n f).snap = d.snap := rfl
@[simp] theorem setPort_lastRead (d : Device) (n : Nat) (f : LinkPort → LinkPort) : (d.setPort n f).lastRead = d.lastRead := rfl
@[simp] theorem setPort_proofIn (d : Device) (n : Nat) (f : LinkPort → LinkPort) : (d.setPort n f).proofIn = d.proofIn := rfl
@[simp] theorem setPort_sent (d : Device) (n : Nat) (f : LinkPort → LinkPort) : (d.setPort n f).sent = d.sent := rfl
@[simp] theorem setPort_host (d : Device) (n : Nat) (f : LinkPort → LinkPort) : (d.setPort n f).host = d.host := rfl
@[simp] theorem setPort_comps (d : Device) (n : Nat) (f : LinkPort → LinkPort) : (d.setPort n f).comps = d.comps := rfl
@[simp] theorem setPort_notes (d : Device) (n : Nat) (f : LinkPort → LinkPort) : (d.setPort n f).notes = d.notes := rfl

@[simp] theorem keepClk_clk (d e : Device) : (keepClk d e).clk = d.clk := rfl
@[simp] theorem keepClk_tim (d e : Device) : (keepClk d e).tim = e.tim := rfl
@[simp] theorem keepClk_sched (d e : Device) : (keepClk d e).sched = e.sched := rfl
@[simp] theorem keepClk_link (d e : Device) : (keepClk d e).link = e.link := rfl
@[simp] theorem keepClk_ing (d e : Device) : (keepClk d e).ing = e.ing := rfl
@[simp] theorem keepClk_topo (d e : Device) : (keepClk d e).topo = e.topo := rfl
@[simp] theorem keepClk_flows (d e : Device) : (keepClk d e).flows = e.flows := rfl
@[simp] theorem keepClk_hif (d e : Device) : (keepClk d e).hif = e.hif := rfl
@[simp] theorem keepClk_gest (d e : Device) : (keepClk d e).gest = e.gest := rfl
@[simp] theorem keepClk_pxl (d e : Device) : (keepClk d e).pxl = e.pxl := rfl
@[simp] theorem keepClk_corr (d e : Device) : (keepClk d e).corr = e.corr := rfl
@[simp] theorem keepClk_out (d e : Device) : (keepClk d e).out = e.out := rfl
@[simp] theorem keepClk_red (d e : Device) : (keepClk d e).red = e.red := rfl
@[simp] theorem keepClk_spare (d e : Device) : (keepClk d e).spare = e.spare := rfl
@[simp] theorem keepClk_fix (d e : Device) : (keepClk d e).fix = e.fix := rfl
@[simp] theorem keepClk_cal (d e : Device) : (keepClk d e).cal = e.cal := rfl
@[simp] theorem keepClk_mtr (d e : Device) : (keepClk d e).mtr = e.mtr := rfl
@[simp] theorem keepClk_sec (d e : Device) : (keepClk d e).sec = e.sec := rfl
@[simp] theorem keepClk_pwr (d e : Device) : (keepClk d e).pwr = e.pwr := rfl
@[simp] theorem keepClk_regs (d e : Device) : (keepClk d e).regs = e.regs := rfl
@[simp] theorem keepClk_wideHold (d e : Device) : (keepClk d e).wideHold = e.wideHold := rfl
@[simp] theorem keepClk_snap (d e : Device) : (keepClk d e).snap = e.snap := rfl
@[simp] theorem keepClk_lastRead (d e : Device) : (keepClk d e).lastRead = e.lastRead := rfl
@[simp] theorem keepClk_proofIn (d e : Device) : (keepClk d e).proofIn = e.proofIn := rfl
@[simp] theorem keepClk_sent (d e : Device) : (keepClk d e).sent = e.sent := rfl
@[simp] theorem keepClk_host (d e : Device) : (keepClk d e).host = e.host := rfl
@[simp] theorem keepClk_comps (d e : Device) : (keepClk d e).comps = e.comps := rfl
@[simp] theorem keepClk_notes (d e : Device) : (keepClk d e).notes = e.notes := rfl

@[simp] theorem keepClk_self (d : Device) : keepClk d d = d := rfl

theorem when_true (f : Device → Device) (d : Device) : when true f d = f d := rfl

theorem when_false (f : Device → Device) (d : Device) : when false f d = d := rfl

end Sys2Proof.Laws
end

