-- ==== Sys2Proof/Laws/Clock.lean ====
section
/-! SUPPORT. Laws/Clock.lean: the raster clock stays on its raster through every operation that moves it (R2, R45, R46,
R60), and every other operation leaves it alone. -/

namespace Sys2Proof.Laws

open Machine

theorem onRaster_ite {c : Prop} [Decidable c] {d e : Device} (hd : OnRaster d.clk) (he : OnRaster e.clk) :
    OnRaster (if c then d else e).clk := by
  split <;> assumption

theorem onRaster_goTo {c : Clock} (h : OnRaster c) (rp : RP) : OnRaster (c.goTo rp) := by
  unfold Clock.goTo
  split
  · exact ⟨by simp_all, by simp_all, by simp⟩
  · exact h

theorem onRaster_reach {c : Clock} (h : OnRaster c) (rp : RP) : OnRaster (c.reach rp) := by
  unfold Clock.reach
  split
  · exact onRaster_goTo h rp
  · exact h

theorem onRaster_restart {c : Clock} (h : OnRaster c) (r : Raster) : OnRaster (c.restart r) := by
  unfold Clock.restart
  split
  · exact ⟨by assumption, by simp [RP.start], by simp⟩
  · exact h

theorem onRaster_held {c : Clock} (h : OnRaster c) (ns : Option Nat) : OnRaster (c.held ns) := h

theorem onRaster_frac {c : Clock} (h : OnRaster c) (rp : RP) (n : Nat) (hn : n < 4294967296) :
    OnRaster { c.goTo rp with frac := n } :=
  ⟨(onRaster_goTo h rp).1, (onRaster_goTo h rp).2.1, hn⟩

theorem onRaster_shift {c : Clock} (h : OnRaster c) (off16 : Int) : OnRaster (c.shift off16) := by
  unfold Clock.shift
  exact onRaster_frac h _ _ (by omega)

theorem onRaster_tick {c : Clock} (h : OnRaster c) (stops : List RP) : OnRaster (c.tick stops) := by
  unfold Clock.tick
  generalize c.frac + c.raster.inc = n
  dsimp only
  split
  · exact h
  · exact onRaster_frac h _ _ (Nat.mod_lt _ (Nat.two_pow_pos 32))

theorem onRaster_reset (cause : Nat) (d : Device) : OnRaster (resetDevice cause d).clk :=
  ⟨show 0 < 1125 by decide, show 0 < 65536 by decide, show 0 < 4294967296 by decide⟩

theorem quiet_clk (f : Device → Device) (d : Device) : (quiet f d).clk = d.clk := rfl

theorem onRaster_idle {d : Device} (h : OnRaster d.clk) : OnRaster (idle d).clk := by
  unfold idle
  split
  · exact h
  · exact onRaster_tick h _

theorem onRaster_steppedClock {c : Clock} (h : OnRaster c) (off : Int) : OnRaster (steppedClock off c) := by
  unfold steppedClock
  split
  · exact onRaster_shift h _
  · exact h

theorem onRaster_makeStep {d : Device} (h : OnRaster d.clk) (off : Int) : OnRaster (makeStep off d).clk := by
  unfold makeStep
  dsimp only
  split
  · rw [quiet_clk]; exact onRaster_steppedClock h off
  · rw [setTime_clk]; exact onRaster_steppedClock h off

theorem onRaster_resume {d : Device} (h : OnRaster d.clk) : OnRaster (resumeFx d).clk := by
  unfold resumeFx
  dsimp only
  split
  · exact h
  · rw [quiet_clk]; exact h

theorem onRaster_tryStep {d : Device} (h : OnRaster d.clk) (c : Cmd) (m : Nat) : OnRaster (tryStep c m d).clk := by
  unfold tryStep
  dsimp only
  split
  · exact h
  · split
    · exact h
    · split <;> rw [quiet_clk] <;> exact onRaster_makeStep h _

theorem onRaster_timeStep {d : Device} (h : OnRaster d.clk) (c : Cmd) : OnRaster (timeStepFx c d).clk := by
  unfold timeStepFx
  split
  · exact h
  · exact onRaster_tryStep h _ _

theorem onRaster_restarted {d : Device} (h : OnRaster d.clk) (r : Raster) : OnRaster (restarted r d).clk :=
  onRaster_restart h r

theorem onRaster_adoptRaster {d : Device} (h : OnRaster d.clk) (pair : Nat) (r : Raster) :
    OnRaster (adoptRaster pair r d).clk := by
  unfold adoptRaster
  dsimp only
  rw [quiet_clk, quiet_clk]
  split
  · exact h
  · exact onRaster_restarted h r

theorem onRaster_nodeMeasure {d : Device} (h : OnRaster d.clk) (pair dir : Nat) :
    OnRaster (nodeMeasure pair dir d).clk := by
  unfold nodeMeasure
  dsimp only
  split
  · exact h
  · split
    · exact h
    · split
      · exact onRaster_makeStep (by rw [quiet_clk, quiet_clk]; exact h) _
      · rw [quiet_clk, quiet_clk]; exact h

theorem onRaster_adopted {d : Device} (h : OnRaster d.clk) (c : Bool) (pair : Nat) (r : Raster) :
    OnRaster (if c then adoptRaster pair r d else d).clk :=
  onRaster_ite (onRaster_adoptRaster h pair r) h

theorem onRaster_nodeTime {d : Device} (h : OnRaster d.clk) (t : TimeRx) (x : Hdr) (b : List Byte) :
    OnRaster (nodeTime t x b d).clk := by
  have ha := onRaster_adopted h (adopts d (pairOf t.frame.port.val) (timeRaster b)) (pairOf t.frame.port.val) (timeRaster b)
  unfold nodeTime
  dsimp only
  refine onRaster_ite h (onRaster_ite (onRaster_ite h h) (onRaster_ite ?_ (onRaster_nodeMeasure ?_ _ _)))
  · rw [quiet_clk]; exact ha
  · rw [quiet_clk]; exact ha

theorem onRaster_timeFrame {d : Device} (h : OnRaster d.clk) (t : TimeRx) : OnRaster (timeFrameFx t d).clk := by
  unfold timeFrameFx
  dsimp only
  split
  · split
    · rw [quiet_clk]; exact h
    · rw [quiet_clk]
      exact onRaster_nodeTime (d := keepClk d (takeTime t.frame 0 (timeOnward t d) d).dev) h t _ _
  · exact h

theorem onRaster_headFirstLock {d : Device} (h : OnRaster d.clk) (rp : RP) : OnRaster (headFirstLock rp d).clk := by
  unfold headFirstLock
  rw [quiet_clk]
  exact onRaster_goTo h rp

theorem onRaster_ptpTaken {d : Device} (h : OnRaster d.clk) (m : PtpExchange) : OnRaster (ptpTaken m d).clk := by
  unfold ptpTaken
  dsimp only
  split
  · exact h
  · split
    · exact h
    · split
      · exact onRaster_headFirstLock (by exact h) _
      · exact h
    · exact h

theorem onRaster_ptpMeasurement {d : Device} (h : OnRaster d.clk) (m : PtpExchange) :
    OnRaster (ptpMeasurementFx m d).clk := by
  unfold ptpMeasurementFx
  exact onRaster_ite (onRaster_ptpTaken (d := keepClk d (ptpFrames m d).2) h m) h

theorem onRaster_syncEdge {d : Device} (h : OnRaster d.clk) (falling : Bool) : OnRaster (syncEdgeFx falling d).clk := by
  unfold syncEdgeFx
  dsimp only
  split
  · exact h
  · split
    · exact h
    · split
      · exact h
      · split
        · exact onRaster_headFirstLock (by exact h) _
        · exact h
      · exact h

theorem onRaster_shutterEdge {d : Device} (h : OnRaster d.clk) (w : Nat) (close : Bool) :
    OnRaster (shutterEdgeFx w close d).clk := by
  unfold shutterEdgeFx
  split
  · exact h
  · split
    · unfold shutterCloseFx
      dsimp only
      split
      · exact onRaster_reach h _
      · exact h
    · unfold shutterOpenFx
      dsimp only
      split
      · exact h
      · exact onRaster_reach h _

theorem onRaster_patExpiry {d : Device} (h : OnRaster d.clk) (n : Nat) : OnRaster (patExpiryFx n d).clk := by
  unfold patExpiryFx
  dsimp only
  split
  · exact h
  · exact onRaster_reach h _

theorem onRaster_dmxBreak {d : Device} (h : OnRaster d.clk) (p : Nat) (bad : Bool) :
    OnRaster (dmxBreakFx p bad d).clk := by
  unfold dmxBreakFx
  dsimp only
  split
  · exact h
  · split
    · exact onRaster_reach h _
    · exact h

theorem onRaster_headRunClock {d : Device} (h : OnRaster d.clk) : OnRaster (headRunClock d).clk := by
  unfold headRunClock
  exact onRaster_ite (onRaster_restarted h _) h

theorem onRaster_runEntry {d : Device} (h : OnRaster d.clk) : OnRaster (runEntryFx d).clk := by
  unfold runEntryFx
  dsimp only
  split
  · exact h
  · rw [quiet_clk]; exact onRaster_headRunClock h

theorem onRaster_meterDone {d : Device} (h : OnRaster d.clk) (ok : Bool) : OnRaster (meterDoneFx ok d).clk := by
  unfold meterDoneFx
  exact onRaster_ite (onRaster_reset _ _) h

theorem onRaster_hostReset {d : Device} (h : OnRaster d.clk) : OnRaster (hostResetFx d).clk := by
  unfold hostResetFx
  split
  · exact onRaster_ite (onRaster_reset _ _) h
  · exact h

theorem onRaster_registerWrite {d : Device} (h : OnRaster d.clk) (a v : Nat) :
    OnRaster (registerWriteFx a v d).clk := by
  unfold registerWriteFx pwrResetFx
  exact onRaster_ite h (onRaster_ite (onRaster_ite (onRaster_reset _ _) h) h)

theorem onRaster_ctrlWrite {d : Device} (h : OnRaster d.clk) (f : RxFrame) : OnRaster (ctrlWriteFx f d).clk := by
  unfold ctrlWriteFx
  exact onRaster_ite (onRaster_reset _ _) h

theorem onRaster_acquire {d : Device} (h : OnRaster d.clk) (rate : Int) : OnRaster (acquireFx rate d).clk := by
  unfold acquireFx
  dsimp only
  split
  · exact h
  · split
    · exact h
    · split
      · exact h
      · rw [quiet_clk]; exact onRaster_shift (by rw [quiet_clk]; exact h) _

theorem onRaster_readopt {d : Device} (h : OnRaster d.clk) : OnRaster (readoptFx d).clk := by
  unfold readoptFx
  dsimp only
  split
  · exact h
  · split
    · exact h
    · split
      · exact h
      · rw [quiet_clk]; exact onRaster_restart (by rw [quiet_clk]; exact h) _

/-! ### The commands that come due, and what runs them -/

theorem when_clk {c : Bool} {f : Device → Device} {d : Device} (h : (f d).clk = d.clk) : (when c f d).clk = d.clk := by
  unfold when
  split
  · exact h
  · rfl

theorem settle_clk (was : RP) (d : Device) : (settle was d).clk = d.clk := by
  unfold settle
  exact (when_clk (quiet_clk _ _)).trans (when_clk (quiet_clk _ _))

theorem onRaster_runStep {d : Device} (h : OnRaster d.clk) (e : Entry) : OnRaster (runStep e d).clk := by
  unfold runStep
  split
  · exact h
  · rw [settle_clk, quiet_clk]
    exact onRaster_tryStep (by rw [quiet_clk]; exact h) _ _

theorem onRaster_runOne {d : Device} (h : OnRaster d.clk) (e : Entry) : OnRaster (runOne e d).clk := by
  unfold runOne
  dsimp only
  split
  · exact onRaster_runStep (onRaster_reach h _) e
  · split <;> (rw [quiet_clk]; exact onRaster_reach h _)

theorem onRaster_foldl {α : Type} {f : Device → α → Device} (hf : ∀ d a, OnRaster d.clk → OnRaster (f d a).clk)
    (l : List α) {d : Device} (h : OnRaster d.clk) : OnRaster (l.foldl f d).clk := by
  induction l generalizing d with
  | nil => exact h
  | cons a l ih => exact ih (hf d a h)

theorem onRaster_targetsFirst {d : Device} (h : OnRaster d.clk) (e : Entry) : OnRaster (targetsFirst e d).clk := by
  unfold targetsFirst
  refine onRaster_ite (onRaster_foldl (fun _ x hd => onRaster_ite ?_ (onRaster_runOne hd x)) _ h) h
  rw [quiet_clk]
  exact hd

theorem onRaster_runNext {d : Device} (h : OnRaster d.clk) (e : Entry) : OnRaster (runNext e d).clk := by
  unfold runNext
  dsimp only
  refine onRaster_runOne (onRaster_targetsFirst (onRaster_ite ?_ ?_) e) e
  · rw [quiet_clk]; exact onRaster_reach h _
  · exact onRaster_reach h _

theorem onRaster_aligned {d : Device} (h : OnRaster d.clk) : OnRaster (alignedFx d).clk := by
  unfold alignedFx
  split
  · exact h
  · exact onRaster_ite h (onRaster_runNext h _)

theorem onRaster_runDue (n : Nat) (p : RP) {d : Device} (h : OnRaster d.clk) : OnRaster (runDue n p d).clk := by
  induction n generalizing d with
  | zero => exact h
  | succ n ih =>
    unfold runDue
    split
    · exact h
    · exact onRaster_ite h (ih (onRaster_runNext h _))

theorem onRaster_dueBy {d : Device} (h : OnRaster d.clk) (p : RP) : OnRaster (dueBy p d).clk := onRaster_runDue _ p h

theorem onRaster_comeTo {d : Device} (h : OnRaster d.clk) (p : RP) (work : Device → Device) :
    OnRaster (comeTo p work d).clk := by
  unfold comeTo
  dsimp only
  refine onRaster_ite (onRaster_dueBy h p) ?_
  rw [quiet_clk]
  exact onRaster_reach (onRaster_dueBy h p) _

theorem onRaster_cutoff {d : Device} (h : OnRaster d.clk) : OnRaster (cutoffFx d).clk := by
  unfold cutoffFx
  exact onRaster_ite h (onRaster_comeTo h _ _)

theorem onRaster_deadline {d : Device} (h : OnRaster d.clk) : OnRaster (deadlineStep d).clk := by
  unfold deadlineStep
  exact onRaster_ite h (onRaster_comeTo h _ _)

theorem onRaster_subDue {d : Device} (h : OnRaster d.clk) : OnRaster (subDue d).clk := by
  unfold subDue
  split
  · exact onRaster_dueBy h _
  · exact h

theorem onRaster_subRow {d : Device} (h : OnRaster d.clk) : OnRaster (subRow d).clk := by
  unfold subRow
  dsimp only
  split
  · exact h
  · split
    · exact onRaster_comeTo (onRaster_subDue (onRaster_subDue h)) _ _
    · exact onRaster_subDue (onRaster_subDue h)

theorem onRaster_dueFirst {d : Device} (h : OnRaster d.clk) (at_ : Device → Option RP) :
    OnRaster (dueFirst at_ d).clk := by
  have step : ∀ {x : Device}, OnRaster x.clk → OnRaster (match at_ x with | some p => dueBy p x | none => x).clk := by
    intro x hx
    split
    · exact onRaster_dueBy hx _
    · exact hx
  unfold dueFirst
  exact step (step h)

theorem onRaster_boundary {d : Device} (h : OnRaster d.clk) : OnRaster (boundaryFx d).clk := by
  unfold boundaryFx
  dsimp only
  refine onRaster_ite h (onRaster_ite (onRaster_dueBy h _) ?_)
  rw [quiet_clk]
  exact onRaster_reach (onRaster_dueBy h _) _

end Sys2Proof.Laws
end

