-- ==== Sys2Proof/Laws/Reports.lean ====
section
/-! SUPPORT. Laws/Reports.lean: what the shared operations of Ops do, once each: the records they add, and the parts they
leave alone. -/

namespace Sys2Proof.Laws

open Machine

theorem clk_of_mask {ps : List Part} {d e : Device} (h : blank ps e = blank ps d) (hp : has ps .clk = false) :
    e.clk = d.clk := of_bif (congrArg Device.clk h) hp

theorem tim_of_mask {ps : List Part} {d e : Device} (h : blank ps e = blank ps d) (hp : has ps .tim = false) :
    e.tim = d.tim := of_bif (congrArg Device.tim h) hp

theorem sched_of_mask {ps : List Part} {d e : Device} (h : blank ps e = blank ps d) (hp : has ps .sched = false) :
    e.sched = d.sched := of_bif (congrArg Device.sched h) hp

theorem link_of_mask {ps : List Part} {d e : Device} (h : blank ps e = blank ps d) (hp : has ps .link = false) :
    e.link = d.link := of_bif (congrArg Device.link h) hp

theorem ing_of_mask {ps : List Part} {d e : Device} (h : blank ps e = blank ps d) (hp : has ps .ing = false) :
    e.ing = d.ing := of_bif (congrArg Device.ing h) hp

theorem topo_of_mask {ps : List Part} {d e : Device} (h : blank ps e = blank ps d) (hp : has ps .topo = false) :
    e.topo = d.topo := of_bif (congrArg Device.topo h) hp

theorem flows_of_mask {ps : List Part} {d e : Device} (h : blank ps e = blank ps d) (hp : has ps .flows = false) :
    e.flows = d.flows := of_bif (congrArg Device.flows h) hp

theorem hif_of_mask {ps : List Part} {d e : Device} (h : blank ps e = blank ps d) (hp : has ps .hif = false) :
    e.hif = d.hif := of_bif (congrArg Device.hif h) hp

theorem gest_of_mask {ps : List Part} {d e : Device} (h : blank ps e = blank ps d) (hp : has ps .gest = false) :
    e.gest = d.gest := of_bif (congrArg Device.gest h) hp

theorem pxl_of_mask {ps : List Part} {d e : Device} (h : blank ps e = blank ps d) (hp : has ps .pxl = false) :
    e.pxl = d.pxl := of_bif (congrArg Device.pxl h) hp

theorem corr_of_mask {ps : List Part} {d e : Device} (h : blank ps e = blank ps d) (hp : has ps .corr = false) :
    e.corr = d.corr := of_bif (congrArg Device.corr h) hp

theorem out_of_mask {ps : List Part} {d e : Device} (h : blank ps e = blank ps d) (hp : has ps .out = false) :
    e.out = d.out := of_bif (congrArg Device.out h) hp

theorem red_of_mask {ps : List Part} {d e : Device} (h : blank ps e = blank ps d) (hp : has ps .red = false) :
    e.red = d.red := of_bif (congrArg Device.red h) hp

theorem spare_of_mask {ps : List Part} {d e : Device} (h : blank ps e = blank ps d) (hp : has ps .spare = false) :
    e.spare = d.spare := of_bif (congrArg Device.spare h) hp

theorem fix_of_mask {ps : List Part} {d e : Device} (h : blank ps e = blank ps d) (hp : has ps .fix = false) :
    e.fix = d.fix := of_bif (congrArg Device.fix h) hp

theorem cal_of_mask {ps : List Part} {d e : Device} (h : blank ps e = blank ps d) (hp : has ps .cal = false) :
    e.cal = d.cal := of_bif (congrArg Device.cal h) hp

theorem mtr_of_mask {ps : List Part} {d e : Device} (h : blank ps e = blank ps d) (hp : has ps .mtr = false) :
    e.mtr = d.mtr := of_bif (congrArg Device.mtr h) hp

theorem sec_of_mask {ps : List Part} {d e : Device} (h : blank ps e = blank ps d) (hp : has ps .sec = false) :
    e.sec = d.sec := of_bif (congrArg Device.sec h) hp

theorem pwr_of_mask {ps : List Part} {d e : Device} (h : blank ps e = blank ps d) (hp : has ps .pwr = false) :
    e.pwr = d.pwr := of_bif (congrArg Device.pwr h) hp

theorem regs_of_mask {ps : List Part} {d e : Device} (h : blank ps e = blank ps d) (hp : has ps .regs = false) :
    e.regs = d.regs := of_bif (congrArg Device.regs h) hp

theorem wideHold_of_mask {ps : List Part} {d e : Device} (h : blank ps e = blank ps d) (hp : has ps .wideHold = false) :
    e.wideHold = d.wideHold := of_bif (congrArg Device.wideHold h) hp

theorem snap_of_mask {ps : List Part} {d e : Device} (h : blank ps e = blank ps d) (hp : has ps .snap = false) :
    e.snap = d.snap := of_bif (congrArg Device.snap h) hp

theorem lastRead_of_mask {ps : List Part} {d e : Device} (h : blank ps e = blank ps d) (hp : has ps .lastRead = false) :
    e.lastRead = d.lastRead := of_bif (congrArg Device.lastRead h) hp

theorem proofIn_of_mask {ps : List Part} {d e : Device} (h : blank ps e = blank ps d) (hp : has ps .proofIn = false) :
    e.proofIn = d.proofIn := of_bif (congrArg Device.proofIn h) hp

theorem sent_of_mask {ps : List Part} {d e : Device} (h : blank ps e = blank ps d) (hp : has ps .sent = false) :
    e.sent = d.sent := of_bif (congrArg Device.sent h) hp

theorem host_of_mask {ps : List Part} {d e : Device} (h : blank ps e = blank ps d) (hp : has ps .host = false) :
    e.host = d.host := of_bif (congrArg Device.host h) hp

theorem comps_of_mask {ps : List Part} {d e : Device} (h : blank ps e = blank ps d) (hp : has ps .comps = false) :
    e.comps = d.comps := of_bif (congrArg Device.comps h) hp

theorem notes_of_mask {ps : List Part} {d e : Device} (h : blank ps e = blank ps d) (hp : has ps .notes = false) :
    e.notes = d.notes := of_bif (congrArg Device.notes h) hp

theorem act_does {f : Device → Device} {s : State} {i : Instr} {p : Device → Prop} (hi : exec i s = act f s)
    (hp : p (keepClk s.dev (f s.dev))) : Does i s p :=
  ⟨_, hi, rfl, hp⟩

theorem clocked_does {f : Device → Device} {s : State} {i : Instr} {p : Device → Prop} (hi : exec i s = clocked f s)
    (hp : p (f s.dev)) : Does i s p :=
  ⟨_, hi, rfl, hp⟩

@[simp] theorem record_clk (n : Notice) (d : Device) : (record n d).clk = d.clk :=
  clk_of_mask (mask_record (ps := [.link, .flows, .hif, .sent, .host]) rfl n d) rfl

@[simp] theorem record_tim (n : Notice) (d : Device) : (record n d).tim = d.tim :=
  tim_of_mask (mask_record (ps := [.link, .flows, .hif, .sent, .host]) rfl n d) rfl

@[simp] theorem record_sched (n : Notice) (d : Device) : (record n d).sched = d.sched :=
  sched_of_mask (mask_record (ps := [.link, .flows, .hif, .sent, .host]) rfl n d) rfl

@[simp] theorem record_ing (n : Notice) (d : Device) : (record n d).ing = d.ing :=
  ing_of_mask (mask_record (ps := [.link, .flows, .hif, .sent, .host]) rfl n d) rfl

@[simp] theorem record_topo (n : Notice) (d : Device) : (record n d).topo = d.topo :=
  topo_of_mask (mask_record (ps := [.link, .flows, .hif, .sent, .host]) rfl n d) rfl

@[simp] theorem record_gest (n : Notice) (d : Device) : (record n d).gest = d.gest :=
  gest_of_mask (mask_record (ps := [.link, .flows, .hif, .sent, .host]) rfl n d) rfl

@[simp] theorem record_pxl (n : Notice) (d : Device) : (record n d).pxl = d.pxl :=
  pxl_of_mask (mask_record (ps := [.link, .flows, .hif, .sent, .host]) rfl n d) rfl

@[simp] theorem record_corr (n : Notice) (d : Device) : (record n d).corr = d.corr :=
  corr_of_mask (mask_record (ps := [.link, .flows, .hif, .sent, .host]) rfl n d) rfl

@[simp] theorem record_out (n : Notice) (d : Device) : (record n d).out = d.out :=
  out_of_mask (mask_record (ps := [.link, .flows, .hif, .sent, .host]) rfl n d) rfl

@[simp] theorem record_red (n : Notice) (d : Device) : (record n d).red = d.red :=
  red_of_mask (mask_record (ps := [.link, .flows, .hif, .sent, .host]) rfl n d) rfl

@[simp] theorem record_spare (n : Notice) (d : Device) : (record n d).spare = d.spare :=
  spare_of_mask (mask_record (ps := [.link, .flows, .hif, .sent, .host]) rfl n d) rfl

@[simp] theorem record_fix (n : Notice) (d : Device) : (record n d).fix = d.fix :=
  fix_of_mask (mask_record (ps := [.link, .flows, .hif, .sent, .host]) rfl n d) rfl

@[simp] theorem record_cal (n : Notice) (d : Device) : (record n d).cal = d.cal :=
  cal_of_mask (mask_record (ps := [.link, .flows, .hif, .sent, .host]) rfl n d) rfl

@[simp] theorem record_mtr (n : Notice) (d : Device) : (record n d).mtr = d.mtr :=
  mtr_of_mask (mask_record (ps := [.link, .flows, .hif, .sent, .host]) rfl n d) rfl

@[simp] theorem record_sec (n : Notice) (d : Device) : (record n d).sec = d.sec :=
  sec_of_mask (mask_record (ps := [.link, .flows, .hif, .sent, .host]) rfl n d) rfl

@[simp] theorem record_pwr (n : Notice) (d : Device) : (record n d).pwr = d.pwr :=
  pwr_of_mask (mask_record (ps := [.link, .flows, .hif, .sent, .host]) rfl n d) rfl

@[simp] theorem record_regs (n : Notice) (d : Device) : (record n d).regs = d.regs :=
  regs_of_mask (mask_record (ps := [.link, .flows, .hif, .sent, .host]) rfl n d) rfl

@[simp] theorem record_wideHold (n : Notice) (d : Device) : (record n d).wideHold = d.wideHold :=
  wideHold_of_mask (mask_record (ps := [.link, .flows, .hif, .sent, .host]) rfl n d) rfl

@[simp] theorem record_snap (n : Notice) (d : Device) : (record n d).snap = d.snap :=
  snap_of_mask (mask_record (ps := [.link, .flows, .hif, .sent, .host]) rfl n d) rfl

@[simp] theorem record_lastRead (n : Notice) (d : Device) : (record n d).lastRead = d.lastRead :=
  lastRead_of_mask (mask_record (ps := [.link, .flows, .hif, .sent, .host]) rfl n d) rfl

@[simp] theorem record_proofIn (n : Notice) (d : Device) : (record n d).proofIn = d.proofIn :=
  proofIn_of_mask (mask_record (ps := [.link, .flows, .hif, .sent, .host]) rfl n d) rfl

@[simp] theorem record_comps (n : Notice) (d : Device) : (record n d).comps = d.comps :=
  comps_of_mask (mask_record (ps := [.link, .flows, .hif, .sent, .host]) rfl n d) rfl

@[simp] theorem record_notes (n : Notice) (d : Device) : (record n d).notes = d.notes :=
  notes_of_mask (mask_record (ps := [.link, .flows, .hif, .sent, .host]) rfl n d) rfl

@[simp] theorem raise_clk (code : Nat) (payload : List Byte) (d : Device) : (raise code payload d).clk = d.clk :=
  clk_of_mask (mask_raise (ps := [.link, .flows, .hif, .sent, .host, .notes]) rfl code payload d) rfl

@[simp] theorem raise_tim (code : Nat) (payload : List Byte) (d : Device) : (raise code payload d).tim = d.tim :=
  tim_of_mask (mask_raise (ps := [.link, .flows, .hif, .sent, .host, .notes]) rfl code payload d) rfl

@[simp] theorem raise_sched (code : Nat) (payload : List Byte) (d : Device) : (raise code payload d).sched = d.sched :=
  sched_of_mask (mask_raise (ps := [.link, .flows, .hif, .sent, .host, .notes]) rfl code payload d) rfl

@[simp] theorem raise_ing (code : Nat) (payload : List Byte) (d : Device) : (raise code payload d).ing = d.ing :=
  ing_of_mask (mask_raise (ps := [.link, .flows, .hif, .sent, .host, .notes]) rfl code payload d) rfl

@[simp] theorem raise_topo (code : Nat) (payload : List Byte) (d : Device) : (raise code payload d).topo = d.topo :=
  topo_of_mask (mask_raise (ps := [.link, .flows, .hif, .sent, .host, .notes]) rfl code payload d) rfl

@[simp] theorem raise_gest (code : Nat) (payload : List Byte) (d : Device) : (raise code payload d).gest = d.gest :=
  gest_of_mask (mask_raise (ps := [.link, .flows, .hif, .sent, .host, .notes]) rfl code payload d) rfl

@[simp] theorem raise_pxl (code : Nat) (payload : List Byte) (d : Device) : (raise code payload d).pxl = d.pxl :=
  pxl_of_mask (mask_raise (ps := [.link, .flows, .hif, .sent, .host, .notes]) rfl code payload d) rfl

@[simp] theorem raise_corr (code : Nat) (payload : List Byte) (d : Device) : (raise code payload d).corr = d.corr :=
  corr_of_mask (mask_raise (ps := [.link, .flows, .hif, .sent, .host, .notes]) rfl code payload d) rfl

@[simp] theorem raise_out (code : Nat) (payload : List Byte) (d : Device) : (raise code payload d).out = d.out :=
  out_of_mask (mask_raise (ps := [.link, .flows, .hif, .sent, .host, .notes]) rfl code payload d) rfl

@[simp] theorem raise_red (code : Nat) (payload : List Byte) (d : Device) : (raise code payload d).red = d.red :=
  red_of_mask (mask_raise (ps := [.link, .flows, .hif, .sent, .host, .notes]) rfl code payload d) rfl

@[simp] theorem raise_spare (code : Nat) (payload : List Byte) (d : Device) : (raise code payload d).spare = d.spare :=
  spare_of_mask (mask_raise (ps := [.link, .flows, .hif, .sent, .host, .notes]) rfl code payload d) rfl

@[simp] theorem raise_fix (code : Nat) (payload : List Byte) (d : Device) : (raise code payload d).fix = d.fix :=
  fix_of_mask (mask_raise (ps := [.link, .flows, .hif, .sent, .host, .notes]) rfl code payload d) rfl

@[simp] theorem raise_cal (code : Nat) (payload : List Byte) (d : Device) : (raise code payload d).cal = d.cal :=
  cal_of_mask (mask_raise (ps := [.link, .flows, .hif, .sent, .host, .notes]) rfl code payload d) rfl

@[simp] theorem raise_mtr (code : Nat) (payload : List Byte) (d : Device) : (raise code payload d).mtr = d.mtr :=
  mtr_of_mask (mask_raise (ps := [.link, .flows, .hif, .sent, .host, .notes]) rfl code payload d) rfl

@[simp] theorem raise_sec (code : Nat) (payload : List Byte) (d : Device) : (raise code payload d).sec = d.sec :=
  sec_of_mask (mask_raise (ps := [.link, .flows, .hif, .sent, .host, .notes]) rfl code payload d) rfl

@[simp] theorem raise_pwr (code : Nat) (payload : List Byte) (d : Device) : (raise code payload d).pwr = d.pwr :=
  pwr_of_mask (mask_raise (ps := [.link, .flows, .hif, .sent, .host, .notes]) rfl code payload d) rfl

@[simp] theorem raise_regs (code : Nat) (payload : List Byte) (d : Device) : (raise code payload d).regs = d.regs :=
  regs_of_mask (mask_raise (ps := [.link, .flows, .hif, .sent, .host, .notes]) rfl code payload d) rfl

@[simp] theorem raise_wideHold (code : Nat) (payload : List Byte) (d : Device) : (raise code payload d).wideHold = d.wideHold :=
  wideHold_of_mask (mask_raise (ps := [.link, .flows, .hif, .sent, .host, .notes]) rfl code payload d) rfl

@[simp] theorem raise_snap (code : Nat) (payload : List Byte) (d : Device) : (raise code payload d).snap = d.snap :=
  snap_of_mask (mask_raise (ps := [.link, .flows, .hif, .sent, .host, .notes]) rfl code payload d) rfl

@[simp] theorem raise_lastRead (code : Nat) (payload : List Byte) (d : Device) : (raise code payload d).lastRead = d.lastRead :=
  lastRead_of_mask (mask_raise (ps := [.link, .flows, .hif, .sent, .host, .notes]) rfl code payload d) rfl

@[simp] theorem raise_proofIn (code : Nat) (payload : List Byte) (d : Device) : (raise code payload d).proofIn = d.proofIn :=
  proofIn_of_mask (mask_raise (ps := [.link, .flows, .hif, .sent, .host, .notes]) rfl code payload d) rfl

@[simp] theorem raise_comps (code : Nat) (payload : List Byte) (d : Device) : (raise code payload d).comps = d.comps :=
  comps_of_mask (mask_raise (ps := [.link, .flows, .hif, .sent, .host, .notes]) rfl code payload d) rfl

@[simp] theorem report_clk (kind : Nat) (subject : Option (BitVec 12)) (code : Nat) (payload : List Byte) (d : Device) : (report kind subject code payload d).clk = d.clk :=
  clk_of_mask (mask_report (ps := [.link, .flows, .hif, .sent, .host, .notes]) rfl kind subject code payload d) rfl

@[simp] theorem report_tim (kind : Nat) (subject : Option (BitVec 12)) (code : Nat) (payload : List Byte) (d : Device) : (report kind subject code payload d).tim = d.tim :=
  tim_of_mask (mask_report (ps := [.link, .flows, .hif, .sent, .host, .notes]) rfl kind subject code payload d) rfl

@[simp] theorem report_sched (kind : Nat) (subject : Option (BitVec 12)) (code : Nat) (payload : List Byte) (d : Device) : (report kind subject code payload d).sched = d.sched :=
  sched_of_mask (mask_report (ps := [.link, .flows, .hif, .sent, .host, .notes]) rfl kind subject code payload d) rfl

@[simp] theorem report_ing (kind : Nat) (subject : Option (BitVec 12)) (code : Nat) (payload : List Byte) (d : Device) : (report kind subject code payload d).ing = d.ing :=
  ing_of_mask (mask_report (ps := [.link, .flows, .hif, .sent, .host, .notes]) rfl kind subject code payload d) rfl

@[simp] theorem report_topo (kind : Nat) (subject : Option (BitVec 12)) (code : Nat) (payload : List Byte) (d : Device) : (report kind subject code payload d).topo = d.topo :=
  topo_of_mask (mask_report (ps := [.link, .flows, .hif, .sent, .host, .notes]) rfl kind subject code payload d) rfl

@[simp] theorem report_gest (kind : Nat) (subject : Option (BitVec 12)) (code : Nat) (payload : List Byte) (d : Device) : (report kind subject code payload d).gest = d.gest :=
  gest_of_mask (mask_report (ps := [.link, .flows, .hif, .sent, .host, .notes]) rfl kind subject code payload d) rfl

@[simp] theorem report_pxl (kind : Nat) (subject : Option (BitVec 12)) (code : Nat) (payload : List Byte) (d : Device) : (report kind subject code payload d).pxl = d.pxl :=
  pxl_of_mask (mask_report (ps := [.link, .flows, .hif, .sent, .host, .notes]) rfl kind subject code payload d) rfl

@[simp] theorem report_corr (kind : Nat) (subject : Option (BitVec 12)) (code : Nat) (payload : List Byte) (d : Device) : (report kind subject code payload d).corr = d.corr :=
  corr_of_mask (mask_report (ps := [.link, .flows, .hif, .sent, .host, .notes]) rfl kind subject code payload d) rfl

@[simp] theorem report_out (kind : Nat) (subject : Option (BitVec 12)) (code : Nat) (payload : List Byte) (d : Device) : (report kind subject code payload d).out = d.out :=
  out_of_mask (mask_report (ps := [.link, .flows, .hif, .sent, .host, .notes]) rfl kind subject code payload d) rfl

@[simp] theorem report_red (kind : Nat) (subject : Option (BitVec 12)) (code : Nat) (payload : List Byte) (d : Device) : (report kind subject code payload d).red = d.red :=
  red_of_mask (mask_report (ps := [.link, .flows, .hif, .sent, .host, .notes]) rfl kind subject code payload d) rfl

@[simp] theorem report_spare (kind : Nat) (subject : Option (BitVec 12)) (code : Nat) (payload : List Byte) (d : Device) : (report kind subject code payload d).spare = d.spare :=
  spare_of_mask (mask_report (ps := [.link, .flows, .hif, .sent, .host, .notes]) rfl kind subject code payload d) rfl

@[simp] theorem report_fix (kind : Nat) (subject : Option (BitVec 12)) (code : Nat) (payload : List Byte) (d : Device) : (report kind subject code payload d).fix = d.fix :=
  fix_of_mask (mask_report (ps := [.link, .flows, .hif, .sent, .host, .notes]) rfl kind subject code payload d) rfl

@[simp] theorem report_cal (kind : Nat) (subject : Option (BitVec 12)) (code : Nat) (payload : List Byte) (d : Device) : (report kind subject code payload d).cal = d.cal :=
  cal_of_mask (mask_report (ps := [.link, .flows, .hif, .sent, .host, .notes]) rfl kind subject code payload d) rfl

@[simp] theorem report_mtr (kind : Nat) (subject : Option (BitVec 12)) (code : Nat) (payload : List Byte) (d : Device) : (report kind subject code payload d).mtr = d.mtr :=
  mtr_of_mask (mask_report (ps := [.link, .flows, .hif, .sent, .host, .notes]) rfl kind subject code payload d) rfl

@[simp] theorem report_sec (kind : Nat) (subject : Option (BitVec 12)) (code : Nat) (payload : List Byte) (d : Device) : (report kind subject code payload d).sec = d.sec :=
  sec_of_mask (mask_report (ps := [.link, .flows, .hif, .sent, .host, .notes]) rfl kind subject code payload d) rfl

@[simp] theorem report_pwr (kind : Nat) (subject : Option (BitVec 12)) (code : Nat) (payload : List Byte) (d : Device) : (report kind subject code payload d).pwr = d.pwr :=
  pwr_of_mask (mask_report (ps := [.link, .flows, .hif, .sent, .host, .notes]) rfl kind subject code payload d) rfl

@[simp] theorem report_regs (kind : Nat) (subject : Option (BitVec 12)) (code : Nat) (payload : List Byte) (d : Device) : (report kind subject code payload d).regs = d.regs :=
  regs_of_mask (mask_report (ps := [.link, .flows, .hif, .sent, .host, .notes]) rfl kind subject code payload d) rfl

@[simp] theorem report_wideHold (kind : Nat) (subject : Option (BitVec 12)) (code : Nat) (payload : List Byte) (d : Device) : (report kind subject code payload d).wideHold = d.wideHold :=
  wideHold_of_mask (mask_report (ps := [.link, .flows, .hif, .sent, .host, .notes]) rfl kind subject code payload d) rfl

@[simp] theorem report_snap (kind : Nat) (subject : Option (BitVec 12)) (code : Nat) (payload : List Byte) (d : Device) : (report kind subject code payload d).snap = d.snap :=
  snap_of_mask (mask_report (ps := [.link, .flows, .hif, .sent, .host, .notes]) rfl kind subject code payload d) rfl

@[simp] theorem report_lastRead (kind : Nat) (subject : Option (BitVec 12)) (code : Nat) (payload : List Byte) (d : Device) : (report kind subject code payload d).lastRead = d.lastRead :=
  lastRead_of_mask (mask_report (ps := [.link, .flows, .hif, .sent, .host, .notes]) rfl kind subject code payload d) rfl

@[simp] theorem report_proofIn (kind : Nat) (subject : Option (BitVec 12)) (code : Nat) (payload : List Byte) (d : Device) : (report kind subject code payload d).proofIn = d.proofIn :=
  proofIn_of_mask (mask_report (ps := [.link, .flows, .hif, .sent, .host, .notes]) rfl kind subject code payload d) rfl

@[simp] theorem report_comps (kind : Nat) (subject : Option (BitVec 12)) (code : Nat) (payload : List Byte) (d : Device) : (report kind subject code payload d).comps = d.comps :=
  comps_of_mask (mask_report (ps := [.link, .flows, .hif, .sent, .host, .notes]) rfl kind subject code payload d) rfl

@[simp] theorem complete_clk (op : Nat) (c : Cmd) (status : Nat) (effect : Option RP) (result : List Byte) (d : Device) : (complete op c status effect result d).clk = d.clk :=
  clk_of_mask (mask_complete (ps := [.link, .flows, .hif, .sent, .host, .comps]) rfl op c status effect result d) rfl

@[simp] theorem complete_tim (op : Nat) (c : Cmd) (status : Nat) (effect : Option RP) (result : List Byte) (d : Device) : (complete op c status effect result d).tim = d.tim :=
  tim_of_mask (mask_complete (ps := [.link, .flows, .hif, .sent, .host, .comps]) rfl op c status effect result d) rfl

@[simp] theorem complete_sched (op : Nat) (c : Cmd) (status : Nat) (effect : Option RP) (result : List Byte) (d : Device) : (complete op c status effect result d).sched = d.sched :=
  sched_of_mask (mask_complete (ps := [.link, .flows, .hif, .sent, .host, .comps]) rfl op c status effect result d) rfl

@[simp] theorem complete_ing (op : Nat) (c : Cmd) (status : Nat) (effect : Option RP) (result : List Byte) (d : Device) : (complete op c status effect result d).ing = d.ing :=
  ing_of_mask (mask_complete (ps := [.link, .flows, .hif, .sent, .host, .comps]) rfl op c status effect result d) rfl

@[simp] theorem complete_topo (op : Nat) (c : Cmd) (status : Nat) (effect : Option RP) (result : List Byte) (d : Device) : (complete op c status effect result d).topo = d.topo :=
  topo_of_mask (mask_complete (ps := [.link, .flows, .hif, .sent, .host, .comps]) rfl op c status effect result d) rfl

@[simp] theorem complete_gest (op : Nat) (c : Cmd) (status : Nat) (effect : Option RP) (result : List Byte) (d : Device) : (complete op c status effect result d).gest = d.gest :=
  gest_of_mask (mask_complete (ps := [.link, .flows, .hif, .sent, .host, .comps]) rfl op c status effect result d) rfl

@[simp] theorem complete_pxl (op : Nat) (c : Cmd) (status : Nat) (effect : Option RP) (result : List Byte) (d : Device) : (complete op c status effect result d).pxl = d.pxl :=
  pxl_of_mask (mask_complete (ps := [.link, .flows, .hif, .sent, .host, .comps]) rfl op c status effect result d) rfl

@[simp] theorem complete_corr (op : Nat) (c : Cmd) (status : Nat) (effect : Option RP) (result : List Byte) (d : Device) : (complete op c status effect result d).corr = d.corr :=
  corr_of_mask (mask_complete (ps := [.link, .flows, .hif, .sent, .host, .comps]) rfl op c status effect result d) rfl

@[simp] theorem complete_out (op : Nat) (c : Cmd) (status : Nat) (effect : Option RP) (result : List Byte) (d : Device) : (complete op c status effect result d).out = d.out :=
  out_of_mask (mask_complete (ps := [.link, .flows, .hif, .sent, .host, .comps]) rfl op c status effect result d) rfl

@[simp] theorem complete_red (op : Nat) (c : Cmd) (status : Nat) (effect : Option RP) (result : List Byte) (d : Device) : (complete op c status effect result d).red = d.red :=
  red_of_mask (mask_complete (ps := [.link, .flows, .hif, .sent, .host, .comps]) rfl op c status effect result d) rfl

@[simp] theorem complete_spare (op : Nat) (c : Cmd) (status : Nat) (effect : Option RP) (result : List Byte) (d : Device) : (complete op c status effect result d).spare = d.spare :=
  spare_of_mask (mask_complete (ps := [.link, .flows, .hif, .sent, .host, .comps]) rfl op c status effect result d) rfl

@[simp] theorem complete_fix (op : Nat) (c : Cmd) (status : Nat) (effect : Option RP) (result : List Byte) (d : Device) : (complete op c status effect result d).fix = d.fix :=
  fix_of_mask (mask_complete (ps := [.link, .flows, .hif, .sent, .host, .comps]) rfl op c status effect result d) rfl

@[simp] theorem complete_cal (op : Nat) (c : Cmd) (status : Nat) (effect : Option RP) (result : List Byte) (d : Device) : (complete op c status effect result d).cal = d.cal :=
  cal_of_mask (mask_complete (ps := [.link, .flows, .hif, .sent, .host, .comps]) rfl op c status effect result d) rfl

@[simp] theorem complete_mtr (op : Nat) (c : Cmd) (status : Nat) (effect : Option RP) (result : List Byte) (d : Device) : (complete op c status effect result d).mtr = d.mtr :=
  mtr_of_mask (mask_complete (ps := [.link, .flows, .hif, .sent, .host, .comps]) rfl op c status effect result d) rfl

@[simp] theorem complete_sec (op : Nat) (c : Cmd) (status : Nat) (effect : Option RP) (result : List Byte) (d : Device) : (complete op c status effect result d).sec = d.sec :=
  sec_of_mask (mask_complete (ps := [.link, .flows, .hif, .sent, .host, .comps]) rfl op c status effect result d) rfl

@[simp] theorem complete_pwr (op : Nat) (c : Cmd) (status : Nat) (effect : Option RP) (result : List Byte) (d : Device) : (complete op c status effect result d).pwr = d.pwr :=
  pwr_of_mask (mask_complete (ps := [.link, .flows, .hif, .sent, .host, .comps]) rfl op c status effect result d) rfl

@[simp] theorem complete_regs (op : Nat) (c : Cmd) (status : Nat) (effect : Option RP) (result : List Byte) (d : Device) : (complete op c status effect result d).regs = d.regs :=
  regs_of_mask (mask_complete (ps := [.link, .flows, .hif, .sent, .host, .comps]) rfl op c status effect result d) rfl

@[simp] theorem complete_wideHold (op : Nat) (c : Cmd) (status : Nat) (effect : Option RP) (result : List Byte) (d : Device) : (complete op c status effect result d).wideHold = d.wideHold :=
  wideHold_of_mask (mask_complete (ps := [.link, .flows, .hif, .sent, .host, .comps]) rfl op c status effect result d) rfl

@[simp] theorem complete_snap (op : Nat) (c : Cmd) (status : Nat) (effect : Option RP) (result : List Byte) (d : Device) : (complete op c status effect result d).snap = d.snap :=
  snap_of_mask (mask_complete (ps := [.link, .flows, .hif, .sent, .host, .comps]) rfl op c status effect result d) rfl

@[simp] theorem complete_lastRead (op : Nat) (c : Cmd) (status : Nat) (effect : Option RP) (result : List Byte) (d : Device) : (complete op c status effect result d).lastRead = d.lastRead :=
  lastRead_of_mask (mask_complete (ps := [.link, .flows, .hif, .sent, .host, .comps]) rfl op c status effect result d) rfl

@[simp] theorem complete_proofIn (op : Nat) (c : Cmd) (status : Nat) (effect : Option RP) (result : List Byte) (d : Device) : (complete op c status effect result d).proofIn = d.proofIn :=
  proofIn_of_mask (mask_complete (ps := [.link, .flows, .hif, .sent, .host, .comps]) rfl op c status effect result d) rfl

@[simp] theorem complete_notes (op : Nat) (c : Cmd) (status : Nat) (effect : Option RP) (result : List Byte) (d : Device) : (complete op c status effect result d).notes = d.notes :=
  notes_of_mask (mask_complete (ps := [.link, .flows, .hif, .sent, .host, .comps]) rfl op c status effect result d) rfl

@[simp] theorem eventLate_clk (op : Nat) (c : Cmd) (effect : Option RP) (d : Device) : (eventLate op c effect d).clk = d.clk :=
  clk_of_mask (mask_eventLate (ps := [.link, .flows, .hif, .sent, .host, .notes]) rfl op c effect d) rfl

@[simp] theorem eventLate_tim (op : Nat) (c : Cmd) (effect : Option RP) (d : Device) : (eventLate op c effect d).tim = d.tim :=
  tim_of_mask (mask_eventLate (ps := [.link, .flows, .hif, .sent, .host, .notes]) rfl op c effect d) rfl

@[simp] theorem eventLate_sched (op : Nat) (c : Cmd) (effect : Option RP) (d : Device) : (eventLate op c effect d).sched = d.sched :=
  sched_of_mask (mask_eventLate (ps := [.link, .flows, .hif, .sent, .host, .notes]) rfl op c effect d) rfl

@[simp] theorem eventLate_ing (op : Nat) (c : Cmd) (effect : Option RP) (d : Device) : (eventLate op c effect d).ing = d.ing :=
  ing_of_mask (mask_eventLate (ps := [.link, .flows, .hif, .sent, .host, .notes]) rfl op c effect d) rfl

@[simp] theorem eventLate_topo (op : Nat) (c : Cmd) (effect : Option RP) (d : Device) : (eventLate op c effect d).topo = d.topo :=
  topo_of_mask (mask_eventLate (ps := [.link, .flows, .hif, .sent, .host, .notes]) rfl op c effect d) rfl

@[simp] theorem eventLate_gest (op : Nat) (c : Cmd) (effect : Option RP) (d : Device) : (eventLate op c effect d).gest = d.gest :=
  gest_of_mask (mask_eventLate (ps := [.link, .flows, .hif, .sent, .host, .notes]) rfl op c effect d) rfl

@[simp] theorem eventLate_pxl (op : Nat) (c : Cmd) (effect : Option RP) (d : Device) : (eventLate op c effect d).pxl = d.pxl :=
  pxl_of_mask (mask_eventLate (ps := [.link, .flows, .hif, .sent, .host, .notes]) rfl op c effect d) rfl

@[simp] theorem eventLate_corr (op : Nat) (c : Cmd) (effect : Option RP) (d : Device) : (eventLate op c effect d).corr = d.corr :=
  corr_of_mask (mask_eventLate (ps := [.link, .flows, .hif, .sent, .host, .notes]) rfl op c effect d) rfl

@[simp] theorem eventLate_out (op : Nat) (c : Cmd) (effect : Option RP) (d : Device) : (eventLate op c effect d).out = d.out :=
  out_of_mask (mask_eventLate (ps := [.link, .flows, .hif, .sent, .host, .notes]) rfl op c effect d) rfl

@[simp] theorem eventLate_red (op : Nat) (c : Cmd) (effect : Option RP) (d : Device) : (eventLate op c effect d).red = d.red :=
  red_of_mask (mask_eventLate (ps := [.link, .flows, .hif, .sent, .host, .notes]) rfl op c effect d) rfl

@[simp] theorem eventLate_spare (op : Nat) (c : Cmd) (effect : Option RP) (d : Device) : (eventLate op c effect d).spare = d.spare :=
  spare_of_mask (mask_eventLate (ps := [.link, .flows, .hif, .sent, .host, .notes]) rfl op c effect d) rfl

@[simp] theorem eventLate_fix (op : Nat) (c : Cmd) (effect : Option RP) (d : Device) : (eventLate op c effect d).fix = d.fix :=
  fix_of_mask (mask_eventLate (ps := [.link, .flows, .hif, .sent, .host, .notes]) rfl op c effect d) rfl

@[simp] theorem eventLate_cal (op : Nat) (c : Cmd) (effect : Option RP) (d : Device) : (eventLate op c effect d).cal = d.cal :=
  cal_of_mask (mask_eventLate (ps := [.link, .flows, .hif, .sent, .host, .notes]) rfl op c effect d) rfl

@[simp] theorem eventLate_mtr (op : Nat) (c : Cmd) (effect : Option RP) (d : Device) : (eventLate op c effect d).mtr = d.mtr :=
  mtr_of_mask (mask_eventLate (ps := [.link, .flows, .hif, .sent, .host, .notes]) rfl op c effect d) rfl

@[simp] theorem eventLate_sec (op : Nat) (c : Cmd) (effect : Option RP) (d : Device) : (eventLate op c effect d).sec = d.sec :=
  sec_of_mask (mask_eventLate (ps := [.link, .flows, .hif, .sent, .host, .notes]) rfl op c effect d) rfl

@[simp] theorem eventLate_pwr (op : Nat) (c : Cmd) (effect : Option RP) (d : Device) : (eventLate op c effect d).pwr = d.pwr :=
  pwr_of_mask (mask_eventLate (ps := [.link, .flows, .hif, .sent, .host, .notes]) rfl op c effect d) rfl

@[simp] theorem eventLate_regs (op : Nat) (c : Cmd) (effect : Option RP) (d : Device) : (eventLate op c effect d).regs = d.regs :=
  regs_of_mask (mask_eventLate (ps := [.link, .flows, .hif, .sent, .host, .notes]) rfl op c effect d) rfl

@[simp] theorem eventLate_wideHold (op : Nat) (c : Cmd) (effect : Option RP) (d : Device) : (eventLate op c effect d).wideHold = d.wideHold :=
  wideHold_of_mask (mask_eventLate (ps := [.link, .flows, .hif, .sent, .host, .notes]) rfl op c effect d) rfl

@[simp] theorem eventLate_snap (op : Nat) (c : Cmd) (effect : Option RP) (d : Device) : (eventLate op c effect d).snap = d.snap :=
  snap_of_mask (mask_eventLate (ps := [.link, .flows, .hif, .sent, .host, .notes]) rfl op c effect d) rfl

@[simp] theorem eventLate_lastRead (op : Nat) (c : Cmd) (effect : Option RP) (d : Device) : (eventLate op c effect d).lastRead = d.lastRead :=
  lastRead_of_mask (mask_eventLate (ps := [.link, .flows, .hif, .sent, .host, .notes]) rfl op c effect d) rfl

@[simp] theorem eventLate_proofIn (op : Nat) (c : Cmd) (effect : Option RP) (d : Device) : (eventLate op c effect d).proofIn = d.proofIn :=
  proofIn_of_mask (mask_eventLate (ps := [.link, .flows, .hif, .sent, .host, .notes]) rfl op c effect d) rfl

@[simp] theorem eventLate_comps (op : Nat) (c : Cmd) (effect : Option RP) (d : Device) : (eventLate op c effect d).comps = d.comps :=
  comps_of_mask (mask_eventLate (ps := [.link, .flows, .hif, .sent, .host, .notes]) rfl op c effect d) rfl

@[simp] theorem finish_clk (op : Nat) (c : Cmd) (effect : RP) (result : List Byte) (d : Device) : (finish op c effect result d).clk = d.clk :=
  clk_of_mask (mask_finish (ps := [.link, .flows, .hif, .sent, .host, .comps, .notes]) rfl op c effect result d) rfl

@[simp] theorem finish_tim (op : Nat) (c : Cmd) (effect : RP) (result : List Byte) (d : Device) : (finish op c effect result d).tim = d.tim :=
  tim_of_mask (mask_finish (ps := [.link, .flows, .hif, .sent, .host, .comps, .notes]) rfl op c effect result d) rfl

@[simp] theorem finish_sched (op : Nat) (c : Cmd) (effect : RP) (result : List Byte) (d : Device) : (finish op c effect result d).sched = d.sched :=
  sched_of_mask (mask_finish (ps := [.link, .flows, .hif, .sent, .host, .comps, .notes]) rfl op c effect result d) rfl

@[simp] theorem finish_ing (op : Nat) (c : Cmd) (effect : RP) (result : List Byte) (d : Device) : (finish op c effect result d).ing = d.ing :=
  ing_of_mask (mask_finish (ps := [.link, .flows, .hif, .sent, .host, .comps, .notes]) rfl op c effect result d) rfl

@[simp] theorem finish_topo (op : Nat) (c : Cmd) (effect : RP) (result : List Byte) (d : Device) : (finish op c effect result d).topo = d.topo :=
  topo_of_mask (mask_finish (ps := [.link, .flows, .hif, .sent, .host, .comps, .notes]) rfl op c effect result d) rfl

@[simp] theorem finish_gest (op : Nat) (c : Cmd) (effect : RP) (result : List Byte) (d : Device) : (finish op c effect result d).gest = d.gest :=
  gest_of_mask (mask_finish (ps := [.link, .flows, .hif, .sent, .host, .comps, .notes]) rfl op c effect result d) rfl

@[simp] theorem finish_pxl (op : Nat) (c : Cmd) (effect : RP) (result : List Byte) (d : Device) : (finish op c effect result d).pxl = d.pxl :=
  pxl_of_mask (mask_finish (ps := [.link, .flows, .hif, .sent, .host, .comps, .notes]) rfl op c effect result d) rfl

@[simp] theorem finish_corr (op : Nat) (c : Cmd) (effect : RP) (result : List Byte) (d : Device) : (finish op c effect result d).corr = d.corr :=
  corr_of_mask (mask_finish (ps := [.link, .flows, .hif, .sent, .host, .comps, .notes]) rfl op c effect result d) rfl

@[simp] theorem finish_out (op : Nat) (c : Cmd) (effect : RP) (result : List Byte) (d : Device) : (finish op c effect result d).out = d.out :=
  out_of_mask (mask_finish (ps := [.link, .flows, .hif, .sent, .host, .comps, .notes]) rfl op c effect result d) rfl

@[simp] theorem finish_red (op : Nat) (c : Cmd) (effect : RP) (result : List Byte) (d : Device) : (finish op c effect result d).red = d.red :=
  red_of_mask (mask_finish (ps := [.link, .flows, .hif, .sent, .host, .comps, .notes]) rfl op c effect result d) rfl

@[simp] theorem finish_spare (op : Nat) (c : Cmd) (effect : RP) (result : List Byte) (d : Device) : (finish op c effect result d).spare = d.spare :=
  spare_of_mask (mask_finish (ps := [.link, .flows, .hif, .sent, .host, .comps, .notes]) rfl op c effect result d) rfl

@[simp] theorem finish_fix (op : Nat) (c : Cmd) (effect : RP) (result : List Byte) (d : Device) : (finish op c effect result d).fix = d.fix :=
  fix_of_mask (mask_finish (ps := [.link, .flows, .hif, .sent, .host, .comps, .notes]) rfl op c effect result d) rfl

@[simp] theorem finish_cal (op : Nat) (c : Cmd) (effect : RP) (result : List Byte) (d : Device) : (finish op c effect result d).cal = d.cal :=
  cal_of_mask (mask_finish (ps := [.link, .flows, .hif, .sent, .host, .comps, .notes]) rfl op c effect result d) rfl

@[simp] theorem finish_mtr (op : Nat) (c : Cmd) (effect : RP) (result : List Byte) (d : Device) : (finish op c effect result d).mtr = d.mtr :=
  mtr_of_mask (mask_finish (ps := [.link, .flows, .hif, .sent, .host, .comps, .notes]) rfl op c effect result d) rfl

@[simp] theorem finish_sec (op : Nat) (c : Cmd) (effect : RP) (result : List Byte) (d : Device) : (finish op c effect result d).sec = d.sec :=
  sec_of_mask (mask_finish (ps := [.link, .flows, .hif, .sent, .host, .comps, .notes]) rfl op c effect result d) rfl

@[simp] theorem finish_pwr (op : Nat) (c : Cmd) (effect : RP) (result : List Byte) (d : Device) : (finish op c effect result d).pwr = d.pwr :=
  pwr_of_mask (mask_finish (ps := [.link, .flows, .hif, .sent, .host, .comps, .notes]) rfl op c effect result d) rfl

@[simp] theorem finish_regs (op : Nat) (c : Cmd) (effect : RP) (result : List Byte) (d : Device) : (finish op c effect result d).regs = d.regs :=
  regs_of_mask (mask_finish (ps := [.link, .flows, .hif, .sent, .host, .comps, .notes]) rfl op c effect result d) rfl

@[simp] theorem finish_wideHold (op : Nat) (c : Cmd) (effect : RP) (result : List Byte) (d : Device) : (finish op c effect result d).wideHold = d.wideHold :=
  wideHold_of_mask (mask_finish (ps := [.link, .flows, .hif, .sent, .host, .comps, .notes]) rfl op c effect result d) rfl

@[simp] theorem finish_snap (op : Nat) (c : Cmd) (effect : RP) (result : List Byte) (d : Device) : (finish op c effect result d).snap = d.snap :=
  snap_of_mask (mask_finish (ps := [.link, .flows, .hif, .sent, .host, .comps, .notes]) rfl op c effect result d) rfl

@[simp] theorem finish_lastRead (op : Nat) (c : Cmd) (effect : RP) (result : List Byte) (d : Device) : (finish op c effect result d).lastRead = d.lastRead :=
  lastRead_of_mask (mask_finish (ps := [.link, .flows, .hif, .sent, .host, .comps, .notes]) rfl op c effect result d) rfl

@[simp] theorem finish_proofIn (op : Nat) (c : Cmd) (effect : RP) (result : List Byte) (d : Device) : (finish op c effect result d).proofIn = d.proofIn :=
  proofIn_of_mask (mask_finish (ps := [.link, .flows, .hif, .sent, .host, .comps, .notes]) rfl op c effect result d) rfl

@[simp] theorem refuse_clk (op : Nat) (c : Cmd) (status : Nat) (reason : List Byte) (d : Device) : (refuse op c status reason d).clk = d.clk :=
  clk_of_mask (mask_refuse (ps := [.link, .flows, .hif, .sent, .host, .comps]) rfl op c status reason d) rfl

@[simp] theorem refuse_tim (op : Nat) (c : Cmd) (status : Nat) (reason : List Byte) (d : Device) : (refuse op c status reason d).tim = d.tim :=
  tim_of_mask (mask_refuse (ps := [.link, .flows, .hif, .sent, .host, .comps]) rfl op c status reason d) rfl

@[simp] theorem refuse_sched (op : Nat) (c : Cmd) (status : Nat) (reason : List Byte) (d : Device) : (refuse op c status reason d).sched = d.sched :=
  sched_of_mask (mask_refuse (ps := [.link, .flows, .hif, .sent, .host, .comps]) rfl op c status reason d) rfl

@[simp] theorem refuse_ing (op : Nat) (c : Cmd) (status : Nat) (reason : List Byte) (d : Device) : (refuse op c status reason d).ing = d.ing :=
  ing_of_mask (mask_refuse (ps := [.link, .flows, .hif, .sent, .host, .comps]) rfl op c status reason d) rfl

@[simp] theorem refuse_topo (op : Nat) (c : Cmd) (status : Nat) (reason : List Byte) (d : Device) : (refuse op c status reason d).topo = d.topo :=
  topo_of_mask (mask_refuse (ps := [.link, .flows, .hif, .sent, .host, .comps]) rfl op c status reason d) rfl

@[simp] theorem refuse_gest (op : Nat) (c : Cmd) (status : Nat) (reason : List Byte) (d : Device) : (refuse op c status reason d).gest = d.gest :=
  gest_of_mask (mask_refuse (ps := [.link, .flows, .hif, .sent, .host, .comps]) rfl op c status reason d) rfl

@[simp] theorem refuse_pxl (op : Nat) (c : Cmd) (status : Nat) (reason : List Byte) (d : Device) : (refuse op c status reason d).pxl = d.pxl :=
  pxl_of_mask (mask_refuse (ps := [.link, .flows, .hif, .sent, .host, .comps]) rfl op c status reason d) rfl

@[simp] theorem refuse_corr (op : Nat) (c : Cmd) (status : Nat) (reason : List Byte) (d : Device) : (refuse op c status reason d).corr = d.corr :=
  corr_of_mask (mask_refuse (ps := [.link, .flows, .hif, .sent, .host, .comps]) rfl op c status reason d) rfl

@[simp] theorem refuse_out (op : Nat) (c : Cmd) (status : Nat) (reason : List Byte) (d : Device) : (refuse op c status reason d).out = d.out :=
  out_of_mask (mask_refuse (ps := [.link, .flows, .hif, .sent, .host, .comps]) rfl op c status reason d) rfl

@[simp] theorem refuse_red (op : Nat) (c : Cmd) (status : Nat) (reason : List Byte) (d : Device) : (refuse op c status reason d).red = d.red :=
  red_of_mask (mask_refuse (ps := [.link, .flows, .hif, .sent, .host, .comps]) rfl op c status reason d) rfl

@[simp] theorem refuse_spare (op : Nat) (c : Cmd) (status : Nat) (reason : List Byte) (d : Device) : (refuse op c status reason d).spare = d.spare :=
  spare_of_mask (mask_refuse (ps := [.link, .flows, .hif, .sent, .host, .comps]) rfl op c status reason d) rfl

@[simp] theorem refuse_fix (op : Nat) (c : Cmd) (status : Nat) (reason : List Byte) (d : Device) : (refuse op c status reason d).fix = d.fix :=
  fix_of_mask (mask_refuse (ps := [.link, .flows, .hif, .sent, .host, .comps]) rfl op c status reason d) rfl

@[simp] theorem refuse_cal (op : Nat) (c : Cmd) (status : Nat) (reason : List Byte) (d : Device) : (refuse op c status reason d).cal = d.cal :=
  cal_of_mask (mask_refuse (ps := [.link, .flows, .hif, .sent, .host, .comps]) rfl op c status reason d) rfl

@[simp] theorem refuse_mtr (op : Nat) (c : Cmd) (status : Nat) (reason : List Byte) (d : Device) : (refuse op c status reason d).mtr = d.mtr :=
  mtr_of_mask (mask_refuse (ps := [.link, .flows, .hif, .sent, .host, .comps]) rfl op c status reason d) rfl

@[simp] theorem refuse_sec (op : Nat) (c : Cmd) (status : Nat) (reason : List Byte) (d : Device) : (refuse op c status reason d).sec = d.sec :=
  sec_of_mask (mask_refuse (ps := [.link, .flows, .hif, .sent, .host, .comps]) rfl op c status reason d) rfl

@[simp] theorem refuse_pwr (op : Nat) (c : Cmd) (status : Nat) (reason : List Byte) (d : Device) : (refuse op c status reason d).pwr = d.pwr :=
  pwr_of_mask (mask_refuse (ps := [.link, .flows, .hif, .sent, .host, .comps]) rfl op c status reason d) rfl

@[simp] theorem refuse_regs (op : Nat) (c : Cmd) (status : Nat) (reason : List Byte) (d : Device) : (refuse op c status reason d).regs = d.regs :=
  regs_of_mask (mask_refuse (ps := [.link, .flows, .hif, .sent, .host, .comps]) rfl op c status reason d) rfl

@[simp] theorem refuse_wideHold (op : Nat) (c : Cmd) (status : Nat) (reason : List Byte) (d : Device) : (refuse op c status reason d).wideHold = d.wideHold :=
  wideHold_of_mask (mask_refuse (ps := [.link, .flows, .hif, .sent, .host, .comps]) rfl op c status reason d) rfl

@[simp] theorem refuse_snap (op : Nat) (c : Cmd) (status : Nat) (reason : List Byte) (d : Device) : (refuse op c status reason d).snap = d.snap :=
  snap_of_mask (mask_refuse (ps := [.link, .flows, .hif, .sent, .host, .comps]) rfl op c status reason d) rfl

@[simp] theorem refuse_lastRead (op : Nat) (c : Cmd) (status : Nat) (reason : List Byte) (d : Device) : (refuse op c status reason d).lastRead = d.lastRead :=
  lastRead_of_mask (mask_refuse (ps := [.link, .flows, .hif, .sent, .host, .comps]) rfl op c status reason d) rfl

@[simp] theorem refuse_proofIn (op : Nat) (c : Cmd) (status : Nat) (reason : List Byte) (d : Device) : (refuse op c status reason d).proofIn = d.proofIn :=
  proofIn_of_mask (mask_refuse (ps := [.link, .flows, .hif, .sent, .host, .comps]) rfl op c status reason d) rfl

@[simp] theorem refuse_notes (op : Nat) (c : Cmd) (status : Nat) (reason : List Byte) (d : Device) : (refuse op c status reason d).notes = d.notes :=
  notes_of_mask (mask_refuse (ps := [.link, .flows, .hif, .sent, .host, .comps]) rfl op c status reason d) rfl

@[simp] theorem raise_notes (code : Nat) (payload : List Byte) (d : Device) :
    (raise code payload d).notes = d.notes ++ [{ code := BitVec.ofNat 16 code, payload := payload }] := by
  unfold raise
  simp

@[simp] theorem writeOut_comps (a : Nat) (bs : List Byte) (d : Device) : (writeOut a bs d).comps = d.comps :=
  comps_of_mask (mask_writeOut (ps := [.link, .flows, .hif, .sent, .host]) rfl a bs d) rfl

@[simp] theorem vector_comps (v : Nat) (d : Device) : (vector v d).comps = d.comps :=
  comps_of_mask (mask_vector (ps := [.hif]) rfl v d) rfl

@[simp] theorem complete_comps (op : Nat) (c : Cmd) (status : Nat) (effect : Option RP) (result : List Byte) (d : Device) :
    (complete op c status effect result d).comps =
      d.comps ++ [{ opcode := BitVec.ofNat 8 op, status := BitVec.ofNat 8 status, tag := c.tag, effect := effect,
                    result := result, seqWord := c.seqWord, position := c.position }] := by
  unfold complete
  dsimp only
  split <;> simp

theorem finish_completed (op : Nat) (c : Cmd) (effect : RP) (result : List Byte) (d : Device) :
    Finished d (finish op c effect result d) op c effect result := by
  unfold Finished Completed finish
  dsimp only
  cases c.late <;> simp [when]

theorem refuse_completed (op : Nat) (c : Cmd) (status : Nat) (reason : List Byte) (d : Device) :
    Completed d (refuse op c status reason d) op c status none reason := by
  unfold Completed refuse
  simp

end Sys2Proof.Laws
end

