-- ==== Sys2Proof/Laws/Ports.lean ====
section
/-! SUPPORT. Laws/Ports.lean: sending and reporting leave every setting and state of a link port alone but the frames that
wait to leave it and the end of a head's silence. -/

namespace Sys2Proof.Laws

open Machine

/-- A link port without the frames that wait to leave it and the end of a head's silence on it. -/
def portCore (l : LinkPort) : LinkPort := { l with held := [], backlog := [], quietTo := none }

/-- Two devices whose link ports differ only in those. -/
def SamePorts (d e : Device) : Prop := e.link.map portCore = d.link.map portCore

theorem SamePorts.refl (d : Device) : SamePorts d d := rfl

theorem SamePorts.trans {d e f : Device} (h : SamePorts d e) (k : SamePorts e f) : SamePorts d f := Eq.trans k h

theorem map_modAt {α β : Type} (g : α → β) (f : α → α) (h : ∀ x, g (f x) = g x) (l : List α) (i : Nat) :
    (modAt l i f).map g = l.map g := by
  unfold modAt
  apply List.ext_getElem?
  intro n
  simp only [List.getElem?_map, List.getElem?_modify]
  cases l[n]? with
  | none => rfl
  | some x =>
    simp only [Option.map_some]
    split
    · exact congrArg some (h x)
    · rfl

theorem samePorts_setPort (d : Device) (p : Nat) (f : LinkPort → LinkPort) (h : ∀ x, portCore (f x) = portCore x) :
    SamePorts d (d.setPort p f) := map_modAt portCore f h d.link p

theorem samePorts_port {d e : Device} (h : SamePorts d e) (p : Nat) : portCore (e.port p) = portCore (d.port p) := by
  unfold Device.port
  have : ∀ l : List LinkPort, portCore (l.getD p {}) = (l.map portCore).getD p (portCore {}) := by
    intro l
    simp only [List.getD_eq_getElem?_getD, List.getElem?_map]
    cases l[p]? <;> rfl
  rw [this, this, h]

theorem samePorts_length {d e : Device} (h : SamePorts d e) : e.link.length = d.link.length := by
  simpa using congrArg List.length h

theorem samePorts_foldl {α : Type} {f : Device → α → Device} (h : ∀ d a, SamePorts d (f d a)) (l : List α) (d : Device) :
    SamePorts d (l.foldl f d) := by
  induction l generalizing d with
  | nil => exact .refl d
  | cons a l ih => exact (h d a).trans (ih (f d a))

theorem samePorts_tx (d : Device) (f : TxFrame) : SamePorts d (tx d f) := by
  unfold tx
  dsimp only
  repeat' split
  all_goals first | exact .refl d | exact samePorts_setPort d _ _ (fun _ => rfl)

theorem samePorts_releasePort (d : Device) (p : Nat) : SamePorts d (releasePort d p) := by
  unfold releasePort
  split
  · exact .refl d
  · refine (samePorts_setPort d p (fun l => { l with backlog := [], quietTo := none }) (fun _ => rfl)).trans ?_
    exact samePorts_foldl (fun e (w : Waiting) => samePorts_tx e w.frame) _ _

theorem samePorts_sendOwn (d : Device) (f : TxFrame) (twin : Bool) (proof : Option (BitVec 32)) :
    SamePorts d (sendOwn d f twin proof) := by
  have keep : ∀ (e : Device) (b : Bool), SamePorts e
      (e.setPort f.port (fun l => { l with backlog := l.backlog ++ [{ frame := f, twin := b, proof := proof }] })) :=
    fun e _ => samePorts_setPort e _ _ (fun _ => rfl)
  unfold sendOwn
  dsimp only
  split
  · refine (samePorts_releasePort d f.port).trans ?_
    split
    · exact keep _ _
    · exact samePorts_tx _ f
  · split
    · exact .refl d
    · split
      · exact samePorts_tx d f
      · exact keep d _

theorem samePorts_nodeCopy (cls : Nat) (payload : Nat → List Byte) (stamp : RP) (twin : Bool) (proof : Option (BitVec 32))
    (n pair dir : Nat) (d : Device) : SamePorts d (nodeCopy cls payload stamp twin proof n pair dir d) := by
  unfold nodeCopy
  split
  · exact samePorts_sendOwn d _ _ _
  · exact .refl d

theorem samePorts_nodeSendBy (cls : Nat) (payload : Nat → List Byte) (stamp : RP) (proof : Option (BitVec 32)) (d : Device) :
    SamePorts d (nodeSendBy cls payload stamp proof d) := by
  unfold nodeSendBy
  refine samePorts_foldl (fun e pair => ?_) _ d
  dsimp only
  exact ((samePorts_nodeCopy cls payload stamp true proof _ pair 0 e).trans
    (samePorts_nodeCopy cls payload stamp true proof _ pair 1 _)).trans (.refl _)

theorem samePorts_writeOut (addr : Nat) (bytes : List Byte) (d : Device) : SamePorts d (writeOut addr bytes d) := by
  unfold writeOut
  split
  · exact .refl d
  · split
    · exact SamePorts.trans (e := { d with hif := { d.hif with posted := mins d.hif.posted addr d.clk.rp } }) (.refl _)
        (samePorts_nodeSendBy _ _ _ _ _)
    · exact .refl d

theorem samePorts_vector (v : Nat) (d : Device) : SamePorts d (vector v d) := by
  unfold vector
  split <;> exact .refl d

theorem samePorts_writeNotice (n : Notice) (d : Device) : SamePorts d (writeNotice n d) := by
  unfold writeNotice
  dsimp only
  have h : ∀ e : Device, SamePorts e (if n.code.toNat = 1 ∨ n.code.toNat = 6 then vector 5 e else e) := by
    intro e
    split
    · exact samePorts_vector 5 e
    · exact .refl e
  refine .trans ?_ (h _)
  refine .trans ?_ (samePorts_vector 1 _)
  exact (samePorts_writeOut _ _ d).trans (.refl _)

theorem samePorts_record (n : Notice) (d : Device) : SamePorts d (record n d) := by
  unfold record
  split
  · exact samePorts_writeNotice n d
  · split <;> exact .refl d

theorem samePorts_raise (code : Nat) (payload : List Byte) (d : Device) : SamePorts d (raise code payload d) := by
  unfold raise
  exact SamePorts.trans (e := { d with notes := d.notes ++ [{ code := BitVec.ofNat 16 code, payload := payload }] }) (.refl _)
    (samePorts_record _ _)

theorem samePorts_report (kind : Nat) (subject : Option (BitVec 12)) (code : Nat) (payload : List Byte) (d : Device) :
    SamePorts d (report kind subject code payload d) := by
  unfold report
  split
  · exact samePorts_raise code payload d
  · dsimp only
    split <;> exact .refl d

theorem samePorts_served (b : Bool) (addr : Nat) (bytes : List Byte) (d e : Device) (h : SamePorts d e) :
    SamePorts d (if b then vector 0 (writeOut addr bytes e) else e) := by
  split
  · exact h.trans ((samePorts_writeOut _ _ e).trans (samePorts_vector 0 _))
  · exact h

theorem samePorts_complete (op : Nat) (c : Cmd) (status : Nat) (effect : Option RP) (result : List Byte) (d : Device) :
    SamePorts d (complete op c status effect result d) :=
  samePorts_served _ _ _ d _ (.refl d)

theorem samePorts_sample (i level : Nat) (d : Device) (h : i = 0 ∨ 8 < i) : SamePorts d (sample i level d) := by
  have hp : ∀ (e : Device) (w : Watermark), SamePorts e (wmPut e i w) := by
    intro e w
    have h1 : ¬ (i ≤ 8) ∨ i = 0 := by omega
    unfold wmPut
    rcases h1 with h1 | h1
    · have h2 : i ≠ 0 := by omega
      simp only [h1, h2, if_false]
      repeat' split
      all_goals exact .refl e
    · simp only [h1, if_true]
      exact .refl e
  have hn : ∀ (e : Device) (w : Watermark) (a b c : Nat), SamePorts e (wmNotice i w a b c e) := fun e w a b c =>
    samePorts_raise _ _ e
  unfold sample
  dsimp only
  repeat' split
  all_goals first | exact hp d _ | exact (hn d _ _ _ _).trans (hp _ _)

end Sys2Proof.Laws
end

