-- ==== Sys2Proof/Laws/Received.lean ====
section
/-! SUPPORT. Laws/Received.lean: fields of byte strings put together from parts, and a frame as its maker sends it: that it passes
the checks of R114, told without evaluating its tag or its check sequence. -/

namespace Sys2Proof.Laws

open Machine

theorem le_after (pre b : List Byte) (o n : Nat) : le (pre ++ b) (pre.length + o) n = le b o n := by
  simp only [le, cut]
  rw [List.drop_append, List.drop_eq_nil_of_le (by omega)]
  simp

theorem le_before (b rest : List Byte) (o n : Nat) (h : o + n ≤ b.length) : le (b ++ rest) o n = le b o n := by
  simp only [le, cut]
  rw [List.drop_append_of_le_length (by omega), List.take_append_of_le_length (by simp; omega)]

theorem le_repeat (w : List Byte) (n r : Nat) (h : r + n ≤ w.length) :
    ∀ m k : Nat, k < m → le (List.replicate m w).flatten (w.length * k + r) n = le w r n
  | 0, k, hk => by omega
  | m + 1, 0, _ => by
    simp only [List.replicate_succ, List.flatten_cons, Nat.mul_zero, Nat.zero_add]
    exact le_before w _ r n h
  | m + 1, k + 1, hk => by
    have e : w.length * (k + 1) + r = w.length + (w.length * k + r) := by rw [Nat.mul_succ]; omega
    simp only [List.replicate_succ, List.flatten_cons]
    rw [e, le_after, le_repeat w n r h m k (by omega)]

theorem leN_length : ∀ n v : Nat, (leN n v).length = n
  | 0, _ => rfl
  | n + 1, v => by simp [leN, leN_length n]

theorem beN_length (n v : Nat) : (beN n v).length = n := by simp [beN, leN_length]

theorem gmac64_length (k iv a : List Byte) : (gmac64 k iv a).length = 8 := by
  simp only [gmac64, gcmTag, List.length_take, beN_length]; rfl

theorem fcs_length (b : List Byte) : (fcs b).length = 4 := leN_length 4 _

theorem cut_mid (a b c : List Byte) (o n : Nat) (ho : o = a.length) (hn : n = b.length) : cut (a ++ (b ++ c)) o n = b := by
  subst ho hn; simp [cut]

/-- The envelope of a Silnal frame (R107, R108), from the address of zeros. -/
def envelope : List Byte := silnalDst ++ zeros 6 ++ [0x88, 0xB5]

/-- The tag of a frame's header, payload and pad under a key (R136). -/
def tagOf (key hdr payload pad : List Byte) : List Byte := gmac64 key (frankIv (hdrOf hdr)) (frankData (hdrOf hdr) hdr payload pad)

/-- A frame as its maker sends it: the envelope, the header, the payload and pad, the tag under a key and the check sequence. -/
def frameOf (key : List Byte) (port : Fin 8) (hdr payload pad : List Byte) : RxFrame :=
  let body := envelope ++ (hdr ++ (payload ++ (pad ++ tagOf key hdr payload pad)))
  { port := port, bytes := body ++ fcs body, read := 0, bad := [], mark := 0 }

section
variable {key hdr payload pad : List Byte} {port : Fin 8}

theorem tagOf_length : (tagOf key hdr payload pad).length = 8 := gmac64_length _ _ _

theorem frameOf_bytes : ∃ e, e.length = 4 ∧
    (frameOf key port hdr payload pad).bytes = envelope ++ (hdr ++ (payload ++ (pad ++ (tagOf key hdr payload pad ++ e)))) :=
  ⟨_, fcs_length (envelope ++ (hdr ++ (payload ++ (pad ++ tagOf key hdr payload pad)))), by simp only [frameOf, List.append_assoc]⟩

theorem frameOf_length (hh : hdr.length = 24) : rxLen (frameOf key port hdr payload pad) = payload.length + pad.length + 50 := by
  obtain ⟨e, he, hb⟩ := frameOf_bytes (key := key) (hdr := hdr) (payload := payload) (pad := pad) (port := port)
  have h14 : envelope.length = 14 := rfl
  simp only [rxLen, hb, List.length_append, he, hh, tagOf_length, h14]; omega

theorem frameOf_hdr (hh : hdr.length = 24) : cut (frameOf key port hdr payload pad).bytes 14 24 = hdr := by
  obtain ⟨e, he, hb⟩ := frameOf_bytes (key := key) (hdr := hdr) (payload := payload) (pad := pad) (port := port)
  rw [hb]; exact cut_mid _ _ _ _ _ rfl hh.symm

theorem frameOf_rxHdr (hh : hdr.length = 24) : rxHdr (frameOf key port hdr payload pad) = hdrOf hdr := by
  rw [rxHdr, frameOf_hdr hh]

theorem frameOf_payload (hh : hdr.length = 24) (hp : (hdrOf hdr).len = payload.length) :
    rxPayload (frameOf key port hdr payload pad) = payload := by
  obtain ⟨e, he, hb⟩ := frameOf_bytes (key := key) (hdr := hdr) (payload := payload) (pad := pad) (port := port)
  rw [rxPayload, frameOf_rxHdr hh, hb, ← List.append_assoc]
  exact cut_mid _ _ _ _ _ (by rw [List.length_append, hh]; rfl) hp

theorem frameOf_pad (hh : hdr.length = 24) (n : Nat) (hn : n = pad.length) :
    cut (frameOf key port hdr payload pad).bytes (38 + payload.length) n = pad := by
  obtain ⟨e, he, hb⟩ := frameOf_bytes (key := key) (hdr := hdr) (payload := payload) (pad := pad) (port := port)
  rw [hb, ← List.append_assoc, ← List.append_assoc]
  exact cut_mid _ _ _ _ _ (by rw [List.length_append, List.length_append, hh]; rfl) hn

theorem frameOf_tag (hh : hdr.length = 24) (o : Nat) (ho : o = 38 + payload.length + pad.length) :
    cut (frameOf key port hdr payload pad).bytes o 8 = tagOf key hdr payload pad := by
  obtain ⟨e, he, hb⟩ := frameOf_bytes (key := key) (hdr := hdr) (payload := payload) (pad := pad) (port := port)
  rw [hb, ← List.append_assoc, ← List.append_assoc, ← List.append_assoc]
  refine cut_mid _ _ _ _ _ ?_ tagOf_length.symm
  rw [List.length_append, List.length_append, List.length_append, hh, ho]; rfl

theorem frameOf_envelope : silnalEnvelope (frameOf key port hdr payload pad) = true := rfl

theorem frameOf_lldp : isLldp (frameOf key port hdr payload pad) = false := rfl

theorem wireCheck_good (f : RxFrame) (b : List Byte) (hb : f.bytes = b ++ fcs b) (hl : 60 ≤ b.length) (hm : b.length ≤ 9212) :
    wireCheck f = .good := by
  have hn : rxLen f = b.length + 4 := by rw [rxLen, hb, List.length_append, fcs_length]
  unfold wireCheck
  simp only
  rw [if_neg (by omega), if_neg (by omega), if_pos]
  have : rxLen f - 4 = b.length := by omega
  rw [this, hb, List.take_left' rfl, List.drop_left' rfl]

theorem frameOf_good (hh : hdr.length = 24) (hl : 14 ≤ payload.length + pad.length) (hm : payload.length + pad.length ≤ 9166) :
    wireCheck (frameOf key port hdr payload pad) = .good := by
  have h14 : envelope.length = 14 := rfl
  have hb : (envelope ++ (hdr ++ (payload ++ (pad ++ tagOf key hdr payload pad)))).length = payload.length + pad.length + 46 := by
    simp only [List.length_append, hh, tagOf_length, h14]; omega
  exact wireCheck_good _ _ rfl (by omega) (by omega)

theorem frameOf_frank {d : Device} {k : LinkKey} (hh : hdr.length = 24) (hp : (hdrOf hdr).len = payload.length)
    (hk : keyFor d (hdrOf hdr).stamp.frame = some k) (hkey : k.key = key)
    (hd : frameDiff (hdrOf hdr).stamp.frame d.clk.rp.frame ≠ -2147483648) : frankGood d (frameOf key port hdr payload pad) = true := by
  have hn := frameOf_length (key := key) (port := port) (payload := payload) (pad := pad) hh
  unfold rxLen at hn
  unfold frankGood
  simp only
  rw [frameOf_rxHdr hh, if_neg hd, hk]
  simp only
  rw [frameOf_hdr hh, frameOf_payload hh hp, hp, frameOf_pad hh _ (by omega), frameOf_tag hh _ (by omega), hkey]
  simp [tagOf]

theorem ftqWord_passes (data : List Byte) (sop eop mark : Bool) : (ftqWord data sop eop mark).fails = false := by
  simp [FtqWord.fails, ftqWord]

theorem failing_none (bs : List Byte) : failing bs [] = 0 := by
  unfold failing packetWords
  simp [List.filter_eq_nil_iff, ftqWord_passes]

/-- Such a frame's arrival at the queue of its port. -/
def arrived (key : List Byte) (port : Fin 8) (hdr payload pad : List Byte) (d : Device) : Arrival :=
  queueWrite port.val (queueBytes (frameOf key port hdr payload pad)) 0 [] d

/-- The device after such a frame has passed its port. -/
def passed (key : List Byte) (port : Fin 8) (hdr payload pad : List Byte) (edit : List Byte → List Byte) (d : Device) : Device :=
  learnDir (frameOf key port hdr payload pad)
    (framePassed (frameOf key port hdr payload pad) .good edit (arrived key port hdr payload pad d).dev)

/-- The device after such a frame has been taken. -/
def taken (key : List Byte) (port : Fin 8) (hdr payload pad : List Byte) (edit : List Byte → List Byte) (d : Device) : Device :=
  learnEnd port.val (hdrOf hdr) (passed key port hdr payload pad edit d)

/-- Whether a frame of this header and payload is for a device at a port. -/
def meant (x : Device) (p : Nat) (h : Hdr) (payload : List Byte) : Bool :=
  !(x.isHead && !(forwardOnly x) && !(isClosing x p) && classKnown h && h.cls == 2 && decide (0 < h.len) && be payload 0 1 == 6) &&
  (if isClosing x p && !(forwardOnly x) then closingCarries x h else classKnown h && wouldAccept x h)

/-- What is left to check of such a frame and a device: everything but its tag and check sequence. -/
def Sound (key : List Byte) (port : Fin 8) (hdr payload pad : List Byte) (edit : List Byte → List Byte) (d : Device) : Bool :=
  let h := hdrOf hdr
  let x := passed key port hdr payload pad edit d
  hdr.length == 24 && h.len == payload.length && decide (14 ≤ payload.length + pad.length) && decide (payload.length + pad.length ≤ 9166) &&
  (d.port port.val).up && !(arrived key port hdr payload pad d).full && meant x port.val h payload &&
  decide (payload.length + pad.length + 50 = max 64 (50 + h.len)) && decide ((classLimits h.cls).1 ≤ h.len) &&
  decide (h.len ≤ (classLimits h.cls).2) && (keyFor x h.stamp.frame).map (fun k => k.key) == some key &&
  decide (frameDiff h.stamp.frame x.clk.rp.frame ≠ -2147483648) && shapeGood x h payload

theorem frameOf_taken {edit : List Byte → List Byte} {d : Device} (h : Sound key port hdr payload pad edit d = true) :
    takeFrame (frameOf key port hdr payload pad) edit d =
      { dev := taken key port hdr payload pad edit d, got := some (hdrOf hdr, payload) } := by
  simp only [Sound, Bool.and_eq_true, beq_iff_eq, decide_eq_true_eq] at h
  obtain ⟨⟨⟨⟨⟨⟨⟨⟨⟨⟨⟨⟨hh, hp⟩, h14⟩, hm⟩, hup⟩, hroom⟩, hmeant⟩, hlen⟩, hlo⟩, hhi⟩, hk⟩, hd⟩, hs⟩ := h
  have hn := frameOf_length (key := key) (port := port) (payload := payload) (pad := pad) hh
  have hgood := frameOf_good (key := key) (port := port) hh h14 hm
  obtain ⟨k, hk, hkey⟩ := Option.map_eq_some_iff.mp hk
  have hlg : lengthGood (frameOf key port hdr payload pad) = true := by
    unfold lengthGood
    simp only [frameOf_rxHdr hh, hn, Bool.and_eq_true, decide_eq_true_eq]
    exact ⟨⟨⟨hlen, by omega⟩, hlo⟩, hhi⟩
  have hbad : (frameOf key port hdr payload pad).bad = [] := rfl
  have hport : (frameOf key port hdr payload pad).port.val = port.val := rfl
  have harr : queueWrite port.val (queueBytes (frameOf key port hdr payload pad)) (frameOf key port hdr payload pad).read [] d =
    arrived key port hdr payload pad d := rfl
  have hfull : (arrived key port hdr payload pad d).full = false := by simpa using hroom
  have hpass : learnDir (frameOf key port hdr payload pad)
      (framePassed (frameOf key port hdr payload pad) .good edit (arrived key port hdr payload pad d).dev) =
    passed key port hdr payload pad edit d := rfl
  unfold takeFrame
  simp only [hport, hup, hgood, hbad, frameOf_lldp, frameOf_envelope, countWire, harr, hfull, hpass]
  simp only [Bool.not_true, Bool.false_eq_true, if_false, and_false, ne_eq, not_true, reduceCtorEq]
  unfold frameChecks
  simp only [hport, hbad, frameOf_rxHdr hh, frameOf_payload hh hp, hlg, hs, failing_none, frameOf_frank hh hp hk hkey hd]
  unfold meant at hmeant
  rw [Bool.and_eq_true] at hmeant
  obtain ⟨hast, hmeant⟩ := hmeant
  have hastray : partnerAstray (passed key port hdr payload pad edit d) (frameOf key port hdr payload pad) = false := by
    unfold partnerAstray
    simp only [hport, frameOf_rxHdr hh, frameOf_payload hh hp]
    exact (Bool.not_eq_true' _).mp hast
  unfold taken
  cases hc : (isClosing (passed key port hdr payload pad edit d) port.val && !(forwardOnly (passed key port hdr payload pad edit d)))
  · simp only [hc, Bool.false_eq_true, if_false, Bool.and_eq_true] at hmeant
    simp [hmeant, hastray]
  · simp only [hc, if_true] at hmeant
    simp [hmeant, hastray]

/-- The device after such a frame has passed the consistency of its class and the window of its flow. -/
def numberedDev (key : List Byte) (port : Fin 8) (hdr payload pad : List Byte) (edit : List Byte → List Byte) (d : Device) : Device :=
  let x := taken key port hdr payload pad edit d
  if windowed (hdrOf hdr) payload then (dedupHdr port.val (hdrOf hdr) x).2 else x

/-- What is left to check of a frame that is new and consistent. -/
def Fresh (key : List Byte) (port : Fin 8) (hdr payload pad : List Byte) (edit : List Byte → List Byte) (d : Device) : Bool :=
  let h := hdrOf hdr
  let x := taken key port hdr payload pad edit d
  Sound key port hdr payload pad edit d && classGood x (isClosing d port.val) h payload &&
  (!(windowed h payload) || (dedupHdr port.val h x).1)

theorem frameOf_fresh {edit : List Byte → List Byte} {d : Device} (h : Fresh key port hdr payload pad edit d = true) :
    takeClass (frameOf key port hdr payload pad) edit d =
      { dev := numberedDev key port hdr payload pad edit d, got := some (hdrOf hdr, payload), fresh := true } := by
  simp only [Fresh, Bool.and_eq_true] at h
  obtain ⟨⟨hs, hc⟩, hw⟩ := h
  have hport : (frameOf key port hdr payload pad).port.val = port.val := rfl
  unfold takeClass
  simp only [frameOf_taken hs, hport, hc]
  unfold numberedDev
  dsimp only
  cases hv : windowed (hdrOf hdr) payload
  · simp
  · simp only [hv, Bool.not_true, Bool.false_or] at hw
    simp [hw]

theorem frameOf_time {edit : List Byte → List Byte} {d : Device} {kind : Nat} (h : Fresh key port hdr payload pad edit d = true)
    (hc : (hdrOf hdr).cls = 3) (hk : be payload 0 1 = kind) :
    takeTime (frameOf key port hdr payload pad) kind edit d =
      { dev := numberedDev key port hdr payload pad edit d, got := some (hdrOf hdr, payload), fresh := true } := by
  unfold takeTime
  simp [frameOf_fresh h, hc, hk]

end

end Sys2Proof.Laws
end

