-- ==== Sys2Proof/WellFormed.lean ====
section
/-! DEFINITION. WellFormed.lean: the sizes and alignments the spec gives a command's operands. A meaning does not depend on
them: it is total, and reads bytes that are absent as zero. -/

namespace Sys2Proof

/-- A descriptor's operand area is 32 bytes (R397). -/
def Cmd.wf (c : Cmd) : Bool := c.ops.length == 32

/-- A frame has at least one byte and fewer than 2^16. -/
def RxFrame.wf (f : RxFrame) : Bool := decide (0 < f.bytes.length) && decide (f.bytes.length < 65536)

/-- A register word lies on a word boundary of BAR0 (R12). -/
def wfAddr (a : BitVec 16) : Bool := a.toNat % 4 == 0

/-- The command a row carries, where it is a descriptor's. -/
def Instr.cmd? : Instr → Option Cmd
  | .powerStateSet c | .resetRequest c | .watchdogSet c | .nop c | .timeStepAuthorise c | .timeSetThreshold c
  | .timeQuery c | .schedCancel c | .shutterSet c | .portThresholdSet c | .portStatsQuery c | .macsecSaInstall c
  | .mapLoad c | .streamSet c | .streamQuery c | .layerSet c | .layerLutLoad c | .layerScalerLoad c | .ccmLoad c
  | .encLutLoad c | .wearSet c | .expoSave c | .outConfig c | .outProgLoad c | .outMapLoad c | .outEnable c
  | .redundancyQuery c | .redundancyTest c | .healthQuery c | .spareApply c | .dmxConfig c | .rdmRequest c
  | .stringConfig c | .patternLoad c | .patternControl c | .sensorQuery c | .calLink c | .calColour c | .calMeter c
  | .calCancel c | .energyQuery c | .meterConfig c | .energySave c | .keyLoad c | .keyRollover c | .lifecycleSet c
  | .fwUpdate c | .debugUnlock c => some c
  | _ => none

/-- The frame a row carries, where a link port received one. -/
def Instr.frame? : Instr → Option RxFrame
  | .delayReq f _ | .delayResp f | .pixSlice f | .foreignFrame f | .ctrlRead f | .ctrlWrite f | .readResp f | .writeAck f
  | .ctrlUnlistedOp f | .bindRequest f | .bindAnswer f | .assign f | .partner f | .replyCard f | .mailbag f | .proof f
  | .fix f | .remoteRdRequest f | .remoteRdResponse f | .remoteRdError f | .remoteRdPost f _ | .rxBlockError f
  | .reservedClassFrame f => some f
  | .lldpReceived p bs q => some (lldpFrame p bs q)
  | .timeFrame t => some t.frame
  | _ => none

/-- Whether a command's operands have the sizes the spec gives them. -/
def Instr.wf (i : Instr) : Bool :=
  (match i.cmd? with | some c => c.wf | none => true) &&
  (match i.frame? with | some f => f.wf | none => true) &&
  (match i with
   | .descriptorFetch bytes _ _ => bytes.length == 64
   | .bulkEntryRead bytes _ => bytes.length == 32
   | .dbgChallenge nonce _ => nonce.length == 16
   | .dbgResponse sig _ => sig.length == 64
   | .keyload record => record.length == 128
   | .keyloadMakeCurrent record => record.length == 128
   | .registerWrite a _ => wfAddr a
   | .counterRead a _ => wfAddr a
   | .wideRegisterRead a _ => wfAddr a
   | _ => true)

end Sys2Proof
end

