-- ==== Sys2Proof/Tests/Slice0.lean ====
section
/-! SUPPORT. Tests/Slice0.lean: checks of the model's own: ill-formed commands are refused, words decode, single rows do what the
spec's worked figures say, and states that meet the hypotheses of each statement. -/

namespace Sys2Proof.Tests

open Sys2Proof Sys2Proof.Machine Sys2Proof.Laws

set_option Elab.async false
set_option maxRecDepth 1024

/-- A command with these operands and this operand read. -/
def cmdOf (ops : List Byte) (host : HostRead) : Cmd :=
  { tag := 7, timing := 0, dueFrame := 0, dueLs := 0, ops := fit 32 ops, position := 3, seqWord := 0, late := false, host := host }

/-- A node record: a window of 4 × 2 pixels of three primaries and two layers. -/
def rec4 : NodeRecord :=
  { nodeId := 5, role := 0, headIndex := 0, fingerprint := zeros 8, rings := [0, 0xFFFF, 0xFFFF, 0xFFFF], regionX := 0, regionY := 0,
    width := 4, height := 2, primaries := 3, sliceBits := 8, layers := 2, dmxMask := 1 }

/-- A map of one single-head ring with one node. -/
def map1 : SysMap :=
  { generation := 9, raster := {}, headCount := 1, nodes := [rec4], slices := [],
    rings := [{ dual := false, fec := false, headX := 0, pairX := 0, headY := 0, pairY := 0, members := [5] }],
    univs := [{ univ := 1, head := 0, port := 0, node := 5 }] }

/-- The link key of the tests. -/
def key7 : LinkKey := { key := List.replicate 32 7, gen := 1 }

/-- A device in RUN, in a role. -/
def running (role : Role) : Device :=
  { pwr := { inReset := false, state := .run, role := role, readyHost := true, readyLight := true, everRun := true },
    sec := { cur := some key7, level := 1 },
    clk := { rp := { frame := 100, line := 10, sub := 5 } },
    tim := { state := .locked, firstLock := true, everLocked := true },
    link := List.replicate 8 { enabled := true, up := true },
    ing := List.replicate 2 { enabled := true, up := true },
    hif := { ring := { enable := true, bulkLog2 := 6 }, started := true, rounds := true, pcieUp := true, p := 8, b := 8, seqWord := some 0 },
    fix := { started := true, loaded := true } }

/-- A node in RUN, bound to node ID 5. -/
def node5 : Device := { running .node with topo.nodeId := some 5, topo.record := some rec4, topo.headSet := 1, topo.gen := 9 }

/-- A head in RUN with the map in force. -/
def head0 : Device := { running .head with topo.nodeId := some 2, topo.map := some map1 }

/-- A state with an empty queue. -/
def at_ (d : Device) : State := { dev := d, pending := [] }

/-- Frame 100, line 10, sub-tick 5. -/
def rp0 : RP := { frame := 100, line := 10, sub := 5 }

/-- A command with operands of zeros. -/
def cmd0 : Cmd := cmdOf [] .none

/-- What a start of a node with every unit good finds. -/
def boot0 (ref : Bool) : BootInputs :=
  { role1 := false, role0 := false, refPresent := ref, enginePass := [true, true, true], copyPass := [true, true], pllPass := 127 }

/-- A change of power state under way. -/
def trans0 (target : PState) (cmd : Option Cmd) : Transition := { target := target, old := .quiet, cause := 0, cmd := cmd, at_ := rp0 }

/-- An entry of the schedule. -/
def entry0 (op : BitVec 8) (point : RP) : Entry := { op := op, cmd := cmdOf [] .none, adm := 1, point := point, due := point, judged := true }

/-- A received frame of no known form. -/
def frame0 (bytes : List Byte) : RxFrame := { port := 0, bytes := bytes, read := 0, bad := [], mark := 0 }

/-- A PAUSE frame. -/
def pause0 (opcode quanta : Nat) : MacControl :=
  { rx := { port := 0, bytes := [0x01, 0x80, 0xC2, 0, 0, 1] ++ zeros 6 ++ [0x88, 0x08] ++ beN 2 opcode ++ beN 2 quanta ++ zeros 42, read := 0, bad := [] },
    fcsOk := true }

/-- A mismatch of engine 0. -/
def mis0 : Mismatch := { engine := 0, op := 0, y := 0, s := 0, parity := false }

/-- Its arbitration. -/
def arb0 (testing repeats : Bool) : Arb := { item := mis0, at_ := rp0, frame := 100, repeats := repeats, testing := testing, cmd := none }

/-- A calibration job. -/
def job0 (ops : List Byte) : CalJob := { cmd := cmdOf ops .none, at_ := rp0, start := rp0 }

/-- A sensor reading. -/
def read0 : Reading := { x := 100, y := 100, z := 100, dk := 0, saturated := 0, cycles := 1 }

/-- A START_STOP of RDM. -/
def rdm0 (discover : Bool) : RdmJob := { cmd := cmdOf [] .none, at_ := rp0, message := List.replicate 24 0xCC, discover := discover }

/-- A PTP exchange on port 0. -/
def ptp0 : PtpExchange :=
  { sync := { port := 0, bytes := zeros 60, read := 0, bad := [] }, resp := { port := 0, bytes := zeros 60, read := 0, bad := [] },
    domain := 127, t1 := 0, t4 := 0, t2 := 0, t3 := 0, now := 0, lane := 0, skew := 0, req := zeros 60 }

/-- An Announce of the domain that TIM_PTP_DOMAIN is reset to. -/
def ann0 : Announce :=
  { domain := 127, priority1 := 128, clockClass := 6, accuracy := 0, variance := 0, priority2 := 128, gm := 1, steps := 0, sender := 1 }

/-- An ingest port without skew come up. -/
def rise0 : PortRise := { port := 8, skews := [] }

/-- A stream of 4 × 2 pixels, on both ports. -/
def stream0 : StreamRec :=
  { kind := 0, layout := 0, depth := 8, paths := 3, width := 4, height := 2, rateNum := 60, rateDen := 1, payloadType := 96,
    dst := [0xEF000001, 0xEF000002], src := [0, 0], udp := [5000, 5000], window := 64, align := 0, pitch := 64, raw := [] }

/-- A descriptor: opcode, timing, due RP (frame, line and sub), position. -/
def desc (op timing : Byte) (frame ls position : Nat) : List Byte :=
  [op, timing, 0, 0, 7, 0, 0, 0] ++ leN 4 frame ++ leN 4 ls ++ zeros 44 ++ leN 4 position

/-- The command such a descriptor gives. -/
def descCmd (op timing : Byte) (frame ls position : Nat) : Cmd := descriptor (desc op timing frame ls position) 0 .none

/-- A map of one dual ring between the heads of index 0 and 1. -/
def map2 : SysMap :=
  { map1 with rings := [{ dual := true, fec := false, headX := 0, pairX := 0, headY := 1, pairY := 0, members := [5] }] }

/-- What node 5 has retained. -/
def retained0 : Retained :=
  { role := .node, nodeId := some 5, record := some rec4, gen := 9, headSet := 1, p := 2, c := 0, sched := [], adm := 0, roll := none,
    rolling := none, f := 0, e := 0, seqs := [], rp := rp0 }

/-- The same stream as bytes. -/
def streamBytes : List Byte :=
  [0, 0, 8, 3] ++ leN 2 4 ++ leN 2 2 ++ leN 4 60 ++ leN 2 1 ++ [96, 0] ++ leN 4 0xEF000001 ++ leN 4 0 ++ leN 2 5000 ++ zeros 2 ++
  leN 4 0xEF000002 ++ leN 4 0 ++ leN 2 5000 ++ leN 2 64 ++ leN 4 0 ++ leN 4 64 ++ zeros 16

/-- An ingest frame on port 0. -/
def rx0 : IngRx := { port := 0, bytes := zeros 60, read := 0, bad := [] }

/-- A packet of it on port 0. -/
def rtp0 (seq : BitVec 32) : RtpPacket :=
  { rx := rx0, dst := 0xEF000001, src := 1, udp := 5000, version := 2, payloadType := 96, fieldBit := false, udpLength := 1460,
    seq := seq, timestamp := 0, srds := [{ row := 1, offset := 3, pixels := [[1, 2, 3]] }], nowNs := 0 }

/-- A packet of universe 1. -/
def sacn0 (seq : BitVec 8) (terminated : Bool) : SacnPacket :=
  { rx := rx0, dst := 0xEFFF0001, univ := 1, cid := 9, priority := 200, seq := seq, preview := false, terminated := terminated, syncOrDisc := false,
    slots := List.replicate 513 0 }

/-- Its source. -/
def src0 : SacnSource := { cid := 9, priority := 100, seq := 0x80, slots := [], fresh := true }

/-- A node record as a map holds it. -/
def nodeBytes (id role w h dmx : Nat) : List Byte :=
  leN 2 id ++ leN 1 role ++ zeros 9 ++ leN 2 0 ++ List.replicate 6 0xFF ++ zeros 8 ++ leN 2 w ++ leN 2 h ++ [3, 8, 2, 0] ++ leN 2 dmx ++ zeros 10

/-- A map of one ring: the head of node ID 2 and node 5. -/
def mapBytes : List Byte :=
  let b : List Byte := [0x5A, 0x4C, 0x53, 0x4D] ++ leN 2 0x0100 ++ leN 2 64 ++ leN 4 182 ++ leN 4 10 ++ leN 4 60 ++ leN 2 1 ++ leN 2 0 ++
    leN 2 1125 ++ [1, 0] ++ leN 2 1 ++ leN 2 2 ++ leN 4 64 ++ leN 4 80 ++ leN 4 0 ++ leN 4 0 ++ leN 4 0 ++ leN 4 0 ++ zeros 8 ++
    ([0, 0, 0, 0, 0, 1, 0, 0] ++ leN 4 176 ++ zeros 4) ++ nodeBytes 2 1 0 0 0 ++ nodeBytes 5 0 4 2 1 ++ leN 2 5
  b ++ leN 4 (crc32 b)

/-- A bulk entry of slot 15. -/
def bulkBytes (content addr : Nat) : List Byte := [15, 0, 0, 0] ++ leN 4 content ++ leN 8 addr ++ zeros 16

/-- An exposure record with no counters. -/
def expo0 : ExpoRec := { seq := 1, primaries := 3, width := 4, height := 2, runSecs := 0, begun := rp0, counters := [] }

/-- A check that ends well gives the map it read. -/
theorem good_map (d : Device) (b : List Byte) (n : Nat) (h : (match checkMap d b n with | .good _ => true | .bad _ _ => false) = true) :
    ∃ m, checkMap d b n = .good m := by
  split at h
  · next m hm => exact ⟨m, hm⟩
  · exact absurd h (by decide)

/-- A MAP_LOAD of that map. -/
def load0 : MapLoad := { cmd := cmdOf (zeros 8 ++ leN 4 182) (.data mapBytes), adm := 1, judged := false }

/-- A head before first lock with that load going. -/
def headLoading : Device := { head0 with topo.map := none, topo.load := some load0, tim.firstLock := false }

theorem load0_good : (match checkMap headLoading mapBytes 182 with | .good _ => true | .bad _ _ => false) = true := by decide +kernel

/-- A colour calibration of the whole window, in one-second windows. -/
def colourBytes : List Byte := zeros 4 ++ leN 2 4 ++ leN 2 2 ++ zeros 2 ++ leN 2 1000 ++ zeros 4

/-- A pair of readings that counts. -/
def pair0 : CalPair :=
  { lit := { x := 20000, y := 20000, z := 20000, dk := 0, saturated := 0, cycles := 1 },
    dark := { x := 0, y := 0, z := 0, dk := 0, saturated := 0, cycles := 1 }, sums := [0, 100, 0, 0] }

/-- A meter configuration at its bounds. -/
def meterBytes : List Byte := (List.replicate 6 (leN 4 1000 ++ leN 4 0)).flatten ++ leN 4 100000 ++ leN 4 0 ++ leN 2 900 ++ [200, 0]

/-- An energy save under way, with one command. -/
def save0 : MeterSave :=
  { slot := { seq := 1, imps := [], exps := [], s0e := [], s0c := [], wraps := 0, row := 0 }, begun := rp0, cmds := [(rp0, cmd0)] }

/-- A layer of source 1, 4 × 2 pixels. -/
def layerBytes : List Byte :=
  [0, 1, 0, 8, 0, 0, 0xFF, 0xFF] ++ leN 2 4 ++ leN 2 2 ++ zeros 8 ++ leN 4 4 ++ leN 4 2 ++ leN 4 65536 ++ leN 4 65536 ++ zeros 24

/-- One of a source too large for the store. -/
def layerBytesBig : List Byte :=
  [0, 1, 0, 8, 0, 0, 0xFF, 0xFF] ++ leN 2 8192 ++ leN 2 4320 ++ zeros 8 ++ leN 4 4 ++ leN 4 2 ++ leN 4 65536 ++ leN 4 65536 ++ zeros 24

/-- An LLDPDU with no TLV, before its FCS. -/
def lldpBody : List Byte := [0x01, 0x80, 0xC2, 0, 0, 0x0E] ++ zeros 6 ++ [0x88, 0xCC] ++ zeros 46

/-- A frame received on port 0 with none of its words upset. -/
def lldp0 (bytes : List Byte) : RxFrame := { port := 0, bytes := bytes, read := 0, bad := [], mark := 0 }

theorem queue_room {p read : Nat} {bs : List Byte} {bad : List Nat} {d : Device} (h : (queueWrite p bs read bad d).full = false) :
    queueWrite p bs read bad d = { full := false, dev := (queueWrite p bs read bad d).dev } := by
  cases e : queueWrite p bs read bad d
  rw [e] at h
  simp_all

/-- A wear record whose weights and curves are all 1. -/
def wearBytes : List Byte := (1 :: zeros 15) ++ (List.replicate (4 + 771) [0, 0, 1, 0]).flatten

theorem wear_word (k : Nat) (h : k < 775) : le wearBytes (16 + 4 * k) 4 = 65536 := by
  have e := le_repeat [0, 0, 1, 0] 4 0 (by decide) 775 k h
  have a := le_after (1 :: zeros 15) (List.replicate 775 [0, 0, 1, 0]).flatten (4 * k) 4
  exact a.trans e

theorem wear_curve (c : Nat) (h : c < 3) : curveOf wearBytes c = List.replicate 257 65536 := by
  unfold curveOf
  rw [List.map_congr_left (g := fun _ => 65536)]
  · rw [List.map_const', List.length_range]
  · intro i hi
    have hi := List.mem_range.mp hi
    have e : 0x20 + 4 * (257 * c + i) = 16 + 4 * (257 * c + i + 4) := by omega
    rw [e]
    exact (congrArg (fun n => n % 2 ^ 17) (wear_word _ (by omega))).trans (Nat.mod_eq_of_lt (by omega))

theorem wear_good : wearGood 3 wearBytes = true := by
  have h : ∀ c ∈ List.range 3, (decide (1 ≤ le wearBytes (0x10 + 4 * c) 4) && decide (le wearBytes (0x10 + 4 * c) 4 ≤ 65536) &&
      curveGood (curveOf wearBytes c)) = true := by
    intro c hc
    have hc := List.mem_range.mp hc
    rw [wear_word c (by omega), wear_curve c hc]
    decide +kernel
  unfold wearGood
  rw [List.all_eq_true.mpr h]
  decide

/-- Taps of 1 and 0s. -/
def tapBytes : List Byte := (List.replicate 64 ([0, 4] ++ zeros 14)).flatten ++ (List.replicate 64 ([0, 4] ++ zeros 10)).flatten

theorem taps_of (m n : Nat) (w pre rest : List Byte) (row : List Int) (hm : 64 ≤ m) (hw : w.length = 2 * n)
    (h : (List.range n).map (fun t => signed 16 (le w (2 * t) 2)) = row) :
    tapsOf (pre ++ ((List.replicate m w).flatten ++ rest)) pre.length n = List.replicate 64 row := by
  unfold tapsOf
  rw [List.map_congr_left (g := fun _ => row)]
  · rw [List.map_const', List.length_range]
  · intro ph hp
    have hp := List.mem_range.mp hp
    rw [← h]
    apply List.map_congr_left
    intro t ht
    have ht := List.mem_range.mp ht
    have hl : (List.replicate m w).flatten.length = m * w.length := by simp
    have ho : 2 * (n * ph + t) = w.length * ph + 2 * t := by rw [hw, Nat.mul_add, Nat.mul_assoc]
    rw [le_after, ho, le_before, le_repeat w 2 (2 * t) (by omega) m ph (by omega)]
    rw [hl]
    have : w.length * ph + w.length ≤ m * w.length := by
      rw [Nat.mul_comm m, ← Nat.mul_succ]; exact Nat.mul_le_mul_left _ (by omega)
    omega

theorem taps_good : tapsGood (tapsOf tapBytes 0 8) = true ∧ tapsGood (tapsOf tapBytes 1024 6) = true := by
  have a := taps_of 64 8 ([0, 4] ++ zeros 14) [] (List.replicate 64 ([0, 4] ++ zeros 10)).flatten _ (by decide) (by decide) rfl
  have b := taps_of 64 6 ([0, 4] ++ zeros 10) (List.replicate 64 ([0, 4] ++ zeros 14)).flatten [] _ (by decide) (by decide) rfl
  have l : (List.replicate 64 ([0, 4] ++ zeros 14 : List Byte)).flatten.length = 1024 := by decide +kernel
  rw [List.append_nil, l] at b
  have ha : tapsOf tapBytes 0 8 = _ := a
  have hb : tapsOf tapBytes 1024 6 = _ := b
  rw [ha, hb]
  decide +kernel

/-- An output record of defaults. -/
def outBytes : List Byte :=
  leN 2 1 ++ zeros 6 ++ leN 2 2048 ++ zeros 2 ++ [1, 0] ++ leN 2 1 ++ leN 2 2 ++ zeros 2 ++ [1, 0] ++ leN 2 1 ++ leN 2 2 ++ zeros 6 ++
  (List.replicate 8 ([0, 0] ++ leN 2 1024 ++ leN 2 1 ++ zeros 2)).flatten

/-- One group enabled whose program shifts one slot. -/
def group0 : OutRec := { groups := { enable := true } :: List.replicate 7 {} }

/-- That program: STOP, then SHIFT of one slot and STOP. -/
def progs0 : List Program :=
  { entries := [0, 1, 0, 0, 0], words := 0 :: 0x10010000 :: List.replicate 126 0 } :: List.replicate 7 {}

/-- A present layer with a source. -/
def layer0 : Layer := let l : Layer := {}; { l with present := true, disp := { l.disp with solid := false } }

/-- A node with a layer of source 1. -/
def layered : Device :=
  { node5 with pxl.layersOf := some 5, pxl.layers := {} :: layer0 :: List.replicate 6 {} }

/-- The header's bytes for a payload of `n` bytes. -/
def hdrB (h : Hdr) (n : Nat) : List Byte := ({ h with len := n } : Hdr).bytes

/-- A frame under the tests' link key. -/
def fr (port : Fin 8) (h : Hdr) (p : List Byte) : RxFrame := frameOf key7.key port (hdrB h p.length) p (zeros (14 - p.length))

/-- Its header as received. -/
def frHdr (h : Hdr) (p : List Byte) : Hdr := hdrOf (hdrB h p.length)

/-- The device when such a frame has been received. -/
def after (port : Fin 8) (h : Hdr) (p : List Byte) (edit : List Byte → List Byte) (d : Device) : Device :=
  numberedDev key7.key port (hdrB h p.length) p (zeros (14 - p.length)) edit d

/-- What a witness of such a frame checks. -/
def fresh (port : Fin 8) (h : Hdr) (p : List Byte) (edit : List Byte → List Byte) (d : Device) : Bool :=
  Fresh key7.key port (hdrB h p.length) p (zeros (14 - p.length)) edit d

theorem fr_seen {port : Fin 8} {h : Hdr} {p : List Byte} {edit : List Byte → List Byte} {d : Device}
    (c : fresh port h p edit d = true) :
    takeClass (fr port h p) edit d = { dev := after port h p edit d, got := some (frHdr h p, p), fresh := true } := frameOf_fresh c

theorem fr_time {port : Fin 8} {h : Hdr} {p : List Byte} {edit : List Byte → List Byte} {d : Device} {kind : Nat}
    (c : (fresh port h p edit d && (frHdr h p).cls == 3 && be p 0 1 == kind) = true) :
    takeTime (fr port h p) kind edit d = { dev := after port h p edit d, got := some (frHdr h p, p), fresh := true } := by
  simp only [Bool.and_eq_true, beq_iff_eq] at c
  exact frameOf_time c.1.1 c.1.2 c.2

theorem fr_got {port : Fin 8} {h : Hdr} {p : List Byte} {edit : List Byte → List Byte} {d : Device} (c : fresh port h p edit d = true) :
    (takeClass (fr port h p) edit (at_ d).dev).got = some (frHdr h p, p) := congrArg Seen.got (fr_seen c)

theorem fr_dev {port : Fin 8} {h : Hdr} {p : List Byte} {edit : List Byte → List Byte} {d : Device} (c : fresh port h p edit d = true) :
    after port h p edit d = (takeClass (fr port h p) edit (at_ d).dev).dev := (congrArg Seen.dev (fr_seen c)).symm

theorem fr_timeGot {port : Fin 8} {h : Hdr} {p : List Byte} {edit : List Byte → List Byte} {d : Device} {kind : Nat}
    (c : (fresh port h p edit d && (frHdr h p).cls == 3 && be p 0 1 == kind) = true) :
    (takeTime (fr port h p) kind edit (at_ d).dev).got = some (frHdr h p, p) := congrArg Seen.got (fr_time c)

theorem fr_timeDev {port : Fin 8} {h : Hdr} {p : List Byte} {edit : List Byte → List Byte} {d : Device} {kind : Nat}
    (c : (fresh port h p edit d && (frHdr h p).cls == 3 && be p 0 1 == kind) = true) :
    after port h p edit d = (takeTime (fr port h p) kind edit (at_ d).dev).dev := (congrArg Seen.dev (fr_time c)).symm

theorem fr_accepted {port : Fin 8} {h : Hdr} {p : List Byte} {d : Device} {cls : Nat}
    (c : (fresh port h p id d && (frHdr h p).cls == cls) = true) :
    Accepted (fr port h p) (at_ d) cls (frHdr h p) p (after port h p id d) := by
  simp only [Bool.and_eq_true, beq_iff_eq] at c
  exact ⟨c.2, fr_seen c.1⟩

/-- A header from the head of index 0 to node 5, stamped with a frame. -/
def toNode (cls : Nat) (frame : BitVec 32) : Hdr := { cls := cls, src := 2, dst := 5, stamp := { frame := frame, line := 0, sub := 0 } }

/-- One to every node. -/
def toAll (cls : Nat) (frame : BitVec 32) : Hdr := { cls := cls, src := 2, bcast := true, stamp := { frame := frame, line := 0, sub := 0 } }

/-- One from node 5 to the head. -/
def toHead (cls : Nat) : Hdr := { cls := cls, src := 5, dst := 2, origin := 1, stamp := { frame := 100, line := 0, sub := 0 } }

/-- A payload of REMOTE_RD. -/
def remoteB (kind status len id addr : Nat) (data : List Byte) : List Byte :=
  beN 1 kind ++ beN 1 status ++ beN 2 len ++ beN 4 id ++ beN 8 addr ++ data

/-- A letter of one entry, for node 5. -/
def mailB (c seq : Nat) : List Byte := zeros 4 ++ beN 2 1 ++ zeros 2 ++ (beN 2 5 ++ zeros 2 ++ beN 4 1 ++ beN 4 c ++ beN 4 0 ++ beN 4 seq)

/-- A slice of the whole window. -/
def sliceB : List Byte :=
  [1, 3, 0, 8] ++ beN 2 4 ++ beN 2 2 ++ beN 4 0 ++ beN 2 8 ++ beN 2 24 ++ beN 4 0 ++ beN 4 9 ++ zeros 2 ++ zeros 24

/-- A buffer it fits. -/
def buf0 : Buffer :=
  { layer := 1, content := 100, fmt := { feed := 1, layout := 0, fillBits := 8, keyBits := 0, srcW := 4, srcH := 2 }, groups := 1,
    hold := false, fill := [], key := [], fillN := 0, keyN := 0, poison := [] }

/-- A proof of one box. -/
def proofB : List Byte := [3, 3] ++ beN 2 1 ++ beN 2 1 ++ beN 4 0 ++ beN 2 1 ++ beN 2 3 ++ zeros 12 ++ zeros 3

/-- A CTRL operation of one entry. -/
def ctrlB (op a v : Nat) : List Byte := [BitVec.ofNat 8 op, 0] ++ beN 2 1 ++ zeros 4 ++ beN 4 a ++ beN 4 v

/-- An ASSIGN of node 5 to the device of fingerprint 0101010101010101. -/
def assignB : List Byte :=
  [5] ++ zeros 7 ++ List.replicate 8 1 ++ (beN 2 5 ++ zeros 18 ++ zeros 8 ++ beN 2 4 ++ beN 2 2 ++ [3, 8, 2, 0] ++ beN 2 1 ++ zeros 10) ++
  zeros 8 ++ [4, 0] ++ beN 2 1 ++ zeros 4

/-- Node 5 with that fingerprint. -/
def node5fp : Device := { node5 with sec.fingerprint := List.replicate 8 1 }

/-- An identity card from position 1. -/
def cardB : List Byte := [2] ++ zeros 11 ++ [1] ++ zeros 63

/-- A map whose node record names a fingerprint. -/
def rec4fp : NodeRecord := { rec4 with fingerprint := List.replicate 8 1 }

@[inherit_doc rec4fp] def map1fp : SysMap := { map1 with nodes := [rec4fp] }

/-- A RING TIME payload: LOCKED, period 16, on the default raster. -/
def timeB : List Byte := [0, 4, 0, 16] ++ zeros 4 ++ beN 4 100 ++ zeros 6 ++ beN 2 1125 ++ beN 4 60 ++ beN 2 1 ++ zeros 2 ++ beN 4 0xFFFFFFFF ++ zeros 24

/-- A frame that is not Silnal's. -/
def plain0 : RxFrame := { port := 0, bytes := zeros 60 ++ fcs (zeros 60), read := 0, bad := [], mark := 0 }

/-- The map with a slice of the two lines of slot 15. -/
def mapBulk : SysMap :=
  { map1 with slices := [{ head := 0, stream := 15, node := 5, layer := 1, key := false, srcX := 0, srcY := 0, srcW := 4, srcH := 2 }] }

/-- A head with a bulk stream in slot 15, which has stamps for no content. -/
def headBulk : Device :=
  { head0 with hif.badB := none, tim.firstLock := true, topo.map := some mapBulk,
               gest.slots := List.replicate 15 {} ++ [{ strm := some { stream0 with kind := 2 }, hist := [(0, some { stream0 with kind := 2 })] }] }

/-- Node 5 before it is bound. -/
def bare5 : Device := { node5 with topo.nodeId := none }

/-- The same, having sent identity data on every port in this frame. -/
def told5 : Device := { bare5 with link := List.replicate 8 { enabled := true, up := true, cardFrame := some 100 } }

/-! Ill-formed commands, one for each check of WellFormed.lean. -/

theorem test_wf_operands : (Instr.nop { cmd0 with ops := zeros 31 }).wf = false := by decide
theorem test_wf_frame_empty : (Instr.pixSlice (frame0 [])).wf = false := by decide
theorem test_wf_frame_long : (Instr.pixSlice (frame0 (zeros 65536))).wf = false := by decide +kernel
theorem test_wf_descriptor : (Instr.descriptorFetch (zeros 63) false .none).wf = false := by decide
theorem test_wf_bulk_entry : (Instr.bulkEntryRead (zeros 33) []).wf = false := by decide
theorem test_wf_nonce : (Instr.dbgChallenge (zeros 15) 0).wf = false := by decide
theorem test_wf_signature : (Instr.dbgResponse (zeros 63) 0).wf = false := by decide
theorem test_wf_keyload : (Instr.keyload (zeros 127)).wf = false := by decide +kernel
theorem test_wf_make_current : (Instr.keyloadMakeCurrent (zeros 129)).wf = false := by decide +kernel
theorem test_wf_register_write : (Instr.registerWrite 2 0 ).wf = false := by decide
theorem test_wf_counter_read : (Instr.counterRead 1 .bar0).wf = false := by decide
theorem test_wf_wide_read : (Instr.wideRegisterRead 3 .bar0).wf = false := by decide
theorem test_wf_good : (Instr.nop cmd0).wf = true ∧ (Instr.registerWrite 4 0).wf = true := by decide

/-! The queue and the words of the table. -/

theorem test_no_word : decodeTableWord 32 0 = none ∧ (at_ node5).withFetchWord 32 0 = at_ node5 := ⟨rfl, rfl⟩

/-- The front command runs and leaves the queue. -/
theorem test_front : (match step { dev := node5, pending := [.nop cmd0, .resetN] } with
    | .next t => t.pending == [.resetN] | _ => false) = true := by decide +kernel

/-! The spec's worked figures. -/

/-- R47, R48 (02_raster_time.md, worked example): 11 frames, 738,263,040 sub LSB, 166,888,889 ns. -/
theorem test_rp_distance :
    let a : RP := { frame := 5, line := 10, sub := 0 }
    let b : RP := { frame := 4294967290, line := 1120, sub := 0 }
    let r : Raster := {}
    frameDiff a.frame b.frame = 11 ∧ RP.dist r a b = 738263040 ∧ r.nsOf (RP.dist r a b) = 166888889 := by decide

/-- The same example: RP[2147483653:0:0] is unordered against RP[5:10:0]. -/
theorem test_rp_unordered : RP.unordered { frame := 5, line := 10, sub := 0 } (RP.start 2147483653) = true := by decide

/-- R48 (03_due_events.md, worked example): 380 µs is 1,680,998 sub LSB. -/
theorem test_sub_of : (({} : Raster)).subOf 380000 = 1680998 := by decide

/-- R99 (worked example): the starts of sub-refreshes 1, 2 and 6 of 7. -/
theorem test_sub_refresh_starts :
    [1, 2, 6].map (fun k => RP.plus {} (RP.start 9) (subStart {} 0 7 k)) =
      [{ frame := 9, line := 160, sub := 46811 }, { frame := 9, line := 321, sub := 28086 }, { frame := 9, line := 964, sub := 18724 }] := by
  decide

/-- R133 (worked example): hi 1,000 with bits 0 and 1 set; 1,000 again is a duplicate, 1,001 is fresh and leaves binary 111. -/
theorem test_dedup_window :
    let w : DedupWin := { cls := 5, origin := 0, peer := 3, hi := 1000, seen := 3, count := 100 }
    (dedupWin w 1000 false).1 = .duplicate ∧ (dedupWin w 1001 false).1 = .fresh ∧ (dedupWin w 1001 false).2.1.seen = 7 := by decide

/-- R157 (worked example): three underruns raise a threshold of 512 to 1,280. -/
theorem test_underruns :
    let up := fun (d : Device) => underrunFx 3 [] [] d
    ((up (up (up node5))).port 3).thresh = 1280 := by decide +kernel

/-- R168 (worked example): three FCS failures read as code 2, one as code 1, none as code 0. -/
theorem test_statistic_codes : [3, 1, 0].map statCode = [2, 1, 0] := by decide

/-- R188 (worked example): a stream at 60,000/1,001 Hz; the timestamp of frame 2,000,001 gives that frame. -/
theorem test_content_frame :
    contentPtp { stream0 with rateNum := 60000, rateDen := 1001 } 3003001501 33366683350000 = 2000001 := by decide

/-- R270 (worked example): Y 700, Cb 400, Cr 600 under BT.709 and NARROW. -/
theorem test_ycc : yccToRgb false false (expand16 false 10 700) (expand16 false 10 400) (expand16 false 10 600) = [57717, 46102, 32380] := by
  decide

/-- R274, R282 (worked example): the weights of an opacity of 49,152 and of a full one. -/
theorem test_weight : weight16 49152 = 49153 ∧ weight16 65535 = 65536 := by decide

/-- R282 (worked example): OVER of the three channels. -/
theorem test_over :
    let s : Disp := (({} : Layer)).disp
    blendPixel { s with opacity := 49152, style := 0 } 3 [773457, 451031, 193205, 65535] [100000, 100000, 100000] =
      [605103, 363279, 169905] := by decide

/-- R286 (worked example): the proof values of a box that holds one value. -/
theorem test_proof_values : [605103, 363279, 169905].map (fun a => proofValue (16 * a)) = [194, 150, 103] := by decide

/-- R298, R299 (worked example): rem, remc and the gain code of a worn LED, and the code of a new one. -/
theorem test_wear_gain :
    let curve := List.replicate 3 65536 ++ [61210, 60620] ++ List.replicate 252 60620
    wearRem (some curve) 61440000 = 60821 ∧ wearRemc (some curve) 36045 61440000 = 60349 ∧ wearGain 52429 60349 = 889 ∧
      wearGain 52429 65536 = 818 := by decide

/-- R289 (worked example): the codes of the pixel after CCM, gain, encoding and dither. -/
theorem test_pixel_codes :
    let m : List Int := [7864, 245, -41, 118, 7702, 164, -20, 201, 7540]
    let d := [605103, 363279, 169905]
    (List.range 3).map (fun c => codeOf (ccm m d c) (nth [889, 912, 874] c) none (dither 2000001 1300 300 c)) = [32105, 19713, 8750] := by decide

/-- R377 (worked example): 6 uses in 180 days predict nothing at 8 left, and REPLACE at 3. -/
theorem test_prediction : spent 6 8 = false ∧ spent 6 3 = true := by decide

/-- R474 (worked example): the energy of one sample of 45 V and 6 A, in units of 2^-40 LSB. -/
theorem test_energy_increment : meterScale 60000 48000 = 2 ^ 40 ∧ energyInc (2 ^ 40) 6291456 1048576 = 103079215104 := by decide

/-- R410, R411 (14_host.md, worked example): the levels of SCHED_HIGH's example leave one shadow crossing at 790, the peak 800. -/
theorem test_watermark :
    let d := [700, 770, 800, 760, 790, 500].foldl (fun d l => sampleSched l d) node5
    let w := wmGet d 0
    w.armed = false ∧ w.shadow = 1 ∧ w.cross = 790 ∧ w.peak = 800 ∧ w.level = 500 := by decide +kernel

/-- R157, R158: the raise stops at 9,216 bytes. -/
theorem test_underrun_top : ((underrunFx 3 [] [] { node5 with link := List.replicate 8 { thresh := 9216 } }).port 3).thresh = 9216 := by
  decide +kernel

/-- R239: the words of a segment of 64 pixels in each graph queue, for three and for four primaries. -/
theorem test_segment_packets :
    [3, 4].map (fun p => [1, 2, 3, 4].map (fun q => (segPacket (queueBits q p) (List.replicate 64 0)).length)) =
      [[16, 19, 15, 12], [20, 24, 20, 16]] := by decide +kernel

/-- R570, R572: IDCODE and the 172 balls of the boundary register, three cells each. -/
theorem test_boundary_chain : 3 * chainBalls.length = 516 ∧ ({} : Tap).idcode = 0x2409674B := by decide +kernel

/-! States and operands that meet the hypotheses of each statement, clause by clause. -/

theorem test_meets_StepRunsFront : ∃ c : Instr, ∃ rest : List Instr, ∃ s : State, s.pending = c :: rest :=
  ⟨.nop cmd0, [.resetN], { dev := node5, pending := [.nop cmd0, .resetN] }, rfl⟩

theorem test_meets_StepIdles : ∃ s : State, s.pending = [] :=
  ⟨at_ node5, rfl⟩

theorem test_meets_StepKeepsRpOnRaster : ∃ s : State, ∃ t : State, ClockOk s ∧ step s = .next t :=
  ⟨at_ node5, _, ⟨by decide, by decide, by decide⟩, rfl⟩

theorem test_meets_ClockMovesOnlyByTimeBase :
    (∃ i : Instr, ∃ s : State, ∃ t : State, i.movesClock = false ∧ exec i s = .next t) ∧
    (∃ i : Instr, ∃ s : State, ∃ t : State, i.marksInstant = true ∧ (i.runsDue = true → nextEntry s.dev = none) ∧ exec i s = .next t) :=
  ⟨⟨.hvLow false, at_ node5, _, rfl, rfl⟩,
   ⟨.cutoffLineReached, at_ node5, _, rfl, fun _ => rfl, rfl⟩⟩

theorem test_meets_RpOrder :
    (∃ a : RP, ∃ b : RP, ∃ d : Int, d = (a.frame - b.frame).toInt ∧ d ≠ 0 ∧ d ≠ -2147483648) ∧
    (∃ a : RP, ∃ b : RP, ∃ d : Int, d = (a.frame - b.frame).toInt ∧ d = 0) ∧
    (∃ a : RP, ∃ b : RP, ∃ d : Int, d = (a.frame - b.frame).toInt ∧ d = -2147483648) :=
  ⟨⟨RP.start 2, RP.start 1, 1, by decide⟩,
   ⟨RP.start 1, RP.start 1, 0, by decide⟩,
   ⟨RP.start 0x80000000, RP.start 0, -2147483648, by decide⟩⟩

theorem test_meets_ResetRows :
    (∃ s : State, s.dev.pwr.supplyLow = false) ∧
    (∃ s : State, s.dev.pwr.supplyLow = true) ∧
    (∃ s : State, s.dev.pwr.powerOff = true) ∧
    (∃ s : State, coresRun s.dev = true) ∧
    (∃ s : State, coresRun s.dev = false) ∧
    (∃ s : State, s.dev.pwr.readyHost = true ∧ s.dev.pwr.powerOff = false ∧ s.dev.isHead = true) ∧
    (∃ s : State, ∃ v : Word, (v ≠ 0x5A4C5253 ∨ s.dev.pwr.readyHost = false ∨ s.dev.pwr.powerOff = true)) ∧
    (∃ s : State, ∃ h, s.dev.pwr.hostReset = some h ∧ h.done = true) ∧
    (∃ s : State, (∀ h, s.dev.pwr.hostReset = some h → h.done = false)) ∧
    (∃ s : State, s.dev.sec.intrusive = true) ∧
    (∃ s : State, s.dev.sec.intrusive = false) ∧
    (∃ s : State, ∃ j, s.dev.sec.journal = some j) ∧
    (∃ s : State, s.dev.sec.journal = none) :=
  ⟨⟨at_ { node5 with pwr.supplyLow := false }, by decide⟩,
   ⟨at_ { node5 with pwr.supplyLow := true }, by decide⟩,
   ⟨at_ { node5 with pwr.powerOff := true }, by decide⟩,
   ⟨at_ node5, by decide⟩,
   ⟨at_ { node5 with pwr.inReset := true }, by decide⟩,
   ⟨at_ { head0 with pwr.readyHost := true, pwr.powerOff := false }, by decide⟩,
   ⟨at_ node5, 0x5A4C5254, by decide⟩,
   ⟨at_ { node5 with pwr.hostReset := some { cmds := [], expo := false, energy := false, failed := false, done := true } },
     { cmds := [], expo := false, energy := false, failed := false, done := true }, by decide⟩,
   ⟨at_ node5, by decide⟩,
   ⟨at_ { node5 with sec.intrusive := true }, by decide⟩,
   ⟨at_ { node5 with sec.intrusive := false }, by decide⟩,
   ⟨at_ { node5 with sec.journal := some ⟨.blank, .provisioned, 0⟩ }, ⟨.blank, .provisioned, 0⟩, by decide⟩,
   ⟨at_ { node5 with sec.journal := none }, by decide⟩⟩

theorem test_meets_StartUp :
    (∃ s : State, s.dev.pwr.inReset = true ∧ s.dev.pwr.supplyLow = false ∧ s.dev.red.pllStandby.length = 7) ∧
    (∃ b : BootInputs, ∃ s : State, s.dev.pwr.waitRef = true ∧ s.dev.pwr.boot = some b ∧ s.dev.red.pllStandby.length = 7) ∧
    (∃ s : State, s.dev.pwr.inReset = false ∧ s.dev.pwr.waitRef = false ∧ s.dev.pwr.readyHost = false ∧ s.dev.pwr.powerOff = false ∧
      s.dev.pwr.trans = none ∧ s.dev.pwr.retained = none) ∧
    (∃ s : State, s.dev.pwr.readyHost = true) ∧
    (∃ s : State, s.dev.pwr.readyHost = true ∧ s.dev.pwr.readyLight = false ∧ s.dev.pwr.powerOff = false ∧ s.dev.pwr.woke = false) ∧
    (∃ s : State, s.dev.pwr.state = .startUp ∧ s.dev.pwr.readyLight = true ∧ s.dev.pwr.start = true ∧ s.dev.pwr.inReset = false) ∧
    (∃ s : State, s.dev.pwr.start = false) ∧
    (∃ s : State, s.dev.pwr.readyHost = true) :=
  ⟨⟨at_ { node5 with pwr.inReset := true, pwr.supplyLow := false }, by decide⟩,
   ⟨boot0 true, at_ { node5 with pwr.waitRef := true, pwr.boot := some (boot0 true) }, by decide⟩,
   ⟨at_ { node5 with pwr.inReset := false, pwr.waitRef := false, pwr.readyHost := false, pwr.powerOff := false, pwr.trans := none, pwr.retained := none },
     by decide⟩,
   ⟨at_ { node5 with pwr.readyHost := true }, by decide⟩,
   ⟨at_ { node5 with pwr.readyHost := true, pwr.readyLight := false, pwr.powerOff := false, pwr.woke := false }, by decide⟩,
   ⟨at_ { node5 with pwr.state := .startUp, pwr.readyLight := true, pwr.start := true, pwr.inReset := false }, by decide⟩,
   ⟨at_ { node5 with pwr.start := false }, by decide⟩,
   ⟨at_ { node5 with pwr.readyHost := true }, by decide⟩⟩

theorem test_meets_RefLoss :
    (∃ s : State, s.dev.pwr.powerOff = false) ∧
    (∃ b : BootInputs, ∃ s : State, s.dev.pwr.inReset = true ∧ s.dev.pwr.supplyLow = false ∧ b.refPresent = false) ∧
    (∃ s : State, s.dev.pwr.waitRef = true) ∧
    (∃ b : BootInputs, ∃ s : State, s.dev.pwr.waitRef = true ∧ s.dev.pwr.boot = some b) :=
  ⟨⟨at_ { node5 with pwr.powerOff := false }, by decide⟩,
   ⟨boot0 false, at_ { node5 with pwr.inReset := true, pwr.supplyLow := false }, by decide⟩,
   ⟨at_ { node5 with pwr.waitRef := true }, by decide⟩,
   ⟨boot0 true, at_ { node5 with pwr.waitRef := true, pwr.boot := some (boot0 true) }, by decide⟩⟩

theorem test_meets_PinStraps :
    (∃ s : State, ∃ p : Path, readServed p s.dev = true) ∧
    (∃ s : State, s.dev.pwr.inReset = true ∧ s.dev.pwr.supplyLow = false) :=
  ⟨⟨at_ head0, .bar0, by decide⟩,
   ⟨at_ { node5 with pwr.inReset := true, pwr.supplyLow := false }, by decide⟩⟩

theorem test_meets_PowerStateSet :
    (∃ c : Cmd, (3 < opB c 0 ∨ 2 < opB c 1 ∨ 86400 < opN c 4 4)) ∧
    (∃ c : Cmd, ∃ s : State, (¬ (3 < opB c 0 ∨ 2 < opB c 1 ∨ 86400 < opN c 4 4)) ∧ (s.dev.pwr.state = .startUp ∨ (s.dev.sec.halted ≠ 0 ∧
      opB c 0 ≠ 0) ∨ stateEntered s.dev = stateOf (opB c 0) ∨ (forwardOnly s.dev = true ∧ (opB c 0 = 1 ∨ opB c 0 = 2)))) ∧
    (∃ c : Cmd, ∃ s : State, opB c 0 ≤ 3 ∧ opB c 1 ≤ 2 ∧ opN c 4 4 ≤ 86400 ∧ s.dev.pwr.state ≠ .startUp ∧ forwardOnly s.dev = false ∧
      s.dev.sec.halted = 0 ∧ stateEntered s.dev ≠ stateOf (opB c 0) ∧ s.dev.pwr.trans.isSome = true) ∧
    (∃ c : Cmd, ∃ s : State, opB c 0 ≤ 3 ∧ opB c 1 ≤ 2 ∧ opN c 4 4 ≤ 86400 ∧ s.dev.pwr.state ≠ .startUp ∧ forwardOnly s.dev = false ∧
      s.dev.sec.halted = 0 ∧ stateEntered s.dev ≠ stateOf (opB c 0) ∧ s.dev.pwr.trans = none ∧ opB c 0 = 1 ∧ s.dev.pwr.state = .run) ∧
    (∃ c : Cmd, ∃ s : State, opB c 0 ≤ 3 ∧ opB c 1 ≤ 2 ∧ opN c 4 4 ≤ 86400 ∧ s.dev.pwr.state ≠ .startUp ∧ forwardOnly s.dev = false ∧
      s.dev.sec.halted = 0 ∧ stateEntered s.dev ≠ stateOf (opB c 0) ∧ s.dev.pwr.trans = none ∧ opB c 0 = 0 ∧ s.dev.pwr.state = .quiet) ∧
    (∃ c : Cmd, ∃ s : State, opB c 0 ≤ 3 ∧ opB c 1 ≤ 2 ∧ opN c 4 4 ≤ 86400 ∧ s.dev.pwr.state ≠ .startUp ∧ forwardOnly s.dev = false ∧
      s.dev.sec.halted = 0 ∧ stateEntered s.dev ≠ stateOf (opB c 0) ∧ s.dev.pwr.trans = none ∧ opB c 0 ≤ 1 ∧ s.dev.pwr.state = .standby) ∧
    (∃ c : Cmd, ∃ s : State, opB c 0 ≤ 3 ∧ opB c 1 ≤ 2 ∧ opN c 4 4 ≤ 86400 ∧ s.dev.pwr.state ≠ .startUp ∧ forwardOnly s.dev = false ∧
      s.dev.sec.halted = 0 ∧ stateEntered s.dev ≠ stateOf (opB c 0) ∧ s.dev.pwr.trans = none ∧ opB c 0 = 2) ∧
    (∃ c : Cmd, ∃ s : State, opB c 0 ≤ 3 ∧ opB c 1 ≤ 2 ∧ opN c 4 4 ≤ 86400 ∧ s.dev.pwr.state ≠ .startUp ∧ forwardOnly s.dev = false ∧
      s.dev.sec.halted = 0 ∧ stateEntered s.dev ≠ stateOf (opB c 0) ∧ s.dev.pwr.trans = none ∧ opB c 0 = 3) :=
  ⟨⟨cmdOf [0, 0, 0, 0, 129, 81, 1] .none, by decide⟩,
   ⟨cmdOf [] .none, at_ node5, by decide⟩,
   ⟨cmdOf [0, 0, 0, 0, 128, 81, 1] .none, at_ { node5 with sec.halted := 0, pwr.trans := some (trans0 .quiet none), pwr.state := .standby }, by decide⟩,
   ⟨cmdOf [1] .none, at_ { node5 with sec.halted := 0, pwr.trans := none, pwr.state := .run }, by decide⟩,
   ⟨cmdOf [0] .none, at_ { node5 with sec.halted := 0, pwr.trans := none, pwr.state := .quiet }, by decide⟩,
   ⟨cmdOf [] .none, at_ { node5 with sec.halted := 0, pwr.trans := none, pwr.state := .standby }, by decide⟩,
   ⟨cmdOf [2] .none, at_ { node5 with sec.halted := 0, pwr.trans := none }, by decide⟩,
   ⟨cmdOf [3] .none, at_ { node5 with sec.halted := 0, pwr.trans := none }, by decide⟩⟩

theorem test_meets_PowerTransitions :
    (∃ s : State, ∃ t : Transition, s.dev.pwr.trans = some t ∧ s.dev.pwr.readyHost = true ∧ s.dev.pwr.powerOff = false ∧ t.target ≠ .hibernate) ∧
    (∃ s : State, ∃ t : Transition, ∃ c, s.dev.pwr.trans = some t ∧ s.dev.pwr.readyHost = true ∧ s.dev.pwr.powerOff = false ∧
      (t.target = .run ∨ t.target = .quiet) ∧ t.cmd = some c) ∧
    (∃ s : State, ∃ t : Transition, s.dev.pwr.trans = some t ∧ s.dev.pwr.readyHost = true ∧ s.dev.pwr.powerOff = false ∧ t.target = .hibernate) ∧
    (∃ s : State, ∃ t : Transition, ∃ r : Retained, s.dev.pwr.trans = some t ∧ t.target = .hibernate ∧ s.dev.pwr.retained = some r ∧
      s.dev.pwr.wakeLatch = none) :=
  ⟨⟨at_ { node5 with pwr.trans := some (trans0 .run none), pwr.readyHost := true, pwr.powerOff := false }, trans0 .run none, by decide⟩,
   ⟨at_ { node5 with pwr.trans := some (trans0 .run (some cmd0)), pwr.readyHost := true, pwr.powerOff := false }, trans0 .run (some cmd0), cmd0,
     by decide⟩,
   ⟨at_ { node5 with pwr.trans := some (trans0 .hibernate none), pwr.readyHost := true, pwr.powerOff := false }, trans0 .hibernate none, by decide⟩,
   ⟨at_ { node5 with pwr.trans := some (trans0 .hibernate none), pwr.retained := some retained0, pwr.wakeLatch := none }, trans0 .hibernate none,
     retained0, by decide⟩⟩

theorem test_meets_WakeEvents :
    (∃ s : State, s.dev.pwr.powerOff = true ∧ s.dev.pwr.wakeTimer ≠ 0) ∧
    (∃ s : State, entering s.dev = true ∧ s.dev.pwr.powerOff = false ∧ s.dev.pwr.wakeTimer ≠ 0) ∧
    (∃ s : State, s.dev.pwr.powerOff = false ∧ entering s.dev = false ∧ (s.dev.pwr.state = .standby ∨ s.dev.pwr.state = .quiet)) ∧
    (∃ s : State, s.dev.pwr.powerOff = false ∧ entering s.dev = false ∧ s.dev.pwr.wakeTimer ≠ 0 ∧ byWatchdog s.dev = true) ∧
    (∃ s : State, s.dev.pwr.wakeTimer = 0) :=
  ⟨⟨at_ { node5 with pwr.powerOff := true, pwr.wakeTimer := 1 }, by decide⟩,
   ⟨at_ { node5 with pwr.powerOff := false, pwr.wakeTimer := 1, pwr.trans := some (trans0 .hibernate none) }, by decide⟩,
   ⟨at_ { node5 with pwr.powerOff := false, pwr.state := .quiet }, by decide⟩,
   ⟨at_ { node5 with pwr.powerOff := false, pwr.state := .quiet, pwr.wakeTimer := 1, pwr.byWd := true }, by decide⟩,
   ⟨at_ { node5 with pwr.wakeTimer := 0 }, by decide⟩⟩

theorem test_meets_WatchdogAndResetRequest :
    (∃ c : Cmd, (opN c 0 4 = 0 ∨ (100 ≤ opN c 0 4 ∧ opN c 0 4 ≤ 3600000)) ∧ opB c 4 ≤ 2) ∧
    (∃ c : Cmd, ((opN c 0 4 ≠ 0 ∧ (opN c 0 4 < 100 ∨ 3600000 < opN c 0 4)) ∨ 2 < opB c 4)) ∧
    (∃ s : State, s.dev.pwr.wdOn = true ∧ s.dev.pwr.powerOff = false ∧ nextEntry s.dev = none ∧ s.dev.pwr.wdSetAt ≠ some s.dev.clk.rp ∧
      s.dev.pwr.wdAction = 2 ∧ s.dev.pwr.trans = none) ∧
    (∃ s : State, s.dev.pwr.wdOn = true ∧ s.dev.pwr.powerOff = false ∧ nextEntry s.dev = none ∧ s.dev.pwr.wdSetAt ≠ some s.dev.clk.rp ∧
      (s.dev.pwr.wdAction ≠ 2 ∨ s.dev.pwr.trans.isSome = true)) :=
  ⟨⟨cmdOf [128, 238, 54, 0, 2] .none, by decide⟩,
   ⟨cmdOf [99] .none, by decide⟩,
   ⟨at_ { node5 with pwr.wdOn := true, pwr.powerOff := false, pwr.wdAction := 2, pwr.trans := none }, by decide⟩,
   ⟨at_ { node5 with pwr.wdOn := true, pwr.powerOff := false, pwr.wdAction := 1 }, by decide⟩⟩

theorem test_meets_SmallPowerRows :
    (∃ s : State, s.dev.pwr.powerOff = false) ∧
    (∃ s : State, s.dev.pwr.powerOff = false ∧ s.dev.pwr.inReset = false) ∧
    (∃ s : State, s.dev.isHead = true) ∧
    (∃ s : State, s.dev.isHead = false) :=
  ⟨⟨at_ { node5 with pwr.powerOff := false }, by decide⟩,
   ⟨at_ { node5 with pwr.powerOff := false, pwr.inReset := false }, by decide⟩,
   ⟨at_ head0, by decide⟩,
   ⟨at_ node5, by decide⟩⟩

theorem test_meets_FeedsWatched :
    (∃ s : State, ∃ a : Feed, ∃ b : Feed, s.dev.red.feeds = [a, b] ∧ a.present = true ∧ b.present = true) ∧
    (∃ s : State, ∃ a : Feed, ∃ b : Feed, s.dev.red.feeds = [a, b] ∧ a.present = true ∧ b.present = false) ∧
    (∃ s : State, ∃ a : Feed, ∃ b : Feed, s.dev.red.feeds = [a, b] ∧ a.present = false ∧ b.present = true ∧ s.dev.red.shareFar = false) ∧
    (∃ s : State, ∃ a : Feed, ∃ b : Feed, ∃ sa : Nat, ∃ sb : Nat, ∃ at_ : RP, ∃ c : Cmd, s.dev.red.feeds = [a, b] ∧ a.present = true ∧
      b.present = true ∧ s.dev.pwr.state ≠ .hibernate ∧ s.dev.red.probeCmds = [(at_, c)] ∧ 850 ≤ sa ∧ 850 ≤ sb) ∧
    (∃ s : State, ∃ a : Feed, ∃ b : Feed, ∃ sa : Nat, ∃ sb : Nat, ∃ at_ : RP, ∃ c : Cmd, s.dev.red.feeds = [a, b] ∧ a.present = true ∧
      b.present = true ∧ s.dev.pwr.state ≠ .hibernate ∧ s.dev.red.probeCmds = [(at_, c)] ∧ sa < 850 ∧ 850 ≤ sb) ∧
    (∃ s : State, ∃ a : Feed, ∃ b : Feed, ∃ share, s.dev.red.feeds = [a, b] ∧ share < 100 ∧ a.present = true) ∧
    (∃ s : State, ∃ a : Feed, ∃ b : Feed, ∃ diff : Int, s.dev.red.feeds = [a, b] ∧ s.dev.red.shareFar = false ∧ 300 < diff.natAbs) ∧
    (∃ s : State, ∃ a : Feed, ∃ b : Feed, ∃ diff : Int, s.dev.red.feeds = [a, b] ∧ diff.natAbs ≤ 300) :=
  ⟨⟨at_ { node5 with red.feeds := [{ present := true }, { present := true }] }, { present := true }, { present := true }, by decide⟩,
   ⟨at_ { node5 with red.feeds := [{ present := true }, { present := false }] }, { present := true }, { present := false }, by decide⟩,
   ⟨at_ { node5 with red.feeds := [{ present := false }, { present := true }], red.shareFar := false }, { present := false }, { present := true },
     by decide⟩,
   ⟨at_ { node5 with red.feeds := [{ present := true }, { present := true }], red.probeCmds := [(rp0, (cmdOf [] .none))] }, { present := true },
     { present := true }, 850, 850, rp0, cmdOf [] .none, by decide⟩,
   ⟨at_ { node5 with red.feeds := [{ present := true }, { present := true }], red.probeCmds := [(rp0, (cmdOf [] .none))] }, { present := true },
     { present := true }, 849, 850, rp0, cmdOf [] .none, by decide⟩,
   ⟨at_ { node5 with red.feeds := [{ present := true }, {}] }, { present := true }, {}, 99, by decide⟩,
   ⟨at_ { node5 with red.feeds := [{}, {}], red.shareFar := false }, {}, {}, 301, by decide⟩,
   ⟨at_ { node5 with red.feeds := [{}, {}] }, {}, {}, 300, by decide⟩⟩

theorem test_meets_TimeFramesTravel :
    (∃ s : State, ∃ l0 : LinkPort, ∃ l1 : LinkPort, ∃ l2 : LinkPort, ∃ l3 : LinkPort, ∃ l4 : LinkPort, ∃ l5 : LinkPort, ∃ l6 : LinkPort,
      ∃ l7 : LinkPort, s.dev.link = [l0, l1, l2, l3, l4, l5, l6, l7] ∧ s.dev.isHead = true ∧ s.dev.tim.cfgInvalid = false ∧
      forwardOnly s.dev = false ∧ s.dev.pwr.inReset = false ∧ mapKnown s.dev = none) ∧
    (∃ s : State, ∃ p : Fin 8, p.val < s.dev.link.length ∧ (s.dev.isHead = true ∨ s.dev.topo.nodeId ≠ none)) ∧
    (∃ s : State, ∃ p : Fin 8, p.val < s.dev.link.length ∧ s.dev.isHead = false ∧ s.dev.topo.nodeId = none) ∧
    (∃ f : RxFrame, ∃ s : State, ∃ h : Hdr, ∃ b : List Byte, ∃ d, (takeTime f 1 id s.dev).got = some (h, b) ∧ d = (takeTime f 1 id s.dev).dev ∧
      f.port.val < d.link.length ∧ (d.port f.port.val).up = true ∧ (d.port f.port.val).lpiTx = false ∧ ((d.isHead = true ∧
      (d.port f.port.val).quietTo = none ∧ (d.port f.port.val).backlog = []) ∨ (d.isHead = false ∧ d.topo.nodeId ≠ none))) ∧
    (∃ f : RxFrame, ∃ s : State, ∃ h : Hdr, ∃ b : List Byte, ∃ d, (takeTime f 1 id s.dev).got = some (h, b) ∧ d = (takeTime f 1 id s.dev).dev ∧
      f.port.val < d.link.length ∧ (d.port f.port.val).up = true ∧ (d.port f.port.val).lpiTx = false ∧ d.isHead = false ∧ d.topo.nodeId = none ∧
      (d.port f.port.val).cardFrame ≠ some d.clk.rp.frame) ∧
    (∃ f : RxFrame, ∃ s : State, ∃ h : Hdr, ∃ b : List Byte, ∃ d, (takeTime f 1 id s.dev).got = some (h, b) ∧ d = (takeTime f 1 id s.dev).dev ∧
      f.port.val < d.link.length ∧ (d.port f.port.val).up = true ∧ (d.port f.port.val).lpiTx = false ∧ d.isHead = false ∧ d.topo.nodeId = none ∧
      (d.port f.port.val).cardFrame = some d.clk.rp.frame) ∧
    (∃ f : RxFrame, ∃ s : State, ∃ h : Hdr, ∃ b : List Byte, ∃ d, (takeTime f 2 id s.dev).got = some (h, b) ∧ d = (takeTime f 2 id s.dev).dev ∧
      f.port.val < d.link.length ∧ (d.port f.port.val).t1 = some (BitVec.ofNat 64 (be b 32 8))) ∧
    (∃ t : TimeRx, ∃ s : State, ∃ h : Hdr, ∃ b : List Byte, (takeTime t.frame 0 (timeOnward t s.dev) s.dev).got = some (h, b) ∧
      s.dev.isHead = false ∧ headReady b = true ∧ 1 ≤ be b 3 1 % 32 ∧ be b 3 1 % 32 ≤ 16 ∧ (timeRaster b).valid = true ∧
      (timeOrigin b).line < (timeRaster b).lines ∧ s.dev.clk.raster = timeRaster b ∧
      adopts s.dev (pairOf t.frame.port.val) (timeRaster b) = false ∧ s.dev.tim.state = .acquire ∧ s.dev.tim.dirs.length = 8 ∧ h.dir ≤ 1) :=
  ⟨⟨at_ { head0 with link := List.replicate 8 {}, tim.cfgInvalid := false, pwr.inReset := false, topo.map := none }, _, _, _, _, _, _, _, _, rfl,
     by decide⟩,
   ⟨at_ head0, 0, by decide⟩,
   ⟨at_ { node5 with topo.nodeId := none }, 0, by decide⟩,
   ⟨fr 0 { toAll 3 100 with hop := 0 } ([1] ++ zeros 55), at_ head0, frHdr { toAll 3 100 with hop := 0 } ([1] ++ zeros 55), [1] ++ zeros 55,
     after 0 { toAll 3 100 with hop := 0 } ([1] ++ zeros 55) id head0,
    fr_timeGot (by decide +kernel), fr_timeDev (by decide +kernel),
     by decide +kernel, by decide +kernel, by decide +kernel, Or.inl ⟨by decide +kernel, by decide +kernel, by decide +kernel⟩⟩,
   ⟨fr 0 { toAll 3 100 with hop := 0 } ([1] ++ zeros 55), at_ bare5, frHdr { toAll 3 100 with hop := 0 } ([1] ++ zeros 55), [1] ++ zeros 55,
     after 0 { toAll 3 100 with hop := 0 } ([1] ++ zeros 55) id bare5,
    fr_timeGot (by decide +kernel), fr_timeDev (by decide +kernel),
     by decide +kernel⟩,
   ⟨fr 0 { toAll 3 100 with hop := 0 } ([1] ++ zeros 55), at_ told5, frHdr { toAll 3 100 with hop := 0 } ([1] ++ zeros 55), [1] ++ zeros 55,
     after 0 { toAll 3 100 with hop := 0 } ([1] ++ zeros 55) id told5,
    fr_timeGot (by decide +kernel), fr_timeDev (by decide +kernel),
     by decide +kernel⟩,
   ⟨fr 0 { toAll 3 100 with hop := 0 } ([2] ++ zeros 55), at_ { head0 with link := List.replicate 8 { up := true, t1 := some 0 } },
     frHdr { toAll 3 100 with hop := 0 } ([2] ++ zeros 55), [2] ++ zeros 55,
     after 0 { toAll 3 100 with hop := 0 } ([2] ++ zeros 55) id { head0 with link := List.replicate 8 { up := true, t1 := some 0 } },
    fr_timeGot (by decide +kernel),
     fr_timeDev (by decide +kernel), by decide +kernel⟩,
   ⟨{ frame := fr 0 (toAll 3 100) timeB, follow := 0, now := 0, txMark := 0 }, at_ { node5 with tim.state := .acquire }, frHdr (toAll 3 100) timeB,
     timeB,
    fr_timeGot (by decide +kernel), by decide +kernel⟩⟩

theorem test_meets_NodeLocks :
    (∃ s : State, ∃ pair : Nat, ∃ path : Nat, ∃ off : Int, ∃ store : Bool, s.dev.isHead = false ∧ s.dev.tim.state = .acquire ∧
      timePair s.dev = some pair ∧ pairOffset s.dev pair = some (path, off, store)) ∧
    (∃ s : State, (s.dev.isHead = true ∨ s.dev.tim.state ≠ .acquire ∨ timePair s.dev = none)) ∧
    (∃ s : State, ∃ pair : Nat, ∃ r : Raster, s.dev.isHead = false ∧ s.dev.tim.firstLock = true ∧ s.dev.tim.state = .holdover ∧
      foreignPair s.dev = some (pair, r) ∧ r.valid = true) ∧
    (∃ s : State, (s.dev.isHead = true ∨ s.dev.tim.firstLock = false ∨ s.dev.tim.state ≠ .holdover ∨ foreignPair s.dev = none)) :=
  ⟨⟨at_ { node5 with tim.state := .acquire, tim.dirs := List.replicate 6 {} ++ [{ seen := true }, {}] }, 3, 2, 0, false, by decide⟩,
   ⟨at_ head0, by decide⟩,
   ⟨at_ { node5 with tim.firstLock := true, tim.state := .holdover, tim.dirs := List.replicate 7 {} ++ [{ foreign := some {}, foreignFrom := some (RP.start 98), foreignAt := some rp0 }] },
     3, {}, by decide⟩,
   ⟨at_ head0, by decide⟩⟩

theorem test_meets_HeadMeasurements :
    (∃ m : PtpExchange, ∃ s : State, ∃ d : Device, d = keepClk s.dev (ptpFrames m s.dev).2 ∧ (ptpFrames m s.dev).1 = false) ∧
    (∃ m : PtpExchange, ∃ s : State, ∃ d : Device, d = keepClk s.dev (ptpFrames m s.dev).2 ∧ (ptpFrames m s.dev).1 = true ∧
      (delayAccepted s.dev.tim.delays (ptpDelay m d) = false ∨ s.dev.tim.state = .free)) ∧
    (∃ m : PtpExchange, ∃ s : State, ∃ d : Device, d = keepClk s.dev (ptpFrames m s.dev).2 ∧ (ptpFrames m s.dev).1 = true ∧
      delayAccepted s.dev.tim.delays (ptpDelay m d) = true ∧ s.dev.tim.state = .acquire ∧ 8 ≤ s.dev.tim.meas + 1) ∧
    (∃ m : PtpExchange, ∃ s : State, ∃ d : Device, d = keepClk s.dev (ptpFrames m s.dev).2 ∧ (ptpFrames m s.dev).1 = true ∧
      delayAccepted s.dev.tim.delays (ptpDelay m d) = true ∧ s.dev.tim.state = .acquire ∧ s.dev.tim.meas + 1 < 8) ∧
    (∃ m : PtpExchange, ∃ s : State, ∃ d : Device, d = keepClk s.dev (ptpFrames m s.dev).2 ∧ (ptpFrames m s.dev).1 = true ∧
      delayAccepted s.dev.tim.delays (ptpDelay m d) = true ∧ s.dev.tim.state ≠ .free ∧ s.dev.tim.state ≠ .acquire) ∧
    (∃ falling : Bool, ∃ s : State, ∃ off : Int, ∃ f : BitVec 32, off = s.dev.clk.raster.subOf (syncOffset s.dev) ∧
      f = edgeFrameAt (RP.plus s.dev.clk.raster s.dev.clk.rp off) (nearest 1 16 (s.dev.field 0x3020 4 0)) ∧
      (measures s.dev .sync = false ∨ falling ≠ (s.dev.field 0x3024 0 0 == 1))) ∧
    (∃ falling : Bool, ∃ s : State, ∃ off : Int, ∃ f : BitVec 32, off = s.dev.clk.raster.subOf (syncOffset s.dev) ∧
      f = edgeFrameAt (RP.plus s.dev.clk.raster s.dev.clk.rp off) (nearest 1 16 (s.dev.field 0x3020 4 0)) ∧ measures s.dev .sync = true ∧
      falling = (s.dev.field 0x3024 0 0 == 1) ∧ s.dev.tim.firstLock = false ∧ s.dev.tim.state = .free) ∧
    (∃ falling : Bool, ∃ s : State, ∃ off : Int, ∃ f : BitVec 32, off = s.dev.clk.raster.subOf (syncOffset s.dev) ∧
      f = edgeFrameAt (RP.plus s.dev.clk.raster s.dev.clk.rp off) (nearest 1 16 (s.dev.field 0x3020 4 0)) ∧ measures s.dev .sync = true ∧
      falling = (s.dev.field 0x3024 0 0 == 1) ∧ s.dev.tim.firstLock = false ∧ s.dev.tim.state = .acquire ∧ s.dev.tim.meas + 1 < 8) ∧
    (∃ falling : Bool, ∃ s : State, ∃ off : Int, ∃ f : BitVec 32, off = s.dev.clk.raster.subOf (syncOffset s.dev) ∧
      f = edgeFrameAt (RP.plus s.dev.clk.raster s.dev.clk.rp off) (nearest 1 16 (s.dev.field 0x3020 4 0)) ∧ measures s.dev .sync = true ∧
      falling = (s.dev.field 0x3024 0 0 == 1) ∧ s.dev.tim.firstLock = false ∧ s.dev.tim.state = .acquire ∧ 8 ≤ s.dev.tim.meas + 1) ∧
    (∃ falling : Bool, ∃ s : State, ∃ off : Int, ∃ f : BitVec 32, off = s.dev.clk.raster.subOf (syncOffset s.dev) ∧
      f = edgeFrameAt (RP.plus s.dev.clk.raster s.dev.clk.rp off) (nearest 1 16 (s.dev.field 0x3020 4 0)) ∧ measures s.dev .sync = true ∧
      falling = (s.dev.field 0x3024 0 0 == 1) ∧ s.dev.tim.firstLock = true ∧ s.dev.tim.edgeFrame = some f) ∧
    (∃ falling : Bool, ∃ s : State, ∃ off : Int, ∃ f : BitVec 32, off = s.dev.clk.raster.subOf (syncOffset s.dev) ∧
      f = edgeFrameAt (RP.plus s.dev.clk.raster s.dev.clk.rp off) (nearest 1 16 (s.dev.field 0x3020 4 0)) ∧ measures s.dev .sync = true ∧
      falling = (s.dev.field 0x3024 0 0 == 1) ∧ s.dev.tim.firstLock = true ∧ s.dev.tim.edgeFrame ≠ some f ∧ s.dev.tim.state ≠ .free ∧
      s.dev.tim.state ≠ .acquire) :=
  ⟨⟨ptp0, at_ node5, _, rfl, by decide⟩,
   ⟨ptp0, at_ { head0 with tim.state := .free }, _, rfl, by decide⟩,
   ⟨ptp0, at_ { head0 with tim.state := .acquire, tim.meas := 7 }, _, rfl, by decide⟩,
   ⟨ptp0, at_ { head0 with tim.state := .acquire, tim.meas := 6 }, _, rfl, by decide⟩,
   ⟨ptp0, at_ head0, _, rfl, by decide⟩,
   ⟨false, at_ head0, _, _, rfl, rfl, by decide⟩,
   ⟨_, at_ { head0 with tim.firstLock := false, tim.state := .free, tim.source := .sync }, _, _, rfl, rfl, by decide, rfl, by decide⟩,
   ⟨_, at_ { head0 with tim.firstLock := false, tim.state := .acquire, tim.source := .sync }, _, _, rfl, rfl, by decide, rfl, by decide⟩,
   ⟨_, at_ { head0 with tim.firstLock := false, tim.state := .acquire, tim.source := .sync, tim.meas := 7 }, _, _, rfl, rfl, by decide, rfl, by decide⟩,
   ⟨_, at_ { head0 with tim.firstLock := true, tim.edgeFrame := some 101, tim.source := .sync }, _, _, rfl, rfl, by decide, rfl, by decide, rfl⟩,
   ⟨_, at_ { head0 with tim.firstLock := true, tim.source := .sync, tim.edgeFrame := none }, _, _, rfl, rfl, by decide, rfl, by decide⟩⟩

theorem test_meets_ReferencesLostAndFound :
    (∃ pair : Fin 4, ∃ dir : Fin 2, ∃ s : State, ∃ x : DirTime, ∃ y : DirTime, x = dirOf s.dev pair.val dir.val ∧
      y = dirOf s.dev pair.val (1 - dir.val) ∧ s.dev.isHead = false ∧ s.dev.tim.dirs.length = 8 ∧ x.lost = false ∧
      (x.seen = true ∨ y.seen = true ∨ y.lost = true)) ∧
    (∃ pair : Fin 4, ∃ dir : Fin 2, ∃ s : State, ∃ x : DirTime, ∃ y : DirTime, x = dirOf s.dev pair.val dir.val ∧
      y = dirOf s.dev pair.val (1 - dir.val) ∧ (s.dev.isHead = true ∨ x.lost = true)) ∧
    (∃ s : State, s.dev.isHead = false ∧ (s.dev.tim.state = .track ∨ s.dev.tim.state = .locked ∨ s.dev.tim.state = .refused)) ∧
    (∃ s : State, s.dev.isHead = false ∧ s.dev.tim.state = .acquire) ∧
    (∃ s : State, ∃ best : Master, measures s.dev .ptp = true ∧ (∃ m ∈ s.dev.tim.masters, m.port = s.dev.tim.ptpPort) ∧
      bestMaster (s.dev.tim.masters.filter (fun m => m.port != s.dev.tim.ptpPort)) = some best) ∧
    (∃ s : State, measures s.dev .ptp = true ∧ (∀ m ∈ s.dev.tim.masters, m.port = s.dev.tim.ptpPort) ∧ s.dev.tim.state = .locked) ∧
    (∃ s : State, measures s.dev .ptp = true ∧ (∀ m ∈ s.dev.tim.masters, m.port = s.dev.tim.ptpPort) ∧ s.dev.tim.state = .acquire) ∧
    (∃ s : State, measures s.dev .sync = true ∧ s.dev.tim.edgesMissed ≠ 2) ∧
    (∃ s : State, measures s.dev .sync = true ∧ s.dev.tim.edgesMissed = 2 ∧ s.dev.tim.state = .locked) ∧
    (∃ s : State, s.dev.isHead = true ∧ s.dev.tim.ltc.isSome = true) ∧
    (∃ s : State, s.dev.isHead = true ∧ s.dev.tim.wclkLost = false) ∧
    (∃ rx : IngRx, ∃ a : Announce, ∃ s : State, ∃ d : Device, (ingestIn rx s.dev).1 = true ∧ d = (ingestIn rx s.dev).2 ∧ measures d .ptp = true ∧
      hasBit (d.field 0x301C 1 0) rx.port.val = true ∧ d.pwr.state ≠ .standby ∧ a.domain ≠ ptpDomain d) ∧
    (∃ rx : IngRx, ∃ a : Announce, ∃ s : State, ∃ d : Device, ∃ ms : List Master, ∃ best : Master, (ingestIn rx s.dev).1 = true ∧
      d = (ingestIn rx s.dev).2 ∧ measures d .ptp = true ∧ hasBit (d.field 0x301C 1 0) rx.port.val = true ∧ d.pwr.state ≠ .standby ∧
      a.domain = ptpDomain d ∧
      ms = d.tim.masters.filter (fun m => !(m.port == rx.port.val && m.ann.sender == a.sender)) ++ [{ port := rx.port.val, ann := a }] ∧
      bestMaster ms = some best) ∧
    (∃ a : Announce, ∃ ms : List Master, (∀ m ∈ ms, m.ann = a ∧ m.port = 1) ∧ ms ≠ []) ∧
    (∃ s : State, s.dev.isHead = true ∧ s.dev.field 0x302C 0 0 = 1) ∧
    (∃ s : State, s.dev.isHead = true) :=
  ⟨⟨3, 1, at_ { node5 with tim.dirs := List.replicate 7 {} ++ [{ seen := true }] }, _, _, rfl, rfl, by decide⟩,
   ⟨0, 0, at_ head0, _, _, rfl, rfl, by decide⟩,
   ⟨at_ node5, by decide⟩,
   ⟨at_ { node5 with tim.state := .acquire }, by decide⟩,
   ⟨at_ { head0 with tim.masters := [{ port := 0, ann := ann0 }, { port := 1, ann := ann0 }], tim.ptpPort := 0 }, { port := 1, ann := ann0 },
     by decide⟩,
   ⟨at_ { head0 with tim.state := .locked }, by decide⟩,
   ⟨at_ { head0 with tim.state := .acquire }, by decide⟩,
   ⟨at_ { head0 with tim.source := .sync, tim.edgesMissed := 1 }, by decide⟩,
   ⟨at_ { head0 with tim.edgesMissed := 2, tim.state := .locked, tim.source := .sync }, by decide⟩,
   ⟨at_ { head0 with tim.ltc := some { label := 0, count := 0, rateNum := 30, rateDen := 1, start := rp0, steady := true } }, by decide⟩,
   ⟨at_ { head0 with tim.wclkLost := false }, by decide⟩,
   ⟨rx0, { ann0 with domain := 0 }, at_ head0, _, by decide, rfl, by decide⟩,
   ⟨rx0, ann0, at_ head0, _, _, _, by decide, rfl, by decide, by decide, by decide, rfl, rfl, rfl⟩,
   ⟨ann0, [{ port := 1, ann := ann0 }], by decide⟩,
   ⟨at_ head0, by decide⟩,
   ⟨at_ head0, by decide⟩⟩

theorem test_meets_TimeOpcodes :
    (∃ op, (op = 1 ∨ op = 2 ∨ op = 3)) ∧
    (∃ s : State, s.dev.tim.state ≠ .refused) ∧
    (∃ c : Cmd, ∃ s : State, s.dev.tim.state = .refused ∧ 0 < opN c 0 4 ∧ opN c 0 4 * 65536 < s.dev.tim.off16.natAbs) ∧
    (∃ c : Cmd, ∃ s : State, s.dev.tim.state = .refused ∧ (opN c 0 4 = 0 ∨ s.dev.tim.off16.natAbs ≤ opN c 0 4 * 65536) ∧
      (stepNeedsPartner s.dev = false ∨ stepConfirmed s.dev (dueRp c) = true) ∧ 0 ≤ s.dev.tim.off16) ∧
    (∃ c : Cmd, ∃ s : State, s.dev.tim.state = .refused ∧ (opN c 0 4 = 0 ∨ s.dev.tim.off16.natAbs ≤ opN c 0 4 * 65536) ∧
      (stepNeedsPartner s.dev = false ∨ stepConfirmed s.dev (dueRp c) = true) ∧ s.dev.tim.off16 < 0) ∧
    (∃ c : Cmd, ∃ s : State, s.dev.tim.state = .refused ∧ (opN c 0 4 = 0 ∨ s.dev.tim.off16.natAbs ≤ opN c 0 4 * 65536) ∧
      stepNeedsPartner s.dev = true ∧ stepConfirmed s.dev (dueRp c) = false) ∧
    (∃ s : State, ∃ n, s.dev.clk.hold = some n) ∧
    (∃ s : State, s.dev.clk.hold = none) ∧
    (∃ c : Cmd, 100 ≤ opN c 0 4 ∧ opN c 0 4 ≤ 1000000) ∧
    (∃ c : Cmd, (opN c 0 4 < 100 ∨ 1000000 < opN c 0 4)) :=
  ⟨⟨3, by decide⟩,
   ⟨at_ node5, by decide⟩,
   ⟨cmdOf [1] .none, at_ { node5 with tim.state := .refused, tim.off16 := 131072 }, by decide⟩,
   ⟨cmdOf [1] .none, at_ { node5 with tim.state := .refused, tim.off16 := 65536 }, by decide⟩,
   ⟨cmdOf [1] .none, at_ { node5 with tim.state := .refused, tim.off16 := -65536 }, by decide⟩,
   ⟨cmdOf [] .none, at_ { head0 with tim.state := .refused, topo.map := some map2 }, by decide⟩,
   ⟨at_ { node5 with clk.hold := some 1000 }, 1000, by decide⟩,
   ⟨at_ { node5 with clk.hold := none }, by decide⟩,
   ⟨cmdOf [64, 66, 15] .none, by decide⟩,
   ⟨cmdOf [99] .none, by decide⟩⟩

theorem test_meets_SchedulerOpcodes :
    (∃ c : Cmd, ∃ s : State, ∃ tag : BitVec 32, ∃ hit : Entry → Bool, ∃ es : List Entry, ∃ keys : List HeldKey, ∃ powers : List Cmd,
      tag = BitVec.ofNat 32 (opN c 0 4) ∧ s.dev.topo.load = none ∧
      hit = (fun x => (x.cmd.tag == tag && x.cmd.position != c.position) && !(x.judged && inCycle s.dev (entryCommit s.dev x))) ∧
      es = s.dev.sched.entries.filter hit ∧ keys = s.dev.sec.heldKeys.filter (heldIs s.dev (cancellable tag c.position)) ∧
      powers = s.dev.pwr.queued.filter (powerIs s.dev (cancellable tag c.position)) ∧ es = [] ∧ keys = [] ∧ powers = []) ∧
    (∃ c : Cmd, ∃ s : State, ∃ tag : BitVec 32, ∃ hit : Entry → Bool, ∃ es : List Entry, ∃ keys : List HeldKey, ∃ powers : List Cmd,
      tag = BitVec.ofNat 32 (opN c 0 4) ∧ s.dev.topo.load = none ∧
      hit = (fun x => (x.cmd.tag == tag && x.cmd.position != c.position) && !(x.judged && inCycle s.dev (entryCommit s.dev x))) ∧
      es = s.dev.sched.entries.filter hit ∧ keys = s.dev.sec.heldKeys.filter (heldIs s.dev (cancellable tag c.position)) ∧
      powers = s.dev.pwr.queued.filter (powerIs s.dev (cancellable tag c.position)) ∧ (es ≠ [] ∨ keys ≠ [] ∨ powers ≠ [])) ∧
    (∃ c : Cmd, ∃ s : State, ∃ l : MapLoad, s.dev.topo.load = some l ∧ l.cmd.tag = BitVec.ofNat 32 (opN c 0 4) ∧ l.cmd.position ≠ c.position ∧
      l.sent = false) ∧
    (∃ c : Cmd, ∃ s : State, opB c 0 ≤ 3 ∧ 1 ≤ opB c 2 ∧ opB c 2 ≤ 16 ∧ opB c 3 < opB c 2 ∧ opN c 4 4 < s.dev.clk.raster.frameSub ∧
      opN c 8 4 < s.dev.clk.raster.frameSub) ∧
    (∃ c : Cmd, ∃ s : State,
      (3 < opB c 0 ∨ opB c 2 < 1 ∨ 16 < opB c 2 ∨ opB c 2 ≤ opB c 3 ∨ s.dev.clk.raster.frameSub ≤ opN c 4 4 ∨ s.dev.clk.raster.frameSub ≤ opN c 8 4)) :=
  ⟨⟨cmdOf [] .none, at_ { node5 with topo.load := none }, _, _, _, _, _, rfl, rfl, rfl, rfl, rfl, rfl, by decide⟩,
   ⟨cmdOf [7] .none, at_ { node5 with topo.load := none, sched.entries := [{ entry0 1 (RP.start 200) with cmd.position := 4 }] }, _, _, _, _, _, rfl,
     rfl, rfl, rfl, rfl, rfl, by decide⟩,
   ⟨{ cmdOf [7] .none with position := 4 }, at_ { node5 with topo.load := some { cmd := cmd0, adm := 1, judged := true } },
     { cmd := cmd0, adm := 1, judged := true }, by decide⟩,
   ⟨cmdOf [3, 0, 16, 15] .none, at_ node5, by decide⟩,
   ⟨cmdOf [0, 0, 17] .none, at_ node5, by decide⟩⟩

theorem test_meets_Admission :
    (∃ b : List Byte, ∃ host : HostRead, ∃ s : State, ∃ op : Nat, ∃ c : Cmd, op = le b 0 1 ∧ c = descriptor b (s.dev.hif.seqWord.getD 0) host ∧
      fetches s.dev = true ∧ c.position = s.dev.hif.f ∧ (opListed op = false ∨ roleServes (fetched s.dev) op c = false)) ∧
    (∃ b : List Byte, ∃ host : HostRead, ∃ s : State, ∃ op : Nat, ∃ c : Cmd, op = le b 0 1 ∧ c = descriptor b (s.dev.hif.seqWord.getD 0) host ∧
      fetches s.dev = true ∧ c.position = s.dev.hif.f ∧ opListed op = true ∧ roleServes (fetched s.dev) op c = true ∧ addressBad op c = true) ∧
    (∃ b : List Byte, ∃ host : HostRead, ∃ s : State, ∃ op : Nat, ∃ c : Cmd, op = le b 0 1 ∧ c = descriptor b (s.dev.hif.seqWord.getD 0) host ∧
      fetches s.dev = true ∧ c.position = s.dev.hif.f ∧ opListed op = true ∧ roleServes (fetched s.dev) op c = true ∧ addressBad op c = false ∧
      host = .busError ∧ op ∉ [0x1F, 0x33]) ∧
    (∃ b : List Byte, ∃ host : HostRead, ∃ s : State, ∃ op : Nat, ∃ c : Cmd, op = le b 0 1 ∧ c = descriptor b (s.dev.hif.seqWord.getD 0) host ∧
      fetches s.dev = true ∧ c.position = s.dev.hif.f ∧ opListed op = true ∧ roleServes (fetched s.dev) op c = true ∧ addressBad op c = false ∧
      host ≠ .busError ∧ ((op ∈ [0x70, 0x71, 0x72] ∧ s.dev.pwr.state ≠ .run) ∨ (op = 0x88 ∧ s.dev.pwr.state = .startUp))) ∧
    (∃ b : List Byte, ∃ host : HostRead, ∃ s : State, ∃ op : Nat, ∃ c : Cmd, op = le b 0 1 ∧ c = descriptor b (s.dev.hif.seqWord.getD 0) host ∧
      fetches s.dev = true ∧ c.position = s.dev.hif.f ∧ opListed op = true ∧ roleServes (fetched s.dev) op c = true ∧ addressBad op c = false ∧
      host ≠ .busError ∧ op ∉ [0x1F, 0x33, 0x70, 0x71, 0x72, 0x81, 0x82, 0x88] ∧ s.dev.tim.firstLock = false) ∧
    (∃ b : List Byte, ∃ host : HostRead, ∃ s : State, ∃ op : Nat, ∃ c : Cmd, op = le b 0 1 ∧ c = descriptor b (s.dev.hif.seqWord.getD 0) host ∧
      fetches s.dev = true ∧ c.position = s.dev.hif.f ∧ opListed op = true ∧ roleServes (fetched s.dev) op c = true ∧ addressBad op c = false ∧
      host ≠ .busError ∧ op ∉ [0x1F, 0x33, 0x70, 0x71, 0x72, 0x81, 0x82, 0x88] ∧ s.dev.tim.firstLock = true ∧ isNow c = true) ∧
    (∃ b : List Byte, ∃ host : HostRead, ∃ s : State, ∃ op : Nat, ∃ c : Cmd, op = le b 0 1 ∧ c = descriptor b (s.dev.hif.seqWord.getD 0) host ∧
      fetches s.dev = true ∧ c.position = s.dev.hif.f ∧ opListed op = true ∧ roleServes (fetched s.dev) op c = true ∧ addressBad op c = false ∧
      host ≠ .busError ∧ op ∉ [0x1F, 0x33, 0x70, 0x71, 0x72, 0x81, 0x82, 0x88] ∧ s.dev.tim.firstLock = true ∧ isNow c = false ∧
      dueGood s.dev.clk.raster c = false) ∧
    (∃ b : List Byte, ∃ host : HostRead, ∃ s : State, ∃ op : Nat, ∃ c : Cmd, op = le b 0 1 ∧ c = descriptor b (s.dev.hif.seqWord.getD 0) host ∧
      fetches s.dev = true ∧ c.position = s.dev.hif.f ∧ opListed op = true ∧ roleServes (fetched s.dev) op c = true ∧ addressBad op c = false ∧
      host ≠ .busError ∧ op ∉ [0x1F, 0x33, 0x70, 0x71, 0x72, 0x81, 0x82, 0x88] ∧ s.dev.tim.firstLock = true ∧ isNow c = false ∧
      dueGood s.dev.clk.raster c = true ∧ commitPassed s.dev (classOf op) (dueRp c) = true ∧ discardLate c = true) ∧
    (∃ b : List Byte, ∃ host : HostRead, ∃ s : State, ∃ op : Nat, ∃ c : Cmd, op = le b 0 1 ∧ c = descriptor b (s.dev.hif.seqWord.getD 0) host ∧
      fetches s.dev = true ∧ c.position = s.dev.hif.f ∧ opListed op = true ∧ roleServes (fetched s.dev) op c = true ∧ addressBad op c = false ∧
      host ≠ .busError ∧ op ∉ [0x1F, 0x33, 0x70, 0x71, 0x72, 0x81, 0x82, 0x88] ∧ s.dev.tim.firstLock = true ∧ isNow c = false ∧
      dueGood s.dev.clk.raster c = true ∧ commitPassed s.dev (classOf op) (dueRp c) = true ∧ discardLate c = false) ∧
    (∃ b : List Byte, ∃ host : HostRead, ∃ s : State, ∃ op : Nat, ∃ c : Cmd, op = le b 0 1 ∧ c = descriptor b (s.dev.hif.seqWord.getD 0) host ∧
      fetches s.dev = true ∧ c.position = s.dev.hif.f ∧ opListed op = true ∧ roleServes (fetched s.dev) op c = true ∧ addressBad op c = false ∧
      host ≠ .busError ∧ op ∉ [0x1F, 0x33, 0x70, 0x71, 0x72, 0x81, 0x82, 0x88] ∧ s.dev.tim.firstLock = true ∧ isNow c = false ∧
      dueGood s.dev.clk.raster c = true ∧ commitPassed s.dev (classOf op) (dueRp c) = false ∧
      tooEarly s.dev (alignedPoint (classOf op) (dueRp c)) = true) ∧
    (∃ b : List Byte, ∃ host : HostRead, ∃ s : State, ∃ op : Nat, ∃ c : Cmd, op = le b 0 1 ∧ c = descriptor b (s.dev.hif.seqWord.getD 0) host ∧
      fetches s.dev = true ∧ c.position = s.dev.hif.f ∧ opListed op = true ∧ roleServes (fetched s.dev) op c = true ∧ addressBad op c = false ∧
      host ≠ .busError ∧ op ∉ [0x1F, 0x33, 0x70, 0x71, 0x72, 0x81, 0x82, 0x88] ∧ s.dev.tim.firstLock = true ∧ isNow c = false ∧
      dueGood s.dev.clk.raster c = true ∧ commitPassed s.dev (classOf op) (dueRp c) = false ∧
      tooEarly s.dev (alignedPoint (classOf op) (dueRp c)) = false) :=
  ⟨⟨desc 255 0 0 0 0, .none, at_ node5, 255, descCmd 255 0 0 0 0, by decide⟩,
   ⟨[0x80, 1, 0, 0, 7, 0, 0, 0] ++ zeros 8 ++ (1 :: zeros 43) ++ zeros 4, .none, at_ node5, 0x80, descriptor ([0x80, 1, 0, 0, 7, 0, 0,
     0] ++ zeros 8 ++ (1 :: zeros 43) ++ zeros 4) 0 .none, by decide⟩,
   ⟨desc 0 0 0 0 0, .busError, at_ node5, 0, descriptor (desc 0 0 0 0 0) 0 .busError, by decide⟩,
   ⟨desc 0x70 1 0 0 0, .none, at_ { node5 with pwr.state := .quiet }, 0x70, descCmd 0x70 1 0 0 0, by decide⟩,
   ⟨desc 0 0 0 0 0, .none, at_ { node5 with tim.firstLock := false }, 0, descCmd 0 0 0 0 0, by decide⟩,
   ⟨desc 0 1 0 0 0, .none, at_ { node5 with tim.firstLock := true }, 0, descCmd 0 1 0 0 0, by decide⟩,
   ⟨desc 0 0 0 0x04650000 0, .none, at_ { node5 with tim.firstLock := true }, 0, descCmd 0 0 0 0x04650000 0, by decide⟩,
   ⟨desc 1 2 100 0 0, .none, at_ { node5 with tim.firstLock := true }, 1, descCmd 1 2 100 0 0, by decide⟩,
   ⟨desc 1 0 100 0 0, .none, at_ { node5 with tim.firstLock := true }, 1, descCmd 1 0 100 0 0, by decide⟩,
   ⟨desc 0 0 0x01000064 0x000A0006 0, .none, at_ { node5 with tim.firstLock := true }, 0, descCmd 0 0 0x01000064 0x000A0006 0, by decide⟩,
   ⟨desc 0 0 0x01000064 0x000A0005 0, .none, at_ { node5 with tim.firstLock := true }, 0, descCmd 0 0 0x01000064 0x000A0005 0, by decide⟩⟩

theorem test_meets_StaleDescriptors :
    (∃ b : List Byte, ∃ host : HostRead, ∃ s : State, ∃ c : Cmd, c = descriptor b (s.dev.hif.seqWord.getD 0) host ∧ fetches s.dev = true ∧
      c.position ≠ s.dev.hif.f ∧ s.dev.hif.stale ≠ some s.dev.hif.f ∧ s.dev.isHead = true) ∧
    (∃ b : List Byte, ∃ host : HostRead, ∃ s : State, ∃ c : Cmd, c = descriptor b (s.dev.hif.seqWord.getD 0) host ∧ fetches s.dev = true ∧
      c.position ≠ s.dev.hif.f ∧ s.dev.hif.stale ≠ some s.dev.hif.f ∧ s.dev.isHead = false) ∧
    (∃ b : List Byte, ∃ host : HostRead, ∃ s : State, ∃ c : Cmd, c = descriptor b (s.dev.hif.seqWord.getD 0) host ∧ fetches s.dev = true ∧
      c.position ≠ s.dev.hif.f ∧ s.dev.hif.stale = some s.dev.hif.f) :=
  ⟨⟨desc 0 0 0 0 1, .none, at_ { head0 with hif.p := 1 }, descCmd 0 0 0 0 1, by decide⟩,
   ⟨desc 0 0 0 0 1, .none, at_ node5, descCmd 0 0 0 0 1, by decide⟩,
   ⟨desc 0 0 0 0 1, .none, at_ { node5 with hif.stale := some 0 }, descCmd 0 0 0 0 1, by decide⟩⟩

theorem test_meets_AlignedPointRunsFirst :
    (∃ s : State, ∃ x : Entry, nextEntry s.dev = some x ∧ s.dev.clk.hold = none ∧ x.op = 0 ∧ mapFirst s.dev x = false) ∧
    (∃ s : State, ∃ x : Entry, nextEntry s.dev = some x ∧ s.dev.clk.hold = none ∧ x.op = 1 ∧ mapFirst s.dev x = false ∧
      stepHolds x.cmd { s.dev with clk := s.dev.clk.reach x.point } = true) ∧
    (∃ s : State, (nextEntry s.dev = none ∨ s.dev.clk.hold.isSome = true)) :=
  ⟨⟨at_ { node5 with clk.hold := none, sched.entries := [entry0 0 rp0] }, { entry0 0 rp0 with op := 0 }, by decide⟩,
   ⟨at_ { head0 with clk.hold := none, topo.map := some map2, tim.state := .refused, sched.entries := [entry0 1 rp0] }, entry0 1 rp0, by decide⟩,
   ⟨at_ node5, by decide⟩⟩

theorem test_meets_FrameInstants :
    (∃ s : State, counting s.dev = true ∧ nextEntry s.dev = none ∧ s.dev.pwr.queued = [] ∧ s.dev.pwr.runNext = none ∧ s.dev.pwr.wdQueued = false) ∧
    (∃ s : State, ∃ f, ∃ k, ∃ p, counting s.dev = true ∧ nextEntry s.dev = none ∧ s.dev.isNode = true ∧ nextSub s.dev = some (f, k, p)) ∧
    (∃ s : State, counting s.dev = false) ∧
    (∃ s : State, ∃ g, s.dev.pxl.graph = some g ∧
      s.dev.clk.rp.passed { frame := g.frame - 1, line := s.dev.clk.raster.lines - 1, sub := 0 } = false ∧ g.computed = false ∧
      (∀ a ∈ s.dev.red.arbs, a.frame ≠ g.frame)) ∧
    (∃ s : State, ∃ g, s.dev.pxl.graph = some g ∧
      s.dev.clk.rp.passed { frame := g.frame - 1, line := s.dev.clk.raster.lines - 1, sub := 0 } = false ∧ g.computed = false ∧
      g.released ≤ heldAt s.dev g ∧ heldAt s.dev g < segCount g.record) ∧
    (∃ s : State, ∃ g, s.dev.pxl.graph = some g ∧
      s.dev.clk.rp.passed { frame := g.frame - 1, line := s.dev.clk.raster.lines - 1, sub := 0 } = false ∧ g.computed = true) ∧
    (∃ s : State, s.dev.pxl.graph = none) :=
  ⟨⟨at_ { node5 with pwr.queued := [], pwr.runNext := none, pwr.wdQueued := false }, by decide⟩,
   ⟨at_ node5, _, _, _, by decide, by decide, by decide, rfl⟩,
   ⟨at_ { node5 with pwr.inReset := true }, by decide⟩,
   ⟨at_ { node5 with pxl.graph := some { frame := 101, record := rec4, layers := [], corr := {}, voids := [] } },
     { frame := 101, record := rec4, layers := [], corr := {}, voids := [] }, by decide⟩,
   ⟨at_ { node5 with pxl.graph := some { frame := 101, record := rec4, layers := [], corr := {}, voids := [] }, red.arbs := [{ arb0 false false with frame := 101, item := { mis0 with op := 4 } }] },
     { frame := 101, record := rec4, layers := [], corr := {}, voids := [] }, by decide⟩,
   ⟨at_ { node5 with pxl.graph := some { frame := 101, record := rec4, layers := [], corr := {}, voids := [], computed := true } },
     { frame := 101, record := rec4, layers := [], corr := {}, voids := [], computed := true }, by decide⟩,
   ⟨at_ { node5 with pxl.graph := none }, by decide⟩⟩

theorem test_meets_ShuttersAndHolds :
    (∃ w : Fin 4, ∃ s : State, ∃ x : Shutter, s.dev.clk.hold = none ∧ s.dev.isNode = true ∧ nextEntry s.dev = none ∧
      s.dev.sched.shutters[w.val]? = some x ∧ x.enabled = true ∧ x.close = none) ∧
    (∃ w : Fin 4, ∃ s : State, ∃ x : Shutter, ∃ p, s.dev.clk.hold = none ∧ s.dev.isNode = true ∧ nextEntry s.dev = none ∧
      s.dev.sched.shutters[w.val]? = some x ∧ x.enabled = true ∧ x.close = some p ∧ x.later = [] ∧
      p.before (closePoint s.dev.clk.raster x (openPoint s.dev x).frame) = true) ∧
    (∃ w : Fin 4, ∃ s : State, ∃ x : Shutter, ∃ p, s.dev.clk.hold = none ∧ s.dev.isNode = true ∧ nextEntry s.dev = none ∧
      s.dev.sched.shutters[w.val]? = some x ∧ x.isOpen = true ∧ x.close = some p) ∧
    (∃ w : Fin 4, ∃ s : State, ∃ x : Shutter, s.dev.clk.hold = none ∧ s.dev.isNode = true ∧ nextEntry s.dev = none ∧
      s.dev.sched.shutters[w.val]? = some x ∧ x.enabled = false) :=
  ⟨⟨3, at_ { node5 with clk.hold := none, sched.shutters := [{}, {}, {}, { enabled := true }] }, { enabled := true }, by decide⟩,
   ⟨3, at_ { node5 with clk.hold := none, sched.shutters := [{}, {}, {}, { enabled := true, isOpen := true, close := some rp0 }] },
     { enabled := true, isOpen := true, close := some rp0 }, rp0, by decide⟩,
   ⟨3, at_ { node5 with clk.hold := none, sched.shutters := [{}, {}, {}, { enabled := true, isOpen := true, close := some rp0 }] },
     { enabled := true, isOpen := true, close := some rp0 }, rp0, by decide⟩,
   ⟨3, at_ { node5 with clk.hold := none, sched.shutters := [{}, {}, {}, {}] }, {}, by decide⟩⟩

theorem test_meets_PortsUpAndDown :
    (∃ s : State, ∃ r : PortRise, ∃ p : Fin 10, s.dev.link.length = 8 ∧ s.dev.ing.length = 2 ∧ p = r.port ∧ p.val < 8 ∧
      (s.dev.port p.val).enabled = true ∧ (s.dev.port p.val).up = false ∧ (s.dev.port p.val).mismatch = false ∧ sliceLost s.dev p.val = false) ∧
    (∃ s : State, ∃ r : PortRise, ∃ p : Fin 10, s.dev.link.length = 8 ∧ s.dev.ing.length = 2 ∧ p = r.port ∧ p.val < 8 ∧
      ((s.dev.port p.val).enabled = false ∨ (s.dev.port p.val).mismatch = true ∨ sliceLost s.dev p.val = true)) ∧
    (∃ s : State, ∃ r : PortRise, ∃ p : Fin 10, s.dev.link.length = 8 ∧ s.dev.ing.length = 2 ∧ p = r.port ∧ 8 ≤ p.val ∧
      ((s.dev.ingPort (p.val - 8)).enabled = false ∨ sliceLost s.dev p.val = true)) ∧
    (∃ s : State, ∃ r : PortRise, ∃ p : Fin 10, s.dev.link.length = 8 ∧ s.dev.ing.length = 2 ∧ p = r.port ∧ 8 ≤ p.val ∧
      (s.dev.ingPort (p.val - 8)).enabled = true ∧ (s.dev.ingPort (p.val - 8)).up = false ∧ (∀ k ∈ r.skews, k ≤ 180000) ∧
      sliceLost s.dev p.val = false) ∧
    (∃ s : State, ∃ r : PortRise, ∃ p : Fin 10, s.dev.link.length = 8 ∧ s.dev.ing.length = 2 ∧ p = r.port ∧ 8 ≤ p.val ∧
      (s.dev.ingPort (p.val - 8)).enabled = true ∧ (s.dev.ingPort (p.val - 8)).up = false ∧ (∃ k ∈ r.skews, 180000 < k)) ∧
    (∃ s : State, ∃ p : Fin 10, s.dev.link.length = 8 ∧ s.dev.ing.length = 2 ∧ p.val < 8 ∧ (s.dev.port p.val).up = true) ∧
    (∃ s : State, ∃ p : Fin 10, s.dev.link.length = 8 ∧ s.dev.ing.length = 2 ∧ 8 ≤ p.val ∧ (s.dev.ingPort (p.val - 8)).up = true ∧
      s.dev.isHead = true ∧ s.dev.tim.masters = [] ∧ s.dev.spare.deferred = []) ∧
    (∃ s : State, ∃ p : Fin 8, ∃ fec : Bool, s.dev.link.length = 8 ∧ s.dev.ing.length = 2 ∧ s.dev.isHead = false ∧
      (s.dev.port p.val).enabled = true ∧ (s.dev.port p.val).up = false ∧ (((s.dev.port (otherPort p.val)).up = false ∧
      (s.dev.port (otherPort p.val)).fecSeen = false) ∨ (s.dev.port (otherPort p.val)).fec = fec)) ∧
    (∃ s : State, ∃ p : Fin 8, ∃ fec : Bool, s.dev.link.length = 8 ∧ s.dev.ing.length = 2 ∧ s.dev.isHead = false ∧
      (s.dev.port p.val).enabled = true ∧ (s.dev.port p.val).up = false ∧ (s.dev.port (otherPort p.val)).up = true ∧
      (s.dev.port (otherPort p.val)).fec ≠ fec ∧ (s.dev.port p.val).mismatch = true) ∧
    (∃ s : State, ∃ p : Fin 8, ∃ fec : Bool, s.dev.link.length = 8 ∧ s.dev.ing.length = 2 ∧ s.dev.isHead = false ∧
      (s.dev.port p.val).enabled = true ∧ (s.dev.port p.val).up = false ∧ (s.dev.port (otherPort p.val)).up = true ∧
      (s.dev.port (otherPort p.val)).fec ≠ fec ∧ (s.dev.port p.val).mismatch = false ∧ s.dev.hif.repWins = []) :=
  ⟨⟨at_ { node5 with link := List.replicate 7 {} ++ [{ enabled := true }] }, { port := 7, skews := [] }, 7, by decide⟩,
   ⟨at_ { node5 with link := List.replicate 8 {} }, { port := 7, skews := [] }, 7, by decide⟩,
   ⟨at_ { node5 with ing := [{}, {}] }, { port := 9, skews := [] }, 9, by decide⟩,
   ⟨at_ { node5 with ing := [{}, { enabled := true }] }, { port := 9, skews := [180000] }, 9, by decide⟩,
   ⟨at_ { node5 with ing := [{}, { enabled := true }] }, { port := 9, skews := [180001] }, 9, by decide⟩,
   ⟨at_ node5, 7, by decide⟩,
   ⟨at_ { head0 with tim.masters := [], spare.deferred := [] }, 9, by decide⟩,
   ⟨at_ { node5 with link := List.replicate 7 {} ++ [{ enabled := true }] }, 7, false, by decide⟩,
   ⟨at_ { node5 with link := List.replicate 6 {} ++ [{ up := true, fec := true }, { enabled := true, mismatch := true }] }, 7, false, by decide⟩,
   ⟨at_ { node5 with hif.repWins := [], link := List.replicate 6 {} ++ [{ up := true, fec := true }, { enabled := true }] }, 7, false, by decide⟩⟩

theorem test_meets_PortIdleAndPause :
    (∃ s : State, ∃ p : Fin 8, ∃ bs : List Byte, ∃ q : QueueUse, ∃ f : RxFrame, ∃ d : Device, s.dev.link.length = 8 ∧ f = lldpFrame p bs q ∧
      (s.dev.port p.val).up = true ∧ wireCheck f = .good ∧ isLldp f = true ∧ f.bad = [] ∧
      queueWrite p.val (queueBytes f) f.read f.bad s.dev = { full := false, dev := d } ∧
      eeeTlv (queueBytes f).length ((queueBytes f).drop 14) = none) ∧
    (∃ s : State, ∃ p : Fin 8, ∃ bs : List Byte, ∃ q : QueueUse, ∃ f : RxFrame, ∃ d : Device, ∃ tx, ∃ rx, s.dev.link.length = 8 ∧
      f = lldpFrame p bs q ∧ (s.dev.port p.val).up = true ∧ wireCheck f = .good ∧ isLldp f = true ∧ f.bad = [] ∧
      queueWrite p.val (queueBytes f) f.read f.bad s.dev = { full := false, dev := d } ∧
      eeeTlv (queueBytes f).length ((queueBytes f).drop 14) = some (tx, rx)) ∧
    (∃ s : State, ∃ p : Fin 8, s.dev.link.length = 8 ∧ (s.dev.port p.val).up = true ∧ (∀ f ∈ (s.dev.port p.val).held, f.port = p.val)) ∧
    (∃ s : State, ∃ m : MacControl, ∃ p : Nat, ∃ d : Device, p = m.rx.port.val ∧ (s.dev.ingPort p).up = true ∧ m.rx.bytes.length + 4 = 64 ∧
      m.fcsOk = true ∧ p < s.dev.ing.length ∧ d = controlQueued m.rx (countIng p 4 s.dev) ∧ isPause s.dev m = true ∧ be m.rx.bytes 16 2 ≠ 0) ∧
    (∃ s : State, ∃ m : MacControl, ∃ p : Nat, ∃ d : Device, p = m.rx.port.val ∧ (s.dev.ingPort p).up = true ∧ m.rx.bytes.length + 4 = 64 ∧
      m.fcsOk = true ∧ p < s.dev.ing.length ∧ d = controlQueued m.rx (countIng p 4 s.dev) ∧ macsecOn s.dev p = false ∧ isPause s.dev m = true ∧
      be m.rx.bytes 16 2 = 0) ∧
    (∃ s : State, ∃ m : MacControl, ∃ p : Nat, ∃ d : Device, ∃ f : TxFrame, ∃ sa : Sa, p = m.rx.port.val ∧ (s.dev.ingPort p).up = true ∧
      m.rx.bytes.length + 4 = 64 ∧ m.fcsOk = true ∧ p < s.dev.ing.length ∧ d = controlQueued m.rx (countIng p 4 s.dev) ∧ macsecOn s.dev p = true ∧
      (s.dev.ingPort p).held = [f] ∧ (s.dev.ingPort p).txSa = some sa ∧ 1 ≤ sa.pn ∧ sa.pn < 0xC0000000) ∧
    (∃ s : State, ∃ m : MacControl, ∃ p : Nat, ∃ d : Device, p = m.rx.port.val ∧ (s.dev.ingPort p).up = true ∧ m.rx.bytes.length + 4 = 64 ∧
      m.fcsOk = true ∧ p < s.dev.ing.length ∧ d = controlQueued m.rx (countIng p 4 s.dev) ∧ isPause s.dev m = false) :=
  ⟨⟨at_ node5, 0, lldpBody ++ fcs lldpBody, { read := 0, bad := [] }, lldp0 (lldpBody ++ fcs lldpBody),
     (queueWrite 0 (queueBytes (lldp0 (lldpBody ++ fcs lldpBody))) 0 [] node5).dev, by decide, rfl, by decide, by decide +kernel, by decide, rfl,
     queue_room (by decide +kernel), by decide +kernel⟩,
   ⟨at_ node5, 0, lldpdu node5 0, { read := 0, bad := [] }, lldp0 (lldpdu node5 0),
     (queueWrite 0 (queueBytes (lldp0 (lldpdu node5 0))) 0 [] node5).dev, 20, 20, by decide, rfl, by decide, by decide +kernel, by decide +kernel,
     rfl, queue_room (by decide +kernel), by decide +kernel⟩,
   ⟨at_ node5, 7, by decide⟩,
   ⟨at_ node5, pause0 1 1, _, _, rfl, by decide, by decide, by decide, by decide, rfl, by decide⟩,
   ⟨at_ node5, pause0 1 0, _, _, rfl, by decide, by decide, by decide, by decide, rfl, by decide⟩,
   ⟨at_ { node5 with regs := [(0x281C, 1)], ing := [{ up := true, held := [{ port := 8, bytes := [] }], txSa := some { sak := zeros 32, sci := 1, pn := 1, an := 0 } }, {}] },
     pause0 1 0, _, _, { port := 8, bytes := [] }, { sak := zeros 32, sci := 1, pn := 1, an := 0 }, rfl, by decide, by decide, by decide,
     by decide, rfl, by decide⟩,
   ⟨at_ node5, pause0 0x101 0, _, _, rfl, by decide, by decide, by decide, by decide, rfl, by decide⟩⟩

theorem test_meets_MarkersAndPortCommands :
    (∃ m : Marker, m.count < 2 ^ 32 ∧ m.first.line < 2 ^ 13 ∧ m.first.sub < 2 ^ 16) ∧
    (∃ s : State, ∃ p : Fin 10, ∃ m, s.dev.link.length = 8 ∧ s.dev.ing.length = 2 ∧ (queueOf s.dev p.val).gap = some m ∧
      (queueOf s.dev p.val).used < 608) ∧
    (∃ s : State, ∃ p : Fin 10, s.dev.link.length = 8 ∧ s.dev.ing.length = 2 ∧
      ((queueOf s.dev p.val).gap = none ∨ 608 ≤ (queueOf s.dev p.val).used)) ∧
    (∃ s : State, ∃ p : Fin 10, ∃ w, ∃ r, s.dev.link.length = 8 ∧ s.dev.ing.length = 2 ∧
      (queueOf s.dev p.val).words.dropWhile (fun w => !w.mark) = w :: r) ∧
    (∃ s : State, ∃ code : BitVec 16, ∃ subject : Nat, ∃ w : RateWin, s.dev.link.length = 8 ∧ s.dev.ing.length = 2 ∧
      (code ≠ 0x1030 ∨ s.dev.isHead = true) ∧ s.dev.hif.wins.find? (fun x => x.code == code && x.subject == subject) = some w) ∧
    (∃ s : State, ∃ c : Cmd, opB c 0 < s.dev.link.length ∧ opB c 0 ≤ 7 ∧ opN c 2 2 % 256 = 0 ∧ 512 ≤ opN c 2 2 ∧ opN c 2 2 ≤ 9216) ∧
    (∃ c : Cmd, (7 < opB c 0 ∨ opN c 2 2 % 256 ≠ 0 ∨ opN c 2 2 < 512 ∨ 9216 < opN c 2 2)) ∧
    (∃ s : State, ∃ c : Cmd, ∃ b, s.dev.isHead = true ∧ misaligned c = false ∧ opB c 8 ≤ 1 ∧ c.host = .data b ∧ s.dev.ing.length = 2 ∧
      hasBit (opB c 9) 0 = false ∧ hasBit (opB c 9) 3 = false) ∧
    (∃ s : State, ∃ c : Cmd, ∃ b, s.dev.isHead = true ∧ misaligned c = false ∧ opB c 8 ≤ 1 ∧ c.host = .data b ∧ s.dev.ing.length = 2 ∧
      hasBit (opB c 9) 0 = true ∧ hasBit (opB c 9) 3 = true ∧ (s.dev.ingPort (opB c 8)).txWait = none) ∧
    (∃ s : State, ∃ c : Cmd, ∃ b, s.dev.isHead = true ∧ misaligned c = false ∧ opB c 8 ≤ 1 ∧ c.host = .data b ∧ s.dev.ing.length = 2 ∧
      hasBit (opB c 9) 0 = true ∧ hasBit (opB c 9) 3 = false) ∧
    (∃ s : State, ∃ c : Cmd, s.dev.isHead = true ∧ (misaligned c = true ∨ 1 < opB c 8 ∨ (hasBit (opB c 9) 3 = true ∧ hasBit (opB c 9) 0 = false))) ∧
    (∃ s : State, s.dev.isHead = false) :=
  ⟨⟨{ count := 0xFFFFFFFF, first := { frame := 0xFFFFFFFF, line := 8191, sub := 65535 } }, by decide⟩,
   ⟨at_ { node5 with ing := [{}, { queue := { gap := some { count := 1, first := rp0 } } }] }, 9, { count := 1, first := rp0 }, by decide⟩,
   ⟨at_ node5, 0, by decide⟩,
   ⟨at_ { node5 with ing := [{}, { queue := { chain := [markerWord 9 { count := 1, first := rp0 }] } }] }, 9, _, _, by decide, by decide, rfl⟩,
   ⟨at_ { head0 with hif.wins := [{ code := 0x1030, subject := 0, detail := [], tail := [], count := 1 }] }, 0x1030, 0,
     { code := 0x1030, subject := 0, detail := [], tail := [], count := 1 }, by decide⟩,
   ⟨at_ node5, cmdOf [7, 0, 0, 36] .none, by decide⟩,
   ⟨cmdOf [0, 0, 255, 1] .none, by decide⟩,
   ⟨at_ head0, cmdOf [] (.data []), [], by decide⟩,
   ⟨at_ head0, cmdOf [0, 0, 0, 0, 0, 0, 0, 0, 0, 9] (.data []), [], by decide⟩,
   ⟨at_ head0, cmdOf [0, 0, 0, 0, 0, 0, 0, 0, 0, 1] (.data []), [], by decide⟩,
   ⟨at_ head0, cmdOf [0, 0, 0, 0, 0, 0, 0, 0, 0, 8] .none, by decide⟩,
   ⟨at_ node5, by decide⟩⟩

theorem test_meets_FramesThatBreak :
    (∃ p : Fin 8, ∃ s : State, s.dev.link.length = 8 ∧ s.dev.isHead = true ∧ (s.dev.port p.val).up = true ∧ (s.dev.port p.val).lpiTx = false ∧
      (s.dev.port p.val).thresh < 9216) ∧
    (∃ p : Fin 8, ∃ s : State, s.dev.link.length = 8 ∧ (s.dev.port p.val).up = true ∧ (s.dev.port p.val).lpiTx = false ∧
      9216 ≤ (s.dev.port p.val).thresh) ∧
    (∃ f : RxFrame, ∃ s : State, f.port.val < s.dev.link.length ∧ (s.dev.port f.port.val).up = true ∧ silnalEnvelope f = false) ∧
    (∃ f : RxFrame, ∃ s : State, (s.dev.port f.port.val).up = true ∧ wireCheck f = .good ∧ silnalEnvelope f = false ∧ isLldp f = false ∧
      isMacControl f = false ∧ (queueWrite f.port.val (queueBytes f) f.read f.bad s.dev).full = false ∧ f.bad = []) ∧
    (∃ f : RxFrame, ∃ s : State, (s.dev.port f.port.val).up = true ∧ wireCheck f = .good ∧ silnalEnvelope f = true ∧ classKnown (rxHdr f) = false ∧
      (rxHdr f).hop ≠ 255) ∧
    (∃ pair : Fin 4, ∃ dir : Fin 2, ∃ p : Nat, ∃ s : State, s.dev.isHead = false ∧ outPort s.dev pair.val dir.val = some p ∧
      s.dev.link.length = 8 ∧ (s.dev.port p).reported = false ∧ (∃ w ∈ (s.dev.port p).backlog, 16 ≤ w.waits) ∧ s.dev.hif.repWins = []) ∧
    (∃ pair : Fin 4, ∃ dir : Fin 2, ∃ p : Nat, ∃ s : State, s.dev.isHead = false ∧ outPort s.dev pair.val dir.val = some p ∧
      (∀ w ∈ (s.dev.port p).backlog, w.waits < 16)) :=
  ⟨⟨0, at_ head0, by decide⟩,
   ⟨7, at_ { node5 with link := List.replicate 7 {} ++ [{ up := true, thresh := 9216 }] }, by decide⟩,
   ⟨plain0, at_ node5, by decide, by decide, by decide⟩,
   ⟨plain0, at_ node5, by decide +kernel, wireCheck_good plain0 (zeros 60) rfl (by decide) (by decide), by decide +kernel, by decide +kernel,
     by decide +kernel⟩,
   ⟨fr 0 (toNode 9 100) (zeros 14), at_ node5, by decide +kernel, frameOf_good rfl (by decide) (by decide), rfl, by decide +kernel, by decide +kernel⟩,
   ⟨3, 0, 6,
     at_ { node5 with hif.repWins := [], link := List.replicate 6 {} ++ [{ dir := some 1, backlog := [{ frame := { port := 6, bytes := [] }, twin := false, waits := 16 }] }, {}] },
     by decide⟩,
   ⟨3, 0, 6,
     at_ { node5 with link := List.replicate 6 {} ++ [{ dir := some 1, backlog := [{ frame := { port := 6, bytes := [] }, twin := false, waits := 15 }] }, {}] },
     by decide⟩⟩

theorem test_meets_RemoteReadsServed :
    (∃ f : RxFrame, ∃ s : State, ∃ h : Hdr, ∃ b : List Byte, ∃ d : Device, ∃ q : HeldReq, Accepted f s 8 h b d ∧ be b 0 1 = 0 ∧
      s.dev.isHead = true ∧ d.hif.held = [] ∧
      q = { id := d.hif.readId, node := BitVec.ofNat 12 h.src, seq := BitVec.ofNat 32 h.seq, addr := be b 8 8, length := be b 2 2, pair := pairOf f.port.val, dir := h.dir, waits := false } ∧
      reqUse d q = .hold) ∧
    (∃ f : RxFrame, ∃ s : State, ∃ h : Hdr, ∃ b : List Byte, ∃ d : Device, ∃ q : HeldReq, ∃ n, Accepted f s 8 h b d ∧ be b 0 1 = 0 ∧
      s.dev.isHead = true ∧ d.hif.held = [] ∧
      q = { id := d.hif.readId, node := BitVec.ofNat 12 h.src, seq := BitVec.ofNat 32 h.seq, addr := be b 8 8, length := be b 2 2, pair := pairOf f.port.val, dir := h.dir, waits := false } ∧
      reqUse d q = .read n) ∧
    (∃ f : RxFrame, ∃ s : State, ∃ h : Hdr, ∃ b : List Byte, ∃ d : Device, ∃ q : HeldReq, Accepted f s 8 h b d ∧ be b 0 1 = 0 ∧
      s.dev.isHead = true ∧ d.hif.held = [] ∧
      q = { id := d.hif.readId, node := BitVec.ofNat 12 h.src, seq := BitVec.ofNat 32 h.seq, addr := be b 8 8, length := be b 2 2, pair := pairOf f.port.val, dir := h.dir, waits := false } ∧
      reqUse d q = .outside) ∧
    (∃ s : State, ∃ q : HeldReq, s.dev.hif.held = [q] ∧ q.waits = true) ∧
    (∃ s : State, ∃ q : HeldReq, s.dev.hif.held = [q] ∧ q.waits = false) ∧
    (∃ s : State, ∃ q : HeldReq, s.dev.hif.held = [q] ∧ q.waits = false) ∧
    (∃ f : RxFrame, ∃ s : State, ∃ h : Hdr, ∃ b : List Byte, ∃ x : Device, Accepted f s 8 h b x ∧ s.dev.isHead = false ∧
      x.flows.answered.contains (BitVec.ofNat 32 (be b 4 4)) = true ∧ be b 0 1 = 1) ∧
    (∃ f : RxFrame, ∃ s : State, ∃ h : Hdr, ∃ b : List Byte, ∃ x : Device, Accepted f s 8 h b x ∧ s.dev.isHead = false ∧
      x.flows.answered.contains (BitVec.ofNat 32 (be b 4 4)) = true ∧ be b 0 1 = 2) ∧
    (∃ f : RxFrame, ∃ s : State, ∃ h : Hdr, ∃ b : List Byte, ∃ x : Device, Accepted f s 8 h b x ∧ s.dev.isHead = false ∧
      x.flows.answered.contains (BitVec.ofNat 32 (be b 4 4)) = false ∧ x.hif.request.contains (BitVec.ofNat 32 (be b 4 4)) = true ∧ be b 0 1 = 1) ∧
    (∃ f : RxFrame, ∃ s : State, ∃ h : Hdr, ∃ b : List Byte, ∃ x : Device, Accepted f s 8 h b x ∧ s.dev.isHead = false ∧
      x.flows.answered.contains (BitVec.ofNat 32 (be b 4 4)) = false ∧ x.hif.request.contains (BitVec.ofNat 32 (be b 4 4)) = true ∧ be b 0 1 = 2) ∧
    (∃ f : RxFrame, ∃ s : State, ∃ h : Hdr, ∃ b : List Byte, ∃ d : Device, ∃ k, Accepted f s 8 h b d ∧ be b 0 1 = 3 ∧ s.dev.isHead = true ∧
      d.clk.raster.nsOf (RP.dist d.clk.raster d.clk.rp h.stamp) ≤ 1000000 ∧ postRing d h.src (be b 8 8) (be b 2 2) = some k) ∧
    (∃ f : RxFrame, ∃ s : State, ∃ h : Hdr, ∃ b : List Byte, ∃ d : Device, Accepted f s 8 h b d ∧ be b 0 1 = 3 ∧ s.dev.isHead = true ∧
      d.clk.raster.nsOf (RP.dist d.clk.raster d.clk.rp h.stamp) ≤ 1000000 ∧ postRing d h.src (be b 8 8) (be b 2 2) = none) ∧
    (∃ s : State, ∃ r : NoticeRec, ∃ addr : Nat, s.dev.isHead = false ∧ served s.dev = true ∧ s.dev.hif.unacked = [r] ∧
      addr = evtAddr s.dev r.pos ∧ s.dev.hif.toPost = [] ∧ s.dev.hif.posted = []) ∧
    (∃ s : State, ∃ r : NoticeRec, ∃ addr : Nat, ∃ t, s.dev.isHead = false ∧ served s.dev = true ∧ s.dev.hif.unacked = [r] ∧
      addr = evtAddr s.dev r.pos ∧ s.dev.hif.toPost = [] ∧ s.dev.hif.posted = [(addr, t)] ∧
      s.dev.clk.raster.nsOf (RP.dist s.dev.clk.raster s.dev.clk.rp t) < 2000000) :=
  ⟨⟨fr 0 (toHead 8) (remoteB 0 0 64 0 0x1000 []),
     at_ { head0 with hif.dirs := [(5, { enable := true, cmdBase := 0x1000, cplBase := 0x2000 })], hif.letters := [(5, { p := 0, c := 0, b := 0, seq := 0 })] },
     frHdr (toHead 8) (remoteB 0 0 64 0 0x1000 []), remoteB 0 0 64 0 0x1000 [],
     after 0 (toHead 8) (remoteB 0 0 64 0 0x1000 []) id { head0 with hif.dirs := [(5, { enable := true, cmdBase := 0x1000, cplBase := 0x2000 })], hif.letters := [(5, { p := 0, c := 0, b := 0, seq := 0 })] },
     _,
    fr_accepted (by decide +kernel), by decide +kernel, by decide +kernel, by decide +kernel, rfl, by decide +kernel⟩,
   ⟨fr 0 (toHead 8) (remoteB 0 0 64 0 0x1000 []),
     at_ { head0 with hif.dirs := [(5, { enable := true, cmdBase := 0x1000, cplBase := 0x2000 })], hif.letters := [(5, { p := 1, c := 0, b := 0, seq := 0 })] },
     frHdr (toHead 8) (remoteB 0 0 64 0 0x1000 []), remoteB 0 0 64 0 0x1000 [],
     after 0 (toHead 8) (remoteB 0 0 64 0 0x1000 []) id { head0 with hif.dirs := [(5, { enable := true, cmdBase := 0x1000, cplBase := 0x2000 })], hif.letters := [(5, { p := 1, c := 0, b := 0, seq := 0 })] },
     _, 64,
    fr_accepted (by decide +kernel), by decide +kernel, by decide +kernel, by decide +kernel, rfl, by decide +kernel⟩,
   ⟨fr 0 (toHead 8) (remoteB 0 0 64 0 0x1000 []), at_ head0, frHdr (toHead 8) (remoteB 0 0 64 0 0x1000 []), remoteB 0 0 64 0 0x1000 [],
     after 0 (toHead 8) (remoteB 0 0 64 0 0x1000 []) id head0, _,
    fr_accepted (by decide +kernel), by decide +kernel, by decide +kernel,
     by decide +kernel, rfl, by decide +kernel⟩,
   ⟨at_ { node5 with hif.held := [{ id := 1, node := 5, seq := 1, addr := 0, length := 64, pair := 0, dir := 0, waits := true }] },
     { id := 1, node := 5, seq := 1, addr := 0, length := 64, pair := 0, dir := 0, waits := true }, by decide⟩,
   ⟨at_ { node5 with hif.held := [{ id := 1, node := 5, seq := 1, addr := 0, length := 64, pair := 0, dir := 0, waits := false }] },
     { id := 1, node := 5, seq := 1, addr := 0, length := 64, pair := 0, dir := 0, waits := false }, by decide⟩,
   ⟨at_ { node5 with hif.held := [{ id := 1, node := 5, seq := 1, addr := 0, length := 64, pair := 0, dir := 0, waits := false }] },
     { id := 1, node := 5, seq := 1, addr := 0, length := 64, pair := 0, dir := 0, waits := false }, by decide⟩,
   ⟨fr 0 (toNode 8 100) (remoteB 1 0 1 7 0 [9]), at_ { node5 with flows.answered := [7] }, frHdr (toNode 8 100) (remoteB 1 0 1 7 0 [9]),
     remoteB 1 0 1 7 0 [9],
     after 0 (toNode 8 100) (remoteB 1 0 1 7 0 [9]) id { node5 with flows.answered := [7] },
    fr_accepted (by decide +kernel), by decide +kernel⟩,
   ⟨fr 0 (toNode 8 100) (remoteB 2 3 8192 7 0 []), at_ { node5 with flows.answered := [7] }, frHdr (toNode 8 100) (remoteB 2 3 8192 7 0 []),
     remoteB 2 3 8192 7 0 [],
     after 0 (toNode 8 100) (remoteB 2 3 8192 7 0 []) id { node5 with flows.answered := [7] },
    fr_accepted (by decide +kernel),
     by decide +kernel⟩,
   ⟨fr 0 (toNode 8 100) (remoteB 1 0 1 7 0 [9]), at_ { node5 with hif.request := [7] }, frHdr (toNode 8 100) (remoteB 1 0 1 7 0 [9]),
     remoteB 1 0 1 7 0 [9],
     after 0 (toNode 8 100) (remoteB 1 0 1 7 0 [9]) id { node5 with hif.request := [7] },
    fr_accepted (by decide +kernel), by decide +kernel⟩,
   ⟨fr 0 (toNode 8 100) (remoteB 2 3 8192 7 0 []), at_ { node5 with hif.request := [7] }, frHdr (toNode 8 100) (remoteB 2 3 8192 7 0 []),
     remoteB 2 3 8192 7 0 [],
     after 0 (toNode 8 100) (remoteB 2 3 8192 7 0 []) id { node5 with hif.request := [7] },
    fr_accepted (by decide +kernel), by decide +kernel⟩,
   ⟨fr 0 (toHead 8) (remoteB 3 0 64 0 0x2000 (zeros 64)),
     at_ { head0 with hif.dirs := [(5, { enable := true, cmdBase := 0x1000, cplBase := 0x2000 })] },
     frHdr (toHead 8) (remoteB 3 0 64 0 0x2000 (zeros 64)), remoteB 3 0 64 0 0x2000 (zeros 64),
     after 0 (toHead 8) (remoteB 3 0 64 0 0x2000 (zeros 64)) id { head0 with hif.dirs := [(5, { enable := true, cmdBase := 0x1000, cplBase := 0x2000 })] },
     0,
    fr_accepted (by decide +kernel), by decide +kernel⟩,
   ⟨fr 0 (toHead 8) (remoteB 3 0 64 0 0x2000 (zeros 64)), at_ head0, frHdr (toHead 8) (remoteB 3 0 64 0 0x2000 (zeros 64)),
     remoteB 3 0 64 0 0x2000 (zeros 64), after 0 (toHead 8) (remoteB 3 0 64 0 0x2000 (zeros 64)) id head0,
    fr_accepted (by decide +kernel),
     by decide +kernel⟩,
   ⟨at_ { node5 with hif.unacked := [{ pos := 1, notice := { code := 0x1001, payload := [] } }], hif.toPost := [], hif.posted := [] },
     { pos := 1, notice := { code := 0x1001, payload := [] } }, _, by decide, by decide, by decide, rfl, by decide⟩,
   ⟨at_ { node5 with hif.unacked := [{ pos := 1, notice := { code := 0x1001, payload := [] } }], hif.toPost := [], hif.posted := [(32, rp0)] },
     { pos := 1, notice := { code := 0x1001, payload := [] } }, 32, rp0, by decide⟩⟩

theorem test_meets_LettersAndReports :
    (∃ s : State, ∃ r : RoundRead, ∃ n : Nat, ∃ w : LetterWords, s.dev.isHead = true ∧ s.dev.hif.rounds = true ∧ r.entries = [(n, some w)] ∧
      r.dirs = [] ∧ n ≠ s.dev.nodeNo ∧ n ∈ allMembers s.dev ∧ s.dev.hif.held = []) ∧
    (∃ f : RxFrame, ∃ s : State, ∃ h : Hdr, ∃ b : List Byte, ∃ d : Device, ∃ n : BitVec 12, ∃ w : LetterWords, Accepted f s 5 h b d ∧
      s.dev.isHead = false ∧ d.topo.nodeId = some n ∧ mailFor n.toNat b = some w ∧ d.hif.cfgPending = false ∧ d.hif.started = true ∧
      d.hif.seqWord = some w.seq ∧ (d.hif.e - w.c).toNat ≤ evtSlots d) ∧
    (∃ f : RxFrame, ∃ s : State, ∃ h : Hdr, ∃ b : List Byte, ∃ d : Device, ∃ k, Accepted f s 4 h b d ∧ s.dev.isHead = true ∧ be b 0 1 ≠ 2 ∧
      be b 0x4A 1 = 1 ∧ d.hif.sort = [k] ∧ k.kind = BitVec.ofNat 8 (be b 78 1) ∧ k.subject = BitVec.ofNat 12 (be b 76 2)) ∧
    (∃ f : RxFrame, ∃ s : State, ∃ h : Hdr, ∃ b : List Byte, ∃ d : Device, Accepted f s 4 h b d ∧ s.dev.isHead = true ∧ be b 0 1 ≠ 2 ∧
      be b 0x4A 1 = 1 ∧ d.hif.sort = []) ∧
    (∃ s : State, ∃ k : SortKey, s.dev.hif.sort.find? (fun x => x.kind == k.kind && x.subject == k.subject) = some k) ∧
    (∃ s : State, s.dev.hif.lostReps ≠ 0) :=
  ⟨⟨at_ { head0 with hif.rounds := true, hif.held := [] },
     { entries := [(5, some { p := 1, c := 0, b := 0, seq := 0 })], durUs := 1, overrun := false, dirs := [] }, 5,
     { p := 1, c := 0, b := 0, seq := 0 }, by decide⟩,
   ⟨fr 0 (toAll 5 100) (mailB 0xFFFFFFC0 7), at_ { node5 with hif.seqWord := some 7 }, frHdr (toAll 5 100) (mailB 0xFFFFFFC0 7), mailB 0xFFFFFFC0 7,
     after 0 (toAll 5 100) (mailB 0xFFFFFFC0 7) id { node5 with hif.seqWord := some 7 }, 5,
     { p := 1, c := 0xFFFFFFC0, b := 0, seq := 7 },
    fr_accepted (by decide +kernel), by decide +kernel⟩,
   ⟨fr 0 (toHead 4) (zeros 74 ++ [1, 0] ++ [0, 0, 1] ++ zeros 9),
     at_ { head0 with hif.sort := [{ kind := 1, subject := 0, count := 1, firstW := 5, lastW := 5, first := rp0 }] },
     frHdr (toHead 4) (zeros 74 ++ [1, 0] ++ [0, 0, 1] ++ zeros 9), zeros 74 ++ [1, 0] ++ [0, 0, 1] ++ zeros 9, after 0 (toHead 4) (zeros 74 ++ [1,
     0] ++ [0, 0, 1] ++ zeros 9) id { head0 with hif.sort := [{ kind := 1, subject := 0, count := 1, firstW := 5, lastW := 5, first := rp0 }] },
     { kind := 1, subject := 0, count := 1, firstW := 5, lastW := 5, first := rp0 },
    fr_accepted (by decide +kernel), by decide +kernel⟩,
   ⟨fr 0 (toHead 4) (zeros 74 ++ [1, 0] ++ [0, 0, 1] ++ zeros 9), at_ head0, frHdr (toHead 4) (zeros 74 ++ [1, 0] ++ [0, 0, 1] ++ zeros 9),
     zeros 74 ++ [1, 0] ++ [0, 0, 1] ++ zeros 9, after 0 (toHead 4) (zeros 74 ++ [1, 0] ++ [0, 0,
     1] ++ zeros 9) id head0,
    fr_accepted (by decide +kernel), by decide +kernel⟩,
   ⟨at_ { node5 with hif.sort := [{ kind := 1, subject := 5, count := 1, firstW := 5, lastW := 5, first := rp0 }] },
     { kind := 1, subject := 5, count := 1, firstW := 5, lastW := 5, first := rp0 }, by decide⟩,
   ⟨at_ { node5 with hif.lostReps := 1 }, by decide⟩⟩

theorem test_meets_RingBasesStaged :
    (∃ f : RxFrame, ∃ s : State, ∃ h : Hdr, ∃ b : List Byte, ∃ d : Device, ∃ a, ∃ v, Accepted f s 2 h b d ∧ ctrlServed d = true ∧
      s.dev.isHead = false ∧ be b 0 1 = 1 ∧ d.pwr.resetAsked = false ∧ ctrlEntries b = [(a, v)] ∧ a % 4 = 0 ∧ ringBase a = true) ∧
    (∃ f : RxFrame, ∃ s : State, ∃ h : Hdr, ∃ b : List Byte, ∃ d : Device, ∃ i : Fin 4, ∃ lo : Word, ∃ v : Nat, Accepted f s 2 h b d ∧
      ctrlServed d = true ∧ s.dev.isHead = false ∧ be b 0 1 = 1 ∧ d.pwr.resetAsked = false ∧ ctrlEntries b = [(0x1464 + 8 * i.val, v)] ∧
      mfind d.wideHold (0x1460 + 8 * i.val) = some lo) ∧
    (∃ s : State, s.dev.isHead = false) ∧
    (∃ s : State, s.dev.isHead = true) ∧
    (∃ f : RxFrame, ∃ s : State, ∃ h : Hdr, ∃ b : List Byte, ∃ d : Device, ∃ n : BitVec 12, ∃ w : LetterWords, Accepted f s 5 h b d ∧
      s.dev.isHead = false ∧ d.topo.nodeId = some n ∧ mailFor n.toNat b = some w ∧ d.hif.cfgPending = true) :=
  ⟨⟨fr 0 (toNode 2 100) (ctrlB 1 0x1478 0), at_ node5, frHdr (toNode 2 100) (ctrlB 1 0x1478 0), ctrlB 1 0x1478 0,
     after 0 (toNode 2 100) (ctrlB 1 0x1478 0) id node5, 0x1478, 0,
    fr_accepted (by decide +kernel), by decide +kernel⟩,
   ⟨fr 0 (toNode 2 100) (ctrlB 1 0x147C 0), at_ { node5 with wideHold := [(0x1478, 7)] }, frHdr (toNode 2 100) (ctrlB 1 0x147C 0), ctrlB 1 0x147C 0,
     after 0 (toNode 2 100) (ctrlB 1 0x147C 0) id { node5 with wideHold := [(0x1478, 7)] }, 3, 7, 0,
    fr_accepted (by decide +kernel),
     by decide +kernel⟩,
   ⟨at_ node5, by decide⟩,
   ⟨at_ head0, by decide⟩,
   ⟨fr 0 (toAll 5 100) (mailB 0xFFFFFFC0 7), at_ { node5 with hif.cfgPending := true }, frHdr (toAll 5 100) (mailB 0xFFFFFFC0 7), mailB 0xFFFFFFC0 7,
     after 0 (toAll 5 100) (mailB 0xFFFFFFC0 7) id { node5 with hif.cfgPending := true }, 5,
     { p := 1, c := 0xFFFFFFC0, b := 0, seq := 7 },
    fr_accepted (by decide +kernel), by decide +kernel⟩⟩

theorem test_meets_SlicesStored :
    (∃ f : RxFrame, ∃ s : State, ∃ h : Hdr, ∃ b : List Byte, ∃ x : Device, ∃ c : BitVec 32, ∃ k : Buffer, Accepted f s 1 h b x ∧ x.isNode = true ∧
      c = h.stamp.frame ∧ (sliceHdr b).gen = (recordFor x (c + BitVec.ofNat 32 (presentP x))).2 ∧ sliceLate x c = false ∧ sliceEarly x c = false ∧
      (pixSeen x c).contains h.seq = false ∧ x.pxl.buffers = [k] ∧ k.content = c ∧ k.hold = false ∧ runSuits (sliceHdr b) k.fmt = true ∧
      (sliceHdr b).layout ≠ 3) ∧
    (∃ f : RxFrame, ∃ s : State, ∃ h : Hdr, ∃ b : List Byte, ∃ x : Device, ∃ c : BitVec 32, Accepted f s 1 h b x ∧ x.isNode = true ∧
      c = h.stamp.frame ∧ (sliceHdr b).gen = (recordFor x (c + BitVec.ofNat 32 (presentP x))).2 ∧ sliceLate x c = true) ∧
    (∃ f : RxFrame, ∃ s : State, ∃ h : Hdr, ∃ b : List Byte, ∃ x : Device, ∃ c : BitVec 32, Accepted f s 1 h b x ∧ x.isNode = true ∧
      c = h.stamp.frame ∧ (sliceHdr b).gen = (recordFor x (c + BitVec.ofNat 32 (presentP x))).2 ∧ sliceLate x c = false ∧ sliceEarly x c = true) ∧
    (∃ f : RxFrame, ∃ s : State, ∃ h : Hdr, ∃ b : List Byte, ∃ x : Device, ∃ c : BitVec 32, Accepted f s 1 h b x ∧ x.isNode = true ∧
      c = h.stamp.frame ∧ (sliceHdr b).gen = (recordFor x (c + BitVec.ofNat 32 (presentP x))).2 ∧ sliceLate x c = false ∧ sliceEarly x c = false ∧
      (pixSeen x c).contains h.seq = true) :=
  ⟨⟨fr 0 (toNode 1 100) sliceB, at_ { node5 with pxl.buffers := [buf0] }, frHdr (toNode 1 100) sliceB, sliceB,
     after 0 (toNode 1 100) sliceB id { node5 with pxl.buffers := [buf0] }, 100, buf0,
    fr_accepted (by decide +kernel), by decide +kernel⟩,
   ⟨fr 0 (toNode 1 98) sliceB, at_ node5, frHdr (toNode 1 98) sliceB, sliceB, after 0 (toNode 1 98) sliceB id node5,
     98,
    fr_accepted (by decide +kernel), by decide +kernel⟩,
   ⟨fr 0 (toNode 1 102) sliceB, at_ node5, frHdr (toNode 1 102) sliceB, sliceB, after 0 (toNode 1 102) sliceB id node5,
     102,
    fr_accepted (by decide +kernel), by decide +kernel⟩,
   ⟨fr 0 (toNode 1 100) sliceB, at_ { node5 with flows.pix := [(100, [0])] }, frHdr (toNode 1 100) sliceB, sliceB,
     after 0 (toNode 1 100) sliceB id { node5 with flows.pix := [(100, [0])] }, 100,
    fr_accepted (by decide +kernel), by decide +kernel⟩⟩

theorem test_meets_DataAndRegisterFrames :
    (∃ f : RxFrame, ∃ s : State, ∃ h : Hdr, ∃ b : List Byte, ∃ d : Device, ∃ x, Accepted f s 7 h b d ∧ s.dev.isNode = true ∧
      d.fix.ports[be b 0 1]? = some x ∧ (∀ n, x.new = some n → 0 < frameDiff h.stamp.frame n.stamp)) ∧
    (∃ f : RxFrame, ∃ s : State, ∃ h : Hdr, ∃ b : List Byte, ∃ d : Device, Accepted f s 6 h b d ∧ s.dev.isHead = true) ∧
    (∃ f : RxFrame, ∃ s : State, ∃ h : Hdr, ∃ b : List Byte, ∃ d : Device, Accepted f s 2 h b d ∧ be b 0 1 = 2) ∧
    (∃ f : RxFrame, ∃ s : State, ∃ h : Hdr, ∃ b : List Byte, ∃ d : Device, Accepted f s 2 h b d ∧ be b 0 1 = 3) ∧
    (∃ f : RxFrame, ∃ s : State, ∃ h : Hdr, ∃ b : List Byte, ∃ d : Device, ∃ pair : Nat, ∃ a, ∃ v, pair = pairOf f.port.val ∧
      Accepted f s 2 h b d ∧ ctrlServed d = true ∧ s.dev.isHead = false ∧ be b 0 1 = 0 ∧ ctrlEntries b = [(a, v)] ∧ entryGood a = true) ∧
    (∃ f : RxFrame, ∃ s : State, ∃ h : Hdr, ∃ b : List Byte, ∃ d : Device, ∃ pair : Nat, ∃ a, ∃ v, pair = pairOf f.port.val ∧
      Accepted f s 2 h b d ∧ ctrlServed d = true ∧ s.dev.isHead = false ∧ be b 0 1 = 1 ∧ ctrlEntries b = [(a, v)] ∧ entryGood a = true ∧
      a ≠ 0x0C08 ∧ d.pwr.resetAsked = false) ∧
    (∃ f : RxFrame, ∃ s : State, ∃ h : Hdr, ∃ b : List Byte, ∃ d : Device, ∃ pair : Nat, pair = pairOf f.port.val ∧ Accepted f s 2 h b d ∧
      ctrlServed d = true ∧ s.dev.isHead = false ∧ be b 0 1 = 1 ∧ ctrlEntries b = [(0x0C08, 0x5A4C5253)]) ∧
    (∃ f : RxFrame, ∃ s : State, ∃ h : Hdr, ∃ b : List Byte, ∃ d : Device, ∃ pair : Nat, pair = pairOf f.port.val ∧ Accepted f s 2 h b d ∧
      ctrlServed d = true ∧ 7 ≤ be b 0 1 ∧ h.origin = 0 ∧ unicastTo d h = true) :=
  ⟨⟨fr 0 (toNode 7 100) ([0, 0] ++ beN 2 1 ++ beN 2 1 ++ [200, 0, 0, 0, 7]), at_ node5, frHdr (toNode 7 100) ([0, 0] ++ beN 2 1 ++ beN 2 1 ++ [200, 0,
     0, 0, 7]), [0, 0] ++ beN 2 1 ++ beN 2 1 ++ [200, 0, 0, 0, 7], after 0 (toNode 7 100) ([0, 0] ++ beN 2 1 ++ beN 2 1 ++ [200, 0, 0, 0,
     7]) id node5, {},
    fr_accepted (by decide +kernel), by decide +kernel, by decide +kernel, fun _ h => nomatch h⟩,
   ⟨fr 0 (toHead 6) proofB, at_ head0, frHdr (toHead 6) proofB, proofB, after 0 (toHead 6) proofB id head0,
    fr_accepted (by decide +kernel),
     by decide +kernel⟩,
   ⟨fr 0 (toHead 2) (2 :: zeros 7), at_ head0, frHdr (toHead 2) (2 :: zeros 7), 2 :: zeros 7,
     after 0 (toHead 2) (2 :: zeros 7) id head0,
    fr_accepted (by decide +kernel), by decide +kernel⟩,
   ⟨fr 0 (toHead 2) (3 :: zeros 7), at_ head0, frHdr (toHead 2) (3 :: zeros 7), 3 :: zeros 7,
     after 0 (toHead 2) (3 :: zeros 7) id head0,
    fr_accepted (by decide +kernel), by decide +kernel⟩,
   ⟨fr 0 (toNode 2 100) (ctrlB 0 0xFFFC 0), at_ node5, frHdr (toNode 2 100) (ctrlB 0 0xFFFC 0), ctrlB 0 0xFFFC 0,
     after 0 (toNode 2 100) (ctrlB 0 0xFFFC 0) id node5, _, 0xFFFC, 0,
    rfl, fr_accepted (by decide +kernel), by decide +kernel⟩,
   ⟨fr 0 (toNode 2 100) (ctrlB 1 0xFFFC 0), at_ node5, frHdr (toNode 2 100) (ctrlB 1 0xFFFC 0), ctrlB 1 0xFFFC 0,
     after 0 (toNode 2 100) (ctrlB 1 0xFFFC 0) id node5, _, 0xFFFC, 0,
    rfl, fr_accepted (by decide +kernel), by decide +kernel⟩,
   ⟨fr 0 (toNode 2 100) (ctrlB 1 0x0C08 0x5A4C5253), at_ node5, frHdr (toNode 2 100) (ctrlB 1 0x0C08 0x5A4C5253), ctrlB 1 0x0C08 0x5A4C5253,
     after 0 (toNode 2 100) (ctrlB 1 0x0C08 0x5A4C5253) id node5, _,
    rfl, fr_accepted (by decide +kernel), by decide +kernel⟩,
   ⟨fr 0 (toNode 2 100) (7 :: zeros 7), at_ node5, frHdr (toNode 2 100) (7 :: zeros 7), 7 :: zeros 7, after 0 (toNode 2 100) (7 :: zeros 7) id node5,
     _,
    rfl, fr_accepted (by decide +kernel), by decide +kernel⟩⟩

theorem test_meets_DevicesBound :
    (∃ s : State, ∃ pair : Fin 4, ∃ m : SysMap, ∃ i : Nat, ∃ r : RingEntry, ∃ isX : Bool, ∃ k, s.dev.isHead = true ∧ s.dev.topo.map = some m ∧
      pairRing s.dev pair.val = some (i, r, isX) ∧ binds s.dev r pair.val isX = true ∧ k < r.members.length ∧
      unboundAt s.dev r pair.val (k + 1) = true) ∧
    (∃ s : State, ∃ pair : Fin 4, ∃ m : SysMap, ∃ i : Nat, ∃ r : RingEntry, ∃ isX : Bool, s.dev.isHead = true ∧ s.dev.topo.map = some m ∧
      pairRing s.dev pair.val = some (i, r, isX) ∧ binds s.dev r pair.val isX = true ∧ (∀ k,
      k < r.members.length → unboundAt s.dev r pair.val (k + 1) = false)) ∧
    (∃ s : State, s.dev.isHead = true ∧ s.dev.topo.map = none) ∧
    (∃ f : RxFrame, ∃ s : State, ∃ h : Hdr, ∃ b : List Byte, ∃ x : Device, x = (takeClass f id s.dev).dev ∧ (takeClass f id s.dev).got = some (h,
      b) ∧ h.cls = 2 ∧ be b 0 1 = 4 ∧ x.isHead = false ∧ x.topo.nodeId = none ∧ (x.port f.port.val).cardFrame ≠ some x.clk.rp.frame ∧
      (x.port f.port.val).up = true ∧ (x.port f.port.val).lpiTx = false) ∧
    (∃ f : RxFrame, ∃ s : State, ∃ h : Hdr, ∃ b : List Byte, ∃ x : Device, x = (takeClass f id s.dev).dev ∧ (takeClass f id s.dev).got = some (h,
      b) ∧ h.cls = 2 ∧ be b 0 1 = 4 ∧ x.isHead = false ∧ x.topo.nodeId = none ∧ (x.port f.port.val).cardFrame = some x.clk.rp.frame) ∧
    (∃ f : RxFrame, ∃ s : State, ∃ h : Hdr, ∃ b : List Byte, ∃ x : Device, ∃ m : SysMap, ∃ ring : Nat, ∃ r : RingEntry, ∃ isX : Bool, ∃ pos : Nat,
      ∃ n : NodeRecord, ∃ hp : HeadPair, Accepted f s 4 h b x ∧ x.isHead = true ∧ be b 0 1 = 2 ∧ x.topo.map = some m ∧ x.topo.load = none ∧
      pairRing x (pairOf f.port.val) = some (ring, r, isX) ∧ answerPos r b = some pos ∧ binds x r (pairOf f.port.val) isX = true ∧
      memberAt m r pos = some n ∧ x.topo.pairs[pairOf f.port.val]? = some hp ∧ (fpZero n.fingerprint = true ∨ n.fingerprint = cut b 4 8)) ∧
    (∃ f : RxFrame, ∃ s : State, ∃ h : Hdr, ∃ b : List Byte, ∃ x : Device, ∃ m : SysMap, ∃ ring : Nat, ∃ r : RingEntry, ∃ isX : Bool, ∃ pos : Nat,
      ∃ n : NodeRecord, ∃ hp : HeadPair, Accepted f s 4 h b x ∧ x.isHead = true ∧ be b 0 1 = 2 ∧ x.topo.map = some m ∧ x.topo.load = none ∧
      pairRing x (pairOf f.port.val) = some (ring, r, isX) ∧ answerPos r b = some pos ∧ binds x r (pairOf f.port.val) isX = true ∧
      memberAt m r pos = some n ∧ x.topo.pairs[pairOf f.port.val]? = some hp ∧ fpZero n.fingerprint = false ∧ n.fingerprint ≠ cut b 4 8) ∧
    (∃ f : RxFrame, ∃ s : State, ∃ h : Hdr, ∃ b : List Byte, ∃ d : Device, Accepted f s 2 h b d ∧ s.dev.isHead = false ∧ be b 0 1 = 5 ∧
      cut b 8 8 = d.sec.fingerprint ∧ frameDiff d.clk.rp.frame h.stamp.frame < 0) ∧
    (∃ f : RxFrame, ∃ s : State, ∃ h : Hdr, ∃ b : List Byte, ∃ d : Device, Accepted f s 2 h b d ∧ s.dev.isHead = false ∧ be b 0 1 = 5 ∧
      cut b 8 8 = d.sec.fingerprint ∧ 0 ≤ frameDiff d.clk.rp.frame h.stamp.frame ∧ (∀ o ∈ d.topo.others, o.2 = BitVec.ofNat 32 (be b 0x4C 4))) ∧
    (∃ f : RxFrame, ∃ s : State, ∃ h : Hdr, ∃ b : List Byte, ∃ d : Device, Accepted f s 2 h b d ∧ s.dev.isHead = false ∧ be b 0 1 = 5 ∧
      cut b 8 8 ≠ d.sec.fingerprint) :=
  ⟨⟨at_ { head0 with topo.map := some map1 }, 0, map1, 0,
     { dual := false, fec := false, headX := 0, pairX := 0, headY := 0, pairY := 0, members := [5] }, true, 0, by decide⟩,
   ⟨at_ { head0 with topo.map := some map1, topo.pairs := [{ bound := [(1, zeros 8)], cards := [(5, (9, rp0))] }, {}, {}, {}] }, 0, map1, 0,
     { dual := false, fec := false, headX := 0, pairX := 0, headY := 0, pairY := 0, members := [5] }, true, by decide⟩,
   ⟨at_ { head0 with topo.map := none }, by decide⟩,
   ⟨fr 0 (toAll 2 100) (4 :: zeros 7), at_ bare5, frHdr (toAll 2 100) (4 :: zeros 7), 4 :: zeros 7,
     after 0 (toAll 2 100) (4 :: zeros 7) id bare5,
    fr_dev (by decide +kernel), fr_got (by decide +kernel), by decide +kernel⟩,
   ⟨fr 0 (toAll 2 100) (4 :: zeros 7), at_ told5, frHdr (toAll 2 100) (4 :: zeros 7), 4 :: zeros 7,
     after 0 (toAll 2 100) (4 :: zeros 7) id told5,
    fr_dev (by decide +kernel), fr_got (by decide +kernel), by decide +kernel⟩,
   ⟨fr 0 { toHead 4 with unasg := true } cardB, at_ head0, frHdr { toHead 4 with unasg := true } cardB, cardB,
     after 0 { toHead 4 with unasg := true } cardB id head0, map1, 0,
     map1.rings.headD { dual := true, fec := false, headX := 0, pairX := 0, headY := 0, pairY := 0, members := [] }, true, 1, rec4,
     {},
    fr_accepted (by decide +kernel), by decide +kernel⟩,
   ⟨fr 0 { toHead 4 with unasg := true } cardB, at_ { head0 with topo.map := some map1fp }, frHdr { toHead 4 with unasg := true } cardB, cardB,
     after 0 { toHead 4 with unasg := true } cardB id { head0 with topo.map := some map1fp }, map1fp, 0,
     map1.rings.headD { dual := true, fec := false, headX := 0, pairX := 0, headY := 0, pairY := 0, members := [] }, true, 1, rec4fp,
     {},
    fr_accepted (by decide +kernel), by decide +kernel⟩,
   ⟨fr 0 (toAll 2 101) assignB, at_ node5fp, frHdr (toAll 2 101) assignB, assignB,
     after 0 (toAll 2 101) assignB id node5fp,
    fr_accepted (by decide +kernel), by decide +kernel⟩,
   ⟨fr 0 (toAll 2 100) assignB, at_ node5fp, frHdr (toAll 2 100) assignB, assignB,
     after 0 (toAll 2 100) assignB id node5fp,
    fr_accepted (by decide +kernel), by decide +kernel, by decide +kernel, by decide +kernel,
     by decide +kernel, fun o h => absurd h (List.eq_nil_iff_forall_not_mem.mp (by decide +kernel) o)⟩,
   ⟨fr 0 (toAll 2 100) assignB, at_ node5, frHdr (toAll 2 100) assignB, assignB,
     after 0 (toAll 2 100) assignB id node5,
    fr_accepted (by decide +kernel), by decide +kernel⟩⟩

theorem test_meets_PartnersAndMaps :
    (∃ f : RxFrame, ∃ s : State, ∃ h : Hdr, ∃ b : List Byte, ∃ d : Device, ∃ hp : HeadPair, Accepted f s 2 h b d ∧ be b 0 1 = 6 ∧
      d.topo.pairs[pairOf f.port.val]? = some hp) ∧
    (∃ s : State, ∃ pair : Fin 4, ∃ m : SysMap, ∃ i : Nat, ∃ q : Nat, ∃ r : RingEntry, ∃ isX : Bool, ∃ hp : HeadPair, mapKnown s.dev = some m ∧
      (headRings s.dev m).find? (fun (_, r, q, _) => q == pair.val && r.dual) = some (i, r, q, isX) ∧ s.dev.topo.pairs[pair.val]? = some hp ∧
      hp.closeDown = false ∧ 4 ≤ hp.boundaries) ∧
    (∃ s : State, ∃ pair : Fin 4, ∃ m : SysMap, ∃ i : Nat, ∃ q : Nat, ∃ r : RingEntry, ∃ isX : Bool, ∃ hp : HeadPair, mapKnown s.dev = some m ∧
      (headRings s.dev m).find? (fun (_, r, q, _) => q == pair.val && r.dual) = some (i, r, q, isX) ∧ s.dev.topo.pairs[pair.val]? = some hp ∧
      (hp.closeDown = true ∨ hp.boundaries < 4)) ∧
    (∃ c : Cmd, ∃ s : State, s.dev.isHead = true ∧ misaligned c = false ∧ (s.dev.tim.firstLock = true → loadRefusal c s.dev = none)) ∧
    (∃ s : State, s.dev.isHead = false) ∧
    (∃ c : Cmd, ∃ s : State, s.dev.isHead = true ∧ misaligned c = true) ∧
    (∃ c : Cmd, ∃ s : State, ∃ st, s.dev.isHead = true ∧ misaligned c = false ∧ s.dev.tim.firstLock = true ∧ loadRefusal c s.dev = some st) ∧
    (∃ s : State, ∃ l, ∃ b, ∃ m, s.dev.topo.load = some l ∧ l.map = none ∧ l.cmd.host = .data b ∧ checkMap s.dev b (opN l.cmd 8 4) = .good m ∧
      l.judged = false) ∧
    (∃ s : State, ∃ l, ∃ b, ∃ code, ∃ idx, s.dev.topo.load = some l ∧ l.map = none ∧ l.cmd.host = .data b ∧
      checkMap s.dev b (opN l.cmd 8 4) = .bad code idx ∧ l.sent = false) ∧
    (∃ s : State, ∃ l, s.dev.topo.load = some l ∧ l.map = none ∧ l.cmd.host = .busError) ∧
    (∃ s : State, ∃ l, ∃ m, s.dev.topo.load = some l ∧ l.map = some m ∧ 64 ≤ l.tries) ∧
    (∃ s : State, ∃ l, ∃ m, s.dev.topo.load = some l ∧ l.map = some m ∧ l.tries < 64) :=
  ⟨⟨fr 1 { toHead 2 with origin := 0 } (6 :: zeros 119), at_ { head0 with topo.map := some map2 },
     frHdr { toHead 2 with origin := 0 } (6 :: zeros 119), 6 :: zeros 119,
     after 1 { toHead 2 with origin := 0 } (6 :: zeros 119) id { head0 with topo.map := some map2 }, {},
    fr_accepted (by decide +kernel),
     by decide +kernel⟩,
   ⟨at_ { head0 with topo.map := some map2, topo.pairs := [{ boundaries := 4 }, {}, {}, {}] }, 0, map2, 0, 0, _, true, { boundaries := 4 }, rfl, rfl,
     rfl, rfl, by decide⟩,
   ⟨at_ { head0 with topo.map := some map2, topo.pairs := [{ closeDown := true }, {}, {}, {}] }, 0, map2, 0, 0, _, true, { closeDown := true }, rfl,
     rfl, rfl, by decide⟩,
   ⟨cmdOf [] .none, at_ head0, by decide⟩,
   ⟨at_ node5, by decide⟩,
   ⟨cmdOf [1] .none, at_ head0, by decide⟩,
   ⟨{ cmd0 with dueLs := 0x04650000 }, at_ { head0 with tim.firstLock := true }, 4, by decide⟩,
   ⟨at_ headLoading, load0, mapBytes, (good_map headLoading mapBytes 182 load0_good).choose, rfl, rfl,
     rfl,
    (good_map headLoading mapBytes 182 load0_good).choose_spec, rfl⟩,
   ⟨at_ { node5 with topo.load := some { cmd := cmdOf [] (.data []), adm := 1, judged := true } },
     { cmd := cmdOf [] (.data []), adm := 1, judged := true }, [], 1, noIndex, rfl, rfl, rfl, rfl, rfl⟩,
   ⟨at_ { node5 with topo.load := some { cmd := cmdOf [] .busError, adm := 1, judged := true } },
     { cmd := cmdOf [] .busError, adm := 1, judged := true }, by decide⟩,
   ⟨at_ { node5 with topo.load := some { cmd := cmd0, adm := 1, judged := true, map := some map1, tries := 64 } },
     { cmd := cmd0, adm := 1, judged := true, map := some map1, tries := 64 }, map1, by decide⟩,
   ⟨at_ { node5 with topo.load := some { cmd := cmd0, adm := 1, judged := true, map := some map1, tries := 63 } },
     { cmd := cmd0, adm := 1, judged := true, map := some map1, tries := 63 }, map1, by decide⟩⟩

theorem test_meets_StreamsReceived :
    (∃ p : RtpPacket, ∃ s : State, ∃ d : Device, ∃ k : Nat, ∃ b : Belongs, ingestOn s.dev = true ∧ (ingestIn p.rx s.dev).1 = true ∧
      d = (ingestIn p.rx s.dev).2 ∧ d.gest.slots.length = 16 ∧ (List.range 16).filterMap (fun k => (packetRec d (slotOf d k) p).map (fun x => (k,
      x))) = [(k, b)] ∧ packetGood d p b.strm = false) ∧
    (∃ p : RtpPacket, ∃ s : State, ∃ d : Device, ∃ k : Nat, ∃ b : Belongs, ingestOn s.dev = true ∧ (ingestIn p.rx s.dev).1 = true ∧
      d = (ingestIn p.rx s.dev).2 ∧ d.gest.slots.length = 16 ∧ (List.range 16).filterMap (fun k => (packetRec d (slotOf d k) p).map (fun x => (k,
      x))) = [(k, b)] ∧ packetGood d p b.strm = true ∧ b.old = false ∧ (slotOf d k).merge.hi = none ∧ (slotOf d k).deliver.length = 2) ∧
    (∃ p : RtpPacket, ∃ s : State, ∃ d : Device, ∃ k : Nat, ∃ b : Belongs, ∃ h, ingestOn s.dev = true ∧ (ingestIn p.rx s.dev).1 = true ∧
      d = (ingestIn p.rx s.dev).2 ∧ d.gest.slots.length = 16 ∧ (List.range 16).filterMap (fun k => (packetRec d (slotOf d k) p).map (fun x => (k,
      x))) = [(k, b)] ∧ packetGood d p b.strm = true ∧ b.old = false ∧ (slotOf d k).merge.hi = some h ∧ frameDiff p.seq h ≤ -(b.strm.window : Int)) ∧
    (∃ p : RtpPacket, ∃ s : State, ∃ d : Device, ∃ k : Nat, ∃ b : Belongs, ∃ h, ingestOn s.dev = true ∧ (ingestIn p.rx s.dev).1 = true ∧
      d = (ingestIn p.rx s.dev).2 ∧ d.gest.slots.length = 16 ∧ (List.range 16).filterMap (fun k => (packetRec d (slotOf d k) p).map (fun x => (k,
      x))) = [(k, b)] ∧ packetGood d p b.strm = true ∧ b.old = false ∧ (slotOf d k).merge.hi = some h ∧
      -(b.strm.window : Int) < frameDiff p.seq h ∧ (slotOf d k).merge.used.contains p.seq = true) ∧
    (∃ p : RtpPacket, ∃ s : State, ∃ d : Device, ingestOn s.dev = true ∧ (ingestIn p.rx s.dev).1 = true ∧ d = (ingestIn p.rx s.dev).2 ∧
      d.gest.slots.length = 16 ∧ (∀ k, k < 16 → packetRec d (slotOf d k) p = none)) ∧
    (∃ i : Fin 16, ∃ p : Fin 2, ∃ s : State, ∃ r : StreamRec, ∃ x : Slot, s.dev.gest.slots[i.val]? = some x ∧ x.strm = some r ∧
      ingestOn s.dev = true ∧ r.kind ≠ 2 ∧ r.paths = 3 ∧ x.deliver.getD (1 - p.val) false = true ∧ x.lostPath.getD p.val false = false) ∧
    (∃ i : Fin 16, ∃ s : State, ∃ r : StreamRec, ∃ x : Slot, s.dev.gest.slots[i.val]? = some x ∧ x.strm = some r ∧ ingestOn s.dev = true ∧
      r.kind ≠ 2 ∧ x.lost = false) ∧
    (∃ c : Cmd, ∃ s : State, s.dev.isHead = true ∧ misaligned c = false ∧ opB c 8 ≤ 15 ∧ s.dev.gest.slots.length = 16 ∧ hasBit (opB c 9) 0 = false) ∧
    (∃ c : Cmd, ∃ s : State, ∃ b, s.dev.isHead = true ∧ misaligned c = false ∧ opB c 8 ≤ 15 ∧ s.dev.gest.slots.length = 16 ∧
      hasBit (opB c 9) 0 = true ∧ c.host = .data b ∧ streamReason s.dev (opB c 8) (readStream b) = none) ∧
    (∃ c : Cmd, ∃ s : State, ∃ b, ∃ n, s.dev.isHead = true ∧ misaligned c = false ∧ opB c 8 ≤ 15 ∧ s.dev.gest.slots.length = 16 ∧
      hasBit (opB c 9) 0 = true ∧ c.host = .data b ∧ streamReason s.dev (opB c 8) (readStream b) = some n) ∧
    (∃ c : Cmd, ∃ s : State, ∃ x : Slot, s.dev.isHead = true ∧ opB c 0 ≤ 15 ∧ s.dev.gest.slots[opB c 0]? = some x) :=
  ⟨⟨{ rtp0 5 with payloadType := 97 },
     at_ { head0 with tim.source := .sync, gest.slots := ({ strm := some stream0, hist := [(0, some stream0)] } : Slot) :: List.replicate 15 {} },
     _, 0, { strm := stream0, cuts := true, old := false }, by decide, by decide, rfl, by decide, rfl, by decide⟩,
   ⟨rtp0 5,
     at_ { head0 with tim.source := .sync, gest.slots := ({ strm := some stream0, hist := [(0, some stream0)] } : Slot) :: List.replicate 15 {} },
     _, 0, { strm := stream0, cuts := true, old := false }, by decide, by decide, rfl, by decide, rfl, by decide⟩,
   ⟨rtp0 5,
     at_ { head0 with tim.source := .sync, gest.slots := ({ strm := some stream0, hist := [(0, some stream0)], merge.hi := some 69 } : Slot) :: List.replicate 15 {} },
     _, 0, { strm := stream0, cuts := true, old := false }, 69, by decide, by decide, rfl, by decide, rfl, by decide⟩,
   ⟨rtp0 5,
     at_ { head0 with tim.source := .sync, gest.slots := ({ strm := some stream0, hist := [(0, some stream0)], merge.hi := some 68, merge.used := [5] } : Slot) :: List.replicate 15 {} },
     _, 0, { strm := stream0, cuts := true, old := false }, 68, by decide, by decide, rfl, by decide, rfl, by decide⟩,
   ⟨rtp0 5, at_ head0, _, by decide, by decide, rfl, by decide⟩,
   ⟨15, 1, at_ { head0 with gest.slots := List.replicate 15 {} ++ [{ strm := some stream0, deliver := [true, false] }] }, stream0,
     { strm := some stream0, deliver := [true, false] }, by decide⟩,
   ⟨15, at_ { head0 with gest.slots := List.replicate 15 {} ++ [{ strm := some stream0 }] }, stream0, { strm := some stream0 }, by decide⟩,
   ⟨cmdOf [0, 0, 0, 0, 0, 0, 0, 0, 15, 0] .none, at_ head0, by decide⟩,
   ⟨cmdOf [0, 0, 0, 0, 0, 0, 0, 0, 15, 1] (.data streamBytes), at_ head0, streamBytes, by decide⟩,
   ⟨cmdOf [0, 0, 0, 0, 0, 0, 0, 0, 15, 1] (.data []), at_ head0, [], 1, by decide⟩,
   ⟨cmdOf [15] .none, at_ head0, {}, by decide⟩⟩

theorem test_meets_IngestServices :
    (∃ s : State, ∃ p : SacnPacket, ∃ d : Device, ingestOn s.dev = true ∧ (ingestIn p.rx s.dev).1 = true ∧ d = (ingestIn p.rx s.dev).2 ∧
      p.preview = true) ∧
    (∃ s : State, ∃ p : SacnPacket, ∃ d : Device, ingestOn s.dev = true ∧ (ingestIn p.rx s.dev).1 = true ∧ d = (ingestIn p.rx s.dev).2 ∧
      p.preview = false ∧ p.syncOrDisc = false ∧ p.slots.head? ≠ some 0xDD ∧ (routed d).any (fun u => u.univ == p.univ) = true ∧
      sacnTo d p = true ∧ p.priority ≤ 200 ∧ 1 ≤ p.slots.length ∧ p.slots.length ≤ 513 ∧ (∀ x ∈ sourcesOf d p.univ, x.cid ≠ p.cid) ∧
      p.terminated = false ∧ (sourcesOf d p.univ).length < 4) ∧
    (∃ s : State, ∃ p : SacnPacket, ∃ d : Device, ingestOn s.dev = true ∧ (ingestIn p.rx s.dev).1 = true ∧ d = (ingestIn p.rx s.dev).2 ∧
      p.preview = false ∧ p.syncOrDisc = false ∧ p.slots.head? ≠ some 0xDD ∧ (routed d).any (fun u => u.univ == p.univ) = true ∧
      sacnTo d p = true ∧ p.priority ≤ 200 ∧ 1 ≤ p.slots.length ∧ p.slots.length ≤ 513 ∧ (∀ x ∈ sourcesOf d p.univ, x.cid ≠ p.cid) ∧
      4 ≤ (sourcesOf d p.univ).length) ∧
    (∃ s : State, ∃ p : SacnPacket, ∃ d : Device, ∃ x, ingestOn s.dev = true ∧ (ingestIn p.rx s.dev).1 = true ∧ d = (ingestIn p.rx s.dev).2 ∧
      p.preview = false ∧ p.syncOrDisc = false ∧ p.slots.head? ≠ some 0xDD ∧ (routed d).any (fun u => u.univ == p.univ) = true ∧
      sacnTo d p = true ∧ p.priority ≤ 200 ∧ 1 ≤ p.slots.length ∧ p.slots.length ≤ 513 ∧ sourcesOf d p.univ = [x] ∧ x.cid = p.cid ∧
      -20 ≤ (p.seq - x.seq).toInt ∧ (p.seq - x.seq).toInt ≤ 0) ∧
    (∃ s : State, ∃ p : SacnPacket, ∃ d : Device, ∃ x, ingestOn s.dev = true ∧ (ingestIn p.rx s.dev).1 = true ∧ d = (ingestIn p.rx s.dev).2 ∧
      p.preview = false ∧ p.syncOrDisc = false ∧ p.slots.head? ≠ some 0xDD ∧ (routed d).any (fun u => u.univ == p.univ) = true ∧
      sacnTo d p = true ∧ p.priority ≤ 200 ∧ 1 ≤ p.slots.length ∧ p.slots.length ≤ 513 ∧ sourcesOf d p.univ = [x] ∧ x.cid = p.cid ∧
      ((p.seq - x.seq).toInt < -20 ∨ 0 < (p.seq - x.seq).toInt) ∧ p.terminated = false) ∧
    (∃ s : State, ∃ p : SacnPacket, ∃ d : Device, ∃ x, ingestOn s.dev = true ∧ (ingestIn p.rx s.dev).1 = true ∧ d = (ingestIn p.rx s.dev).2 ∧
      p.preview = false ∧ p.syncOrDisc = false ∧ p.slots.head? ≠ some 0xDD ∧ (routed d).any (fun u => u.univ == p.univ) = true ∧
      sacnTo d p = true ∧ p.priority ≤ 200 ∧ 1 ≤ p.slots.length ∧ p.slots.length ≤ 513 ∧ sourcesOf d p.univ = [x] ∧ x.cid = p.cid ∧
      ((p.seq - x.seq).toInt < -20 ∨ 0 < (p.seq - x.seq).toInt) ∧ p.terminated = true) ∧
    (∃ s : State, ∃ u : Nat, ∃ cid : Nat, ∃ x : SacnSource, ingestOn s.dev = true ∧ sourcesOf s.dev u = [x] ∧ x.cid = cid) ∧
    (∃ s : State, ∃ x : IngRx, ∃ d : Device, ingestOn s.dev = true ∧ (ingestIn x s.dev).1 = true ∧ d = (ingestIn x s.dev).2 ∧
      (d.ingPort x.port.val).up = true ∧ macsecOn d x.port.val = false ∧ (d.ingPort x.port.val).pause = 0) ∧
    (∃ s : State, ∃ x : IngRx, ∃ d : Device, ingestOn s.dev = true ∧ (ingestIn x s.dev).1 = true ∧ d = (ingestIn x s.dev).2 ∧
      (d.ingPort x.port.val).up = true ∧ macsecOn d x.port.val = false ∧ (d.ingPort x.port.val).pause = 0) ∧
    (∃ s : State, ∃ x : IngRx, ∃ d : Device, ∃ ip, ingestOn s.dev = true ∧ (ingestIn x s.dev).1 = true ∧ d = (ingestIn x s.dev).2 ∧
      ip ≠ portIp d x.port.val) ∧
    (∃ s : State, ∃ x : IngRx, ∃ d : Device, ∃ why : IngestOdd, ingestOn s.dev = true ∧ (ingestIn x s.dev).1 = true ∧ d = (ingestIn x s.dev).2 ∧
      (why = .fragment ∨ why = .foreign)) ∧
    (∃ s : State, ∃ x : IngRx, ∃ why : IngestOdd, ∃ cls : Nat, ingestOn s.dev = true ∧ (s.dev.ingPort x.port.val).up = true ∧
      (s.dev.ingPort x.port.val).queue.gap = none ∧ s.dev.ing.length = 2 ∧ ((why = .badFcs ∧ cls = 0) ∨ (why = .runt ∧
      cls = 1) ∨ (why = .oversize ∧ cls = 2))) :=
  ⟨⟨at_ head0, { sacn0 0 false with preview := true }, _, by decide, by decide, rfl, by decide⟩,
   ⟨at_ head0, sacn0 0 false, _, by decide +kernel, by decide +kernel, rfl, by decide +kernel⟩,
   ⟨at_ { head0 with gest.univs := [{ univ := 1, sources := List.replicate 4 { src0 with cid := 8 } }] }, sacn0 0 false, _, by decide +kernel,
     by decide +kernel, rfl, by decide +kernel⟩,
   ⟨at_ { head0 with gest.univs := [{ univ := 1, sources := [src0] }] }, sacn0 0x6C false, _, src0, by decide +kernel, by decide +kernel, rfl,
     by decide +kernel⟩,
   ⟨at_ { head0 with gest.univs := [{ univ := 1, sources := [src0] }] }, sacn0 0x6B false, _, src0, by decide +kernel, by decide +kernel, rfl,
     by decide +kernel⟩,
   ⟨at_ { head0 with gest.univs := [{ univ := 1, sources := [src0] }] }, sacn0 0x81 true, _, src0, by decide +kernel, by decide +kernel, rfl,
     by decide +kernel⟩,
   ⟨at_ { head0 with gest.univs := [{ univ := 1, sources := [src0] }] }, 1, 9, src0, by decide⟩,
   ⟨at_ head0, rx0, _, by decide, by decide, rfl, by decide⟩,
   ⟨at_ head0, rx0, _, by decide, by decide, rfl, by decide⟩,
   ⟨at_ head0, rx0, _, 1, by decide, by decide, rfl, by decide⟩,
   ⟨at_ head0, rx0, _, .fragment, by decide, by decide, rfl, by decide⟩,
   ⟨at_ head0, rx0, .oversize, 2, by decide⟩⟩

theorem meets_BulkEntries_1 : ∃ s : State, ∃ b : List Byte, ∃ slot : Nat, ∃ c : BitVec 32, ∃ out : BulkEntry, s.dev.isHead = true ∧
    ingestOn s.dev = true ∧ served s.dev = true ∧ bulkSlots s.dev ≠ 0 ∧ s.dev.hif.badB = none ∧ s.dev.hif.fetchB ≠ s.dev.hif.b ∧
    s.dev.tim.firstLock = true ∧ le b 0x1C 4 = s.dev.hif.fetchB.toNat ∧ slot = le b 0 1 ∧ c = BitVec.ofNat 32 (le b 4 4) ∧
    out = { pos := s.dev.hif.fetchB, slot := slot, content := c, addr := le b 8 8, tag := BitVec.ofNat 32 (le b 0x10 4), status := 0, done := true } ∧
    le b 8 8 % 64 ≠ 0 :=
  ⟨at_ { head0 with hif.badB := none, tim.firstLock := true }, bulkBytes 100 1, _, _, _, by decide, by decide, by decide, by decide, by decide,
    by decide, by decide, by decide, rfl, rfl, rfl, by decide⟩

theorem meets_BulkEntries_2 : ∃ s : State, ∃ b : List Byte, ∃ slot : Nat, ∃ c : BitVec 32, ∃ out : BulkEntry, s.dev.isHead = true ∧
    ingestOn s.dev = true ∧ served s.dev = true ∧ bulkSlots s.dev ≠ 0 ∧ s.dev.hif.badB = none ∧ s.dev.hif.fetchB ≠ s.dev.hif.b ∧
    s.dev.tim.firstLock = true ∧ le b 0x1C 4 = s.dev.hif.fetchB.toNat ∧ slot = le b 0 1 ∧ c = BitVec.ofNat 32 (le b 4 4) ∧
    out = { pos := s.dev.hif.fetchB, slot := slot, content := c, addr := le b 8 8, tag := BitVec.ofNat 32 (le b 0x10 4), status := 0, done := true } ∧
    le b 8 8 % 64 = 0 ∧ 16777216 < frameDiff c s.dev.clk.rp.frame :=
  ⟨at_ { head0 with hif.badB := none, tim.firstLock := true }, bulkBytes 0x01000065 64, _, _, _, by decide, by decide, by decide, by decide,
    by decide, by decide, by decide, by decide, rfl, rfl, rfl, by decide⟩

theorem meets_BulkEntries_3 : ∃ s : State, ∃ b : List Byte, ∃ slot : Nat, ∃ c : BitVec 32, ∃ out : BulkEntry, s.dev.isHead = true ∧
    ingestOn s.dev = true ∧ served s.dev = true ∧ bulkSlots s.dev ≠ 0 ∧ s.dev.hif.badB = none ∧ s.dev.hif.fetchB ≠ s.dev.hif.b ∧
    s.dev.tim.firstLock = true ∧ le b 0x1C 4 = s.dev.hif.fetchB.toNat ∧ slot = le b 0 1 ∧ c = BitVec.ofNat 32 (le b 4 4) ∧
    out = { pos := s.dev.hif.fetchB, slot := slot, content := c, addr := le b 8 8, tag := BitVec.ofNat 32 (le b 0x10 4), status := 0, done := true } ∧
    le b 8 8 % 64 = 0 ∧ frameDiff c s.dev.clk.rp.frame ≤ 16777216 ∧
    s.dev.clk.rp.reached { frame := c + BitVec.ofNat 32 (presentP s.dev) - 1, line := cutLine s.dev, sub := 0 } = true :=
  ⟨at_ { head0 with hif.badB := none, tim.firstLock := true }, bulkBytes 1 64, _, _, _, by decide, by decide, by decide, by decide, by decide,
    by decide, by decide, by decide, rfl, rfl, rfl, by decide⟩

theorem meets_BulkEntries_4 : ∃ s : State, ∃ b : List Byte, ∃ slot : Nat, ∃ c : BitVec 32, ∃ out : BulkEntry, s.dev.isHead = true ∧
    ingestOn s.dev = true ∧ served s.dev = true ∧ bulkSlots s.dev ≠ 0 ∧ s.dev.hif.badB = none ∧ s.dev.hif.fetchB ≠ s.dev.hif.b ∧
    s.dev.tim.firstLock = true ∧ le b 0x1C 4 = s.dev.hif.fetchB.toNat ∧ slot = le b 0 1 ∧ c = BitVec.ofNat 32 (le b 4 4) ∧
    out = { pos := s.dev.hif.fetchB, slot := slot, content := c, addr := le b 8 8, tag := BitVec.ofNat 32 (le b 0x10 4), status := 0, done := true } ∧
    le b 8 8 % 64 = 0 ∧ frameDiff c s.dev.clk.rp.frame ≤ 16777216 ∧
    s.dev.clk.rp.reached { frame := c + BitVec.ofNat 32 (presentP s.dev) - 1, line := cutLine s.dev, sub := 0 } = false ∧ slot ≤ 15 ∧
    s.dev.clk.rp.before (RP.start c) = true ∧ bulkTwice slot c s.dev = false :=
  ⟨at_ { head0 with hif.badB := none, tim.firstLock := true }, bulkBytes 200 64, _, _, _, by decide, by decide, by decide, by decide, by decide,
    by decide, by decide, by decide, rfl, rfl, rfl, by decide⟩

theorem meets_BulkEntries_5 : ∃ s : State, ∃ b : List Byte, ∃ slot : Nat, ∃ c : BitVec 32, ∃ out : BulkEntry, ∃ r, ∃ m, ∃ ys, s.dev.isHead = true ∧
    ingestOn s.dev = true ∧ served s.dev = true ∧ bulkSlots s.dev ≠ 0 ∧ s.dev.hif.badB = none ∧ s.dev.hif.fetchB ≠ s.dev.hif.b ∧
    s.dev.tim.firstLock = true ∧ le b 0x1C 4 = s.dev.hif.fetchB.toNat ∧ slot = le b 0 1 ∧ c = BitVec.ofNat 32 (le b 4 4) ∧
    out = { pos := s.dev.hif.fetchB, slot := slot, content := c, addr := le b 8 8, tag := BitVec.ofNat 32 (le b 0x10 4), status := 0, done := true } ∧
    le b 8 8 % 64 = 0 ∧ frameDiff c s.dev.clk.rp.frame ≤ 16777216 ∧
    s.dev.clk.rp.reached { frame := c + BitVec.ofNat 32 (presentP s.dev) - 1, line := cutLine s.dev, sub := 0 } = false ∧
    s.dev.clk.rp.before (RP.start c) = false ∧ slot ≤ 15 ∧ recFor (slotOf s.dev slot) c = some r ∧ r.kind = 2 ∧ s.dev.gest.slots.length = 16 ∧
    (∀ x ∈ s.dev.hif.bulk, x.pos ≠ s.dev.hif.fetchB) ∧ cutMap s.dev c = some m ∧ ys = bulkLines s.dev slot r m ∧ bulkTwice slot c s.dev = true :=
  ⟨at_ { headBulk with gest.slots := List.replicate 15 {} ++ [{ strm := some { stream0 with kind := 2 }, hist := [(0, some { stream0 with kind := 2 })], stamps := [(0, 100)] }] },
    bulkBytes 100 64, _, _, _, { stream0 with kind := 2 }, mapBulk, [0, 1], by decide, by decide, by decide, by decide, by decide, by decide,
    by decide, by decide, rfl, rfl, rfl, by decide +kernel⟩

theorem meets_BulkEntries_6 : ∃ s : State, ∃ b : List Byte, ∃ slot : Nat, ∃ c : BitVec 32, ∃ out : BulkEntry, ∃ r, ∃ m, ∃ ys, s.dev.isHead = true ∧
    ingestOn s.dev = true ∧ served s.dev = true ∧ bulkSlots s.dev ≠ 0 ∧ s.dev.hif.badB = none ∧ s.dev.hif.fetchB ≠ s.dev.hif.b ∧
    s.dev.tim.firstLock = true ∧ le b 0x1C 4 = s.dev.hif.fetchB.toNat ∧ slot = le b 0 1 ∧ c = BitVec.ofNat 32 (le b 4 4) ∧
    out = { pos := s.dev.hif.fetchB, slot := slot, content := c, addr := le b 8 8, tag := BitVec.ofNat 32 (le b 0x10 4), status := 0, done := true } ∧
    le b 8 8 % 64 = 0 ∧ frameDiff c s.dev.clk.rp.frame ≤ 16777216 ∧
    s.dev.clk.rp.reached { frame := c + BitVec.ofNat 32 (presentP s.dev) - 1, line := cutLine s.dev, sub := 0 } = false ∧
    s.dev.clk.rp.before (RP.start c) = false ∧ slot ≤ 15 ∧ recFor (slotOf s.dev slot) c = some r ∧ r.kind = 2 ∧ s.dev.gest.slots.length = 16 ∧
    (∀ x ∈ s.dev.hif.bulk, x.pos ≠ s.dev.hif.fetchB) ∧ cutMap s.dev c = some m ∧ ys = bulkLines s.dev slot r m ∧ bulkTwice slot c s.dev = false :=
  ⟨at_ headBulk, bulkBytes 100 64, _, _, _, { stream0 with kind := 2 }, mapBulk, [0, 1], by decide, by decide, by decide, by decide, by decide,
    by decide, by decide, by decide, rfl, rfl, rfl, by decide +kernel⟩

theorem meets_BulkEntries_7 : ∃ s : State, ∃ x, ∃ r, s.dev.isHead = true ∧ s.dev.hif.bulk = x :: r ∧ x.done = true :=
  ⟨at_ { head0 with hif.bulk := [{ pos := 0, slot := 15, content := 100, addr := 64, tag := 0, status := 0, done := true }] },
    { pos := 0, slot := 15, content := 100, addr := 64, tag := 0, status := 0, done := true }, [], by decide⟩

theorem meets_BulkEntries_8 : ∃ s : State, ∃ x, ∃ r, s.dev.isHead = true ∧ s.dev.hif.bulk = x :: r ∧ x.done = false :=
  ⟨at_ { head0 with hif.bulk := [{ pos := 0, slot := 15, content := 100, addr := 64, tag := 0, status := 0, done := false }] },
    { pos := 0, slot := 15, content := 100, addr := 64, tag := 0, status := 0, done := false }, [], by decide⟩

theorem test_meets_BulkEntries :
    (∃ s : State, ∃ b : List Byte, ∃ slot : Nat, ∃ c : BitVec 32, ∃ out : BulkEntry, s.dev.isHead = true ∧ ingestOn s.dev = true ∧
      served s.dev = true ∧ bulkSlots s.dev ≠ 0 ∧ s.dev.hif.badB = none ∧ s.dev.hif.fetchB ≠ s.dev.hif.b ∧ s.dev.tim.firstLock = true ∧
      le b 0x1C 4 = s.dev.hif.fetchB.toNat ∧ slot = le b 0 1 ∧ c = BitVec.ofNat 32 (le b 4 4) ∧
      out = { pos := s.dev.hif.fetchB, slot := slot, content := c, addr := le b 8 8, tag := BitVec.ofNat 32 (le b 0x10 4), status := 0, done := true } ∧
      le b 8 8 % 64 ≠ 0) ∧
    (∃ s : State, ∃ b : List Byte, ∃ slot : Nat, ∃ c : BitVec 32, ∃ out : BulkEntry, s.dev.isHead = true ∧ ingestOn s.dev = true ∧
      served s.dev = true ∧ bulkSlots s.dev ≠ 0 ∧ s.dev.hif.badB = none ∧ s.dev.hif.fetchB ≠ s.dev.hif.b ∧ s.dev.tim.firstLock = true ∧
      le b 0x1C 4 = s.dev.hif.fetchB.toNat ∧ slot = le b 0 1 ∧ c = BitVec.ofNat 32 (le b 4 4) ∧
      out = { pos := s.dev.hif.fetchB, slot := slot, content := c, addr := le b 8 8, tag := BitVec.ofNat 32 (le b 0x10 4), status := 0, done := true } ∧
      le b 8 8 % 64 = 0 ∧ 16777216 < frameDiff c s.dev.clk.rp.frame) ∧
    (∃ s : State, ∃ b : List Byte, ∃ slot : Nat, ∃ c : BitVec 32, ∃ out : BulkEntry, s.dev.isHead = true ∧ ingestOn s.dev = true ∧
      served s.dev = true ∧ bulkSlots s.dev ≠ 0 ∧ s.dev.hif.badB = none ∧ s.dev.hif.fetchB ≠ s.dev.hif.b ∧ s.dev.tim.firstLock = true ∧
      le b 0x1C 4 = s.dev.hif.fetchB.toNat ∧ slot = le b 0 1 ∧ c = BitVec.ofNat 32 (le b 4 4) ∧
      out = { pos := s.dev.hif.fetchB, slot := slot, content := c, addr := le b 8 8, tag := BitVec.ofNat 32 (le b 0x10 4), status := 0, done := true } ∧
      le b 8 8 % 64 = 0 ∧ frameDiff c s.dev.clk.rp.frame ≤ 16777216 ∧
      s.dev.clk.rp.reached { frame := c + BitVec.ofNat 32 (presentP s.dev) - 1, line := cutLine s.dev, sub := 0 } = true) ∧
    (∃ s : State, ∃ b : List Byte, ∃ slot : Nat, ∃ c : BitVec 32, ∃ out : BulkEntry, s.dev.isHead = true ∧ ingestOn s.dev = true ∧
      served s.dev = true ∧ bulkSlots s.dev ≠ 0 ∧ s.dev.hif.badB = none ∧ s.dev.hif.fetchB ≠ s.dev.hif.b ∧ s.dev.tim.firstLock = true ∧
      le b 0x1C 4 = s.dev.hif.fetchB.toNat ∧ slot = le b 0 1 ∧ c = BitVec.ofNat 32 (le b 4 4) ∧
      out = { pos := s.dev.hif.fetchB, slot := slot, content := c, addr := le b 8 8, tag := BitVec.ofNat 32 (le b 0x10 4), status := 0, done := true } ∧
      le b 8 8 % 64 = 0 ∧ frameDiff c s.dev.clk.rp.frame ≤ 16777216 ∧
      s.dev.clk.rp.reached { frame := c + BitVec.ofNat 32 (presentP s.dev) - 1, line := cutLine s.dev, sub := 0 } = false ∧ slot ≤ 15 ∧
      s.dev.clk.rp.before (RP.start c) = true ∧ bulkTwice slot c s.dev = false) ∧
    (∃ s : State, ∃ b : List Byte, ∃ slot : Nat, ∃ c : BitVec 32, ∃ out : BulkEntry, ∃ r, ∃ m, ∃ ys, s.dev.isHead = true ∧ ingestOn s.dev = true ∧
      served s.dev = true ∧ bulkSlots s.dev ≠ 0 ∧ s.dev.hif.badB = none ∧ s.dev.hif.fetchB ≠ s.dev.hif.b ∧ s.dev.tim.firstLock = true ∧
      le b 0x1C 4 = s.dev.hif.fetchB.toNat ∧ slot = le b 0 1 ∧ c = BitVec.ofNat 32 (le b 4 4) ∧
      out = { pos := s.dev.hif.fetchB, slot := slot, content := c, addr := le b 8 8, tag := BitVec.ofNat 32 (le b 0x10 4), status := 0, done := true } ∧
      le b 8 8 % 64 = 0 ∧ frameDiff c s.dev.clk.rp.frame ≤ 16777216 ∧
      s.dev.clk.rp.reached { frame := c + BitVec.ofNat 32 (presentP s.dev) - 1, line := cutLine s.dev, sub := 0 } = false ∧
      s.dev.clk.rp.before (RP.start c) = false ∧ slot ≤ 15 ∧ recFor (slotOf s.dev slot) c = some r ∧ r.kind = 2 ∧ s.dev.gest.slots.length = 16 ∧
      (∀ x ∈ s.dev.hif.bulk, x.pos ≠ s.dev.hif.fetchB) ∧ cutMap s.dev c = some m ∧ ys = bulkLines s.dev slot r m ∧ bulkTwice slot c s.dev = true) ∧
    (∃ s : State, ∃ b : List Byte, ∃ slot : Nat, ∃ c : BitVec 32, ∃ out : BulkEntry, ∃ r, ∃ m, ∃ ys, s.dev.isHead = true ∧ ingestOn s.dev = true ∧
      served s.dev = true ∧ bulkSlots s.dev ≠ 0 ∧ s.dev.hif.badB = none ∧ s.dev.hif.fetchB ≠ s.dev.hif.b ∧ s.dev.tim.firstLock = true ∧
      le b 0x1C 4 = s.dev.hif.fetchB.toNat ∧ slot = le b 0 1 ∧ c = BitVec.ofNat 32 (le b 4 4) ∧
      out = { pos := s.dev.hif.fetchB, slot := slot, content := c, addr := le b 8 8, tag := BitVec.ofNat 32 (le b 0x10 4), status := 0, done := true } ∧
      le b 8 8 % 64 = 0 ∧ frameDiff c s.dev.clk.rp.frame ≤ 16777216 ∧
      s.dev.clk.rp.reached { frame := c + BitVec.ofNat 32 (presentP s.dev) - 1, line := cutLine s.dev, sub := 0 } = false ∧
      s.dev.clk.rp.before (RP.start c) = false ∧ slot ≤ 15 ∧ recFor (slotOf s.dev slot) c = some r ∧ r.kind = 2 ∧ s.dev.gest.slots.length = 16 ∧
      (∀ x ∈ s.dev.hif.bulk, x.pos ≠ s.dev.hif.fetchB) ∧ cutMap s.dev c = some m ∧ ys = bulkLines s.dev slot r m ∧ bulkTwice slot c s.dev = false) ∧
    (∃ s : State, ∃ x, ∃ r, s.dev.isHead = true ∧ s.dev.hif.bulk = x :: r ∧ x.done = true) ∧
    (∃ s : State, ∃ x, ∃ r, s.dev.isHead = true ∧ s.dev.hif.bulk = x :: r ∧ x.done = false) :=
  ⟨meets_BulkEntries_1, meets_BulkEntries_2, meets_BulkEntries_3, meets_BulkEntries_4, meets_BulkEntries_5, meets_BulkEntries_6, meets_BulkEntries_7, meets_BulkEntries_8⟩

theorem test_meets_EnginesArbitrated :
    (∃ s : State, s.dev.isNode = true ∧ s.dev.red.engines.any (fun e => e == .active) = true ∧ s.dev.red.testCmds = []) ∧
    (∃ a : Arb, ∃ s : State, ∃ x : Fin 3, ∃ k : Nat, s.dev.red.arbs = [a] ∧ a.cmd = none ∧ a.testing = false ∧ s.dev.red.engines.length = 3 ∧
      a.repeats = false ∧ engineOf s.dev x.val = .active ∧ standbyEngine s.dev = some k) ∧
    (∃ a : Arb, ∃ s : State, s.dev.red.arbs = [a] ∧ a.cmd = none ∧ a.testing = false ∧ s.dev.red.engines.length = 3 ∧ a.repeats = true) ∧
    (∃ a : Arb, ∃ s : State, s.dev.red.arbs = [a] ∧ a.cmd = none ∧ a.testing = false ∧ s.dev.red.engines.length = 3 ∧ a.repeats = true ∧
      pairServes s.dev = true) ∧
    (∃ a : Arb, ∃ p : RP, ∃ c : Cmd, ∃ s : State, ∃ x : Fin 3, ∃ k : Nat, s.dev.red.arbs = [a] ∧ a.cmd = some (p, c) ∧ a.testing = false ∧
      a.repeats = false ∧ s.dev.red.engines.length = 3 ∧ engineOf s.dev x.val = .active ∧ standbyEngine s.dev = some k) ∧
    (∃ a : Arb, ∃ s : State, s.dev.red.arbs = [a] ∧ a.cmd = none ∧ a.testing = true ∧ s.dev.red.engines.length = 3 ∧ engineOf s.dev 0 = .active) ∧
    (∃ x : Fin 3, ∃ s : State, s.dev.red.engines.length = 3 ∧ s.dev.red.passes.length = 3 ∧ engineOf s.dev x.val = .retired ∧
      thriceRetired s.dev (s.dev.red.retireLog.getD x.val []) = false ∧ 999 ≤ nth s.dev.red.passes x.val) ∧
    (∃ x : Fin 3, ∃ s : State, s.dev.red.engines.length = 3 ∧ s.dev.red.passes.length = 3 ∧ engineOf s.dev x.val = .retired ∧
      thriceRetired s.dev (s.dev.red.retireLog.getD x.val []) = false ∧ nth s.dev.red.passes x.val < 999) ∧
    (∃ x : Fin 3, ∃ s : State, s.dev.red.engines.length = 3 ∧ s.dev.red.passes.length = 3 ∧
      (engineOf s.dev x.val = .standby ∨ engineOf s.dev x.val = .retired)) ∧
    (∃ x : Fin 3, ∃ s : State, s.dev.red.engines.length = 3 ∧ s.dev.red.passes.length = 3 ∧
      (engineOf s.dev x.val = .standby ∨ engineOf s.dev x.val = .retired)) :=
  ⟨⟨at_ { node5 with red.testCmds := [] }, by decide⟩,
   ⟨arb0 false false, at_ { node5 with red.arbs := [(arb0 false false)] }, 1, 2, by decide⟩,
   ⟨{ arb0 false false with cmd := none, testing := false, repeats := true },
     at_ { node5 with red.arbs := [{ arb0 false false with cmd := none, testing := false, repeats := true }] }, by decide⟩,
   ⟨{ arb0 false false with cmd := none, testing := false, repeats := true },
     at_ { node5 with red.arbs := [{ arb0 false false with cmd := none, testing := false, repeats := true }] }, by decide⟩,
   ⟨{ arb0 false false with cmd := some (rp0, cmd0) }, rp0, cmd0, at_ { node5 with red.arbs := [{ arb0 false false with cmd := some (rp0, cmd0) }] },
     1, 2, by decide⟩,
   ⟨{ arb0 false false with cmd := none, testing := true }, at_ { node5 with red.arbs := [{ arb0 false false with cmd := none, testing := true }] },
     by decide⟩,
   ⟨2, at_ { node5 with red.engines := [.active, .active, .retired], red.passes := [0, 0, 999] }, by decide⟩,
   ⟨2, at_ { node5 with red.engines := [.active, .active, .retired], red.passes := [0, 0, 998] }, by decide⟩,
   ⟨2, at_ node5, by decide⟩,
   ⟨2, at_ node5, by decide⟩⟩

theorem test_meets_CopiesAndPlls :
    (∃ s : State, ∃ x : CopyState, ∃ y : CopyState, s.dev.red.copies = [x, y] ∧ copyServes s.dev 0 = true ∧ copyServes s.dev 1 = true ∧
      s.dev.red.hold = none ∧ s.dev.red.copyLog = [[], []]) ∧
    (∃ f : Fin 7, ∃ s : State, s.dev.red.pllStandby.length = 7 ∧ s.dev.red.pllUse.length = 7 ∧ s.dev.red.pllStandby.getD f.val false = true) ∧
    (∃ f : Fin 7, ∃ s : State, s.dev.red.pllStandby.length = 7 ∧ s.dev.red.pllUse.length = 7 ∧ s.dev.red.pllStandby.getD f.val false = false) ∧
    (∃ h : OutHold, ∃ s : State, s.dev.red.hold = some h) ∧
    (∃ c : Fin 2, ∃ s : State, s.dev.red.copies.getD c.val .failed = .retired ∧ s.dev.spare.out24.contains c.val = false) :=
  ⟨⟨at_ { node5 with red.copies := [.driving, .driving], red.hold := none, red.copyLog := [[], []] }, .driving, .driving, by decide⟩,
   ⟨6, at_ node5, by decide⟩,
   ⟨6, at_ { node5 with red.pllStandby := List.replicate 6 true ++ [false] }, by decide⟩,
   ⟨{ cause := 1, onset := rp0 }, at_ { node5 with red.hold := some { cause := 1, onset := rp0 } }, by decide⟩,
   ⟨1, at_ { node5 with red.copies := [.driving, .retired] }, by decide⟩⟩

theorem test_meets_RedundancyCommands :
    (∃ c : Cmd, ∃ s : State, opB c 0 = 0 ∧ s.dev.isNode = true ∧ opB c 1 ≤ 2 ∧ engineOf s.dev (opB c 1) = .active ∧
      (standbyEngine s.dev).isSome = true) ∧
    (∃ c : Cmd, ∃ s : State, opB c 0 = 1 ∧ probeSkipped s.dev false = false) ∧
    (∃ c : Cmd, 1 < opB c 0) :=
  ⟨⟨cmdOf [0, 1] .none, at_ node5, by decide⟩,
   ⟨cmdOf [1] .none, at_ node5, by decide⟩,
   ⟨cmdOf [2] .none, by decide⟩⟩

theorem test_meets_HealthCommands :
    (∃ c : Cmd, ∃ s : State, ∃ p, ∃ lane, (p = 0 ∨ p = 1) ∧ opB c 0 = 8 + p ∧ deferredOn s.dev (8 + p) = [lane] ∧ spareLeft s.dev 5 0 ≠ 0) ∧
    (∃ c : Cmd, ∃ s : State, ∃ p, (p = 0 ∨ p = 1) ∧ opB c 0 = 8 + p ∧ deferredOn s.dev (8 + p) = []) ∧
    (∃ c : Cmd, opB c 0 ≠ 8 ∧ opB c 0 ≠ 9) :=
  ⟨⟨cmdOf [9] .none, at_ { node5 with spare.deferred := [12] }, 1, 12, by decide⟩,
   ⟨cmdOf [9] .none, at_ node5, 1, by decide⟩,
   ⟨cmdOf [] .none, by decide⟩⟩

theorem test_meets_SparesBroughtIn :
    (∃ s : State, ∃ w : Nat, s.dev.spare.eyes.length = 16 ∧ s.dev.spare.eyeLow.length = 16 ∧ 200 ≤ w) ∧
    (∃ s : State, ∃ lane : Fin 16, ∃ w : Nat, s.dev.spare.eyes.length = 16 ∧ s.dev.spare.eyeLow.length = 16 ∧ w < 200 ∧
      nth s.dev.spare.eyeLow lane.val = 2 ∧ s.dev.spare.eyeSwap.getD lane.val false = false ∧ s.dev.spare.eyeBar.getD lane.val false = false ∧
      s.dev.spare.sliceGone.contains lane.val = false ∧ lane.val < 8 ∧ spareLeft s.dev 5 0 ≠ 0) ∧
    (∃ s : State, ∃ lane : Fin 16, ∃ w : Nat, s.dev.spare.eyes.length = 16 ∧ s.dev.spare.eyeLow.length = 16 ∧ w < 200 ∧
      nth s.dev.spare.eyeLow lane.val = 2 ∧ s.dev.spare.eyeSwap.getD lane.val false = false ∧ s.dev.spare.eyeBar.getD lane.val false = false ∧
      s.dev.spare.sliceGone.contains lane.val = false ∧ lane.val < 8 ∧ spareLeft s.dev 5 0 = 0) ∧
    (∃ s : State, ∃ lane : Fin 16, spareLeft s.dev 6 lane.val ≠ 0) ∧
    (∃ s : State, ∃ p : Fin 6, (usesOf s.dev 8).any (fun u => u.unit == p.val) = false) ∧
    (∃ s : State, ∃ p : Fin 98, (usesOf s.dev 7).any (fun u => u.unit == p.val) = false) ∧
    (∃ s : State, ∃ c : Fin 5, s.dev.spare.coreOut.contains c.val = false ∧ coreDue s.dev c.val = false) ∧
    (∃ s : State, ∃ c : Fin 5, s.dev.spare.coreOut.contains c.val = false ∧ coreDue s.dev c.val = true) ∧
    (∃ us : Nat, us ≤ 0xFFFFFFFF) ∧
    (∃ s : State, ∃ x : CalError, ∃ p : Nat, ∃ r : Nat, x.uncorrected = true ∧ s.dev.corr.poison = [] ∧ s.dev.spare.repaired = [] ∧
      p = (recordNow s.dev).primaries ∧ r = calRegion p x.word ∧ x.word < calWords ∧ r ≠ 4) ∧
    (∃ s : State, s.dev.pxl.graph = none) ∧
    (∃ s : State, ∃ ys : List (Nat × Nat), ∃ g : Graph, s.dev.pxl.graph = some g ∧ (∀ x ∈ ys, g.released ≤ segIndex g.record x.1 x.2)) ∧
    (∃ s : State, ∃ x, s.dev.corr.poison = [x]) :=
  ⟨⟨at_ node5, 200, by decide⟩,
   ⟨at_ { node5 with spare.eyeLow := List.replicate 7 0 ++ [2] ++ List.replicate 8 0 }, 7, 199, by decide⟩,
   ⟨at_ { node5 with spare.eyeLow := List.replicate 7 0 ++ [2] ++ List.replicate 8 0, spare.uses := List.replicate 4 { kind := 5, unit := 0, at_ := 0 } },
     7, 199, by decide⟩,
   ⟨at_ node5, 0, by decide⟩,
   ⟨at_ node5, 0, by decide⟩,
   ⟨at_ node5, 0, by decide⟩,
   ⟨at_ node5, 0, by decide⟩,
   ⟨at_ { node5 with spare.coreLog := List.replicate 5 (List.replicate 16 0) }, 0, by decide⟩,
   ⟨0xFFFFFFFF, by decide⟩,
   ⟨at_ { node5 with corr.poison := [], spare.repaired := [] }, { word := 0, uncorrected := true }, _, _, by decide, by decide, by decide, rfl, rfl,
     by decide⟩,
   ⟨at_ { node5 with pxl.graph := none }, by decide⟩,
   ⟨at_ { node5 with pxl.graph := some { frame := 101, record := rec4, layers := [], corr := {}, voids := [] } }, [(0, 0)],
     { frame := 101, record := rec4, layers := [], corr := {}, voids := [] }, by decide⟩,
   ⟨at_ { node5 with corr.poison := [0] }, 0, by decide⟩⟩

theorem test_meets_RecordsKept :
    (∃ s : State, s.dev.isNode = true ∧ s.dev.corr.wear.frozen = false ∧ s.dev.corr.passing = false ∧ s.dev.corr.phase = none) ∧
    (∃ s : State, s.dev.isNode = true ∧ s.dev.corr.wear.frozen = false ∧ s.dev.corr.passing = true) ∧
    (∃ s : State, s.dev.corr.corrDirty = true ∧ s.dev.corr.corrWriting = none) ∧
    (∃ s : State, ∃ a, ∃ r, s.dev.corr.corrWriting = some (a, r)) ∧
    (∃ s : State, s.dev.isNode = true ∧ s.dev.corr.expoSave = none) ∧
    (∃ s : State, s.dev.isNode = true ∧ s.dev.corr.expoSave = none) ∧
    (∃ s : State, s.dev.isNode = false) ∧
    (∃ s : State, ∃ x, ∃ p, ∃ c, s.dev.corr.expoSave = some x ∧ x.cmd = some (p, c) ∧ s.dev.corr.expoCmds = [] ∧ s.dev.corr.expoDue = false) :=
  ⟨⟨at_ { node5 with corr.wear.frozen := false, corr.passing := false, corr.phase := none }, by decide⟩,
   ⟨at_ { node5 with corr.wear.frozen := false, corr.passing := true }, by decide⟩,
   ⟨at_ { node5 with corr.corrDirty := true, corr.corrWriting := none }, by decide⟩,
   ⟨at_ { node5 with corr.corrWriting := some (1, { seq := 1, primaries := 3, width := 4, height := 2, wear := {}, encLuts := [], matrix := [] }) },
     1, { seq := 1, primaries := 3, width := 4, height := 2, wear := {}, encLuts := [], matrix := [] }, by decide⟩,
   ⟨at_ { node5 with corr.expoSave := none }, by decide⟩,
   ⟨at_ { node5 with corr.expoSave := none }, by decide⟩,
   ⟨at_ head0, by decide⟩,
   ⟨at_ { node5 with corr.expoSave := some { area := 1, cmd := some (rp0, cmd0), erec := expo0 }, corr.expoCmds := [], corr.expoDue := false },
     { area := 1, cmd := some (rp0, cmd0), erec := expo0 }, rp0, cmd0, by decide⟩⟩

theorem test_meets_CorrectionCommands :
    (∃ s : State, ∃ c : Cmd, ∃ b : List Byte, s.dev.isNode = true ∧ misaligned c = false ∧ c.host = .data b ∧ (recordNow s.dev).width ≠ 0 ∧
      ccmFits none s.dev = true ∧ sameWindow (some (recordNow s.dev)) (recordAt s.dev (nextDisplay s.dev)) = true) ∧
    (∃ s : State, ∃ c : Cmd, ∃ b : List Byte, s.dev.isNode = true ∧ misaligned c = false ∧ c.host = .data b ∧ (recordNow s.dev).width ≠ 0 ∧
      ccmFits none s.dev = true ∧ sameWindow (some (recordNow s.dev)) (recordAt s.dev (nextDisplay s.dev)) = false) ∧
    (∃ s : State, ∃ c : Cmd, ∃ b : List Byte, s.dev.isNode = true ∧ misaligned c = false ∧ c.host = .data b ∧
      opB c 9 < (recordAt s.dev (nextDisplay s.dev)).primaries) ∧
    (∃ s : State, ∃ c : Cmd, ∃ b : List Byte, s.dev.isNode = true ∧ misaligned c = false ∧ c.host = .data b ∧
      wearGood (recordNow s.dev).primaries b = true ∧ s.dev.cal.running.getD 1 none = none) ∧
    (∃ s : State, ∃ c : Cmd, ∃ b : List Byte, s.dev.isNode = true ∧ misaligned c = false ∧ c.host = .data b ∧
      wearGood (recordNow s.dev).primaries b = false) ∧
    (∃ s : State, ∃ k, s.dev.isNode = true ∧ expoSelected s.dev = some k) ∧
    (∃ s : State, ∃ k, s.dev.isNode = true ∧ expoSelected s.dev = some k) :=
  ⟨⟨at_ node5, cmdOf [] (.data []), [], by decide⟩,
   ⟨at_ { node5 with topo.next := [{ pair := 0, frame := 101, record := { rec4 with width := 8 }, gen := 10, headSet := 1, p := 2, c := 0 }] },
     cmdOf [] (.data []), [], by decide⟩,
   ⟨at_ node5, cmdOf [0, 0, 0, 0, 0, 0, 0, 0, 0, 2] (.data []), [], by decide⟩,
   ⟨at_ node5, cmdOf [] (.data wearBytes), wearBytes, by decide, by decide, rfl, wear_good, by decide⟩,
   ⟨at_ node5, cmdOf [] (.data []), [], by decide⟩,
   ⟨at_ node5, _, by decide, rfl⟩,
   ⟨at_ node5, _, by decide, rfl⟩⟩

theorem test_meets_DmxPortsServed :
    (∃ c : Cmd, ∃ s : State, ∃ n : NodeRecord, ∃ x : DmxPort, s.dev.isNode = true ∧ opB c 0 ≤ 15 ∧ s.dev.topo.record = some n ∧
      s.dev.fix.ports[opB c 0]? = some x ∧ x.running = none ∧ x.jobs = [] ∧ hasBit n.dmxMask (opB c 0) = true ∧
      dmxRanges s.dev.clk.raster (dmxRecOf c) = true ∧ dmxFits s.dev.clk.raster (dmxRecOf c) = true) ∧
    (∃ c : Cmd, ∃ s : State, ∃ n : NodeRecord, ∃ x : DmxPort, s.dev.isNode = true ∧ opB c 0 ≤ 15 ∧ s.dev.topo.record = some n ∧
      s.dev.fix.ports[opB c 0]? = some x ∧ x.running = none ∧ x.jobs = [] ∧ hasBit n.dmxMask (opB c 0) = true ∧
      dmxRanges s.dev.clk.raster (dmxRecOf c) = true ∧ dmxFits s.dev.clk.raster (dmxRecOf c) = false) ∧
    (∃ p : Fin 16, ∃ s : State, ∃ x : DmxPort, ∃ t : RP, ∃ r : RP, ∃ b, NoFades s.dev ∧ nextEntry s.dev = none ∧ fixturesOn s.dev = true ∧
      s.dev.clk.hold = none ∧ s.dev.fix.ports[p.val]? = some x ∧ x.drec.enable = true ∧ nextBreak s.dev x = some t ∧ r = (s.dev.clk.reach t).rp ∧
      x.busyTo = none ∧ x.running = none ∧ x.fault = false ∧ x.drec.rdm = false ∧ packetBytes x r.frame = some b) ∧
    (∃ p : Fin 16, ∃ s : State, ∃ x : DmxPort, ∃ t : RP, ∃ r : RP, ∃ j, NoFades s.dev ∧ nextEntry s.dev = none ∧ fixturesOn s.dev = true ∧
      s.dev.clk.hold = none ∧ s.dev.fix.ports[p.val]? = some x ∧ x.drec.enable = true ∧ nextBreak s.dev x = some t ∧ r = (s.dev.clk.reach t).rp ∧
      x.busyTo = none ∧ x.running = none ∧ x.fault = false ∧ x.drec.rdm = true ∧ x.drec.share ≤ x.since + 1 ∧ x.jobs = [j] ∧ j.discover = false ∧
      rdmBroadcast j.message = false) ∧
    (∃ p : Fin 16, ∃ s : State, ∃ x : DmxPort, ∃ n, fixturesOn s.dev = true ∧ s.dev.fix.ports[p.val]? = some x ∧ x.drec.enable = true ∧
      x.lost = false ∧ x.new = some n) ∧
    (∃ p : Fin 16, ∃ s : State, ∃ x : DmxPort, ∃ j : RdmJob, ∃ o : Fin 4, ∃ b : List Byte, fixturesOn s.dev = true ∧
      s.dev.fix.ports[p.val]? = some x ∧ x.running = some j ∧ (o.val = 0 ∨ b = [])) ∧
    (∃ p : Fin 16, ∃ s : State, ∃ x : DmxPort, ∃ uids, fixturesOn s.dev = true ∧ s.dev.fix.ports[p.val]? = some x ∧ x.drec.enable = true ∧
      x.drec.rdm = true ∧ x.jobs = [] ∧ s.dev.field 0x4814 11 0 ≠ 0 ∧ uids ≠ x.uids ∧ uids.length ≤ 64) ∧
    (∃ c : Cmd, ∃ s : State, ∃ x : DmxPort, ∃ b : List Byte, s.dev.isNode = true ∧ misaligned c = false ∧ opB c 8 ≤ 15 ∧ opB c 9 = 0 ∧
      s.dev.fix.ports[opB c 8]? = some x ∧ c.host = .data b ∧ be b 0 1 = 0xCC ∧ be b 1 1 = 1 ∧ 24 ≤ be b 2 1 ∧ (x.drec.enable && x.drec.rdm) = true) ∧
    (∃ c : Cmd, ∃ s : State, ∃ x : DmxPort, ∃ b : List Byte, s.dev.isNode = true ∧ misaligned c = false ∧ opB c 8 ≤ 15 ∧ opB c 9 = 0 ∧
      s.dev.fix.ports[opB c 8]? = some x ∧ c.host = .data b ∧ be b 0 1 = 0xCC ∧ be b 1 1 = 1 ∧ 24 ≤ be b 2 1 ∧
      (x.drec.enable && x.drec.rdm) = false) :=
  ⟨⟨cmdOf [15, 0, 16, 15, 0, 0, 0, 0, 0, 0, 0, 0, 1, 2, 100] .none,
     at_ { node5 with topo.record := some { rec4 with dmxMask := 0x8000 }, fix.ports := List.replicate 15 {} ++ [{ running := none, jobs := [] }] },
     { rec4 with dmxMask := 0x8000 }, { running := none, jobs := [] }, by decide⟩,
   ⟨cmdOf [15, 0, 1, 0, 0, 0, 0, 0, 0, 0, 0, 0, 1, 2, 100] .none,
     at_ { node5 with topo.record := some { rec4 with dmxMask := 0x8000 }, fix.ports := List.replicate 15 {} ++ [{ running := none, jobs := [] }] },
     { rec4 with dmxMask := 0x8000 }, { running := none, jobs := [] }, by decide⟩,
   ⟨15, at_ { node5 with clk.hold := none, fix.ports := List.replicate 15 {} ++ [{ drec.enable := true, new := some { stamp := 0, data := [7] } }] },
     { drec.enable := true, new := some { stamp := 0, data := [7] } }, _, _, _, by unfold NoFades; decide, by decide, by decide, by decide,
     by decide, by decide, rfl, rfl, by decide, by decide, by decide, by decide, rfl⟩,
   ⟨15,
     at_ { node5 with clk.hold := none, fix.ports := List.replicate 15 {} ++ [{ drec.enable := true, drec.rdm := true, since := 7, jobs := [rdm0 false] }] },
     { drec.enable := true, drec.rdm := true, since := 7, jobs := [rdm0 false] }, _, _, rdm0 false, by unfold NoFades; decide, by decide,
     by decide, by decide, by decide, by decide, rfl, rfl, by decide, by decide, by decide, by decide, by decide, by decide, by decide, by decide⟩,
   ⟨15, at_ { node5 with fix.ports := List.replicate 15 {} ++ [{ drec.enable := true, new := some { stamp := 0, data := [7] } }] },
     { drec.enable := true, new := some { stamp := 0, data := [7] } }, { stamp := 0, data := [7] }, by decide⟩,
   ⟨15, at_ { node5 with fix.ports := List.replicate 15 {} ++ [{ running := some (rdm0 true) }] }, { running := some (rdm0 true) }, rdm0 true, 0, [],
     by decide⟩,
   ⟨15, at_ { node5 with fix.ports := List.replicate 15 {} ++ [{ drec.enable := true, drec.rdm := true, jobs := [] }], regs := [(0x4814, 1)] },
     { drec.enable := true, drec.rdm := true, jobs := [] }, [1], by decide⟩,
   ⟨cmdOf [0, 0, 0, 0, 0, 0, 0, 0, 15, 0] (.data [0xCC, 1, 24]),
     at_ { node5 with fix.ports := List.replicate 15 {} ++ [{ drec.enable := true, drec.rdm := true }] },
     { drec.enable := true, drec.rdm := true }, [0xCC, 1, 24], by decide⟩,
   ⟨cmdOf [0, 0, 0, 0, 0, 0, 0, 0, 15, 0] (.data [0xCC, 1, 24]), at_ { node5 with fix.ports := List.replicate 15 {} ++ [{ drec.enable := true }] },
     { drec.enable := true }, [0xCC, 1, 24], by decide⟩⟩

theorem test_meets_StringsAndSensors :
    (∃ s : State, ∃ c : Cmd, ∃ x : StrChan, s.dev.isNode = true ∧ opB c 0 ≤ 15 ∧ bitsOf (opB c 1) 3 2 ≠ 3 ∧ opN c 2 2 ≤ 4095 ∧ 100 ≤ opN c 6 2 ∧
      opN c 6 2 ≤ 6000 ∧ s.dev.fix.strs[opB c 0]? = some x ∧ c.ops.length = 32) ∧
    (∃ s : State, ∃ ch : Fin 16, ∃ x : StrChan, s.dev.fix.strs[ch.val]? = some x ∧ strMay s.dev ch.val = true) ∧
    (∃ s : State, ∃ ch : Fin 16, ∃ x : StrChan, fixturesOn s.dev = true ∧ s.dev.fix.strs[ch.val]? = some x ∧ x.fault.isSome = true) ∧
    (∃ s : State, ∃ m : BoostMeas, fixturesOn s.dev = true ∧ s.dev.fix.stopped = false ∧ neediest s.dev m = none) ∧
    (∃ s : State, ∃ m : BoostMeas, ∃ ch : Nat, ∃ n : Nat, fixturesOn s.dev = true ∧ s.dev.fix.stopped = false ∧ neediest s.dev m = some (ch, n) ∧
      s.dev.fix.limited = false) ∧
    (∃ s : State, ∃ need, fixturesOn s.dev = true ∧ s.dev.fix.stopped = false ∧ s.dev.fix.limited = false ∧ vMax s.dev < need) ∧
    (∃ s : State, ∃ need, fixturesOn s.dev = true ∧ s.dev.fix.stopped = false ∧ s.dev.fix.limited = true ∧ need ≤ vMax s.dev) ∧
    (∃ s : State, ∃ cause : Fin 4, fixturesOn s.dev = true ∧ s.dev.fix.stopped = false ∧ (cause.val = 1 ∨ cause.val = 2)) ∧
    (∃ s : State, fixturesOn s.dev = true ∧ s.dev.fix.stopped = true) ∧
    (∃ s : State, ∃ dark : Reading, ∃ r : Reading, ∃ ch : Nat, ∃ x : StrChan, ∃ y : Int, fixturesOn s.dev = true ∧ s.dev.fix.strs[ch]? = some x ∧
      (List.range 16).filter (fun k => (strOf s.dev k).feedback && (strOf s.dev k).enable) = [ch] ∧ probeFits s.dev 1 = true ∧
      y = (inputOf r x.sensor : Int) - inputOf dark x.sensor ∧ x.rref = none) ∧
    (∃ s : State, ∃ dark : Reading, ∃ r : Reading, ∃ ch : Nat, ∃ x : StrChan, ∃ y : Int, ∃ q : Int, fixturesOn s.dev = true ∧
      s.dev.fix.strs[ch]? = some x ∧ (List.range 16).filter (fun k => (strOf s.dev k).feedback && (strOf s.dev k).enable) = [ch] ∧
      probeFits s.dev 1 = true ∧ y = (inputOf r x.sensor : Int) - inputOf dark x.sensor ∧ x.rref = some q ∧ q ≤ 8 * y ∧ 0 < y) ∧
    (∃ s : State, ∃ c : Cmd, s.dev.isNode = true ∧ 1 ≤ opN c 0 4 ∧ opN c 0 4 ≤ s.dev.clk.raster.frameSub) ∧
    (∃ s : State, ∃ r : Reading, ∃ at_ : RP, ∃ c : Cmd, s.dev.cal.win = none ∧ s.dev.fix.sensor = [(at_, c)] ∧ r.saturated = 0) ∧
    (∃ s : State, ∃ w : CalWin, s.dev.cal.win = some w ∧ w.lit = none) ∧
    (∃ s : State, s.dev.isNode = true ∧ s.dev.fix.dirty = true) :=
  ⟨⟨at_ { node5 with fix.strs := List.replicate 15 {} ++ [{}] }, cmdOf [15, 0, 255, 15, 0, 0, 112, 23] .none, {}, by decide⟩,
   ⟨at_ { node5 with fix.strs := List.replicate 15 {} ++ [{ enable := true }] }, 15, { enable := true }, by decide⟩,
   ⟨at_ { node5 with fix.strs := List.replicate 15 {} ++ [{ fault := some 0 }] }, 15, { fault := some 0 }, by decide⟩,
   ⟨at_ { node5 with fix.stopped := false }, { fb := 0, chans := [] }, by decide⟩,
   ⟨at_ { node5 with fix.stopped := false, fix.limited := false, fix.strs := List.replicate 15 {} ++ [{ enable := true, lit := some rp0 }] },
     { fb := 0, chans := [{ ch := 15, drain := 100, sense := 50 }] }, 15, 50, by decide⟩,
   ⟨at_ { node5 with fix.stopped := false, fix.limited := false }, 100000, by decide⟩,
   ⟨at_ { node5 with fix.stopped := false, fix.limited := true }, 0, by decide⟩,
   ⟨at_ { node5 with fix.stopped := false }, 1, by decide⟩,
   ⟨at_ { node5 with fix.stopped := true }, by decide⟩,
   ⟨at_ { node5 with fix.strs := List.replicate 15 {} ++ [{ enable := true, feedback := true }] }, read0, read0, 15,
     { enable := true, feedback := true }, _, by decide, by decide, by decide, by decide, rfl, by decide⟩,
   ⟨at_ { node5 with fix.strs := List.replicate 15 {} ++ [{ enable := true, feedback := true, rref := some 800 }] }, { read0 with x := 0 }, read0, 15,
     { enable := true, feedback := true, rref := some 800 }, _, 800, by decide, by decide, by decide, by decide, rfl, by decide⟩,
   ⟨at_ node5, cmdOf [1] .none, by decide⟩,
   ⟨at_ { node5 with cal.win := none, fix.sensor := [(rp0, (cmdOf [] .none))] }, { read0 with saturated := 0 }, rp0, cmdOf [] .none, by decide⟩,
   ⟨at_ { node5 with cal.win := some { sums := [], lit := none } }, { sums := [], lit := none }, by decide⟩,
   ⟨at_ { node5 with fix.dirty := true }, by decide⟩⟩

theorem test_meets_PatternsRun :
    (∃ s : State, ∃ n : Nat, ∃ x : PatEngine, ∃ c : Cmd, ∃ b : List Byte, NoFades s.dev ∧ s.dev.isNode = true ∧ n < 16 ∧
      s.dev.fix.pats[n]? = some x ∧ s.dev.fix.pats.length = 16 ∧ misaligned c = false ∧ opB c 8 = n ∧ c.host = .data b ∧
      (progWords b).findIdx? (fun w => (patOp w.toNat).isNone) = none) ∧
    (∃ s : State, ∃ n : Nat, ∃ x : PatEngine, ∃ c : Cmd, ∃ b : List Byte, ∃ i, NoFades s.dev ∧ s.dev.isNode = true ∧ n < 16 ∧
      s.dev.fix.pats[n]? = some x ∧ s.dev.fix.pats.length = 16 ∧ misaligned c = false ∧ opB c 8 = n ∧ c.host = .data b ∧
      (progWords b).findIdx? (fun w => (patOp w.toNat).isNone) = some i) ∧
    (∃ s : State, ∃ n : Nat, ∃ x : PatEngine, ∃ c : Cmd, NoFades s.dev ∧ s.dev.isNode = true ∧ n < 16 ∧ s.dev.fix.pats[n]? = some x ∧
      s.dev.fix.pats.length = 16 ∧ (List.range 16).filter (hasBit (opN c 0 2)) = [n] ∧ opB c 4 ≤ 63 ∧ opB c 2 = 0 ∧
      patOp (x.prog.getD (opB c 4) 0).toNat = some .stop) ∧
    (∃ s : State, ∃ n : Nat, ∃ x : PatEngine, ∃ c : Cmd, NoFades s.dev ∧ s.dev.isNode = true ∧ n < 16 ∧ s.dev.fix.pats[n]? = some x ∧
      s.dev.fix.pats.length = 16 ∧ (List.range 16).filter (hasBit (opN c 0 2)) = [n] ∧ opB c 4 ≤ 63 ∧ opB c 2 = 0 ∧
      patOp (x.prog.getD (opB c 4) 0).toNat = none) ∧
    (∃ s : State, ∃ n : Nat, ∃ x : PatEngine, ∃ c : Cmd, ∃ r, ∃ v, NoFades s.dev ∧ s.dev.isNode = true ∧ n < 16 ∧ s.dev.fix.pats[n]? = some x ∧
      s.dev.fix.pats.length = 16 ∧ (List.range 16).filter (hasBit (opN c 0 2)) = [n] ∧ opB c 4 ≤ 63 ∧ opB c 2 = 0 ∧ opB c 4 ≤ 62 ∧
      patOp (x.prog.getD (opB c 4) 0).toNat = some (.load r v) ∧ r < 4 ∧ patOp (x.prog.getD (opB c 4 + 1) 0).toNat = some .stop) ∧
    (∃ s : State, ∃ n : Nat, ∃ x : PatEngine, ∃ c : Cmd, NoFades s.dev ∧ s.dev.isNode = true ∧ n < 16 ∧ s.dev.fix.pats[n]? = some x ∧
      s.dev.fix.pats.length = 16 ∧ (List.range 16).filter (hasBit (opN c 0 2)) = [n] ∧ opB c 4 ≤ 63 ∧ opB c 2 = 1 ∧
      (x.state = .running ∨ x.state = .waiting)) ∧
    (∃ s : State, ∃ n : Nat, ∃ x : PatEngine, ∃ c : Cmd, NoFades s.dev ∧ s.dev.isNode = true ∧ n < 16 ∧ s.dev.fix.pats[n]? = some x ∧
      s.dev.fix.pats.length = 16 ∧ (List.range 16).filter (hasBit (opN c 0 2)) = [n] ∧ opB c 4 ≤ 63 ∧ opB c 2 = 1 ∧ x.state = .stopped ∧
      hasBit (opB c 3) 0 = false) ∧
    (∃ s : State, ∃ n : Nat, ∃ x : PatEngine, ∃ k : Fin 16, NoFades s.dev ∧ s.dev.isNode = true ∧ n < 16 ∧ s.dev.fix.pats[n]? = some x ∧
      s.dev.fix.pats.length = 16 ∧ k.val = n ∧ nextEntry s.dev = none ∧ fixturesOn s.dev = true ∧ s.dev.clk.hold = none ∧ x.state = .waiting ∧
      patOp (x.prog.getD x.pc 0).toNat = some .stop) :=
  ⟨⟨at_ { node5 with fix.pats := List.replicate 15 {} ++ [{}] }, 15, {}, cmdOf [0, 0, 0, 0, 0, 0, 0, 0, 15] (.data []), [], by unfold NoFades; decide,
     by decide, by decide, by decide, by decide, by decide, by decide, by decide, by decide⟩,
   ⟨at_ { node5 with fix.pats := List.replicate 15 {} ++ [{}] }, 15, {}, cmdOf [0, 0, 0, 0, 0, 0, 0, 0, 15] (.data (zeros 252 ++ [0xFF, 0xFF, 0xFF,
     0xFF])), zeros 252 ++ [0xFF, 0xFF, 0xFF, 0xFF], 63, by unfold NoFades; decide, by decide, by decide, by decide, by decide, by decide,
     by decide, rfl, by decide +kernel⟩,
   ⟨at_ { node5 with fix.pats := List.replicate 15 {} ++ [{}] }, 15, {}, cmdOf [0, 128, 0, 0, 63] .none, by unfold NoFades; decide, by decide,
     by decide, by decide, by decide, by decide, by decide, by decide, by decide⟩,
   ⟨at_ { node5 with fix.pats := List.replicate 15 {} ++ [{ prog := List.replicate 63 0xE0000000 ++ [0xFFFFFFFF] }] }, 15,
     { prog := List.replicate 63 0xE0000000 ++ [0xFFFFFFFF] }, cmdOf [0, 128, 0, 0, 63] .none, by unfold NoFades; decide, by decide, by decide,
     by decide, by decide, by decide, by decide, by decide, by decide⟩,
   ⟨at_ { node5 with fix.pats := List.replicate 15 {} ++ [{ prog := List.replicate 62 0xE0000000 ++ [0x1800FFFF, 0xE0000000] }] }, 15,
     { prog := List.replicate 62 0xE0000000 ++ [0x1800FFFF, 0xE0000000] }, cmdOf [0, 128, 0, 0, 62] .none, 3, 0xFFFF, by unfold NoFades; decide,
     by decide, by decide, by decide, by decide, by decide, by decide, by decide, by decide, by decide, by decide, by decide⟩,
   ⟨at_ { node5 with fix.pats := List.replicate 15 {} ++ [{ state := .waiting }] }, 15, { state := .waiting }, cmdOf [0, 128, 1] .none,
     by unfold NoFades; decide, by decide, by decide, by decide, by decide, by decide, by decide, by decide, by decide⟩,
   ⟨at_ { node5 with fix.pats := List.replicate 15 {} ++ [{ state := .stopped }] }, 15, { state := .stopped }, cmdOf [0, 128, 1] .none,
     by unfold NoFades; decide, by decide, by decide, by decide, by decide, by decide, by decide, by decide, by decide, by decide⟩,
   ⟨at_ { node5 with fix.pats := List.replicate 15 {} ++ [{ state := .waiting, pc := 63 }], clk.hold := none }, 15, { state := .waiting, pc := 63 },
     15, by unfold NoFades; decide, by decide, by decide, by decide, by decide, by decide, by decide, by decide, by decide, by decide, by decide⟩⟩

theorem test_meets_Calibrations :
    (∃ s : State, ∃ c : Cmd, s.dev.cal.running.length = 3 ∧ s.dev.cal.waiting.length = 3 ∧ s.dev.cal.marker.length = 3 ∧ s.dev.pwr.state = .run ∧
      s.dev.cal.waiting.getD 0 none = none ∧ opN c 0 2 % 1024 ≠ 0 ∧ linkPorts s.dev c ≠ [] ∧ s.dev.cal.running.getD 0 none = none) ∧
    (∃ s : State, ∃ c : Cmd, ∃ j, s.dev.cal.running.length = 3 ∧ s.dev.cal.waiting.length = 3 ∧ s.dev.cal.marker.length = 3 ∧
      s.dev.pwr.state = .run ∧ s.dev.cal.waiting.getD 0 none = none ∧ opN c 0 2 % 1024 ≠ 0 ∧ linkPorts s.dev c ≠ [] ∧
      s.dev.cal.running.getD 0 none = some j) ∧
    (∃ s : State, s.dev.cal.running.length = 3 ∧ s.dev.cal.waiting.length = 3 ∧ s.dev.cal.marker.length = 3 ∧ s.dev.pwr.state ≠ .run) ∧
    (∃ s : State, ∃ c : Cmd, ∃ b : List Byte, s.dev.cal.running.length = 3 ∧ s.dev.cal.waiting.length = 3 ∧ s.dev.cal.marker.length = 3 ∧
      s.dev.isNode = true ∧ (recordNow s.dev).width ≠ 0 ∧ misaligned c = false ∧ c.host = .data b ∧ s.dev.pwr.state = .run ∧
      s.dev.out.running = true ∧ colourGood (recordNow s.dev) (colourRec b) = true ∧ s.dev.cal.waiting.getD 1 none = none ∧
      s.dev.cal.running.getD 1 none = none ∧ calFree 1 s.dev = true) ∧
    (∃ s : State, ∃ c : Cmd, ∃ b : List Byte, ∃ j, s.dev.cal.running.length = 3 ∧ s.dev.cal.waiting.length = 3 ∧ s.dev.cal.marker.length = 3 ∧
      s.dev.isNode = true ∧ (recordNow s.dev).width ≠ 0 ∧ misaligned c = false ∧ c.host = .data b ∧ s.dev.pwr.state = .run ∧
      s.dev.out.running = true ∧ colourGood (recordNow s.dev) (colourRec b) = true ∧ s.dev.cal.waiting.getD 1 none = none ∧
      s.dev.cal.running.getD 1 none = some j) ∧
    (∃ s : State, ∃ c : Cmd, s.dev.cal.running.length = 3 ∧ s.dev.cal.waiting.length = 3 ∧ s.dev.cal.marker.length = 3 ∧ s.dev.pwr.state = .run ∧
      s.dev.cal.waiting.getD 2 none = none ∧ opB c 0 % 64 ≠ 0 ∧ s.dev.cal.running.getD 2 none = none) ∧
    (∃ s : State, ∃ c : Cmd, ∃ j, s.dev.cal.running.length = 3 ∧ s.dev.cal.waiting.length = 3 ∧ s.dev.cal.marker.length = 3 ∧
      s.dev.pwr.state = .run ∧ s.dev.cal.waiting.getD 2 none = none ∧ opB c 0 % 64 ≠ 0 ∧ s.dev.cal.running.getD 2 none = some j) ∧
    (∃ s : State, ∃ k : Fin 3, ∃ j : CalJob, s.dev.cal.running.length = 3 ∧ s.dev.cal.waiting.length = 3 ∧ s.dev.cal.marker.length = 3 ∧
      s.dev.cal.waiting.getD k.val none = some j ∧ s.dev.cal.running.getD k.val none = none ∧ calFree k.val s.dev = true ∧ s.dev.pwr.state = .run) ∧
    (∃ s : State, ∃ r : LinkSweep, ∃ j : CalJob, ∃ p : Nat, ∃ q : Nat, ∃ rest : List Nat, s.dev.cal.running.length = 3 ∧
      s.dev.cal.waiting.length = 3 ∧ s.dev.cal.marker.length = 3 ∧ s.dev.cal.running.getD 0 none = some j ∧ s.dev.cal.ports = p :: q :: rest ∧
      p < 8 ∧ (s.dev.port p).up = true ∧ r.locked = true ∧ hasBit (opB j.cmd 2) 0 = true ∧ narrowest p r.oldEyes < narrowest p r.newEyes ∧
      200 ≤ narrowest p r.newEyes ∧ r.writeOk = true ∧ s.dev.cal.eyes.length = 10 ∧ s.dev.cal.eq.length = 10) ∧
    (∃ s : State, ∃ r : LinkSweep, ∃ j : CalJob, ∃ p : Nat, s.dev.cal.running.length = 3 ∧ s.dev.cal.waiting.length = 3 ∧
      s.dev.cal.marker.length = 3 ∧ s.dev.cal.running.getD 0 none = some j ∧ s.dev.cal.ports = [p] ∧ r.locked = false) ∧
    (∃ s : State, ∃ j : CalJob, s.dev.cal.running.length = 3 ∧ s.dev.cal.waiting.length = 3 ∧ s.dev.cal.marker.length = 3 ∧
      s.dev.cal.running.getD 1 none = some j ∧ (s.dev.cal.pairs.filter usable).length < 16) ∧
    (∃ s : State, ∃ f : ColourFit, ∃ j : CalJob, ∃ rhos, s.dev.cal.running.length = 3 ∧ s.dev.cal.waiting.length = 3 ∧
      s.dev.cal.marker.length = 3 ∧ s.dev.cal.running.getD 1 none = some j ∧
      rhos = (fitRho (recordNow s.dev) (colourOf j.cmd) (s.dev.cal.pairs.filter usable) s.dev).1 ∧ 16 ≤ (s.dev.cal.pairs.filter usable).length ∧
      f.residual ≤ (colourOf j.cmd).limit ∧ f.writeOk = true ∧ (∃ c, c < 4 ∧ (fitKappa s.dev (colourOf j.cmd) rhos c).isSome = true)) ∧
    (∃ s : State, ∃ j : CalJob, ∃ ch : Nat, ∃ rest : List Nat, s.dev.cal.running.length = 3 ∧ s.dev.cal.waiting.length = 3 ∧
      s.dev.cal.marker.length = 3 ∧ s.dev.cal.running.getD 2 none = some j ∧ s.dev.cal.chans = ch :: rest ∧ ch < 6 ∧ s.dev.cal.spare = none) ∧
    (∃ s : State, ∃ m : MeterStep, ∃ j : CalJob, ∃ ch : Nat, ∃ rest : List Nat, s.dev.cal.running.length = 3 ∧ s.dev.cal.waiting.length = 3 ∧
      s.dev.cal.marker.length = 3 ∧ s.dev.cal.running.getD 2 none = some j ∧ s.dev.cal.chans = ch :: rest ∧ ch < 6 ∧ s.dev.cal.spare = some ch ∧
      rest ≠ [] ∧ m.residV ≤ 4 ∧ m.residI ≤ 4 ∧ m.writeOk = true ∧ s.dev.cal.offs.length = 12) ∧
    (∃ s : State, ∃ c : Cmd, ∃ j : CalJob, ∃ k : Fin 3, s.dev.cal.running.length = 3 ∧ s.dev.cal.waiting.length = 3 ∧ s.dev.cal.marker.length = 3 ∧
      (List.range 3).filter (hasBit (opB c 0)) = [k.val] ∧ s.dev.cal.running.getD k.val none = some j ∧ s.dev.cal.waiting.getD k.val none = none) ∧
    (∃ s : State, ∃ c : Cmd, ∃ k : Fin 3, s.dev.cal.running.length = 3 ∧ s.dev.cal.waiting.length = 3 ∧ s.dev.cal.marker.length = 3 ∧
      (List.range 3).filter (hasBit (opB c 0)) = [k.val] ∧ s.dev.cal.running.getD k.val none = none ∧ s.dev.cal.waiting.getD k.val none = none) :=
  ⟨⟨at_ { node5 with pwr.state := .run }, cmdOf [128] .none, by decide⟩,
   ⟨at_ { node5 with pwr.state := .run, cal.running := [some (job0 []), none, none] }, cmdOf [128] .none, job0 [], by decide⟩,
   ⟨at_ { node5 with pwr.state := .quiet }, by decide⟩,
   ⟨at_ { node5 with pwr.state := .run, out.running := true }, cmdOf [] (.data colourBytes), colourBytes, by decide⟩,
   ⟨at_ { node5 with pwr.state := .run, out.running := true, cal.running := [none, some (job0 []), none] }, cmdOf [] (.data colourBytes), colourBytes,
     job0 [], by decide +kernel⟩,
   ⟨at_ { node5 with pwr.state := .run }, cmdOf [63] .none, by decide⟩,
   ⟨at_ { node5 with pwr.state := .run, cal.running := [none, none, some (job0 [])] }, cmdOf [63] .none, job0 [], by decide⟩,
   ⟨at_ { node5 with pwr.state := .run, cal.waiting := [none, some (job0 []), none] }, 1, job0 [], by decide⟩,
   ⟨at_ { node5 with cal.running := [some (job0 [0, 0, 1]), none, none], cal.ports := [7, 6] },
     { oldEyes := [199], newEyes := [200], settings := [], locked := true, writeOk := true }, job0 [0, 0, 1], 7, 6, [], by decide⟩,
   ⟨at_ { node5 with cal.ports := [7], cal.running := [some (job0 []), none, none] },
     { oldEyes := [199], newEyes := [200], settings := [], locked := false, writeOk := true }, job0 [], 7, by decide⟩,
   ⟨at_ { node5 with cal.running := [none, some (job0 []), none] }, job0 [], by decide⟩,
   ⟨at_ { node5 with cal.running := [none, some { job0 [] with cmd.host := .data colourBytes }, none], cal.pairs := List.replicate 16 pair0, corr.wear.curves := List.replicate 4 (some (65536 :: List.replicate 256 50000)), corr.expo := (List.range 8).map (fun i => (3 * i + 1, 2 ^ 24)) },
     { residual := 300, writeOk := true }, { job0 [] with cmd.host := .data colourBytes }, _, by decide, by decide, by decide, by decide, rfl,
     by decide +kernel, by decide, by decide, ⟨1, by decide +kernel, by decide +kernel⟩⟩,
   ⟨at_ { node5 with cal.chans := [5], cal.spare := none, cal.running := [none, none, some (job0 [])] }, job0 [], 5, [], by decide⟩,
   ⟨at_ { node5 with cal.chans := [5, 4], cal.spare := some 5, cal.running := [none, none, some (job0 [])] },
     { newOffV := 0, newOffI := 0, residV := 4, residI := 4, writeOk := true }, job0 [], 5, [4], by decide⟩,
   ⟨at_ { node5 with cal.running := [some (job0 []), none, none] }, cmdOf [1] .none, job0 [], 0, by decide⟩,
   ⟨at_ node5, cmdOf [1] .none, 0, by decide⟩⟩

theorem test_meets_EnergyMetered :
    (∃ s : State, ∃ ch : Fin 6, ∃ v : Int, ∃ i : Int, ∃ c : Channel, metering s.dev = true ∧ s.dev.mtr.chans[ch.val]? = some c ∧ c.ifs ≠ 0 ∧
      atClamp v = false ∧ atClamp i = false ∧ s.dev.cal.offsAt = List.replicate 12 0 ∧ c.imp + energyInc c.k v i < 2 ^ 88 ∧
      c.exp_ + energyInc c.k v i < 2 ^ 88) ∧
    (∃ s : State, ∃ n : Fin 2, ∃ x : S0In, metering s.dev = true ∧ s.dev.mtr.s0[n.val]? = some x ∧ x.const ≠ 0 ∧
      x.energy + (x.rem + 10000000) / x.const < 2 ^ 48 ∧ x.count + 1 < 2 ^ 48) ∧
    (∃ s : State, ∃ cycles, metering s.dev = true ∧ cycles ≤ 24576 ∧ s.dev.mtr.lastZc.isSome = true) ∧
    (∃ s : State, ∃ cycles, metering s.dev = true ∧ 24576 < cycles ∧ s.dev.mtr.crossings ≠ 0 ∧ s.dev.mtr.zcBoth = false) ∧
    (∃ s : State, metering s.dev = true ∧ s.dev.mtr.crossings ≠ 0 ∧ s.dev.mtr.lost = false) ∧
    (∃ s : State, ∃ c : Cmd, ∃ b : List Byte, misaligned c = false ∧ c.host = .data b ∧ meterBad (meterRec b) = none ∧
      ((meterRec b).period = s.dev.mtr.period ∨ saveOverdue (meterRec b).period s.dev = false)) ∧
    (∃ s : State, ∃ c : Cmd, ∃ b : List Byte, misaligned c = false ∧ c.host = .data b ∧ meterBad (meterRec b) = none ∧
      (meterRec b).period ≠ s.dev.mtr.period ∧ saveOverdue (meterRec b).period s.dev = true) ∧
    (∃ c : Cmd, ∃ b : List Byte, ∃ o, misaligned c = false ∧ c.host = .data b ∧ meterBad (meterRec b) = some o) :=
  ⟨⟨at_ { node5 with mtr.chans := List.replicate 5 {} ++ [{ ifs := 1, k := 1 }] }, 5, 8388606, -8388606, { ifs := 1, k := 1 }, by decide⟩,
   ⟨at_ { node5 with mtr.s0 := List.replicate 1 {} ++ [{ const := 100000 }] }, 1, { const := 100000 }, by decide⟩,
   ⟨at_ { node5 with mtr.lastZc := some rp0 }, 24576, by decide⟩,
   ⟨at_ { node5 with mtr.zcBoth := false, mtr.crossings := 1 }, 24577, by decide⟩,
   ⟨at_ { node5 with mtr.lost := false, mtr.crossings := 1 }, by decide⟩,
   ⟨at_ node5, cmdOf [] (.data meterBytes), meterBytes, by decide⟩,
   ⟨at_ { node5 with mtr.period := 901, mtr.savedRp := some (RP.start (0 - 54000)) }, cmdOf [] (.data meterBytes), meterBytes, by decide⟩,
   ⟨cmdOf [] (.data []), [], _, by decide, by decide, rfl⟩⟩

theorem test_meets_EnergySaved :
    (∃ s : State, metering s.dev = true ∧ s.dev.mtr.save = none) ∧
    (∃ s : State, s.dev.mtr.save = none) ∧
    (∃ s : State, ∃ x : MeterSave, ∃ at_ : RP, ∃ c : Cmd, s.dev.mtr.save = some x ∧ x.cmds = [(at_, c)] ∧ s.dev.mtr.again = false ∧
      s.dev.pwr.hostReset = none ∧ s.dev.pwr.wdReset = false ∧ s.dev.spare.nvmBad.contains x.slot.row = false) ∧
    (∃ s : State, ∃ c : Cmd, ∃ x : S0In, 6 ≤ opB c 0 ∧ opB c 0 ≤ 7 ∧ s.dev.mtr.s0[opB c 0 - 6]? = some x) ∧
    (∃ c : Cmd, opB c 0 = 8) ∧
    (∃ c : Cmd, opB c 0 < 6) :=
  ⟨⟨at_ { node5 with mtr.save := none }, by decide⟩,
   ⟨at_ { node5 with mtr.save := none }, by decide⟩,
   ⟨at_ { node5 with mtr.save := some save0, mtr.again := false, pwr.hostReset := none, pwr.wdReset := false }, save0, rp0, cmd0, by decide⟩,
   ⟨at_ { node5 with mtr.s0 := List.replicate 1 {} ++ [{}] }, cmdOf [7] .none, {}, by decide⟩,
   ⟨cmdOf [8] .none, by decide⟩,
   ⟨cmdOf [] .none, by decide⟩⟩

theorem test_meets_LayerCommands :
    (∃ c : Cmd, ∃ b : List Byte, ∃ s : State, ∃ f : BitVec 32, ∃ x : Device, ∃ ls, s.dev.isNode = true ∧ misaligned c = false ∧ c.host = .data b ∧
      f = nextDisplay s.dev ∧ x = layersFor f s.dev ∧ layerSetBad (recordAt s.dev f) c = none ∧
      ls = modAt x.pxl.layers (opB c 8) (layerApply (layerRec b)) ∧ feedsClash ls = false ∧
      ((recordAt s.dev f).width = 0 ∨ budgetOf x ls ≤ storeGroups)) ∧
    (∃ c : Cmd, ∃ b : List Byte, ∃ s : State, ∃ f : BitVec 32, ∃ x : Device, ∃ ls, s.dev.isNode = true ∧ misaligned c = false ∧ c.host = .data b ∧
      f = nextDisplay s.dev ∧ x = layersFor f s.dev ∧ layerSetBad (recordAt s.dev f) c = none ∧
      ls = modAt x.pxl.layers (opB c 8) (layerApply (layerRec b)) ∧ feedsClash ls = true) ∧
    (∃ c : Cmd, ∃ b : List Byte, ∃ s : State, ∃ f : BitVec 32, ∃ x : Device, ∃ ls, s.dev.isNode = true ∧ misaligned c = false ∧ c.host = .data b ∧
      f = nextDisplay s.dev ∧ x = layersFor f s.dev ∧ layerSetBad (recordAt s.dev f) c = none ∧
      ls = modAt x.pxl.layers (opB c 8) (layerApply (layerRec b)) ∧ feedsClash ls = false ∧ (recordAt s.dev f).width ≠ 0 ∧
      storeGroups < budgetOf x ls) ∧
    (∃ c : Cmd, ∃ b : List Byte, ∃ s : State, ∃ f : BitVec 32, ∃ x : Device, ∃ r, s.dev.isNode = true ∧ misaligned c = false ∧ c.host = .data b ∧
      f = nextDisplay s.dev ∧ x = layersFor f s.dev ∧ layerSetBad (recordAt s.dev f) c = some r) ∧
    (∃ c : Cmd, ∃ b : List Byte, ∃ s : State, ∃ f : BitVec 32, ∃ x : Device, s.dev.isNode = true ∧ misaligned c = false ∧ c.host = .data b ∧
      f = nextDisplay s.dev ∧ x = layersFor f s.dev ∧ (layerOf x (opB c 8)).source = true ∧ opB c 8 ≤ 7 ∧ opB c 9 < (recordAt s.dev f).primaries) ∧
    (∃ c : Cmd, ∃ b : List Byte, ∃ s : State, ∃ f : BitVec 32, ∃ x : Device, s.dev.isNode = true ∧ misaligned c = false ∧ c.host = .data b ∧
      f = nextDisplay s.dev ∧ x = layersFor f s.dev ∧ (layerOf x (opB c 8)).source = true ∧ opB c 8 ≤ 7 ∧ tapsGood (tapsOf b 0 8) = true ∧
      tapsGood (tapsOf b 1024 6) = true) ∧
    (∃ c : Cmd, ∃ b : List Byte, ∃ s : State, ∃ f : BitVec 32, ∃ x : Device, s.dev.isNode = true ∧ misaligned c = false ∧ c.host = .data b ∧
      f = nextDisplay s.dev ∧ x = layersFor f s.dev ∧ (layerOf x (opB c 8)).source = false) :=
  ⟨⟨cmdOf [0, 0, 0, 0, 0, 0, 0, 0, 1] (.data layerBytes), layerBytes, at_ node5, _, _, _, by decide, by decide, by decide, rfl, rfl, by decide, rfl,
     by decide⟩,
   ⟨cmdOf [0, 0, 0, 0, 0, 0, 0, 0, 0] (.data layerBytes), layerBytes,
     at_ { layered with pxl.layers := {} :: { layer0 with fmt := { layer0.fmt with feed := 1 } } :: List.replicate 6 {} }, _, _, _, by decide,
     by decide, by decide, rfl, rfl, by decide, rfl, by decide⟩,
   ⟨cmdOf [0, 0, 0, 0, 0, 0, 0, 0, 1] (.data layerBytesBig), layerBytesBig, at_ layered, _, _, _, by decide, by decide, by decide, rfl, rfl,
     by decide, rfl, by decide⟩,
   ⟨cmdOf [0, 0, 0, 0, 0, 0, 0, 0, 2] (.data layerBytes), layerBytes, at_ node5, _, _, _, by decide, by decide, by decide, rfl, rfl, rfl⟩,
   ⟨cmdOf [0, 0, 0, 0, 0, 0, 0, 0, 1, 2] (.data []), [], at_ layered, _, _, by decide, by decide, by decide, rfl, rfl, by decide⟩,
   ⟨cmdOf [0, 0, 0, 0, 0, 0, 0, 0, 1] (.data tapBytes), tapBytes, at_ layered, _, _, by decide, by decide, rfl, rfl, rfl, by decide, by decide,
     taps_good.1, taps_good.2⟩,
   ⟨cmdOf [] (.data []), [], at_ node5, _, _, by decide, by decide, by decide, rfl, rfl, by decide⟩⟩

theorem test_meets_OutputCommands :
    (∃ c : Cmd, ∃ s : State, ∃ b, s.dev.isNode = true ∧ misaligned c = false ∧ c.host = .data b ∧ outRecGood s.dev.clk.raster (outRecOf b) = true ∧
      outReason s.dev.clk.raster (cutLine s.dev) (outRecOf b) s.dev.out.map s.dev.out.programs = none) ∧
    (∃ c : Cmd, ∃ s : State, ∃ b, ∃ r, s.dev.isNode = true ∧ misaligned c = false ∧ c.host = .data b ∧
      outRecGood s.dev.clk.raster (outRecOf b) = true ∧
      outReason s.dev.clk.raster (cutLine s.dev) (outRecOf b) s.dev.out.map s.dev.out.programs = some r) ∧
    (∃ c : Cmd, ∃ s : State, ∃ b, s.dev.isNode = true ∧ misaligned c = false ∧ c.host = .data b ∧ outRecGood s.dev.clk.raster (outRecOf b) = false) ∧
    (∃ c : Cmd, ∃ s : State, ∃ b, s.dev.isNode = true ∧ misaligned c = false ∧ c.host = .data b ∧ opB c 8 ≤ 7 ∧
      outReason s.dev.clk.raster (cutLine s.dev) s.dev.out.orec s.dev.out.map (setAt s.dev.out.programs (opB c 8) (programOf b)) = none) ∧
    (∃ c : Cmd, ∃ s : State, ∃ b, ∃ r, s.dev.isNode = true ∧ misaligned c = false ∧ c.host = .data b ∧ opB c 8 ≤ 7 ∧
      outReason s.dev.clk.raster (cutLine s.dev) s.dev.out.orec s.dev.out.map (setAt s.dev.out.programs (opB c 8) (programOf b)) = some r) ∧
    (∃ c : Cmd, ∃ s : State, ∃ b, ∃ r, s.dev.isNode = true ∧ misaligned c = false ∧ c.host = .data b ∧ 1 ≤ opN c 8 4 ∧ opN c 8 4 ≤ 524288 ∧
      (mapWords b (opN c 8 4)).all entryKindGood = true ∧
      outReason s.dev.clk.raster (cutLine s.dev) s.dev.out.orec (mapWords b (opN c 8 4)) s.dev.out.programs = some r) ∧
    (∃ c : Cmd, ∃ s : State, ∃ b, s.dev.isNode = true ∧ misaligned c = false ∧ c.host = .data b ∧ 1 ≤ opN c 8 4 ∧ opN c 8 4 ≤ 524288 ∧
      (mapWords b (opN c 8 4)).all entryKindGood = true ∧
      outReason s.dev.clk.raster (cutLine s.dev) s.dev.out.orec (mapWords b (opN c 8 4)) s.dev.out.programs = none) ∧
    (∃ c : Cmd, ∃ s : State, s.dev.isNode = true ∧ hasBit (opB c 0) 0 = true ∧ s.dev.out.running = false ∧ canStart s.dev = true) ∧
    (∃ c : Cmd, ∃ s : State, s.dev.isNode = true ∧ hasBit (opB c 0) 0 = true ∧ s.dev.out.running = false ∧ s.dev.out.checked = false) ∧
    (∃ c : Cmd, ∃ s : State, s.dev.isNode = true ∧ hasBit (opB c 0) 0 = false ∧ s.dev.out.running = true) :=
  ⟨⟨cmdOf [] (.data outBytes), at_ node5, outBytes, by decide⟩,
   ⟨cmdOf [] (.data outBytes), at_ { node5 with out.map := [0] }, outBytes, 2, by decide⟩,
   ⟨cmdOf [] (.data []), at_ node5, [], by decide⟩,
   ⟨cmdOf [] (.data []), at_ node5, [], by decide⟩,
   ⟨cmdOf [] (.data []), at_ { node5 with out.orec := group0 }, [], 2, by decide +kernel⟩,
   ⟨cmdOf [0, 0, 0, 0, 0, 0, 0, 0, 1] (.data []), at_ node5, [], 2, by decide +kernel⟩,
   ⟨cmdOf [0, 0, 0, 0, 0, 0, 0, 0, 8] (.data (zeros 32)), at_ { node5 with out.orec := group0, out.programs := progs0 }, zeros 32, by decide +kernel⟩,
   ⟨cmdOf [1] .none, at_ { node5 with out.running := false }, by decide⟩,
   ⟨cmdOf [1] .none, at_ { node5 with out.running := false, out.checked := false }, by decide⟩,
   ⟨cmdOf [] .none, at_ { node5 with out.running := true }, by decide⟩⟩

theorem test_meets_RegisterAccess :
    (∃ s : State, ∃ a : BitVec 16, ∃ lock : Bool, ∃ m : Nat, s.dev.pwr.readyHost = true ∧ s.dev.pwr.powerOff = false ∧ s.dev.isHead = true ∧
      a.toNat % 4 = 0 ∧ settingMask s.dev a.toNat = some (lock, m) ∧ wideOf a.toNat = none ∧ lacks s.dev a.toNat = false ∧
      (lock = false ∨ s.dev.pwr.everRun = false)) ∧
    (∃ s : State, ∃ a : BitVec 16, ∃ lock : Bool, ∃ m : Nat, s.dev.pwr.readyHost = true ∧ s.dev.pwr.powerOff = false ∧ s.dev.isHead = true ∧
      a.toNat % 4 = 0 ∧ settingMask s.dev a.toNat = some (lock, m) ∧ wideOf a.toNat = none ∧ lacks s.dev a.toNat = false ∧ lock = true ∧
      s.dev.pwr.everRun = true) ∧
    (∃ s : State, ∃ a : BitVec 16, (s.dev.isHead = false ∨ a.toNat % 4 ≠ 0)) ∧
    (∃ s : State, ∃ a : BitVec 16, ∃ p : Path, ∃ w : Nat, readServed p s.dev = true ∧ w = a.toNat - a.toNat % 4 ∧ wideOf w = none ∧ w ≠ 0x3848 ∧
      w ≠ 0x481C) ∧
    (∃ s : State, ∃ p : Path, readServed p s.dev = false) ∧
    (∃ s : State, ∃ a : BitVec 16, ∃ p : Path, ∃ b : Nat, ∃ n : Nat, ∃ w : Nat, readServed p s.dev = true ∧ w = a.toNat - a.toNat % 4 ∧
      wideOf w = some (b, n) ∧ w ≠ 0x3848 ∧ w ≠ 0x481C ∧ w = b) ∧
    (∃ s : State, ∃ a : BitVec 16, ∃ p : Path, ∃ b : Nat, ∃ n : Nat, ∃ w : Nat, ∃ v, readServed p s.dev = true ∧ w = a.toNat - a.toNat % 4 ∧
      wideOf w = some (b, n) ∧ w ≠ 0x3848 ∧ w ≠ 0x481C ∧ w ≠ b ∧ mfind s.dev.snap w = some v) ∧
    (∃ s : State, s.dev.isNode = true) :=
  ⟨⟨at_ { head0 with pwr.readyHost := true, pwr.powerOff := false }, 0x2200, false, 0x1F, by decide⟩,
   ⟨at_ { head0 with pwr.readyHost := true, pwr.powerOff := false, pwr.everRun := true }, 0x0C10, true, 0x3FF, by decide⟩,
   ⟨at_ node5, 0, by decide⟩,
   ⟨at_ head0, 0x2200, .bar0, _, by decide, rfl, by decide⟩,
   ⟨at_ node5, .bar0, by decide⟩,
   ⟨at_ head0, 0x1478, .bar0, 0x1478, 2, _, by decide, rfl, by decide, by decide, by decide, rfl⟩,
   ⟨at_ { head0 with snap := [(0x147C, 7)] }, 0x147C, .bar0, 0x1478, 2, _, 7, by decide, rfl, by decide⟩,
   ⟨at_ node5, by decide⟩⟩

theorem test_meets_KeysAndLifeCycle :
    (∃ s : State, ∃ c : Cmd, ∃ b : List Byte, secClosed s.dev = false ∧ misaligned c = false ∧ opB c 8 ≤ 1 ∧
      (cut c.ops 9 23).any (fun x => x != 0) = false ∧ c.host = .data b ∧ (opB c 8 = 0 ∨ s.dev.sched.rolling = none)) ∧
    (∃ s : State, ∃ c : Cmd, ∃ b : List Byte, ∃ r, secClosed s.dev = false ∧ misaligned c = false ∧ opB c 8 ≤ 1 ∧
      (cut c.ops 9 23).any (fun x => x != 0) = false ∧ c.host = .data b ∧ opB c 8 = 1 ∧ s.dev.sched.rolling = some r) ∧
    (∃ s : State, ∃ x, portDead s.dev = false ∧ x = (tapPick .keyload s.dev).sec ∧ s.dev.sched.rolling = none) ∧
    (∃ s : State, ∃ x, ∃ r, portDead s.dev = false ∧ x = (tapPick .keyload s.dev).sec ∧ s.dev.sched.rolling = some r) ∧
    (∃ s : State, ∃ c : Cmd, ∃ k, s.dev.pwr.woke = false ∧ s.dev.sec.next = some k ∧ k.gen.toNat = opN c 0 4) ∧
    (∃ s : State, s.dev.pwr.woke = false ∧ s.dev.sec.next = none) ∧
    (∃ s : State, ∃ c : Cmd, isNow c = false ∧ s.dev.tim.firstLock = true ∧ dueGood s.dev.clk.raster c = false) ∧
    (∃ s : State, ∃ c : Cmd, isNow c = false ∧ s.dev.tim.firstLock = true ∧ dueGood s.dev.clk.raster c = true ∧
      commitPassed s.dev .exact (dueRp c) = false ∧ tooEarly s.dev (dueRp c) = true) ∧
    (∃ s : State, s.dev.tim.firstLock = false) ∧
    (∃ s : State, ∃ c : Cmd, secClosed s.dev = false ∧ s.dev.sec.journal = none ∧ s.dev.tim.firstLock = true ∧
      (isNow c = true ∨ (dueGood s.dev.clk.raster c = true ∧ commitPassed s.dev .exact (dueRp c) = false ∧ tooEarly s.dev (dueRp c) = false)) ∧
      lifeRefusal s.dev (opB c 0) (cut c.ops 8 8) = none) ∧
    (∃ s : State, ∃ c : Cmd, ∃ r, secClosed s.dev = false ∧ s.dev.sec.journal = none ∧ s.dev.tim.firstLock = true ∧
      (isNow c = true ∨ (dueGood s.dev.clk.raster c = true ∧ commitPassed s.dev .exact (dueRp c) = false ∧ tooEarly s.dev (dueRp c) = false)) ∧
      lifeRefusal s.dev (opB c 0) (cut c.ops 8 8) = some r) :=
  ⟨⟨at_ node5, cmdOf [] (.data []), [], by decide⟩,
   ⟨at_ { node5 with sched.rolling := some { k := 200, gen := 2, cmd := cmd0 } }, cmdOf [0, 0, 0, 0, 0, 0, 0, 0, 1] (.data []), [],
     { k := 200, gen := 2, cmd := cmd0 }, by decide⟩,
   ⟨at_ { node5 with sched.rolling := none }, _, by decide, rfl, by decide⟩,
   ⟨at_ { node5 with sched.rolling := some { k := 200, gen := 2, cmd := cmd0 } }, _, { k := 200, gen := 2, cmd := cmd0 }, by decide, rfl, by decide⟩,
   ⟨at_ { node5 with pwr.woke := false, sec.next := some key7 }, cmdOf [1] .none, key7, by decide⟩,
   ⟨at_ { node5 with pwr.woke := false, sec.next := none }, by decide⟩,
   ⟨at_ { node5 with tim.firstLock := true }, { cmd0 with timing := 0, dueFrame := 101, dueLs := 0x04650000 }, by decide⟩,
   ⟨at_ { node5 with tim.firstLock := true }, { cmd0 with timing := 0, dueFrame := 0x01000065, dueLs := 0x000A0006 }, by decide⟩,
   ⟨at_ { node5 with tim.firstLock := false }, by decide⟩,
   ⟨at_ { node5 with sec.journal := none, tim.firstLock := true }, { cmdOf [2] .none with timing := 1 }, by decide⟩,
   ⟨at_ { node5 with sec.journal := none, tim.firstLock := true }, { cmdOf [5] .none with timing := 1 }, 1, by decide⟩⟩

theorem test_meets_DebugAndFirmware :
    (∃ s : State, portDead s.dev = false) ∧
    (∃ s : State, ∃ m : List Byte, ∃ now : Nat, ∃ at_ : Nat, portDead s.dev = false ∧ s.dev.sec.backTo ≤ now ∧ s.dev.sec.nonce = some (m, at_) ∧
      now ≤ at_ + 60000) ∧
    (∃ s : State, portDead s.dev = false ∧ s.dev.sec.life = .provisioned) ∧
    (∃ s : State, ∃ c : Cmd, opB c 0 ≤ 1 ∧ unlockAllows s.dev.sec.life (opB c 0) = true ∧ s.dev.sec.level ≠ opB c 0) ∧
    (∃ s : State, ∃ c : Cmd, opB c 0 ≤ 1 ∧ unlockAllows s.dev.sec.life (opB c 0) = false) ∧
    (∃ s : State, ∃ c : Cmd, ∃ b, secClosed s.dev = false ∧ s.dev.sec.stageImg = none ∧ s.dev.sec.staging = [] ∧ opB c 0 = 0 ∧ opN c 8 8 % 64 = 0 ∧
      c.host = .data b) ∧
    (∃ s : State, ∃ c : Cmd, secClosed s.dev = false ∧ s.dev.sec.stageImg = none ∧ s.dev.sec.staging = [] ∧ opB c 0 = 1 ∧
      imageValid s.dev (1 - s.dev.sec.running) = true) ∧
    (∃ s : State, ∃ c : Cmd, secClosed s.dev = false ∧ s.dev.sec.stageImg = none ∧ s.dev.sec.staging = [] ∧ opB c 0 = 1 ∧
      imageValid s.dev (1 - s.dev.sec.running) = false) ∧
    (∃ s : State, ∃ c : Cmd, ∃ i, secClosed s.dev = false ∧ s.dev.sec.stageImg = none ∧ s.dev.sec.staging = [] ∧ opB c 0 = 2 ∧
      imageOf s.dev s.dev.sec.running = some i ∧ s.dev.sec.rollback < i.sec) ∧
    (∃ s : State, ∃ i : Image, ∃ at_ : RP, ∃ c : Cmd, s.dev.sec.stageImg = some i ∧ s.dev.sec.staging = [(at_, c)]) :=
  ⟨⟨at_ node5, by decide⟩,
   ⟨at_ { node5 with sec.nonce := some ([], 0) }, [], 60000, 0, by decide⟩,
   ⟨at_ { node5 with sec.life := .provisioned }, by decide⟩,
   ⟨at_ node5, cmdOf [] .none, by decide⟩,
   ⟨at_ { node5 with sec.life := .retired }, cmdOf [1] .none, by decide⟩,
   ⟨at_ { node5 with sec.stageImg := none, sec.staging := [] }, cmdOf [0] (.data []), [], by decide⟩,
   ⟨at_ { node5 with sec.stageImg := none, sec.staging := [], sec.images := [none, some { sec := 0, build := 1, good := true }] }, cmdOf [1] .none,
     by decide⟩,
   ⟨at_ { node5 with sec.stageImg := none, sec.staging := [] }, cmdOf [1] .none, by decide⟩,
   ⟨at_ { node5 with sec.stageImg := none, sec.staging := [], sec.images := [some { sec := 1, build := 1, good := true }, none] }, cmdOf [2] .none,
     { sec := 1, build := 1, good := true }, by decide⟩,
   ⟨at_ { node5 with sec.stageImg := some { sec := 1, build := 1, good := true }, sec.staging := [(rp0, cmd0)] },
     { sec := 1, build := 1, good := true }, rp0, cmd0, by decide⟩⟩

end Sys2Proof.Tests
end

/-! ## Sys2Proof/Proofs/RpOrder: the order of two raster positions (R47)

The order of two RPs is decided by their signed frame difference. Taken the other way round that difference is negated,
except at −2^31, which is its own negative: this is why such a pair is unordered from both sides. -/

section

namespace Sys2Proof.Proofs

open Machine

/-! ### The frame difference taken the other way round -/

theorem frameDiff_eq_neg_two_pow_iff (a b : BitVec 32) : frameDiff a b = -2147483648 ↔ a - b = BitVec.intMin 32 :=
  BitVec.toInt_inj (y := BitVec.intMin 32)

theorem frameDiff_swap_of_ordered {a b : BitVec 32} (h : frameDiff a b ≠ -2147483648) :
    frameDiff b a = -frameDiff a b := by
  have hmin : a - b ≠ BitVec.intMin 32 := mt (frameDiff_eq_neg_two_pow_iff a b).mpr h
  calc frameDiff b a = (-(a - b)).toInt := by rw [neg_sub, frameDiff]
    _ = -frameDiff a b := BitVec.toInt_neg_of_ne_intMin hmin

theorem frameDiff_swap_of_unordered {a b : BitVec 32} (h : frameDiff a b = -2147483648) :
    frameDiff b a = -2147483648 := by
  have hmin : a - b = BitVec.intMin 32 := (frameDiff_eq_neg_two_pow_iff a b).mp h
  rw [frameDiff_eq_neg_two_pow_iff, ← neg_sub, hmin, BitVec.neg_intMin]

/-! ### What `before`, `reached` and `passed` answer -/

theorem before_iff (a b : RP) :
    a.before b = true ↔ frameDiff a.frame b.frame ≠ -2147483648 ∧
      (frameDiff a.frame b.frame < 0 ∨
        frameDiff a.frame b.frame = 0 ∧ (a.line < b.line ∨ a.line = b.line ∧ a.sub < b.sub)) := by
  simp [RP.before]

theorem before_iff_of_frameDiff_ne_zero {a b : RP} (h0 : frameDiff a.frame b.frame ≠ 0)
    (hmin : frameDiff a.frame b.frame ≠ -2147483648) : a.before b = true ↔ frameDiff a.frame b.frame < 0 := by
  simp [before_iff, h0, hmin]

theorem before_iff_of_frameDiff_eq_zero {a b : RP} (h0 : frameDiff a.frame b.frame = 0) :
    a.before b = true ↔ a.line < b.line ∨ a.line = b.line ∧ a.sub < b.sub := by
  simp [before_iff, h0]

theorem after_iff_of_frameDiff_ne_zero {a b : RP} (h0 : frameDiff a.frame b.frame ≠ 0)
    (hmin : frameDiff a.frame b.frame ≠ -2147483648) : b.before a = true ↔ 0 < frameDiff a.frame b.frame := by
  have hswap := frameDiff_swap_of_ordered hmin
  rw [before_iff_of_frameDiff_ne_zero (by omega) (mt frameDiff_swap_of_unordered hmin), hswap, Int.neg_neg_iff_pos]

theorem unordered_iff (a b : RP) : a.unordered b = true ↔ frameDiff a.frame b.frame = -2147483648 := by
  simp [RP.unordered]

theorem unordered_comm {a b : RP} (h : a.unordered b = true) : b.unordered a = true :=
  (unordered_iff b a).mpr (frameDiff_swap_of_unordered ((unordered_iff a b).mp h))

theorem before_eq_false_of_unordered {a b : RP} (h : a.unordered b = true) : a.before b = false := by
  have hd := (unordered_iff a b).mp h
  simp [RP.before, hd]

theorem reached_of_unordered {a b : RP} (h : a.unordered b = true) : a.reached b = true := by
  simp [RP.reached, before_eq_false_of_unordered h]

theorem passed_of_unordered {a b : RP} (h : a.unordered b = true) : a.passed b = true := by
  simp [RP.passed, h]

/-! ### The obligation -/

/-- Settles O7, case by case of R47: the two forms of a differing frame, the same frame, and the unordered pair, which
is unordered from both sides. -/
theorem rpOrder : Obligations.RpOrder := by
  intro a b d hd
  obtain rfl : d = frameDiff a.frame b.frame := hd
  refine ⟨fun h0 hmin => ⟨after_iff_of_frameDiff_ne_zero h0 hmin, before_iff_of_frameDiff_ne_zero h0 hmin⟩,
    before_iff_of_frameDiff_eq_zero, fun hmin => ?_⟩
  have hun : a.unordered b = true := (unordered_iff a b).mpr hmin
  exact ⟨before_eq_false_of_unordered hun, before_eq_false_of_unordered (unordered_comm hun),
    reached_of_unordered hun, passed_of_unordered hun⟩

end Sys2Proof.Proofs
end

/-! ## Sys2Proof/Proofs/Accepted: what a frame that is taken leaves to its effect (R114, R133)

Receiving a frame moves neither the raster clock nor the role, so a command that takes one may be read off the device
that the reception left. -/

section

namespace Sys2Proof.Proofs

open Machine Laws

section
variable {f : RxFrame} {s : State} {cls : Nat} {h : Hdr} {b : List Byte} {d : Device}

theorem accepted_clk (ha : Accepted f s cls h b d) : d.clk = s.dev.clk := by
  have hm := clk_of_mask (mask_takeClass (ps := [.link, .ing, .topo, .flows, .hif, .spare, .regs, .sent, .host, .notes])
    rfl f id s.dev) rfl
  rwa [ha.2] at hm

theorem accepted_pwr (ha : Accepted f s cls h b d) : d.pwr = s.dev.pwr := by
  have hm := pwr_of_mask (mask_takeClass (ps := [.link, .ing, .topo, .flows, .hif, .spare, .regs, .sent, .host, .notes])
    rfl f id s.dev) rfl
  rwa [ha.2] at hm

theorem accepted_isHead (ha : Accepted f s cls h b d) : d.isHead = s.dev.isHead := by
  rw [Device.isHead, Device.isHead, accepted_pwr ha]

theorem takeNumbered_accepted (ha : Accepted f s cls h b d) (mine : Hdr → List Byte → Bool)
    (fx : Hdr → List Byte → Device → Device) (hm : mine h b = true) : takeNumbered f mine fx s.dev = fx h b d := by
  simp [takeNumbered, ha.2, hm]

end

/-- A change that has left the raster clock alone loses nothing by keeping it. -/
theorem quiet_of_clk {g : Device → Device} {d : Device} (h : (g d).clk = d.clk) : quiet g d = g d := by
  rw [quiet, keepClk, ← h]

end Sys2Proof.Proofs
end

/-! ## Sys2Proof/Proofs/PinStraps: the straps and the role (R13, R542)

PIN_STRAPS is no wide register, no counter and no setting: a read takes its word and clears nothing, a write finds
nothing to change. The steps of start-up that follow the release keep what it latched. -/

section

namespace Sys2Proof.Proofs

open Machine Laws

theorem rawWord_pinStraps (d : Device) : rawWord d 0x1000 = readPwr d 0x1000 := rfl

theorem wideOf_pinStraps : wideOf 0x1000 = none := by decide

theorem lacks_pinStraps (d : Device) : lacks d 0x1000 = false := by simp [lacks]

theorem clearRead_pinStraps (d : Device) : clearRead 0x1000 d = d := by simp [clearRead]

theorem readReg_pinStraps (keep : Bool) (d : Device) :
    readReg keep 0x1000 d = { d with lastRead := BitVec.ofNat 32 (readPwr d 0x1000) } := by
  simp [readReg, wideOf_pinStraps, clearRead_pinStraps, rawWord_pinStraps]

theorem settingMask_pinStraps (d : Device) : settingMask d 0x1000 = none := rfl

theorem writeReg_pinStraps (v : Nat) (d : Device) : writeReg 0x1000 v d = d := by
  have hlocked : rwlLocked 0x1000 d = false := by simp [rwlLocked, outRwl, settingMask_pinStraps]
  have hput : putWord 0x1000 v d = d := by simp [putWord, ringBase, outRwl, settingMask_pinStraps]
  simp [writeReg, lacks_pinStraps, hlocked, ringBase, applySetting, wideOf_pinStraps, hput]

theorem registerWriteFx_pinStraps (v : Nat) (d : Device) : registerWriteFx 0x1000 v d = d := by
  simp [registerWriteFx, quiet, writeReg_pinStraps]

theorem applyJournal_pwr (d : Device) : (applyJournal d).pwr = d.pwr :=
  pwr_of_mask (mask_applyJournal (ps := [.link, .flows, .hif, .red, .spare, .sec, .sent, .host, .notes]) rfl d) rfl

theorem bootTests_pwr (b : BootInputs) (d : Device) : (bootTests b d).pwr = d.pwr :=
  pwr_of_mask (mask_bootTests (ps := [.tim, .link, .ing, .flows, .hif, .red, .spare, .sent, .host, .notes]) rfl b d) rfl

theorem bootImage_pwr (d : Device) : (bootImage d).pwr = d.pwr :=
  pwr_of_mask (mask_bootImage (ps := [.link, .flows, .hif, .sec, .sent, .host, .notes]) rfl d) rfl

/-- Steps 5 to 8 of start-up (R529) end the wait for REF and set the time limit of the boot; nothing else of power. -/
theorem bootSteps_pwr (b : BootInputs) (d : Device) :
    ∃ limit, (bootSteps b d).pwr = { d.pwr with waitRef := false, boot := none, bootLimit := limit } := by
  have hword : ∀ (c : Prop) [Decidable c] (e : Device) (v : Nat), (if c then e else e.setWord 0x480C v).pwr = e.pwr := by
    intro c _ e v
    split <;> simp
  unfold bootSteps
  simp only [bootImage_pwr, bootTests_pwr, hword, setPwr_pwr, applyJournal_pwr, setSec_pwr]
  exact ⟨_, rfl⟩

/-- The release of reset latches the straps, and the rest of start-up keeps them (R13, R529). -/
theorem resetReleaseFx_straps (b : BootInputs) (d : Device) (hreset : d.pwr.inReset = true)
    (hsupply : d.pwr.supplyLow = false) :
    (resetReleaseFx b d).pwr.straps = 2 * bit b.role1 + bit b.role0 ∧
    (resetReleaseFx b d).pwr.roleRes = (b.role1 && b.role0) ∧
    (resetReleaseFx b d).pwr.role = roleOf b.role1 b.role0 := by
  unfold resetReleaseFx
  simp only [hreset, hsupply, Bool.not_true, Bool.or_self, Bool.false_eq_true, if_false]
  split
  · obtain ⟨limit, hboot⟩ := bootSteps_pwr b (setPwr (fun p => { p with
      inReset := false, state := .startUp, role := roleOf b.role1 b.role0, straps := 2 * bit b.role1 + bit b.role0,
      roleRes := b.role1 && b.role0, start := roleOf b.role1 b.role0 == .node, refHere := b.refPresent }) d)
    rw [hboot]
    exact ⟨rfl, rfl, rfl⟩
  · exact ⟨rfl, rfl, rfl⟩

/-- Settles O11: a read takes the word and clears nothing, a write finds no setting, and start-up keeps what the release
latched. -/
theorem pinStraps : Obligations.PinStraps := by
  intro s
  refine ⟨fun p hp => ?_, fun v => ?_, fun b hreset hsupply => ?_⟩
  · refine act_does (f := readBy p 0x1000) rfl ?_
    have hread : readBy p 0x1000 s.dev = { s.dev with lastRead := BitVec.ofNat 32 (readPwr s.dev 0x1000) } := by
      simp [readBy, hp, readReg_pinStraps]
    rw [hread]
    exact ⟨sameBut_of_mask (blank_set_lastRead rfl s.dev _), rfl⟩
  · exact clocked_does (f := registerWriteFx 0x1000 v.toNat) rfl (registerWriteFx_pinStraps v.toNat s.dev)
  · refine act_does (f := resetReleaseFx b) rfl ?_
    obtain ⟨hstraps, hboth, hrole⟩ := resetReleaseFx_straps b s.dev hreset hsupply
    exact ⟨hstraps, hboth, hrole.trans (by cases b.role1 <;> cases b.role0 <;> rfl)⟩

end Sys2Proof.Proofs
end

/-! ## Sys2Proof/Proofs/CtrlWrite: a CTRL WRITE of one entry (R120, R521) -/

section

namespace Sys2Proof.Proofs

open Machine Laws

/-- A write that asks for no reset comes to the write of its word and the acknowledgement. -/
theorem ctrlWriteFx_single {f : RxFrame} {s : State} {h : Hdr} {b : List Byte} {d : Device} {a v : Nat}
    (ha : Accepted f s 2 h b d) (hserved : ctrlServed d = true) (hnode : s.dev.isHead = false) (hop : be b 0 1 = 1)
    (hes : ctrlEntries b = [(a, v)]) (hgood : entryGood a = true) (hkey : a ≠ 0x0C08)
    (hreset : (writeReg a v d).pwr.resetAsked = false) :
    ∃ ack, ctrlWriteFx f s.dev = ctrlRespond f.port.val h ack (writeReg a v d) := by
  obtain ⟨ack, hcore⟩ : ∃ ack, ctrlWriteCore f s.dev = ctrlRespond f.port.val h ack (writeReg a v d) := by
    rw [ctrlWriteCore, takeNumbered_accepted ha _ _ (by simp [ctrlIs, ha.1, hop, hnode])]
    simp only [hserved, hes, ctrlWriteAll, List.foldl_cons, List.foldl_nil, hgood, List.any_cons, List.any_nil, hkey,
      Bool.not_true, Bool.false_eq_true, if_false, if_true, beq_iff_eq, Bool.or_false, Bool.and_eq_true, false_and]
    exact ⟨_, rfl⟩
  have hclk : (ctrlWriteCore f s.dev).clk = s.dev.clk :=
    clk_of_mask (mask_ctrlWriteCore (ps := [.tim, .link, .ing, .topo, .flows, .hif, .corr, .out, .red, .spare, .mtr, .sec,
      .pwr, .regs, .wideHold, .sent, .host, .notes]) rfl f s.dev) rfl
  have hpwr : (ctrlRespond f.port.val h ack (writeReg a v d)).pwr = (writeReg a v d).pwr :=
    pwr_of_mask (mask_ctrlRespond (ps := [.link, .flows, .sent]) rfl _ h ack _) rfl
  refine ⟨ack, ?_⟩
  simp only [ctrlWriteFx, quiet_of_clk hclk, hcore, hpwr, hreset, Bool.false_eq_true, if_false]

end Sys2Proof.Proofs
end

/-! ## Sys2Proof/Proofs/RingBases: the ring registers of a node (R396, R533, R543, R544) -/

section

namespace Sys2Proof.Proofs

open Machine Laws

/-! ### The base registers: each a wide register of two words -/

/-- The address of the low word of ring base `i`. -/
def baseLow (i : Fin 4) : Nat := 0x1460 + 8 * i.val

/-- The address of its high word. -/
def baseHigh (i : Fin 4) : Nat := 0x1464 + 8 * i.val

/-- The four base addresses of a ring configuration, in the order of their registers (R543). -/
def bases (r : RingCfg) : List Nat := [r.cmdBase, r.cplBase, r.evtBase, r.bulkBase]

theorem ringBase_iff (a : Nat) : ringBase a = true ↔ 0x1460 ≤ a ∧ a < 0x1480 := by simp [ringBase]

theorem ringBase_baseLow (i : Fin 4) : ringBase (baseLow i) = true := by
  rw [ringBase_iff, baseLow]; omega

theorem ringBase_baseHigh (i : Fin 4) : ringBase (baseHigh i) = true := by
  rw [ringBase_iff, baseHigh]; omega

theorem baseHigh_mod (i : Fin 4) : baseHigh i % 4 = 0 := by
  rw [baseHigh]; omega

theorem ringBase_cases {a : Nat} (ha : ringBase a = true) (h4 : a % 4 = 0) : ∃ i, a = baseLow i ∨ a = baseHigh i := by
  obtain ⟨hlo, hhi⟩ := (ringBase_iff a).mp ha
  refine ⟨⟨(a - 0x1460) / 8, by omega⟩, ?_⟩
  simp only [baseLow, baseHigh]
  omega

theorem baseLow_add_four (i : Fin 4) : baseLow i + 4 = baseHigh i := by
  rw [baseLow, baseHigh]; omega

theorem wideOf_baseLow (i : Fin 4) : wideOf (baseLow i) = some (baseLow i, 2) := by
  revert i; decide

theorem wideOf_baseHigh (i : Fin 4) : wideOf (baseHigh i) = some (baseLow i, 2) := by
  revert i; decide

theorem bases_stageBase_low (i : Fin 4) (v : Nat) (r : RingCfg) :
    (bases (stageBase (baseLow i) v r)).getD i.val 0 =
      (bases r).getD i.val 0 / 2 ^ 32 * 2 ^ 32 + v / 4096 * 4096 := by
  fin_cases i <;> rfl

theorem bases_stageBase_high (i : Fin 4) (v : Nat) (r : RingCfg) :
    (bases (stageBase (baseHigh i) v r)).getD i.val 0 = (bases r).getD i.val 0 % 2 ^ 32 + 2 ^ 32 * v := by
  fin_cases i <;> rfl

/-- A base staged by both of its words is those words, the low one on a page (R543). -/
theorem bases_stageBase_both (i : Fin 4) (lo : Word) (v : Nat) (r : RingCfg) :
    (bases (stageBase (baseHigh i) v (stageBase (baseLow i) lo.toNat r))).getD i.val 0 =
      lo.toNat / 4096 * 4096 + 4294967296 * v := by
  have hlo : lo.toNat < 2 ^ 32 := lo.isLt
  rw [bases_stageBase_high, bases_stageBase_low]
  omega

/-! ### What a write of a base word does -/

theorem settingMask_ringBase {a : Nat} (ha : ringBase a = true) (d : Device) : settingMask d a = none := by
  obtain ⟨hlo, hhi⟩ := (ringBase_iff a).mp ha
  unfold settingMask
  simp (disch := omega) only [if_neg]

theorem writeReg_ringBase {a : Nat} {d : Device} (ha : ringBase a = true) (hnode : d.isHead = false) (v : Nat) :
    writeReg a v d = applySetting a v d := by
  obtain ⟨hlo, hhi⟩ := (ringBase_iff a).mp ha
  have hlacks : lacks d a = false := by
    simp only [lacks, Bool.or_eq_false_iff, Bool.and_eq_false_iff, decide_eq_false_iff_not, beq_eq_false_iff_ne]
    omega
  have hout : outRwl a = false := by
    simp only [outRwl, Bool.and_eq_false_iff, decide_eq_false_iff_not]
    omega
  have hlocked : rwlLocked a d = false := by simp [rwlLocked, hout, settingMask_ringBase ha]
  unfold writeReg
  rw [hlacks, hlocked]
  simp (disch := omega) only [Bool.false_eq_true, if_false, if_neg, ha, if_true, hnode]

theorem putWord_ringBase {a : Nat} (ha : ringBase a = true) (v : Nat) (d : Device) :
    putWord a v d = setHif (fun h => { h with staged := stageBase a v h.staged }) d := by
  rw [putWord, if_pos ha]

/-- A low word is held until its high word comes (R533). -/
theorem applySetting_baseLow (i : Fin 4) (v : Nat) (d : Device) :
    applySetting (baseLow i) v d = { d with wideHold := mins d.wideHold (baseLow i) (BitVec.ofNat 32 v) } := by
  simp [applySetting, wideOf_baseLow]

/-- A high word is staged, and before it the low word where one is held (R533, R544). -/
theorem applySetting_baseHigh_held {i : Fin 4} {lo : Word} {d : Device} (hlo : mfind d.wideHold (baseLow i) = some lo)
    (v : Nat) : applySetting (baseHigh i) v d =
      setHif (fun h => { h with staged := stageBase (baseHigh i) v (stageBase (baseLow i) lo.toNat h.staged) })
        { d with wideHold := mdel d.wideHold (baseLow i) } := by
  simp [applySetting, wideOf_baseHigh, baseLow_add_four, hlo, putWord_ringBase, ringBase_baseLow, ringBase_baseHigh, setHif]

theorem applySetting_baseHigh_alone {i : Fin 4} {d : Device} (hlo : mfind d.wideHold (baseLow i) = none) (v : Nat) :
    applySetting (baseHigh i) v d = setHif (fun h => { h with staged := stageBase (baseHigh i) v h.staged }) d := by
  simp [applySetting, wideOf_baseHigh, baseLow_add_four, hlo, putWord_ringBase, ringBase_baseHigh]

/-- A device that differs from another at most in the staged ring registers and the words held. -/
def OnlyStaged (d e : Device) : Prop :=
  ∃ staged held, e = { d with hif := { d.hif with staged := staged }, wideHold := held }

theorem onlyStaged_applySetting {a : Nat} (ha : ringBase a = true) (h4 : a % 4 = 0) (v : Nat) (d : Device) :
    OnlyStaged d (applySetting a v d) := by
  obtain ⟨i, rfl | rfl⟩ := ringBase_cases ha h4
  · rw [applySetting_baseLow]
    exact ⟨_, _, rfl⟩
  · cases hlo : mfind d.wideHold (baseLow i) with
    | none =>
      rw [applySetting_baseHigh_alone hlo]
      exact ⟨_, _, rfl⟩
    | some lo =>
      rw [applySetting_baseHigh_held hlo]
      exact ⟨_, _, rfl⟩

/-! ### Base words written by CTRL frames -/

section
variable {f : RxFrame} {s : State} {h : Hdr} {b : List Byte} {d : Device} {a v : Nat}

theorem ctrlWriteFx_ringBase (ha : Accepted f s 2 h b d) (hserved : ctrlServed d = true) (hnode : s.dev.isHead = false)
    (hop : be b 0 1 = 1) (hreset : d.pwr.resetAsked = false) (hes : ctrlEntries b = [(a, v)]) (h4 : a % 4 = 0)
    (hbase : ringBase a = true) :
    ∃ ack, ctrlWriteFx f s.dev = ctrlRespond f.port.val h ack (applySetting a v d) := by
  obtain ⟨hlo, hhi⟩ := (ringBase_iff a).mp hbase
  have hwrite : writeReg a v d = applySetting a v d := writeReg_ringBase hbase ((accepted_isHead ha).trans hnode) v
  obtain ⟨staged, held, happly⟩ := onlyStaged_applySetting hbase h4 v d
  rw [← hwrite]
  refine ctrlWriteFx_single ha hserved hnode hop hes ?_ (by omega) ?_
  · simp only [entryGood, h4, beq_self_eq_true, Bool.true_and, decide_eq_true_eq]
    omega
  · rw [hwrite, happly, ← hreset]

theorem ctrlRespond_hif (p : Nat) (ack : List Byte) (e : Device) : (ctrlRespond p h ack e).hif = e.hif :=
  hif_of_mask (mask_ctrlRespond (ps := [.link, .flows, .sent]) rfl p h ack e) rfl

theorem ctrlWrite_ringBase_staged (ha : Accepted f s 2 h b d) (hserved : ctrlServed d = true)
    (hnode : s.dev.isHead = false) (hop : be b 0 1 = 1) (hreset : d.pwr.resetAsked = false)
    (hes : ctrlEntries b = [(a, v)]) (h4 : a % 4 = 0) (hbase : ringBase a = true) :
    Does (.ctrlWrite f) s (fun e => e.hif = { d.hif with staged := e.hif.staged } ∧
      SameBut [.hif, .wideHold, .flows, .link, .sent] d e) := by
  refine clocked_does (f := ctrlWriteFx f) rfl ?_
  obtain ⟨ack, hfx⟩ := ctrlWriteFx_ringBase ha hserved hnode hop hreset hes h4 hbase
  obtain ⟨staged, held, happly⟩ := onlyStaged_applySetting hbase h4 v d
  rw [hfx, happly]
  refine ⟨by rw [ctrlRespond_hif], sameBut_of_mask ?_⟩
  rw [mask_ctrlRespond (by decide)]
  rfl

theorem ctrlWrite_baseHigh_base {i : Fin 4} {lo : Word} (ha : Accepted f s 2 h b d) (hserved : ctrlServed d = true)
    (hnode : s.dev.isHead = false) (hop : be b 0 1 = 1) (hreset : d.pwr.resetAsked = false)
    (hes : ctrlEntries b = [(baseHigh i, v)]) (hlo : mfind d.wideHold (baseLow i) = some lo) :
    Does (.ctrlWrite f) s (fun e =>
      (bases e.hif.staged).getD i.val 0 = lo.toNat / 4096 * 4096 + 4294967296 * v) := by
  refine clocked_does (f := ctrlWriteFx f) rfl ?_
  obtain ⟨ack, hfx⟩ :=
    ctrlWriteFx_ringBase ha hserved hnode hop hreset hes (baseHigh_mod i) (ringBase_baseHigh i)
  rw [hfx, ctrlRespond_hif, applySetting_baseHigh_held hlo]
  exact bases_stageBase_both i lo v d.hif.staged

end

/-! ### HIF_RING_CFG written -/

theorem hifRingCfgWrite_node {s : State} (hnode : s.dev.isHead = false) (v : Word) :
    Does (.hifRingCfgWrite v) s (fun e =>
      e.hif = { s.dev.hif with
        ring := ringFields v.toNat s.dev.hif.staged, staged := ringFields v.toNat s.dev.hif.staged, cfgPending := true,
        old := if s.dev.hif.started then some (s.dev.hif.old.getD s.dev.hif.ring) else none } ∧
      SameBut [.hif] s.dev e) := by
  refine act_does (f := ringCfgFx v.toNat) rfl ?_
  simp only [ringCfgFx, hnode, Bool.false_eq_true, if_false]
  exact ⟨rfl, sameBut_of_mask (blank_set_hif rfl s.dev _)⟩

theorem hifRingCfgWrite_head {s : State} (hhead : s.dev.isHead = true) (v : Word) :
    Does (.hifRingCfgWrite v) s (fun e => e = s.dev) :=
  act_does (f := ringCfgFx v.toNat) rfl (by simp [ringCfgFx, hhead])

/-! ### The rings started: what follows the start keeps it

Once started, the device flushes kept notices, reports, acknowledges its watermarks and asks for descriptors. All of these
work on the host interface, and none changes what the start has set there or takes a notice back. -/

/-- What a start of the rings settles (R396): that they run, that no configuration waits, F, and the sequence word. -/
def startOf (h : Hif) : Bool × Bool × BitVec 32 × Option (BitVec 32) := (h.started, h.cfgPending, h.f, h.seqWord)

/-- A device whose rings stand as another's were started, with every notice of that one. -/
def KeepsStart (d e : Device) : Prop := startOf e.hif = startOf d.hif ∧ d.notes ⊆ e.notes

namespace KeepsStart

theorem of_eq {d e : Device} (hstart : startOf e.hif = startOf d.hif) (hnotes : e.notes = d.notes) : KeepsStart d e :=
  ⟨hstart, hnotes ▸ List.Subset.refl _⟩

theorem refl (d : Device) : KeepsStart d d := .of_eq rfl rfl

theorem trans {d e f : Device} (h : KeepsStart d e) (k : KeepsStart e f) : KeepsStart d f :=
  ⟨k.1.trans h.1, List.Subset.trans h.2 k.2⟩

theorem ite {d e f : Device} {c : Prop} [Decidable c] (he : KeepsStart d e) (hf : KeepsStart d f) :
    KeepsStart d (if c then e else f) := by
  split <;> assumption

theorem of_mask {ps : List Part} {d e : Device} (h : blank ps e = blank ps d) (hhif : has ps .hif = false)
    (hnotes : has ps .notes = false) : KeepsStart d e :=
  .of_eq (congrArg startOf (hif_of_mask h hhif)) (notes_of_mask h hnotes)

theorem foldl {α : Type} {g : Device → α → Device} (hg : ∀ d a, KeepsStart d (g d a)) (l : List α) (d : Device) :
    KeepsStart d (l.foldl g d) := by
  induction l generalizing d with
  | nil => exact refl d
  | cons a l ih => exact (hg d a).trans (ih (g d a))

end KeepsStart

theorem keepsStart_nodeSend (cls : Nat) (payload : List Byte) (stamp : RP) (proof : Option (BitVec 32)) (d : Device) :
    KeepsStart d (nodeSend cls payload stamp proof d) :=
  .of_mask (mask_nodeSend (ps := [.link, .flows, .sent]) rfl cls payload stamp proof d) rfl rfl

theorem keepsStart_writeOut (addr : Nat) (bytes : List Byte) (d : Device) : KeepsStart d (writeOut addr bytes d) := by
  unfold writeOut
  refine .ite (.of_eq rfl rfl) (.ite ?_ (.of_eq rfl rfl))
  refine .trans ?_ (keepsStart_nodeSend _ _ _ _ _)
  exact .of_eq rfl rfl

theorem keepsStart_vector (v : Nat) (d : Device) : KeepsStart d (vector v d) :=
  .ite (.of_eq rfl rfl) (.refl d)

theorem keepsStart_writeNotice (n : Notice) (d : Device) : KeepsStart d (writeNotice n d) := by
  unfold writeNotice
  dsimp only
  refine .trans ?_ (.ite (keepsStart_vector 5 _) (.refl _))
  refine .trans ?_ (keepsStart_vector 1 _)
  exact (keepsStart_writeOut _ _ d).trans (.of_eq rfl rfl)

theorem keepsStart_flushKept (n : Nat) (d : Device) : KeepsStart d (flushKept n d) := by
  induction n generalizing d with
  | zero => exact .refl d
  | succ n ih =>
    unfold flushKept
    split
    · refine .ite (.trans (.trans ?_ (keepsStart_writeNotice _ _)) (ih _)) (.refl d)
      exact .of_eq rfl rfl
    · exact .refl d

theorem keepsStart_flushEvents (d : Device) : KeepsStart d (flushEvents d) := by
  unfold flushEvents
  refine .ite (.trans (keepsStart_flushKept 64 d) (.ite ?_ (.refl _))) (.refl d)
  exact .trans (.of_eq rfl rfl) (keepsStart_writeNotice _ _)

theorem keepsStart_record (n : Notice) (d : Device) : KeepsStart d (record n d) :=
  .ite (keepsStart_writeNotice n d) (.ite (.of_eq rfl rfl) (.of_eq rfl rfl))

theorem keepsStart_raise (code : Nat) (payload : List Byte) (d : Device) : KeepsStart d (raise code payload d) := by
  unfold raise
  refine .trans ?_ (keepsStart_record _ _)
  exact ⟨rfl, List.subset_append_left _ _⟩

theorem keepsStart_wmPut (i : Nat) (w : Watermark) (d : Device) : KeepsStart d (wmPut d i w) :=
  .of_mask (mask_wmPut (ps := [.sched, .link, .ing, .pxl, .corr]) rfl d i w) rfl rfl

theorem keepsStart_wmAck (i : Nat) (d : Device) : KeepsStart d (wmAck i d) := by
  unfold wmAck
  refine .ite (.refl d) (.ite ?_ (keepsStart_wmPut i _ d))
  exact (keepsStart_raise _ _ d).trans (keepsStart_wmPut i _ _)

theorem keepsStart_ackAllMarks (d : Device) : KeepsStart d (ackAllMarks d) :=
  .foldl (fun d i => .ite (.refl d) (keepsStart_wmAck i d)) _ d

theorem keepsStart_sendRequest (d : Device) : KeepsStart d (sendRequest d) := by
  unfold sendRequest
  refine .trans ?_ (keepsStart_nodeSend _ _ _ _ _)
  exact .of_eq rfl rfl

theorem startRings_start (w : LetterWords) (d : Device) :
    startOf (startRings w d).hif = (true, false, w.p, some w.seq) ∧
    { code := 2, payload := leN 4 w.p.toNat ++ leN 4 w.c.toNat ++ leN 4 w.seq.toNat } ∈ (startRings w d).notes := by
  unfold startRings
  extract_lets d0 d1 d2 d3
  have hraised : KeepsStart d0 d2 := (keepsStart_flushEvents d0).trans (keepsStart_raise _ _ d1)
  have hend : KeepsStart d2 (if d3.isHead || !d3.hif.ring.enable then d3 else sendRequest d3) :=
    (keepsStart_ackAllMarks d2).trans (.ite (.refl d3) (keepsStart_sendRequest d3))
  have hnote : { code := 2, payload := leN 4 w.p.toNat ++ leN 4 w.c.toNat ++ leN 4 w.seq.toNat } ∈ d2.notes := by
    rw [raise_notes]
    exact List.mem_append_right _ (List.mem_singleton.mpr rfl)
  exact ⟨(hraised.trans hend).1, hend.2 hnote⟩

/-- A MAILBAG entry that finds a configuration pending starts the rings (R396, R544). -/
theorem mailbagFx_cfgPending {f : RxFrame} {s : State} {h : Hdr} {b : List Byte} {d : Device} {n : BitVec 12}
    {w : LetterWords} (ha : Accepted f s 5 h b d) (hnode : s.dev.isHead = false) (hid : d.topo.nodeId = some n)
    (hmail : mailFor n.toNat b = some w) (hcfg : d.hif.cfgPending = true) :
    ∃ e, mailbagFx f s.dev = startRings w e := by
  rw [mailbagFx, takeNumbered_accepted ha _ _ (by simp [ha.1, hnode])]
  simp only [hid, hmail, nodeLetter, hcfg, Bool.true_or, if_true]
  exact ⟨_, rfl⟩

/-- Settles O35: base words are only staged, HIF_RING_CFG applies them, and the MAILBAG entry that finds it pending starts
the rings, which what follows the start keeps. -/
theorem ringBasesStaged : Obligations.RingBasesStaged := by
  refine ⟨fun f s h b d ha hserved hnode hop hreset => ⟨?_, ?_⟩, fun v s => ⟨?_, ?_⟩, ?_⟩
  · exact fun a v hes h4 hbase => ctrlWrite_ringBase_staged ha hserved hnode hop hreset hes h4 hbase
  · exact fun i lo v hes hlo => ctrlWrite_baseHigh_base ha hserved hnode hop hreset hes hlo
  · exact fun hnode => hifRingCfgWrite_node hnode v
  · exact fun hhead => hifRingCfgWrite_head hhead v
  · intro f s h b d n w ha hnode hid hmail hcfg
    refine act_does (f := mailbagFx f) rfl ?_
    obtain ⟨e, hstart⟩ := mailbagFx_cfgPending ha hnode hid hmail hcfg
    obtain ⟨hset, hnote⟩ := startRings_start w e
    simp only [startOf, Prod.mk.injEq] at hset
    obtain ⟨hrun, hpending, hf, hseq⟩ := hset
    simp only [keepClk_hif, keepClk_notes, hstart]
    exact ⟨hrun, hpending, hf, hseq, hnote⟩

end Sys2Proof.Proofs
end

/-! ## Sys2Proof/Proofs/Clock: what a command can do to the raster clock (R2, R45, R46, R60)

Every command is an effect on the device: one that keeps the raster clock, or one of the time base. Those of the time base
keep the RP on its raster, and those that mark an instant only ever bring the RP on to it. -/

section

namespace Sys2Proof.Proofs

open Machine Laws

theorem exec_act_of_movesClock {i : Instr} (h : i.movesClock = false) (s : State) : ∃ f, exec i s = act f s := by
  cases i
  all_goals first | exact ⟨_, rfl⟩ | cases h

/-- Settles O3: each command is an effect on the device alone, and the queue stays. -/
theorem everyCommandAnswers : Obligations.EveryCommandAnswers := by
  intro i s
  cases i
  all_goals exact ⟨_, rfl, rfl⟩

/-! ### The RP stays on its raster -/

theorem onRaster_powerOn {d : Device} (h : OnRaster d.clk) : OnRaster (powerOnFx d).clk :=
  onRaster_ite h (onRaster_reset _ _)

theorem onRaster_brownOut (d : Device) : OnRaster (brownOutFx d).clk := onRaster_reset 1 d

theorem onRaster_refLost {d : Device} (h : OnRaster d.clk) : OnRaster (refLostFx d).clk :=
  onRaster_ite h (onRaster_reset _ _)

theorem onRaster_coreWatchdog {d : Device} (h : OnRaster d.clk) : OnRaster (coreWatchdogFx d).clk :=
  onRaster_ite (onRaster_reset _ _) h

theorem onRaster_pwrReset {d : Device} (h : OnRaster d.clk) (v : Nat) : OnRaster (pwrResetFx v d).clk :=
  onRaster_ite (onRaster_reset _ _) h

theorem onRaster_selfReset {d : Device} (h : OnRaster d.clk) : OnRaster (selfResetFx d).clk :=
  onRaster_ite (onRaster_reset _ _) h

theorem onRaster_tapExit {d : Device} (h : OnRaster d.clk) : OnRaster (tapExitFx d).clk :=
  onRaster_ite (onRaster_reset _ _) h

theorem onRaster_settle {d : Device} (h : OnRaster d.clk) (was : RP) : OnRaster (settle was d).clk := by
  rwa [settle_clk]

theorem clockOk_act {f : Device → Device} {s t : State} (h : ClockOk s) (ht : act f s = .next t) : ClockOk t := by
  obtain rfl := Host.Outcome.next.inj ht
  exact h

theorem clockOk_clocked {f : Device → Device} {s t : State} (hf : OnRaster (f s.dev).clk) (ht : clocked f s = .next t) :
    ClockOk t := by
  obtain rfl := Host.Outcome.next.inj ht
  exact hf

/-- A command that may move the raster clock keeps the RP on its raster (R2, R46, R60, R521). -/
theorem clockOk_mover {i : Instr} {s t : State} (hi : i.movesClock = true) (h : ClockOk s) (ht : exec i s = .next t) :
    ClockOk t := by
  cases i
  case powerOnReset => exact clockOk_clocked (onRaster_powerOn h) ht
  case brownOut => exact clockOk_clocked (onRaster_brownOut _) ht
  case resetN => exact clockOk_clocked (onRaster_reset 2 _) ht
  case refLost => exact clockOk_clocked (onRaster_refLost h) ht
  case coreWatchdog => exact clockOk_clocked (onRaster_coreWatchdog h) ht
  case hostWatchdogExpiry =>
    refine clockOk_clocked (f := fun d => quiet watchdogExpiryFx (dueFirst (fun d =>
      if d.clk.hold.isSome || d.pwr.powerOff then none else some d.clk.rp) d)) ?_ ht
    rw [quiet_clk]
    exact onRaster_dueFirst h _
  case runEntry => exact clockOk_clocked (onRaster_runEntry h) ht
  case pwrResetWrite v => exact clockOk_clocked (onRaster_pwrReset h v.toNat) ht
  case hostResetDelay => exact clockOk_clocked (onRaster_hostReset h) ht
  case timeFrame x => 
    refine clockOk_clocked (f := fun d => settle d.clk.rp (timeFrameFx x d)) ?_ ht
    exact onRaster_settle (onRaster_timeFrame h x) _
  case nodeAcquireComplete rate => exact clockOk_clocked (onRaster_acquire h rate) ht
  case rasterReadopt => exact clockOk_clocked (onRaster_readopt h) ht
  case ptpMeasurement m => exact clockOk_clocked (onRaster_ptpMeasurement h m) ht
  case syncInEdge falling => exact clockOk_clocked (onRaster_syncEdge h falling) ht
  case backwardStepResume => 
    refine clockOk_clocked (f := fun d => settle d.clk.rp (resumeFx d)) ?_ ht
    exact onRaster_settle (onRaster_resume h) _
  case alignedPointReached => exact clockOk_clocked (onRaster_aligned h) ht
  case frameBoundary => exact clockOk_clocked (onRaster_boundary h) ht
  case cutoffLineReached => exact clockOk_clocked (onRaster_cutoff h) ht
  case compositionDeadline => exact clockOk_clocked (onRaster_deadline h) ht
  case subrefreshStart => exact clockOk_clocked (onRaster_subRow h) ht
  case shutterEdge w close =>
    refine clockOk_clocked (f := fun d => shutterEdgeFx w.val close (dueFirst (edgeAt w.val close) d)) ?_ ht
    exact onRaster_shutterEdge (onRaster_dueFirst h _) w.val close
  case ctrlWrite f => exact clockOk_clocked (onRaster_ctrlWrite h f) ht
  case dmxBreak p bad =>
    refine clockOk_clocked (f := fun d => dmxBreakFx p.val bad (dueFirst (breakAt p.val) d)) ?_ ht
    exact onRaster_dmxBreak (onRaster_dueFirst h _) p.val bad
  case patternWaitExpiry n =>
    refine clockOk_clocked (f := fun d => patExpiryFx n.val (dueFirst (waitEnd n.val) d)) ?_ ht
    exact onRaster_patExpiry (onRaster_dueFirst h _) n.val
  case meterSaveDone ok => exact clockOk_clocked (onRaster_meterDone h ok) ht
  case lifecycleSelfReset => exact clockOk_clocked (onRaster_selfReset h) ht
  case tapIntrusiveExit => exact clockOk_clocked (onRaster_tapExit h) ht
  case registerWrite a v => exact clockOk_clocked (onRaster_registerWrite h a.toNat v.toNat) ht
  case timeStepAuthorise c => 
    refine clockOk_clocked (f := fun d => settle d.clk.rp (timeStepFx c d)) ?_ ht
    exact onRaster_settle (onRaster_timeStep h c) _
  all_goals cases hi

theorem clockOk_exec {i : Instr} {s t : State} (h : ClockOk s) (ht : exec i s = .next t) : ClockOk t := by
  cases hi : i.movesClock
  · obtain ⟨f, hf⟩ := exec_act_of_movesClock hi s
    exact clockOk_act h (hf ▸ ht)
  · exact clockOk_mover hi h ht

/-- Settles O5: a step is one RAST cycle, which keeps the RP on its raster, or the front command, which does too. -/
theorem stepKeepsRpOnRaster : Obligations.StepKeepsRpOnRaster := by
  intro s t h ht
  unfold step at ht
  split at ht
  next =>
    obtain rfl := Host.Outcome.next.inj ht
    exact onRaster_idle h
  next c rest _ => exact clockOk_exec (s := { s with pending := rest }) h ht

/-! ### A row that marks an instant -/

/-- A clock left as it was, or moved on to an RP. -/
def Advanced (c e : Clock) : Prop := e = c ∨ ∃ p, e = c.reach p

namespace Advanced

theorem ite {α : Prop} [Decidable α] {c : Clock} {d e : Device} (hd : Advanced c d.clk) (he : Advanced c e.clk) :
    Advanced c (if α then d else e).clk := by
  split <;> assumption

theorem keeps {c e : Clock} (h : Advanced c e) :
    (e.rp = c.rp ∨ c.rp.before e.rp = true) ∧ e.raster = c.raster ∧ e.hold = c.hold := by
  obtain rfl | ⟨p, rfl⟩ := h
  · exact ⟨.inl rfl, rfl, rfl⟩
  · unfold Clock.reach Clock.goTo
    split
    · split
      · exact ⟨.inr ‹_›, rfl, rfl⟩
      · exact ⟨.inl rfl, rfl, rfl⟩
    · exact ⟨.inl rfl, rfl, rfl⟩

end Advanced

section
variable {d : Device}

theorem runDue_of_none (hd : nextEntry d = none) (n : Nat) (p : RP) : runDue n p d = d := by
  cases n with
  | zero => rfl
  | succ n => simp [runDue, hd]

theorem dueBy_of_none (hd : nextEntry d = none) (p : RP) : dueBy p d = d := runDue_of_none hd _ p

theorem dueFirst_of_none (hd : nextEntry d = none) (at_ : Device → Option RP) : dueFirst at_ d = d := by
  unfold dueFirst
  cases h : at_ d with
  | none => simp [h]
  | some p => simp [h, dueBy_of_none hd]

theorem subDue_of_none (hd : nextEntry d = none) : subDue d = d := by
  unfold subDue
  split
  · exact dueBy_of_none hd _
  · rfl

theorem comeTo_of_none (hd : nextEntry d = none) (p : RP) (work : Device → Device) :
    comeTo p work d = if d.clk.hold.isSome || (p.before d.clk.rp && !(p.before d.clk.rp)) then d
      else quiet work { d with clk := d.clk.reach p } := by
  simp only [comeTo, dueBy_of_none hd]

theorem advanced_comeTo (hd : nextEntry d = none) (p : RP) (work : Device → Device) :
    Advanced d.clk (comeTo p work d).clk := by
  rw [comeTo_of_none hd]
  exact .ite (.inl rfl) (.inr ⟨p, rfl⟩)

theorem advanced_boundary (hd : nextEntry d = none) : Advanced d.clk (boundaryFx d).clk := by
  unfold boundaryFx
  simp only [dueBy_of_none hd]
  exact .ite (.inl rfl) (.ite (.inl rfl) (.inr ⟨_, rfl⟩))

theorem advanced_cutoff (hd : nextEntry d = none) : Advanced d.clk (cutoffFx d).clk :=
  .ite (.inl rfl) (advanced_comeTo hd _ _)

theorem advanced_deadline (hd : nextEntry d = none) : Advanced d.clk (deadlineStep d).clk :=
  .ite (.inl rfl) (advanced_comeTo hd _ _)

theorem advanced_subRow (hd : nextEntry d = none) : Advanced d.clk (subRow d).clk := by
  unfold subRow
  simp only [subDue_of_none hd]
  refine .ite (.inl rfl) ?_
  split
  · exact advanced_comeTo hd _ _
  · exact .inl rfl

theorem advanced_shutterEdge (w : Nat) (close : Bool) : Advanced d.clk (shutterEdgeFx w close d).clk := by
  unfold shutterEdgeFx
  refine .ite (.inl rfl) (.ite ?_ ?_)
  · unfold shutterCloseFx
    dsimp only
    split
    · exact .inr ⟨_, rfl⟩
    · exact .inl rfl
  · exact .ite (.inl rfl) (.inr ⟨_, rfl⟩)

theorem advanced_patExpiry (n : Nat) : Advanced d.clk (patExpiryFx n d).clk :=
  .ite (.inl rfl) (.inr ⟨_, rfl⟩)

theorem advanced_dmxBreak (p : Nat) (bad : Bool) : Advanced d.clk (dmxBreakFx p bad d).clk := by
  unfold dmxBreakFx
  refine .ite (.inl rfl) ?_
  split
  · exact .inr ⟨_, rfl⟩
  · exact .inl rfl

end

theorem advanced_clocked {f : Device → Device} {s t : State} (hf : Advanced s.dev.clk (f s.dev).clk)
    (ht : clocked f s = .next t) : Advanced s.dev.clk t.dev.clk := by
  obtain rfl := Host.Outcome.next.inj ht
  exact hf

/-- A row that marks an instant, where no command is due, leaves the clock or moves it on (R46). -/
theorem advanced_marksInstant {i : Instr} {s t : State} (hi : i.marksInstant = true)
    (hdue : i.runsDue = true → nextEntry s.dev = none) (ht : exec i s = .next t) : Advanced s.dev.clk t.dev.clk := by
  cases i
  case frameBoundary => exact advanced_clocked (advanced_boundary (hdue rfl)) ht
  case cutoffLineReached => exact advanced_clocked (advanced_cutoff (hdue rfl)) ht
  case compositionDeadline => exact advanced_clocked (advanced_deadline (hdue rfl)) ht
  case subrefreshStart => exact advanced_clocked (advanced_subRow (hdue rfl)) ht
  case shutterEdge w close =>
    refine advanced_clocked (f := fun d => shutterEdgeFx w.val close (dueFirst (edgeAt w.val close) d)) ?_ ht
    rw [dueFirst_of_none (hdue rfl)]
    exact advanced_shutterEdge w.val close
  case dmxBreak p bad =>
    refine advanced_clocked (f := fun d => dmxBreakFx p.val bad (dueFirst (breakAt p.val) d)) ?_ ht
    rw [dueFirst_of_none (hdue rfl)]
    exact advanced_dmxBreak p.val bad
  case patternWaitExpiry n =>
    refine advanced_clocked (f := fun d => patExpiryFx n.val (dueFirst (waitEnd n.val) d)) ?_ ht
    rw [dueFirst_of_none (hdue rfl)]
    exact advanced_patExpiry n.val
  all_goals cases hi

/-- Settles O6: all other commands keep the clock, and a row that marks an instant only moves it on. -/
theorem clockMovesOnlyByTimeBase : Obligations.ClockMovesOnlyByTimeBase := by
  refine ⟨fun i s t hi ht => ?_, fun i s t hi hdue ht => (advanced_marksInstant hi hdue ht).keeps⟩
  obtain ⟨f, hf⟩ := exec_act_of_movesClock hi s
  obtain rfl := Host.Outcome.next.inj (hf ▸ ht)
  rfl

end Sys2Proof.Proofs
end

/-! ## Sys2Proof/Proofs/Steps: a step on a waiting queue and on an empty one (R45, R60) -/

section

namespace Sys2Proof.Proofs

open Machine Laws

/-- Settles O1: the step takes the front command off the queue. -/
theorem stepRunsFront : Obligations.StepRunsFront := by
  intro c rest s h
  rw [step, h]

/-- Settles O4: the reset state's clock is at the start of the reset raster. -/
theorem resetOnRaster : Obligations.ResetOnRaster :=
  ⟨onRaster_reset 0 {}, rfl, rfl, rfl, rfl⟩

theorem step_of_nil {s : State} (h : s.pending = []) : step s = .next { s with dev := idle s.dev } := by
  rw [step, h]

theorem blank_idle (d : Device) : blank [.clk] (idle d) = blank [.clk] d := by
  unfold idle
  split
  · rfl
  · exact blank_set_clk rfl d _

theorem goTo_raster (c : Clock) (p : RP) : (c.goTo p).raster = c.raster := by
  unfold Clock.goTo
  split <;> rfl

theorem tick_raster (c : Clock) (stops : List RP) : (c.tick stops).raster = c.raster := by
  unfold Clock.tick
  dsimp only
  split
  · rfl
  · exact goTo_raster c _

theorem idle_raster (d : Device) : (idle d).clk.raster = d.clk.raster := by
  unfold idle
  split
  · rfl
  · exact tick_raster d.clk _

theorem idle_of_still {d : Device} (h : d.pwr.inReset = true ∨ d.pwr.powerOff = true ∨ d.clk.hold ≠ none) : idle d = d := by
  have hstill : (d.pwr.inReset || d.pwr.powerOff || d.clk.hold.isSome) = true := by
    rcases h with h | h | h
    · simp [h]
    · simp [h]
    · simp [Option.isSome_iff_ne_none.mpr h]
  rw [idle, if_pos hstill]

/-- A cycle that would pass no instant with a row of its own moves the RP by INC (R45). -/
theorem tick_moves {c : Clock} {stops : List RP} {rp : RP}
    (hrp : rp = RP.plus c.raster c.rp (((c.frac + c.raster.inc : Nat) : Int) / 2 ^ 32))
    (hstops : ∀ p ∈ stops, c.rp.before p = true → rp.before p = true) (hline : rp.line < c.raster.lines) :
    (c.tick stops).rp = rp ∧ (c.tick stops).frac = (c.frac + c.raster.inc) % 2 ^ 32 := by
  have hsub : rp.sub < 65536 := hrp ▸ Nat.mod_lt _ (by decide)
  have hnone : ¬ stops.any (fun p => c.rp.before p && !(rp.before p)) = true := by
    rw [List.any_eq_true]
    rintro ⟨p, hp, hpass⟩
    obtain ⟨hbefore, hpast⟩ := Bool.and_eq_true_iff.mp hpass
    simp [hstops p hp hbefore] at hpast
  unfold Clock.tick
  dsimp only
  rw [← hrp, if_neg hnone, Clock.goTo, if_pos ⟨hline, hsub⟩]
  exact ⟨rfl, rfl⟩

/-- Settles O2: an idle step is one RAST cycle of the clock, and none in reset, in HIBERNATE or during a hold. -/
theorem stepIdles : Obligations.StepIdles := by
  intro s h
  refine ⟨_, step_of_nil h, h, sameBut_of_mask (blank_idle s.dev), idle_raster s.dev, fun hstill => ?_, ?_⟩
  · exact congrArg Device.clk (idle_of_still hstill)
  · intro rp hreset hoff hhold _ hrp hstops hline
    have hruns : idle s.dev = { s.dev with clk := s.dev.clk.tick (instants s.dev) } := by simp [idle, hreset, hoff, hhold]
    rw [hruns]
    exact tick_moves (by simpa using hrp) hstops hline

end Sys2Proof.Proofs
end

/-! ## Sys2Proof/Proofs/Resets: the rows that reset the device (R521 to R523, R527) -/

section

namespace Sys2Proof.Proofs

open Machine Laws

theorem hasBit_add_two_pow {n i : Nat} (h : hasBit n i = false) : hasBit (n + 2 ^ i) i = true := by
  simp only [hasBit, bitAt, beq_eq_false_iff_ne, beq_iff_eq, ne_eq] at h ⊢
  rw [Nat.add_div_right _ (Nat.two_pow_pos i)]
  omega

theorem hasBit_causeMask (p : Power) (cause : Nat) : hasBit (causeMask p cause) cause = true := by
  unfold causeMask
  split
  · subst ‹cause = 0›
    decide
  · split
    · assumption
    · exact hasBit_add_two_pow (Bool.not_eq_true _ ▸ ‹¬ hasBit p.mask cause = true›)

/-- What a reset leaves (R521 to R523). -/
theorem afterReset_resetDevice (cause : Nat) (d : Device) : AfterReset cause d (resetDevice cause d) := by
  have hmask : cause = 0 → causeMask d.pwr cause = 1 ∧ causeFirst d.pwr cause = 0 := by
    rintro rfl
    exact ⟨rfl, rfl⟩
  have hfirst : cause ≠ 0 → (d.pwr.mask ≠ 0 → causeFirst d.pwr cause = d.pwr.first) ∧
      (d.pwr.mask = 0 → causeFirst d.pwr cause = cause) :=
    fun h => ⟨fun hm => if_neg (by simp [h, hm]), fun hm => if_pos (.inr hm)⟩
  exact ⟨rfl, rfl, rfl, rfl, rfl, rfl, rfl, rfl, rfl, rfl, rfl, rfl, rfl, rfl, rfl, rfl, rfl, rfl, rfl, rfl, rfl, rfl,
    hasBit_causeMask d.pwr cause, hmask, hfirst, rfl, rfl, rfl, rfl, rfl, rfl, rfl, rfl, rfl, rfl, rfl, rfl, rfl, rfl⟩

section
variable {d : Device}

theorem powerOnFx_of_supply (h : d.pwr.supplyLow = false) : powerOnFx d = resetDevice 0 d := by simp [powerOnFx, h]

theorem powerOnFx_of_brownOut (h : d.pwr.supplyLow = true) :
    powerOnFx d = setPwr (fun p => { p with supplyLow := false }) d := by simp [powerOnFx, h]

theorem refLostFx_of_on (h : d.pwr.powerOff = false) : refLostFx d = resetDevice 9 d := by simp [refLostFx, h]

theorem pwrResetFx_key (hready : d.pwr.readyHost = true) (hoff : d.pwr.powerOff = false) :
    pwrResetFx 0x5A4C5253 d = resetDevice 4 d := by simp [pwrResetFx, hready, hoff]

theorem pwrResetFx_ignored {v : Word} (h : v ≠ 0x5A4C5253 ∨ d.pwr.readyHost = false ∨ d.pwr.powerOff = true) :
    pwrResetFx v.toNat d = d := by
  have hkey : v ≠ 0x5A4C5253 → v.toNat ≠ 0x5A4C5253 := fun hv hn => hv (BitVec.eq_of_toNat_eq hn)
  rw [pwrResetFx, if_neg]
  rintro ⟨hv, hready, hoff⟩
  rcases h with h | h | h
  · exact hkey h hv
  · simp [h] at hready
  · simp [h] at hoff

theorem registerWriteFx_pwrReset_ignored {v : Word}
    (h : v ≠ 0x5A4C5253 ∨ d.pwr.readyHost = false ∨ d.pwr.powerOff = true) : registerWriteFx 0x0C08 v.toNat d = d := by
  simp [registerWriteFx, pwrResetFx_ignored h]

theorem registerWriteFx_pwrReset_key (hready : d.pwr.readyHost = true) (hoff : d.pwr.powerOff = false)
    (hhead : d.isHead = true) : registerWriteFx 0x0C08 0x5A4C5253 d = resetDevice 4 d := by
  simp [registerWriteFx, hready, hoff, hhead, pwrResetFx_key]

theorem hostResetFx_done {h : HostReset} (hs : d.pwr.hostReset = some h) (hdone : h.done = true) :
    hostResetFx d = resetDevice 3 d := by simp [hostResetFx, hs, hdone]

theorem hostResetFx_early (h : ∀ x, d.pwr.hostReset = some x → x.done = false) : hostResetFx d = d := by
  unfold hostResetFx
  split
  · simp [h _ ‹_›]
  · rfl

theorem does_reset {i : Instr} {f : Device → Device} {s : State} {cause : Nat} (hi : exec i s = clocked f s)
    (hf : f s.dev = resetDevice cause s.dev) : Does i s (AfterReset cause s.dev) :=
  clocked_does hi (hf ▸ afterReset_resetDevice cause s.dev)

end

/-- Settles O8: each row is the reset of its cause where its condition holds, and nothing where it does not. -/
theorem resetRows : Obligations.ResetRows := by
  intro s
  refine ⟨does_reset rfl rfl, clocked_does (f := brownOutFx) rfl ⟨afterReset_resetDevice 1 s.dev, rfl⟩,
    fun h => does_reset rfl (powerOnFx_of_supply h), fun h => clocked_does (f := powerOnFx) rfl ?_,
    fun h => clocked_does (f := refLostFx) rfl ?_, fun h => clocked_does (f := refLostFx) rfl (if_pos h),
    fun h => does_reset rfl (if_pos h), fun h => clocked_does (f := coreWatchdogFx) rfl (if_neg (by simp [h])),
    fun hready hoff => ⟨does_reset rfl (pwrResetFx_key hready hoff), fun hhead =>
      does_reset rfl (registerWriteFx_pwrReset_key hready hoff hhead)⟩,
    fun v h => ⟨clocked_does (f := pwrResetFx v.toNat) rfl (pwrResetFx_ignored h),
      clocked_does (f := registerWriteFx 0x0C08 v.toNat) rfl (registerWriteFx_pwrReset_ignored h)⟩,
    fun h hs hdone => does_reset rfl (hostResetFx_done hs hdone),
    fun h => clocked_does (f := hostResetFx) rfl (hostResetFx_early h),
    fun h => does_reset rfl (if_pos h), fun h => clocked_does (f := tapExitFx) rfl (if_neg (by simp [h])),
    fun j h => does_reset rfl (if_pos (by simp [h])), fun h => clocked_does (f := selfResetFx) rfl (if_neg (by simp [h]))⟩
  · rw [powerOnFx_of_brownOut h]
    exact ⟨rfl, rfl, rfl, sameBut_of_mask (blank_set_pwr rfl s.dev _)⟩
  · rw [refLostFx_of_on h]
    exact ⟨afterReset_resetDevice 9 s.dev, rfl⟩

/-- Settles O10: loss of REF is the reset of its cause; the release then waits for REF, and its return goes on. -/
theorem refLoss : Obligations.RefLoss := by
  refine ⟨fun s h => ?_, fun b s hreset hsupply href => ?_, fun us s hwait => ?_, fun b s hwait hboot => ?_⟩
  · refine clocked_does (f := refLostFx) rfl ?_
    rw [refLostFx_of_on h]
    exact ⟨afterReset_resetDevice 9 s.dev, rfl⟩
  · refine act_does (f := resetReleaseFx b) rfl ?_
    simp only [resetReleaseFx, hreset, hsupply, href, Bool.not_true, Bool.or_self, Bool.false_eq_true, if_false]
    exact ⟨rfl, rfl, sameBut_of_mask (blank_set_pwr rfl s.dev _)⟩
  · refine act_does (f := readyHostFx us) rfl ?_
    simp [readyHostFx, hwait]
  · refine act_does (f := refReturnFx) rfl ?_
    obtain ⟨limit, hpwr⟩ := bootSteps_pwr b (setPwr (fun p => { p with refHere := true }) s.dev)
    simp [refReturnFx, hboot, hwait, hpwr]

end Sys2Proof.Proofs
end

/-! ## Sys2Proof/Proofs/Keeps: all parts but one, and what reporting keeps -/

section

namespace Sys2Proof.Proofs

open Machine Laws

/-- Every part of a device. -/
def parts : List Part :=
  [.clk, .tim, .sched, .link, .ing, .topo, .flows, .hif, .gest, .pxl, .corr, .out, .red, .spare, .fix, .cal, .mtr, .sec, .pwr,
   .regs, .wideHold, .snap, .lastRead, .proofIn, .sent, .host, .comps, .notes]

/-- Every part of a device but one: devices that agree under this mask agree on that part (`Laws.pwr_of_mask` and the
like). -/
def others (p : Part) : List Part := parts.filter (fun q => q ≠ p)

theorem finished_finish {d e : Device} (h : e.comps = d.comps) (op : Nat) (c : Cmd) (effect : RP) (result : List Byte) :
    Finished d (finish op c effect result e) op c effect result := by
  have := finish_completed op c effect result e
  rwa [Finished, Completed, h] at this

theorem completed_refuse {d e : Device} (h : e.comps = d.comps) (op : Nat) (c : Cmd) (status : Nat) (reason : List Byte) :
    Completed d (refuse op c status reason e) op c status none reason := by
  have := refuse_completed op c status reason e
  rwa [Completed, h] at this

theorem noticed_raise {d e : Device} (h : e.notes = d.notes) (code : Nat) (payload : List Byte) :
    Noticed d (raise code payload e) code payload := by
  rw [Noticed, raise_notes, h]

/-! ### A device whose rings have not started -/

/-- Another device whose rings have not started either and whose link ports are the same. -/
def SamePortsUnstarted (d e : Device) : Prop := e.hif.started = false ∧ e.link = d.link

namespace SamePortsUnstarted

theorem refl {d : Device} (h : d.hif.started = false) : SamePortsUnstarted d d := ⟨h, rfl⟩

theorem trans {d e f : Device} (h : SamePortsUnstarted d e) (k : SamePortsUnstarted e f) : SamePortsUnstarted d f :=
  ⟨k.1, k.2.trans h.2⟩

theorem ite {d e f : Device} {c : Prop} [Decidable c] (he : SamePortsUnstarted d e) (hf : SamePortsUnstarted d f) :
    SamePortsUnstarted d (if c then e else f) := by
  split <;> assumption

theorem foldl {α : Type} {d : Device} {f : Device → α → Device}
    (hf : ∀ e a, e.hif.started = false → SamePortsUnstarted e (f e a)) (l : List α) (h : d.hif.started = false) :
    SamePortsUnstarted d (l.foldl f d) := by
  induction l generalizing d with
  | nil => exact refl h
  | cons a l ih => exact (hf d a h).trans (ih (hf d a h).1)

end SamePortsUnstarted

/-- Before the rings start a notice is kept, and nothing is posted for it (R400). -/
theorem samePortsUnstarted_raise {d : Device} (h : d.hif.started = false) (code : Nat) (payload : List Byte) :
    SamePortsUnstarted d (raise code payload d) := by
  have hserved : served { d with notes := d.notes ++ [{ code := BitVec.ofNat 16 code, payload := payload }] } = false := by
    simp [served, h]
  unfold raise record
  simp only [hserved, Bool.false_and, Bool.false_eq_true, if_false]
  exact .ite ⟨h, rfl⟩ ⟨h, rfl⟩

end Sys2Proof.Proofs
end

/-! ## Sys2Proof/Proofs/StartUp: from RESET_RELEASE to the entry to RUN (R46, R515, R529) -/

section

namespace Sys2Proof.Proofs

open Machine Laws

/-! ### The standby PLLs' lock tests -/

/-- The PLLs a family has to fall back on, which a start tests. -/
def standbys (d : Device) : List Bool := d.red.pllStandby

theorem standbys_engineGone (e unitKind : Nat) (d : Device) : standbys (engineGone e unitKind d) = standbys d := by
  have hnote : standbys (engineFailedNotice e unitKind (setEngine e .failed d)) = standbys d := by
    simp [standbys, engineFailedNotice, setEngine, setRed]
  unfold engineGone
  dsimp only
  split
  · exact hnote
  · rw [standbys, red_of_mask (ps := others .red) (mask_spareTaken rfl _ _ _) rfl]
    exact hnote

theorem standbys_foldl {α : Type} {f : Device → α → Device} (hf : ∀ d a, standbys (f d a) = standbys d) (l : List α)
    (d : Device) : standbys (l.foldl f d) = standbys d := by
  induction l generalizing d with
  | nil => rfl
  | cons a l ih => rw [List.foldl_cons, ih, hf]

theorem standbys_testEngines (pass : List Bool) (d : Device) : standbys (testEngines pass d) = standbys d := by
  unfold testEngines
  refine standbys_foldl (fun d e => ?_) _ _
  split
  · exact standbys_engineGone _ _ _
  · split
    · simp [standbys, engineFailedNotice, freeNext]
    · rfl

theorem standbys_retireCopy (c : Nat) (d : Device) : standbys (retireCopy c d) = standbys d := by
  unfold retireCopy
  dsimp only
  split
  · rw [standbys, red_of_mask (ps := others .red) (mask_spareTaken rfl _ _ _) rfl]
    rfl
  · rfl

theorem standbys_testCopies (pass : List Bool) (d : Device) : standbys (testCopies pass d) = standbys d := by
  have hretire : ∀ (b : Bool) (c : Nat) (e : Device), standbys (when b (retireCopy c) e) = standbys e := by
    intro b c e
    cases b
    · rfl
    · exact standbys_retireCopy c e
  have hboth : ∀ b0 b1 : Bool, standbys (when b1 (retireCopy 1) (when b0 (retireCopy 0) d)) = standbys d :=
    fun b0 b1 => (hretire b1 1 _).trans (hretire b0 0 d)
  unfold testCopies
  dsimp only
  split <;> exact hboth _ _

theorem standbys_pllTested (f : Nat) (pass : Bool) (d : Device) :
    standbys (pllTested f pass d) = (standbys d).set f pass := by
  unfold pllTested
  dsimp only
  split
  · rw [standbys, red_of_mask (ps := others .red) (mask_spareTaken rfl _ _ _) rfl]
    rfl
  · rfl

theorem standbys_testPlls {d : Device} (h : (standbys d).length = 7) (mask : Nat) :
    standbys (testPlls mask d) = (List.range 7).map (hasBit mask) := by
  have hrange : List.range 7 = [0, 1, 2, 3, 4, 5, 6] := rfl
  obtain ⟨a, b, c, x, y, z, w, hlist⟩ : ∃ a b c x y z w, standbys d = [a, b, c, x, y, z, w] := by
    generalize standbys d = l at h
    match l, h with
    | [a, b, c, x, y, z, w], _ => exact ⟨a, b, c, x, y, z, w, rfl⟩
  have hset : ∀ l, standbys (setRed (fun r => { r with pllLocked := l }) d) = standbys d := fun _ => rfl
  unfold testPlls
  simp [hrange, standbys_pllTested, hset, hlist]

theorem standbys_eraseFor {d : Device} (h : (standbys d).length = 7) (dst : Life) : (standbys (eraseFor dst d)).length = 7 := by
  have hreport : ∀ (b : Bool) (code : Nat) (p : List Byte) (e : Device), standbys (when b (report 0x0C none code p) e) = standbys e := by
    intro b code p e
    cases b
    · rfl
    · exact congrArg (·.pllStandby) (report_red _ _ _ _ _)
  cases dst with
  | retired =>
    unfold eraseFor
    dsimp only
    rw [hreport]
    rfl
  | returned => exact h
  | blank => exact h
  | provisioned => exact h
  | sealed => exact h

theorem red_setLevel (new path : Nat) (d : Device) : (setLevel new path d).red = d.red :=
  red_of_mask (ps := others .red) (mask_setLevel rfl new path d) rfl

theorem standbys_applyJournal {d : Device} (h : (standbys d).length = 7) : (standbys (applyJournal d)).length = 7 := by
  unfold applyJournal
  split
  · rw [standbys, red_setLevel, raise_red]
    exact standbys_eraseFor h _
  · exact h

theorem standbys_bootTests {d : Device} (h : (standbys d).length = 7) (b : BootInputs) :
    standbys (bootTests b d) = (List.range 7).map (hasBit b.pllPass) := by
  have hlen : (standbys (testCopies b.copyPass (testEngines b.enginePass d))).length = 7 := by
    rwa [standbys_testCopies, standbys_testEngines]
  unfold bootTests
  rw [standbys, red_of_mask (ps := others .red) (mask_judged rfl _ _) rfl,
    red_of_mask (ps := others .red) (mask_deferredMade rfl _ _) rfl,
    red_of_mask (ps := others .red) (mask_deferredMade rfl _ _) rfl]
  exact standbys_testPlls hlen b.pllPass

/-- Start-up leaves each family the standby PLL that has passed its lock test (R529, R540). -/
theorem standbys_bootSteps {d : Device} (h : (standbys d).length = 7) (b : BootInputs) :
    standbys (bootSteps b d) = (List.range 7).map (hasBit b.pllPass) := by
  have hword : ∀ (c : Bool) (e : Device) (v : Nat), standbys (if c then e else e.setWord 0x480C v) = standbys e := by
    intro c e v
    cases c <;> rfl
  unfold bootSteps
  rw [standbys, red_of_mask (ps := others .red) (mask_bootImage rfl _) rfl]
  refine standbys_bootTests ?_ b
  rw [hword]
  exact standbys_applyJournal (d := setSec _ d) h

/-! ### The release -/

/-- The device at the release of reset, with its role and START (R13, R515). -/
def released (b : BootInputs) (d : Device) : Device :=
  setPwr (fun p => { p with
    inReset := false, state := .startUp, role := roleOf b.role1 b.role0, straps := 2 * bit b.role1 + bit b.role0,
    roleRes := b.role1 && b.role0, start := roleOf b.role1 b.role0 == .node, refHere := b.refPresent }) d

theorem resetReleaseFx_of_reset {b : BootInputs} {d : Device} (hreset : d.pwr.inReset = true)
    (hsupply : d.pwr.supplyLow = false) : resetReleaseFx b d = if b.refPresent then bootSteps b (released b d)
      else setPwr (fun p => { p with waitRef := true, boot := some b, bootLimit := none }) (released b d) := by
  simp only [resetReleaseFx, hreset, hsupply, released]
  rfl

/-- After the release start-up goes on to its tests, or waits for REF (R527, R529). -/
theorem resetReleaseFx_starts {b : BootInputs} {d : Device} (hreset : d.pwr.inReset = true)
    (hsupply : d.pwr.supplyLow = false) (hlen : d.red.pllStandby.length = 7) :
    let e := keepClk d (resetReleaseFx b d)
    e.pwr.inReset = false ∧ e.pwr.state = .startUp ∧ e.pwr.role = roleOf b.role1 b.role0 ∧
      e.pwr.start = (roleOf b.role1 b.role0 == .node) ∧ e.pwr.waitRef = !b.refPresent ∧
      (b.refPresent = true → e.pwr.boot = none ∧ e.red.pllStandby = (List.range 7).map (fun f => hasBit b.pllPass f)) ∧
      (b.refPresent = false → e.pwr.boot = some b ∧ SameBut [.pwr] d e) := by
  rw [resetReleaseFx_of_reset hreset hsupply]
  cases href : b.refPresent
  · exact ⟨rfl, rfl, rfl, rfl, rfl, nofun, fun _ => ⟨rfl, sameBut_of_mask (blank_set_pwr rfl d _)⟩⟩
  · obtain ⟨limit, hpwr⟩ := bootSteps_pwr b (released b d)
    have htests := standbys_bootSteps (d := released b d) hlen b
    rw [if_pos rfl]
    dsimp only
    rw [keepClk_pwr, keepClk_red, hpwr]
    exact ⟨rfl, rfl, rfl, rfl, rfl, fun _ => ⟨rfl, htests⟩, nofun⟩

/-! ### Ready for host -/

theorem samePortsUnstarted_calBoot {d : Device} (h : d.hif.started = false) : SamePortsUnstarted d (calBoot d) := by
  unfold calBoot
  refine .foldl (fun e k he => ?_) _ h
  split
  · exact samePortsUnstarted_raise (d := setCal _ e) he _ _
  · exact .refl he

/-- The device at step 9 of a first start, before it reports (R150, R529). -/
def hostReady (us : Nat) (d : Device) : Device :=
  judgeStart us (enableIngest (enableLinks (setPwr (fun p => { p with readyHost := true }) d)))

theorem hostReady_pwr (us : Nat) (d : Device) : (hostReady us d).pwr = { d.pwr with readyHost := true } := by
  rw [hostReady, pwr_of_mask (ps := others .pwr) (mask_judgeStart rfl _ _) rfl,
    pwr_of_mask (ps := others .pwr) (mask_enableIngest rfl _) rfl]
  rfl

theorem hostReady_link (us : Nat) (d : Device) :
    (hostReady us d).link = d.link.map (fun l => { l with enabled := true }) := by
  rw [hostReady, link_of_mask (ps := others .link) (mask_judgeStart rfl _ _) rfl,
    link_of_mask (ps := others .link) (mask_enableIngest rfl _) rfl]
  rfl

theorem hostReady_hif (us : Nat) (d : Device) : (hostReady us d).hif = d.hif := by
  rw [hostReady, hif_of_mask (ps := others .hif) (mask_judgeStart rfl _ _) rfl,
    hif_of_mask (ps := others .hif) (mask_enableIngest rfl _) rfl]
  rfl

/-- What is reported at step 9 of a first start: the cause of the reset, and a level of debug the reset has changed (R503,
R523). -/
def startReports (us : Nat) (d : Device) : Device :=
  let d := raise 0x8011 (leN 1 d.pwr.first ++ zeros 1 ++ leN 2 d.pwr.mask ++ leN 4 us) d
  let d := if d.sec.wasLevel = d.sec.level then d
    else raise 0x8006 (leN 1 d.sec.wasLevel ++ leN 1 d.sec.level ++ leN 1 2 ++ zeros 1) d
  calBoot (setSec (fun c => { c with wasLevel := c.level }) d)

theorem readyHostFx_first {us : Nat} {d : Device} (hreset : d.pwr.inReset = false) (hwait : d.pwr.waitRef = false)
    (hready : d.pwr.readyHost = false) (hoff : d.pwr.powerOff = false) (htrans : d.pwr.trans = none)
    (hret : d.pwr.retained = none) : readyHostFx us d = startReports us (hostReady us d) := by
  have hstand : entersStandby (enableLinks (setPwr (fun p => { p with readyHost := true }) d)) = false := by
    simp [entersStandby, enableLinks, htrans]
  simp only [readyHostFx, hreset, hwait, hready, hoff, htrans, restoreRetained, hret, hstand, Bool.or_self, Bool.false_eq_true,
    if_false, Option.isSome_none]
  rfl

theorem startReports_pwr (us : Nat) (d : Device) : (startReports us d).pwr = d.pwr := by
  rw [startReports, pwr_of_mask (ps := others .pwr) (mask_calBoot rfl _) rfl, setSec_pwr]
  split <;> simp

theorem startReports_link {d : Device} (us : Nat) (h : d.hif.started = false) : (startReports us d).link = d.link := by
  unfold startReports
  extract_lets d1 d2
  have hfirst : SamePortsUnstarted d d1 := samePortsUnstarted_raise h _ _
  have hnext : SamePortsUnstarted d d2 := .ite hfirst (hfirst.trans (samePortsUnstarted_raise hfirst.1 _ _))
  exact (hnext.trans (samePortsUnstarted_calBoot (d := setSec _ d2) hnext.1)).2

theorem notes_subset_calBoot (d : Device) : d.notes ⊆ (calBoot d).notes := by
  have hfold : ∀ (l : List Nat) (e : Device), d.notes ⊆ e.notes → d.notes ⊆ (l.foldl (fun e k =>
      match e.cal.marker.getD k none with
      | some (tag, at_) => calAborted k 0 tag (some at_) (setCal (fun c => { c with marker := setAt c.marker k none }) e)
      | none => e) e).notes := by
    intro l
    induction l with
    | nil => exact fun _ h => h
    | cons k l ih =>
      intro e h
      refine ih _ ?_
      dsimp only
      split
      · rw [calAborted, raise_notes]
        exact List.Subset.trans h (List.subset_append_left _ _)
      · exact h
  exact hfold _ d (List.Subset.refl _)

theorem startReports_cause (us : Nat) (d : Device) :
    { code := 0x8011, payload := leN 1 d.pwr.first ++ zeros 1 ++ leN 2 d.pwr.mask ++ leN 4 us } ∈ (startReports us d).notes := by
  refine notes_subset_calBoot _ ?_
  rw [setSec_notes]
  split <;> simp

/-! ### Ready to light -/

theorem readyLightFx_first {d : Device} (hready : d.pwr.readyHost = true) (hlight : d.pwr.readyLight = false)
    (hoff : d.pwr.powerOff = false) (hwoke : d.pwr.woke = false) : (readyLightFx d).pwr = { d.pwr with readyLight := true } := by
  have hload : (meterFromRegs (loadMeter (if d.isNode then loadFixtures (loadStores d) else d))).pwr = d.pwr := by
    refine pwr_of_mask (ps := others .pwr) ?_ rfl
    simp (disch := decide) only [mask_meterFromRegs, mask_loadMeter, mask_ite, mask_loadFixtures, mask_loadStores, ite_self]
  simp [readyLightFx, hready, hlight, hoff, hload, hwoke]

/-! ### The entry to RUN -/

/-- A state entered but for its report (R515, R516). -/
def entered (target old : PState) (cause : Nat) (d : Device) : Device :=
  let d := setPwr (fun p => { p with state := target, byWd := cause == 1 }) d
  let d := lpiCheckAll (if target == .run || target == .quiet then enableIngest d else d)
  when (target == .run && (old == .standby || old == .hibernate)) (setOut (fun o =>
    { o with autoStart := if d.tim.everLocked then some 2 else some 1 })) d

theorem enterState_eq (target old : PState) (cause : Nat) (d : Device) :
    enterState target old cause d = stateChanged old target cause (entered target old cause d) := rfl

theorem mask_entered (target old : PState) (cause : Nat) (d : Device) :
    blank [.link, .ing, .out, .sent] (entered target old cause d) =
      blank [.link, .ing, .out, .sent] (setPwr (fun p => { p with state := target, byWd := cause == 1 }) d) := by
  simp (disch := decide) only [entered, blank_when, mask_setOut, mask_lpiCheckAll, mask_enableIngest, mask_ite, ite_self]

theorem enterState_pwr (target old : PState) (cause : Nat) (d : Device) :
    (enterState target old cause d).pwr = { d.pwr with state := target, byWd := cause == 1 } := by
  rw [enterState_eq, pwr_of_mask (ps := others .pwr) (mask_stateChanged rfl _ _ _ _) rfl,
    pwr_of_mask (mask_entered _ _ _ _) rfl]
  rfl

theorem enterState_noticed (target old : PState) (cause : Nat) (d : Device) :
    Noticed d (enterState target old cause d) 0x8010
      (leN 1 (stateCode old) ++ leN 1 (stateCode target) ++ leN 1 cause ++ zeros 1 ++ d.clk.rp.bytes) := by
  rw [enterState_eq, stateChanged, clk_of_mask (mask_entered _ _ _ _) rfl]
  exact noticed_raise (notes_of_mask (mask_entered _ _ _ _) rfl) _ _

/-- What RUN_ENTRY does with the raster clock as it then stands (R8, R515). -/
def runEntered (d : Device) : Device :=
  let d := setPwr (fun p => { p with everRun := true }) d
  let d := enterState .run .startUp 4 d
  let d := if d.isHead then headRun d else setTime (fun t => { t with threshold := d.field 0x3010 19 0 }) d
  let d := when d.isNode (setFix (fun x => { x with setpoint := vMax d })) d
  if d.pwr.role = .headNode then outCheck d else d

theorem runEntryFx_run {d : Device} (hstate : d.pwr.state = .startUp) (hlight : d.pwr.readyLight = true)
    (hstart : d.pwr.start = true) (hreset : d.pwr.inReset = false) :
    runEntryFx d = quiet runEntered (headRunClock d) := by
  simp only [runEntryFx, hstate, hlight, hstart, hreset]
  rfl

theorem runEntered_pwr (d : Device) :
    (runEntered d).pwr.state = .run ∧ (runEntered d).pwr.everRun = true := by
  have hmask : blank (others .pwr) (runEntered d) =
      blank (others .pwr) (enterState .run .startUp 4 (setPwr (fun p => { p with everRun := true }) d)) := by
    simp (disch := decide) only [runEntered, mask_ite, mask_outCheck, blank_when, mask_setFix, mask_headRun, mask_setTime, ite_self]
  rw [pwr_of_mask hmask rfl, enterState_pwr]
  exact ⟨rfl, rfl⟩

theorem runEntered_node {d : Device} (hrole : d.pwr.role = .node) :
    Noticed d (runEntered d) 0x8010 (leN 1 4 ++ leN 1 0 ++ leN 1 4 ++ zeros 1 ++ d.clk.rp.bytes) := by
  unfold runEntered
  extract_lets d1 d2 d3 d4
  have hrole2 : d2.pwr.role = .node := by rw [enterState_pwr]; exact hrole
  have hthree : d3 = setTime (fun t => { t with threshold := d2.field 0x3010 19 0 }) d2 :=
    if_neg (by simp [Device.isHead, hrole2])
  have hfix : blank [.fix] d4 = blank [.fix] d3 := by
    simp (disch := decide) only [d4, blank_when, mask_setFix, ite_self]
  have hrole4 : d4.pwr.role = .node := by rw [pwr_of_mask hfix rfl, hthree, setTime_pwr, hrole2]
  rw [if_neg (by simp [hrole4]), Noticed, notes_of_mask hfix rfl, hthree, setTime_notes]
  exact enterState_noticed .run .startUp 4 d1

theorem headRunClock_restart {d : Device} (hhead : d.isHead = true) (hvalid : (rasterRegs d).valid = true) :
    (headRunClock d).clk.rp = RP.start 0 ∧ (headRunClock d).clk.raster = rasterRegs d := by
  have hlines : 0 < (rasterRegs d).lines := by
    simp only [Raster.valid, Bool.and_eq_true, decide_eq_true_eq] at hvalid
    omega
  simp [headRunClock, hhead, hvalid, restarted, Clock.restart, hlines]

/-- Settles O9: the release takes the role, the boot tests the standby PLLs, step 9 enables the ports and reports the
reset, and the entry to RUN restarts a head's raster. -/
theorem startUp : Obligations.StartUp := by
  refine ⟨⟨fun b s hreset hsupply hlen => ?_, fun b s hwait hboot hlen => ?_⟩,
    ⟨fun us s hreset hwait hready hoff htrans hret => ?_, fun us s hready => ?_, fun s hready hlight hoff hwoke => ?_,
      fun s hlight => ?_⟩, ⟨fun s hstate hlight hstart hreset => ?_, fun s hstart => ?_, fun v s hready => ?_⟩⟩
  · refine act_does (f := resetReleaseFx b) rfl ?_
    exact resetReleaseFx_starts hreset hsupply hlen
  · refine act_does (f := refReturnFx) rfl ?_
    have hgo : refReturnFx s.dev = bootSteps b (setPwr (fun p => { p with refHere := true }) s.dev) := by
      simp [refReturnFx, hboot, hwait]
    obtain ⟨limit, hpwr⟩ := bootSteps_pwr b (setPwr (fun p => { p with refHere := true }) s.dev)
    simp only [keepClk_pwr, keepClk_red, hgo, hpwr]
    exact ⟨trivial, rfl, trivial, standbys_bootSteps (d := setPwr _ s.dev) hlen b⟩
  · refine act_does (f := readyHostFx us) rfl ?_
    rw [readyHostFx_first hreset hwait hready hoff htrans hret]
    simp only [keepClk_pwr, keepClk_link, keepClk_notes, startReports_pwr, hostReady_pwr]
    refine ⟨trivial, fun hrings => ?_, ?_⟩
    · rw [startReports_link us (by rwa [hostReady_hif]), hostReady_link]
    · have := startReports_cause us (hostReady us s.dev)
      rwa [hostReady_pwr] at this
  · exact act_does (f := readyHostFx us) rfl (by simp [readyHostFx, hready])
  · refine act_does (f := readyLightFx) rfl ?_
    simp [readyLightFx_first hready hlight hoff hwoke]
  · exact act_does (f := readyLightFx) rfl (by simp [readyLightFx, hlight])
  · refine clocked_does (f := runEntryFx) rfl ?_
    rw [runEntryFx_run hstate hlight hstart hreset]
    obtain ⟨hrun, hever⟩ := runEntered_pwr (headRunClock s.dev)
    simp only [quiet, keepClk_pwr, keepClk_clk, Noticed, keepClk_notes]
    refine ⟨hrun, hever, fun hrole => ?_, fun hhead hvalid => headRunClock_restart hhead hvalid⟩
    have hclock : headRunClock s.dev = s.dev := by simp [headRunClock, Device.isHead, hrole]
    rw [hclock]
    exact runEntered_node hrole
  · exact clocked_does (f := runEntryFx) rfl (by simp [runEntryFx, hstart])
  · refine act_does (f := pwrStartFx v.toNat) rfl ?_
    simp only [pwrStartFx, hready, if_true]
    exact ⟨rfl, sameBut_of_mask (blank_set_pwr rfl s.dev _)⟩

end Sys2Proof.Proofs
end

/-! ## Sys2Proof/Proofs/Answers: commands that only answer, and samples of the schedule -/

section

namespace Sys2Proof.Proofs

open Machine Laws

/-- A refused command writes its completion and nothing else. -/
theorem refuse_answers {d e : Device} {op : Nat} {c : Cmd} {status : Nat} {reason : List Byte}
    (h : e = refuse op c status reason d) :
    Completed d e op c status none reason ∧ SameBut (.comps :: reporting) d e :=
  h ▸ ⟨refuse_completed op c status reason d, sameBut_of_mask (mask_refuse rfl op c status reason d)⟩

/-- A command that only completes writes its completion and nothing else. -/
theorem finish_answers {d e : Device} {op : Nat} {c : Cmd} {effect : RP} {result : List Byte}
    (h : e = finish op c effect result d) :
    Finished d e op c effect result ∧ SameBut (.comps :: reporting) d e :=
  h ▸ ⟨finish_completed op c effect result d, sameBut_of_mask (mask_finish rfl op c effect result d)⟩

theorem keepClk_of_clk {d e : Device} (h : e.clk = d.clk) : keepClk d e = e := by
  rw [keepClk, ← h]

theorem sameBut_keepClk {ps : List Part} {d e : Device} (h : blank ps e = blank ps d) : SameBut ps d (keepClk d e) :=
  sameBut_of_mask (mask_quiet (f := fun _ => e) h)

/-- A command that keeps the raster clock is read off its effect. -/
theorem act_does_of_clk {f : Device → Device} {s : State} {i : Instr} {p : Device → Prop} (hi : exec i s = act f s)
    (hclk : (f s.dev).clk = s.dev.clk) (hp : p (f s.dev)) : Does i s p :=
  act_does hi (by rwa [keepClk_of_clk hclk])

theorem does_refuse {f : Device → Device} {s : State} {i : Instr} {op : Nat} {c : Cmd} {status : Nat} {reason : List Byte}
    (hi : exec i s = act f s) (hf : f s.dev = refuse op c status reason s.dev) :
    Does i s (fun e => Completed s.dev e op c status none reason ∧ SameBut (.comps :: reporting) s.dev e) :=
  act_does_of_clk hi (hf ▸ refuse_clk op c status reason s.dev) (refuse_answers hf)

theorem does_finish {f : Device → Device} {s : State} {i : Instr} {op : Nat} {c : Cmd} {effect : RP} {result : List Byte}
    (hi : exec i s = act f s) (hf : f s.dev = finish op c effect result s.dev) :
    Does i s (fun e => Finished s.dev e op c effect result ∧ SameBut (.comps :: reporting) s.dev e) :=
  act_does_of_clk hi (hf ▸ finish_clk op c effect result s.dev) (finish_answers hf)

/-- A command that answers a stronger property answers a weaker one. -/
theorem does_mono {i : Instr} {s : State} {p q : Device → Prop} (h : Does i s p) (hpq : ∀ e, p e → q e) : Does i s q := by
  obtain ⟨t, ht, hq, hp⟩ := h
  exact ⟨t, ht, hq, hpq _ hp⟩

theorem wmPut_zero_sched (d : Device) (w : Watermark) : (wmPut d 0 w).sched = { d.sched with high := w } := rfl

/-- A sample of the schedule leaves it but for its watermark (R86, R411). -/
theorem sampleSched_sched (level : Nat) (d : Device) : ∃ w, (sampleSched level d).sched = { d.sched with high := w } := by
  have hnotice : ∀ w v : Watermark, ∃ x, (wmPut (wmNotice 0 w level 1 0 d) 0 v).sched = { d.sched with high := x } := by
    intro w v
    exact ⟨v, by rw [wmPut_zero_sched, wmNotice, raise_sched]⟩
  unfold sampleSched sample
  extract_lets w w1 crossing w2
  split
  · exact hnotice _ _
  · split <;> exact ⟨_, wmPut_zero_sched _ _⟩

theorem schedSample_entries (d : Device) : (schedSample d).sched.entries = d.sched.entries := by
  obtain ⟨w, hw⟩ := sampleSched_sched (schedPlaces d) d
  rw [schedSample, hw]

end Sys2Proof.Proofs
end

/-! ## Sys2Proof/Proofs/Power: power states, wake events, the watchdog and reset requests (R513 to R519, R524, R530) -/

section

namespace Sys2Proof.Proofs

open Machine Laws

/-! ### POWER_STATE_SET refused -/

theorem powerSetFx_badField {c : Cmd} {d : Device} (h : 3 < opB c 0 ∨ 2 < opB c 1 ∨ 86400 < opN c 4 4) :
    powerSetFx c d = refuse 0x88 c 4 [] d := by
  simp only [powerSetFx, if_pos h]

theorem stateOf_ne_run {n : Nat} (h : n ≠ 0) : stateOf n ≠ .run := by
  unfold stateOf
  rw [if_neg h]
  split
  · decide
  · split <;> decide

/-- The commands of this state that are refused as not applicable (R506, R515, R519). -/
def powerRefused (c : Cmd) (d : Device) : Prop :=
  d.pwr.state = .startUp ∨ (d.sec.halted ≠ 0 ∧ opB c 0 ≠ 0) ∨ stateEntered d = stateOf (opB c 0) ∨
    (forwardOnly d = true ∧ (opB c 0 = 1 ∨ opB c 0 = 2))

theorem powerSetFx_refused {c : Cmd} {d : Device} (hgood : ¬ (3 < opB c 0 ∨ 2 < opB c 1 ∨ 86400 < opN c 4 4))
    (h : powerRefused c d) : powerSetFx c d = refuse 0x88 c 6 [] d := by
  have hstate : (stateOf (opB c 0) == .quiet || stateOf (opB c 0) == .standby) = false →
      ¬ (opB c 0 = 1 ∨ opB c 0 = 2) := by
    rintro hno (h1 | h2)
    · rw [h1] at hno; exact absurd hno (by decide)
    · rw [h2] at hno; exact absurd hno (by decide)
  simp only [powerSetFx, if_neg hgood]
  split
  · rfl
  next hstart =>
    split
    · rfl
    next hforward =>
      split
      · rfl
      next hhalted =>
        rw [if_pos]
        rcases h with h | ⟨h, hn⟩ | h | ⟨h, hn⟩
        · exact absurd h (by simpa using hstart)
        · exact absurd ⟨h, stateOf_ne_run hn⟩ hhalted
        · simp [h]
        · exact absurd hn (hstate (by simpa [h] using hforward))

/-! ### POWER_STATE_SET carried out -/

/-- The commands of this state that are carried out (R506, R515, R519, R530). -/
structure PowerServed (c : Cmd) (d : Device) : Prop where
  state : opB c 0 ≤ 3
  back : opB c 1 ≤ 2
  timer : opN c 4 4 ≤ 86400
  started : d.pwr.state ≠ .startUp
  lights : forwardOnly d = false
  cores : d.sec.halted = 0
  other : stateEntered d ≠ stateOf (opB c 0)

theorem powerSetFx_served {c : Cmd} {d : Device} (h : PowerServed c d) :
    powerSetFx c d = if d.pwr.trans.isSome then
        schedSample (setPwr (fun p => { p with queued := p.queued ++ [{ c with late := false }] }) d)
      else moveTo (stateOf (opB c 0)) 0 (some c) (if stateOf (opB c 0) == .hibernate then hibernateSet c d else d) := by
  have hgood : ¬ (3 < opB c 0 ∨ 2 < opB c 1 ∨ 86400 < opN c 4 4) := by
    have := h.state
    have := h.back
    have := h.timer
    omega
  have hstart : (d.pwr.state == .startUp) = false := beq_eq_false_iff_ne.mpr h.started
  have hother : (stateEntered d == stateOf (opB c 0)) = false := beq_eq_false_iff_ne.mpr h.other
  simp [powerSetFx, hgood, hstart, h.lights, h.cores, hother]

theorem boundaryRp_of_clk {d e : Device} (h : e.clk = d.clk) : boundaryRp e = boundaryRp d := by
  rw [boundaryRp, boundaryRp, h]

/-- What QUIET stops at a head and node in RUN (R245, R455, R516). -/
def quieted (d : Device) : Device := tasksGone (calLeave (outStop 2 d))

theorem quieted_pwr (d : Device) : (quieted d).pwr = d.pwr := by
  refine pwr_of_mask (ps := others .pwr) ?_ rfl
  simp (disch := decide) only [quieted, mask_tasksGone, mask_calLeave, mask_outStop]

theorem moveTo_quiet {c : Cmd} {d : Device} (h : d.pwr.state = .run) :
    moveTo .quiet 0 (some c) d = finish 0x88 c (boundaryRp (enterState .quiet .run 0 (quieted d))) (zeros 4)
      (enterState .quiet .run 0 (quieted d)) := by
  simp only [moveTo, h]
  rfl

theorem powerSet_quiet {c : Cmd} {d : Device} (h : d.pwr.state = .run) (htrans : d.pwr.trans = none) :
    let e := moveTo .quiet 0 (some c) d
    e.pwr.state = .quiet ∧ e.pwr.trans = none ∧ e.pxl.graph = none := by
  dsimp only
  rw [moveTo_quiet h, finish_pwr, finish_pxl, enterState_pwr, quieted_pwr,
    pxl_of_mask (ps := others .pxl) (mask_enterState rfl _ _ _ _) rfl]
  exact ⟨rfl, htrans, rfl⟩

/-- The move from QUIET to RUN, before its completion (R338, R516). -/
def lit (d : Device) : Device :=
  let d := enterState .run .quiet 0 d
  if d.field 0x4000 0 0 = 1 ∧ canStart d ∧ !d.out.running then
    outStart d.clk.rp.frame 2 (setOut (fun o => { o with autoStart := none }) d)
  else d

theorem mask_lit (d : Device) : blank (others .pwr) (lit d) = blank (others .pwr) (enterState .run .quiet 0 d) := by
  simp (disch := decide) only [lit, mask_ite, mask_outStart, mask_setOut, ite_self]

theorem moveTo_run {c : Cmd} {d : Device} (h : d.pwr.state = .quiet) :
    moveTo .run 0 (some c) d = finish 0x88 c (boundaryRp (lit d)) (zeros 4) (lit d) := by
  simp only [moveTo, h]
  rfl

theorem powerSet_run {c : Cmd} {d : Device} (h : d.pwr.state = .quiet) (htrans : d.pwr.trans = none) :
    let e := moveTo .run 0 (some c) d
    e.pwr.state = .run ∧ e.pwr.trans = none ∧ Finished d e 0x88 c (boundaryRp d) (zeros 4) := by
  have hmask : blank [.link, .ing, .flows, .hif, .out, .pwr, .sent, .host, .notes] (lit d) =
      blank [.link, .ing, .flows, .hif, .out, .pwr, .sent, .host, .notes] d := by
    simp (disch := decide) only [lit, mask_ite, mask_outStart, mask_setOut, mask_enterState, ite_self]
  dsimp only
  rw [moveTo_run h, finish_pwr, pwr_of_mask (mask_lit d) rfl, enterState_pwr, boundaryRp_of_clk (clk_of_mask hmask rfl)]
  exact ⟨rfl, htrans, finished_finish (comps_of_mask hmask rfl) _ _ _ _⟩

theorem standbySteps_pwr (d : Device) : (standbySteps d).pwr = d.pwr :=
  pwr_of_mask (ps := others .pwr) (mask_standbySteps rfl d) rfl

/-- The entry to STANDBY ends the graph in progress (R245). -/
theorem standbySteps_graph (d : Device) : (standbySteps d).pxl.graph = none := by
  have hlost : ∀ e : Device, (if e.isHead && e.tim.source == .ptp then timeLost 0 none e else e).pxl = e.pxl := by
    intro e
    split
    · exact pxl_of_mask (ps := others .pxl) (mask_timeLost rfl 0 none e) rfl
    · rfl
  unfold standbySteps
  rw [hlost]
  rfl

theorem saveStart_pwr (cmd : Option (RP × Cmd)) (d : Device) : (saveStart cmd d).pwr = d.pwr :=
  pwr_of_mask (ps := others .pwr) (mask_saveStart rfl cmd d) rfl

/-- An energy save is under way once one is begun (R481). -/
theorem saveStart_isSome (cmd : Option (RP × Cmd)) (d : Device) : (saveStart cmd d).mtr.save.isSome = true := by
  unfold saveStart
  dsimp only
  split
  · rfl
  next hs =>
    split
    · rfl
    · simp [setMtr, hs]

theorem powerSet_standby (c : Cmd) (d : Device) :
    let e := moveTo .standby 0 (some c) d
    e.pwr.state = .standby ∧ e.pxl.graph = none ∧
      e.pwr.trans = some { target := .standby, old := d.pwr.state, cause := 0, cmd := some c, at_ := boundaryRp d } := by
  have hmove : moveTo .standby 0 (some c) d =
    setPwr (fun p => { p with state := .standby }) (standbySteps (transBegin .standby 0 (some c) d)) := rfl
  dsimp only
  rw [hmove, setPwr_pwr, setPwr_pxl, standbySteps_pwr, standbySteps_graph]
  exact ⟨rfl, rfl, rfl⟩

/-- The entry to HIBERNATE begun (R516, R519): the functions stop as for STANDBY, where they have not yet. -/
theorem powerSet_hibernate (c : Cmd) (d : Device) :
    let e := moveTo .hibernate 0 (some c) (hibernateSet c d)
    e.pwr.state = .standby ∧ e.pwr.back = stateOf (opB c 1) ∧ e.pwr.wakeTimer = opN c 4 4 ∧ e.mtr.save.isSome = true ∧
      e.pwr.trans = some { target := .hibernate, old := d.pwr.state, cause := 0, cmd := some c, at_ := boundaryRp d } := by
  have hold : (hibernateSet c d).pwr.state = d.pwr.state := rfl
  simp only [moveTo, saveStart_pwr, saveStart_isSome, hold]
  split
  next h =>
    have hstandby : d.pwr.state = .standby := by simpa using h
    exact ⟨hstandby, rfl, rfl, trivial, rfl⟩
  next =>
    rw [setPwr_pwr, standbySteps_pwr]
    exact ⟨rfl, rfl, rfl, trivial, rfl⟩

/-- Settles O12: the refusals write their completion, and a command carried out waits, moves at its boundary or begins its
transition. -/
theorem powerStateSet : Obligations.PowerStateSet := by
  refine ⟨fun c s => ⟨fun h => does_refuse rfl (powerSetFx_badField h), fun hgood h =>
    does_refuse rfl (powerSetFx_refused hgood h)⟩, ?_⟩
  intro c s hstate hback htimer hstart hlights hcores hother
  have hserved : PowerServed c s.dev := ⟨hstate, hback, htimer, hstart, hlights, hcores, hother⟩
  have hfx := powerSetFx_served hserved
  refine ⟨fun htrans => ?_, fun htrans hn hrun => ?_, fun htrans hn hquiet => ?_, fun htrans hn hstandby => ?_,
    fun htrans hn => ?_, fun htrans hn => ?_⟩
  · refine act_does (f := powerSetFx c) rfl ?_
    rw [hfx, if_pos htrans]
    refine ⟨?_, ?_, sameBut_keepClk ?_⟩
    · rw [keepClk_pwr, pwr_of_mask (ps := others .pwr) (mask_schedSample rfl _) rfl]
      rfl
    · rw [keepClk_sched, schedSample_entries]
      rfl
    · rw [mask_schedSample rfl]
      exact blank_set_pwr rfl s.dev _
  · refine act_does (f := powerSetFx c) rfl ?_
    rw [hfx, htrans, hn]
    simp only [keepClk_pwr, keepClk_pxl]
    exact powerSet_quiet hrun htrans
  · refine act_does (f := powerSetFx c) rfl ?_
    rw [hfx, htrans, hn]
    simp only [keepClk_pwr, Finished, Completed, keepClk_comps]
    exact powerSet_run hquiet htrans
  · refine act_does (f := powerSetFx c) rfl ?_
    have hbegin : moveTo (stateOf (opB c 0)) 0 (some c) s.dev = transBegin (stateOf (opB c 0)) 0 (some c) s.dev := by
      obtain h0 | h1 : opB c 0 = 0 ∨ opB c 0 = 1 := by omega
      · simp [moveTo, h0, stateOf, hstandby]
      · simp [moveTo, h1, stateOf, hstandby]
    have hhib : (stateOf (opB c 0) == .hibernate) = false := by
      obtain h0 | h1 : opB c 0 = 0 ∨ opB c 0 = 1 := by omega
      · rw [h0]; rfl
      · rw [h1]; rfl
    rw [hfx, if_neg (by simp [htrans]), hhib, if_neg Bool.false_ne_true, hbegin]
    refine ⟨sameBut_keepClk (blank_set_pwr rfl s.dev _), ?_⟩
    rw [keepClk_pwr, transBegin, setPwr_pwr, hstandby]
  · refine act_does (f := powerSetFx c) rfl ?_
    have htwo : stateOf 2 = .standby := rfl
    rw [hfx, if_neg (by simp [htrans]), hn, htwo, if_neg (by decide), keepClk_pwr, keepClk_pxl]
    exact powerSet_standby c s.dev
  · refine act_does (f := powerSetFx c) rfl ?_
    have hthree : stateOf 3 = .hibernate := rfl
    rw [hfx, if_neg (by simp [htrans]), hn, hthree, if_pos (by decide), keepClk_pwr, keepClk_mtr]
    exact powerSet_hibernate c s.dev

end Sys2Proof.Proofs
end

/-! ## Sys2Proof/Proofs/Wakes: transitions done, HIBERNATE, wake events, the watchdog and reset requests (R516 to R519, R524) -/

section

namespace Sys2Proof.Proofs

open Machine Laws

/-! ### The end of a transition -/

section
variable {d : Device} {t : Transition}

theorem transEnd_pwr (h : d.pwr.trans = some t) (us : Nat) :
    (transEnd us d).pwr = { d.pwr with trans := none, state := t.target, byWd := t.cause == 1 } := by
  unfold transEnd
  rw [h]
  dsimp only
  split
  · rw [finish_pwr, enterState_pwr]
    rfl
  · rw [enterState_pwr]
    rfl

theorem transEnd_finished {e : Device} {c : Cmd} (h : d.pwr.trans = some t) (hc : t.cmd = some c) (he : d.comps = e.comps)
    (us : Nat) : Finished e (transEnd us d) 0x88 c t.at_ (leN 4 us) := by
  unfold transEnd
  rw [h]
  dsimp only
  rw [hc]
  refine finished_finish ?_ _ _ _ _
  rw [comps_of_mask (ps := others .comps) (mask_enterState rfl _ _ _ _) rfl, setPwr_comps, he]

theorem savesEnd_pwr (d : Device) : (savesEnd d).pwr = d.pwr := pwr_of_mask (ps := others .pwr) (mask_savesEnd rfl d) rfl

theorem mask_reloaded (d : Device) : blank [.link, .flows, .hif, .pxl, .corr, .sent, .host, .notes] (loadStores (storesWiped d)) =
    blank [.link, .flows, .hif, .pxl, .corr, .sent, .host, .notes] d := by
  simp (disch := decide) only [mask_loadStores, mask_storesWiped]

/-- A transition to another state than HIBERNATE ends after the saves or with its stores loaded (R516). -/
theorem transDoneFx_lights (htrans : d.pwr.trans = some t) (hready : d.pwr.readyHost = true) (hoff : d.pwr.powerOff = false)
    (hne : t.target ≠ .hibernate) (us : Nat) :
    ∃ e, transDoneFx us d = transEnd us e ∧ e.pwr = d.pwr := by
  unfold transDoneFx
  rw [htrans]
  simp only [hready, hoff, Bool.not_true, Bool.or_self, Bool.false_eq_true, if_false]
  split
  · exact ⟨_, rfl, savesEnd_pwr d⟩
  · exact absurd ‹_› hne
  · exact ⟨_, rfl, pwr_of_mask (mask_reloaded d) rfl⟩

theorem transDoneFx_run (htrans : d.pwr.trans = some t) (hready : d.pwr.readyHost = true) (hoff : d.pwr.powerOff = false)
    (htarget : t.target = .run ∨ t.target = .quiet) (us : Nat) :
    transDoneFx us d = transEnd us (loadStores (storesWiped d)) := by
  unfold transDoneFx
  rw [htrans]
  simp only [hready, hoff, Bool.not_true, Bool.or_self, Bool.false_eq_true, if_false]
  rcases htarget with h | h <;> rw [h]

theorem reloaded_buffers (us : Nat) (d : Device) : (transEnd us (loadStores (storesWiped d))).pxl.buffers = [] := by
  rw [pxl_of_mask (ps := others .pxl) (mask_transEnd rfl us _) rfl, pxl_of_mask (ps := others .pxl) (mask_loadStores rfl _) rfl]
  rfl

/-- The retention memory given the device's state (R518). -/
theorem transDoneFx_hibernate (htrans : d.pwr.trans = some t) (hready : d.pwr.readyHost = true) (hoff : d.pwr.powerOff = false)
    (htarget : t.target = .hibernate) (us : Nat) :
    (transDoneFx us d).pwr = { (retain (savesEnd d)).pwr with trans := some { t with cmd := none } } := by
  have hkeep : ∀ e : Device, (match t.cmd with
      | some c => finish 0x88 c t.at_ (leN 4 us) (stateChanged t.old .hibernate t.cause e)
      | none => stateChanged t.old .hibernate t.cause e).pwr = e.pwr := by
    intro e
    split
    · rw [finish_pwr, stateChanged, raise_pwr]
    · rw [stateChanged, raise_pwr]
  unfold transDoneFx
  rw [htrans]
  simp only [hready, hoff, htarget, Bool.not_true, Bool.or_self, Bool.false_eq_true, if_false, setPwr_pwr]
  exact congrArg (fun p : Power => { p with trans := some { t with target := .hibernate, cmd := none } }) (hkeep _)

theorem retain_savesEnd (d : Device) : ∃ r, (retain (savesEnd d)).pwr.retained = some r ∧ r.role = d.pwr.role ∧
    r.nodeId = d.topo.nodeId ∧ r.record = d.topo.record ∧ r.headSet = d.topo.headSet ∧ r.p = d.tim.presentP ∧
    r.c = d.tim.presentC ∧ r.sched = d.sched.entries ∧ r.rp = d.clk.rp := by
  have htopo : (savesEnd d).topo = d.topo := topo_of_mask (ps := others .topo) (mask_savesEnd rfl d) rfl
  have htim : (savesEnd d).tim = d.tim := tim_of_mask (ps := others .tim) (mask_savesEnd rfl d) rfl
  have hsched : (savesEnd d).sched = d.sched := sched_of_mask (ps := others .sched) (mask_savesEnd rfl d) rfl
  have hclk : (savesEnd d).clk = d.clk := clk_of_mask (ps := others .clk) (mask_savesEnd rfl d) rfl
  refine ⟨_, rfl, ?_⟩
  simp only [savesEnd_pwr, htopo, htim, hsched, hclk, and_self]

end

/-! ### The power-down -/

theorem setLevel_sec (new path : Nat) (d : Device) : (setLevel new path d).sec = { d.sec with level := new } := by
  unfold setLevel
  split
  next h => rw [← h]
  next => rw [raise_sec]; rfl

theorem hibernated_linksDown (d : Device) :
    (setLevel 0 2 (linksDown d)).sec = { d.sec with level := 0 } ∧ (setLevel 0 2 (linksDown d)).clk = d.clk ∧
      (setLevel 0 2 (linksDown d)).pwr = d.pwr := by
  refine ⟨?_, ?_, ?_⟩
  · rw [setLevel_sec, sec_of_mask (ps := others .sec) (mask_linksDown rfl d) rfl]
  · rw [clk_of_mask (ps := others .clk) (mask_setLevel rfl 0 2 _) rfl, clk_of_mask (ps := others .clk) (mask_linksDown rfl d) rfl]
  · rw [pwr_of_mask (ps := others .pwr) (mask_setLevel rfl 0 2 _) rfl, pwr_of_mask (ps := others .pwr) (mask_linksDown rfl d) rfl]

theorem powerDownFx_off {d : Device} {t : Transition} {r : Retained} (htrans : d.pwr.trans = some t)
    (htarget : t.target = .hibernate) (hret : d.pwr.retained = some r) (hlatch : d.pwr.wakeLatch = none) :
    powerDownFx d = hibernated (retainRings (setLevel 0 2 (linksDown d))) := by
  obtain ⟨-, -, hpwr⟩ := hibernated_linksDown d
  unfold powerDownFx
  simp only [htrans, htarget, hret, Option.isSome_some, and_self, if_true]
  generalize setLevel 0 2 (linksDown d) = e at hpwr
  have hwake : (hibernated (retainRings e)).pwr.wakeLatch = none := by
    simp only [hibernated, retainRings, setPwr_pwr, hpwr, hlatch]
  rw [hwake]

/-- Settles O13: a transition ends in its target, and HIBERNATE leaves only what retention holds. -/
theorem powerTransitions : Obligations.PowerTransitions := by
  refine ⟨fun us s t htrans hready hoff => ⟨fun hne => ?_, fun htarget c hc => ?_, fun htarget => ?_⟩,
    fun s t r htrans htarget hret hlatch => ?_⟩
  · refine act_does (f := transDoneFx us) rfl ?_
    obtain ⟨e, hfx, hpwr⟩ := transDoneFx_lights htrans hready hoff hne us
    rw [keepClk_pwr, hfx, transEnd_pwr (hpwr ▸ htrans), hpwr]
    exact ⟨rfl, rfl, rfl⟩
  · refine act_does (f := transDoneFx us) rfl ?_
    rw [transDoneFx_run htrans hready hoff htarget, Finished, Completed, keepClk_comps, keepClk_pxl]
    refine ⟨transEnd_finished ?_ hc (comps_of_mask (mask_reloaded s.dev) rfl) us, reloaded_buffers us s.dev⟩
    rwa [pwr_of_mask (mask_reloaded s.dev) rfl]
  · refine act_does (f := transDoneFx us) rfl ?_
    rw [keepClk_pwr, transDoneFx_hibernate htrans hready hoff htarget]
    exact ⟨rfl, retain_savesEnd s.dev⟩
  · refine act_does (f := powerDownFx) rfl ?_
    rw [powerDownFx_off htrans htarget hret hlatch]
    obtain ⟨hsec, hclk, hpwr⟩ := hibernated_linksDown s.dev
    generalize setLevel 0 2 (linksDown s.dev) = e at hsec hclk hpwr
    have hret' : e.pwr.retained = some r := hpwr ▸ hret
    have hlife : e.sec.life = s.dev.sec.life := by rw [hsec]
    have hroll : e.sec.rollback = s.dev.sec.rollback := by rw [hsec]
    refine ⟨rfl, rfl, rfl, rfl, rfl, hlife, hroll, rfl, rfl, rfl, rfl, rfl, ?_⟩
    refine ⟨{ r with f := e.hif.f, e := e.hif.e, seqs := e.flows.next }, ?_, rfl, rfl, rfl, rfl, rfl⟩
    simp only [keepClk_pwr, hibernated, retainRings, setPwr_pwr, hret', Option.map_some]

/-! ### Wake events -/

/-- A wake out of HIBERNATE begins the transition to the return state (R517). -/
theorem wakeUp_pwr (cause : Nat) (d : Device) :
    (wakeUp cause d).pwr.powerOff = false ∧ (wakeUp cause d).pwr.woke = true ∧ (wakeUp cause d).pwr.mask = d.pwr.mask ∧
      (wakeUp cause d).pwr.trans = some { target := d.pwr.back, old := .hibernate, cause := cause, cmd := none, at_ := d.clk.rp } := by
  unfold wakeUp
  extract_lets t e
  obtain ⟨limit, hpwr⟩ := bootSteps_pwr ⟨false, false, true, [true, true, true], [true, true], 127⟩ e
  rw [hpwr]
  exact ⟨rfl, rfl, rfl, rfl⟩

/-- A command that only changes power. -/
theorem does_setPwr {i : Instr} {s : State} {f : Device → Device} {g : Power → Power} (hi : exec i s = act f s)
    (hf : f s.dev = setPwr g s.dev) : Does i s (fun e => e.pwr = g s.dev.pwr ∧ SameBut [.pwr] s.dev e) :=
  act_does hi (hf ▸ ⟨rfl, sameBut_of_mask (blank_set_pwr rfl s.dev _)⟩)

/-- Settles O14: the two wake events, in each state of the device that answers them. -/
theorem wakeEvents : Obligations.WakeEvents := by
  intro s
  refine ⟨fun hoff => ⟨?_, fun htimer => ?_⟩, fun henter hoff => ⟨?_, fun htimer => ?_⟩,
    fun hoff henter => ⟨fun hstate => ?_, fun htimer hdog => ?_⟩, fun htimer => ?_⟩
  · refine act_does (f := wakeNFx) rfl ?_
    rw [keepClk_pwr, wakeNFx, if_pos hoff]
    exact wakeUp_pwr 2 s.dev
  · refine act_does (f := wakeTimerFx) rfl ?_
    rw [keepClk_pwr, wakeTimerFx, if_neg htimer, if_pos hoff]
    exact wakeUp_pwr 3 s.dev
  · refine does_mono (does_setPwr (f := wakeNFx)
      (g := fun p => { p with wakeLatch := some (p.wakeLatch.getD 2) }) rfl ?_) (fun e h => ⟨by rw [h.1], h.2⟩)
    rw [wakeNFx, if_neg (by simp [hoff]), if_pos henter]
  · refine does_mono (does_setPwr (f := wakeTimerFx)
      (g := fun p => { p with wakeLatch := some (p.wakeLatch.getD 3) }) rfl ?_) (fun e h => ⟨by rw [h.1], h.2⟩)
    rw [wakeTimerFx, if_neg htimer, if_neg (by simp [hoff]), if_pos henter]
  · refine does_mono (does_setPwr (f := wakeNFx)
      (g := fun p => { p with runNext := some 2 }) rfl ?_) (fun e h => ⟨by rw [h.1], by rw [h.1], h.2⟩)
    rw [wakeNFx, if_neg (by simp [hoff]), if_neg (by simp [henter]), if_pos (by simpa using hstate)]
  · refine does_mono (does_setPwr (f := wakeTimerFx)
      (g := fun p => { p with runNext := some 3 }) rfl ?_) (fun e h => ⟨by rw [h.1], h.2⟩)
    rw [wakeTimerFx, if_neg htimer, if_neg (by simp [hoff]), if_neg (by simp [henter]), if_pos hdog]
  · exact act_does (f := wakeTimerFx) rfl (by rw [wakeTimerFx, if_pos htimer, keepClk_self])

/-! ### The host watchdog and reset requests -/

theorem watchdogFx_set {c : Cmd} {d : Device} (hperiod : opN c 0 4 = 0 ∨ (100 ≤ opN c 0 4 ∧ opN c 0 4 ≤ 3600000))
    (haction : opB c 4 ≤ 2) : watchdogFx c d = finish 0x8A c d.clk.rp [] (setPwr (fun p => { p with
      wdOn := decide (opN c 0 4 ≠ 0), wdPeriod := opN c 0 4, wdAction := opB c 4, wdSetAt := some d.clk.rp }) d) := by
  have hgood : ¬ ((opN c 0 4 ≠ 0 ∧ (!(within 100 3600000 (opN c 0 4))) = true) ∨ 2 < opB c 4) := by
    simp only [within, Bool.not_eq_true', Bool.and_eq_false_iff, decide_eq_false_iff_not]
    omega
  simp only [watchdogFx, if_neg hgood]

theorem watchdogFx_refused {c : Cmd} {d : Device}
    (h : (opN c 0 4 ≠ 0 ∧ (opN c 0 4 < 100 ∨ 3600000 < opN c 0 4)) ∨ 2 < opB c 4) : watchdogFx c d = refuse 0x8A c 4 [] d := by
  have hbad : (opN c 0 4 ≠ 0 ∧ (!(within 100 3600000 (opN c 0 4))) = true) ∨ 2 < opB c 4 := by
    simp only [within, Bool.not_eq_true', Bool.and_eq_false_iff, decide_eq_false_iff_not]
    omega
  simp only [watchdogFx, if_pos hbad]

section
variable {d : Device}

theorem watchdogExpiryFx_reset (hon : d.pwr.wdOn = true) (hoff : d.pwr.powerOff = false) (hset : d.pwr.wdSetAt ≠ some d.clk.rp)
    (haction : d.pwr.wdAction = 2) (htrans : d.pwr.trans = none) : watchdogExpiryFx d =
      saveStart none (setPwr (fun p => { p with wdReset := true }) (setPwr (fun p => { p with wdOn := false }) d)) := by
  have hset' : (d.pwr.wdSetAt == some d.clk.rp) = false := beq_eq_false_iff_ne.mpr hset
  simp [watchdogExpiryFx, hon, hoff, hset', haction, htrans]

theorem watchdogExpiryFx_queued (hon : d.pwr.wdOn = true) (hoff : d.pwr.powerOff = false) (hset : d.pwr.wdSetAt ≠ some d.clk.rp)
    (h : d.pwr.wdAction ≠ 2 ∨ d.pwr.trans.isSome = true) : watchdogExpiryFx d =
      setPwr (fun p => { p with wdOn := false, wdQueued := true }) d := by
  have hset' : (d.pwr.wdSetAt == some d.clk.rp) = false := beq_eq_false_iff_ne.mpr hset
  have hwait : ¬ (d.pwr.wdAction = 2 ∧ d.pwr.trans = none) := by
    rintro ⟨h2, hnone⟩
    rcases h with h | h
    · exact h h2
    · simp [hnone] at h
  simp [watchdogExpiryFx, hon, hoff, hset', hwait]
  rfl

end

/-- The watchdog's expiry where no command is due. -/
theorem does_watchdogExpiry {s : State} {p : Device → Prop} (hdue : nextEntry s.dev = none)
    (hp : p (quiet watchdogExpiryFx s.dev)) : Does .hostWatchdogExpiry s p := by
  refine clocked_does (f := fun d => quiet watchdogExpiryFx (dueFirst (fun d =>
    if d.clk.hold.isSome || d.pwr.powerOff then none else some d.clk.rp) d)) rfl ?_
  rwa [dueFirst_of_none hdue]

/-- The RESET_REQUESTs that wait once one more has come (R530). -/
def joined (c : Cmd) (d : Device) : HostReset :=
  match d.pwr.hostReset with
  | some h => { h with cmds := h.cmds ++ [(c, boundaryRp d)], expo := h.expo || (hasBit (opB c 0) 0 && d.isNode), energy := true }
  | none => { cmds := [(c, boundaryRp d)], expo := hasBit (opB c 0) 0 && d.isNode, energy := true, failed := false, done := false }

theorem resetRequestFx_eq (c : Cmd) (d : Device) : resetRequestFx c d = saveStart none
    (when (hasBit (opB c 0) 0 && d.isNode) (expoStart none) (setPwr (fun p => { p with hostReset := some (joined c d) }) d)) := rfl

theorem resetRequestFx_pwr (c : Cmd) (d : Device) : (resetRequestFx c d).pwr = { d.pwr with hostReset := some (joined c d) } := by
  have hexpo : ∀ (b : Bool) (e : Device), (when b (expoStart none) e).pwr = e.pwr := by
    intro b e
    cases b
    · rfl
    · exact pwr_of_mask (ps := others .pwr) (mask_expoStart rfl none e) rfl
  rw [resetRequestFx_eq, saveStart_pwr, hexpo]
  rfl

theorem mask_resetRequested (c : Cmd) (d : Device) :
    blank [.corr, .mtr, .pwr] (resetRequestFx c d) = blank [.corr, .mtr, .pwr] d := by
  simp (disch := decide) only [resetRequestFx_eq, mask_saveStart, blank_when, mask_expoStart, ite_self]
  exact blank_set_pwr rfl d _

/-- Settles O15: WATCHDOG_SET sets or is refused, the expiry saves or waits, and RESET_REQUEST begins its saves. -/
theorem watchdogAndResetRequest : Obligations.WatchdogAndResetRequest := by
  refine ⟨fun c s hperiod haction => ?_, fun c s h => ?_, fun s hon hoff hdue hset => ⟨fun haction htrans => ?_, fun h => ?_⟩,
    fun c s => ?_⟩
  · refine act_does (f := watchdogFx c) rfl ?_
    rw [watchdogFx_set hperiod haction, keepClk_pwr, finish_pwr]
    refine ⟨rfl, rfl, rfl, rfl, finished_finish rfl _ _ _ _, sameBut_keepClk ?_⟩
    rw [mask_finish rfl]
    exact blank_set_pwr rfl s.dev _
  · refine does_mono (does_refuse (f := watchdogFx c) rfl (watchdogFx_refused h)) (fun e he => ⟨?_, he.1⟩)
    exact pwr_of_mask (mask_of_sameBut he.2) rfl
  · refine does_watchdogExpiry hdue ?_
    rw [quiet, watchdogExpiryFx_reset hon hoff hset haction htrans, keepClk_pwr, saveStart_pwr, keepClk_mtr, saveStart_isSome]
    refine ⟨rfl, rfl, rfl, sameBut_keepClk ?_⟩
    rw [mask_saveStart rfl]
    exact blank_set_pwr rfl s.dev _
  · refine does_watchdogExpiry hdue ?_
    rw [quiet, watchdogExpiryFx_queued hon hoff hset h]
    exact ⟨rfl, rfl, sameBut_keepClk (blank_set_pwr rfl s.dev _)⟩
  · refine act_does (f := resetRequestFx c) rfl ?_
    rw [keepClk_pwr, keepClk_mtr, resetRequestFx_pwr, resetRequestFx_eq, saveStart_isSome, ← resetRequestFx_eq]
    refine ⟨rfl, sameBut_keepClk (mask_resetRequested c s.dev), fun h => ?_, fun r h => ?_⟩
    · simp only [joined, h]
    · simp only [joined, h]

/-- Settles O16: each row changes its own part alone. -/
theorem smallPowerRows : Obligations.SmallPowerRows := by
  intro s
  refine ⟨fun hoff cleared => ?_, fun hoff hreset tenths => ?_, fun hhead => ?_, fun hnode => ?_⟩
  · refine act_does (f := fun d => if d.pwr.powerOff then d else setPwr (fun p => { p with hvLow := !cleared }) d) rfl ?_
    rw [if_neg (by simp [hoff])]
    exact ⟨rfl, sameBut_of_mask (blank_set_pwr rfl s.dev _)⟩
  · refine act_does (f := fun d => if d.pwr.inReset || d.pwr.powerOff then d
      else setPwr (fun p => { p with temp := tenths }) d) rfl ?_
    rw [if_neg (by simp [hoff, hreset])]
    exact ⟨rfl, sameBut_of_mask (blank_set_pwr rfl s.dev _)⟩
  · refine act_does (f := pcieResetFx) rfl ?_
    rw [pcieResetFx, if_pos hhead]
    exact ⟨rfl, sameBut_of_mask (blank_set_hif rfl s.dev _)⟩
  · exact act_does (f := pcieResetFx) rfl (by rw [pcieResetFx, if_neg (by simp [hnode]), keepClk_self])

end Sys2Proof.Proofs
end

/-! ## Sys2Proof/Proofs/Feeds: the two supply feeds (R362 to R365, R511) -/

section

namespace Sys2Proof.Proofs

open Machine Laws

/-! ### What each operation does to the feeds -/

section
variable {d : Device} {a b : Feed}

theorem feedOf_zero (h : d.red.feeds = [a, b]) : feedOf d 0 = a := by rw [feedOf, h]; rfl

theorem feedOf_one (h : d.red.feeds = [a, b]) : feedOf d 1 = b := by rw [feedOf, h]; rfl

theorem setFeed_zero (h : d.red.feeds = [a, b]) (g : Feed → Feed) : (setFeed 0 g d).red.feeds = [g a, b] := by
  simp [setFeed, setRed, h, modAt]

theorem setFeed_one (h : d.red.feeds = [a, b]) (g : Feed → Feed) : (setFeed 1 g d).red.feeds = [a, g b] := by
  simp [setFeed, setRed, h, modAt]

theorem setFeed_comps (f : Nat) (g : Feed → Feed) (d : Device) : (setFeed f g d).comps = d.comps := rfl

theorem settleShare_feeds (d : Device) : (settleShare d).red.feeds = d.red.feeds := by
  unfold settleShare
  split <;> rfl

/-- Where a feed is missing the other carries everything (R363). -/
theorem settleShare_share (h : d.red.feeds = [a, b]) (hfar : (d.red.shareFar && a.present && b.present) = false) :
    (settleShare d).red.share = shareNow d := by
  rw [settleShare, feedOf_zero h, feedOf_one h, hfar]
  rfl

theorem skipProbes_red (d : Device) : (skipProbes d).red = { d.red with probeCmds := [] } := by
  have hfold : ∀ (l : List (RP × Cmd)) (e : Device), (l.foldl (fun e c => refuse 0x51 c.2 6 [] e) e).red = e.red := by
    intro l
    induction l with
    | nil => exact fun _ => rfl
    | cons c l ih => exact fun e => (ih _).trans (refuse_red _ _ _ _ _)
  exact hfold _ _

theorem feedLostFx_red (f : Nat) (reverse : Bool) (mv : Nat) (hf : (feedOf d f).present = true) :
    (feedLostFx f reverse mv d).red = { (settleShare (setFeed f (fun x => { x with
      present := !(feedOf d (1 - f)).present, mv := mv }) d)).red with probeCmds := [] } := by
  rw [feedLostFx, if_neg (by simp [hf]), report_red, skipProbes_red]

theorem mask_feedLost (f : Nat) (reverse : Bool) (mv : Nat) (d : Device) :
    blank (.red :: .comps :: reporting) (feedLostFx f reverse mv d) = blank (.red :: .comps :: reporting) d := by
  simp (disch := decide) only [feedLostFx, mask_report, mask_skipProbes, mask_settleShare, mask_setFeed, mask_ite, ite_self]

/-- A path that fails: its fault stands and is dated; it may be declared faulty (R365, R375). -/
theorem pathFault_feeds (f share : Nat) (d : Device) : ∃ k, (pathFault f share d).red.feeds =
    modAt d.red.feeds f (fun x => { x with fault := true, faults := x.faults ++ [d.spare.run], faulty := x.faulty || k }) := by
  unfold pathFault
  extract_lets d1 d2 n
  have hfeeds : d2.red.feeds =
      modAt d.red.feeds f (fun x => { x with fault := true, faults := x.faults ++ [d.spare.run] }) := by
    simp only [d2, d1, setFeed, setRed, raise_red, raise_spare]
  split
  · refine ⟨true, ?_⟩
    rw [red_of_mask (ps := others .red) (mask_judgeHealth rfl _) rfl]
    simp only [setFeed, setRed, hfeeds, modAt, List.modify_modify_eq]
    simp [Function.comp_def]
  · exact ⟨false, by simp [hfeeds]⟩

theorem pathFault_probeCmds (f share : Nat) (d : Device) : (pathFault f share d).red.probeCmds = d.red.probeCmds := by
  unfold pathFault
  extract_lets d1 d2 n
  have hcmds : d2.red.probeCmds = d.red.probeCmds := by simp only [d2, d1, setFeed, setRed, raise_red]
  split
  · rw [red_of_mask (ps := others .red) (mask_judgeHealth rfl _) rfl]
    exact hcmds
  · exact hcmds

theorem pathFault_zero (h : d.red.feeds = [a, b]) (share : Nat) : ∃ k, (pathFault 0 share d).red.feeds =
    [{ a with fault := true, faults := a.faults ++ [d.spare.run], faulty := a.faulty || k }, b] := by
  obtain ⟨k, hk⟩ := pathFault_feeds 0 share d
  exact ⟨k, by simp [hk, h, modAt]⟩

theorem pathFault_comps (f share : Nat) (d : Device) :
    (pathFault f share d).comps = d.comps := comps_of_mask (ps := others .comps) (mask_pathFault rfl f share d) rfl

end

/-! ### Probes -/

section
variable {d : Device} {a b : Feed} {sa sb : Nat} {at_ : RP} {c : Cmd}

/-- The answer to the one probe asked for (R370). -/
theorem probe_answered (h : d.red.probeCmds = [(at_, c)]) (r : List Byte) :
    d.red.probeCmds.foldl (fun d c => finish 0x51 c.2 c.1 r d) (setRed (fun r => { r with probeCmds := [] }) d) =
      finish 0x51 c at_ r (setRed (fun r => { r with probeCmds := [] }) d) := by
  rw [h]
  rfl

/-- What a probe that is not skipped does to the device before it answers (R365). -/
def probed (a b : Nat) (d : Device) : Device :=
  let d := if decide (850 ≤ a) then setFeed 0 (fun x => { x with fault := false }) d else pathFault 0 a d
  if decide (850 ≤ b) then setFeed 1 (fun x => { x with fault := false }) d else pathFault 1 b d

theorem feedProbeFx_answered (hskip : probeSkipped d false = false) (hcmd : (probed sa sb d).red.probeCmds = [(at_, c)]) :
    feedProbeFx sa sb false d = finish 0x51 c at_ (leN 1 (bit (decide (850 ≤ sa)) + 2 * bit (decide (850 ≤ sb))))
      (setRed (fun r => { r with probeCmds := [] }) (probed sa sb d)) := by
  rw [← probe_answered hcmd, feedProbeFx, if_neg (by simp [hskip])]
  rfl

theorem probeSkipped_not (h : d.red.feeds = [a, b]) (ha : a.present = true) (hb : b.present = true)
    (hon : d.pwr.state ≠ .hibernate) : probeSkipped d false = false := by
  simp [probeSkipped, feedOf_zero h, feedOf_one h, ha, hb, hon]

theorem feedProbeFx_both (h : d.red.feeds = [a, b]) (ha : a.present = true) (hb : b.present = true)
    (hon : d.pwr.state ≠ .hibernate) (hcmd : d.red.probeCmds = [(at_, c)]) (hsa : 850 ≤ sa) (hsb : 850 ≤ sb) :
    (feedProbeFx sa sb false d).red.feeds = [{ a with fault := false }, { b with fault := false }] ∧
      (feedProbeFx sa sb false d).red.probeCmds = [] ∧ Finished d (feedProbeFx sa sb false d) 0x51 c at_ (leN 1 3) := by
  have hprobed : probed sa sb d = setFeed 1 (fun x => { x with fault := false }) (setFeed 0 (fun x => { x with fault := false }) d) := by
    simp [probed, hsa, hsb]
  rw [feedProbeFx_answered (probeSkipped_not h ha hb hon) (by rw [hprobed, ← hcmd]; rfl), hprobed, finish_red]
  simp only [hsa, hsb, decide_true, show bit true + 2 * bit true = 3 from rfl]
  refine ⟨setFeed_one (setFeed_zero h _) _, rfl, ?_⟩
  exact finished_finish (by rfl) _ _ _ _

theorem feedProbeFx_firstFails (h : d.red.feeds = [a, b]) (ha : a.present = true) (hb : b.present = true)
    (hon : d.pwr.state ≠ .hibernate) (hcmd : d.red.probeCmds = [(at_, c)]) (hsa : sa < 850) (hsb : 850 ≤ sb) :
    (feedOf (feedProbeFx sa sb false d) 0).fault = true ∧ (feedOf (feedProbeFx sa sb false d) 1).fault = false ∧
      Finished d (feedProbeFx sa sb false d) 0x51 c at_ (leN 1 2) := by
  have hnot : ¬ 850 ≤ sa := by omega
  have hprobed : probed sa sb d = setFeed 1 (fun x => { x with fault := false }) (pathFault 0 sa d) := by
    simp [probed, hnot, hsb]
  have hcmds : (probed sa sb d).red.probeCmds = [(at_, c)] := by
    rw [hprobed, setFeed, ← hcmd, ← pathFault_probeCmds 0 sa d]
    rfl
  obtain ⟨k, hfeeds⟩ := pathFault_zero h sa
  have hfeeds' := setFeed_one hfeeds (fun x => { x with fault := false })
  rw [← hprobed] at hfeeds'
  rw [feedProbeFx_answered (probeSkipped_not h ha hb hon) hcmds, feedOf, feedOf, finish_red]
  refine ⟨?_, ?_, ?_⟩
  · simp only [setRed, hfeeds']
    rfl
  · simp only [setRed, hfeeds']
    rfl
  · simp only [hnot, hsb, decide_true, decide_false, show bit false + 2 * bit true = 2 from rfl]
    have hcomps : (probed sa sb d).comps = d.comps := by
      rw [hprobed, setFeed_comps, pathFault_comps]
    exact finished_finish (e := setRed _ (probed sa sb d)) hcomps _ _ _ _

theorem feedProbeFx_skipped (hcmd : d.red.probeCmds = [(at_, c)]) : feedProbeFx sa sb true d =
    refuse 0x51 c 6 [] (setRed (fun r => { r with probeCmds := [] }) d) := by
  simp only [feedProbeFx, probeSkipped, Bool.true_or, if_true, skipProbes, hcmd]
  rfl

end

/-! ### The difference between the feeds -/

theorem shareLimitFx_enter {d : Device} {share : Nat} {diff : Int} (hfar : d.red.shareFar = false) (hdiff : 300 < diff.natAbs) :
    shareLimitFx share diff d = raise 0x5009 (leN 2 share ++ leN 2 diff.natAbs)
      (setRed (fun r => { r with shareFar := true, share := if diff < 0 then share else 1000 - share }) d) := by
  simp only [shareLimitFx, hfar, hdiff, decide_true, Bool.not_false, Bool.and_self, if_true]
  rfl

theorem shareLimitFx_near {d : Device} {share : Nat} {diff : Int} (hdiff : diff.natAbs ≤ 300) :
    shareLimitFx share diff d = setRed (fun r => { r with shareFar := false, share := shareNow d }) d := by
  simp only [shareLimitFx, show ¬ 300 < diff.natAbs by omega, decide_false, Bool.false_and]
  rfl

/-- Settles O17: each row changes the feed it names, settles the share, and answers the probes asked for. -/
theorem feedsWatched : Obligations.FeedsWatched := by
  refine ⟨fun s a b h => ⟨fun ha hb reverse mv => ⟨?_, ?_⟩, fun ha hb reverse mv => ?_, fun ha hb hfar mv => ?_⟩,
    fun s a b h => ⟨fun ha hb hon sa sb at_ c hcmd => ⟨fun hsa hsb => ?_, fun hsa hsb => ?_, ?_⟩, fun share hshare ha => ?_,
      fun share diff hfar hdiff => ?_, fun share diff hdiff => ?_⟩⟩
  · refine act_does (f := feedLostFx 0 reverse mv) rfl ?_
    have hfeeds := setFeed_zero h (fun x => { x with present := !(feedOf s.dev (1 - 0)).present, mv := mv })
    rw [keepClk_red, feedLostFx_red 0 reverse mv (by rw [feedOf_zero h, ha])]
    refine ⟨?_, ?_, rfl, sameBut_keepClk (mask_feedLost 0 reverse mv s.dev)⟩
    · rw [settleShare_feeds, hfeeds, feedOf_one h, hb]
      rfl
    · simp only
      rw [settleShare_share hfeeds (by simp [feedOf_one h, hb]), shareNow, feedOf_zero hfeeds]
      simp [feedOf_one h, hb]
  · refine act_does (f := feedLostFx 1 reverse mv) rfl ?_
    have hfeeds := setFeed_one h (fun x => { x with present := !(feedOf s.dev (1 - 1)).present, mv := mv })
    rw [keepClk_red, feedLostFx_red 1 reverse mv (by rw [feedOf_one h, hb])]
    refine ⟨?_, ?_, rfl⟩
    · rw [settleShare_feeds, hfeeds, feedOf_zero h, ha]
      rfl
    · simp only
      rw [settleShare_share hfeeds (by simp [feedOf_zero h, ha]), shareNow, feedOf_zero hfeeds, feedOf_one hfeeds]
      simp [feedOf_zero h, ha]
  · refine act_does (f := feedLostFx 0 reverse mv) rfl ?_
    have hfeeds := setFeed_zero h (fun x => { x with present := !(feedOf s.dev (1 - 0)).present, mv := mv })
    rw [keepClk_red, feedLostFx_red 0 reverse mv (by rw [feedOf_zero h, ha])]
    refine ⟨?_, ?_⟩
    · rw [settleShare_feeds, hfeeds, feedOf_one h, hb]
      simp [← ha]
    · simp only
      rw [settleShare_share hfeeds (by simp [hb]), shareNow, feedOf_zero hfeeds, feedOf_one hfeeds]
      simp [feedOf_one h, hb]
  · refine act_does (f := feedRestoredFx 0 mv) rfl ?_
    have hfeeds := setFeed_zero h (fun x => { x with present := true, mv := mv })
    rw [feedRestoredFx, if_neg (by simp [feedOf_zero h, ha]), keepClk_red, raise_red]
    refine ⟨by rw [settleShare_feeds, hfeeds], ?_, ?_, sameBut_keepClk ?_⟩
    · rw [settleShare_share hfeeds (by simp [setFeed, setRed, hfar]), shareNow, feedOf_zero hfeeds, feedOf_one hfeeds]
      simp [hb]
      rfl
    · rw [Noticed, keepClk_notes]
      exact noticed_raise (notes_of_mask (ps := others .notes) (by rw [mask_settleShare rfl, mask_setFeed rfl]) rfl) _ _
    · simp (disch := decide) only [mask_raise, mask_settleShare, mask_setFeed]
  · refine act_does (f := feedProbeFx sa sb false) rfl ?_
    rw [keepClk_red, Finished, Completed, keepClk_comps]
    exact feedProbeFx_both h ha hb hon hcmd hsa hsb
  · refine act_does (f := feedProbeFx sa sb false) rfl ?_
    rw [feedOf, feedOf, keepClk_red, Finished, Completed, keepClk_comps]
    exact feedProbeFx_firstFails h ha hb hon hcmd hsa hsb
  · refine act_does (f := feedProbeFx sa sb true) rfl ?_
    rw [feedProbeFx_skipped hcmd, keepClk_red, refuse_red, Completed, keepClk_comps]
    exact ⟨h, rfl, completed_refuse rfl _ _ _ _⟩
  · refine act_does (f := fun d => if (feedOf d 0).present && decide (share < 100) then pathFault 0 share d else d) rfl ?_
    obtain ⟨k, hfeeds⟩ := pathFault_zero h share
    rw [if_pos (by simp [feedOf_zero h, ha, hshare]), feedOf, feedOf, keepClk_red, hfeeds]
    exact ⟨rfl, rfl, rfl⟩
  · refine act_does (f := shareLimitFx share diff) rfl ?_
    rw [shareLimitFx_enter hfar hdiff, keepClk_red, raise_red, Noticed, keepClk_notes]
    refine ⟨rfl, noticed_raise rfl _ _, sameBut_keepClk ?_⟩
    rw [mask_raise rfl]
    rfl
  · refine act_does (f := shareLimitFx share diff) rfl ?_
    rw [shareLimitFx_near hdiff]
    exact ⟨rfl, sameBut_of_mask rfl⟩

end Sys2Proof.Proofs
end

/-! ## Sys2Proof/Proofs/Ports: sending on a link port -/

section

namespace Sys2Proof.Proofs

open Machine Laws

/-! ### One port changed -/

theorem port_setPort_same {d : Device} {p : Nat} (hp : p < d.link.length) (f : LinkPort → LinkPort) :
    (d.setPort p f).port p = f (d.port p) := by
  simp [Device.port, Device.setPort, modAt, List.getD_eq_getElem?_getD, hp]

theorem port_setPort_ne {d : Device} {p q : Nat} (h : q ≠ p) (f : LinkPort → LinkPort) :
    (d.setPort p f).port q = d.port q := by
  simp [Device.port, Device.setPort, modAt, List.getD_eq_getElem?_getD, Ne.symm h]

theorem setPort_length (d : Device) (p : Nat) (f : LinkPort → LinkPort) :
    (d.setPort p f).link.length = d.link.length := by
  simp [Device.setPort, modAt]

/-- A change of one port's settings that does not look at its waiting frames, made on ports that agree but for those. -/
theorem samePorts_setPort_congr {d e : Device} (h : SamePorts d e) (p : Nat) {f : LinkPort → LinkPort}
    (hf : ∀ x, portCore (f x) = portCore (f (portCore x))) : SamePorts (d.setPort p f) (e.setPort p f) := by
  have hmap : ∀ l : List LinkPort,
      (modAt l p f).map portCore = modAt (l.map portCore) p (fun x => portCore (f x)) := by
    intro l
    apply List.ext_getElem?
    intro n
    simp only [modAt, List.getElem?_map, List.getElem?_modify]
    cases l[n]? with
    | none => rfl
    | some x =>
      simp only [Option.map_some]
      split
      · exact congrArg some (hf x)
      · rfl
  rw [SamePorts, setPort_link, setPort_link, hmap, hmap, h]

/-- What a port's settings and state say does not hang on its waiting frames. -/
theorem core_get {α : Type} (g : LinkPort → α) (hg : ∀ x, g (portCore x) = g x) {a b : LinkPort}
    (h : portCore a = portCore b) : g a = g b := by
  rw [← hg a, h, hg]

/-! ### Frames that leave at once -/

/-- A port that sends: up, awake, with nothing that holds back its frames (R144, R166). -/
def Sends (d : Device) (p : Nat) : Prop := (d.port p).up = true ∧ (d.port p).lpiTx = false

theorem tx_sends {d : Device} {f : TxFrame} (h : Sends d f.port) : tx d f = { d with sent := d.sent ++ [f] } := by
  obtain ⟨hup, hlpi⟩ := h
  simp [tx, hup, hlpi]

theorem silent_none {d : Device} {p : Nat} (h : (d.port p).quietTo = none) : silent d p = false := by
  rw [silent, h]

theorem Hdr_bytes_length (h : Hdr) : h.bytes.length = 24 := by simp [Hdr.bytes, beN_length]

theorem frankTag_length (d : Device) (h : Hdr) (hdr payload pad : List Byte) :
    (frankTag d h hdr payload pad).length = 8 := by
  unfold frankTag
  cases keyFor d h.stamp.frame with
  | none => rfl
  | some k => exact gmac64_length _ _ _

/-- A sealed frame is its payload, padded to 14 bytes, in 50 bytes of envelope (R107, R108). -/
theorem sealFrame_length (d : Device) (p : Nat) (h : Hdr) (payload : List Byte) :
    (sealFrame d p h payload).bytes.length = max payload.length 14 + 50 := by
  simp [sealFrame, srcAddr, silnalDst, beN_length, Hdr_bytes_length, frankTag_length, fcs_length, zeros]
  omega

theorem sealFrame_port (d : Device) (p : Nat) (h : Hdr) (payload : List Byte) : (sealFrame d p h payload).port = p := rfl

/-- A device that sends its own frames numbered: a head, or a node with a node ID (R126, R132). -/
def Numbers (d : Device) : Prop := d.isHead = true ∨ d.topo.nodeId ≠ none

theorem unasg_of_numbers {d : Device} (h : Numbers d) : (d.topo.nodeId.isNone && !d.isHead) = false := by
  rcases h with h | h
  · simp [h]
  · cases hn : d.topo.nodeId with
    | none => exact absurd hn h
    | some n => rfl

/-- A short frame of the device's own leaves at once where no insertion interval holds it (R144). -/
theorem sendOwn_sends {d : Device} {f : TxFrame} (h : Sends d f.port) (hp : f.port < d.link.length)
    (hlen : f.bytes.length ≤ 128)
    (hheld : d.isHead = true → (d.port f.port).quietTo = none ∧ (d.port f.port).backlog = [])
    : (sendOwn d f false none).sent = d.sent ++ [f] := by
  unfold sendOwn
  cases hh : d.isHead with
  | false => simp [hlen, tx_sends h]
  | true =>
    obtain ⟨hq, hb⟩ := hheld hh
    have hport : (d.setPort f.port (fun l => { l with backlog := [], quietTo := none })).port f.port =
        { d.port f.port with backlog := [], quietTo := none } := port_setPort_same hp _
    have hrel : releasePort d f.port = d.setPort f.port (fun l => { l with backlog := [], quietTo := none }) := by
      simp [releasePort, silent_none hq, hb]
    have hs : Sends (d.setPort f.port (fun l => { l with backlog := [], quietTo := none })) f.port := by
      rw [Sends, hport]; exact h
    simp [hrel, silent_none (d := d.setPort f.port _) (p := f.port) (by rw [hport]), tx_sends hs]

/-! ### Waking a port, and TIME frames (R132, R166) -/

theorem samePorts_wakePort (p : Nat) (d : Device) :
    SamePorts (d.setPort p (fun l => { l with lpiTx := false })) (wakePort p d) := by
  have hfirst : SamePorts (d.setPort p (fun l => { l with lpiTx := false }))
      (d.setPort p (fun l => { l with lpiTx := false, held := [] })) := by
    rw [SamePorts, setPort_link, setPort_link]
    apply List.ext_getElem?
    intro n
    simp only [modAt, List.getElem?_map, List.getElem?_modify]
    cases d.link[n]? with
    | none => rfl
    | some x => by_cases h : p = n <;> simp [h, portCore]
  exact hfirst.trans (samePorts_foldl samePorts_tx _ _)

theorem samePorts_sendTime {d : Device} (hn : Numbers d) (p dir pair hop : Nat) (payload : List Byte) :
    SamePorts (d.setPort p (fun l => { l with timeSeq := l.timeSeq + 1 })) (sendTime p dir pair hop payload d) := by
  simp only [sendTime, unasg_of_numbers hn, Bool.false_eq_true, if_false]
  exact samePorts_sendOwn _ _ _ _

end Sys2Proof.Proofs
end

/-! ## Sys2Proof/Proofs/TimeFrames: TIME frames sent and taken, and link delays measured (R63 to R67, R169) -/

section

namespace Sys2Proof.Proofs

open Machine Laws

theorem isHead_of_pwr {d e : Device} (h : e.pwr = d.pwr) : e.isHead = d.isHead := by rw [Device.isHead, h]; rfl

theorem setPort_setPort (d : Device) (p : Nat) (f g : LinkPort → LinkPort) :
    (d.setPort p f).setPort p g = d.setPort p (fun l => g (f l)) := by
  simp only [Device.setPort, modAt, List.modify_modify_eq]
  rfl

/-! ### A head's TIME frames (R63) -/

theorem sendRing_pwr (p dir pair : Nat) (d : Device) : (sendRing p dir pair d).pwr = d.pwr :=
  pwr_of_mask (ps := others .pwr) (mask_sendRing rfl p dir pair d) rfl

/-- A head's TIME frame: the port is woken, what waited leaves, and the frame opens a silence (R144, R166). -/
theorem sendRing_eq (p dir pair : Nat) (d : Device) : ∃ rp, sendRing p dir pair d =
    (sendTime p dir pair 1 (timePayload d (carriedLoop d pair)) (releasePort (wakePort p d) p)).setPort p
      (fun l => { l with quietTo := rp }) := ⟨_, rfl⟩

theorem samePorts_sendRing {d : Device} (hh : d.isHead = true) (p dir pair : Nat) :
    SamePorts (d.setPort p (fun l => { l with lpiTx := false, timeSeq := l.timeSeq + 1 })) (sendRing p dir pair d) := by
  have hwake : SamePorts (d.setPort p (fun l => { l with lpiTx := false })) (releasePort (wakePort p d) p) :=
    (samePorts_wakePort p d).trans (samePorts_releasePort _ p)
  have hnum : Numbers (releasePort (wakePort p d) p) := by
    refine .inl ((isHead_of_pwr ?_).trans hh)
    exact pwr_of_mask (ps := others .pwr) ((mask_releasePort rfl _ p).trans (mask_wakePort rfl p d)) rfl
  obtain ⟨rp, hring⟩ := sendRing_eq p dir pair d
  rw [hring]
  generalize releasePort (wakePort p d) p = e at hwake hnum ⊢
  have hseq := samePorts_setPort_congr hwake p (f := fun l => { l with timeSeq := l.timeSeq + 1 }) (fun _ => rfl)
  rw [setPort_setPort] at hseq
  exact (hseq.trans (samePorts_sendTime hnum p dir pair 1 _)).trans (samePorts_setPort _ p _ (fun _ => rfl))

theorem sendRings_ports (l : List (Nat × Nat × Nat)) : ∀ d : Device, d.isHead = true → (l.map (·.2.1)).Nodup →
    (∀ p ∈ l.map (·.2.1), p < d.link.length) →
    (∀ p, p ∉ l.map (·.2.1) → portCore ((l.foldl (fun d x => sendRing x.2.1 x.2.2 x.1 d) d).port p) = portCore (d.port p)) ∧
      ∀ p ∈ l.map (·.2.1), ((l.foldl (fun d x => sendRing x.2.1 x.2.2 x.1 d) d).port p).timeSeq = (d.port p).timeSeq + 1 ∧
        ((l.foldl (fun d x => sendRing x.2.1 x.2.2 x.1 d) d).port p).lpiTx = false := by
  induction l with
  | nil => exact fun d _ _ _ => ⟨fun _ _ => rfl, fun _ hp => absurd hp List.not_mem_nil⟩
  | cons x l ih =>
    intro d hh hnodup hlen
    obtain ⟨hx, hl⟩ := List.nodup_cons.mp hnodup
    have hsame := samePorts_sendRing hh x.2.1 x.2.2 x.1
    obtain ⟨hout, hin⟩ := ih (sendRing x.2.1 x.2.2 x.1 d) ((isHead_of_pwr (sendRing_pwr _ _ _ d)).trans hh) hl (by
      intro p hp
      rw [samePorts_length hsame, setPort_length]
      exact hlen p (List.mem_cons_of_mem _ hp))
    have hother : ∀ p, p ≠ x.2.1 → portCore ((sendRing x.2.1 x.2.2 x.1 d).port p) = portCore (d.port p) := by
      intro p hp
      rw [samePorts_port hsame, port_setPort_ne hp]
    have hown := samePorts_port hsame x.2.1
    rw [port_setPort_same (hlen _ List.mem_cons_self)] at hown
    refine ⟨fun p hp => ?_, fun p hp => ?_⟩
    · obtain ⟨hpx, hpl⟩ := not_or.mp (List.mem_cons.not.mp hp)
      exact (hout p hpl).trans (hother p hpx)
    · rcases List.mem_cons.mp hp with rfl | hpl
      · have := (hout _ hx).trans hown
        exact ⟨core_get LinkPort.timeSeq (fun _ => rfl) this, core_get LinkPort.lpiTx (fun _ => rfl) this⟩
      · obtain ⟨hseq, hlpi⟩ := hin p hpl
        have hne : p ≠ x.2.1 := by rintro rfl; exact hx hpl
        exact ⟨hseq.trans (congrArg (· + 1) (core_get LinkPort.timeSeq (fun _ => rfl) (hother p hne))), hlpi⟩

theorem timeTick_ports {d : Device} (hlen : d.link.length = 8) (hh : d.isHead = true) (hcfg : d.tim.cfgInvalid = false)
    (hfwd : forwardOnly d = false) (hreset : d.pwr.inReset = false) (hmap : mapKnown d = none) {p : Nat} (hp : p < 8) :
    ((timeTickFx d).port p).timeSeq = (d.port p).timeSeq + 1 ∧ ((timeTickFx d).port p).lpiTx = false := by
  have houts : (timeOuts d).map (·.2.1) = List.range 8 := by rw [timeOuts, hmap]; rfl
  rw [timeTickFx, if_pos (by simp [hh, hcfg, hfwd, hreset])]
  refine (sendRings_ports (timeOuts d) d hh ?_ ?_).2 p ?_
  · rw [houts]; exact List.nodup_range
  · rw [houts, hlen]; exact fun q hq => List.mem_range.mp hq
  · rw [houts]; exact List.mem_range.mpr hp

/-! ### One TIME frame on one port -/

/-- A port on which a device that numbers its frames sends a short one at once (R144). -/
def SendsNow (d : Device) (p : Nat) : Prop :=
  Sends d p ∧ p < d.link.length ∧ (d.isHead = true → (d.port p).quietTo = none ∧ (d.port p).backlog = [])

theorem sendTime_sends {d : Device} {p : Nat} (hn : Numbers d) (hs : SendsNow d p) (dir pair hop : Nat)
    {payload : List Byte} (hlen : payload.length ≤ 78) :
    ∃ f, (sendTime p dir pair hop payload d).sent = d.sent ++ [f] ∧ f.port = p := by
  obtain ⟨hsends, hp, hheld⟩ := hs
  have hport : (d.setPort p (fun l => { l with timeSeq := l.timeSeq + 1 })).port p =
      { d.port p with timeSeq := (d.port p).timeSeq + 1 } := port_setPort_same hp _
  simp only [sendTime, unasg_of_numbers hn, Bool.false_eq_true, if_false]
  refine ⟨_, sendOwn_sends ?_ ?_ ?_ ?_, sealFrame_port _ _ _ _⟩
  · rw [sealFrame_port, Sends, hport]; exact hsends
  · rw [sealFrame_port, setPort_length]; exact hp
  · rw [sealFrame_length]; omega
  · rw [sealFrame_port, hport]; exact hheld

theorem sendTime_timeSeq {d : Device} {p : Nat} (hn : Numbers d) (hp : p < d.link.length) (dir pair hop : Nat)
    (payload : List Byte) :
    ((sendTime p dir pair hop payload d).port p).timeSeq = (d.port p).timeSeq + 1 ∧
      ((sendTime p dir pair hop payload d).port p).t1 = (d.port p).t1 := by
  have hsame := samePorts_port (samePorts_sendTime hn p dir pair hop payload) p
  rw [port_setPort_same hp] at hsame
  exact ⟨(core_get LinkPort.timeSeq (fun _ => rfl) hsame :), (core_get LinkPort.t1 (fun _ => rfl) hsame :)⟩

section
variable {d : Device} {p : Nat} (hh : d.isHead = false) (hn : d.topo.nodeId = none)
include hh hn

/-- A device without a node ID has answered this frame on the port already (R126). -/
theorem sendTime_carded (hc : (d.port p).cardFrame = some d.clk.rp.frame) (dir pair hop : Nat) (payload : List Byte) :
    sendTime p dir pair hop payload d = d := by
  simp [sendTime, hh, hn, hc]

theorem samePorts_sendTime_unnumbered (hc : (d.port p).cardFrame ≠ some d.clk.rp.frame) (dir pair hop : Nat)
    (payload : List Byte) : SamePorts (d.setPort p (fun l => { l with cardFrame := some d.clk.rp.frame }))
      (sendTime p dir pair hop payload d) := by
  simp only [sendTime, hh, hn, Option.isNone_none, Bool.not_false, Bool.and_self, if_true, if_neg hc]
  exact samePorts_tx _ _

theorem sendTime_unnumbered_sends (hc : (d.port p).cardFrame ≠ some d.clk.rp.frame) (hs : Sends d p) (hp : p < d.link.length)
    (dir pair hop : Nat) (payload : List Byte) :
    ∃ f, (sendTime p dir pair hop payload d).sent = d.sent ++ [f] ∧ f.port = p := by
  simp only [sendTime, hh, hn, Option.isNone_none, Bool.not_false, Bool.and_self, if_true, if_neg hc]
  refine ⟨_, congrArg Device.sent (tx_sends ?_), sealFrame_port _ _ _ _⟩
  rw [sealFrame_port, Sends, port_setPort_same hp]
  exact hs

/-- It sends no more than one such frame per raster frame, and numbers none (R126, R132). -/
theorem sendTime_unnumbered (hp : p < d.link.length) (dir pair hop : Nat) (payload : List Byte) :
    ((sendTime p dir pair hop payload d).port p).cardFrame = some d.clk.rp.frame ∧
      ((sendTime p dir pair hop payload d).port p).timeSeq = (d.port p).timeSeq ∧
      ((sendTime p dir pair hop payload d).port p).t1 = (d.port p).t1 := by
  by_cases hc : (d.port p).cardFrame = some d.clk.rp.frame
  · rw [sendTime_carded hh hn hc]
    exact ⟨hc, rfl, rfl⟩
  · have hsame := samePorts_port (samePorts_sendTime_unnumbered hh hn hc dir pair hop payload) p
    rw [port_setPort_same hp] at hsame
    exact ⟨(core_get LinkPort.cardFrame (fun _ => rfl) hsame :), (core_get LinkPort.timeSeq (fun _ => rfl) hsame :), (core_get LinkPort.t1 (fun _ => rfl) hsame :)⟩

end

/-! ### A TIME frame taken by a node in ACQUIRE (R67, R71) -/

/-- A direction's quantities without those a link delay enters. -/
def dirCore (x : DirTime) : DirTime := { x with lambda := none, lamLink := 0 }

/-- The clock and the time state are as they were, and the directions but for their link-delay quantities. -/
def SameDirs (d e : Device) : Prop :=
  e.clk = d.clk ∧ e.tim.state = d.tim.state ∧ e.tim.dirs.map dirCore = d.tim.dirs.map dirCore

namespace SameDirs

theorem refl (d : Device) : SameDirs d d := ⟨rfl, rfl, rfl⟩

theorem trans {d e f : Device} (h : SameDirs d e) (k : SameDirs e f) : SameDirs d f :=
  ⟨k.1.trans h.1, k.2.1.trans h.2.1, k.2.2.trans h.2.2⟩

theorem of_mask {d e : Device} (h : blank (parts.filter (fun q => q ≠ .tim ∧ q ≠ .clk)) e =
    blank (parts.filter (fun q => q ≠ .tim ∧ q ≠ .clk)) d) : SameDirs d e := by
  have htim := tim_of_mask h rfl
  exact ⟨clk_of_mask h rfl, by rw [htim], by rw [htim]⟩

theorem quiet {f : Device → Device} {d : Device} (h : (f d).tim.state = d.tim.state ∧
    (f d).tim.dirs.map dirCore = d.tim.dirs.map dirCore) : SameDirs d (Machine.quiet f d) := ⟨rfl, h⟩

end SameDirs

theorem dirs_headsAgree (pair : Nat) (d : Device) :
    (headsAgree pair d).tim.state = d.tim.state ∧ (headsAgree pair d).tim.dirs = d.tim.dirs := by
  have hpair : ∀ f, (pairSet pair f d).tim.state = d.tim.state ∧ (pairSet pair f d).tim.dirs = d.tim.dirs := fun f => ⟨rfl, rfl⟩
  unfold headsAgree
  extract_lets a b q both
  split
  · extract_lets diff
    split
    · unfold when
      split
      · rw [raise_tim]
        exact hpair _
      · exact hpair _
    · split
      · exact hpair _
      · exact ⟨rfl, rfl⟩
  · exact hpair _

theorem storeLambdas_dirs (pair : Nat) (off : Int) (d : Device) :
    (storeLambdas pair off d).tim.state = d.tim.state ∧
      (storeLambdas pair off d).tim.dirs.map dirCore = d.tim.dirs.map dirCore := by
  refine ⟨rfl, ?_⟩
  simp only [storeLambdas, dirSet, setTime]
  refine (map_modAt dirCore _ ?_ _ _).trans (map_modAt dirCore _ ?_ _ _) <;> exact fun _ => rfl

/-- In ACQUIRE a direction measured counts, and its offset is kept; nothing is judged yet (R71). -/
theorem sameDirs_nodeMeasure (pair dir : Nat) {d : Device} (hacq : d.tim.state = .acquire) :
    SameDirs d (nodeMeasure pair dir d) := by
  unfold nodeMeasure
  split
  · exact .refl d
  · split
    · exact .refl d
    · extract_lets x e
      have he : SameDirs d e := ⟨rfl, rfl, rfl⟩
      rw [if_neg (by simp [he.2.1, hacq, steady])]
      refine he.trans (.quiet ?_)
      extract_lets e1
      have he1 : e1.tim.state = e.tim.state ∧ e1.tim.dirs = e.tim.dirs := ⟨rfl, rfl⟩
      split
      · rename_i path off store _
        extract_lets e2 e3
        have he2 : e2.tim.state = e1.tim.state ∧ e2.tim.dirs.map dirCore = e1.tim.dirs.map dirCore := by
          simp only [e2, when]
          split
          · exact storeLambdas_dirs pair off e1
          · exact ⟨rfl, rfl⟩
        have he3 : e3.tim.state = .acquire := he2.1.trans (he1.1.trans (he.2.1.trans hacq))
        rw [if_pos he3]
        exact ⟨he2.1.trans he1.1, by rw [← he1.2]; exact he2.2⟩
      · exact ⟨he1.1, by rw [he1.2]⟩

theorem dirOf_core {d e : Device} (h : SameDirs d e) (pair dir : Nat) : dirCore (dirOf e pair dir) = dirCore (dirOf d pair dir) := by
  have hget : ∀ l : List DirTime, dirCore (l.getD (2 * pair + dir) {}) = (l.map dirCore).getD (2 * pair + dir) (dirCore {}) := by
    intro l
    simp only [List.getD_eq_getElem?_getD, List.getElem?_map]
    cases l[2 * pair + dir]? <;> rfl
  rw [dirOf, dirOf, hget, hget, h.2.2]

theorem dirOf_dirSet {d : Device} {pair dir : Nat} (h : 2 * pair + dir < d.tim.dirs.length) (f : DirTime → DirTime) :
    dirOf (dirSet pair dir f d) pair dir = f (dirOf d pair dir) := by
  simp [dirOf, dirSet, setTime, modAt, List.getD_eq_getElem?_getD, h]

/-- What a node in ACQUIRE keeps of a TIME frame (R67): its direction is present, with the frame's head, period and raster. -/
def Kept (d : Device) (pair dir head period : Nat) (r : Raster) : Prop :=
  (dirOf d pair dir).seen = true ∧ (dirOf d pair dir).head = head ∧ (dirOf d pair dir).period = period ∧
    (dirOf d pair dir).raster = r

theorem kept_of_sameDirs {d e : Device} {pair dir head period : Nat} {r : Raster} (h : SameDirs d e)
    (hk : Kept d pair dir head period r) : Kept e pair dir head period r := by
  have hc := dirOf_core h pair dir
  obtain ⟨hseen, hhead, hperiod, hraster⟩ := hk
  exact ⟨(congrArg DirTime.seen hc).trans hseen, (congrArg DirTime.head hc).trans hhead,
    (congrArg DirTime.period hc).trans hperiod, (congrArg DirTime.raster hc).trans hraster⟩

theorem kept_keepDir {d : Device} {pair : Nat} {h : Hdr} (hlen : 2 * pair + h.dir < d.tim.dirs.length) (t : TimeRx) (b : List Byte) :
    Kept (keepDir pair t h b d) pair h.dir h.head (be b 3 1 % 32) (timeRaster b) ∧ (keepDir pair t h b d).clk = d.clk ∧
      (keepDir pair t h b d).tim.state = d.tim.state := by
  unfold keepDir
  extract_lets own loop e
  have he : Kept e pair h.dir h.head (be b 3 1 % 32) (timeRaster b) ∧ e.clk = d.clk ∧ e.tim.state = d.tim.state := by
    refine ⟨?_, rfl, rfl⟩
    rw [Kept, dirOf_dirSet hlen]
    exact ⟨rfl, rfl, rfl, rfl⟩
  unfold when
  split <;> exact he

/-- A node in ACQUIRE takes a RING TIME frame of its own raster: its direction's quantities are kept, the clock is
untouched (R67, R71). -/
theorem nodeTime_acquire {d : Device} {t : TimeRx} {h : Hdr} {b : List Byte} (hready : headReady b = true)
    (hper : 1 ≤ be b 3 1 % 32) (hper' : be b 3 1 % 32 ≤ 16) (hvalid : (timeRaster b).valid = true)
    (hline : (timeOrigin b).line < (timeRaster b).lines) (hraster : d.clk.raster = timeRaster b)
    (hadopt : adopts d (pairOf t.frame.port.val) (timeRaster b) = false) (hacq : d.tim.state = .acquire)
    (hlen : 2 * pairOf t.frame.port.val + h.dir < d.tim.dirs.length) :
    (nodeTime t h b d).clk = d.clk ∧ (nodeTime t h b d).tim.state = .acquire ∧
      Kept (nodeTime t h b d) (pairOf t.frame.port.val) h.dir h.head (be b 3 1 % 32) (timeRaster b) := by
  have husable : timeUnusable b = false := by
    simp [timeUnusable, hvalid]
    omega
  unfold nodeTime
  extract_lets p pair r
  rw [if_neg (by simp [husable]), if_neg (by simp [hready])]
  rename_i e
  have he : e = d := if_neg (by simp [p, pair, r, hadopt])
  clear_value e
  rw [he, if_neg (not_not.mpr hraster)]
  obtain ⟨hkept, hclk, hstate⟩ := kept_keepDir hlen t b
  have hagree : SameDirs (keepDir pair t h b d) (quiet (fun d => pairPeriod pair h.dir (keepDir pair t h b d)) d) := by
    refine ⟨hclk.symm, ?_⟩
    rw [quiet, keepClk_tim, pairPeriod]
    split
    · exact ⟨rfl, rfl⟩
    · obtain ⟨hs, hd⟩ := dirs_headsAgree pair (keepDir pair t h b d)
      exact ⟨hs, by rw [hd]⟩
  have hmeasure := hagree.trans (sameDirs_nodeMeasure pair h.dir (hagree.2.1.trans (hstate.trans hacq)))
  exact ⟨hmeasure.1.trans hclk, hmeasure.2.1.trans (hstate.trans hacq), kept_of_sameDirs hmeasure hkept⟩

/-! ### The obligation -/

theorem clk_keepClk_takeTime (f : RxFrame) (kind : Nat) (edit : List Byte → List Byte) (d : Device) :
    keepClk d (takeTime f kind edit d).dev = (takeTime f kind edit d).dev :=
  keepClk_of_clk (clk_of_mask (ps := others .clk) (mask_takeTime rfl f kind edit d) rfl)

theorem timeFrame_does {t : TimeRx} {s : State} {h : Hdr} {b : List Byte}
    (hgot : (takeTime t.frame 0 (timeOnward t s.dev) s.dev).got = some (h, b)) (hh : s.dev.isHead = false)
    (hready : headReady b = true) (hper : 1 ≤ be b 3 1 % 32) (hper' : be b 3 1 % 32 ≤ 16)
    (hvalid : (timeRaster b).valid = true) (hline : (timeOrigin b).line < (timeRaster b).lines)
    (hraster : s.dev.clk.raster = timeRaster b) (hadopt : adopts s.dev (pairOf t.frame.port.val) (timeRaster b) = false)
    (hacq : s.dev.tim.state = .acquire) (hlen : s.dev.tim.dirs.length = 8) (hdir : h.dir ≤ 1) :
    Does (.timeFrame t) s (fun e => e.clk = s.dev.clk ∧ e.tim.state = .acquire ∧
      Kept e (pairOf t.frame.port.val) h.dir h.head (be b 3 1 % 32) (timeRaster b)) := by
  refine clocked_does (f := fun d => settle d.clk.rp (timeFrameFx t d)) rfl ?_
  have hmask := mask_takeTime (ps := others .tim) rfl t.frame 0 (timeOnward t s.dev) s.dev
  have htake : (timeFrameFx t s.dev) = quiet (fun e => when (intervalPasses t.frame e)
      (insertion (otherPort t.frame.port.val) t.follow) e)
      (nodeTime t h b (takeTime t.frame 0 (timeOnward t s.dev) s.dev).dev) := by
    rw [timeFrameFx, clk_keepClk_takeTime]
    simp only [hgot, hh, Bool.false_eq_true, if_false]
  have htim : (takeTime t.frame 0 (timeOnward t s.dev) s.dev).dev.tim = s.dev.tim := tim_of_mask hmask rfl
  have hclk : (takeTime t.frame 0 (timeOnward t s.dev) s.dev).dev.clk = s.dev.clk :=
    clk_of_mask (ps := others .clk) (mask_takeTime rfl _ _ _ _) rfl
  have hnode := nodeTime_acquire (d := (takeTime t.frame 0 (timeOnward t s.dev) s.dev).dev) (t := t) (h := h) hready hper hper'
    hvalid hline (by rw [hclk, hraster]) (by rw [adopts, htim, hclk]; exact hadopt) (by rw [htim, hacq])
    (by rw [htim, hlen]; have := t.frame.port.isLt; simp only [pairOf]; omega)
  rw [hclk] at hnode
  generalize nodeTime t h b (takeTime t.frame 0 (timeOnward t s.dev) s.dev).dev = n at htake hnode
  have hlast : SameDirs n (timeFrameFx t s.dev) := by
    rw [htake]
    have hins : (when (intervalPasses t.frame n) (insertion (otherPort t.frame.port.val) t.follow) n).tim = n.tim := by
      unfold when
      split
      · exact tim_of_mask (ps := others .tim) (mask_insertion rfl _ _ _) rfl
      · rfl
    exact .quiet (by rw [hins]; exact ⟨rfl, rfl⟩)
  have hsettle : settle s.dev.clk.rp (timeFrameFx t s.dev) = timeFrameFx t s.dev := by
    simp [settle, hlast.1, hnode.1, when]
  rw [hsettle]
  exact ⟨hlast.1.trans hnode.1, hlast.2.1.trans hnode.2.1, kept_of_sameDirs hlast hnode.2.2⟩

/-- The device after a DELAY_REQ is taken: the neighbour is noted before the answer leaves. -/
theorem delayReqFx_got {f : RxFrame} {t3 : BitVec 64} {d : Device} {h : Hdr} {b : List Byte}
    (hgot : (takeTime f 1 id d).got = some (h, b)) : ∃ dir payload, payload.length ≤ 78 ∧ delayReqFx f t3 d =
      sendTime f.port.val dir (pairOf f.port.val) 0 payload (neighbour f.port.val h (takeTime f 1 id d).dev) := by
  refine ⟨sendDir d f.port.val, [2] ++ zeros 31 ++ cut b 32 8 ++ beN 8 (rxPost d f.port.val f.mark).toNat ++
    beN 8 (txPost d f.port.val t3).toNat, ?_, by simp only [delayReqFx, hgot]⟩
  simp [beN_length, cut, zeros]
  omega

section
variable {d : Device} {p : Nat} {h : Hdr}

theorem port_neighbour (hp : p < d.link.length) : (neighbour p h d).port p =
    { d.port p with neighbour := if h.unasg then none else some (BitVec.ofNat 12 h.src) } := port_setPort_same hp _

theorem sendsNow_neighbour (hs : SendsNow d p) : SendsNow (neighbour p h d) p := by
  obtain ⟨hsends, hp, hheld⟩ := hs
  refine ⟨?_, ?_, ?_⟩
  · rw [Sends, port_neighbour hp]; exact hsends
  · rw [neighbour, setPort_length]; exact hp
  · rw [port_neighbour hp]; exact hheld

end

section
variable {s : State} {p : Fin 8} {t1 : BitVec 64} (hp : p.val < s.dev.link.length)
include hp

/-- A link-delay exchange is one TIME frame, its corrected postmark kept (R65, R169). -/
theorem delayExchange_eq : ∃ dir payload e, payload.length ≤ 78 ∧ e.link.length = s.dev.link.length ∧
    e.port p.val = { s.dev.port p.val with t1 := some (txPost s.dev p.val t1) } ∧ e.pwr = s.dev.pwr ∧ e.topo = s.dev.topo ∧
    e.clk = s.dev.clk ∧ e.sent = s.dev.sent ∧ delayExchangeFx p.val t1 s.dev = sendTime p.val dir (pairOf p.val) 0 payload e := by
  refine ⟨sendDir s.dev p.val, [1] ++ zeros 31 ++ beN 8 (txPost s.dev p.val t1).toNat ++ zeros 16,
    s.dev.setPort p.val (fun l => { l with t1 := some (txPost s.dev p.val t1) }), ?_, setPort_length _ _ _,
    port_setPort_same hp _, rfl, rfl, rfl, rfl, rfl⟩
  simp [beN_length, zeros]

theorem delayExchange_numbered (hnum : Numbers s.dev) : Does (.linkDelayExchange p t1) s (fun e =>
    (e.port p.val).t1 = some (txPost s.dev p.val t1) ∧ (e.port p.val).timeSeq = (s.dev.port p.val).timeSeq + 1 ∧
    ((s.dev.port p.val).up = true → (s.dev.port p.val).lpiTx = false →
      (s.dev.isHead = true → (s.dev.port p.val).quietTo = none ∧ (s.dev.port p.val).backlog = []) →
      ∃ f, e.sent = s.dev.sent ++ [f] ∧ f.port = p.val) ∧
    SameBut [.link, .sent] s.dev e) := by
  obtain ⟨dir, payload, e, hpay, hlen, hport, hpwr, htopo, hclk, hsent, heq⟩ := delayExchange_eq (t1 := t1) hp
  rw [← hlen] at hp
  have hn : Numbers e := by rw [Numbers, isHead_of_pwr hpwr, htopo]; exact hnum
  refine act_does (f := delayExchangeFx p.val t1) rfl ⟨?_, ?_, fun hup hlpi hheld => ?_,
    sameBut_keepClk (mask_delayExchangeFx rfl p.val t1 s.dev)⟩
  · rw [heq]
    exact (sendTime_timeSeq hn hp _ _ _ _).2.trans (by rw [hport])
  · rw [heq]
    exact (sendTime_timeSeq hn hp _ _ _ _).1.trans (by rw [hport])
  · rw [keepClk_sent, heq, ← hsent]
    refine sendTime_sends hn ⟨?_, hp, ?_⟩ _ _ _ hpay
    · rw [Sends, hport]; exact ⟨hup, hlpi⟩
    · rw [hport, isHead_of_pwr hpwr]; exact hheld

theorem delayExchange_unnumbered (hh : s.dev.isHead = false) (hn : s.dev.topo.nodeId = none) :
    Does (.linkDelayExchange p t1) s (fun e => (e.port p.val).t1 = some (txPost s.dev p.val t1) ∧
      (e.port p.val).timeSeq = (s.dev.port p.val).timeSeq ∧ (e.port p.val).cardFrame = some s.dev.clk.rp.frame ∧
      ((s.dev.port p.val).cardFrame = some s.dev.clk.rp.frame → e.sent = s.dev.sent) ∧
      SameBut [.link, .sent] s.dev e) := by
  obtain ⟨dir, payload, e, hpay, hlen, hport, hpwr, htopo, hclk, hsent, heq⟩ := delayExchange_eq (t1 := t1) hp
  rw [← hlen] at hp
  have hh' : e.isHead = false := (isHead_of_pwr hpwr).trans hh
  have hn' : e.topo.nodeId = none := by rw [htopo, hn]
  obtain ⟨hcard, hseq, ht1⟩ := sendTime_unnumbered hh' hn' hp dir (pairOf p.val) 0 payload
  refine act_does (f := delayExchangeFx p.val t1) rfl ⟨?_, ?_, ?_, fun hc => ?_,
    sameBut_keepClk (mask_delayExchangeFx rfl p.val t1 s.dev)⟩
  · rw [heq]
    exact ht1.trans (by rw [hport])
  · rw [heq]
    exact hseq.trans (by rw [hport])
  · rw [heq]
    exact hcard.trans (by rw [hclk])
  · rw [keepClk_sent, heq, sendTime_carded hh' hn' (by rw [hport, hclk]; exact hc), hsent]

end

/-- Settles O18: sending a TIME frame numbers it, taking one keeps its direction's quantities. -/
theorem timeFramesTravel : Obligations.TimeFramesTravel := by
  refine ⟨⟨?_, ?_⟩, ⟨?_, ?_⟩, ?_⟩
  · intro s l0 l1 l2 l3 l4 l5 l6 l7 hlink hh hcfg hfwd hreset hmap
    refine act_does (f := timeTickFx) rfl ⟨sameBut_keepClk (mask_timeTickFx rfl s.dev), fun p hp => ?_⟩
    exact timeTick_ports (by rw [hlink]; rfl) hh hcfg hfwd hreset hmap hp
  · intro s p t1 hp
    exact ⟨delayExchange_numbered hp, delayExchange_unnumbered hp⟩
  · intro f t3 s h b hgot d hd hp hup hlpi
    subst hd
    obtain ⟨dir, payload, hpay, heq⟩ := delayReqFx_got (t3 := t3) hgot
    generalize (takeTime f 1 id s.dev).dev = d at *
    have hlen : f.port.val < (neighbour f.port.val h d).link.length := by rw [neighbour, setPort_length]; exact hp
    refine ⟨fun hnum => ?_, fun hh hn hc => ?_, fun hh hn hc => ?_⟩
    · have hs : SendsNow d f.port.val := ⟨⟨hup, hlpi⟩, hp, fun hh => by
        rcases hnum with hnum | hnum
        · exact hnum.2
        · simp [hnum.1] at hh⟩
      have hn : Numbers (neighbour f.port.val h d) := hnum.imp And.left And.right
      refine act_does (f := delayReqFx f t3) rfl ?_
      rw [heq]
      refine ⟨((sendTime_timeSeq hn hlen _ _ _ _).1).trans (by rw [port_neighbour hp]), ?_⟩
      exact sendTime_sends hn (sendsNow_neighbour hs) _ _ _ hpay
    · refine act_does (f := delayReqFx f t3) rfl ?_
      rw [heq]
      refine ⟨((sendTime_unnumbered (d := neighbour f.port.val h d) hh hn hlen _ _ _ _).2.1).trans (by rw [port_neighbour hp]), ?_⟩
      refine sendTime_unnumbered_sends (d := neighbour f.port.val h d) hh hn ?_ ?_ hlen _ _ _ _
      · rw [port_neighbour hp]; exact hc
      · rw [Sends, port_neighbour hp]; exact ⟨hup, hlpi⟩
    · refine act_does (f := delayReqFx f t3) rfl ?_
      rw [heq, keepClk_sent, sendTime_carded (d := neighbour f.port.val h d) hh hn (by rw [port_neighbour hp]; exact hc)]
      rfl
  · intro f s h b hgot d hd hp ht1
    subst hd
    refine act_does (f := delayRespFx f) rfl ?_
    simp only [delayRespFx, hgot]
    generalize (takeTime f 2 id s.dev).dev = d at *
    have hlen : f.port.val < (neighbour f.port.val h d).link.length := by rw [neighbour, setPort_length]; exact hp
    have hport := port_setPort_same hlen (fun l => if l.t1 = some (BitVec.ofNat 64 (be b 32 8)) then
      { l with t1 := none, delays := lastN 8 (l.delays ++
        [((rxPost s.dev f.port.val f.mark - BitVec.ofNat 64 (be b 32 8)).toInt -
          (BitVec.ofNat 64 (be b 48 8) - BitVec.ofNat 64 (be b 40 8)).toInt) / 2]) } else l)
    rw [port_neighbour hp] at hport
    simp only [ht1, if_true] at hport
    exact ⟨(congrArg LinkPort.t1 hport :), (congrArg LinkPort.delays hport :)⟩
  · intro t s h b hgot hh hready hper hper' hvalid hline hraster hadopt hacq hlen hdir
    exact timeFrame_does hgot hh hready hper hper' hvalid hline hraster hadopt hacq hlen hdir

end Sys2Proof.Proofs
end

/-! ## Sys2Proof/Proofs/Locks: a node's first lock, and a raster adopted again (R46, R71, R576) -/

section

namespace Sys2Proof.Proofs

open Machine Laws

/-! ### First lock at a node -/

/-- A lock taken: TRACK, at the rate found (R71). -/
theorem lockTaken_tim (rate : Int) (d : Device) : (lockTaken rate d).tim.state = .track ∧ (lockTaken rate d).tim.firstLock = true ∧
    (lockTaken rate d).tim.rate = rate ∧ (lockTaken rate d).tim.off16 = d.tim.off16 ∧ (lockTaken rate d).tim.path = d.tim.path := by
  rw [lockTaken, tim_of_mask (ps := others .tim) (mask_evaluateHeld rfl _) rfl]
  exact ⟨rfl, rfl, rfl, rfl, rfl⟩

/-- The time base after a lock taken at the clock as it stands. -/
theorem quiet_lockTaken_tim (rate : Int) (f : Device → Time → Time) (d e : Device)
    (he : e = quiet (fun d => outCheck (lockTaken rate (setTime (f d) d))) d) :
    e.clk = d.clk ∧ e.tim.state = .track ∧ e.tim.firstLock = true ∧ e.tim.rate = rate ∧ e.tim.off16 = (f d d.tim).off16 ∧
      e.tim.path = (f d d.tim).path := by
  subst he
  refine ⟨rfl, ?_⟩
  rw [quiet, keepClk_tim, tim_of_mask (ps := others .tim) (mask_outCheck rfl _) rfl]
  exact lockTaken_tim rate (setTime (f d) d)

theorem acquireFx_locks {d : Device} {pair path : Nat} {off : Int} {store : Bool} (hh : d.isHead = false)
    (hacq : d.tim.state = .acquire) (hpair : timePair d = some pair) (hoff : pairOffset d pair = some (path, off, store)) (rate : Int) :
    (acquireFx rate d).clk = d.clk.shift off ∧ (acquireFx rate d).tim.state = .track ∧ (acquireFx rate d).tim.firstLock = true ∧
      (acquireFx rate d).tim.rate = clamp rate (-200000) 200000 ∧ (acquireFx rate d).tim.off16 = off ∧
      (acquireFx rate d).tim.path = path := by
  unfold acquireFx
  rw [if_neg (by simp [hh, hacq]), hpair]
  dsimp only
  rw [hoff]
  exact quiet_lockTaken_tim _ (fun d' t => { marksBy d'.clk.raster (RP.dist d'.clk.raster d'.clk.rp d.clk.rp) t with
    path := path, off16 := off, offsetNs := off / 65536,
    dirs := dirsMoved off (marksBy d'.clk.raster (RP.dist d'.clk.raster d'.clk.rp d.clk.rp) t).dirs }) _ _ rfl

/-! ### A raster adopted again -/

theorem outStop_running (cause : Nat) (d : Device) : (outStop cause d).out.running = false := by
  unfold outStop
  split
  · next h => simpa using h
  · rw [out_of_mask (ps := others .out) (mask_outputState rfl _ _ _) rfl]
    rfl

theorem readoptDark_stops (v : Nat) (d : Device) :
    (readoptDark v d).out.running = false ∧ (readoptDark v d).pxl.graph = none := by
  have hrun := outStop_running v d
  rw [← out_of_mask (ps := others .out) (mask_fixturesStop rfl (outStop v d)) rfl] at hrun
  unfold readoptDark
  generalize fixturesStop (outStop v d) = e at hrun ⊢
  exact ⟨hrun, rfl⟩

/-- What stops before a raster is adopted again (R576): output, the graph in progress, and the judgement of what waits. -/
theorem readoptStop_stops (pair : Nat) (d : Device) : (readoptStop pair d).out.running = false ∧
    (readoptStop pair d).pxl.graph = none ∧ ∀ x ∈ (readoptStop pair d).sched.entries, x.judged = false := by
  unfold readoptStop
  extract_lets z
  obtain ⟨hrun, hgraph⟩ := readoptDark_stops (z.1 % 256) z.2
  generalize readoptDark (z.1 % 256) z.2 = e at hrun hgraph ⊢
  refine ⟨hrun, hgraph, fun x hx => ?_⟩
  obtain ⟨y, _, rfl⟩ := List.mem_map.mp hx
  rfl

theorem presentOf_state (pair : Nat) (d : Device) : (presentOf pair d).tim.state = d.tim.state ∧
    (presentOf pair d).tim.firstLock = d.tim.firstLock ∧ (presentOf pair d).tim.follow = d.tim.follow := by
  unfold presentOf
  split <;> exact ⟨rfl, rfl, rfl⟩

theorem readoptFx_adopts {d : Device} {pair : Nat} {r : Raster} (hh : d.isHead = false) (hlock : d.tim.firstLock = true)
    (hhold : d.tim.state = .holdover) (hpair : foreignPair d = some (pair, r)) (hvalid : r.valid = true) :
    (readoptFx d).clk = d.clk.restart r ∧ (readoptFx d).tim.state = .acquire ∧ (readoptFx d).tim.firstLock = false ∧
      (readoptFx d).tim.follow = some pair ∧ (readoptFx d).out.running = false ∧ (readoptFx d).pxl.graph = none ∧
      ∀ x ∈ (readoptFx d).sched.entries, x.judged = false := by
  unfold readoptFx
  rw [if_neg (by simp [hh, hlock, hhold]), hpair]
  dsimp only
  rw [if_neg (by simp [hvalid])]
  obtain ⟨hrun, hgraph, hsched⟩ := readoptStop_stops pair d
  have hclk : (quiet (readoptStop pair) d).clk = d.clk := quiet_clk _ _
  have hout : (quiet (readoptStop pair) d).out.running = false := by rw [quiet, keepClk_out, hrun]
  have hpxl : (quiet (readoptStop pair) d).pxl.graph = none := by rw [quiet, keepClk_pxl, hgraph]
  have hent : ∀ x ∈ (quiet (readoptStop pair) d).sched.entries, x.judged = false := by rw [quiet, keepClk_sched]; exact hsched
  generalize quiet (readoptStop pair) d = e at hclk hout hpxl hent ⊢
  obtain ⟨hstate, hfirst, hfollow⟩ := presentOf_state pair (setOut (fun o => { o with autoStart := some 1 }) (setTime (readopted pair) (restarted r e)))
  rw [quiet_clk, quiet, keepClk_tim, keepClk_out, keepClk_pxl, keepClk_sched, hstate, hfirst, hfollow]
  refine ⟨by rw [← hclk]; rfl, rfl, rfl, rfl, ?_, ?_, ?_⟩
  · rw [out_of_mask (ps := others .out) (mask_presentOf rfl _ _) rfl]
    exact hout
  · rw [pxl_of_mask (ps := others .pxl) (mask_presentOf rfl _ _) rfl]
    exact (congrArg Pixel.graph (pxl_of_mask (ps := others .pxl) (mask_restarted rfl r e) rfl)).trans hpxl
  · rw [sched_of_mask (ps := others .sched) (mask_presentOf rfl _ _) rfl]
    exact hent

/-- Settles O19: each row does its whole work where its condition holds, and nothing elsewhere. -/
theorem nodeLocks : Obligations.NodeLocks := by
  refine ⟨fun rate s => ⟨fun pair path off store hh hacq hpair hoff => ?_, fun hnot => ?_⟩,
    fun s => ⟨fun pair r hh hlock hhold hpair hvalid => ?_, fun hnot => ?_⟩⟩
  · refine clocked_does (f := acquireFx rate) rfl ?_
    obtain ⟨hclk, hstate, hfirst, hrate, hoff16, hpath⟩ := acquireFx_locks hh hacq hpair hoff rate
    exact ⟨hstate, hfirst, hrate, hoff16, hpath, hclk⟩
  · refine clocked_does (f := acquireFx rate) rfl ?_
    unfold acquireFx
    split
    · rfl
    · next hgo =>
      have hpair : timePair s.dev = none := by simp_all
      rw [hpair]
  · exact clocked_does (f := readoptFx) rfl (readoptFx_adopts hh hlock hhold hpair hvalid)
  · refine clocked_does (f := readoptFx) rfl ?_
    unfold readoptFx
    split
    · rfl
    · next hgo =>
      have hpair : foreignPair s.dev = none := by simp_all
      rw [hpair]

end Sys2Proof.Proofs
end

/-! ## Sys2Proof/Proofs/HeadTime: what a head measures of its reference (R46, R49, R51, R55, R56) -/

section

namespace Sys2Proof.Proofs

open Machine Laws

/-! ### An offset judged -/

/-- What a judgement of an offset does not touch once the offset is kept. -/
def marks (d : Device) : Int × Option (BitVec 32) × Nat := (d.tim.off16, d.tim.edgeFrame, d.tim.edgesMissed)

theorem marks_raise (code : Nat) (payload : List Byte) (d : Device) : marks (raise code payload d) = marks d := by
  rw [marks, raise_tim]
  rfl

theorem marks_servo (slew : Nat) (d : Device) : marks (servo slew d) = marks d := by
  unfold servo
  extract_lets want since step rate tooFar d'
  unfold when
  split
  · exact marks_raise _ _ d'
  · rfl

theorem marks_enterLocked (d : Device) : marks (enterLocked d) = marks d := marks_raise _ _ _

theorem marks_enterRefused (off : Int) (d : Device) : marks (enterRefused off d) = marks d := marks_raise _ _ _

theorem marks_measured (d : Device) : marks (measured d) = marks d := rfl

/-- An offset judged is the one kept, whatever state it leads to (R56, R58). -/
theorem marks_judgeOffset (lockNs lockN slew : Nat) (off16 : Int) (d : Device) :
    marks (judgeOffset lockNs lockN slew off16 d) = (off16, d.tim.edgeFrame, d.tim.edgesMissed) := by
  unfold judgeOffset
  extract_lets big e
  have he : marks e = (off16, d.tim.edgeFrame, d.tim.edgesMissed) := rfl
  have hkeep : ∀ f : Time → Time, (∀ t, (f t).off16 = t.off16 ∧ (f t).edgeFrame = t.edgeFrame ∧ (f t).edgesMissed = t.edgesMissed) →
      marks (setTime f e) = marks e := by
    intro f hf
    obtain ⟨hoff, hframe, hmissed⟩ := hf e.tim
    rw [marks, setTime, hoff, hframe, hmissed]
    rfl
  have hservo : ∀ f : Time → Time, (∀ t, (f t).off16 = t.off16 ∧ (f t).edgeFrame = t.edgeFrame ∧ (f t).edgesMissed = t.edgesMissed) →
      marks (servo slew (setTime f e)) = marks e := fun f hf => (marks_servo slew _).trans (hkeep f hf)
  refine Eq.trans (marks_measured _) (Eq.trans (b := marks e) ?_ he)
  clear_value e
  split
  · split
    · exact (marks_enterLocked _).trans (hservo _ (fun _ => ⟨rfl, rfl, rfl⟩))
    · exact hservo _ (fun _ => ⟨rfl, rfl, rfl⟩)
  · split
    · split
      · exact marks_enterRefused _ e
      · exact hkeep _ (fun _ => ⟨rfl, rfl, rfl⟩)
    · exact hservo _ (fun _ => ⟨rfl, rfl, rfl⟩)
  · split
    · exact (marks_enterLocked _).trans (hkeep _ (fun _ => ⟨rfl, rfl, rfl⟩))
    · exact hkeep _ (fun _ => ⟨rfl, rfl, rfl⟩)
  · split
    · split
      · exact hkeep _ (fun _ => ⟨rfl, rfl, rfl⟩)
      · exact marks_enterRefused _ e
    · exact hkeep _ (fun _ => ⟨rfl, rfl, rfl⟩)
  · rfl

/-! ### A head's first lock (R46) -/

theorem headFirstLock_locks (rp : RP) (d : Device) : (headFirstLock rp d).tim.state = .track ∧
    (headFirstLock rp d).tim.firstLock = true ∧ (headFirstLock rp d).tim.rate = 0 ∧
    (headFirstLock rp d).clk = d.clk.goTo rp := by
  unfold headFirstLock
  extract_lets was
  rw [quiet_clk, quiet, keepClk_tim]
  obtain ⟨hstate, hlock, hrate, -, -⟩ := lockTaken_tim 0 (setTime (marksBy (d.clk.goTo rp).raster
    (RP.dist (d.clk.goTo rp).raster (d.clk.goTo rp).rp was)) { d with clk := d.clk.goTo rp })
  exact ⟨hstate, hlock, hrate, rfl⟩

theorem headFirstLock_unaligned (rp : RP) (d : Device) : (headFirstLock rp d).tim.ltcUnaligned = d.tim.ltcUnaligned := by
  rw [headFirstLock, quiet, keepClk_tim, lockTaken, tim_of_mask (ps := others .tim) (mask_evaluateHeld rfl _) rfl]
  rfl

/-! ### PTP (R49, R55) -/

section
variable {m : PtpExchange} {s : State} {d : Device}

theorem ptpMeasurement_does (hd : d = keepClk s.dev (ptpFrames m s.dev).2) {p : Device → Prop}
    (hp : p (if (ptpFrames m s.dev).1 then ptpTaken m d else d)) : Does (.ptpMeasurement m) s p := by
  subst hd
  exact clocked_does (f := ptpMeasurementFx m) rfl hp

theorem ptpFrames_tim (m : PtpExchange) (d : Device) : (keepClk d (ptpFrames m d).2).tim = d.tim :=
  (keepClk_tim _ _).trans (tim_of_mask (ps := others .tim) (mask_ptpFrames rfl m d) rfl)

/-- A measurement out of line, or in FREE, is kept and no more (R49). -/
theorem ptpTaken_kept (h : delayAccepted d.tim.delays (ptpDelay m d) = false ∨ d.tim.state = .free) :
    ptpTaken m d = { d with tim := { d.tim with delays := lastN 16 (d.tim.delays ++ [ptpDelay m d]), ptpNs := ptpNow m d } } := by
  unfold ptpTaken
  extract_lets delay ns good e
  rcases h with h | h
  · rw [if_pos (by simp [good, delay, h])]
    rfl
  · split
    · rfl
    · have he : e.tim.state = .free := h
      rw [he]
      rfl

theorem ptpTaken_acquire (hgood : delayAccepted d.tim.delays (ptpDelay m d) = true) (hacq : d.tim.state = .acquire) :
    (8 ≤ d.tim.meas + 1 → (ptpTaken m d).tim.state = .track ∧ (ptpTaken m d).tim.firstLock = true ∧ (ptpTaken m d).tim.rate = 0 ∧
      (ptpTaken m d).clk = d.clk.goTo (ptpRp d.clk.raster (ptpNow m d))) ∧
    (d.tim.meas + 1 < 8 → (ptpTaken m d).tim.state = .acquire ∧ (ptpTaken m d).tim.meas = d.tim.meas + 1 ∧
      (ptpTaken m d).clk = d.clk) := by
  unfold ptpTaken
  extract_lets delay ns good e
  have hstate : e.tim.state = .acquire := hacq
  have hmeas : e.tim.meas = d.tim.meas := rfl
  have hclk : e.clk = d.clk := rfl
  rw [if_neg (by simp [good, delay, hgood]), hstate]
  dsimp only
  rw [hmeas]
  refine ⟨fun h => ?_, fun h => ?_⟩
  · rw [if_pos h, hclk]
    exact headFirstLock_locks _ e
  · rw [if_neg (by omega)]
    exact ⟨hacq, rfl, rfl⟩

theorem ptpTaken_judged (hgood : delayAccepted d.tim.delays (ptpDelay m d) = true) (hfree : d.tim.state ≠ .free)
    (hacq : d.tim.state ≠ .acquire) : (ptpTaken m d).clk = d.clk ∧
    (ptpTaken m d).tim.off16 = refOffset d (ptpRp d.clk.raster (ptpNow m d)) * 65536 := by
  unfold ptpTaken
  extract_lets delay ns good e
  rw [if_neg (by simp [good, delay, hgood])]
  have hstate : e.tim.state = d.tim.state := rfl
  have hclk : e.clk = d.clk := rfl
  have hjudge := congrArg Prod.fst (marks_judgeOffset 100 16 10000 (refOffset e (ptpRp e.clk.raster ns) * 65536) e)
  clear_value e
  cases hs : e.tim.state
  case free => exact absurd (hstate.symm.trans hs) hfree
  case acquire => exact absurd (hstate.symm.trans hs) hacq
  all_goals
    refine ⟨hclk, hjudge.trans ?_⟩
    rw [refOffset, refOffset, hclk]

end

/-! ### Sync edges (R51) -/

section
variable {falling : Bool} {d : Device} {off : Int} {f : BitVec 32}

theorem syncEdgeFx_ignored (h : measures d .sync = false ∨ falling ≠ (d.field 0x3024 0 0 == 1)) : syncEdgeFx falling d = d := by
  unfold syncEdgeFx
  rw [if_pos]
  rcases h with h | h
  · simp [h]
  · simp [bne_iff_ne.mpr h]

/-- What an edge leads to once it is kept, by the time state. -/
def edgeTaken (off : Int) (f : BitVec 32) (d : Device) : Device :=
  match d.tim.state with
  | .free => quiet (setTime (fun t => { t.enter .acquire with meas := 0 })) d
  | .acquire =>
    if 8 ≤ d.tim.meas + 1 then
      headFirstLock (RP.plus d.clk.raster (RP.start (BitVec.ofInt 32 (syncFrame d (RP.plus d.clk.raster d.clk.rp off)).1)) (-off))
        (quiet (setTime (fun t => { t with ltcUnaligned := !(syncFrame d (RP.plus d.clk.raster d.clk.rp off)).2 })) d)
    else quiet (setTime (fun t => { t with meas := t.meas + 1 })) d
  | _ => quiet (fun e => judgeOffset 100 16 10000 (refOffset e (RP.plus d.clk.raster (RP.start f) (-off)) * 65536) e) d

variable (hoff : off = d.clk.raster.subOf (syncOffset d))
  (hf : f = edgeFrameAt (RP.plus d.clk.raster d.clk.rp off) (nearest 1 16 (d.field 0x3020 4 0)))
  (hm : measures d .sync = true) (hpol : falling = (d.field 0x3024 0 0 == 1))
include hoff hf hm hpol

theorem syncEdgeFx_again (hlock : d.tim.firstLock = true) (hframe : d.tim.edgeFrame = some f) : syncEdgeFx falling d = d := by
  subst hoff hf
  rw [syncEdgeFx, if_neg (by simp [hm, hpol])]
  exact if_pos ⟨hframe, hlock⟩

theorem syncEdgeFx_first (h : ¬ (d.tim.edgeFrame = some f ∧ d.tim.firstLock = true)) :
    syncEdgeFx falling d = edgeTaken off f { d with tim := { d.tim with edgeFrame := some f, edgesMissed := 0 } } := by
  subst hoff hf
  rw [syncEdgeFx, if_neg (by simp [hm, hpol])]
  refine (if_neg h).trans ?_
  rfl

end

section
variable {d : Device} {off : Int} {f : BitVec 32}

theorem edgeTaken_free (hs : d.tim.state = .free) : (edgeTaken off f d).tim.state = .acquire ∧ (edgeTaken off f d).tim.meas = 0 ∧
    (edgeTaken off f d).tim.edgesMissed = d.tim.edgesMissed ∧ blank [.tim] (edgeTaken off f d) = blank [.tim] d := by
  rw [edgeTaken, hs]
  exact ⟨rfl, rfl, rfl, rfl⟩

theorem edgeTaken_counts (hs : d.tim.state = .acquire) (h : d.tim.meas + 1 < 8) : (edgeTaken off f d).tim.state = .acquire ∧
    (edgeTaken off f d).tim.meas = d.tim.meas + 1 ∧ (edgeTaken off f d).tim.edgesMissed = d.tim.edgesMissed ∧
    blank [.tim] (edgeTaken off f d) = blank [.tim] d := by
  rw [edgeTaken, hs]
  dsimp only
  rw [if_neg (by omega)]
  exact ⟨hs, rfl, rfl, rfl⟩

theorem edgeTaken_locks (hs : d.tim.state = .acquire) (h : 8 ≤ d.tim.meas + 1) : (edgeTaken off f d).tim.state = .track ∧
    (edgeTaken off f d).tim.firstLock = true ∧ (edgeTaken off f d).tim.rate = 0 ∧
    (edgeTaken off f d).tim.ltcUnaligned = !(syncFrame d (RP.plus d.clk.raster d.clk.rp off)).2 ∧
    (edgeTaken off f d).clk = d.clk.goTo (RP.plus d.clk.raster
      (RP.start (BitVec.ofInt 32 (syncFrame d (RP.plus d.clk.raster d.clk.rp off)).1)) (-off)) := by
  rw [edgeTaken, hs]
  dsimp only
  rw [if_pos h]
  obtain ⟨hstate, hlock, hrate, hclk⟩ := headFirstLock_locks (RP.plus d.clk.raster
    (RP.start (BitVec.ofInt 32 (syncFrame d (RP.plus d.clk.raster d.clk.rp off)).1)) (-off))
    (quiet (setTime (fun t => { t with ltcUnaligned := !(syncFrame d (RP.plus d.clk.raster d.clk.rp off)).2 })) d)
  exact ⟨hstate, hlock, hrate, headFirstLock_unaligned _ _, hclk⟩

theorem edgeTaken_judged (hfree : d.tim.state ≠ .free) (hacq : d.tim.state ≠ .acquire) : (edgeTaken off f d).clk = d.clk ∧
    marks (edgeTaken off f d) = (refOffset d (RP.plus d.clk.raster (RP.start f) (-off)) * 65536, d.tim.edgeFrame, d.tim.edgesMissed) := by
  unfold edgeTaken
  split
  · contradiction
  · contradiction
  · exact ⟨rfl, marks_judgeOffset _ _ _ _ d⟩

end

/-! ### The obligation -/

/-- PTP_MEASUREMENT, by whether its frames came and what the delay says. -/
theorem ptpMeasurement_measures (m : PtpExchange) (s : State) (d : Device) (hd : d = keepClk s.dev (ptpFrames m s.dev).2) :
    ((ptpFrames m s.dev).1 = false → Does (.ptpMeasurement m) s (fun e => e.clk = s.dev.clk ∧ e.tim = s.dev.tim)) ∧
    ((ptpFrames m s.dev).1 = true →
      (delayAccepted s.dev.tim.delays (ptpDelay m d) = false ∨ s.dev.tim.state = .free →
        Does (.ptpMeasurement m) s (fun e => e.clk = s.dev.clk ∧ e.tim =
          { s.dev.tim with delays := lastN 16 (s.dev.tim.delays ++ [ptpDelay m d]), ptpNs := ptpNow m d })) ∧
      (delayAccepted s.dev.tim.delays (ptpDelay m d) = true →
        (s.dev.tim.state = .acquire → 8 ≤ s.dev.tim.meas + 1 →
          Does (.ptpMeasurement m) s (fun e => e.tim.state = .track ∧ e.tim.firstLock = true ∧ e.tim.rate = 0 ∧
            e.clk = s.dev.clk.goTo (ptpRp s.dev.clk.raster (ptpNow m d)))) ∧
        (s.dev.tim.state = .acquire → s.dev.tim.meas + 1 < 8 →
          Does (.ptpMeasurement m) s (fun e => e.tim.state = .acquire ∧ e.tim.meas = s.dev.tim.meas + 1 ∧ e.clk = s.dev.clk)) ∧
        (s.dev.tim.state ≠ .free → s.dev.tim.state ≠ .acquire →
          Does (.ptpMeasurement m) s (fun e => e.clk = s.dev.clk ∧
            e.tim.off16 = refOffset s.dev (ptpRp s.dev.clk.raster (ptpNow m d)) * 65536)))) := by
  have htim : d.tim = s.dev.tim := by rw [hd, ptpFrames_tim]
  have hclk : d.clk = s.dev.clk := by rw [hd, keepClk_clk]
  have hoffset : ∀ r, refOffset s.dev r = refOffset d r := fun r => by rw [refOffset, refOffset, hclk]
  refine ⟨fun hgot => ?_, fun hgot => ?_⟩
  · refine ptpMeasurement_does hd ?_
    rw [hgot]
    exact ⟨hclk, htim⟩
  · have hdoes : ∀ {p : Device → Prop}, p (ptpTaken m d) → Does (.ptpMeasurement m) s p := by
      intro p hp
      refine ptpMeasurement_does hd ?_
      rw [hgot]
      exact hp
    rw [← htim, ← hclk]
    refine ⟨fun h => hdoes ?_, fun hgood => ⟨fun hacq h8 => hdoes ?_, fun hacq h8 => hdoes ?_, fun hfree hacq => hdoes ?_⟩⟩
    · rw [ptpTaken_kept h]
      exact ⟨rfl, rfl⟩
    · exact (ptpTaken_acquire hgood hacq).1 h8
    · exact (ptpTaken_acquire hgood hacq).2 h8
    · rw [hoffset]
      exact ptpTaken_judged hgood hfree hacq

/-- Settles O20: a measurement is taken by the time state. -/
theorem headMeasurements : Obligations.HeadMeasurements := by
  refine ⟨ptpMeasurement_measures, fun falling s off f hoff hf => ⟨fun hnot => ?_, fun hm hpol => ⟨fun hlock => ?_,
    fun hlock hframe => ?_, fun hlock hframe hfree hacq => ?_⟩⟩⟩
  · exact clocked_does (f := syncEdgeFx falling) rfl (syncEdgeFx_ignored hnot)
  · have hfirst := syncEdgeFx_first hoff hf hm hpol (by simp [hlock])
    refine ⟨fun hs => ?_, fun hs h => ?_, fun hs h => ?_⟩
    · refine clocked_does (f := syncEdgeFx falling) rfl ?_
      rw [hfirst]
      obtain ⟨hstate, hmeas, hmissed, hmask⟩ := edgeTaken_free (off := off) (f := f)
        (d := { s.dev with tim := { s.dev.tim with edgeFrame := some f, edgesMissed := 0 } }) hs
      exact ⟨hstate, hmeas, hmissed, sameBut_of_mask hmask⟩
    · refine clocked_does (f := syncEdgeFx falling) rfl ?_
      rw [hfirst]
      obtain ⟨hstate, hmeas, hmissed, hmask⟩ := edgeTaken_counts (off := off) (f := f)
        (d := { s.dev with tim := { s.dev.tim with edgeFrame := some f, edgesMissed := 0 } }) hs h
      exact ⟨hstate, hmeas, hmissed, sameBut_of_mask hmask⟩
    · refine clocked_does (f := syncEdgeFx falling) rfl ?_
      rw [hfirst]
      exact edgeTaken_locks (off := off) (f := f)
        (d := { s.dev with tim := { s.dev.tim with edgeFrame := some f, edgesMissed := 0 } }) hs h
  · exact clocked_does (f := syncEdgeFx falling) rfl (syncEdgeFx_again hoff hf hm hpol hlock hframe)
  · refine clocked_does (f := syncEdgeFx falling) rfl ?_
    rw [syncEdgeFx_first hoff hf hm hpol (by simp [hframe])]
    obtain ⟨hclk, hmarks⟩ := edgeTaken_judged (off := off) (f := f)
      (d := { s.dev with tim := { s.dev.tim with edgeFrame := some f, edgesMissed := 0 } }) hfree hacq
    simp only [marks, Prod.mk.injEq] at hmarks
    exact ⟨hclk, hmarks.2.1, hmarks.2.2, hmarks.1⟩

end Sys2Proof.Proofs
end

/-! ## Sys2Proof/Proofs/References: references lost and found (R50 to R53, R70, R74, R75) -/

section

namespace Sys2Proof.Proofs

open Machine Laws

/-! ### Time lost -/

theorem enterHoldover_tim (cause : Nat) (subject : Option (BitVec 12)) (d : Device) :
    (enterHoldover cause subject d).tim.state = .holdover ∧ (enterHoldover cause subject d).tim.rate = meanRate d ∧
    (enterHoldover cause subject d).tim.dirs = d.tim.dirs ∧ (enterHoldover cause subject d).tim.masters = d.tim.masters ∧
    (enterHoldover cause subject d).tim.gm = d.tim.gm := by
  rw [enterHoldover, report_tim]
  exact ⟨rfl, rfl, rfl, rfl, rfl⟩

/-- Time lost in TRACK, LOCKED or REFUSED leads to HOLDOVER (R70). -/
theorem timeLost_holds {d : Device} (h : d.tim.state = .track ∨ d.tim.state = .locked ∨ d.tim.state = .refused) (cause : Nat)
    (subject : Option (BitVec 12)) : timeLost cause subject d = enterHoldover cause subject d := by
  rcases h with h | h | h <;> rw [timeLost, h]

/-- Time lost in ACQUIRE leads to FREE (R70). -/
theorem timeLost_free {d : Device} (h : d.tim.state = .acquire) (cause : Nat) (subject : Option (BitVec 12)) :
    timeLost cause subject d = setTime (fun t => { t.enter .free with meas := 0, delays := [], lockRun := 0 }) d := by
  rw [timeLost, h]

theorem directionLostFx_told {pair dir : Nat} {d : Device} (hh : d.isHead = false) (hlen : d.tim.dirs.length = 8)
    (hi : 2 * pair + dir < 8) (hlost : (dirOf d pair dir).lost = false)
    (hany : (dirOf d pair dir).seen = true ∨ (dirOf d pair (1 - dir)).seen = true ∨ (dirOf d pair (1 - dir)).lost = true) :
    (dirOf (directionLostFx pair dir d) pair dir).seen = false ∧ (dirOf (directionLostFx pair dir d) pair dir).lost = true := by
  rw [directionLostFx, if_neg (by rcases hany with h | h | h <;> simp [hh, hlost, h]), dirOf, report_tim, ← dirOf, dirOf_dirSet (by omega)]
  exact ⟨rfl, rfl⟩

theorem directionLostFx_kept {pair dir : Nat} {d : Device} (h : d.isHead = true ∨ (dirOf d pair dir).lost = true) :
    directionLostFx pair dir d = d := by
  rw [directionLostFx, if_pos]
  rcases h with h | h <;> simp [h]

/-- A direction lost, or a pair that carries none. -/
theorem timeDirectionLost_does (pair : Fin 4) (dir : Fin 2) (s : State) (x y : DirTime) (hx : x = dirOf s.dev pair.val dir.val)
    (hy : y = dirOf s.dev pair.val (1 - dir.val)) :
    (s.dev.isHead = false → s.dev.tim.dirs.length = 8 → x.lost = false → (x.seen = true ∨ y.seen = true ∨ y.lost = true) →
      Does (.timeDirectionLost pair dir) s (fun e => (dirOf e pair.val dir.val).seen = false ∧
        (dirOf e pair.val dir.val).lost = true ∧ SameBut (.tim :: reporting) s.dev e)) ∧
    (s.dev.isHead = true ∨ x.lost = true → Does (.timeDirectionLost pair dir) s (fun e => e = s.dev)) := by
  subst hx hy
  refine ⟨fun hh hlen hlost hany => ?_, fun h => ?_⟩
  · refine act_does (f := directionLostFx pair.val dir.val) rfl ?_
    obtain ⟨hseen, hgone⟩ := directionLostFx_told hh hlen (by omega) hlost hany
    exact ⟨hseen, hgone, sameBut_keepClk (mask_directionLostFx rfl _ _ _)⟩
  · refine act_does_of_clk (f := directionLostFx pair.val dir.val) rfl ?_ (directionLostFx_kept h)
    rw [directionLostFx_kept h]

/-- No direction is heard any more (R70). -/
def dirsGone (d : Device) : Device :=
  setTime (fun t => { t with dirs := t.dirs.map (fun x => { x with seen := false }) }) d

/-- What TIME_HOLDOVER does at a node (R70): its directions are gone, and time is lost. -/
def holdoverNode (d : Device) : Device := timeLost 2 (prefHead d) (dirsGone d)

theorem timeHoldover_node {s : State} (hh : s.dev.isHead = false) {p : Device → Prop} (hp : p (keepClk s.dev (holdoverNode s.dev))) :
    Does .timeHoldover s p := by
  refine act_does rfl ?_
  rw [if_neg (by simp [hh])]
  exact hp

theorem timeHoldover_holds {s : State} (hh : s.dev.isHead = false)
    (hs : s.dev.tim.state = .track ∨ s.dev.tim.state = .locked ∨ s.dev.tim.state = .refused) :
    Does .timeHoldover s (fun e => e.tim.state = .holdover ∧ e.tim.rate = meanRate s.dev ∧ (∀ x ∈ e.tim.dirs, x.seen = false) ∧
      SameBut (.tim :: reporting) s.dev e) := by
  refine timeHoldover_node hh ?_
  have hheld : holdoverNode s.dev = enterHoldover 2 (prefHead s.dev) (dirsGone s.dev) := timeLost_holds (d := dirsGone s.dev) hs _ _
  obtain ⟨hstate, hrate, hdirs, -, -⟩ := enterHoldover_tim 2 (prefHead s.dev) (dirsGone s.dev)
  rw [keepClk_tim, hheld]
  refine ⟨hstate, hrate, fun x hx => ?_, sameBut_keepClk ?_⟩
  · rw [hdirs] at hx
    obtain ⟨y, _, rfl⟩ := List.mem_map.mp hx
    rfl
  · rw [mask_enterHoldover rfl]
    rfl

theorem timeHoldover_free {s : State} (hh : s.dev.isHead = false) (hs : s.dev.tim.state = .acquire) :
    Does .timeHoldover s (fun e => e.tim.state = .free) := by
  refine timeHoldover_node hh ?_
  rw [holdoverNode, timeLost_free (d := dirsGone s.dev) hs]
  rfl

/-! ### Masters (R50) -/

/-- The masters heard after a choice, and the one chosen (R50). -/
theorem selectMaster_some {ms : List Master} {best : Master} (hb : bestMaster ms = some best) (d : Device) :
    (selectMaster ms d).tim = { d.tim with masters := ms, gm := some best.ann.gm, ptpPort := best.port } ∧
    (∀ o, d.tim.gm = some o → o ≠ best.ann.gm →
      Noticed d (selectMaster ms d) 0x010A (leN 8 o.toNat ++ leN 8 best.ann.gm.toNat)) ∧
    (d.tim.gm = none → (selectMaster ms d).notes = d.notes) := by
  unfold selectMaster
  rw [hb]
  dsimp only
  split
  · next o ho =>
    unfold when
    split
    · next hne =>
      refine ⟨by rw [raise_tim]; rfl, fun o' ho' _ => ?_, fun hnone => ?_⟩
      · obtain rfl : o = o' := Option.some.inj (ho.symm.trans ho')
        exact noticed_raise (by rfl) _ _
      · rw [hnone] at ho
        cases ho
    · next hne =>
      refine ⟨rfl, fun o' ho' hne' => ?_, fun _ => rfl⟩
      obtain rfl : o = o' := Option.some.inj (ho.symm.trans ho')
      exact absurd (bne_iff_ne.mpr hne') hne
  · next hnone =>
    refine ⟨rfl, fun o ho => ?_, fun _ => rfl⟩
    rw [hnone] at ho
    cases ho

/-- Another port's master takes over (R50). -/
theorem announceTimeoutFx_takes {d : Device} {best : Master} (hm : measures d .ptp = true)
    (hport : ∃ m ∈ d.tim.masters, m.port = d.tim.ptpPort)
    (hb : bestMaster (d.tim.masters.filter (fun m => m.port != d.tim.ptpPort)) = some best) :
    (announceTimeoutFx d).tim = { d.tim with
      masters := d.tim.masters.filter (fun m => m.port != d.tim.ptpPort), gm := some best.ann.gm, ptpPort := best.port } := by
  have hany : d.tim.masters.any (fun m => m.port == d.tim.ptpPort) = true := by
    obtain ⟨m, hm, hp⟩ := hport
    exact List.any_eq_true.mpr ⟨m, hm, by simp [hp]⟩
  have hgone : mastersGone d.tim.ptpPort d = selectMaster (d.tim.masters.filter (fun m => m.port != d.tim.ptpPort)) d := by
    rw [mastersGone, hany]
    rfl
  obtain ⟨htim, -, -⟩ := selectMaster_some hb d
  have hne : (mastersGone d.tim.ptpPort d).tim.masters.isEmpty = false := by
    rw [hgone, htim]
    dsimp only
    rw [List.isEmpty_eq_false_iff]
    intro hnil
    rw [hnil] at hb
    cases hb
  rw [announceTimeoutFx, if_neg (by simp [hm])]
  dsimp only
  rw [if_neg (by simp [hne]), hgone, htim]

/-- Where no master is heard on the other port, time is lost (R50, R70). -/
theorem announceTimeoutFx_loses {d : Device} (hm : measures d .ptp = true)
    (hport : ∀ m ∈ d.tim.masters, m.port = d.tim.ptpPort) :
    announceTimeoutFx d = timeLost 0 none { d with tim := { d.tim with masters := [] } } := by
  have hgone : mastersGone d.tim.ptpPort d = { d with tim := { d.tim with masters := [] } } := by
    unfold mastersGone
    split
    · have hnil : d.tim.masters.filter (fun m => m.port != d.tim.ptpPort) = [] := by
        rw [List.filter_eq_nil_iff]
        intro m hm
        simp [hport m hm]
      rw [hnil]
      rfl
    · next h =>
      have hnil : d.tim.masters = [] := by
        cases hms : d.tim.masters with
        | nil => rfl
        | cons m ms =>
          rw [hms] at h hport
          simp [hport m List.mem_cons_self] at h
      rw [← hnil]
  rw [announceTimeoutFx, if_neg (by simp [hm])]
  dsimp only
  rw [hgone]
  rfl

/-- Of one announce heard on both ports the one on IG0 is best (R50). -/
theorem bestMaster_ig0 (a : Announce) (ms : List Master) (h : ∀ m ∈ ms, m.ann = a ∧ m.port = 1) :
    bestMaster (ms ++ [{ port := 0, ann := a }]) = some { port := 0, ann := a } := by
  induction ms with
  | nil => rfl
  | cons m ms ih =>
    obtain ⟨ha, hp⟩ := h m List.mem_cons_self
    have hfirst : masterFirst { port := 0, ann := a } m = true := by
      simp [masterFirst, ha, hp, listBefore]
    rw [List.cons_append, bestMaster, ih (fun x hx => h x (List.mem_cons_of_mem _ hx))]
    simp [hfirst]

/-- An announce of the domain taken, on a port that runs PTP (R50, R53): it joins the masters heard, and the best is chosen. -/
theorem ptpAnnounceFx_taken {rx : IngRx} {a : Announce} {s d : Device} (hin : (ingestIn rx s).1 = true) (hd : d = (ingestIn rx s).2)
    (hm : measures d .ptp = true) (hport : hasBit (d.field 0x301C 1 0) rx.port.val = true) (hon : d.pwr.state ≠ .standby) :
    (a.domain ≠ ptpDomain d → ptpAnnounceFx rx a s = d) ∧
    (a.domain = ptpDomain d → ptpAnnounceFx rx a s = setTime (fun t => if t.state = .free then t.enter .acquire else t)
      (selectMaster (d.tim.masters.filter (fun m => !(m.port == rx.port.val && m.ann.sender == a.sender)) ++
        [{ port := rx.port.val, ann := a }]) d)) := by
  unfold ptpAnnounceFx fromIngest
  dsimp only
  rw [hin, if_pos rfl, ← hd]
  refine ⟨fun hdom => if_pos ?_, fun hdom => if_neg ?_⟩
  · simp [bne_iff_ne.mpr hdom]
  · simp [hm, hport, hdom, hon]

theorem ptpAnnounce_does (rx : IngRx) (a : Announce) (s : State) (d : Device) (hin : (ingestIn rx s.dev).1 = true)
    (hd : d = (ingestIn rx s.dev).2) (hm : measures d .ptp = true) (hport : hasBit (d.field 0x301C 1 0) rx.port.val = true)
    (hon : d.pwr.state ≠ .standby) :
    (a.domain ≠ ptpDomain d → Does (.ptpAnnounce rx a) s (fun e => e = keepClk s.dev d)) ∧
    (a.domain = ptpDomain d → ∀ (ms : List Master) (best : Master),
      ms = d.tim.masters.filter (fun m => !(m.port == rx.port.val && m.ann.sender == a.sender)) ++ [{ port := rx.port.val, ann := a }] →
      bestMaster ms = some best →
      Does (.ptpAnnounce rx a) s (fun e => e.tim.masters = ms ∧ e.tim.gm = some best.ann.gm ∧ e.tim.ptpPort = best.port ∧
        (d.tim.state = .free → e.tim.state = .acquire) ∧ (d.tim.state ≠ .free → e.tim.state = d.tim.state) ∧
        (∀ o, d.tim.gm = some o → o ≠ best.ann.gm → Noticed d e 0x010A (leN 8 o.toNat ++ leN 8 best.ann.gm.toNat)) ∧
        (d.tim.gm = none → e.notes = d.notes) ∧ SameBut (.clk :: .tim :: reporting) d e ∧ e.clk = s.dev.clk)) := by
  obtain ⟨hother, hown⟩ := ptpAnnounceFx_taken (a := a) hin hd hm hport hon
  refine ⟨fun hdom => act_does (f := ptpAnnounceFx rx a) rfl (by rw [hother hdom]), fun hdom ms best hms hbest => ?_⟩
  refine act_does (f := ptpAnnounceFx rx a) rfl ?_
  rw [hown hdom, ← hms]
  obtain ⟨htim, hnoticed, hnotes⟩ := selectMaster_some hbest d
  have hmask := mask_selectMaster (ps := .tim :: reporting) rfl ms d
  generalize selectMaster ms d = e at htim hnoticed hnotes hmask ⊢
  have hsame : SameBut (.clk :: .tim :: reporting) d (keepClk s.dev (setTime (fun t => if t.state = .free then t.enter .acquire else t) e)) := by
    have hclk : blank (.clk :: .tim :: reporting) (keepClk s.dev (setTime (fun t => if t.state = .free then t.enter .acquire else t) e)) =
        blank (.clk :: .tim :: reporting) e := rfl
    refine sameBut_of_mask (hclk.trans ?_)
    exact mask_iff.mpr (sameBut_mono rfl (sameBut_of_mask hmask))
  have hfields : (if e.tim.state = .free then e.tim.enter .acquire else e.tim).masters = ms ∧
      (if e.tim.state = .free then e.tim.enter .acquire else e.tim).gm = some best.ann.gm ∧
      (if e.tim.state = .free then e.tim.enter .acquire else e.tim).ptpPort = best.port ∧
      (d.tim.state = .free → (if e.tim.state = .free then e.tim.enter .acquire else e.tim).state = .acquire) ∧
      (d.tim.state ≠ .free → (if e.tim.state = .free then e.tim.enter .acquire else e.tim).state = d.tim.state) := by
    rw [htim]
    dsimp only
    split
    · next h => exact ⟨rfl, rfl, rfl, fun _ => rfl, fun hne => absurd h hne⟩
    · next h => exact ⟨rfl, rfl, rfl, fun hf => absurd hf h, fun _ => rfl⟩
  obtain ⟨hmasters, hgm, hptp, hfree, hother⟩ := hfields
  exact ⟨hmasters, hgm, hptp, hfree, hother, hnoticed, hnotes, hsame, rfl⟩

/-! ### The obligation -/

theorem ptpAnnounceTimeout_takes (s : State) (best : Master) (hm : measures s.dev .ptp = true)
    (hport : ∃ m ∈ s.dev.tim.masters, m.port = s.dev.tim.ptpPort)
    (hb : bestMaster (s.dev.tim.masters.filter (fun m => m.port != s.dev.tim.ptpPort)) = some best) :
    Does .ptpAnnounceTimeout s (fun e => e.tim.masters = s.dev.tim.masters.filter (fun m => m.port != s.dev.tim.ptpPort) ∧
      e.tim.gm = some best.ann.gm ∧ e.tim.ptpPort = best.port ∧ e.tim.state = s.dev.tim.state ∧ e.clk = s.dev.clk) := by
  refine act_does (f := announceTimeoutFx) rfl ?_
  rw [keepClk_tim, announceTimeoutFx_takes hm hport hb]
  exact ⟨rfl, rfl, rfl, rfl, rfl⟩

theorem ptpAnnounceTimeout_loses (s : State) (hm : measures s.dev .ptp = true)
    (hport : ∀ m ∈ s.dev.tim.masters, m.port = s.dev.tim.ptpPort) :
    (s.dev.tim.state = .locked → Does .ptpAnnounceTimeout s (fun e => e.tim.state = .holdover ∧ e.tim.rate = meanRate s.dev ∧
      e.tim.masters = [] ∧ e.tim.gm = s.dev.tim.gm)) ∧
    (s.dev.tim.state = .acquire → Does .ptpAnnounceTimeout s (fun e => e.tim.state = .free ∧ e.tim.masters = [] ∧
      e.tim.gm = s.dev.tim.gm)) := by
  refine ⟨fun hs => ?_, fun hs => ?_⟩
  · refine act_does (f := announceTimeoutFx) rfl ?_
    obtain ⟨hstate, hrate, -, hmasters, hgm⟩ := enterHoldover_tim 0 none { s.dev with tim := { s.dev.tim with masters := [] } }
    rw [keepClk_tim, announceTimeoutFx_loses hm hport,
      timeLost_holds (d := { s.dev with tim := { s.dev.tim with masters := [] } }) (.inr (.inl hs))]
    exact ⟨hstate, hrate, hmasters, hgm⟩
  · refine act_does (f := announceTimeoutFx) rfl ?_
    rw [keepClk_tim, announceTimeoutFx_loses hm hport, timeLost_free (d := { s.dev with tim := { s.dev.tim with masters := [] } }) hs]
    exact ⟨rfl, rfl, rfl⟩

theorem syncEdgeMissing_does (s : State) (hm : measures s.dev .sync = true) :
    (s.dev.tim.edgesMissed ≠ 2 → Does .syncEdgeMissing s (fun e => e.tim = { s.dev.tim with edgesMissed := s.dev.tim.edgesMissed + 1 } ∧
      SameBut [.tim] s.dev e)) ∧
    (s.dev.tim.edgesMissed = 2 → s.dev.tim.state = .locked → Does .syncEdgeMissing s (fun e => e.tim.state = .holdover)) := by
  refine ⟨fun hn => ?_, fun hn hs => ?_⟩
  · refine act_does (f := syncMissingFx) rfl ?_
    rw [syncMissingFx, if_neg (by simp [hm])]
    dsimp only
    rw [if_neg (by omega)]
    exact ⟨rfl, sameBut_of_mask rfl⟩
  · refine act_does (f := syncMissingFx) rfl ?_
    rw [syncMissingFx, if_neg (by simp [hm])]
    dsimp only
    rw [if_pos (by omega), keepClk_tim,
      timeLost_holds (d := setTime (fun t => { t with edgesMissed := s.dev.tim.edgesMissed + 1 }) s.dev) (.inr (.inl hs))]
    exact (enterHoldover_tim _ _ _).1

/-- Settles O21: what a loss leaves of the time base, and what an announce, a label or an edge gives it. -/
theorem referencesLostAndFound : Obligations.ReferencesLostAndFound := by
  refine ⟨⟨timeDirectionLost_does, fun s hh hs => timeHoldover_holds hh hs, fun s hh hs => timeHoldover_free hh hs,
    ptpAnnounceTimeout_takes, ptpAnnounceTimeout_loses, syncEdgeMissing_does, fun s hh hltc => ?_, fun s hh hlost => ?_⟩,
    ptpAnnounce_does, fun a ms h hne => ?_, fun l s hh hen => ?_, fun hz s hh => ?_⟩
  · refine act_does rfl ?_
    rw [if_pos (by simp [hh, hltc]), keepClk_tim, raise_tim]
    exact ⟨rfl, noticed_raise (by rfl) _ _⟩
  · refine act_does rfl ?_
    rw [if_pos (by simp [hh, hlost]), keepClk_tim, raise_tim]
    exact ⟨rfl, noticed_raise (by rfl) _ _⟩
  · rw [bestMaster_ig0 a ms h]
    rfl
  · refine act_does rfl ?_
    rw [if_pos (by simp [hh, hen])]
    exact ⟨rfl, sameBut_of_mask rfl⟩
  · refine act_does (f := wclkEdgeFx hz) rfl ?_
    rw [wclkEdgeFx, if_neg (by simp [hh])]
    exact ⟨rfl, rfl, fun hlost => if_neg (by simp [hlost]), sameBut_of_mask rfl⟩

end Sys2Proof.Proofs
end

/-! ## Sys2Proof/Proofs/Settle: what the work at a cut-off line leaves of completions and of the time state -/

section

namespace Sys2Proof.Proofs

open Machine Laws

/-! ### Completions stay -/

theorem comps_of_completed {d e : Device} {op : Nat} {c : Cmd} {status : Nat} {effect : Option RP} {result : List Byte}
    (h : Completed d e op c status effect result) : d.comps ⊆ e.comps := by
  rw [h]
  exact List.subset_append_left _ _

theorem comps_subset_refuse {d e : Device} (h : e.comps = d.comps) (op : Nat) (c : Cmd) (status : Nat) (reason : List Byte) :
    d.comps ⊆ (refuse op c status reason e).comps := h ▸ comps_of_completed (refuse_completed op c status reason e)

theorem comps_subset_finish {d e : Device} (h : e.comps = d.comps) (op : Nat) (c : Cmd) (effect : RP) (result : List Byte) :
    d.comps ⊆ (finish op c effect result e).comps := h ▸ comps_of_completed (finish_completed op c effect result e)

theorem comps_subset_finishAt {d e : Device} (h : e.comps = d.comps) (op : Nat) (c : Cmd) (f : BitVec 32) :
    d.comps ⊆ (finishAt op c f e).comps := comps_subset_finish h op c (RP.start f) []

theorem comps_corrChanged (d : Device) : (corrChanged d).comps = d.comps :=
  comps_of_mask (ps := others .comps) (mask_corrChanged rfl d) rfl

theorem comps_subset_foldl {α : Type} {f : Device → α → Device} (hf : ∀ d a, d.comps ⊆ (f d a).comps) (l : List α) (d : Device) :
    d.comps ⊆ (l.foldl f d).comps := by
  induction l generalizing d with
  | nil => exact fun _ h => h
  | cons a l ih => exact List.Subset.trans (hf d a) (ih (f d a))

section
variable (f : BitVec 32) (c : Cmd) (d : Device)

theorem comps_layersFor : (layersFor f d).comps = d.comps := comps_of_mask (ps := others .comps) (mask_layersFor rfl f d) rfl

theorem comps_subset_lutLoadFx : d.comps ⊆ (lutLoadFx f c d).comps := by
  unfold lutLoadFx
  extract_lets l ch e
  have he : e.comps = d.comps := comps_layersFor f d
  split
  · exact comps_subset_refuse he _ _ _ _
  · split
    · exact comps_subset_refuse he _ _ _ _
    · split
      · split
        · exact comps_subset_refuse he _ _ _ _
        · refine comps_subset_finishAt ?_ _ _ _
          exact he
      · exact comps_subset_refuse he _ _ _ _
      · exact comps_subset_refuse he _ _ _ _

theorem comps_subset_scalerLoadFx : d.comps ⊆ (scalerLoadFx f c d).comps := by
  unfold scalerLoadFx
  extract_lets l e
  have he : e.comps = d.comps := comps_layersFor f d
  split
  · exact comps_subset_refuse he _ _ _ _
  · split
    · exact comps_subset_refuse he _ _ _ _
    · split
      · dsimp only
        split
        · exact comps_subset_refuse he _ _ _ _
        · refine comps_subset_finishAt ?_ _ _ _
          exact he
      · exact comps_subset_refuse he _ _ _ _
      · exact comps_subset_refuse he _ _ _ _

theorem comps_subset_ccmLoadFx (adm : Option Nat) (was : NodeRecord) : d.comps ⊆ (ccmLoadFx f adm was c d).comps := by
  unfold ccmLoadFx
  extract_lets n fits e
  have he : e.comps = d.comps := comps_of_mask (ps := others .comps) (mask_unstage rfl adm d) rfl
  clear_value e
  split
  · exact comps_subset_refuse he _ _ _ _
  · split
    · exact comps_subset_refuse he _ _ _ _
    · split
      · exact comps_subset_refuse he _ _ _ _
      · split
        · split
          · exact comps_subset_refuse he _ _ _ _
          · refine comps_subset_finishAt ?_ _ _ _
            rw [comps_corrChanged]
            exact he
        · exact comps_subset_refuse he _ _ _ _
        · exact comps_subset_refuse he _ _ _ _

theorem comps_subset_encLutFx : d.comps ⊆ (encLutFx f c d).comps := by
  unfold encLutFx
  extract_lets ch
  split
  · exact comps_subset_refuse rfl _ _ _ _
  · split
    · exact comps_subset_refuse rfl _ _ _ _
    · split
      · split
        · exact comps_subset_refuse rfl _ _ _ _
        · refine comps_subset_finishAt ?_ _ _ _
          rw [comps_corrChanged]
          rfl
      · exact comps_subset_refuse rfl _ _ _ _
      · exact comps_subset_refuse rfl _ _ _ _

theorem comps_subset_runDisplay (e : Entry) : d.comps ⊆ (runDisplay f e d).comps := by
  unfold runDisplay
  extract_lets c
  split
  · exact comps_subset_lutLoadFx f c d
  · split
    · exact comps_subset_scalerLoadFx f c d
    · split
      · exact comps_subset_ccmLoadFx f c d _ _
      · exact comps_subset_encLutFx f c d

theorem comps_subset_layerSetTurn (why : Option Nat) : d.comps ⊆ (layerSetTurn f why c d).comps := by
  unfold layerSetTurn
  split
  · exact comps_subset_refuse rfl _ _ _ _
  · exact comps_subset_refuse rfl _ _ _ _
  · exact comps_subset_refuse rfl _ _ _ _
  · refine comps_subset_finishAt ?_ _ _ _
    rfl
  · exact comps_subset_refuse rfl _ _ _ _

theorem comps_subset_commitDisplay : d.comps ⊆ (commitDisplay f d).comps := by
  unfold commitDisplay
  extract_lets es e why
  have he : e.comps = d.comps :=
    (comps_layersFor f _).trans (comps_of_mask (ps := others .comps) (mask_dropEntries rfl es d) rfl)
  clear_value e
  rw [← he]
  refine comps_subset_foldl (fun d x => ?_) es e
  split
  · exact comps_subset_layerSetTurn f x.cmd d why
  · exact comps_subset_runDisplay f d x

theorem comps_lateNote (g : Graph) : (lateNote g d).comps = d.comps := by
  have hbump : ∀ (l : List Nat) (d : Device), (l.foldl (fun d i => d.bump (0x3820 + 4 * i) 1) d).comps = d.comps := by
    intro l
    induction l with
    | nil => exact fun _ => rfl
    | cons i l ih => exact fun d => (ih _).trans rfl
  unfold lateNote
  extract_lets late done e e'
  have he : e'.comps = d.comps := hbump late e
  clear_value e'
  unfold when
  split
  · rw [report_comps, he]
  · exact he

theorem comps_buildGraph : (buildGraph f d).comps = d.comps := by
  unfold buildGraph
  extract_lets n e
  have he : e.comps = d.comps := rfl
  split
  · rfl
  · rw [comps_lateNote]
    exact comps_of_mask (ps := others .comps) (mask_lineBuf rfl _ _ _) rfl

theorem comps_subset_cutoffWork : d.comps ⊆ (cutoffWork f d).comps := by
  unfold cutoffWork
  extract_lets e1 e2 e3
  have h1 : e1.comps = d.comps :=
    (comps_layersFor f _).trans (comps_of_mask (ps := others .comps) (mask_staleGraph rfl d) rfl)
  have h2 : e2.comps = (commitDisplay f e1).comps := comps_buildGraph f _
  have h3 : e3.comps = e2.comps :=
    (comps_of_mask (ps := others .comps) (mask_loadBegin rfl f _) rfl).trans
      (comps_of_mask (ps := others .comps) (mask_ingestCutoff rfl f _) rfl)
  rw [← h1]
  refine List.Subset.trans (comps_subset_commitDisplay f e1) ?_
  rw [← h2, ← h3]
  clear_value e3
  exact fun _ h => h

end

/-! ### The time state stays -/

theorem tim_releaseTo (n : Nat) (d : Device) : (releaseTo n d).tim = d.tim :=
  tim_of_mask (ps := others .tim) (mask_releaseTo rfl n d) rfl

/-- What a graph cut off does after its errors are fetched leaves the time base. -/
theorem tim_cutRest (k total : Nat) (h : Pixel → Pixel) (d : Device) :
    (finishIf true (releaseTo total (setPxl h (releaseTo k d)))).tim = d.tim := by
  rw [tim_of_mask (ps := others .tim) (mask_finishIf rfl true _) rfl, tim_releaseTo, ← tim_releaseTo k d]
  rfl

theorem state_cutGraph (d : Device) : (cutGraph d).tim.state = d.tim.state := by
  unfold cutGraph
  split
  · next g _ =>
    dsimp only
    rw [tim_cutRest]
    cases g.computed
    · simp only [Bool.false_eq_true, if_false]
      rw [tim_of_mask (ps := others .tim) (mask_fetchErrors rfl _ _) rfl]
      rfl
    · rfl
  · rfl

theorem state_staleGraph (d : Device) : (staleGraph d).tim.state = d.tim.state := by
  unfold staleGraph
  split
  · unfold when
    split
    · exact state_cutGraph d
    · rfl
  · rfl

theorem state_settleLoad (d : Device) : (settleLoad d).tim.state = d.tim.state := by
  have hfold : ∀ (l : Load) (ps : List LoadPos) (x : Device × List LoadPos), (ps.foldl (fun (x : Device × List LoadPos) p =>
      ((freeNext x.1).2, x.2 ++ [posNow x.1 l (freeNext x.1).1 p])) x).1.tim.state = x.1.tim.state := by
    intro l ps
    induction ps with
    | nil => exact fun _ => rfl
    | cons p ps ih => exact fun x => (ih _).trans rfl
  unfold settleLoad
  split
  · next l _ => exact hfold l l.pos (d, [])
  · rfl

theorem state_loadBegin (f : BitVec 32) (d : Device) : (loadBegin f d).tim.state = d.tim.state := by
  unfold loadBegin
  split
  · rfl
  · extract_lets e e' l
    have he : e.tim.state = d.tim.state := state_settleLoad d
    refine Eq.trans (b := e'.tim.state) rfl (Eq.trans ?_ he)
    simp only [e']
    split
    · split
      · split <;> rfl
      · rw [tim_of_mask (ps := others .tim) (mask_lateSwap rfl _ _ _) rfl]
        rfl
    · rfl

theorem tim_ingestCutoff (f : BitVec 32) (d : Device) : (ingestCutoff f d).tim = d.tim :=
  tim_of_mask (ps := others .tim) (mask_ingestCutoff rfl f d) rfl

theorem state_cutoffWork (f : BitVec 32) (d : Device) : (cutoffWork f d).tim.state = d.tim.state := by
  unfold cutoffWork
  extract_lets e1 e2 e3
  have h1 : e1.tim.state = d.tim.state :=
    (congrArg Time.state (tim_of_mask (ps := others .tim) (mask_layersFor rfl f _) rfl)).trans (state_staleGraph d)
  have h2 : e2.tim = e1.tim := (tim_of_mask (ps := others .tim) (mask_buildGraph rfl f _) rfl).trans
    (tim_of_mask (ps := others .tim) (mask_commitDisplay rfl f e1) rfl)
  have he3 : e3 = loadBegin f (ingestCutoff f e2) := rfl
  clear_value e1 e2 e3
  have h3 : e3.tim.state = e2.tim.state := by
    rw [he3, state_loadBegin, tim_ingestCutoff]
  have h2' : e2.tim.state = e1.tim.state := by rw [h2]
  exact h3.trans (h2'.trans h1)

/-! ### After a step of the clock -/

theorem settle_same {was : RP} {d : Device} (h : d.clk.rp = was) : settle was d = d := by
  simp [settle, h, when]

/-- What is settled after the clock moved takes no completion away and leaves the time state. -/
theorem settle_keeps (was : RP) (d : Device) : d.comps ⊆ (settle was d).comps ∧ (settle was d).tim.state = d.tim.state := by
  unfold settle
  extract_lets e
  have he : e.comps = d.comps ∧ e.tim.state = d.tim.state := by
    simp only [e, when]
    split
    · rw [quiet, keepClk_comps, keepClk_tim]
      exact ⟨comps_of_mask (ps := others .comps) (mask_staleGraph rfl d) rfl, state_staleGraph d⟩
    · exact ⟨rfl, rfl⟩
  clear_value e
  rw [← he.1, ← he.2]
  unfold when
  split
  · rw [quiet, keepClk_comps, keepClk_tim]
    exact ⟨comps_subset_cutoffWork _ e, state_cutoffWork _ e⟩
  · exact ⟨fun _ h => h, rfl⟩

end Sys2Proof.Proofs
end

/-! ## Sys2Proof/Proofs/TimeOps: TIME_STEP_AUTHORISE, TIME_SET_THRESHOLD and TIME_QUERY (R60, R77, R78) -/

section

namespace Sys2Proof.Proofs

open Machine Laws

theorem reported_of_finished {d e f : Device} {op : Nat} {c : Cmd} {effect : RP} {result : List Byte}
    (h : Finished d e op c effect result) (hsub : e.comps ⊆ f.comps) : Reported f op c effect result := by
  refine hsub ?_
  rw [h]
  refine List.mem_append_right _ (List.mem_singleton.mpr ?_)
  cases c.late <;> rfl

/-! ### The step of R60 -/

/-- A step done: LOCKED, with the command that asked for it as it was (R60). -/
theorem stepDone_tim (off : Int) (was : RP) (d : Device) :
    (stepDone off was d).tim.state = .locked ∧ (stepDone off was d).tim.stepCmd = d.tim.stepCmd := by
  rw [stepDone, tim_of_mask (ps := others .tim) (mask_afterStep rfl _ _) rfl, raise_tim]
  exact ⟨rfl, rfl⟩

theorem makeStep_forward {off : Int} (h : 0 ≤ off) (d : Device) :
    (makeStep off d).tim.state = .locked ∧ (makeStep off d).clk = d.clk.shift off := by
  unfold makeStep
  extract_lets was here d1
  rw [if_pos h, quiet_clk, quiet, keepClk_tim, tim_of_mask (ps := others .tim) (mask_outStepped rfl _) rfl]
  exact ⟨(stepDone_tim _ _ _).1, if_pos h⟩

theorem makeStep_backward {off : Int} (h : off < 0) (d : Device) :
    (makeStep off d).tim.state = d.tim.state ∧ (makeStep off d).clk = d.clk.held (some (off / 65536).natAbs) ∧
      blank [.clk, .tim] (makeStep off d) = blank [.clk, .tim] d := by
  unfold makeStep
  extract_lets was here d1
  rw [if_neg (by omega)]
  have hclk : d1.clk = d.clk.held (some (off / 65536).natAbs) := if_neg (by omega)
  exact ⟨rfl, hclk, rfl⟩

/-- The condition of a step within its limit (R77). -/
def WithinLimit (c : Cmd) (d : Device) : Prop := opN c 0 4 = 0 ∨ d.tim.off16.natAbs ≤ opN c 0 4 * 65536

theorem not_beyond {c : Cmd} {d : Device} (h : WithinLimit c d) : ¬ (0 < opN c 0 4 ∧ opN c 0 4 * 65536 < d.tim.off16.natAbs) := by
  rcases h with h | h <;> omega

theorem stepHolds_iff {c : Cmd} {d : Device} (hs : d.tim.state = .refused) (hin : WithinLimit c d) :
    stepHolds c d = (stepNeedsPartner d && !(stepConfirmed d (dueRp c))) := by
  rcases hin with h | h <;> simp [stepHolds, hs, h]

section
variable {c : Cmd} {d : Device}

theorem timeStepFx_notRefused (h : d.tim.state ≠ .refused) : timeStepFx c d = quiet (refuse 1 c 6 []) d := by
  rw [timeStepFx, if_neg (by simp [stepHolds, h]), tryStep]
  exact if_pos h

theorem timeStepFx_beyond (hs : d.tim.state = .refused) (hpos : 0 < opN c 0 4) (hlim : opN c 0 4 * 65536 < d.tim.off16.natAbs) :
    timeStepFx c d = quiet (refuse 1 c 9 []) d := by
  have hne : opN c 0 4 ≠ 0 := by omega
  rw [timeStepFx, if_neg (by simp [stepHolds, hne, hlim]), tryStep]
  exact (if_neg (not_not.mpr hs)).trans (if_pos ⟨hpos, hlim⟩)

/-- A step made: forward at once, with its completion, or held back until the RP is let go (R60). -/
theorem timeStepFx_made (hs : d.tim.state = .refused) (hin : WithinLimit c d)
    (hgo : stepNeedsPartner d = false ∨ stepConfirmed d (dueRp c) = true) :
    timeStepFx c d = if 0 ≤ d.tim.off16 then quiet (finish 1 c d.clk.rp []) (makeStep d.tim.off16 d)
      else quiet (setTime (fun t => { t with stepCmd := some c })) (makeStep d.tim.off16 d) := by
  rw [timeStepFx, if_neg (by rw [stepHolds_iff hs hin]; rcases hgo with h | h <;> simp [h]), tryStep]
  exact (if_neg (not_not.mpr hs)).trans (if_neg (not_beyond hin))

theorem timeStepFx_waits (hs : d.tim.state = .refused) (hin : WithinLimit c d) (hneed : stepNeedsPartner d = true)
    (hconf : stepConfirmed d (dueRp c) = false) : timeStepFx c d =
      quiet (fun d => place 1 c d.sched.adm (RP.start (d.clk.rp.frame + 1)) (dueRp c) true
        { d with sched := { d.sched with adm := d.sched.adm + 1 } }) d := by
  rw [timeStepFx, if_pos (by simp [stepHolds_iff hs hin, hneed, hconf])]

end

/-! ### The commands -/

section
variable {c : Cmd} {s : State}

theorem timeStepAuthorise_does {p : Device → Prop} (hp : p (settle s.dev.clk.rp (timeStepFx c s.dev))) :
    Does (.timeStepAuthorise c) s p :=
  clocked_does (f := fun d => settle d.clk.rp (timeStepFx c d)) rfl hp

theorem timeStepAuthorise_refuses {status : Nat} (h : timeStepFx c s.dev = quiet (refuse 1 c status []) s.dev) :
    Does (.timeStepAuthorise c) s (fun e => Completed s.dev e 1 c status none [] ∧ e.clk = s.dev.clk ∧
      e.tim.state = s.dev.tim.state) := by
  refine timeStepAuthorise_does ?_
  rw [h, settle_same (by rw [quiet_clk])]
  refine ⟨?_, quiet_clk _ _, ?_⟩
  · rw [Completed, quiet, keepClk_comps]
    exact refuse_completed 1 c status [] s.dev
  · rw [quiet, keepClk_tim, refuse_tim]

theorem timeStepAuthorise_forward (hs : s.dev.tim.state = .refused) (hin : WithinLimit c s.dev)
    (hgo : stepNeedsPartner s.dev = false ∨ stepConfirmed s.dev (dueRp c) = true) (h : 0 ≤ s.dev.tim.off16) :
    Does (.timeStepAuthorise c) s (fun e => e.tim.state = .locked ∧ e.clk = s.dev.clk.shift s.dev.tim.off16 ∧
      Reported e 1 c s.dev.clk.rp []) := by
  refine timeStepAuthorise_does ?_
  rw [timeStepFx_made hs hin hgo, if_pos h]
  obtain ⟨hstate, hclk⟩ := makeStep_forward h s.dev
  obtain ⟨hcomps, hsettled⟩ := settle_keeps s.dev.clk.rp (quiet (finish 1 c s.dev.clk.rp []) (makeStep s.dev.tim.off16 s.dev))
  generalize makeStep s.dev.tim.off16 s.dev = e at hstate hclk hcomps hsettled ⊢
  refine ⟨?_, ?_, ?_⟩
  · rw [hsettled, quiet, keepClk_tim, finish_tim, hstate]
  · rw [settle_clk, quiet_clk, hclk]
  · refine reported_of_finished (d := e) (e := quiet (finish 1 c s.dev.clk.rp []) e) ?_ hcomps
    rw [Finished, Completed, quiet, keepClk_comps]
    exact finish_completed 1 c s.dev.clk.rp [] e

theorem timeStepAuthorise_backward (hs : s.dev.tim.state = .refused) (hin : WithinLimit c s.dev)
    (hgo : stepNeedsPartner s.dev = false ∨ stepConfirmed s.dev (dueRp c) = true) (h : s.dev.tim.off16 < 0) :
    Does (.timeStepAuthorise c) s (fun e => e.tim.stepCmd = some c ∧
      e.clk = s.dev.clk.held (some (s.dev.tim.off16 / 65536).natAbs) ∧ e.tim.state = .refused ∧ SameBut [.clk, .tim] s.dev e) := by
  refine timeStepAuthorise_does ?_
  obtain ⟨hstate, hclk, hmask⟩ := makeStep_backward h s.dev
  rw [timeStepFx_made hs hin hgo, if_neg (by omega)]
  generalize makeStep s.dev.tim.off16 s.dev = e at hstate hclk hmask ⊢
  rw [settle_same (by rw [quiet_clk, hclk]; rfl)]
  exact ⟨rfl, (quiet_clk _ _).trans hclk, hstate.trans hs, sameBut_of_mask hmask⟩

theorem timeStepAuthorise_waits (hs : s.dev.tim.state = .refused) (hin : WithinLimit c s.dev)
    (hneed : stepNeedsPartner s.dev = true) (hconf : stepConfirmed s.dev (dueRp c) = false) :
    Does (.timeStepAuthorise c) s (fun e =>
      e.sched.entries = s.dev.sched.entries ++
        [{ op := 1, cmd := c, adm := s.dev.sched.adm, point := RP.start (s.dev.clk.rp.frame + 1), due := dueRp c, judged := true }] ∧
      SameBut (.sched :: reporting) s.dev e) := by
  refine timeStepAuthorise_does ?_
  rw [timeStepFx_waits hs hin hneed hconf, settle_same (by rw [quiet_clk])]
  refine ⟨?_, sameBut_of_mask (mask_quiet ?_)⟩
  · rw [quiet, keepClk_sched, place, schedSample_entries]
    rfl
  · rw [mask_place rfl]
    rfl

end

theorem backwardStepResume_resumes {s : State} {n : Nat} (h : s.dev.clk.hold = some n) :
    Does .backwardStepResume s (fun e => e.tim.state = .locked ∧ e.clk = s.dev.clk.held none ∧
      ∀ x, s.dev.tim.stepCmd = some x → Reported e 1 x s.dev.clk.rp []) := by
  refine clocked_does (f := fun d => settle d.clk.rp (resumeFx d)) rfl ?_
  unfold resumeFx
  rw [h]
  extract_lets was d1
  have hd1 : d1.clk = s.dev.clk.held none ∧ d1.tim.stepCmd = s.dev.tim.stepCmd := ⟨rfl, rfl⟩
  clear_value was d1
  rw [settle_same (by rw [quiet_clk, hd1.1]; rfl), quiet_clk, hd1.1, Clock.held, quiet, keepClk_tim]
  dsimp only
  obtain ⟨hstate, hcmd⟩ := stepDone_tim d1.tim.stepDelta was (marksMoved (d1.clk.raster.subOf d1.tim.stepDelta) d1)
  have hclk : (stepDone d1.tim.stepDelta was (marksMoved (d1.clk.raster.subOf d1.tim.stepDelta) d1)).clk = d1.clk :=
    clk_of_mask (ps := others .clk) ((mask_stepDone rfl _ _ _).trans (mask_marksMoved rfl _ _)) rfl
  have hmoved : (marksMoved (d1.clk.raster.subOf d1.tim.stepDelta) d1).tim.stepCmd = d1.tim.stepCmd := rfl
  rw [hmoved, hd1.2] at hcmd
  generalize stepDone d1.tim.stepDelta was (marksMoved (d1.clk.raster.subOf d1.tim.stepDelta) d1) = e at hstate hcmd hclk ⊢
  rw [hcmd]
  refine ⟨?_, rfl, fun x hx => ?_⟩
  · split
    · rw [finish_tim]
      exact hstate
    · exact hstate
  · have hrp : e.clk.rp = s.dev.clk.rp := by rw [hclk, hd1.1]; rfl
    rw [hx, Reported, keepClk_comps]
    dsimp only
    rw [hrp]
    exact reported_of_finished (finish_completed 1 x s.dev.clk.rp [] _) (fun _ h => h)

/-- Settles O22: each opcode by the state and the operand it names. -/
theorem timeOpcodes : Obligations.TimeOpcodes := by
  refine ⟨fun op due hop => ?_, fun c s => ⟨fun h => timeStepAuthorise_refuses (timeStepFx_notRefused h), fun hs hpos hlim => ?_,
    fun hs hin => ⟨fun hgo => ⟨fun h => timeStepAuthorise_forward hs hin hgo h, fun h => timeStepAuthorise_backward hs hin hgo h⟩,
      fun hneed hconf => timeStepAuthorise_waits hs hin hneed hconf⟩, fun n h => backwardStepResume_resumes h, fun h => ?_,
    fun hlo hhi => ?_, fun hbad => ?_, ?_⟩⟩
  · rcases hop with rfl | rfl | rfl <;> rfl
  · exact does_mono (timeStepAuthorise_refuses (timeStepFx_beyond hs hpos hlim)) (fun e ⟨hc, hclk, hst⟩ => ⟨hc, hclk, hst.trans hs⟩)
  · have hfx : resumeFx s.dev = s.dev := by rw [resumeFx, h]
    refine clocked_does (f := fun d => settle d.clk.rp (resumeFx d)) rfl ?_
    rw [hfx, settle_same rfl]
  · refine act_does (f := timeThresholdFx c) rfl ?_
    rw [timeThresholdFx]
    dsimp only
    rw [if_neg (by omega), keepClk_tim, keepClk_regs, finish_tim, finish_regs, Finished, Completed, keepClk_comps]
    refine ⟨rfl, rfl, finish_completed 2 c _ [] _, sameBut_keepClk ?_⟩
    rw [mask_finish rfl]
    rfl
  · refine does_refuse (f := timeThresholdFx c) rfl ?_
    exact if_pos hbad
  · exact does_finish (f := timeQueryFx c) rfl (by simp only [timeQueryFx, timeResult, RP.bytes, RP.ls, List.append_assoc])

end Sys2Proof.Proofs
end

/-! ## Sys2Proof/Proofs/Cancels: SCHED_CANCEL, NOP and SHUTTER_SET (R104, R105, R398) -/

section

namespace Sys2Proof.Proofs

open Machine Laws

/-! ### Completions in a row -/

/-- The completion of a command refused. -/
def refused (op : BitVec 8) (c : Cmd) (status : BitVec 8) : Completion :=
  { opcode := op, status := status, tag := c.tag, effect := none, result := [], seqWord := c.seqWord, position := c.position }

/-- Commands completed in a row: the completions stand in their order. -/
theorem foldl_complete_comps {α : Type} (op : α → Nat) (cmd : α → Cmd) (status : Nat) (l : List α) (d : Device) :
    (l.foldl (fun d x => complete (op x) (cmd x) status none [] d) d).comps =
      d.comps ++ l.map (fun x => refused (BitVec.ofNat 8 (op x)) (cmd x) (BitVec.ofNat 8 status)) := by
  induction l generalizing d with
  | nil => exact (List.append_nil _).symm
  | cons x l ih =>
    rw [List.foldl_cons, ih, complete_comps, List.append_assoc]
    rfl

theorem foldl_complete_of {α β : Type} {g : Device → β} (hg : ∀ (op : Nat) (c : Cmd) (status : Nat) d, g (complete op c status none [] d) = g d)
    (op : α → Nat) (cmd : α → Cmd) (status : Nat) (l : List α) (d : Device) :
    g (l.foldl (fun d x => complete (op x) (cmd x) status none [] d) d) = g d := by
  induction l generalizing d with
  | nil => rfl
  | cons x l ih => exact (ih _).trans (hg _ _ _ _)

theorem schedSample_comps (d : Device) : (schedSample d).comps = d.comps :=
  comps_of_mask (ps := others .comps) (mask_schedSample rfl d) rfl

/-! ### What is cancelled -/

theorem syncRoll_entries (d : Device) : (syncRoll d).sched.entries = d.sched.entries := rfl

theorem syncRoll_comps (d : Device) : (syncRoll d).comps = d.comps := rfl

theorem tidyStaging_sched (d : Device) : (tidyStaging d).sched = d.sched := rfl

theorem tidyStaging_comps (d : Device) : (tidyStaging d).comps = d.comps := rfl

theorem foldl_complete_sched {α : Type} (op : α → Nat) (cmd : α → Cmd) (status : Nat) (l : List α) (d : Device) :
    (l.foldl (fun d x => complete (op x) (cmd x) status none [] d) d).sched = d.sched :=
  foldl_complete_of (g := Device.sched) (fun _ _ _ _ => complete_sched _ _ _ _ _ _) op cmd status l d

theorem cancelWhere_entries (p : Entry → Bool) (d : Device) :
    (cancelWhere p d).sched.entries = d.sched.entries.filter (fun e => !(p e)) := by
  rw [cancelWhere, syncRoll_entries, foldl_complete_sched (fun e : Entry => e.op.toNat) (fun e => e.cmd), tidyStaging_sched,
    schedSample_entries]

theorem cancelWhere_comps (p : Entry → Bool) (d : Device) :
    (cancelWhere p d).comps = d.comps ++ (d.sched.entries.filter p).map (fun e => refused e.op e.cmd 3) := by
  rw [cancelWhere, syncRoll_comps, foldl_complete_comps (fun e : Entry => e.op.toNat) (fun e => e.cmd), tidyStaging_comps,
    schedSample_comps]
  simp only [BitVec.ofNat_toNat, BitVec.setWidth_eq]
  rfl

theorem cancelWhere_part {p : Entry → Bool} {d : Device} :
    (cancelWhere p d).sec = d.sec ∧ (cancelWhere p d).pwr = d.pwr ∧ (cancelWhere p d).topo = d.topo ∧ (cancelWhere p d).clk = d.clk :=
  ⟨sec_of_mask (ps := others .sec) (mask_cancelWhere rfl p d) rfl, pwr_of_mask (ps := others .pwr) (mask_cancelWhere rfl p d) rfl,
    topo_of_mask (ps := others .topo) (mask_cancelWhere rfl p d) rfl, clk_of_mask (ps := others .clk) (mask_cancelWhere rfl p d) rfl⟩

theorem withdrawMap_comps (d : Device) : (withdrawMap d).comps = d.comps :=
  comps_of_mask (ps := others .comps) (mask_withdrawMap rfl d) rfl

/-- The commands cancelled outside the schedule, in the order they complete in. -/
def elsewhere (p : Cmd → Bool) (d : Device) : List Completion :=
  ((d.sec.heldKeys.filter (heldIs d p)).filterMap (fun k => k.cmd)).map (fun c => refused 0x80 c 3) ++
    (d.pwr.queued.filter (powerIs d p)).map (fun c => refused 0x88 c 3)

/-- The map load cancelled first, where it is (R104). -/
def mapWithdrawn (mapToo : Bool) (d : Device) : Device :=
  match d.topo.load with
  | some l => if mapToo then complete 0x1F l.cmd 3 none [] (withdrawMap d) else d
  | none => d

theorem cancelElsewhere_comps (p : Cmd → Bool) (mapToo : Bool) (d : Device) :
    (cancelElsewhere p mapToo d).comps = (mapWithdrawn mapToo d).comps ++ elsewhere p d := by
  unfold cancelElsewhere
  extract_lets keys powers d1 s2 d2 s3 d3 d4
  have h1 : d1 = mapWithdrawn mapToo d := rfl
  have h4 : d4.comps = d1.comps ++ (keys.filterMap (fun k => k.cmd)).map (fun c => refused 0x80 c 3) :=
    foldl_complete_comps (fun _ : Cmd => 0x80) (fun c => c) 3 _ d3
  rw [schedSample_comps, foldl_complete_comps (fun _ : Cmd => 0x88) (fun c => c), h4, List.append_assoc, h1]
  rfl

theorem mapWithdrawn_part (mapToo : Bool) (d : Device) : (mapWithdrawn mapToo d).sec = d.sec ∧ (mapWithdrawn mapToo d).pwr = d.pwr ∧
    (mapWithdrawn mapToo d).sched = d.sched := by
  unfold mapWithdrawn
  split
  · split
    · rw [complete_sec, complete_pwr, complete_sched]
      have h := mask_withdrawMap (ps := [.link, .topo, .flows, .sent]) rfl d
      exact ⟨sec_of_mask h rfl, pwr_of_mask h rfl, sched_of_mask h rfl⟩
    · exact ⟨rfl, rfl, rfl⟩
  · exact ⟨rfl, rfl, rfl⟩

/-- What is cancelled outside the schedule is gone from where it waited. -/
theorem cancelElsewhere_part (p : Cmd → Bool) (mapToo : Bool) (d : Device) :
    (cancelElsewhere p mapToo d).sec.heldKeys = d.sec.heldKeys.filter (fun k => !(heldIs d p k)) ∧
    (cancelElsewhere p mapToo d).pwr.queued = d.pwr.queued.filter (fun c => !(powerIs d p c)) ∧
    (cancelElsewhere p mapToo d).sched.entries = d.sched.entries ∧
    (cancelElsewhere p mapToo d).topo = (mapWithdrawn mapToo d).topo := by
  obtain ⟨hsec, hpwr, hsched⟩ := mapWithdrawn_part mapToo d
  unfold cancelElsewhere
  extract_lets keys powers d1 s2 d2 s3 d3 d4
  have h1 : d1 = mapWithdrawn mapToo d := rfl
  have h4 : d4.sec = d3.sec ∧ d4.pwr = d3.pwr ∧ d4.sched = d3.sched ∧ d4.topo = d3.topo := by
    refine ⟨?_, ?_, ?_, ?_⟩
    · exact foldl_complete_of (g := Device.sec) (fun _ _ _ _ => complete_sec _ _ _ _ _ _) (fun _ : Cmd => 0x80) (fun c => c) 3 _ d3
    · exact foldl_complete_of (g := Device.pwr) (fun _ _ _ _ => complete_pwr _ _ _ _ _ _) (fun _ : Cmd => 0x80) (fun c => c) 3 _ d3
    · exact foldl_complete_of (g := Device.sched) (fun _ _ _ _ => complete_sched _ _ _ _ _ _) (fun _ : Cmd => 0x80) (fun c => c) 3 _ d3
    · exact foldl_complete_of (g := Device.topo) (fun _ _ _ _ => complete_topo _ _ _ _ _ _) (fun _ : Cmd => 0x80) (fun c => c) 3 _ d3
  have h3 : d3.sec.heldKeys = d1.sec.heldKeys.filter (fun k => !(heldIs d p k)) ∧
      d3.pwr.queued = d1.pwr.queued.filter (fun c => !(powerIs d p c)) ∧ d3.sched = d1.sched ∧ d3.topo = d1.topo := ⟨rfl, rfl, rfl, rfl⟩
  clear_value d4 d3 d2 d1
  subst h1
  obtain ⟨hsec4, hpwr4, hsched4, htopo4⟩ := h4
  obtain ⟨hkeys3, hqueued3, hsched3, htopo3⟩ := h3
  have hfold : ∀ {α : Type} (g : Device → α), (∀ (op : Nat) (c : Cmd) (status : Nat) d, g (complete op c status none [] d) = g d) →
      g (powers.foldl (fun d c => complete 0x88 c 3 none [] d) d4) = g d4 := fun g hg =>
    foldl_complete_of (g := g) hg (fun _ : Cmd => 0x88) (fun c => c) 3 powers d4
  have hsample : ∀ e : Device, (schedSample e).sec = e.sec ∧ (schedSample e).pwr = e.pwr ∧ (schedSample e).topo = e.topo := by
    intro e
    have h := mask_schedSample (ps := .sched :: reporting) rfl e
    exact ⟨sec_of_mask h rfl, pwr_of_mask h rfl, topo_of_mask h rfl⟩
  obtain ⟨hss, hsp, hst⟩ := hsample (powers.foldl (fun d c => complete 0x88 c 3 none [] d) d4)
  rw [hss, hsp, hst, schedSample_entries, hfold Device.sec (fun _ _ _ _ => complete_sec _ _ _ _ _ _),
    hfold Device.pwr (fun _ _ _ _ => complete_pwr _ _ _ _ _ _), hfold Device.sched (fun _ _ _ _ => complete_sched _ _ _ _ _ _),
    hfold Device.topo (fun _ _ _ _ => complete_topo _ _ _ _ _ _), hsec4, hpwr4, hsched4, htopo4, hkeys3, hqueued3, hsched3,
    htopo3, hsec, hpwr, hsched]
  exact ⟨rfl, rfl, rfl, rfl⟩

/-! ### SCHED_CANCEL -/

/-- The device once everything a SCHED_CANCEL names is gone. -/
def cancelled (c : Cmd) (d : Device) : Device :=
  cancelWhere (cancelHit (BitVec.ofNat 32 (opN c 0 4)) c.position d)
    (cancelElsewhere (cancellable (BitVec.ofNat 32 (opN c 0 4)) c.position) (cancelMap (BitVec.ofNat 32 (opN c 0 4)) c.position d) d)

/-- The number of commands a SCHED_CANCEL names. -/
def cancelCount (c : Cmd) (d : Device) : Nat :=
  (d.sched.entries.filter (cancelHit (BitVec.ofNat 32 (opN c 0 4)) c.position d)).length +
    bit (cancelMap (BitVec.ofNat 32 (opN c 0 4)) c.position d) +
    (d.sec.heldKeys.filter (heldIs d (cancellable (BitVec.ofNat 32 (opN c 0 4)) c.position))).length +
    (d.pwr.queued.filter (powerIs d (cancellable (BitVec.ofNat 32 (opN c 0 4)) c.position))).length

theorem schedCancelFx_eq (c : Cmd) (d : Device) : schedCancelFx c d = if cancelCount c d = 0 then refuse 4 c 7 [] (cancelled c d)
    else finish 4 c (cancelled c d).clk.rp (leN 2 (cancelCount c d)) (cancelled c d) := rfl

theorem cancelled_clk (c : Cmd) (d : Device) : (cancelled c d).clk = d.clk :=
  clk_of_mask (ps := others .clk) ((mask_cancelWhere rfl _ _).trans (mask_cancelElsewhere rfl _ _ _)) rfl

theorem schedCancelFx_clk (c : Cmd) (d : Device) : (schedCancelFx c d).clk = d.clk :=
  clk_of_mask (ps := others .clk) (mask_schedCancelFx rfl c d) rfl

theorem cancelled_comps (c : Cmd) (d : Device) : (cancelled c d).comps =
    ((mapWithdrawn (cancelMap (BitVec.ofNat 32 (opN c 0 4)) c.position d) d).comps ++
      elsewhere (cancellable (BitVec.ofNat 32 (opN c 0 4)) c.position) d) ++
      (d.sched.entries.filter (cancelHit (BitVec.ofNat 32 (opN c 0 4)) c.position d)).map (fun e => refused e.op e.cmd 3) := by
  rw [cancelled, cancelWhere_comps, cancelElsewhere_comps, (cancelElsewhere_part _ _ _).2.2.1]

theorem cancelled_part (c : Cmd) (d : Device) :
    (cancelled c d).sched.entries = d.sched.entries.filter (fun e => !(cancelHit (BitVec.ofNat 32 (opN c 0 4)) c.position d e)) ∧
    (cancelled c d).sec.heldKeys = d.sec.heldKeys.filter (fun k => !(heldIs d (cancellable (BitVec.ofNat 32 (opN c 0 4)) c.position) k)) ∧
    (cancelled c d).pwr.queued = d.pwr.queued.filter (fun x => !(powerIs d (cancellable (BitVec.ofNat 32 (opN c 0 4)) c.position) x)) ∧
    (cancelled c d).topo = (mapWithdrawn (cancelMap (BitVec.ofNat 32 (opN c 0 4)) c.position d) d).topo := by
  obtain ⟨hkeys, hqueued, hentries, htopo⟩ := cancelElsewhere_part (cancellable (BitVec.ofNat 32 (opN c 0 4)) c.position)
    (cancelMap (BitVec.ofNat 32 (opN c 0 4)) c.position d) d
  obtain ⟨hsec, hpwr, ht, -⟩ := cancelWhere_part (p := cancelHit (BitVec.ofNat 32 (opN c 0 4)) c.position d)
    (d := cancelElsewhere (cancellable (BitVec.ofNat 32 (opN c 0 4)) c.position)
      (cancelMap (BitVec.ofNat 32 (opN c 0 4)) c.position d) d)
  exact ⟨by rw [cancelled, cancelWhere_entries, hentries], by rw [cancelled, hsec, hkeys], by rw [cancelled, hpwr, hqueued],
    by rw [cancelled, ht, htopo]⟩

/-- With no map load waiting, none is cancelled. -/
theorem mapWithdrawn_none {mapToo : Bool} {d : Device} (h : d.topo.load = none) : mapWithdrawn mapToo d = d := by
  rw [mapWithdrawn, h]

theorem withdrawMap_load (d : Device) : (withdrawMap d).topo.load = none := by
  unfold withdrawMap
  extract_lets src e
  split
  · split
    · exact congrArg Topo.load (topo_of_mask (ps := others .topo) (mask_assignBound rfl _ _ e) rfl)
    · rfl
  · rfl

/-- With nothing to cancel, SCHED_CANCEL completes NOT_PENDING (R104). -/
theorem schedCancel_none {c : Cmd} {s : State} (h : cancelCount c s.dev = 0) (hload : s.dev.topo.load = none) :
    Does (.schedCancel c) s (fun e => e.sched.entries = s.dev.sched.entries ∧ Completed s.dev e 4 c 7 none []) := by
  have hes : s.dev.sched.entries.filter (cancelHit (BitVec.ofNat 32 (opN c 0 4)) c.position s.dev) = [] :=
    List.eq_nil_of_length_eq_zero (by rw [cancelCount] at h; omega)
  have hkeys : s.dev.sec.heldKeys.filter (heldIs s.dev (cancellable (BitVec.ofNat 32 (opN c 0 4)) c.position)) = [] :=
    List.eq_nil_of_length_eq_zero (by rw [cancelCount] at h; omega)
  have hpowers : s.dev.pwr.queued.filter (powerIs s.dev (cancellable (BitVec.ofNat 32 (opN c 0 4)) c.position)) = [] :=
    List.eq_nil_of_length_eq_zero (by rw [cancelCount] at h; omega)
  refine act_does_of_clk (f := schedCancelFx c) rfl (schedCancelFx_clk c s.dev) ?_
  rw [schedCancelFx_eq, if_pos h, refuse_sched, (cancelled_part c s.dev).1]
  refine ⟨?_, completed_refuse ?_ _ _ _ _⟩
  · rw [List.filter_eq_self]
    exact fun x hx => by simpa using List.filter_eq_nil_iff.mp hes x hx
  · rw [cancelled_comps, mapWithdrawn_none hload, hes, elsewhere, hkeys, hpowers]
    simp

/-- What SCHED_CANCEL names is gone and completed CANCELLED, then it completes with their number (R104). -/
theorem schedCancel_some {c : Cmd} {s : State} (h : cancelCount c s.dev ≠ 0) (hload : s.dev.topo.load = none) :
    Does (.schedCancel c) s (fun e =>
      e.sched.entries = s.dev.sched.entries.filter (fun x => !(cancelHit (BitVec.ofNat 32 (opN c 0 4)) c.position s.dev x)) ∧
      e.sec.heldKeys = s.dev.sec.heldKeys.filter (fun k => !(heldIs s.dev (cancellable (BitVec.ofNat 32 (opN c 0 4)) c.position) k)) ∧
      e.pwr.queued = s.dev.pwr.queued.filter (fun x => !(powerIs s.dev (cancellable (BitVec.ofNat 32 (opN c 0 4)) c.position) x)) ∧
      ∃ d, Finished d e 4 c s.dev.clk.rp (leN 2 (cancelCount c s.dev)) ∧
        d.comps = s.dev.comps ++ (elsewhere (cancellable (BitVec.ofNat 32 (opN c 0 4)) c.position) s.dev ++
          (s.dev.sched.entries.filter (cancelHit (BitVec.ofNat 32 (opN c 0 4)) c.position s.dev)).map
            (fun e => refused e.op e.cmd 3))) := by
  obtain ⟨hentries, hkeys, hqueued, -⟩ := cancelled_part c s.dev
  refine act_does_of_clk (f := schedCancelFx c) rfl (schedCancelFx_clk c s.dev) ?_
  rw [schedCancelFx_eq, if_neg h, finish_sched, finish_sec, finish_pwr, cancelled_clk]
  refine ⟨hentries, hkeys, hqueued, cancelled c s.dev, finish_completed _ _ _ _ _, ?_⟩
  rw [cancelled_comps, mapWithdrawn_none hload, List.append_assoc]

/-- A map load whose ASSIGNs are not sent is cancelled first (R28, R104). -/
theorem schedCancel_map {c : Cmd} {s : State} {l : MapLoad} (hload : s.dev.topo.load = some l)
    (htag : l.cmd.tag = BitVec.ofNat 32 (opN c 0 4)) (hpos : l.cmd.position ≠ c.position) (hsent : l.sent = false) :
    Does (.schedCancel c) s (fun e => e.topo.load = none ∧ ∃ d, Completed s.dev d 0x1F l.cmd 3 none [] ∧
      d.comps.isPrefixOf e.comps = true) := by
  have hmap : cancelMap (BitVec.ofNat 32 (opN c 0 4)) c.position s.dev = true := by
    simp [cancelMap, hload, cancellable, htag, hpos, hsent]
  have hdrawn : mapWithdrawn true s.dev = complete 0x1F l.cmd 3 none [] (withdrawMap s.dev) := by
    rw [mapWithdrawn, hload]
    rfl
  have hn : cancelCount c s.dev ≠ 0 := by
    rw [cancelCount, hmap, show bit true = 1 from rfl]
    omega
  refine act_does_of_clk (f := schedCancelFx c) rfl (schedCancelFx_clk c s.dev) ?_
  rw [schedCancelFx_eq, if_neg hn, finish_topo, (cancelled_part c s.dev).2.2.2, hmap, hdrawn, complete_topo]
  refine ⟨withdrawMap_load s.dev, complete 0x1F l.cmd 3 none [] (withdrawMap s.dev), ?_, ?_⟩
  · rw [Completed, complete_comps, withdrawMap_comps]
  · rw [List.isPrefixOf_iff_prefix, finish_completed, cancelled_comps, hmap, hdrawn]
    exact (List.prefix_append _ _).trans ((List.prefix_append _ _).trans (List.prefix_append _ _))

/-! ### SHUTTER_SET -/

/-- A shutter window set anew (R100). -/
def windowSet (c : Cmd) (d : Device) : Device :=
  { d with sched := { d.sched with shutters := modAt d.sched.shutters (opB c 0) (fun x =>
      { x with enabled := hasBit (opB c 1) 0, divisor := opB c 2, phase := opB c 3, openAt := opN c 4 4, closeAt := opN c 8 4 }) } }

theorem windowSet_shutters {c : Cmd} {d : Device} {x : Shutter} (hx : d.sched.shutters[opB c 0]? = some x) :
    (windowSet c d).sched.shutters = d.sched.shutters.set (opB c 0)
      { x with enabled := hasBit (opB c 1) 0, divisor := opB c 2, phase := opB c 3, openAt := opN c 4 4, closeAt := opN c 8 4 } := by
  simp only [windowSet, modAt, List.modify_eq_set_getElem?, hx]
  rfl

theorem shutterSetFx_good {c : Cmd} {d : Device} (h : ¬ (3 < opB c 0 ∨ opB c 2 < 1 ∨ 16 < opB c 2 ∨ opB c 2 ≤ opB c 3 ∨
    d.clk.raster.frameSub ≤ opN c 4 4 ∨ d.clk.raster.frameSub ≤ opN c 8 4)) :
    shutterSetFx c d = finish 5 c (boundaryRp d) [] (windowSet c d) := if_neg h

/-- The operand fields of SHUTTER_SET within the ranges of R100. -/
theorem shutterSet_does (c : Cmd) (s : State) :
    (opB c 0 ≤ 3 → 1 ≤ opB c 2 → opB c 2 ≤ 16 → opB c 3 < opB c 2 → opN c 4 4 < s.dev.clk.raster.frameSub →
      opN c 8 4 < s.dev.clk.raster.frameSub →
      Does (.shutterSet c) s (fun e => Finished s.dev e 5 c (boundaryRp s.dev) [] ∧
        (∀ x, s.dev.sched.shutters[opB c 0]? = some x → e.sched.shutters = s.dev.sched.shutters.set (opB c 0)
          { x with enabled := hasBit (opB c 1) 0, divisor := opB c 2, phase := opB c 3, openAt := opN c 4 4, closeAt := opN c 8 4 }) ∧
        e.sched.entries = s.dev.sched.entries ∧ SameBut (.sched :: .comps :: reporting) s.dev e)) ∧
    (3 < opB c 0 ∨ opB c 2 < 1 ∨ 16 < opB c 2 ∨ opB c 2 ≤ opB c 3 ∨ s.dev.clk.raster.frameSub ≤ opN c 4 4 ∨
      s.dev.clk.raster.frameSub ≤ opN c 8 4 →
      Does (.shutterSet c) s (fun e => Completed s.dev e 5 c 4 none [] ∧ SameBut (.comps :: reporting) s.dev e)) := by
  refine ⟨fun hw hd1 hd2 hph ho hc => ?_, fun hbad => does_refuse (f := shutterSetFx c) rfl (if_pos hbad)⟩
  refine act_does_of_clk (f := shutterSetFx c) rfl (clk_of_mask (ps := others .clk) (mask_shutterSetFx rfl c s.dev) rfl) ?_
  have hmask := mask_shutterSetFx (ps := .sched :: .comps :: reporting) rfl c s.dev
  have hfx := shutterSetFx_good (c := c) (d := s.dev) (by omega)
  rw [hfx] at hmask ⊢
  rw [finish_sched]
  exact ⟨finish_completed 5 c (boundaryRp s.dev) [] (windowSet c s.dev), fun x hx => windowSet_shutters hx, rfl,
    sameBut_of_mask hmask⟩

/-- Settles O23: what each opcode leaves of the schedule, and its completion. -/
theorem schedulerOpcodes : Obligations.SchedulerOpcodes := by
  refine ⟨⟨rfl, rfl, rfl⟩, fun c s tag hit es keys powers htag hload hhit hes hkeys hpowers => ?_,
    fun c s l hload htag hpos hsent => schedCancel_map hload htag hpos hsent,
    fun c s => ⟨does_finish (f := nopFx c) rfl rfl, shutterSet_does c s⟩⟩
  have hhit' : hit = cancelHit tag c.position s.dev := hhit
  have hmap : bit (cancelMap tag c.position s.dev) = 0 := by simp [cancelMap, hload, bit]
  have hcount : cancelCount c s.dev = es.length + keys.length + powers.length := by
    rw [cancelCount, ← htag, hmap, ← hhit', ← hes, ← hkeys, ← hpowers, Nat.add_zero]
  subst htag
  refine ⟨fun he hk hp => schedCancel_none (by rw [hcount, he, hk, hp]; rfl) hload, fun hne => ?_⟩
  have hn : cancelCount c s.dev ≠ 0 := by
    rw [hcount]
    rcases hne with h | h | h <;> have := List.length_pos_of_ne_nil h <;> omega
  have hsome := schedCancel_some hn hload
  rw [← hhit', hcount, ← hes] at hsome
  refine does_mono hsome (fun e he => ?_)
  obtain ⟨hentries, hkeys', hqueued, d, hfin, hcomps⟩ := he
  refine ⟨hentries, hkeys', hqueued, d, hfin, hcomps.trans ?_⟩
  rw [elsewhere, ← hkeys, ← hpowers]
  simp only [List.map_append, List.map_map]
  rfl

end Sys2Proof.Proofs
end

/-! ## Sys2Proof/Proofs/Fetch: descriptors fetched and commands admitted (R80 to R88, R397, R398, R577) -/

section

namespace Sys2Proof.Proofs

open Machine Laws

/-! ### The fetch position past a completion -/

theorem keepsStart_complete (op : Nat) (c : Cmd) (status : Nat) (effect : Option RP) (result : List Byte) (d : Device) :
    KeepsStart d (complete op c status effect result d) := by
  unfold complete
  extract_lets r e
  have he : KeepsStart d e := .of_eq rfl rfl
  split
  · exact he.trans ((keepsStart_writeOut _ _ e).trans (keepsStart_vector 0 _))
  · exact he

theorem refuse_f (op : Nat) (c : Cmd) (status : Nat) (reason : List Byte) (d : Device) :
    (refuse op c status reason d).hif.f = d.hif.f := by
  have h := (keepsStart_complete op c status none reason d).1
  simp only [startOf, Prod.mk.injEq] at h
  exact h.2.2.1

/-! ### Descriptors -/

section
variable {b : List Byte} {host : HostRead} {s : State} {c : Cmd}

theorem fetch_does {busErr : Bool} {p : Device → Prop} (hp : p (fetchFx b busErr host s.dev)) :
    Does (.descriptorFetch b busErr host) s p :=
  act_does_of_clk (f := fetchFx b busErr host) rfl (clk_of_mask (ps := others .clk) (mask_fetchFx rfl b busErr host s.dev) rfl) hp

theorem fetchFx_admits (hc : c = descriptor b (s.dev.hif.seqWord.getD 0) host) (hf : fetches s.dev = true)
    (hpos : c.position = s.dev.hif.f) : fetchFx b false host s.dev = admission (le b 0 1) c (fetched s.dev) := by
  subst hc
  rw [fetchFx]
  dsimp only
  rw [if_neg (by simp [hf]), if_neg (by simp), if_pos hpos]

/-- A descriptor refused at its fetch: it completes, the fetch position moves on, and nothing is scheduled. -/
theorem fetch_refuses {op status : Nat} {reason : List Byte} (hop : op = le b 0 1)
    (hc : c = descriptor b (s.dev.hif.seqWord.getD 0) host) (hf : fetches s.dev = true) (hpos : c.position = s.dev.hif.f)
    (hadm : admission op c (fetched s.dev) = refuse op c status reason (fetched s.dev)) :
    Does (.descriptorFetch b false host) s (fun e => Completed s.dev e op c status none reason ∧ e.hif.f = s.dev.hif.f + 1 ∧
      e.sched.entries = s.dev.sched.entries) := by
  refine fetch_does ?_
  rw [fetchFx_admits hc hf hpos, ← hop, hadm, refuse_f, refuse_sched]
  exact ⟨refuse_completed op c status reason (fetched s.dev), rfl, rfl⟩

end

/-! ### Admission -/

section
variable {op : Nat} {c : Cmd} {d : Device}

theorem admission_unserved (h : opListed op = false ∨ roleServes d op c = false) : admission op c d = refuse op c 5 [] d := by
  rw [admission, if_pos]
  rcases h with h | h <;> simp [h]

variable (hop : opListed op = true) (hrole : roleServes d op c = true)
include hop hrole

theorem admission_addressBad (hbad : addressBad op c = true) :
    admission op c d = refuse op c 4 (if reasoned op then [1] else []) d := by
  rw [admission, if_neg (by simp [hop, hrole]), if_pos hbad]
  rfl

variable (hgood : addressBad op c = false)
include hgood

theorem admission_busError (hhost : c.host = .busError) (hop' : op ∉ [0x1F, 0x33]) : admission op c d = refuse op c 0x0A [] d := by
  simp only [List.mem_cons, List.not_mem_nil, or_false, not_or] at hop'
  rw [admission, if_neg (by simp [hop, hrole]), if_neg (by simp [hgood]), if_neg hop'.1, if_neg hop'.2, if_pos hhost]

variable (hhost : c.host ≠ .busError)
include hhost

theorem admission_state (h : (op ∈ [0x70, 0x71, 0x72] ∧ d.pwr.state ≠ .run) ∨ (op = 0x88 ∧ d.pwr.state = .startUp)) :
    admission op c d = refuse op c 6 [] d := by
  simp only [List.mem_cons, List.not_mem_nil, or_false] at h
  rw [admission, if_neg (by simp [hop, hrole]), if_neg (by simp [hgood]), if_neg (by omega), if_neg (by omega), if_neg hhost,
    if_neg (by omega)]
  rcases h with ⟨hop70, hrun⟩ | ⟨rfl, hstart⟩
  · rw [if_pos ⟨by omega, hrun⟩]
  · rw [if_neg (by omega), if_pos ⟨rfl, hstart⟩]

theorem admission_admits (h : op ∉ [0x1F, 0x33, 0x70, 0x71, 0x72, 0x81, 0x82, 0x88]) : admission op c d = admitCmd op c d := by
  simp only [List.mem_cons, List.not_mem_nil, or_false, not_or] at h
  rw [admission, if_neg (by simp [hop, hrole]), if_neg (by simp [hgood]), if_neg (by omega), if_neg (by omega), if_neg hhost,
    if_neg (by omega), if_neg (by omega), if_neg (by omega)]

end

/-- The device in which a command is admitted: its admission number is taken. -/
def numberedAdm (d : Device) : Device := { d with sched := { d.sched with adm := d.sched.adm + 1 } }

/-- What an admission leaves: its completions and its schedule are those of the judgement. -/
theorem admitCmd_keeps {op : Nat} {c : Cmd} {d e : Device} (hop : op ≠ 0x81)
    (he : e = if d.tim.firstLock then judge op c d.sched.adm (numberedAdm d)
      else put op c d.sched.adm (dueRp c) (dueRp c) false (numberedAdm d)) :
    (admitCmd op c d).comps = e.comps ∧ (admitCmd op c d).sched.entries = e.sched.entries := by
  have h : admitCmd op c d = schedSample e := by
    rw [admitCmd]
    simp only [hop, decide_false, when, Bool.false_eq_true, if_false]
    rw [he]
    rfl
  rw [h]
  exact ⟨schedSample_comps e, schedSample_entries e⟩

section
variable {op : Nat} {c : Cmd} {adm : Nat} {d : Device}

theorem judge_now (h : isNow c = true) : judge op c adm d = put op c adm (nextPoint d (classOf op)) (nextPoint d (classOf op)) true d :=
  if_pos h

variable (hnow : isNow c = false)
include hnow

theorem judge_badDue (hdue : dueGood d.clk.raster c = false) : judge op c adm d = refuse op c 4 [] d := by
  rw [judge, if_neg (by simp [hnow]), if_pos (by simp [hdue])]

variable (hdue : dueGood d.clk.raster c = true)
include hdue

theorem judge_late (hlate : commitPassed d (classOf op) (dueRp c) = true) : judge op c adm d = late op c adm (dueRp c) d := by
  rw [judge, if_neg (by simp [hnow]), if_neg (by simp [hdue]), if_pos hlate]

theorem judge_tooEarly (hlate : commitPassed d (classOf op) (dueRp c) = false)
    (hearly : tooEarly d (alignedPoint (classOf op) (dueRp c)) = true) : judge op c adm d = refuse op c 8 [] d := by
  rw [judge, if_neg (by simp [hnow]), if_neg (by simp [hdue]), if_neg (by simp [hlate]), if_pos hearly]

theorem judge_waits (hop : op ≠ 0x82) (hlate : commitPassed d (classOf op) (dueRp c) = false)
    (hearly : tooEarly d (alignedPoint (classOf op) (dueRp c)) = false) :
    judge op c adm d = put op c adm (alignedPoint (classOf op) (dueRp c)) (dueRp c) true d := by
  rw [judge, if_neg (by simp [hnow]), if_neg (by simp [hdue]), if_neg (by simp [hlate]), if_neg (by simp [hearly]), if_neg hop]

end

section
variable {op : Nat} {c : Cmd} {adm : Nat} {due : RP} {d : Device}

theorem late_discards (hop : op ≠ 0x81) (h : discardLate c = true) :
    late op c adm due d = eventLate op c none (refuse op c 2 [] d) := by
  rw [late, if_neg (by simp [hop]), if_pos h]

theorem late_waits (hop : op ≠ 0x81) (h : discardLate c = false) :
    late op c adm due d = put op { c with late := true } adm (nextPoint d (classOf op)) due true d := by
  rw [late, if_neg (by simp [hop]), if_neg (by simp [h])]

end

/-! ### The obligations -/

section
variable {b : List Byte} {host : HostRead} {s : State} {op : Nat} {c : Cmd} {e : Device}

/-- A command admitted once judged, and what the judgement leaves. -/
theorem fetch_judged (hb : op = le b 0 1) (hc : c = descriptor b (s.dev.hif.seqWord.getD 0) host) (hf : fetches s.dev = true)
    (hpos : c.position = s.dev.hif.f) (hlisted : opListed op = true) (hrole : roleServes (fetched s.dev) op c = true)
    (hgood : addressBad op c = false) (hhost : host ≠ .busError) (hop : op ∉ [0x1F, 0x33, 0x70, 0x71, 0x72, 0x81, 0x82, 0x88])
    (he : e = if s.dev.tim.firstLock then judge op c s.dev.sched.adm (numberedAdm (fetched s.dev))
      else put op c s.dev.sched.adm (dueRp c) (dueRp c) false (numberedAdm (fetched s.dev)))
    {p : List Completion → List Entry → Prop} (hp : p e.comps e.sched.entries) :
    Does (.descriptorFetch b false host) s (fun d => p d.comps d.sched.entries) := by
  have hhost' : c.host ≠ .busError := by rw [hc]; exact hhost
  obtain ⟨hcomps, hentries⟩ := admitCmd_keeps (op := op) (c := c) (d := fetched s.dev) (e := e) (by rintro rfl; simp at hop) he
  refine fetch_does ?_
  rw [fetchFx_admits hc hf hpos, ← hb, admission_admits hlisted hrole hgood hhost' hop, hcomps, hentries]
  exact hp

end

/-- A node's REQUEST for a fetch position leaves that position (R405). -/
theorem sendRequest_hif (d : Device) : ∃ seqs, (sendRequest d).hif = { d.hif with request := seqs } := by
  unfold sendRequest
  extract_lets slot n seqs src e
  refine ⟨seqs, ?_⟩
  rw [hif_of_mask (mask_nodeSend (ps := [.link, .flows, .sent]) rfl 8 _ d.clk.rp none _) rfl]
  rfl

theorem sendRequest_stale (pos : BitVec 32) (d : Device) (hpos : pos = d.hif.f) :
    (sendRequest (setHif (fun h => { h with reqPos := pos }) (setHif (fun h => { h with stale := some pos }) d))).hif.stale = some pos ∧
    (sendRequest (setHif (fun h => { h with reqPos := pos }) (setHif (fun h => { h with stale := some pos }) d))).hif.f = pos ∧
    (sendRequest (setHif (fun h => { h with reqPos := pos }) (setHif (fun h => { h with stale := some pos }) d))).hif.reqPos = pos ∧
    SameBut [.link, .flows, .hif, .sent] d
      (sendRequest (setHif (fun h => { h with reqPos := pos }) (setHif (fun h => { h with stale := some pos }) d))) := by
  obtain ⟨seqs, hreq⟩ := sendRequest_hif (setHif (fun h => { h with reqPos := pos }) (setHif (fun h => { h with stale := some pos }) d))
  rw [hreq]
  refine ⟨rfl, hpos.symm, rfl, sameBut_of_mask ?_⟩
  rw [mask_sendRequest rfl]
  rfl

theorem nextPoint_numbered (d : Device) (cls : AlignClass) : nextPoint (numberedAdm (fetched d)) cls = nextPoint d cls := by
  cases cls <;> rfl

theorem commitPassed_numbered (d : Device) (cls : AlignClass) (due : RP) :
    commitPassed (numberedAdm (fetched d)) cls due = commitPassed d cls due := by
  cases cls <;> rfl

/-- Settles O24: the rules of admission in the order they are asked. -/
theorem admission : Obligations.Admission := by
  intro b host s op c hb hc hf hpos
  have hhostc : c.host = host := by rw [hc]; rfl
  refine ⟨fun h => fetch_refuses hb hc hf hpos (admission_unserved h),
    fun hop hrole hbad => fetch_refuses hb hc hf hpos (admission_addressBad hop hrole hbad),
    fun hop hrole hgood hhost hnot => fetch_refuses hb hc hf hpos (admission_busError hop hrole hgood (hhostc.trans hhost) hnot),
    fun hop hrole hgood hhost hstate => fetch_refuses hb hc hf hpos (admission_state hop hrole hgood (hhostc ▸ hhost) hstate),
    fun hop hrole hgood hhost hnot => ?_⟩
  have h81 : op ≠ 0x81 := by rintro rfl; simp at hnot
  have h82 : op ≠ 0x82 := by rintro rfl; simp at hnot
  have hput : ∀ (c' : Cmd) (adm : Nat) (point due : RP) (j : Bool), (put op c' adm point due j (numberedAdm (fetched s.dev))).comps = s.dev.comps ∧
      (put op c' adm point due j (numberedAdm (fetched s.dev))).sched.entries = s.dev.sched.entries ++
        [{ op := BitVec.ofNat 8 op, cmd := c', adm := adm, point := point, due := due, judged := j }] := fun _ _ _ _ _ => ⟨rfl, rfl⟩
  have hrefuse : ∀ status, Completed s.dev (refuse op c status [] (numberedAdm (fetched s.dev))) op c status none [] ∧
      (refuse op c status [] (numberedAdm (fetched s.dev))).sched.entries = s.dev.sched.entries := fun status =>
    ⟨refuse_completed op c status [] (numberedAdm (fetched s.dev)), by rw [refuse_sched]; rfl⟩
  have hjudged : ∀ {e : Device} (p : List Completion → List Entry → Prop), s.dev.tim.firstLock = true →
      judge op c s.dev.sched.adm (numberedAdm (fetched s.dev)) = e → p e.comps e.sched.entries →
      Does (.descriptorFetch b false host) s (fun d => p d.comps d.sched.entries) := fun p hlock he hp =>
    fetch_judged hb hc hf hpos hop hrole hgood hhost hnot (by rw [if_pos hlock, he]) hp
  have hrefused : ∀ status, s.dev.tim.firstLock = true →
      judge op c s.dev.sched.adm (numberedAdm (fetched s.dev)) = refuse op c status [] (numberedAdm (fetched s.dev)) →
      Does (.descriptorFetch b false host) s (fun e => Completed s.dev e op c status none [] ∧ e.sched.entries = s.dev.sched.entries) :=
    fun status hlock he => hjudged (fun cs es => cs = s.dev.comps ++ [refused (BitVec.ofNat 8 op) c (BitVec.ofNat 8 status)] ∧ es = s.dev.sched.entries)
      hlock he (hrefuse status)
  have htold : ∀ status, s.dev.tim.firstLock = true →
      judge op c s.dev.sched.adm (numberedAdm (fetched s.dev)) = eventLate op c none (refuse op c status [] (numberedAdm (fetched s.dev))) →
      Does (.descriptorFetch b false host) s (fun e => Completed s.dev e op c status none [] ∧ e.sched.entries = s.dev.sched.entries) := by
    intro status hlock he
    refine hjudged (fun cs es => cs = s.dev.comps ++ [refused (BitVec.ofNat 8 op) c (BitVec.ofNat 8 status)] ∧ es = s.dev.sched.entries)
      hlock he ?_
    rw [eventLate, report_comps, report_sched]
    exact hrefuse status
  have hwaits : ∀ c' point due, s.dev.tim.firstLock = true →
      judge op c s.dev.sched.adm (numberedAdm (fetched s.dev)) = put op c' s.dev.sched.adm point due true (numberedAdm (fetched s.dev)) →
      Does (.descriptorFetch b false host) s (fun e => e.comps = s.dev.comps ∧ e.sched.entries = s.dev.sched.entries ++
        [{ op := BitVec.ofNat 8 op, cmd := c', adm := s.dev.sched.adm, point := point, due := due, judged := true }]) :=
    fun c' point due hlock he => hjudged (fun cs es => cs = s.dev.comps ∧ es = s.dev.sched.entries ++
      [{ op := BitVec.ofNat 8 op, cmd := c', adm := s.dev.sched.adm, point := point, due := due, judged := true }]) hlock he
      (hput c' _ _ _ _)
  have hlateWaits : s.dev.tim.firstLock = true →
      judge op c s.dev.sched.adm (numberedAdm (fetched s.dev)) = late op c s.dev.sched.adm (dueRp c) (numberedAdm (fetched s.dev)) →
      discardLate c = false → Does (.descriptorFetch b false host) s (fun e => e.comps = s.dev.comps ∧
        e.sched.entries = s.dev.sched.entries ++ [{ op := BitVec.ofNat 8 op, cmd := { c with late := true }, adm := s.dev.sched.adm, point := nextPoint s.dev (classOf op), due := dueRp c, judged := true }]) := by
    intro hlock hj hdisc
    refine hwaits { c with late := true } _ _ hlock ?_
    rw [hj, late_waits h81 hdisc, nextPoint_numbered]
  have hpassed : ∀ {r}, commitPassed s.dev (classOf op) (dueRp c) = r →
      commitPassed (numberedAdm (fetched s.dev)) (classOf op) (dueRp c) = r := fun h => (commitPassed_numbered _ _ _).trans h
  refine ⟨fun hlock => ?_, fun hlock hnow => hwaits _ _ _ hlock ((judge_now hnow).trans (by rw [nextPoint_numbered])), fun hlock hnow hdue => hrefused 4 hlock (judge_badDue hnow hdue),
    fun hlock hnow hdue hlate hdisc => ?_,
    fun hlock hnow hdue hlate hdisc => hlateWaits hlock (judge_late hnow hdue (hpassed hlate)) hdisc,
    fun hlock hnow hdue hlate hearly => hrefused 8 hlock (judge_tooEarly hnow hdue (hpassed hlate) hearly),
    fun hlock hnow hdue hlate hearly => hwaits _ _ _ hlock (judge_waits hnow hdue h82 (hpassed hlate) hearly)⟩
  · exact fetch_judged hb hc hf hpos hop hrole hgood hhost hnot (by rw [if_neg (by simp [hlock])])
      (p := fun cs es => cs = s.dev.comps ∧ es = s.dev.sched.entries ++
        [{ op := BitVec.ofNat 8 op, cmd := c, adm := s.dev.sched.adm, point := dueRp c, due := dueRp c, judged := false }])
      (hput c _ _ _ _)
  · exact htold 2 hlock ((judge_late (d := numberedAdm (fetched s.dev)) hnow hdue (hpassed hlate)).trans (late_discards h81 hdisc))

/-- Settles O25: a descriptor read once more, then completed STALE. -/
theorem staleDescriptors : Obligations.StaleDescriptors := by
  intro b host s c hc hf
  have hgo : ¬ (!(fetches s.dev)) = true := by simp [hf]
  have hstale : ∀ {e : Device}, c.position ≠ s.dev.hif.f → (if s.dev.hif.stale = some s.dev.hif.f then
      refuse (le b 0 1) { c with position := s.dev.hif.f } 0x0C [] (fetched s.dev)
      else if s.dev.isHead then setHif (fun h => { h with stale := some s.dev.hif.f }) s.dev
      else sendRequest (setHif (fun h => { h with reqPos := s.dev.hif.f }) (setHif (fun h => { h with stale := some s.dev.hif.f }) s.dev))) = e →
      fetchFx b false host s.dev = e := by
    intro e hpos he
    subst hc
    rw [fetchFx, if_neg hgo, if_neg (by simp), if_neg hpos]
    exact he
  refine ⟨fun hpos hst hh => ?_, fun hpos hst hh => ?_, fun hpos hst => ?_, ?_⟩
  · refine fetch_does ?_
    rw [hstale hpos (by rw [if_neg hst, if_pos hh])]
    exact ⟨rfl, sameBut_of_mask rfl⟩
  · refine fetch_does ?_
    rw [hstale hpos (by rw [if_neg hst, if_neg (by simp [hh])])]
    exact sendRequest_stale s.dev.hif.f s.dev rfl
  · refine fetch_does ?_
    rw [hstale hpos (by rw [if_pos hst]), refuse_f]
    exact ⟨rfl, refuse_completed _ _ _ _ (fetched s.dev)⟩
  · refine fetch_does ?_
    have hfx : ∃ l, fetchFx b true host s.dev = setHif (fun h => { h with wins := l }) s.dev := by
      rw [fetchFx, if_neg hgo, if_pos rfl, rateEvent]
      dsimp only
      split <;> exact ⟨_, rfl⟩
    obtain ⟨l, hl⟩ := hfx
    rw [hl]
    exact ⟨rfl, rfl, rfl⟩

end Sys2Proof.Proofs
end

/-! ## Sys2Proof/Proofs/Aligned: the first command in order at its aligned point (R88, R96, R98) -/

section

namespace Sys2Proof.Proofs

open Machine Laws

theorem not_before_self (a : RP) : a.before a = false := by
  simp [RP.before, frameDiff]

/-- A clock that has reached an RP stays there. -/
theorem reach_reach (c : Clock) (p : RP) : (c.reach p).reach p = c.reach p := by
  unfold Clock.reach
  by_cases hb : c.rp.before p = true
  · rw [if_pos hb]
    unfold Clock.goTo
    split
    · rw [if_neg (by simp [not_before_self])]
    · rfl
  · rw [if_neg hb, if_neg hb]

/-- The device with its RP come to a point. -/
def reached (p : RP) (d : Device) : Device := { d with clk := d.clk.reach p }

theorem reached_reached (p : RP) (d : Device) : reached p (reached p d) = reached p d := by
  simp only [reached, reach_reach]

/-- The first command in order takes effect alone where no map switches before it and it cancels none. -/
theorem runNext_alone {e : Entry} {d : Device} (hop : e.op ≠ 4) (hmap : mapFirst d e = false) :
    runNext e d = runOne e (reached e.point d) := by
  have hmap' : mapFirst (reached e.point d) e = false := hmap
  rw [runNext, targetsFirst, if_neg hop]
  exact congrArg (runOne e) (if_neg (by simp only [reached] at hmap'; simp [hmap']))

section
variable {s : State} {x : Entry} (hnext : nextEntry s.dev = some x) (hhold : s.dev.clk.hold = none)
  (hmap : mapFirst s.dev x = false)
include hnext hhold hmap

theorem alignedPoint_does (hop : x.op ≠ 4) {p : Device → Prop} (hp : p (runOne x (reached x.point s.dev))) :
    Does .alignedPointReached s p := by
  refine clocked_does (f := alignedFx) rfl ?_
  rw [alignedFx, hnext]
  dsimp only
  rw [if_neg (by simp [hhold]), runNext_alone hop hmap]
  exact hp

/-- A NOP at its point (R398). -/
theorem alignedPoint_nop (hop : x.op = 0) : Does .alignedPointReached s (fun e => e.clk = s.dev.clk.reach x.point ∧
    e.sched.entries = s.dev.sched.entries.filter (fun y => y.adm != x.adm) ∧
    Finished s.dev e 0 x.cmd (s.dev.clk.reach x.point).rp []) := by
  refine alignedPoint_does hnext hhold hmap (by rw [hop]; decide) ?_
  have hone : runOne x (reached x.point s.dev) = quiet (runPlain x) (reached x.point s.dev) := by
    rw [runOne, if_neg (by rw [hop]; decide), if_neg (by rw [hop]; decide)]
    exact congrArg (quiet (runPlain x)) (reached_reached x.point s.dev)
  have hplain : runPlain x (reached x.point s.dev) =
      schedSample (finish 0 x.cmd (s.dev.clk.reach x.point).rp [] (dropEntry x (reached x.point s.dev))) := by
    rw [runPlain, hop]
    rfl
  rw [hone, quiet_clk, quiet, keepClk_sched, Finished, Completed, keepClk_comps, hplain, schedSample_entries, schedSample_comps,
    finish_sched]
  exact ⟨rfl, rfl, finish_completed 0 x.cmd (s.dev.clk.reach x.point).rp [] (dropEntry x (reached x.point s.dev))⟩

/-- A step whose partner has not confirmed it keeps its place and waits for the next boundary (R62). -/
theorem alignedPoint_stepWaits (hop : x.op = 1) (hwait : stepHolds x.cmd (reached x.point s.dev) = true) :
    Does .alignedPointReached s (fun e => e.clk = s.dev.clk.reach x.point ∧ e.comps = s.dev.comps ∧
      e.sched.entries = s.dev.sched.entries.map (fun y =>
        if y.adm = x.adm then { y with point := RP.start ((s.dev.clk.reach x.point).rp.frame + 1) } else y)) := by
  refine alignedPoint_does hnext hhold hmap (by rw [hop]; decide) ?_
  have hone : runOne x (reached x.point s.dev) = runStep x (reached x.point s.dev) := by
    rw [runOne, if_pos hop]
    exact congrArg (runStep x) (reached_reached x.point s.dev)
  rw [hone, runStep, if_pos hwait]
  exact ⟨rfl, rfl, rfl⟩

end

/-- Settles O26: the first command in order runs alone at its point. -/
theorem alignedPointRunsFirst : Obligations.AlignedPointRunsFirst := by
  refine fun s x => ⟨fun hnext hhold hop hmap => alignedPoint_nop hnext hhold hmap hop,
    fun hnext hhold hop hmap hwait => alignedPoint_stepWaits hnext hhold hmap hop hwait, fun h => ?_⟩
  refine clocked_does (f := alignedFx) rfl ?_
  unfold alignedFx
  split
  · rfl
  · next e he =>
    rcases h with h | h
    · rw [h] at he
      cases he
    · rw [if_pos h]

end Sys2Proof.Proofs
end

/-! ## Sys2Proof/Proofs/Words: what a read returns after a write, in lists, maps and the register file -/

section

namespace Sys2Proof.Proofs

open Machine Laws

/-! ### Lists -/

theorem getD_setAt_same {α : Type} {xs : List α} {i : Nat} (h : i < xs.length) (a d : α) : (setAt xs i a).getD i d = a := by
  simp [setAt, h]

theorem getD_setAt_ne {α : Type} (xs : List α) {i j : Nat} (h : i ≠ j) (a d : α) : (setAt xs i a).getD j d = xs.getD j d := by
  simp [setAt, h]

theorem getD_modAt_same {α : Type} {xs : List α} {i : Nat} (h : i < xs.length) (f : α → α) (d : α) :
    (modAt xs i f).getD i d = f (xs.getD i d) := by
  simp [modAt, h]

theorem modAt_eq_set {α : Type} {xs : List α} {i : Nat} {a : α} (h : xs[i]? = some a) (f : α → α) :
    modAt xs i f = xs.set i (f a) := by
  simp only [modAt, List.modify_eq_set_getElem?, h]
  rfl

theorem length_setAt {α : Type} (xs : List α) (i : Nat) (a : α) : (setAt xs i a).length = xs.length := List.length_set

theorem nth_setAt_same {xs : List Nat} {i : Nat} (h : i < xs.length) (a : Nat) : nth (setAt xs i a) i = a := getD_setAt_same h a 0

/-! ### Maps -/

section
variable {α : Type} (m : NatMap α) {k j : Nat} (a d : α)

theorem mget_mins_same : mget (mins m k a) k d = a := by
  induction m with
  | nil => simp [mins, mget]
  | cons x m ih =>
    obtain ⟨i, b⟩ := x
    rw [mins]
    split
    · simp [mget]
    · split
      · simp [mget]
      · rwa [mget, if_neg (by assumption)]

theorem mget_mins_ne (h : k ≠ j) : mget (mins m k a) j d = mget m j d := by
  induction m with
  | nil => simp [mins, mget, h]
  | cons x m ih =>
    obtain ⟨i, b⟩ := x
    rw [mins]
    split
    · simp [mget, h]
    · split
      case isTrue hi => simp [mget, h, hi]
      case isFalse => rw [mget, mget, ih]

theorem mget_mdel_same : mget (mdel m k) k d = d := by
  induction m with
  | nil => rfl
  | cons x m ih =>
    obtain ⟨i, b⟩ := x
    by_cases hi : i = k
    · simpa [mdel, hi] using ih
    · simpa [mdel, hi, mget] using ih

theorem mget_mdel_ne (h : k ≠ j) : mget (mdel m k) j d = mget m j d := by
  induction m with
  | nil => rfl
  | cons x m ih =>
    obtain ⟨i, b⟩ := x
    rw [mdel] at ih
    by_cases hi : i = k
    · rw [mdel, List.filter_cons_of_neg (by simp [hi]), ih, mget, if_neg (by omega)]
    · rw [mdel, List.filter_cons_of_pos (by simp [hi]), mget, mget, ih]

theorem mget_mset_same [DecidableEq α] : mget (mset m k d a) k d = a := by
  unfold mset
  split
  case isTrue h => rw [h, mget_mdel_same]
  case isFalse => rw [mget_mins_same]

theorem mget_mset_ne [DecidableEq α] (h : k ≠ j) (e : α) : mget (mset m k d a) j e = mget m j e := by
  unfold mset
  split
  · rw [mget_mdel_ne _ _ h]
  · rw [mget_mins_ne _ _ _ h]

end

/-! ### The words of the register file -/

theorem word_setWord (d : Device) (a v : Nat) : (d.setWord a v).word a = v % 2 ^ 32 := by
  rw [Device.word, Device.setWord, mget_mset_same, BitVec.toNat_ofNat]

theorem word_setWord_same (d : Device) (a : Nat) {v : Nat} (hv : v < 2 ^ 32) : (d.setWord a v).word a = v := by
  rw [word_setWord, Nat.mod_eq_of_lt hv]

theorem word_setWord_ne (d : Device) {a b : Nat} (h : a ≠ b) (v : Nat) : (d.setWord a v).word b = d.word b := by
  rw [Device.word, Device.setWord, mget_mset_ne _ _ _ h]
  rfl

theorem word_of_regs {d e : Device} (h : e.regs = d.regs) (a : Nat) : e.word a = d.word a := by
  rw [Device.word, h]
  rfl

theorem satAdd_lt (a b : Nat) : satAdd 0xFFFFFFFF a b < 2 ^ 32 := by
  unfold satAdd
  split <;> omega

theorem word_bump (d : Device) (a n : Nat) : (d.bump a n).word a = satAdd 0xFFFFFFFF (d.word a) n :=
  word_setWord_same d a (satAdd_lt _ _)

end Sys2Proof.Proofs
end

/-! ## Sys2Proof/Proofs/Redundancy: REDUNDANCY_QUERY and REDUNDANCY_TEST (R370, R371) -/

section

namespace Sys2Proof.Proofs

open Machine Laws

theorem redundancyTestFx_engine {c : Cmd} {d : Device} (h0 : opB c 0 = 0) (hnode : d.isNode = true) (h1 : opB c 1 ≤ 2)
    (hact : engineOf d (opB c 1) = .active) (hstandby : (standbyEngine d).isSome = true) : redundancyTestFx c d =
      setRed (fun r => { r with testCmds := r.testCmds ++ [(opB c 1, boundaryRp d, c)] }) d := by
  simp [redundancyTestFx, h0, hnode, Nat.not_lt.mpr h1, hact, Option.isSome_iff_ne_none.mp hstandby]

theorem redundancyTestFx_probe {c : Cmd} {d : Device} (h0 : opB c 0 = 1) (hskip : probeSkipped d false = false) :
    redundancyTestFx c d = setRed (fun r => { r with probeCmds := r.probeCmds ++ [(boundaryRp d, c)] }) d := by
  simp [redundancyTestFx, h0, hskip]

/-- A command that changes the redundancy state and nothing else. -/
theorem setRed_does {f : Device → Device} {g : Redund → Redund} {s : State} {i : Instr} (hi : exec i s = act f s)
    (hf : f s.dev = setRed g s.dev) : Does i s (fun e => e.red = g s.dev.red ∧ SameBut [.red] s.dev e) :=
  act_does_of_clk hi (by rw [hf, setRed_clk]) (by rw [hf]; exact ⟨rfl, sameBut_of_mask rfl⟩)

/-- Settles O45: the query only completes; the test notes its command, or is refused. -/
theorem redundancyCommands : Obligations.RedundancyCommands := by
  refine fun c s => ⟨does_finish (f := redundancyQueryFx c) rfl rfl, fun h0 hnode h1 hact hstandby => ?_, fun h0 hskip => ?_,
    fun h => does_refuse (f := redundancyTestFx c) rfl (if_pos h)⟩
  · exact setRed_does (f := redundancyTestFx c) rfl (redundancyTestFx_engine h0 hnode h1 hact hstandby)
  · exact setRed_does (f := redundancyTestFx c) rfl (redundancyTestFx_probe h0 hskip)

end Sys2Proof.Proofs
end

/-! ## Sys2Proof/Proofs/Health: spares brought in and health judged (R373, R374, R381, R386, R387) -/

section

namespace Sys2Proof.Proofs

open Machine Laws

/-! ### What judging keeps -/

/-- Spares judged: only health, its reason and the prediction may differ (R377, R378, R380). -/
def Judged (x y : Spares) : Prop := ∃ h r p, y = { x with health := h, reason := r, predicted := p }

theorem Judged.uses {x y : Spares} (h : Judged x y) : y.uses = x.uses := by
  obtain ⟨_, _, _, rfl⟩ := h
  rfl

theorem Judged.deferred {x y : Spares} (h : Judged x y) : y.deferred = x.deferred := by
  obtain ⟨_, _, _, rfl⟩ := h
  rfl

theorem judgeHealth_judged (d : Device) : Judged d.spare (judgeHealth d).spare := by
  unfold judgeHealth
  extract_lets old bad h why e
  rw [show (when (h != old) _ e).spare = e.spare from spare_of_mask (ps := others .spare)
    (by simp (disch := decide) only [blank_when, mask_report, ite_self]) rfl]
  exact ⟨h, why, d.spare.predicted, rfl⟩

theorem predict_judged (d : Device) : Judged d.spare (predict d).spare := by
  obtain ⟨h, r, p, hj⟩ := judgeHealth_judged (setSpare (fun x => { x with predicted := kindMask (fun k => (exhaustDays d k).isSome) }) d)
  exact ⟨h, r, p, by rw [predict, hj]; rfl⟩

theorem judged_judged (was d : Device) : Judged d.spare (judged was d).spare := by
  unfold judged
  split
  · exact judgeHealth_judged d
  · exact predict_judged d

/-! ### Spares brought in -/

/-- A use of a spare, at the seconds of RUN a device stands at. -/
def useOf (kind unit : Nat) (d : Device) : SpareUse := { kind := kind, unit := unit, at_ := d.spare.run }

theorem spareTaken_spare (kind unit : Nat) (d : Device) :
    (spareTaken kind unit d).spare = { d.spare with uses := d.spare.uses ++ [useOf kind unit d] } := by
  rw [spareTaken, report_spare]
  rfl

theorem spareUsed_uses (kind unit : Nat) (d : Device) : (spareUsed kind unit d).spare.uses = d.spare.uses ++ [useOf kind unit d] := by
  rw [spareUsed, (predict_judged _).uses, spareTaken_spare]

theorem portDownFx_spare (p cause : Nat) (d : Device) : (portDownFx p cause d).spare = d.spare :=
  spare_of_mask (ps := others .spare) (mask_portDownFx rfl p cause d) rfl

theorem spareLeft_slices {d e : Device} (h : e.spare.uses = d.spare.uses) : spareLeft e 5 0 = spareLeft d 5 0 := by
  simp [spareLeft, usesOf, h]

theorem spareLeft_portDownFx (p cause : Nat) (d : Device) : spareLeft (portDownFx p cause d) 5 0 = spareLeft d 5 0 :=
  spareLeft_slices (by rw [portDownFx_spare])

/-- A slice due, while one is left (R373). -/
theorem sliceDue_some {d : Device} (h : spareLeft d 5 0 ≠ 0) (lane : Nat) :
    (sliceDue lane d).spare = { d.spare with uses := d.spare.uses ++ [useOf 5 lane d] } := by
  have hleft : spareLeft (portDownFx (lanePort lane) 0 d) 5 0 ≠ 0 := by
    rwa [spareLeft_portDownFx]
  rw [sliceDue, if_neg hleft, spareTaken_spare, useOf, portDownFx_spare]
  rfl

/-- A slice due, with none left: the lane stays without one (R384). -/
theorem sliceDue_none {d : Device} (h : spareLeft d 5 0 = 0) {lane : Nat} (hgone : d.spare.sliceGone.contains lane = false) :
    (sliceDue lane d).spare = { d.spare with sliceGone := d.spare.sliceGone ++ [lane] } := by
  have hleft : spareLeft (portDownFx (lanePort lane) 0 d) 5 0 = 0 := by
    rwa [spareLeft_portDownFx]
  rw [sliceDue, if_pos hleft, setSpare_spare, portDownFx_spare, hgone]
  rfl

/-- A slice substituted under the eye-width rule (R376). -/
theorem eyeSwapFx_some {d : Device} (h : spareLeft d 5 0 ≠ 0) (lane : Nat) : (eyeSwapFx lane d).spare = { d.spare with
    deferred := d.spare.deferred.filter (· != lane), uses := d.spare.uses ++ [useOf 5 lane d],
    eyeSwap := setAt d.spare.eyeSwap lane true } := by
  have hleft : spareLeft (setSpare (fun x => { x with deferred := x.deferred.filter (· != lane) }) d) 5 0 ≠ 0 := by
    rwa [spareLeft_slices (by rfl)]
  rw [eyeSwapFx, if_neg hleft, setSpare_spare, sliceDue_some hleft]
  rfl

theorem eyeSwapFx_none {d : Device} (h : spareLeft d 5 0 = 0) {lane : Nat} (hgone : d.spare.sliceGone.contains lane = false) :
    (eyeSwapFx lane d).spare =
      { d.spare with deferred := d.spare.deferred.filter (· != lane), sliceGone := d.spare.sliceGone ++ [lane] } := by
  have hleft : spareLeft (setSpare (fun x => { x with deferred := x.deferred.filter (· != lane) }) d) 5 0 = 0 := by
    rwa [spareLeft_slices (by rfl)]
  rw [eyeSwapFx, if_pos hleft, sliceDue_none hleft (by exact hgone)]
  rfl

/-! ### HEALTH_QUERY and SPARE_APPLY -/

/-- The one deferred substitution of a port made: none waits there any more, and a slice is used (R374). -/
theorem applyDeferred_one {p lane : Nat} {d : Device} (h : deferredOn d (p + 8) = [lane]) (hleft : spareLeft d 5 0 ≠ 0) :
    deferredOn (applyDeferred p d) (p + 8) = [] ∧ (applyDeferred p d).spare.uses = d.spare.uses ++ [useOf 5 lane d] := by
  have hfx : applyDeferred p d = judged d (eyeSwapFx lane d) := by simp [applyDeferred, deferredMade, h]
  have hj := judged_judged d (eyeSwapFx lane d)
  rw [hfx, deferredOn, hj.deferred, hj.uses, eyeSwapFx_some hleft]
  refine ⟨?_, rfl⟩
  rw [deferredOn] at h
  rw [List.filter_comm, h]
  simp

theorem applyDeferred_comps (p : Nat) (d : Device) : (applyDeferred p d).comps = d.comps :=
  comps_of_mask (ps := others .comps) (mask_applyDeferred rfl p d) rfl

/-- Settles O46: the query only completes; SPARE_APPLY makes the substitution that waits on its port, or is refused. -/
theorem healthCommands : Obligations.HealthCommands := by
  refine ⟨⟨rfl, rfl⟩, fun c s => ⟨does_finish (f := healthQueryFx c) rfl rfl, fun p lane hp hop hdef hleft => ?_,
    fun p hp hop hdef => ?_, fun h8 h9 => does_refuse (f := spareApplyFx c) rfl (if_pos ⟨h8, h9⟩)⟩⟩
  · have hport : ¬ (opB c 0 ≠ 8 ∧ opB c 0 ≠ 9) := by omega
    rw [Nat.add_comm] at hop hdef
    have hfx : spareApplyFx c s.dev = finish 0x53 c (boundaryRp s.dev) [] (applyDeferred p s.dev) := by
      rw [spareApplyFx, if_neg hport, hop, hdef, if_neg (by simp), Nat.add_sub_cancel]
    obtain ⟨hnone, huses⟩ := applyDeferred_one hdef hleft
    refine act_does (f := spareApplyFx c) rfl ?_
    rw [hfx, deferredOn, keepClk_spare, finish_spare, Finished, Completed, keepClk_comps, Nat.add_comm]
    exact ⟨hnone, huses, finished_finish (applyDeferred_comps p s.dev) _ _ _ _⟩
  · have hport : ¬ (opB c 0 ≠ 8 ∧ opB c 0 ≠ 9) := by omega
    have hfx : spareApplyFx c s.dev = refuse 0x53 c 6 [] s.dev := by
      rw [spareApplyFx, if_neg hport, hop, hdef]
      rfl
    refine act_does_of_clk (f := spareApplyFx c) rfl (by rw [hfx, refuse_clk]) ?_
    rw [hfx]
    exact ⟨refuse_spare _ _ _ _ _, refuse_answers rfl⟩

end Sys2Proof.Proofs
end

/-! ## Sys2Proof/Proofs/Spares: spares, wear monitors and memory errors (R218, R257, R292, R355, R373 to R377) -/

section

namespace Sys2Proof.Proofs

open Machine Laws

/-! ### The ageing monitor -/

theorem ageingSample_does (worst : Nat) (s : State) : Does (.ageingSample worst) s (fun e => e.spare.ageing = worst ∧
    e.spare.ageToday = s.dev.spare.ageToday ++ [worst] ∧ SameBut (.spare :: reporting) s.dev e) := by
  let d := setSpare (fun x => { x with ageing := worst, ageToday := x.ageToday ++ [worst] }) s.dev
  refine act_does (f := fun d => judgeHealth (setSpare (fun x => { x with ageing := worst, ageToday := x.ageToday ++ [worst] }) d)) rfl ?_
  obtain ⟨h, r, p, hj⟩ := judgeHealth_judged d
  rw [keepClk_spare, hj]
  exact ⟨rfl, rfl, sameBut_keepClk (by simp (disch := decide) only [mask_judgeHealth, mask_setSpare])⟩

/-- The mean of a day's samples, where there are any (R377). -/
def meanOf (t : List Nat) : List Nat := if t.isEmpty then [] else [(t.foldl (· + ·) 0 + t.length / 2) / t.length]

theorem predictionFx_ages (d : Device) : (predictionFx d).spare.ageToday = [] ∧
    (predictionFx d).spare.ageDays = lastN 90 (d.spare.ageDays ++ meanOf d.spare.ageToday) := by
  obtain ⟨h, r, p, hj⟩ := predict_judged (setSpare (fun x => { x with
    ageDays := lastN 90 (x.ageDays ++ meanOf d.spare.ageToday), ageToday := [], days := lastN 90 (x.days ++ [x.today]), today := {} }) d)
  have hfx : (predictionFx d).spare = _ := hj
  rw [hfx]
  exact ⟨rfl, rfl⟩

theorem exhaustionPrediction_does (s : State) : Does .exhaustionPrediction s (fun e => e.spare.ageToday = [] ∧
    (s.dev.spare.ageToday = [] → e.spare.ageDays = lastN 90 s.dev.spare.ageDays) ∧
    (∀ a, s.dev.spare.ageToday = [a] → e.spare.ageDays = lastN 90 (s.dev.spare.ageDays ++ [a])) ∧
    SameBut (.spare :: reporting) s.dev e) := by
  refine act_does (f := predictionFx) rfl ?_
  obtain ⟨htoday, hdays⟩ := predictionFx_ages s.dev
  rw [keepClk_spare, htoday, hdays]
  refine ⟨rfl, fun h => ?_, fun a h => ?_, sameBut_keepClk (mask_predictionFx rfl s.dev)⟩
  · rw [h]
    simp [meanOf]
  · rw [h]
    simp [meanOf]

/-! ### The eye-width monitor -/

/-- The device with an eye width sampled on a lane, and the lane's poor samples in a row counted (R376). -/
def eyeSampled (lane width low : Nat) (d : Device) : Device :=
  setSpare (fun x => { x with
    eyes := setAt x.eyes lane width,
    today := { x.today with eyes := modAt x.today.eyes lane (fun e => (e.1 + width, e.2 + 1)) }, eyeLow := setAt x.eyeLow lane (if 3 ≤ low then 0 else low),
    eyeSwap := setAt x.eyeSwap lane (x.eyeSwap.getD lane false && decide (width < 200)),
    eyeBar := setAt x.eyeBar lane (x.eyeBar.getD lane false && decide (width ≤ 300)) }) d

theorem spareLeft_eyeSampled (lane width low : Nat) (d : Device) : spareLeft (eyeSampled lane width low d) 5 0 = spareLeft d 5 0 :=
  spareLeft_slices rfl

theorem eyeFx_good {lane width : Nat} (h : 200 ≤ width) (d : Device) : eyeFx lane width d = eyeSampled lane width 0 d := by
  rw [eyeFx, if_neg (Nat.not_lt.mpr h)]
  exact if_pos (show 0 < 3 by decide)

theorem getD_setAt_false {xs : List Bool} {i : Nat} (h : xs.getD i false = false) (b : Bool) :
    (setAt xs i (xs.getD i false && b)).getD i false = false := by
  by_cases hi : i < xs.length
  · rw [getD_setAt_same hi, h, Bool.false_and]
  · rw [List.getD_eq_default _ _ (by rw [length_setAt]; omega)]

theorem eyeFx_third {lane width : Nat} {d : Device} (h : width < 200) (hlow : nth d.spare.eyeLow lane = 2)
    (hswap : d.spare.eyeSwap.getD lane false = false) (hbar : d.spare.eyeBar.getD lane false = false)
    (hgone : d.spare.sliceGone.contains lane = false) (hlane : lane < 8) :
    eyeFx lane width d = judged (eyeSampled lane width 3 d) (eyeSwapFx lane (eyeSampled lane width 3 d)) := by
  have hswap' : (eyeSampled lane width 3 d).spare.eyeSwap.getD lane false = false := getD_setAt_false hswap _
  have hbar' : (eyeSampled lane width 3 d).spare.eyeBar.getD lane false = false := getD_setAt_false hbar _
  have hgone' : (eyeSampled lane width 3 d).spare.sliceGone.contains lane = false := hgone
  rw [eyeFx, if_pos h, hlow]
  change (if 2 + 1 < 3 then _ else if (eyeSampled lane width 3 d).spare.eyeSwap.getD lane false then _ else
    if (eyeSampled lane width 3 d).spare.eyeBar.getD lane false then _ else eyeSlice lane (eyeSampled lane width 3 d)) = _
  rw [if_neg (by decide), hswap', hbar', eyeSlice, hgone']
  simp [lanePort, takeSlice, hlane, Nat.not_le.mpr hlane]

theorem eyeWidthSample_does (s : State) (lane : Fin 16) (w : Nat) (heyes : s.dev.spare.eyes.length = 16)
    (hlows : s.dev.spare.eyeLow.length = 16) :
    (200 ≤ w → Does (.eyeWidthSample lane w) s (fun e => nth e.spare.eyes lane.val = w ∧ nth e.spare.eyeLow lane.val = 0 ∧
      SameBut [.spare] s.dev e)) ∧
    (w < 200 → nth s.dev.spare.eyeLow lane.val = 2 → s.dev.spare.eyeSwap.getD lane.val false = false →
      s.dev.spare.eyeBar.getD lane.val false = false → s.dev.spare.sliceGone.contains lane.val = false → lane.val < 8 →
      (spareLeft s.dev 5 0 ≠ 0 → Does (.eyeWidthSample lane w) s (fun e => nth e.spare.eyeLow lane.val = 0 ∧
        e.spare.uses = s.dev.spare.uses ++ [useOf 5 lane.val s.dev])) ∧
      (spareLeft s.dev 5 0 = 0 → Does (.eyeWidthSample lane w) s (fun e => e.spare.uses = s.dev.spare.uses ∧
        e.spare.sliceGone = s.dev.spare.sliceGone ++ [lane.val]))) := by
  have hlane := lane.isLt
  refine ⟨fun h => ?_, fun h hlow hswap hbar hgone hlt => ?_⟩
  · refine act_does (f := eyeFx lane.val w) rfl ?_
    rw [eyeFx_good h]
    exact ⟨nth_setAt_same (by omega) _, nth_setAt_same (by omega) _, sameBut_of_mask rfl⟩
  · have hfx := eyeFx_third h hlow hswap hbar hgone hlt
    obtain ⟨x, r, p, hj⟩ := judged_judged (eyeSampled lane.val w 3 s.dev) (eyeSwapFx lane.val (eyeSampled lane.val w 3 s.dev))
    refine ⟨fun hleft => ?_, fun hleft => ?_⟩ <;> refine act_does (f := eyeFx lane.val w) rfl ?_ <;> rw [hfx, keepClk_spare, hj]
    · rw [eyeSwapFx_some ((spareLeft_eyeSampled _ _ _ _).trans_ne hleft)]
      exact ⟨nth_setAt_same (by omega) _, rfl⟩
    · rw [eyeSwapFx_none ((spareLeft_eyeSampled _ _ _ _).trans hleft) hgone]
      exact ⟨rfl, rfl⟩

/-! ### Segments, phases and pads -/

theorem segmentAmplitudeCheck_does (s : State) (lane : Fin 16) (h : spareLeft s.dev 6 lane.val ≠ 0) :
    Does (.segmentAmplitudeCheck lane 1) s (fun e => e.spare.uses = s.dev.spare.uses ++ [useOf 6 lane.val s.dev] ∧
      SameBut (.spare :: reporting) s.dev e) := by
  have hfx : judged s.dev (takeSegment lane.val s.dev) = judged s.dev (spareTaken 6 lane.val s.dev) := by
    rw [takeSegment, if_neg h]
  refine act_does (f := fun d => judged d (takeSegment lane.val d)) rfl ?_
  rw [hfx, keepClk_spare, (judged_judged _ _).uses, spareTaken_spare]
  exact ⟨rfl, sameBut_keepClk (by rw [mask_judged rfl, mask_spareTaken rfl])⟩

/-- A spare used once: the first fault of a unit takes one. -/
theorem spareUsed_does {f : Device → Device} {s : State} {i : Instr} {kind unit : Nat} (hi : exec i s = act f s)
    (hf : f s.dev = spareUsed kind unit s.dev) :
    Does i s (fun e => e.spare.uses = s.dev.spare.uses ++ [useOf kind unit s.dev] ∧ SameBut (.spare :: reporting) s.dev e) := by
  refine act_does hi ?_
  rw [hf, keepClk_spare, spareUsed_uses]
  exact ⟨rfl, sameBut_keepClk (mask_spareUsed rfl kind unit s.dev)⟩

/-! ### Cores -/

theorem coreTestFx_failed {c : Nat} {d : Device} (hout : d.spare.coreOut.contains c = false) (hdue : coreDue d c = true) :
    (coreTestFx c false d).spare.cores = coreRoles d.spare c ∧
      (coreTestFx c false d).spare.coreOut = d.spare.coreOut ++ [c] := by
  unfold coreTestFx
  rw [hout, hdue]
  extract_lets taken e
  have hj : ∃ u, Judged { e.spare with uses := u } (if taken then spareUsed 10 c e else judgeHealth e).spare := by
    split
    · have h := predict_judged (spareTaken 10 c e)
      rw [spareTaken_spare] at h
      exact ⟨_, h⟩
    · exact ⟨e.spare.uses, judgeHealth_judged e⟩
  obtain ⟨u, h, r, p, hj⟩ := hj
  exact ⟨congrArg Spares.cores hj, congrArg Spares.coreOut hj⟩

theorem coreSelftest_does (s : State) (c : Fin 5) (hout : s.dev.spare.coreOut.contains c.val = false) :
    (coreDue s.dev c.val = false → ∀ pass, Does (.coreSelftest c pass) s (fun e => e = s.dev)) ∧
    (coreDue s.dev c.val = true → Does (.coreSelftest c true) s (fun e => SameBut [.spare] s.dev e ∧ e.spare.cores = s.dev.spare.cores ∧
      e.spare.uses = s.dev.spare.uses) ∧
    Does (.coreSelftest c false) s (fun e => e.spare.cores = coreRoles s.dev.spare c.val ∧
      e.spare.coreOut = s.dev.spare.coreOut ++ [c.val] ∧ SameBut (.spare :: reporting) s.dev e)) := by
  refine ⟨fun hdue pass => ?_, fun hdue => ⟨?_, ?_⟩⟩
  · have hfx : coreTestFx c.val pass s.dev = s.dev := if_pos (by simp [hdue])
    exact act_does_of_clk (f := coreTestFx c.val pass) rfl (by rw [hfx]) hfx
  · have hfx : coreTestFx c.val true s.dev = setSpare (fun x => { x with coreLog := setAt x.coreLog c.val [], coreLate := setAt x.coreLate c.val 0 }) s.dev := by
      rw [coreTestFx, if_neg (by simp [hdue]; simpa using hout)]
      rfl
    refine act_does (f := coreTestFx c.val true) rfl ?_
    rw [hfx]
    exact ⟨sameBut_of_mask rfl, rfl, rfl⟩
  · refine act_does (f := coreTestFx c.val false) rfl ?_
    obtain ⟨hcores, hcoreOut⟩ := coreTestFx_failed hout hdue
    rw [keepClk_spare, hcores, hcoreOut]
    exact ⟨rfl, rfl, sameBut_keepClk (mask_coreTestFx rfl _ _ _)⟩

/-! ### Late firmware -/

/-- The point of a frame that lies as far into it as an RP that lies on the raster is that RP (R2). -/
theorem plus_start_self {r : Raster} {a : RP} (hline : a.line < r.lines) (hsub : a.sub < 65536) :
    RP.plus r (RP.start a.frame) a.inFrame = a := by
  have hlt : a.inFrame < r.frameSub := by
    simp only [RP.inFrame, Raster.frameSub]
    omega
  have ht : ((RP.start a.frame).inFrame : Int) + a.inFrame = (a.inFrame : Int) := by simp [RP.inFrame, RP.start]
  have hq : ((a.inFrame : Int) / (r.frameSub : Int)) = 0 := Int.ediv_eq_zero_of_lt (by omega) (by omega)
  have hr : ((a.inFrame : Int) % (r.frameSub : Int)).toNat = a.inFrame := by
    rw [Int.emod_eq_of_lt (by omega) (by omega), Int.toNat_natCast]
  have hl : a.inFrame / 65536 = a.line := by
    simp only [RP.inFrame]
    omega
  have hs : a.inFrame % 65536 = a.sub := by
    simp only [RP.inFrame]
    omega
  simp only [RP.plus, ht, hq, hr, hl, hs]
  simp [RP.start]

theorem plus_line_lt {r : Raster} (h : 0 < r.lines) (a : RP) (n : Int) : (RP.plus r a n).line < r.lines := by
  have hpos : (0 : Int) < r.frameSub := by
    simp only [Raster.frameSub]
    omega
  have hlt := Int.emod_lt_of_pos ((a.inFrame : Int) + n) hpos
  have hnn := Int.emod_nonneg ((a.inFrame : Int) + n) (by omega : (r.frameSub : Int) ≠ 0)
  simp only [RP.plus, Raster.frameSub] at *
  omega

/-- What late firmware makes of the servo's rate or of the reply card (R257). -/
def lateWork (role : Nat) (due : RP) (d : Device) : Device :=
  if role = 0 then lateServo due d else if role = 3 then lateCard due d else d

theorem mask_lateWork {ps : List Part} (hsub : sub [.tim, .link, .topo, .hif] ps = true) (role : Nat) (due : RP) (d : Device) :
    blank ps (lateWork role due d) = blank ps d := by
  refine mask_mono hsub ?_
  unfold lateWork
  split
  · rw [mask_lateServo rfl]
  · split
    · rw [mask_lateCard rfl]
    · rfl

/-- The point that FW_EVENT_LATE reports for a due RP. -/
def latePoint (due : RP) (d : Device) : RP := RP.plus d.clk.raster (RP.start due.frame) due.inFrame

/-- A late event counted on its core (R257, R375). -/
def lateCounted (role : Nat) (due : RP) (d : Device) : Device :=
  setSpare (fun x => { x with
    coreLate := modAt x.coreLate (d.spare.cores.getD role 0) (fun n => satAdd 255 n 1),
    coreLog := modAt x.coreLog (d.spare.cores.getD role 0) (fun l => l ++ [x.run]),
    fwTold := some (lateWork role (latePoint due d) d).clk.rp.frame })
    (lateWork role (latePoint due d) d)

theorem lateWork_clk (role : Nat) (due : RP) (d : Device) : (lateWork role due d).clk = d.clk :=
  clk_of_mask (ps := others .clk) (mask_lateWork rfl role due d) rfl

theorem lateCounted_spare (role : Nat) (due : RP) (d : Device) : (lateCounted role due d).spare = { d.spare with
    coreLate := modAt d.spare.coreLate (d.spare.cores.getD role 0) (fun n => satAdd 255 n 1),
    coreLog := modAt d.spare.coreLog (d.spare.cores.getD role 0) (fun l => l ++ [d.spare.run]), fwTold := some d.clk.rp.frame } := by
  rw [lateCounted, setSpare_spare, spare_of_mask (ps := others .spare) (mask_lateWork rfl role _ d) rfl, lateWork_clk]

theorem lateCounted_notes (role : Nat) (due : RP) (d : Device) : (lateCounted role due d).notes = d.notes := by
  rw [lateCounted, setSpare_notes, notes_of_mask (ps := others .notes) (mask_lateWork rfl role _ d) rfl]

theorem fwLateFx_eq (role us : Nat) (due : RP) (d : Device) : fwLateFx role us due d =
    when (!(d.spare.fwTold == some d.clk.rp.frame)) (raise 0x0120 (leN 1 role ++ leN 1 (d.spare.cores.getD role 0) ++ zeros 2 ++
      leN 4 (min us 0xFFFFFFFF) ++ (latePoint due d).bytes)) (lateCounted role due d) := rfl

theorem fwEventLate_does (s : State) (role : Fin 4) (us : Nat) (due : RP) (hus : us ≤ 0xFFFFFFFF) :
    Does (.fwEventLate role us due) s (fun e =>
      (s.dev.spare.fwTold = some s.dev.clk.rp.frame → e.notes = s.dev.notes) ∧
      (s.dev.spare.fwTold ≠ some s.dev.clk.rp.frame → ∃ x : RP, Noticed s.dev e 0x0120 (leN 1 role.val ++ leN 1 (s.dev.spare.cores.getD role.val 0) ++ zeros 2 ++ leN 4 us ++ x.bytes) ∧
        (due.line < s.dev.clk.raster.lines → due.sub < 65536 → x = due) ∧ (0 < s.dev.clk.raster.lines → x.line < s.dev.clk.raster.lines)) ∧
      (s.dev.spare.cores.getD role.val 0 < s.dev.spare.coreLate.length → nth e.spare.coreLate (s.dev.spare.cores.getD role.val 0) =
        satAdd 255 (nth s.dev.spare.coreLate (s.dev.spare.cores.getD role.val 0)) 1) ∧
      SameBut (.tim :: .topo :: .spare :: reporting) s.dev e) := by
  refine act_does (f := fwLateFx role.val us due) rfl ?_
  have hspare : (fwLateFx role.val us due s.dev).spare = (lateCounted role.val due s.dev).spare := by
    rw [fwLateFx_eq]
    exact spare_of_mask (ps := others .spare) (by simp (disch := decide) only [blank_when, mask_raise, ite_self]) rfl
  refine ⟨fun h => ?_, fun h => ⟨latePoint due s.dev, ?_, plus_start_self, fun hlines => plus_line_lt hlines _ _⟩, fun hlt => ?_,
    sameBut_keepClk (mask_fwLateFx rfl _ _ _ _)⟩
  · rw [keepClk_notes, fwLateFx_eq, h]
    simp [when, lateCounted_notes]
  · rw [Noticed, keepClk_notes, fwLateFx_eq, when, if_pos (by simpa using h), Nat.min_eq_left hus]
    exact noticed_raise (lateCounted_notes _ _ _) _ _
  · rw [keepClk_spare, hspare, lateCounted_spare]
    exact getD_modAt_same hlt _ _

/-! ### Errors of memory -/

theorem calErrorFx_first {x : CalError} {d : Device} (hbad : x.uncorrected = true) (hword : x.word < calWords)
    (hfresh : d.spare.repaired = []) : ∃ y, calErrorFx x d = calPoison x.word (setSpare y d) := by
  rw [calErrorFx, if_neg (Nat.not_le.mpr hword)]
  obtain ⟨a, b⟩ := mget d.spare.calEcc (calBank d x.word) (0, 0)
  simp only [hbad, if_true]
  rw [when, if_neg (by simp [hfresh])]
  exact ⟨_, rfl⟩

theorem calPoison_first {w p r : Nat} {d : Device} (hnone : d.corr.poison = []) (hp : (recordNow d).primaries = p)
    (hr : calRegion p w = r) (hr4 : r ≠ 4) : calPoison w d = raise 0x3013 (leN 1 (nth [0, 1, 1, 2] r) ++ zeros 1 ++
      leN 4 (calPixel p w) ++ zeros 2) (setCorr (fun c => { c with poison := c.poison ++ [w] }) d) := by
  rw [calPoison, hp, hr, if_neg (by simp [hnone, hr4])]

theorem calStoreScrub_poisons {x : CalError} {p r : Nat} {s : State} (hbad : x.uncorrected = true) (hnone : s.dev.corr.poison = [])
    (hfresh : s.dev.spare.repaired = []) (hp : p = (recordNow s.dev).primaries) (hr : r = calRegion p x.word)
    (hword : x.word < calWords) (hr4 : r ≠ 4) : Does (.calStoreScrub (.cal x)) s (fun e => e.corr.poison = [x.word] ∧
      Noticed s.dev e 0x3013 (leN 1 (nth [0, 1, 1, 2] r) ++ zeros 1 ++ leN 4 (calPixel p x.word) ++ zeros 2)) := by
  obtain ⟨y, hy⟩ := calErrorFx_first hbad hword hfresh
  rw [calPoison_first (d := setSpare y s.dev) (p := p) (r := r) hnone hp.symm hr.symm hr4] at hy
  refine act_does (f := calErrorFx x) rfl ?_
  rw [hy, keepClk_corr, Noticed, keepClk_notes, raise_corr, setCorr_corr, setSpare_corr, hnone]
  exact ⟨rfl, noticed_raise (d := s.dev) (by rfl) _ _⟩

theorem foldl_voids {α : Type} {g : Device → α → Device} (hg : ∀ e a, (g e a).pxl.voids = e.pxl.voids) (l : List α) (d : Device) :
    (l.foldl g d).pxl.voids = d.pxl.voids := by
  induction l generalizing d with
  | nil => rfl
  | cons a l ih => exact (ih _).trans (hg d a)

theorem spoilSeg_voids (n : NodeRecord) (x : Nat × Nat) (d : Device) : (spoilSeg n x d).pxl.voids = d.pxl.voids := by
  unfold spoilSeg
  exact foldl_voids (fun _ _ => foldl_voids (fun _ _ => by rfl) _ _) _ _

theorem spoilSegs_voids (n : NodeRecord) (ys : List (Nat × Nat)) (d : Device) :
    (ys.foldl (fun d x => spoilSeg n x d) d).pxl.voids = d.pxl.voids :=
  foldl_voids (fun _ _ => spoilSeg_voids n _ _) ys d

theorem outVoid_noGraph {ys : List (Nat × Nat)} {d : Device} (h : d.pxl.graph = none) :
    (outVoid ys d).regs = (d.bump 0x380C ys.length).regs ∧ (outVoid ys d).pxl.voids = d.pxl.voids ++ ys := by
  rw [outVoid, h]
  constructor
  · refine regs_of_mask (ps := others .regs) ?_ rfl
    rw [mask_loadAgain rfl, mask_foldl (fun d x => mask_spoilSeg rfl _ x d), mask_setPxl rfl]
  · rw [pxl_of_mask (ps := others .pxl) (mask_loadAgain rfl _ _) rfl, spoilSegs_voids]
    rfl

theorem outVoid_unreleased {ys : List (Nat × Nat)} {g : Graph} {d : Device} (hg : d.pxl.graph = some g)
    (hys : ∀ x ∈ ys, g.released ≤ segIndex g.record x.1 x.2) :
    outVoid ys d = setPxl (fun p => { p with graph := some { g with voids := g.voids ++ ys } }) d := by
  have hgone : ys.filter (fun x => decide (segIndex g.record x.1 x.2 < g.released)) = [] :=
    List.filter_eq_nil_iff.mpr fun x hx => by simpa using hys x hx
  rw [outVoid, hg]
  simp only [hgone, List.append_nil]
  rfl

theorem calRepairFx_one {w : Nat} {d : Device} (h : d.corr.poison = [w]) : calRepairFx d = setSpare (fun x => { x with
    repaired := if x.repaired.contains (calBank d w, w % 256) then x.repaired else x.repaired ++ [(calBank d w, w % 256)] })
      (calRepair w d) := by
  rw [calRepairFx, h]
  rfl

theorem calRepair_poison (w : Nat) (d : Device) : (calRepair w d).corr.poison = d.corr.poison.filter (· != w) := by
  rw [calRepair, setCorr_corr]
  split
  · rfl
  · split <;> rfl

theorem calStoreRepair_does {x : Nat} {s : State} (h : s.dev.corr.poison = [x]) :
    Does .calStoreRepair s (fun e => e.corr.poison = [] ∧ (calBank s.dev x, x % 256) ∈ e.spare.repaired ∧
      SameBut [.corr, .spare] s.dev e) := by
  refine act_does (f := calRepairFx) rfl ?_
  rw [calRepairFx_one h, keepClk_corr, keepClk_spare, setSpare_corr, setSpare_spare, calRepair_poison, h]
  refine ⟨by simp, ?_, sameBut_keepClk ?_⟩
  · simp only
    split
    case isTrue hin => simpa using hin
    case isFalse => simp
  · rw [mask_setSpare rfl, calRepair, mask_setCorr rfl]

/-- A hold buffer of the layer does not move once its copy has ended (R218). -/
theorem moved_still {a : Buffer} {layer place : Nat}
    (hl : (if a.layer == layer && a.hold && a.moving then { a with moving := false, place := place } else a).layer = layer)
    (hh : (if a.layer == layer && a.hold && a.moving then { a with moving := false, place := place } else a).hold = true) :
    (if a.layer == layer && a.hold && a.moving then { a with moving := false, place := place } else a).moving = false := by
  split at hl
  case isTrue h => rw [if_pos h]
  case isFalse h =>
    rw [if_neg h] at hh ⊢
    simpa [hl, hh] using h

/-- Settles O47: each monitor keeps its sample, and what it finds worn is a spare used. -/
theorem sparesBroughtIn : Obligations.SparesBroughtIn := by
  refine fun s => ⟨fun worst => ageingSample_does worst s, exhaustionPrediction_does s,
    fun lane w heyes hlows => eyeWidthSample_does s lane w heyes hlows, fun lane h => segmentAmplitudeCheck_does s lane h,
    fun p h => spareUsed_does rfl (if_neg (by simpa using h)), fun p h => spareUsed_does rfl (if_neg (by simpa using h)),
    fun c hout => coreSelftest_does s c hout, fun role us due hus => fwEventLate_does s role us due hus, ?_, fun layer => ?_,
    fun x p r hbad hnone hfresh hp hr hword hr4 => calStoreScrub_poisons hbad hnone hfresh hp hr hword hr4, fun y => ?_, ?_,
    fun ys hg => ?_, fun ys g hg hys => ?_, fun x hx => calStoreRepair_does hx⟩
  · refine act_does (f := setSpare (fun x => { x with fills := x.fills.drop 1 })) rfl ?_
    exact ⟨rfl, sameBut_of_mask rfl⟩
  · refine act_does rfl ⟨sameBut_of_mask rfl, fun b hb hl hh => ?_⟩
    obtain ⟨a, -, rfl⟩ := List.mem_map.mp hb
    exact moved_still hl hh
  · refine act_does (f := memErrorFx (.store y)) rfl ?_
    exact ⟨rfl, sameBut_of_mask rfl⟩
  · exact act_does (f := memErrorFx (.other none)) rfl rfl
  · refine act_does (f := memErrorFx (.other (some ys))) rfl ?_
    obtain ⟨hregs, hvoids⟩ := outVoid_noGraph (ys := ys) hg
    rw [word_of_regs (keepClk_regs ..), keepClk_pxl]
    exact ⟨(word_of_regs hregs _).trans (word_bump _ _ _), hvoids⟩
  · refine act_does (f := memErrorFx (.other (some ys))) rfl ?_
    have hfx : memErrorFx (.other (some ys)) s.dev = _ := outVoid_unreleased hg hys
    rw [hfx]
    exact ⟨rfl, sameBut_of_mask rfl⟩

end Sys2Proof.Proofs
end

/-! ## Sys2Proof/Proofs/Metering: samples, pulses, crossings and METER_CONFIG (R472 to R479, R484) -/

section

namespace Sys2Proof.Proofs

open Machine Laws

/-- A command that changes the metering state and nothing else. -/
theorem setMtr_does {f : Device → Device} {g : Meter → Meter} {s : State} {i : Instr} (hi : exec i s = act f s)
    (hf : f s.dev = setMtr g s.dev) : Does i s (fun e => e.mtr = g s.dev.mtr ∧ SameBut [.mtr] s.dev e) :=
  act_does_of_clk hi (by rw [hf, setMtr_clk]) (by rw [hf]; exact ⟨rfl, sameBut_of_mask rfl⟩)

/-- At a head a report is a notice (R412). -/
theorem report_head {d : Device} (h : d.isHead = true) (kind : Nat) (subject : Option (BitVec 12)) (code : Nat)
    (payload : List Byte) : report kind subject code payload d = raise code payload d := if_pos h

/-! ### Samples -/

/-- With no offset, a code that does not reach the clamp is used as it is (R472). -/
theorem meterCode_zero {v : Int} (h : atClamp v = false) : meterCode v 0 = v := by
  simp only [atClamp, decide_eq_false_iff_not] at h
  rw [meterCode, clamp, if_neg (by omega), if_neg (by omega)]
  omega

theorem nthI_zeros (n i : Nat) : nthI (List.replicate n 0) i = 0 := by
  simp only [nthI, List.getD_eq_getElem?_getD, List.getElem?_replicate]
  split <;> rfl

/-- The channel with a sample added (R474). -/
def sampled (c : Channel) (v i : Int) : Channel :=
  { c with imp := if 0 < v * i then c.imp + energyInc c.k v i else c.imp,
           exp_ := if v * i < 0 then c.exp_ + energyInc c.k v i else c.exp_,
           recent := lastN 8000 (c.recent ++ [(v * c.vfs, i * c.ifs)]) }

theorem meterSampleFx_plain {ch : Nat} {v i : Int} {c : Channel} {d : Device} (hm : metering d = true)
    (hc : d.mtr.chans[ch]? = some c) (hifs : c.ifs ≠ 0) (hv : atClamp v = false) (hi : atClamp i = false)
    (hoff : d.cal.offsAt = List.replicate 12 0) (himp : c.imp + energyInc c.k v i < 2 ^ 88)
    (hexp : c.exp_ + energyInc c.k v i < 2 ^ 88) :
    meterSampleFx ch v i d = setMtr (fun m => { m with chans := m.chans.set ch (sampled c v i) }) d := by
  have hget : d.mtr.chans.getD ch {} = c := by rw [List.getD_eq_getElem?_getD, hc, Option.getD_some]
  have himp' : (if 0 < v * i then c.imp + energyInc c.k v i else c.imp) < 2 ^ 88 := by split <;> omega
  have hexp' : (if v * i < 0 then c.exp_ + energyInc c.k v i else c.exp_) < 2 ^ 88 := by split <;> omega
  rw [meterSampleFx, if_neg (by simp [hm, hc, hifs])]
  simp only [hget, hv, hi, Bool.or_self, when_false, hoff, nthI_zeros, meterCode_zero hv, meterCode_zero hi, Nat.mod_eq_of_lt himp',
    Nat.mod_eq_of_lt hexp', decide_eq_false (Nat.not_le.mpr himp'), decide_eq_false (Nat.not_le.mpr hexp')]
  rfl

/-! ### Pulses and glitches -/

theorem s0PulseFx_plain {n : Nat} {x : S0In} {d : Device} (hm : metering d = true) (hx : d.mtr.s0[n]? = some x)
    (hconst : x.const ≠ 0) (he : x.energy + (x.rem + 10000000) / x.const < 2 ^ 48) (hcount : x.count + 1 < 2 ^ 48) :
    s0PulseFx n d = setMtr (fun m => { m with s0 := m.s0.set n { x with
      energy := x.energy + (x.rem + 10000000) / x.const, rem := (x.rem + 10000000) % x.const, count := x.count + 1 } }) d := by
  have hget : d.mtr.s0.getD n {} = x := by rw [List.getD_eq_getElem?_getD, hx, Option.getD_some]
  rw [s0PulseFx, if_neg (by simp [hm, hx, hconst])]
  simp only [hget, Nat.mod_eq_of_lt he, Nat.mod_eq_of_lt hcount, decide_eq_false (Nat.not_le.mpr he),
    decide_eq_false (Nat.not_le.mpr hcount)]
  rfl

theorem s0GlitchFx_plain {n : Nat} {x : S0In} {d : Device} (hm : metering d = true) (hx : d.mtr.s0[n]? = some x)
    (hconst : x.const ≠ 0) : s0GlitchFx n d = setMtr (fun m => { m with s0 := m.s0.set n { x with
      glitch := satAdd 65535 x.glitch 1, asked := satAdd 65535 x.asked 1 } }) d := by
  have hget : d.mtr.s0.getD n {} = x := by rw [List.getD_eq_getElem?_getD, hx, Option.getD_some]
  rw [s0GlitchFx, if_neg (by simp [hm, hx, hconst])]
  simp only [hget]
  rfl

/-! ### The mains -/

/-- The mains as a crossing `cycles` after the last shows them (R478). -/
def crossed (cycles : Nat) (d : Device) : Device :=
  setMtr (fun x => { x with
    freq := (24576000000 + cycles) / (2 * cycles), lastZc := some d.clk.rp, crossings := min 2 (x.crossings + 1),
    lost := false, seen := true }) d

theorem crossingFx_accepted {cycles : Nat} {d : Device} (hm : metering d = true) (hc : 24576 < cycles)
    (hcross : d.mtr.crossings ≠ 0) (hboth : d.mtr.zcBoth = false) : crossingFx cycles d =
      when d.mtr.lost (raise 0x7802 (leN 4 (min 0xFFFFFFFF (cycles / 12288)) ++ zeros 4 ++ d.clk.rp.bytes)) (crossed cycles d) := by
  rw [crossingFx, if_neg (by simp [hm, Nat.not_le.mpr hc])]
  simp only [hboth, Bool.false_eq_true, if_false, hcross, show cycles ≠ 0 by omega, or_self]
  rfl

theorem mainsZcCrossing_does {cycles : Nat} {s : State} (hm : metering s.dev = true) (hc : 24576 < cycles)
    (hcross : s.dev.mtr.crossings ≠ 0) (hboth : s.dev.mtr.zcBoth = false) : Does (.mainsZcCrossing cycles) s (fun e =>
      e.mtr.freq = (24576000000 + cycles) / (2 * cycles) ∧ e.mtr.lastZc = some s.dev.clk.rp ∧ e.mtr.lost = false ∧
      e.mtr.chans = s.dev.mtr.chans ∧ (s.dev.mtr.lost = false → SameBut [.mtr] s.dev e)) := by
  have hfx := crossingFx_accepted hm hc hcross hboth
  have hmtr : (crossingFx cycles s.dev).mtr = (crossed cycles s.dev).mtr := by
    rw [hfx]
    exact mtr_of_mask (ps := others .mtr) (by simp (disch := decide) only [blank_when, mask_raise, ite_self]) rfl
  refine act_does (f := crossingFx cycles) rfl ?_
  rw [keepClk_mtr, hmtr]
  refine ⟨rfl, rfl, rfl, rfl, fun hlost => ?_⟩
  rw [hfx, hlost]
  exact sameBut_of_mask rfl

/-- A save begun or joined leaves one under way, and the rest of the mains as it was (R481). -/
theorem saveStart_mtr (cmd : Option (RP × Cmd)) (d : Device) : ∃ x again cs,
    (saveStart cmd d).mtr = { d.mtr with save := some x, again := again, againCmds := cs } := by
  unfold saveStart
  extract_lets cs
  split
  · exact ⟨_, _, _, rfl⟩
  case h_2 x hx =>
    split
    · exact ⟨_, _, _, rfl⟩
    · exact ⟨x, true, d.mtr.againCmds ++ cs, by rw [setMtr_mtr, ← hx]⟩

/-- The mains lost, before the save that their loss may ask for (R479). -/
def mainsGone (d : Device) : Device :=
  report 0x0E none 0x7801 (leN 4 d.mtr.freq ++ zeros 4 ++ rpOr d.mtr.lastZc)
    (setMtr (fun x => { x with lost := true, freq := 0, crossings := 0 }) d)

theorem mainsLostFx_eq {d : Device} (hm : metering d = true) (hcross : d.mtr.crossings ≠ 0) (hlost : d.mtr.lost = false) :
    mainsLostFx d = when d.mtr.saveOnLoss (saveStart none) (mainsGone d) := by
  rw [mainsLostFx, if_neg (by simp [hm, hcross, hlost])]
  rfl

theorem mainsGone_mtr (d : Device) : (mainsGone d).mtr = { d.mtr with lost := true, freq := 0, crossings := 0 } := by
  rw [mainsGone, report_mtr]
  rfl

theorem mainsLostFx_mtr {d : Device} (hm : metering d = true) (hcross : d.mtr.crossings ≠ 0) (hlost : d.mtr.lost = false) :
    ∃ x again cs, (mainsLostFx d).mtr = { d.mtr with lost := true, freq := 0, crossings := 0, save := x, again := again, againCmds := cs } ∧
      (d.mtr.saveOnLoss = true → x.isSome = true) := by
  rw [mainsLostFx_eq hm hcross hlost]
  by_cases hsave : d.mtr.saveOnLoss = true
  · obtain ⟨x, again, cs, hx⟩ := saveStart_mtr none (mainsGone d)
    exact ⟨some x, again, cs, by rw [when, if_pos hsave, hx, mainsGone_mtr], fun _ => rfl⟩
  · exact ⟨_, _, _, by rw [when, if_neg hsave, mainsGone_mtr], fun h => absurd h hsave⟩

theorem mainsLost_does {s : State} (hm : metering s.dev = true) (hcross : s.dev.mtr.crossings ≠ 0) (hlost : s.dev.mtr.lost = false) :
    Does .mainsLost s (fun e => e.mtr.lost = true ∧ e.mtr.freq = 0 ∧
      e.mtr.crossings = 0 ∧ (s.dev.mtr.saveOnLoss = true → e.mtr.save.isSome = true) ∧
      (s.dev.isHead = true → Noticed s.dev e 0x7801 (leN 4 s.dev.mtr.freq ++ zeros 4 ++ rpOr s.dev.mtr.lastZc)) ∧
      SameBut (.mtr :: reporting) s.dev e) := by
  refine act_does (f := mainsLostFx) rfl ?_
  obtain ⟨x, again, cs, hmtr, hsave⟩ := mainsLostFx_mtr hm hcross hlost
  rw [keepClk_mtr, hmtr]
  refine ⟨rfl, rfl, rfl, hsave, fun hhead => ?_, sameBut_keepClk (mask_mainsLostFx rfl s.dev)⟩
  rw [Noticed, keepClk_notes, mainsLostFx_eq hm hcross hlost, notes_of_mask (ps := others .notes) (d := mainsGone s.dev)
    (by simp (disch := decide) only [blank_when, mask_saveStart, ite_self]) rfl, mainsGone, report_head (d := setMtr _ s.dev) hhead]
  exact noticed_raise (d := s.dev) (by rfl) _ _

/-! ### METER_CONFIG -/

/-- A good meter record in force, the command completed (R484). -/
def meterSet (c : Cmd) (x : MeterSet) (d : Device) : Device :=
  finish 0x79 c (boundaryRp d) [] (setMtr (fun m => { m with byCmd := true }) (putMeter x d))

section
variable {c : Cmd} {b : List Byte} {d : Device}

theorem meterConfigFx_good (ha : misaligned c = false) (hb : c.host = .data b) (hgood : meterBad (meterRec b) = none) :
    meterConfigFx c d = when ((meterRec b).period != d.mtr.period && saveOverdue (meterRec b).period d) (saveStart none)
      (meterSet c (meterRec b) d) := by
  rw [meterConfigFx, ha, hb]
  simp only [hgood]
  rfl

theorem meterConfigFx_bad {o : Nat} (ha : misaligned c = false) (hb : c.host = .data b) (hbad : meterBad (meterRec b) = some o) :
    meterConfigFx c d = refuse 0x79 c 4 (leN 1 o) d := by
  rw [meterConfigFx, ha, hb]
  simp only [hbad]
  rfl

theorem meterSet_mtr (c : Cmd) (x : MeterSet) (d : Device) : (meterSet c x d).mtr = { (putMeter x d).mtr with byCmd := true } := by
  rw [meterSet, finish_mtr]
  rfl

theorem meterSet_finished (c : Cmd) (x : MeterSet) (d : Device) : Finished d (meterSet c x d) 0x79 c (boundaryRp d) [] :=
  finished_finish (e := setMtr _ (putMeter x d)) rfl _ _ _ _

end

theorem meterConfig_does {c : Cmd} {b : List Byte} {s : State} (ha : misaligned c = false) (hb : c.host = .data b)
    (hgood : meterBad (meterRec b) = none) :
    ((meterRec b).period = s.dev.mtr.period ∨ saveOverdue (meterRec b).period s.dev = false →
      Does (.meterConfig c) s (fun e => e.mtr = { (putMeter (meterRec b) s.dev).mtr with byCmd := true } ∧
        Finished s.dev e 0x79 c (boundaryRp s.dev) [] ∧ SameBut (.mtr :: .comps :: reporting) s.dev e)) ∧
    ((meterRec b).period ≠ s.dev.mtr.period → saveOverdue (meterRec b).period s.dev = true →
      Does (.meterConfig c) s (fun e => e.mtr.period = (meterRec b).period ∧ e.mtr.save.isSome = true ∧
        Finished s.dev e 0x79 c (boundaryRp s.dev) [] ∧ SameBut (.mtr :: .comps :: reporting) s.dev e)) := by
  have hmask : SameBut (.mtr :: .comps :: reporting) s.dev (keepClk s.dev (meterConfigFx c s.dev)) :=
    sameBut_keepClk (mask_meterConfigFx rfl c s.dev)
  refine ⟨fun h => ?_, fun hp ho => ?_⟩ <;> refine act_does (f := meterConfigFx c) rfl ?_
  · have hnot : ((meterRec b).period != s.dev.mtr.period && saveOverdue (meterRec b).period s.dev) = false := by
      rcases h with h | h <;> simp [h]
    have hfx : meterConfigFx c s.dev = meterSet c (meterRec b) s.dev := by rw [meterConfigFx_good ha hb hgood, hnot]; rfl
    rw [hfx] at hmask ⊢
    exact ⟨meterSet_mtr _ _ _, meterSet_finished _ _ _, hmask⟩
  · have hnow : ((meterRec b).period != s.dev.mtr.period && saveOverdue (meterRec b).period s.dev) = true := by simp [hp, ho]
    have hfx : meterConfigFx c s.dev = saveStart none (meterSet c (meterRec b) s.dev) := by
      rw [meterConfigFx_good ha hb hgood, hnow]
      rfl
    obtain ⟨x, again, cs, hx⟩ := saveStart_mtr none (meterSet c (meterRec b) s.dev)
    rw [hfx] at hmask ⊢
    rw [keepClk_mtr, hx, meterSet_mtr, Finished, Completed, keepClk_comps,
      comps_of_mask (ps := others .comps) (mask_saveStart rfl none _) rfl]
    exact ⟨rfl, rfl, meterSet_finished _ _ _, hmask⟩

/-- Settles O54: each row changes the metering state of its channel, input or mains, and a record is put in force or refused. -/
theorem energyMetered : Obligations.EnergyMetered := by
  refine fun s => ⟨fun hm => ⟨fun ch v i c hc hifs hv hi hoff himp hexp => ?_, fun n x hx hconst => ⟨fun he hcount => ?_, ?_⟩,
    fun cycles hc hlast => ?_, fun cycles hc hcross hboth => mainsZcCrossing_does hm hc hcross hboth,
    fun hcross hlost => mainsLost_does hm hcross hlost⟩, fun c b ha hb => ⟨fun hgood => meterConfig_does ha hb hgood, fun o hbad => ?_⟩⟩
  · exact setMtr_does (f := meterSampleFx ch.val v i) rfl (meterSampleFx_plain hm hc hifs hv hi hoff himp hexp)
  · exact setMtr_does (f := s0PulseFx n.val) rfl (s0PulseFx_plain hm hx hconst he hcount)
  · exact setMtr_does (f := s0GlitchFx n.val) rfl (s0GlitchFx_plain hm hx hconst)
  · have hfx : crossingFx cycles s.dev = s.dev := if_pos (by simp [hlast, hc])
    exact act_does_of_clk (f := crossingFx cycles) rfl (by rw [hfx]) hfx
  · refine act_does (f := meterConfigFx c) rfl ?_
    rw [meterConfigFx_bad ha hb hbad]
    exact ⟨refuse_completed _ _ _ _ _, refuse_mtr _ _ _ _ _⟩

end Sys2Proof.Proofs
end

/-! ## Sys2Proof/Proofs/EnergySaves: saves of the energy registers, ENERGY_SAVE and ENERGY_QUERY (R480 to R482, R485, R486) -/

section

namespace Sys2Proof.Proofs

open Machine Laws

/-! ### A save begins -/

theorem saveStart_first {cmd : Option (RP × Cmd)} {d : Device} (h : d.mtr.save = none) : saveStart cmd d =
    setMtr (fun m => { m with save := some { slot := slotNow d, begun := d.clk.rp, cmds := cmd.toList } }) d := by
  unfold saveStart
  rw [h]
  cases cmd <;> rfl

/-! ### A save ends -/

section
variable {d : Device} {x : MeterSave} {at_ : RP} {c : Cmd}

/-- The device with a save's row written (R480, R481). -/
def savedRow (x : MeterSave) (d : Device) : Device :=
  rowWritten x.slot.row (setMtr (fun m => { m with
    save := none, row := (x.slot.row + 1) % 1024, slot := some x.slot, savedRp := some d.clk.rp }) d)

theorem savedRow_mtr (x : MeterSave) (d : Device) : (savedRow x d).mtr =
    { d.mtr with save := none, row := (x.slot.row + 1) % 1024, slot := some x.slot, savedRp := some d.clk.rp } := by
  rw [savedRow, mtr_of_mask (ps := others .mtr) (mask_rowWritten rfl _ _) rfl]
  rfl

theorem savedRow_comps (x : MeterSave) (d : Device) : (savedRow x d).comps = d.comps := by
  rw [savedRow, comps_of_mask (ps := others .comps) (mask_rowWritten rfl _ _) rfl]
  rfl

/-- The device with a save's row given up (R482). -/
def lostRow (x : MeterSave) (d : Device) : Device :=
  raise 0x7804 (leN 2 x.slot.row ++ zeros 2 ++ leN 4 x.slot.seq.toNat)
    (rowRemap x.slot.row (setMtr (fun m => { m with save := none, row := (x.slot.row + 1) % 1024 }) d))

theorem lostRow_mtr (x : MeterSave) (d : Device) :
    (lostRow x d).mtr = { d.mtr with save := none, row := (x.slot.row + 1) % 1024 } := by
  rw [lostRow, raise_mtr, mtr_of_mask (ps := others .mtr) (mask_rowRemap rfl _ _) rfl]
  rfl

theorem lostRow_comps (x : MeterSave) (d : Device) : (lostRow x d).comps = d.comps := by
  rw [lostRow, raise_comps, comps_of_mask (ps := others .comps) (mask_rowRemap rfl _ _) rfl]
  rfl

theorem saveDoneFx_good (hx : d.mtr.save = some x) (hc : x.cmds = [(at_, c)]) (hagain : d.mtr.again = false)
    (hrow : d.spare.nvmBad.contains x.slot.row = false) :
    saveDoneFx true d = finish 0x7A c at_ (leN 4 x.slot.seq.toNat ++ leN 2 x.slot.row) (savedRow x d) := by
  have hnext : ∀ e : Device, e.mtr.again = false → saveNext false e = e := fun e he => if_neg (by simp [he])
  have hfx : saveDoneFx true d = saveNext false (finish 0x7A c at_ (leN 4 x.slot.seq.toNat ++ leN 2 x.slot.row) (savedRow x d)) := by
    rw [saveDoneFx, hx]
    simp only [hc]
    rw [if_neg (by simpa using hrow), if_pos trivial]
    rfl
  rw [hfx, hnext _ (by rw [finish_mtr, savedRow_mtr]; exact hagain)]

theorem saveDoneFx_failed (hx : d.mtr.save = some x) (hc : x.cmds = [(at_, c)])
    (hrow : d.spare.nvmBad.contains x.slot.row = false) :
    saveDoneFx false d = saveNext true (complete 0x7A c 0x0B none [] (lostRow x d)) := by
  rw [saveDoneFx, hx]
  simp only [hc]
  rw [if_neg (by simpa using hrow), if_neg (by decide)]
  rfl

theorem saveNext_retry (d : Device) : saveNext true d = setMtr (fun m => { m with
    save := some { slot := slotNow d, begun := d.clk.rp, cmds := m.againCmds }, again := false, againCmds := [] }) d := rfl

end

/-- With no reset that waits for the save, METER_SAVE_DONE ends it and no more. -/
theorem meterDoneFx_eq {ok : Bool} {d : Device} (hhost : d.pwr.hostReset = none) (hwd : d.pwr.wdReset = false) :
    meterDoneFx ok d = quiet (saveDoneFx ok) d := by
  have hpwr : (saveDoneFx ok d).pwr = d.pwr := pwr_of_mask (ps := others .pwr) (mask_saveDoneFx rfl ok d) rfl
  have hsaved : hostResetSaved false ok (saveDoneFx ok d) = saveDoneFx ok d := by
    rw [hostResetSaved, hpwr, hhost]
  have hquiet : quiet (fun d => hostResetSaved false ok (saveDoneFx ok d)) d = quiet (saveDoneFx ok) d := by
    rw [quiet, quiet, hsaved]
  rw [meterDoneFx, hquiet]
  exact if_neg (by rw [quiet, keepClk_pwr, hpwr, hwd]; simp)

theorem meterSaveDone_does {s : State} {x : MeterSave} {at_ : RP} {c : Cmd} (hx : s.dev.mtr.save = some x)
    (hc : x.cmds = [(at_, c)]) (hagain : s.dev.mtr.again = false) (hhost : s.dev.pwr.hostReset = none)
    (hwd : s.dev.pwr.wdReset = false) (hrow : s.dev.spare.nvmBad.contains x.slot.row = false) :
    Does (.meterSaveDone true) s (fun e => e.mtr = { s.dev.mtr with save := none, slot := some x.slot, row := (x.slot.row + 1) % 1024, savedRp := some s.dev.clk.rp } ∧
      Finished s.dev e 0x7A c at_ (leN 4 x.slot.seq.toNat ++ leN 2 x.slot.row)) ∧
    Does (.meterSaveDone false) s (fun e => e.mtr.slot = s.dev.mtr.slot ∧ e.mtr.row = (x.slot.row + 1) % 1024 ∧
      (∃ y, e.mtr.save = some y ∧ y.slot.row = (x.slot.row + 1) % 1024 ∧ y.cmds = s.dev.mtr.againCmds) ∧
      Completed s.dev e 0x7A c 0x0B none []) := by
  constructor <;> refine clocked_does (f := meterDoneFx _) rfl ?_ <;> rw [meterDoneFx_eq hhost hwd, quiet, keepClk_mtr]
  · rw [saveDoneFx_good hx hc hagain hrow, finish_mtr, savedRow_mtr, Finished, Completed, keepClk_comps]
    exact ⟨rfl, finished_finish (savedRow_comps x s.dev) _ _ _ _⟩
  · have hmtr : (complete 0x7A c 0x0B none [] (lostRow x s.dev)).mtr =
        { s.dev.mtr with save := none, row := (x.slot.row + 1) % 1024 } := by rw [complete_mtr, lostRow_mtr]
    rw [saveDoneFx_failed hx hc hrow, saveNext_retry, Completed, keepClk_comps, setMtr_mtr, setMtr_comps, hmtr, slotNow, hmtr,
      complete_comps, lostRow_comps]
    exact ⟨rfl, rfl, ⟨_, rfl, rfl, rfl⟩, rfl⟩

/-! ### ENERGY_QUERY -/

/-- A device that has taken free values and is otherwise the same. -/
def Drawn (d e : Device) : Prop := blank [.tim] e = blank [.tim] d

theorem meterMean_drawn {d e : Device} (h : Drawn d e) (sum : Int) (n unit : Nat) : Drawn d (meterMean sum n unit e).2 := by
  rw [Drawn, mask_meterMean rfl, h]

theorem queryChannel_does (c : Cmd) (i : Nat) (d : Device) : (queryChannel c i d).mtr = d.mtr ∧
    ∃ result, Finished d (queryChannel c i d) 0x78 c d.clk.rp
      (leN 6 (energyReg (d.mtr.chans.getD i {}).imp) ++ leN 6 (energyReg (d.mtr.chans.getD i {}).exp_) ++ result) := by
  unfold queryChannel
  extract_lets x n sv si sp
  have hv := meterMean_drawn (d := d) (e := d) rfl sv n (2 ^ 23)
  rcases hd1 : meterMean sv n (2 ^ 23) d with ⟨v, d1⟩
  rw [hd1] at hv
  have ha := meterMean_drawn hv si n (2 ^ 23)
  rcases hd2 : meterMean si n (2 ^ 23) d1 with ⟨a, d2⟩
  rw [hd2] at ha
  have hp := meterMean_drawn ha sp n (2 ^ 46 * 100000)
  rcases hd3 : meterMean sp n (2 ^ 46 * 100000) d2 with ⟨p, d3⟩
  rw [hd3] at hp
  simp only [hd2, hd3]
  refine ⟨?_, ?_⟩
  · rw [finish_mtr, mtr_of_mask hp rfl]
  · rw [clk_of_mask hp rfl]
    simp only [List.append_assoc]
    exact ⟨_, finished_finish (comps_of_mask hp rfl) _ _ _ _⟩

/-! ### The commands -/

theorem energyQueryFx_input {c : Cmd} {d : Device} {x : S0In} (h6 : 6 ≤ opB c 0) (h7 : opB c 0 ≤ 7)
    (hx : d.mtr.s0[opB c 0 - 6]? = some x) : energyQueryFx c d =
      finish 0x78 c d.clk.rp (leN 6 x.energy ++ leN 6 x.count ++ leN 4 x.const ++ leN 2 x.asked ++
        leN 1 (bit (hasBit d.mtr.wraps (10 + opB c 0)) + 2 * bit (hasBit d.mtr.wraps (12 + opB c 0))) ++ zeros 13)
        (setMtr (fun m => { m with s0 := modAt m.s0 (opB c 0 - 6) (fun x => { x with asked := 0 }) }) d) := by
  have hget : d.mtr.s0.getD (opB c 0 - 6) {} = x := by rw [List.getD_eq_getElem?_getD, hx, Option.getD_some]
  rw [energyQueryFx, if_neg (by omega), if_neg (by omega), if_pos (by omega), hget]

theorem energyQueryFx_mains {c : Cmd} {d : Device} (h : opB c 0 = 8) : energyQueryFx c d = finish 0x78 c d.clk.rp
    (leN 4 d.mtr.freq ++ leN 1 (bit d.mtr.lost + 2 * bit d.mtr.seen) ++ zeros 3 ++ rpOr d.mtr.lastZc ++ zeros 16) d := by
  rw [energyQueryFx, if_neg (by omega), if_neg (by omega), if_neg (by omega)]

theorem energyQueryFx_channel {c : Cmd} (h : opB c 0 < 6) (d : Device) : energyQueryFx c d = queryChannel c (opB c 0) d := by
  rw [energyQueryFx, if_neg (by omega), if_pos h]

/-- Settles O55: a save begins with the values as they stand and ends with its row, and each query reads its registers. -/
theorem energySaved : Obligations.EnergySaved := by
  refine fun s => ⟨fun hm hsave => ?_, fun c hsave => ?_, fun x at_ c hx hc hagain hhost hwd hrow =>
    meterSaveDone_does hx hc hagain hhost hwd hrow, fun c x h6 h7 hx => ?_, fun c h => ?_, fun c h => ?_⟩
  · exact setMtr_does (f := fun d => if metering d then saveStart none d else d) rfl ((if_pos hm).trans (saveStart_first hsave))
  · exact setMtr_does (f := fun d => saveStart (some (d.clk.rp, c)) d) rfl (saveStart_first hsave)
  · refine act_does (f := energyQueryFx c) rfl ?_
    rw [energyQueryFx_input h6 h7 hx, keepClk_mtr, finish_mtr, setMtr_mtr, modAt_eq_set hx, Finished, Completed, keepClk_comps]
    exact ⟨rfl, finished_finish (e := setMtr _ s.dev) rfl _ _ _ _⟩
  · refine act_does (f := energyQueryFx c) rfl ?_
    rw [energyQueryFx_mains h, keepClk_mtr, finish_mtr, Finished, Completed, keepClk_comps]
    exact ⟨rfl, finished_finish rfl _ _ _ _⟩
  · refine act_does (f := energyQueryFx c) rfl ?_
    rw [energyQueryFx_channel h, keepClk_mtr]
    obtain ⟨hmtr, result, hfin⟩ := queryChannel_does c (opB c 0) s.dev
    exact ⟨hmtr, result, by rw [Finished, Completed, keepClk_comps]; exact hfin⟩

end Sys2Proof.Proofs
end

/-! ## Sys2Proof/Proofs/LayerRows: LAYER_SET, LAYER_LUT_LOAD and LAYER_SCALER_LOAD at their commit point (R262 to R264, R275, R280) -/

section

namespace Sys2Proof.Proofs

open Machine Laws

section
variable (f : BitVec 32) (d : Device)

theorem layersFor_comps : (layersFor f d).comps = d.comps := comps_of_mask (ps := others .comps) (mask_layersFor rfl f d) rfl

theorem layersFor_isNode : (layersFor f d).isNode = d.isNode := by
  rw [Device.isNode, pwr_of_mask (ps := others .pwr) (mask_layersFor rfl f d) rfl]
  rfl

theorem layersFor_recordAt : recordAt (layersFor f d) f = recordAt d f := by
  unfold layersFor
  split <;> rfl

end

/-! ### What a layer command answers -/

section
variable {F : Device → Device} {s : State} {i : Instr} {f : BitVec 32} {op : Nat} {c : Cmd}

/-- A layer command carried out: its layer changed, its completion at the start of the display frame it is for (R88, R89). -/
theorem finishAt_does {g : List Layer → List Layer} (hi : exec i s = act F s)
    (h : F s.dev = finishAt op c f (setPxl (fun p => { p with layers := g p.layers }) (layersFor f s.dev))) :
    Does i s (fun e => e.pxl = { (layersFor f s.dev).pxl with layers := g (layersFor f s.dev).pxl.layers } ∧
      Finished s.dev e op c (RP.start f) [] ∧ SameBut (.pxl :: .comps :: reporting) s.dev e) := by
  have hmask : blank (.pxl :: .comps :: reporting) (F s.dev) = blank (.pxl :: .comps :: reporting) s.dev := by
    rw [h, finishAt, mask_finish rfl, mask_setPxl rfl, mask_layersFor rfl]
  refine act_does_of_clk hi (clk_of_mask hmask rfl) ⟨?_, ?_, sameBut_of_mask hmask⟩
  · rw [h, finishAt, finish_pxl]
    rfl
  · rw [h]
    exact finished_finish (e := setPxl _ (layersFor f s.dev)) (layersFor_comps f s.dev) _ _ _ _

/-- A layer command refused: the layers of the display frame stand as they were. -/
theorem layerRefused_does {status : Nat} {reason : List Byte} (hi : exec i s = act F s)
    (h : F s.dev = refuse op c status reason (layersFor f s.dev)) :
    Does i s (fun e => e.pxl = (layersFor f s.dev).pxl ∧ Completed s.dev e op c status none reason) := by
  refine act_does hi ?_
  rw [h, keepClk_pxl, refuse_pxl, Completed, keepClk_comps]
  exact ⟨rfl, completed_refuse (layersFor_comps f s.dev) _ _ _ _⟩

end

/-! ### LAYER_SET -/

section
variable {f : BitVec 32} {c : Cmd} {b : List Byte} {d : Device}

/-- One LAYER_SET alone at its commit point (R263). -/
theorem layerSetFx_one (hnode : d.isNode = true) (ha : misaligned c = false) :
    layerSetFx f c d = layerSetTurn f (layerVerdict f [c] (layersFor f d)) c (layersFor f d) := by
  rw [layerSetFx, if_neg (by simp [hnode]), if_neg (by simp [ha])]
  rfl

theorem layerVerdict_one (hb : c.host = .data b) (hgood : layerSetBad (recordAt d f) c = none) {ls : List Layer}
    (hls : ls = modAt (layersFor f d).pxl.layers (opB c 8) (layerApply (layerRec b))) :
    layerVerdict f [c] (layersFor f d) = if feedsClash ls then some 3
      else if (recordAt d f).width ≠ 0 ∧ storeGroups < budgetOf (layersFor f d) ls then some 4 else none := by
  have hone : [c].filter (fun c => (layerSetBad (recordAt d f) c).isNone) = [c] := by simp [hgood]
  rw [layerVerdict, layersFor_recordAt, hone]
  simp only [List.foldl_cons, List.foldl_nil, hb, ← hls]

theorem layerSetTurn_good (hb : c.host = .data b) (hgood : layerSetBad (recordAt d f) c = none) :
    layerSetTurn f none c (layersFor f d) =
      finishAt 0x30 c f (setPxl (fun p => { p with layers := modAt p.layers (opB c 8) (layerApply (layerRec b)) }) (layersFor f d)) := by
  unfold layerSetTurn
  rw [layersFor_recordAt, hb, hgood]

theorem layerSetTurn_verdict (hb : c.host = .data b) (hgood : layerSetBad (recordAt d f) c = none) (r : Nat) :
    layerSetTurn f (some r) c (layersFor f d) = refuse 0x30 c 4 (leN 1 r) (layersFor f d) := by
  unfold layerSetTurn
  rw [layersFor_recordAt, hb, hgood]

theorem layerSetTurn_bad (hb : c.host = .data b) {r : Nat} (hbad : layerSetBad (recordAt d f) c = some r) (why : Option Nat) :
    layerSetTurn f why c (layersFor f d) = refuse 0x30 c 4 (leN 1 r) (layersFor f d) := by
  unfold layerSetTurn
  rw [layersFor_recordAt, hb, hbad]

/-! ### LAYER_LUT_LOAD and LAYER_SCALER_LOAD -/

theorem lutLoadFx_good (hnode : d.isNode = true) (ha : misaligned c = false) (hb : c.host = .data b)
    (hsource : (layerOf (layersFor f d) (opB c 8)).source = true) (hl : opB c 8 ≤ 7) (hch : opB c 9 < (recordAt d f).primaries) :
    lutLoadFx f c d = finishAt 0x31 c f (setPxl (fun p => { p with layers := modAt p.layers (opB c 8) (fun x =>
      { x with luts := setAt x.luts (opB c 9) (some (lutOf b)) }) }) (layersFor f d)) := by
  rw [lutLoadFx, layersFor_isNode, if_neg (by simp [hnode]), if_neg (by simp [ha]), hb, layersFor_recordAt]
  exact if_neg (by simp [hsource]; omega)

theorem lutLoadFx_noSource (hnode : d.isNode = true) (ha : misaligned c = false) (hb : c.host = .data b)
    (hsource : (layerOf (layersFor f d) (opB c 8)).source = false) : lutLoadFx f c d = refuse 0x31 c 4 [] (layersFor f d) := by
  rw [lutLoadFx, layersFor_isNode, if_neg (by simp [hnode]), if_neg (by simp [ha]), hb]
  exact if_pos (by simp [hsource])

theorem scalerLoadFx_good (hnode : d.isNode = true) (ha : misaligned c = false) (hb : c.host = .data b)
    (hsource : (layerOf (layersFor f d) (opB c 8)).source = true) (hl : opB c 8 ≤ 7)
    (hh : tapsGood (tapsOf b 0 8) = true) (hv : tapsGood (tapsOf b 1024 6) = true) :
    scalerLoadFx f c d = finishAt 0x32 c f (setPxl (fun p => { p with layers := modAt p.layers (opB c 8) (fun x =>
      { x with taps := some { ch := tapsOf b 0 8, cv := tapsOf b 1024 6 } }) }) (layersFor f d)) := by
  rw [scalerLoadFx, layersFor_isNode, if_neg (by simp [hnode]), if_neg (by simp [ha]), hb]
  exact if_neg (by simp [hsource, hh, hv]; omega)

theorem scalerLoadFx_noSource (hnode : d.isNode = true) (ha : misaligned c = false) (hb : c.host = .data b)
    (hsource : (layerOf (layersFor f d) (opB c 8)).source = false) : scalerLoadFx f c d = refuse 0x32 c 4 [] (layersFor f d) := by
  rw [scalerLoadFx, layersFor_isNode, if_neg (by simp [hnode]), if_neg (by simp [ha]), hb]
  exact if_pos (by simp [hsource])

end

/-- Settles O56: a layer command changes its layer of the next display frame, or leaves it and gives the reason. -/
theorem layerCommands : Obligations.LayerCommands := by
  intro c b s f x hnode ha hb hf hx
  subst hf hx
  have hset : (fun d => layerSetFx (nextDisplay d) c d) s.dev = _ := layerSetFx_one hnode ha
  refine ⟨fun ls hgood hls hclash hbudget => ?_, fun ls hgood hls => ⟨fun hclash => ?_, fun hclash hw hbudget => ?_⟩,
    fun r hbad => ?_, fun hsource hl => ⟨fun hch => ?_, fun hh hv => ?_⟩, fun hsource => ⟨?_, ?_⟩⟩
  · rw [layerVerdict_one hb hgood hls, if_neg (by simp [hclash]), if_neg (by omega), layerSetTurn_good hb hgood] at hset
    exact hls ▸ finishAt_does (g := fun ls => modAt ls _ _) rfl hset
  · rw [layerVerdict_one hb hgood hls, if_pos hclash, layerSetTurn_verdict hb hgood] at hset
    exact layerRefused_does rfl hset
  · rw [layerVerdict_one hb hgood hls, if_neg (by simp [hclash]), if_pos ⟨hw, hbudget⟩, layerSetTurn_verdict hb hgood] at hset
    exact layerRefused_does rfl hset
  · rw [layerSetTurn_bad hb hbad] at hset
    exact layerRefused_does rfl hset
  · exact finishAt_does (F := fun d => lutLoadFx (nextDisplay d) c d) (g := fun ls => modAt ls _ _) rfl
      (lutLoadFx_good hnode ha hb hsource hl hch)
  · exact finishAt_does (F := fun d => scalerLoadFx (nextDisplay d) c d) (g := fun ls => modAt ls _ _) rfl
      (scalerLoadFx_good hnode ha hb hsource hl hh hv)
  · exact layerRefused_does (F := fun d => lutLoadFx (nextDisplay d) c d) rfl (lutLoadFx_noSource hnode ha hb hsource)
  · exact layerRefused_does (F := fun d => scalerLoadFx (nextDisplay d) c d) rfl (scalerLoadFx_noSource hnode ha hb hsource)

end Sys2Proof.Proofs
end

/-! ## Sys2Proof/Proofs/OutputRows: OUT_CONFIG, OUT_PROG_LOAD, OUT_MAP_LOAD and OUT_ENABLE (R331, R336 to R339) -/

section

namespace Sys2Proof.Proofs

open Machine Laws

/-! ### What a layout change keeps -/

/-- A configuration as it stands, checked. -/
def Conf (o : Output) : OutRec × List Word × List Program × Bool := (o.orec, o.map, o.programs, o.checked)

theorem foldl_freeNext_out {β γ : Type} (g : β → Device → γ → β) (l : List γ) (x : Device × β) :
    (l.foldl (fun x p => ((freeNext x.1).2, g x.2 x.1 p)) x).1.out = x.1.out := by
  induction l generalizing x with
  | nil => rfl
  | cons p l ih => exact ih _

theorem settleLoad_conf (d : Device) : Conf (settleLoad d).out = Conf d.out := by
  unfold settleLoad
  split
  case h_2 => rfl
  case h_1 l _ =>
    have hout := foldl_freeNext_out (fun ps e p => ps ++ [posNow e l (freeNext e).1 p]) l.pos (d, ([] : List LoadPos))
    exact (congrArg Conf hout :)

theorem layoutFx_conf (f : BitVec 32) (d : Device) : Conf (layoutFx f d).out = Conf d.out := by
  unfold layoutFx
  extract_lets d1
  split
  · rw [outputState, raise_out]
    exact (settleLoad_conf d1).trans rfl
  · rfl

theorem layoutFx_comps (f : BitVec 32) (d : Device) : (layoutFx f d).comps = d.comps :=
  comps_of_mask (ps := others .comps) (mask_layoutFx rfl f d) rfl

/-- A layout is not changed by one equal to it. -/
theorem layoutChanged_self (o : OutRec) : layoutChanged o o = false := by
  simp [layoutChanged]

/-! ### The commands 0x40 to 0x42 -/

section
variable {op : Nat} {c : Cmd} {b : List Byte} {d : Device} {x : OutConf}

theorem outCmdFx_eq (hnode : d.isNode = true) (ha : misaligned c = false) : outCmdFx op c d =
    when (layoutChanged d.out.orec (outTurn (outVerdict [(op, c)] d) op c d).out.orec) (layoutFx d.clk.rp.frame)
      (outTurn (outVerdict [(op, c)] d) op c d) := by
  rw [outCmdFx, if_neg (by simp [hnode]), if_neg (by simp [ha])]

theorem outVerdict_one (hb : c.host = .data b) (hx : outApply d.clk.raster op c b (confNow d) = .inr x) :
    outVerdict [(op, c)] d = outReason d.clk.raster (cutLine d) x.orec x.map x.programs := by
  simp only [outVerdict, List.foldl_cons, List.foldl_nil, hb, hx]

theorem outPutBy_conf (op : Nat) (x : OutConf) (d : Device) : Conf (outPutBy op x d).out = (x.orec, x.map, x.programs, true) := by
  unfold outPutBy when
  split <;> rfl

theorem outPutBy_comps (op : Nat) (x : OutConf) (d : Device) : (outPutBy op x d).comps = d.comps := by
  unfold outPutBy when
  split <;> rfl

theorem outTurn_good (hb : c.host = .data b) (hx : outApply d.clk.raster op c b (confNow d) = .inr x) :
    outTurn none op c d = finish op c (boundaryRp d) [] (outPutBy op x d) := by
  unfold outTurn
  rw [hb]
  simp only [hx]

theorem outTurn_verdict (hb : c.host = .data b) (hx : outApply d.clk.raster op c b (confNow d) = .inr x) (w : Nat) :
    outTurn (some w) op c d = refuse op c 4 (leN 1 w) d := by
  unfold outTurn
  rw [hb]
  simp only [hx]

theorem outTurn_own (hb : c.host = .data b) {own : Nat} (hx : outApply d.clk.raster op c b (confNow d) = .inl own)
    (why : Option Nat) : outTurn why op c d = refuse op c 4 (leN 1 own) d := by
  unfold outTurn
  rw [hb]
  simp only [hx]

end

section
variable {op : Nat} {c : Cmd} {b : List Byte} {s : State} {x : OutConf} {i : Instr}

/-- A configuration that passes its checks is in force (R331). -/
theorem outCmd_good (hi : exec i s = act (outCmdFx op c) s) (hnode : s.dev.isNode = true) (ha : misaligned c = false)
    (hb : c.host = .data b) (hx : outApply s.dev.clk.raster op c b (confNow s.dev) = .inr x)
    (hok : outReason s.dev.clk.raster (cutLine s.dev) x.orec x.map x.programs = none) :
    Does i s (fun e => Conf e.out = (x.orec, x.map, x.programs, true) ∧ Finished s.dev e op c (boundaryRp s.dev) []) := by
  let t := finish op c (boundaryRp s.dev) [] (outPutBy op x s.dev)
  have hconf : Conf t.out = (x.orec, x.map, x.programs, true) := by rw [finish_out, outPutBy_conf]
  have hfin : Finished s.dev t op c (boundaryRp s.dev) [] := finished_finish (outPutBy_comps op x s.dev) _ _ _ _
  refine act_does hi ?_
  rw [outCmdFx_eq hnode ha, outVerdict_one hb hx, hok, outTurn_good hb hx, keepClk_out, Finished, Completed, keepClk_comps, when]
  split
  · exact ⟨(layoutFx_conf _ _).trans hconf, (layoutFx_comps _ _).trans hfin⟩
  · exact ⟨hconf, hfin⟩

/-- A command without effect costs no layout change (R331). -/
theorem outCmd_refused (hi : exec i s = act (outCmdFx op c) s) (hnode : s.dev.isNode = true) (ha : misaligned c = false)
    {reason : List Byte} (h : outTurn (outVerdict [(op, c)] s.dev) op c s.dev = refuse op c 4 reason s.dev) :
    Does i s (fun e => e.out = s.dev.out ∧ Completed s.dev e op c 4 none reason) := by
  refine act_does hi ?_
  rw [outCmdFx_eq hnode ha, h, refuse_out, layoutChanged_self, when_false, keepClk_out, refuse_out]
  exact ⟨rfl, refuse_completed _ _ _ _ _⟩

/-- A configuration that fails its checks is refused with the reason (R331, R338). -/
theorem outCmd_bad (hi : exec i s = act (outCmdFx op c) s) (hnode : s.dev.isNode = true) (ha : misaligned c = false)
    (hb : c.host = .data b) (hx : outApply s.dev.clk.raster op c b (confNow s.dev) = .inr x) {r : Nat}
    (hr : outReason s.dev.clk.raster (cutLine s.dev) x.orec x.map x.programs = some r) :
    Does i s (fun e => e.out = s.dev.out ∧ Completed s.dev e op c 4 none (leN 1 r)) :=
  outCmd_refused hi hnode ha (by rw [outVerdict_one hb hx, hr, outTurn_verdict hb hx])

end

/-! ### What each command changes -/

section
variable {r : Raster} {c : Cmd} {b : List Byte} {x : OutConf}

theorem outApply_config (h : outRecGood r (outRecOf b) = true) : outApply r 0x40 c b x = .inr { x with orec := outRecOf b } := by
  simp [outApply, h]

theorem outApply_config_bad (h : outRecGood r (outRecOf b) = false) : outApply r 0x40 c b x = .inl 1 := by
  simp [outApply, h]

theorem outApply_program (h : opB c 8 ≤ 7) :
    outApply r 0x41 c b x = .inr { x with programs := setAt x.programs (opB c 8) (programOf b) } := by
  simp [outApply, Nat.not_lt.mpr h]

theorem outApply_map (h1 : 1 ≤ opN c 8 4) (h2 : opN c 8 4 ≤ 524288) (hk : (mapWords b (opN c 8 4)).all entryKindGood = true) :
    outApply r 0x42 c b x = .inr { x with map := mapWords b (opN c 8 4) } := by
  rw [outApply, if_neg (by decide), if_neg (by decide)]
  simp only
  rw [if_neg (by omega), if_neg (by simp only [hk]; decide)]

end

/-! ### OUT_ENABLE -/

/-- OUT_CTRL.EN as OUT_ENABLE leaves it (R550). -/
def enSet (v : Nat) (d : Device) : Device := setOut (fun o => { o with wanted := none }) (d.setWord 0x4000 v)

theorem enSet_word (d : Device) {v : Nat} (hv : v < 2 ^ 32) : (enSet v d).word 0x4000 = v := word_setWord_same d 0x4000 hv

section
variable {c : Cmd} {d : Device}

theorem outEnableFx_start (hnode : d.isNode = true) (hon : hasBit (opB c 0) 0 = true) (hrun : d.out.running = false)
    (hstart : canStart d = true) : outEnableFx c d = finish 0x43 c (boundaryRp d) []
      (outStart d.clk.rp.frame 0 (setOut (fun o => { o with autoStart := none }) (enSet 1 d))) := by
  have hchecked : d.out.checked = true := by
    simp only [canStart, Bool.and_eq_true] at hstart
    exact hstart.1.1.2
  rw [outEnableFx, if_neg (by simp [hnode]), if_pos hon, if_neg (by simp [hrun, hchecked])]
  exact congrArg (finish 0x43 c (boundaryRp d) []) (if_pos hstart)

theorem outEnableFx_unchecked (hnode : d.isNode = true) (hon : hasBit (opB c 0) 0 = true) (hchecked : d.out.checked = false) :
    outEnableFx c d = refuse 0x43 c 6 [] d := by
  rw [outEnableFx, if_neg (by simp [hnode]), if_pos hon, if_pos (by simp [hchecked])]

theorem outEnableFx_stop (hnode : d.isNode = true) (hon : hasBit (opB c 0) 0 = false) (hrun : d.out.running = true) :
    outEnableFx c d = finish 0x43 c (boundaryRp d) [] (outStop 0 (enSet 0 d)) := by
  rw [outEnableFx, if_neg (by simp [hnode]), if_neg (by simp [hon]), if_neg (by simp [hrun])]
  rfl

theorem outStart_running (f : BitVec 32) (cause : Nat) (d : Device) : (outStart f cause d).out.running = true := by
  rw [outStart, outputState, raise_out]
  rfl

theorem outStart_part (f : BitVec 32) (cause : Nat) (d : Device) :
    (outStart f cause d).regs = d.regs ∧ (outStart f cause d).comps = d.comps :=
  ⟨regs_of_mask (ps := others .regs) (mask_outStart rfl f cause d) rfl,
    comps_of_mask (ps := others .comps) (mask_outStart rfl f cause d) rfl⟩

theorem outStop_part (cause : Nat) (d : Device) : (outStop cause d).regs = d.regs ∧ (outStop cause d).comps = d.comps :=
  ⟨regs_of_mask (ps := others .regs) (mask_outStop rfl cause d) rfl,
    comps_of_mask (ps := others .comps) (mask_outStop rfl cause d) rfl⟩

end

theorem outEnable_does {c : Cmd} {s : State} (hnode : s.dev.isNode = true) :
    (hasBit (opB c 0) 0 = true → s.dev.out.running = false →
      (canStart s.dev = true → Does (.outEnable c) s (fun e => e.out.running = true ∧ e.word 0x4000 = 1 ∧
        Finished s.dev e 0x43 c (boundaryRp s.dev) [])) ∧
      (s.dev.out.checked = false → Does (.outEnable c) s (fun e => e.out = s.dev.out ∧ Completed s.dev e 0x43 c 6 none []))) ∧
    (hasBit (opB c 0) 0 = false → s.dev.out.running = true → Does (.outEnable c) s (fun e => e.out.running = false ∧
      e.word 0x4000 = 0 ∧ Finished s.dev e 0x43 c (boundaryRp s.dev) [])) := by
  refine ⟨fun hon hrun => ⟨fun hstart => ?_, fun hchecked => ?_⟩, fun hon hrun => ?_⟩ <;> refine act_does (f := outEnableFx c) rfl ?_
  · let e := setOut (fun o => { o with autoStart := none }) (enSet 1 s.dev)
    obtain ⟨hregs, hcomps⟩ := outStart_part s.dev.clk.rp.frame 0 e
    rw [outEnableFx_start hnode hon hrun hstart, keepClk_out, finish_out, outStart_running, word_of_regs (keepClk_regs ..),
      word_of_regs (finish_regs ..), word_of_regs hregs, Finished, Completed, keepClk_comps]
    have hword : e.word 0x4000 = 1 := (enSet_word s.dev (v := 1) (by decide) :)
    exact ⟨rfl, hword, finished_finish hcomps _ _ _ _⟩
  · rw [outEnableFx_unchecked hnode hon hchecked, keepClk_out, refuse_out]
    exact ⟨rfl, refuse_completed _ _ _ _ _⟩
  · obtain ⟨hregs, hcomps⟩ := outStop_part 0 (enSet 0 s.dev)
    rw [outEnableFx_stop hnode hon hrun, keepClk_out, finish_out, outStop_running, word_of_regs (keepClk_regs ..),
      word_of_regs (finish_regs ..), word_of_regs hregs, Finished, Completed, keepClk_comps]
    exact ⟨rfl, enSet_word s.dev (by decide), finished_finish hcomps _ _ _ _⟩

/-- The parts of a configuration in force. -/
theorem conf_parts {o : Output} {a : OutRec} {m : List Word} {p : List Program} {k : Bool} (h : Conf o = (a, m, p, k)) :
    o.orec = a ∧ o.map = m ∧ o.programs = p ∧ o.checked = k := by
  simpa [Conf] using h

/-- Settles O57: a change of the configuration is put in force where the whole passes its checks, and OUT_ENABLE follows its bit. -/
theorem outputCommands : Obligations.OutputCommands := by
  refine fun c s hnode => ⟨fun b ha hb => ⟨fun hrec => ⟨fun hok => ?_, fun r hr => ?_⟩, fun hrec => ?_, fun hl hok => ?_, fun r hl hr => ?_,
    fun r h1 h2 hk hr => ?_, fun h1 h2 hk hok => ?_⟩, outEnable_does hnode⟩
  · refine does_mono (outCmd_good rfl hnode ha hb (outApply_config hrec) hok) fun e ⟨hconf, hfin⟩ => ?_
    obtain ⟨ho, hm, hp, hk⟩ := conf_parts hconf
    exact ⟨ho, hm, hp, hk, hfin⟩
  · exact outCmd_bad rfl hnode ha hb (outApply_config hrec) hr
  · exact outCmd_refused rfl hnode ha (outTurn_own hb (outApply_config_bad hrec) _)
  · refine does_mono (outCmd_good rfl hnode ha hb (outApply_program hl) hok) fun e ⟨hconf, hfin⟩ => ?_
    obtain ⟨ho, hm, hp, -⟩ := conf_parts hconf
    exact ⟨hp, ho, hm, hfin⟩
  · exact outCmd_bad rfl hnode ha hb (outApply_program hl) hr
  · exact outCmd_bad rfl hnode ha hb (outApply_map h1 h2 hk) hr
  · refine does_mono (outCmd_good rfl hnode ha hb (outApply_map h1 h2 hk) hok) fun e ⟨hconf, hfin⟩ => ?_
    obtain ⟨ho, hm, hp, -⟩ := conf_parts hconf
    exact ⟨hm, ho, hp, hfin⟩

end Sys2Proof.Proofs
end

/-! ## Sys2Proof/Proofs/RegisterRows: register reads and writes by access code (R8, R507, R532 to R536, R550, R552) -/

section

namespace Sys2Proof.Proofs

open Machine Laws

/-! ### Writes of a setting -/

section
variable {a v m : Nat} {lock : Bool} {d : Device}

/-- The words whose writes act in a way of their own, or that lie outside every block with settings. -/
def ActsApart (a : Nat) : Prop :=
  (0x0400 ≤ a ∧ a < 0x0C10) ∨ (0x1460 ≤ a ∧ a < 0x2000) ∨ a = 0x3848 ∨ (0x4000 ≤ a ∧ a < 0x4050) ∨ a = 0x5080 ∨ a = 0x5084

/-- None of them is a setting. -/
theorem settingMask_apart (h : ActsApart a) (d : Device) : settingMask d a = none := by
  unfold ActsApart at h
  unfold settingMask
  repeat rw [if_neg (by omega)]

theorem not_apart (h : settingMask d a = some (lock, m)) : ¬ ActsApart a := fun ha => by
  rw [settingMask_apart ha] at h
  cases h

theorem ringBase_setting (h : settingMask d a = some (lock, m)) : ringBase a = false := by
  have hn := not_apart h
  unfold ActsApart at hn
  simp only [ringBase, Bool.and_eq_false_iff, decide_eq_false_iff_not]
  omega

theorem outRwl_setting (h : settingMask d a = some (lock, m)) : outRwl a = false := by
  have hn := not_apart h
  unfold ActsApart at hn
  simp only [outRwl, Bool.and_eq_false_iff, decide_eq_false_iff_not]
  omega

/-- What a setting's new value does beyond its word: the share is settled, a port goes down, the meter takes its registers. -/
def settingMade (a was : Nat) (d : Device) : Device :=
  if a = 0x0C10 then settleShare d
  else if 0x2000 ≤ a ∧ a < 0x2200 then fecSwitch d
  else if a = ingReg 0 0 ∨ a = ingReg 1 0 then when (d.word a != was) (ingestDown (if a = ingReg 0 0 then 0 else 1) 0) d
  else if 0x50C0 ≤ a ∧ a ≤ 0x50F8 then meterFromRegs d
  else d

theorem putWord_setting (h : settingMask d a = some (lock, m)) :
    putWord a v d = settingMade a (d.word a) (d.setWord a (v &&& m)) := by
  rw [putWord, ringBase_setting h, outRwl_setting h, h]
  rfl

theorem settingMade_regs (a was : Nat) (d : Device) : (settingMade a was d).regs = d.regs := by
  refine regs_of_mask (ps := others .regs) ?_ rfl
  simp (disch := decide) only [settingMade, mask_settleShare, mask_fecSwitch, blank_when, mask_ingestDown, mask_meterFromRegs,
    mask_ite, ite_self]

/-- A setting of no port's mode changes only the share and the meter. -/
theorem mask_settingMade (was : Nat) (hlink : a < 0x2000 ∨ 0x2200 ≤ a) (h0 : a ≠ ingReg 0 0) (h1 : a ≠ ingReg 1 0) (d : Device) :
    blank [.regs, .red, .mtr] (settingMade a was d) = blank [.regs, .red, .mtr] d := by
  rw [settingMade]
  split
  · rw [mask_settleShare rfl]
  · rw [if_neg (by omega), if_neg (by omega)]
    split
    · rw [mask_meterFromRegs rfl]
    · rfl

theorem writeReg_setting (h : settingMask d a = some (lock, m)) (hrole : lacks d a = false) (hwide : wideOf a = none)
    (hlock : rwlLocked a d = false) : writeReg a v d = settingMade a (d.word a) (d.setWord a (v &&& m)) := by
  have hn := not_apart h
  unfold ActsApart at hn
  simp only [writeReg, hrole, hlock, ringBase_setting h, Bool.false_eq_true, if_false]
  repeat rw [if_neg (by omega)]
  rw [applySetting, hwide]
  exact putWord_setting h

theorem rwlLocked_setting (h : settingMask d a = some (lock, m)) (hrole : lacks d a = false) :
    rwlLocked a d = (d.pwr.everRun && lock) := by
  rw [rwlLocked, hrole, outRwl_setting h, h]
  cases d.pwr.everRun <;> rfl

theorem writeReg_locked (hrole : lacks d a = false) (hlock : rwlLocked a d = true) : writeReg a v d = lockedWrite a d := by
  rw [writeReg, hrole, hlock]
  rfl

/-- A write through BAR0 that is taken (R13, R532). -/
theorem registerWriteFx_setting (h : settingMask d a = some (lock, m)) (hready : d.pwr.readyHost = true)
    (hon : d.pwr.powerOff = false) (hhead : d.isHead = true) (ha : a % 4 = 0) :
    registerWriteFx a v d = keepClk d (writeReg a v d) := by
  have hn := not_apart h
  unfold ActsApart at hn
  rw [registerWriteFx, if_neg (by simp [ha, hready, hon, hhead]), if_neg (by omega)]
  rfl

end

theorem lockedWrite_sec (a : Nat) (d : Device) : (lockedWrite a d).sec = { d.sec with setupLocked := true } := by
  rw [lockedWrite, sec_of_mask (ps := others .sec) (mask_rateEvent rfl _ _ _ _ _ _ _) rfl]
  rfl

theorem mask_locked (a : Nat) (d : Device) : blank [.sec, .hif] (lockedWrite a d) = blank [.sec, .hif] d := by
  rw [lockedWrite, mask_rateEvent rfl, mask_setSec rfl]

theorem registerWrite_setting {s : State} {a : BitVec 16} {v : Word} {lock : Bool} {m : Nat} (hready : s.dev.pwr.readyHost = true)
    (hon : s.dev.pwr.powerOff = false) (hhead : s.dev.isHead = true) (ha : a.toNat % 4 = 0)
    (h : settingMask s.dev a.toNat = some (lock, m)) (hwide : wideOf a.toNat = none) (hrole : lacks s.dev a.toNat = false) :
    (lock = false ∨ s.dev.pwr.everRun = false → Does (.registerWrite a v) s (fun e => e.word a.toNat = v.toNat &&& m ∧
      (a.toNat < 0x2000 ∨ 0x2200 ≤ a.toNat → a.toNat ≠ ingReg 0 0 → a.toNat ≠ ingReg 1 0 →
        (∀ x, x ≠ a.toNat → e.word x = s.dev.word x) ∧ SameBut [.regs, .red, .mtr] s.dev e))) ∧
    (lock = true → s.dev.pwr.everRun = true → Does (.registerWrite a v) s (fun e => e.sec.setupLocked = true ∧
      e.regs = s.dev.regs ∧ SameBut [.sec, .hif] s.dev e)) := by
  have hfx : registerWriteFx a.toNat v.toNat s.dev = _ := registerWriteFx_setting h hready hon hhead ha
  have hlocked := rwlLocked_setting h hrole
  refine ⟨fun hopen => ?_, fun hl hrun => ?_⟩ <;> refine clocked_does (f := registerWriteFx a.toNat v.toNat) rfl ?_
  · have hclosed : rwlLocked a.toNat s.dev = false := by rcases hopen with h | h <;> simp [hlocked, h]
    have hlt : v.toNat &&& m < 2 ^ 32 := Nat.lt_of_le_of_lt Nat.and_le_left v.isLt
    have hregs := settingMade_regs a.toNat (s.dev.word a.toNat) (s.dev.setWord a.toNat (v.toNat &&& m))
    rw [hfx, writeReg_setting h hrole hwide hclosed]
    refine ⟨?_, fun hlink h0 h1 => ⟨fun x hx => ?_, sameBut_keepClk ?_⟩⟩
    · rw [word_of_regs (keepClk_regs ..), word_of_regs hregs, word_setWord_same _ _ hlt]
    · rw [word_of_regs (keepClk_regs ..), word_of_regs hregs, word_setWord_ne _ (Ne.symm hx)]
    · rw [mask_settingMade _ hlink h0 h1]
      rfl
  · have hshut : rwlLocked a.toNat s.dev = true := by simp [hlocked, hl, hrun]
    rw [hfx, writeReg_locked hrole hshut, keepClk_sec, lockedWrite_sec]
    have hmask := mask_locked a.toNat s.dev
    exact ⟨rfl, (keepClk_regs _ _).trans (regs_of_mask hmask rfl), sameBut_keepClk (mask_locked _ _)⟩

/-! ### Reads -/

section
variable {d : Device} {w : Nat}

theorem readBy_served {p : Path} {a : Nat} (h : readServed p d = true) (hw : w = a - a % 4) :
    readBy p a d = readReg (p == Path.testPort) w d := by
  rw [readBy, if_pos h, hw]

/-- The registers whose reads move an index on (R534, R552). -/
theorem readReg_plain (keep : Bool) (hwide : wideOf w = none) (h1 : w ≠ 0x3848) (h2 : w ≠ 0x481C) : readReg keep w d =
    { (if keep then d else clearRead w d) with lastRead := BitVec.ofNat 32 (rawWord d w) } := by
  rw [readReg, if_neg h1, if_neg h2, hwide]

theorem readReg_lowest (keep : Bool) {n : Nat} (hwide : wideOf w = some (w, n)) (h1 : w ≠ 0x3848) (h2 : w ≠ 0x481C) :
    readReg keep w d = { (if keep then takeSnap w n d else clearRead w (takeSnap w n d)) with
      lastRead := BitVec.ofNat 32 (rawWord d w) } := by
  rw [readReg, if_neg h1, if_neg h2, hwide]
  exact if_pos rfl

theorem readReg_higher (keep : Bool) {b n : Nat} {v : Word} (hwide : wideOf w = some (b, n)) (hb : w ≠ b) (hv : mfind d.snap w = some v)
    (h1 : w ≠ 0x3848) (h2 : w ≠ 0x481C) : readReg keep w d = { d with lastRead := v } := by
  rw [readReg, if_neg h1, if_neg h2, hwide]
  simp only [hb, if_false, hv]

/-- The counters that a read by BAR0 clears by writing their word (R168, R534). -/
def ClearsWord (w : Nat) : Prop :=
  (0x2900 ≤ w ∧ w ≤ 0x291C) ∨ w ∈ [0x1490, 0x1494, 0x3058, 0x305C, 0x3808, 0x380C, 0x404C, 0x4808]

theorem clearRead_counter (h : ClearsWord w) (hrole : lacks d w = false) : clearRead w d = d.setWord w 0 := by
  have hw : (0x2900 ≤ w ∧ w ≤ 0x291C) ∨ w = 0x1490 ∨ w = 0x1494 ∨ w = 0x3058 ∨ w = 0x305C ∨ w = 0x3808 ∨ w = 0x380C ∨
      w = 0x404C ∨ w = 0x4808 := by simpa [ClearsWord] using h
  rw [clearRead, if_neg (by simp [hrole]), if_neg (by omega), if_neg (by omega), if_pos (by omega)]

/-! ### Snapshots of wide registers -/

theorem mfind_mins_same {α : Type} (m : NatMap α) (k : Nat) (a : α) : mfind (mins m k a) k = some a := by
  induction m with
  | nil => simp [mins, mfind]
  | cons x m ih =>
    obtain ⟨i, b⟩ := x
    rw [mins]
    split
    · simp [mfind]
    · split
      · simp [mfind]
      · rwa [mfind, if_neg (by assumption)]

theorem mfind_mins_ne {α : Type} (m : NatMap α) {k j : Nat} (h : k ≠ j) (a : α) : mfind (mins m k a) j = mfind m j := by
  induction m with
  | nil => simp [mins, mfind, h]
  | cons x m ih =>
    obtain ⟨i, b⟩ := x
    rw [mins]
    split
    · simp [mfind, h]
    · split
      case isTrue hi => simp [mfind, h, hi]
      case isFalse => rw [mfind, mfind, ih]

/-- Words put in a map under keys of their own are found there. -/
theorem mfind_foldl_mins {α : Type} (base : Nat) (g : Nat → α) (l : List Nat) (m : NatMap α) {i : Nat} (hi : i ∈ l) :
    mfind (l.foldl (fun m i => mins m (base + 4 * i) (g i)) m) (base + 4 * i) = some (g i) := by
  induction l using List.reverseRecOn with
  | nil => cases hi
  | append_singleton l j ih =>
    rw [List.foldl_append, List.foldl_cons, List.foldl_nil]
    by_cases hj : j = i
    · rw [hj, mfind_mins_same]
    · rw [mfind_mins_ne _ (by omega)]
      exact ih (by simpa [Ne.symm hj] using hi)

theorem takeSnap_higher {base n i : Nat} (h1 : 1 ≤ i) (hn : i < n) (d : Device) :
    mfind (takeSnap base n d).snap (base + 4 * i) = some (BitVec.ofNat 32 (rawWord d (base + 4 * i))) := by
  have hmem : i ∈ (List.range n).drop 1 := by
    rw [List.mem_drop_iff_getElem]
    exact ⟨i - 1, by simp; omega, by simp; omega⟩
  exact mfind_foldl_mins base (fun i => BitVec.ofNat 32 (rawWord d (base + 4 * i))) _ d.snap hmem

end

/-! ### FIX_RDM_DATA -/

theorem word_lt (d : Device) (a : Nat) : d.word a < 2 ^ 32 := BitVec.isLt _

/-- A byte of a word moved on by one, the rest kept (R552). -/
theorem byte_moved {w b : Nat} (hb : b = w / 256 % 256) : (w - 256 * b + 256 * ((b + 1) % 256)) / 256 % 256 = (b + 1) % 256 := by
  omega

theorem rdmDataFx_field (d : Device) : (rdmDataFx d).field 0x4818 15 8 = (d.field 0x4818 15 8 + 1) % 256 := by
  have hw := word_lt d 0x4818
  have hfield : ∀ e : Device, e.field 0x4818 15 8 = e.word 0x4818 / 256 % 256 := fun e => rfl
  have hword : (rdmDataFx d).word 0x4818 =
      (d.word 0x4818 - 256 * d.field 0x4818 15 8 + 256 * ((d.field 0x4818 15 8 + 1) % 256)) % 2 ^ 32 := word_setWord _ _ _
  have hlt : d.word 0x4818 - 256 * d.field 0x4818 15 8 + 256 * ((d.field 0x4818 15 8 + 1) % 256) < 2 ^ 32 := by
    rw [hfield]
    omega
  rw [hfield (rdmDataFx d), hword, Nat.mod_eq_of_lt hlt]
  exact byte_moved (hfield d)

/-- Settles O58: a write keeps its writable bits or is flagged, and a read gives the word, clears a counter, or takes a snapshot. -/
theorem registerAccess : Obligations.RegisterAccess := by
  refine fun s => ⟨fun a v lock m hready hon hhead ha h hwide hrole => registerWrite_setting hready hon hhead ha h hwide hrole,
    fun a v h => ?_, fun a p w hserved hw hwide h1 h2 => ?_, fun a p hserved => ?_,
    fun a p b n w hserved hw hwide h1 h2 => ⟨fun hb => ?_, fun v hb hv => ?_⟩, ?_, fun v hnode => ?_⟩
  · refine clocked_does (f := registerWriteFx a.toNat v.toNat) rfl (if_pos ?_)
    rcases h with h | h <;> simp [h]
  · have hfx : readBy p a.toNat s.dev = _ := (readBy_served hserved hw).trans (readReg_plain (p == Path.testPort) hwide h1 h2)
    refine act_does (f := readBy p a.toNat) rfl ?_
    rw [hfx]
    refine ⟨rfl, fun hp => ?_, fun hp hcounter hrole => ?_⟩ <;> subst hp
    · exact sameBut_of_mask rfl
    · have hclear := clearRead_counter hcounter hrole
      rw [show (if (Path.bar0 == Path.testPort) = true then s.dev else clearRead w s.dev) = s.dev.setWord w 0 from hclear]
      exact ⟨(word_setWord_same s.dev w (v := 0) (by decide) :), sameBut_of_mask rfl⟩
  · have hfx : readBy p a.toNat s.dev = s.dev := if_neg (by simp [hserved])
    exact ⟨act_does_of_clk (f := readBy p a.toNat) rfl (by rw [hfx]) hfx, act_does_of_clk (f := readBy p a.toNat) rfl (by rw [hfx]) hfx⟩
  · subst hb
    have hfx : readBy p a.toNat s.dev = _ := (readBy_served hserved hw).trans (readReg_lowest (p == Path.testPort) hwide h1 h2)
    refine act_does (f := readBy p a.toNat) rfl ?_
    rw [hfx]
    refine ⟨rfl, fun i hi hn => ?_⟩
    rw [← takeSnap_higher hi hn s.dev]
    refine congrArg (fun m => mfind m _) ?_
    change (if (p == Path.testPort) = true then _ else _ : Device).snap = _
    split
    · rfl
    · exact snap_of_mask (ps := others .snap) (mask_clearRead rfl _ _) rfl
  · have hfx : readBy p a.toNat s.dev = _ := (readBy_served hserved hw).trans (readReg_higher (p == Path.testPort) hwide hb hv h1 h2)
    refine act_does (f := readBy p a.toNat) rfl ?_
    rw [hfx]
    exact ⟨rfl, sameBut_of_mask rfl⟩
  · refine act_does (f := rdmDataFx) rfl ⟨?_, ?_, sameBut_keepClk (mask_rdmDataFx rfl s.dev)⟩
    · rfl
    · exact rdmDataFx_field s.dev
  · have hfx : outCtrlFx v.toNat s.dev = setOut (fun o => { o with wanted := some (hasBit v.toNat 0) }) (s.dev.setWord 0x4000 (v.toNat % 2)) :=
      if_neg (by simp [hnode])
    refine act_does (f := outCtrlFx v.toNat) rfl ?_
    rw [hfx]
    exact ⟨(word_setWord_same s.dev 0x4000 (v := v.toNat % 2) (by omega) :), rfl, sameBut_of_mask rfl⟩

end Sys2Proof.Proofs
end

/-! ## Sys2Proof/Proofs/Keys: link keys and life-cycle changes (R489 to R491, R494 to R496) -/

section

namespace Sys2Proof.Proofs

open Machine Laws

/-! ### KEY_LOAD -/

section
variable {c : Cmd} {b : List Byte} {d : Device}

theorem keyApply_ok {k : LinkKey} (h : judgeRecord (opB c 8 == 0) false b d = .ok k) :
    keyApply c b d = finish 0x80 c d.clk.rp (keyResult k) (placeKey (opB c 8 == 0) k d) := by
  rw [keyApply, h]

theorem keyApply_error {r : Nat} (h : judgeRecord (opB c 8 == 0) false b d = .error r) :
    keyApply c b d = refuse 0x80 c 4 (leN 1 r) d := by
  rw [keyApply, h]

/-- A record whose command stands is applied, or held while a rollover goes on (R494). -/
theorem keyLoadFx_data (hopen : secClosed d = false) (ha : misaligned c = false) (hslot : opB c 8 ≤ 1)
    (hzero : (cut c.ops 9 23).any (fun x => x != 0) = false) (hb : c.host = .data b) : keyLoadFx c d =
      if opB c 8 = 1 ∧ d.sched.rolling.isSome then
        schedSample (setSec (fun s => { s with heldKeys := s.heldKeys ++ [{ cmd := some c, body := b }] }) d)
      else keyApply c b d := by
  rw [keyLoadFx, hopen, ha, hzero, hb, decide_eq_false (Nat.not_lt.mpr hslot)]
  rfl

end

theorem keyLoad_does {s : State} {c : Cmd} {b : List Byte} (hopen : secClosed s.dev = false) (ha : misaligned c = false)
    (hslot : opB c 8 ≤ 1) (hzero : (cut c.ops 9 23).any (fun x => x != 0) = false) (hb : c.host = .data b) :
    (opB c 8 = 0 ∨ s.dev.sched.rolling = none → Does (.keyLoad c) s (fun e =>
      (∀ k, judgeRecord (opB c 8 == 0) false b s.dev = .ok k → Finished s.dev e 0x80 c s.dev.clk.rp (keyResult k) ∧
        e.sec = (placeKey (opB c 8 == 0) k s.dev).sec) ∧
      (∀ r, judgeRecord (opB c 8 == 0) false b s.dev = .error r → Completed s.dev e 0x80 c 4 none (leN 1 r) ∧ e.sec = s.dev.sec) ∧
      SameBut (.sec :: .comps :: reporting) s.dev e)) ∧
    (∀ r, opB c 8 = 1 → s.dev.sched.rolling = some r → Does (.keyLoad c) s (fun e =>
      e.sec = { s.dev.sec with heldKeys := s.dev.sec.heldKeys ++ [{ cmd := some c, body := b }] } ∧ SameBut (.sec :: .sched :: reporting) s.dev e)) := by
  have hfx := keyLoadFx_data hopen ha hslot hzero hb
  refine ⟨fun h => ?_, fun r h1 hr => ?_⟩ <;> refine act_does (f := keyLoadFx c) rfl ?_
  · have hnot : ¬ (opB c 8 = 1 ∧ s.dev.sched.rolling.isSome) := by
      rcases h with h | h <;> simp [h]
    rw [hfx, if_neg hnot]
    refine ⟨fun k hk => ?_, fun r hr => ?_, sameBut_keepClk (mask_keyApply rfl c b s.dev)⟩
    · rw [keyApply_ok hk, Finished, Completed, keepClk_comps, keepClk_sec, finish_sec]
      exact ⟨finished_finish (e := placeKey _ k s.dev) rfl _ _ _ _, rfl⟩
    · rw [keyApply_error hr, Completed, keepClk_comps, keepClk_sec, refuse_sec]
      exact ⟨refuse_completed _ _ _ _ _, rfl⟩
  · rw [hfx, if_pos ⟨h1, by rw [hr]; rfl⟩, keepClk_sec, sec_of_mask (ps := others .sec) (mask_schedSample rfl _) rfl]
    refine ⟨rfl, sameBut_keepClk ?_⟩
    rw [mask_schedSample rfl, mask_setSec rfl]

/-! ### Records at the test port -/

section
variable {b : List Byte} {d : Device}

/-- The instruction at the test port is no part of what a record is judged by (R496). -/
theorem judgeRecord_tapPick (current port : Bool) (b : List Byte) (i : TapInstr) (d : Device) :
    judgeRecord current port b (tapPick i d) = judgeRecord current port b d := by
  unfold tapPick when
  split <;> rfl

/-- A slot of the key store. -/
def inSlot (current : Bool) (k : LinkKey) (c : Sec) : Sec := if current then { c with cur := some k } else { c with next := some k }

theorem portApply_sec (current : Bool) :
    (∀ k, judgeRecord current true b d = .ok k → (portApply current b d).sec = { inSlot current k d.sec with keyStat := 0 }) ∧
    (∀ r, judgeRecord current true b d = .error r → (portApply current b d).sec = { d.sec with keyStat := r }) := by
  refine ⟨fun k h => ?_, fun r h => ?_⟩ <;> rw [portApply, h] <;> rfl

/-- A record of the test port is applied with the instruction that brings it (R496, R556). -/
theorem portApply_tapPick (current : Bool) (i : TapInstr) :
    (∀ k, judgeRecord current true b d = .ok k →
      (portApply current b (tapPick i d)).sec = { inSlot current k (tapPick i d).sec with keyStat := 0 }) ∧
    (∀ r, judgeRecord current true b d = .error r → (portApply current b (tapPick i d)).sec = { (tapPick i d).sec with keyStat := r }) := by
  have h := portApply_sec (b := b) (d := tapPick i d) current
  rwa [judgeRecord_tapPick] at h

theorem tapPick_heldKeys (i : TapInstr) (d : Device) : (tapPick i d).sec.heldKeys = d.sec.heldKeys := by
  unfold tapPick when
  split <;> rfl

end

theorem keyload_does {s : State} {b : List Byte} (hport : portDead s.dev = false) :
    (s.dev.sched.rolling = none → Does (.keyload b) s (fun e =>
      (∀ k, judgeRecord false true b s.dev = .ok k → e.sec = { (tapPick .keyload s.dev).sec with next := some k, keyStat := 0 }) ∧
      (∀ r, judgeRecord false true b s.dev = .error r → e.sec = { (tapPick .keyload s.dev).sec with keyStat := r }) ∧ SameBut [.sec] s.dev e)) ∧
    (∀ r, s.dev.sched.rolling = some r → Does (.keyload b) s (fun e =>
      e.sec = { (tapPick .keyload s.dev).sec with keyStat := 0xFF, heldKeys := s.dev.sec.heldKeys ++ [{ cmd := none, body := b }] })) ∧
    Does (.keyloadMakeCurrent b) s (fun e =>
      (∀ k, judgeRecord true true b s.dev = .ok k → e.sec = { (tapPick .keyload s.dev).sec with cur := some k, keyStat := 0 }) ∧
      (∀ r, judgeRecord true true b s.dev = .error r → e.sec = { (tapPick .keyload s.dev).sec with keyStat := r }) ∧ SameBut [.sec] s.dev e) := by
  have hmask : ∀ current, blank [.sec] (portApply current b (tapPick .keyload s.dev)) = blank [.sec] s.dev := fun current => by
    rw [mask_portApply rfl, mask_tapPick rfl]
  refine ⟨fun hr => ?_, fun r hr => ?_, ?_⟩
  · have hfx : keyloadFx b s.dev = portApply false b (tapPick .keyload s.dev) := by
      rw [keyloadFx, hport, hr]
      rfl
    obtain ⟨hok, herr⟩ := portApply_tapPick (b := b) (d := s.dev) false .keyload
    refine act_does (f := keyloadFx b) rfl ?_
    rw [hfx, keepClk_sec]
    exact ⟨hok, herr, sameBut_keepClk (hmask false)⟩
  · have hfx : keyloadFx b s.dev = setSec (fun c => { c with keyStat := 0xFF, heldKeys := c.heldKeys ++ [{ cmd := none, body := b }] }) (tapPick .keyload s.dev) := by
      rw [keyloadFx, hport, hr]
      rfl
    refine act_does (f := keyloadFx b) rfl ?_
    rw [hfx, keepClk_sec, setSec_sec, tapPick_heldKeys]
  · have hfx : keyloadCurrentFx b s.dev = portApply true b (tapPick .keyload s.dev) := by
      rw [keyloadCurrentFx, hport]
      rfl
    obtain ⟨hok, herr⟩ := portApply_tapPick (b := b) (d := s.dev) true .keyload
    refine act_does (f := keyloadCurrentFx b) rfl ?_
    rw [hfx, keepClk_sec]
    exact ⟨hok, herr, sameBut_keepClk (hmask true)⟩

/-! ### KEY_ROLLOVER -/

theorem rollPoint_goes {c : Cmd} {d : Device} {k : LinkKey} (hwoke : d.pwr.woke = false) (hk : d.sec.next = some k)
    (hgen : k.gen.toNat = opN c 0 4) : rollPoint c d = finish 0x81 c (boundaryRp d) [] { d with
      sched := { d.sched with roll := none, rolling := some { k := d.clk.rp.frame, gen := BitVec.ofNat 32 (opN c 0 4), cmd := c } } } := by
  rw [rollPoint, if_pos (by simp [hk, slotGen, hgen])]
  simp only [hwoke, Bool.false_and, Bool.false_eq_true, if_false]
  rfl

theorem rollPoint_empty {c : Cmd} {d : Device} (hk : d.sec.next = none) :
    rollPoint c d = refuse 0x81 c 6 [] { d with sched := { d.sched with roll := none } } := by
  rw [rollPoint, if_neg (by simp [hk])]

theorem keyRollover_does {s : State} {c : Cmd} (hwoke : s.dev.pwr.woke = false) :
    (∀ k, s.dev.sec.next = some k → k.gen.toNat = opN c 0 4 → Does (.keyRollover c) s (fun e =>
      e.sched = { s.dev.sched with roll := none, rolling := some { k := s.dev.clk.rp.frame, gen := BitVec.ofNat 32 (opN c 0 4), cmd := c } } ∧
      Finished s.dev e 0x81 c (boundaryRp s.dev) [])) ∧
    (s.dev.sec.next = none → Does (.keyRollover c) s (fun e => e.sched = { s.dev.sched with roll := none } ∧
      Completed s.dev e 0x81 c 6 none [])) := by
  refine ⟨fun k hk hgen => ?_, fun hk => ?_⟩ <;> refine act_does (f := rollPoint c) rfl ?_
  · rw [rollPoint_goes hwoke hk hgen, keepClk_sched, finish_sched, Finished, Completed, keepClk_comps]
    exact ⟨rfl, finished_finish (by rfl) _ _ _ _⟩
  · rw [rollPoint_empty hk, keepClk_sched, refuse_sched, Completed, keepClk_comps]
    exact ⟨rfl, completed_refuse (by rfl) _ _ _ _⟩

/-! ### Life-cycle changes -/

section
variable {c : Cmd} {d : Device}

theorem lifecycleSetFx_dueBad (hlock : d.tim.firstLock = true) (hnow : isNow c = false) (hdue : dueGood d.clk.raster c = false) :
    lifecycleSetFx c d = refuse 0x82 c 4 [] d := by
  rw [lifecycleSetFx, if_neg (by simp [hlock]), if_neg (by simp [hnow]), if_pos (by simp [hdue])]

theorem lifecycleSetFx_early (hlock : d.tim.firstLock = true) (hnow : isNow c = false) (hdue : dueGood d.clk.raster c = true)
    (hpassed : commitPassed d .exact (dueRp c) = false) (hearly : tooEarly d (dueRp c) = true) :
    lifecycleSetFx c d = refuse 0x82 c 8 [] d := by
  rw [lifecycleSetFx, if_neg (by simp [hlock]), if_neg (by simp [hnow]), if_neg (by simp [hdue]), if_neg (by simp [hpassed]),
    if_pos hearly]

theorem lifecycleSetFx_unlocked (hlock : d.tim.firstLock = false) : lifecycleSetFx c d =
    schedSample (put 0x82 c d.sched.adm (dueRp c) (dueRp c) false { d with sched := { d.sched with adm := d.sched.adm + 1 } }) := by
  rw [lifecycleSetFx, if_pos (by simp [hlock]), admitCmd]
  simp only [hlock, Bool.false_eq_true, if_false]
  rfl

/-- A LIFECYCLE_SET whose due RP is good does its work at once (R490). -/
theorem lifecycleSetFx_work (hlock : d.tim.firstLock = true) (h : isNow c = true ∨
    (dueGood d.clk.raster c = true ∧ commitPassed d .exact (dueRp c) = false ∧ tooEarly d (dueRp c) = false)) :
    lifecycleSetFx c d = lifecycleWork c d := by
  rw [lifecycleSetFx, if_neg (by simp [hlock])]
  rcases h with h | ⟨hdue, hpassed, hearly⟩
  · exact if_pos h
  · by_cases hnow : isNow c = true
    · exact if_pos hnow
    · rw [if_neg hnow, if_neg (by simp [hdue]), if_neg (by simp [hpassed]), if_neg (by simp [hearly])]

theorem lifecycleWork_allowed (hopen : secClosed d = false) (hj : d.sec.journal = none)
    (h : lifeRefusal d (opB c 0) (cut c.ops 8 8) = none) : lifecycleWork c d = finish 0x82 c d.clk.rp []
      (setSec (fun s => { s with journal := some { src := d.sec.life, dst := lifeOf (opB c 0), tag := c.tag } }) d) := by
  rw [lifecycleWork, if_neg (by simp [hopen, hj])]
  simp only [h]

theorem lifecycleWork_refused (hopen : secClosed d = false) (hj : d.sec.journal = none) {r : Nat}
    (h : lifeRefusal d (opB c 0) (cut c.ops 8 8) = some r) : lifecycleWork c d = refuse 0x82 c 4 (leN 1 r) d := by
  rw [lifecycleWork, if_neg (by simp [hopen, hj])]
  simp only [h]

end

/-- A refused LIFECYCLE_SET changes nothing of the security state. -/
theorem lifecycleRefused_does {s : State} {c : Cmd} {status : Nat} {reason : List Byte}
    (h : lifecycleSetFx c s.dev = refuse 0x82 c status reason s.dev) :
    Does (.lifecycleSet c) s (fun e => Completed s.dev e 0x82 c status none reason ∧ e.sec = s.dev.sec) := by
  refine act_does (f := lifecycleSetFx c) rfl ?_
  rw [h, Completed, keepClk_comps, keepClk_sec, refuse_sec]
  exact ⟨refuse_completed _ _ _ _ _, rfl⟩

theorem lifecycleUnlocked_does {s : State} {c : Cmd} (hlock : s.dev.tim.firstLock = false) :
    Does (.lifecycleSet c) s (fun e => e.sec = s.dev.sec ∧ e.comps = s.dev.comps ∧
      e.sched.entries = s.dev.sched.entries ++ [{ op := 0x82, cmd := c, adm := s.dev.sched.adm, point := dueRp c, due := dueRp c, judged := false }]) := by
  refine act_does (f := lifecycleSetFx c) rfl ?_
  rw [lifecycleSetFx_unlocked hlock, keepClk_sec, keepClk_comps, keepClk_sched, schedSample_entries,
    sec_of_mask (ps := others .sec) (mask_schedSample rfl _) rfl, comps_of_mask (ps := others .comps) (mask_schedSample rfl _) rfl]
  exact ⟨rfl, rfl, rfl⟩

theorem lifecycleWork_does {s : State} {c : Cmd} (hopen : secClosed s.dev = false) (hj : s.dev.sec.journal = none)
    (hfx : lifecycleSetFx c s.dev = lifecycleWork c s.dev) :
    (lifeRefusal s.dev (opB c 0) (cut c.ops 8 8) = none → Does (.lifecycleSet c) s (fun e =>
      e.sec = { s.dev.sec with journal := some { src := s.dev.sec.life, dst := lifeOf (opB c 0), tag := c.tag } } ∧
      Finished s.dev e 0x82 c s.dev.clk.rp [] ∧ SameBut (.sec :: .comps :: reporting) s.dev e)) ∧
    (∀ r, lifeRefusal s.dev (opB c 0) (cut c.ops 8 8) = some r → Does (.lifecycleSet c) s (fun e => e.sec = s.dev.sec ∧
      Completed s.dev e 0x82 c 4 none (leN 1 r))) := by
  refine ⟨fun h => ?_, fun r h => does_mono (lifecycleRefused_does (hfx.trans (lifecycleWork_refused hopen hj h)))
    fun e he => he.symm⟩
  have hmask := mask_lifecycleWork (ps := .sec :: .comps :: reporting) rfl c s.dev
  refine act_does (f := lifecycleSetFx c) rfl ?_
  rw [lifecycleWork_allowed hopen hj h] at hfx hmask
  rw [hfx, keepClk_sec, finish_sec, Finished, Completed, keepClk_comps]
  exact ⟨rfl, finished_finish (e := setSec _ s.dev) rfl _ _ _ _, sameBut_keepClk hmask⟩

/-- Settles O59: a record is judged and placed, held or refused, and a life-cycle change is journalled or refused. -/
theorem keysAndLifeCycle : Obligations.KeysAndLifeCycle := by
  refine fun s => ⟨fun c b hopen ha hslot hzero hb => keyLoad_does hopen ha hslot hzero hb, fun b x hport hx => hx ▸ keyload_does hport,
    fun c hwoke => keyRollover_does hwoke, fun c hnow hlock => ⟨fun hdue => ?_, fun hdue hpassed hearly => ?_⟩,
    fun c hlock => lifecycleUnlocked_does hlock, fun c hopen hj hlock h => ?_⟩
  · exact lifecycleRefused_does (lifecycleSetFx_dueBad hlock hnow hdue)
  · exact lifecycleRefused_does (lifecycleSetFx_early hlock hnow hdue hpassed hearly)
  · exact lifecycleWork_does hopen hj (lifecycleSetFx_work hlock h)

end Sys2Proof.Proofs
end

/-! ## Sys2Proof/Proofs/Debug: debug challenges and unlocks, the test port, and firmware updates (R497 to R505, R508) -/

section

namespace Sys2Proof.Proofs

open Machine Laws

/-! ### Debug levels -/

theorem setLevel_comps (new path : Nat) (d : Device) : (setLevel new path d).comps = d.comps :=
  comps_of_mask (ps := others .comps) (mask_setLevel rfl new path d) rfl

/-- What the selection of an instruction keeps: only the test port's registers may change (R556). -/
theorem tapPick_sec (i : TapInstr) (d : Device) : ∃ t, (tapPick i d).sec = { d.sec with tap := t } := by
  unfold tapPick when
  split
  · exact ⟨_, rfl⟩
  · exact ⟨d.sec.tap, rfl⟩

theorem dbgChallenge_does {s : State} (nonce : List Byte) (now : Nat) (hport : portDead s.dev = false) :
    Does (.dbgChallenge nonce now) s (fun e =>
      e.sec = { (tapPick .dbgChallenge s.dev).sec with nonce := some (challengeBytes s.dev nonce, now) } ∧ SameBut [.sec] s.dev e) := by
  have hfx : dbgChallengeFx nonce now s.dev =
      setSec (fun c => { c with nonce := some (challengeBytes s.dev nonce, now) }) (tapPick .dbgChallenge s.dev) :=
    if_neg (by simp [hport])
  refine act_does (f := dbgChallengeFx nonce now) rfl ?_
  rw [hfx]
  refine ⟨rfl, sameBut_keepClk ?_⟩
  rw [mask_setSec rfl, mask_tapPick rfl]

/-! ### Responses -/

section
variable {sig m : List Byte} {now at_ : Nat} {d : Device}

/-- A response judged: the nonce is used up (R504). -/
theorem dbgResponseFx_eq (hport : portDead d = false) (hback : d.sec.backTo ≤ now) (hnonce : d.sec.nonce = some (m, at_))
    (hnow : now ≤ at_ + 60000) : dbgResponseFx sig now d =
      let e := setSec (fun c => { c with nonce := none }) (tapPick .dbgResponse d)
      if ecdsaOk Config.debugKey m sig then
        when (challengeAllows e.sec.life (le m 9 1)) (setLevel (le m 9 1) 1)
          (setSec (fun c => { c with backoff := 0, backTo := 0, backRp := none }) e)
      else
        setSec (fun c => { c with
          backoff := if e.sec.backoff = 0 then 1 else min 64 (2 * e.sec.backoff),
          backTo := now + 1000 * (if e.sec.backoff = 0 then 1 else min 64 (2 * e.sec.backoff)), backRp := some e.clk.rp }) e := by
  have hgood : (decide (now ≤ at_ + 60000) && ecdsaOk Config.debugKey m sig) = ecdsaOk Config.debugKey m sig := by simp [hnow]
  rw [dbgResponseFx, if_neg (by simp [hport, hback])]
  simp only [hnonce, hgood]
  rfl

theorem dbgResponseFx_granted (hport : portDead d = false) (hback : d.sec.backTo ≤ now) (hnonce : d.sec.nonce = some (m, at_))
    (hnow : now ≤ at_ + 60000) (hsig : ecdsaOk Config.debugKey m sig = true) :
    (dbgResponseFx sig now d).sec.nonce = none ∧ (dbgResponseFx sig now d).sec.backoff = 0 ∧
      (challengeAllows d.sec.life (le m 9 1) = true → (dbgResponseFx sig now d).sec.level = le m 9 1) ∧
      (challengeAllows d.sec.life (le m 9 1) = false → (dbgResponseFx sig now d).sec.level = d.sec.level) := by
  obtain ⟨t, ht⟩ := tapPick_sec .dbgResponse d
  rw [dbgResponseFx_eq hport hback hnonce hnow]
  simp only [hsig, if_true, setSec_sec, ht]
  cases hallow : challengeAllows d.sec.life (le m 9 1)
  · simp [when_false, ht]
  · simp [when_true, setLevel_sec, ht]

theorem dbgResponseFx_refused (hport : portDead d = false) (hback : d.sec.backTo ≤ now) (hnonce : d.sec.nonce = some (m, at_))
    (hnow : now ≤ at_ + 60000) (hsig : ecdsaOk Config.debugKey m sig = false) :
    (dbgResponseFx sig now d).sec.nonce = none ∧ (dbgResponseFx sig now d).sec.level = d.sec.level ∧
      (dbgResponseFx sig now d).sec.backoff = (if d.sec.backoff = 0 then 1 else min 64 (2 * d.sec.backoff)) ∧
      (dbgResponseFx sig now d).sec.backTo = now + 1000 * (dbgResponseFx sig now d).sec.backoff := by
  obtain ⟨t, ht⟩ := tapPick_sec .dbgResponse d
  rw [dbgResponseFx_eq hport hback hnonce hnow]
  simp only [hsig, Bool.false_eq_true, if_false, setSec_sec, ht, and_self]

end

theorem dbgResponse_does {s : State} (sig m : List Byte) (now at_ : Nat) (hport : portDead s.dev = false)
    (hback : s.dev.sec.backTo ≤ now) (hnonce : s.dev.sec.nonce = some (m, at_)) (hnow : now ≤ at_ + 60000) :
    Does (.dbgResponse sig now) s (fun e => e.sec.nonce = none ∧
      (ecdsaOk Config.debugKey m sig = true → challengeAllows s.dev.sec.life (le m 9 1) = true →
        e.sec.level = le m 9 1 ∧ e.sec.backoff = 0) ∧
      (ecdsaOk Config.debugKey m sig = true → challengeAllows s.dev.sec.life (le m 9 1) = false → e.sec.level = s.dev.sec.level) ∧
      (ecdsaOk Config.debugKey m sig = false → e.sec.level = s.dev.sec.level ∧
        e.sec.backoff = (if s.dev.sec.backoff = 0 then 1 else min 64 (2 * s.dev.sec.backoff)) ∧
        e.sec.backTo = now + 1000 * e.sec.backoff) ∧ SameBut (.sec :: reporting) s.dev e) := by
  refine act_does (f := dbgResponseFx sig now) rfl ?_
  rw [keepClk_sec]
  have hmask := sameBut_keepClk (mask_dbgResponseFx (ps := .sec :: reporting) rfl sig now s.dev)
  cases hsig : ecdsaOk Config.debugKey m sig
  · obtain ⟨hnone, hlevel, hoff, hto⟩ := dbgResponseFx_refused hport hback hnonce hnow hsig
    exact ⟨hnone, fun h => (by cases h), fun h => (by cases h), fun _ => ⟨hlevel, hoff, hto⟩, hmask⟩
  · obtain ⟨hnone, hoff, hyes, hno⟩ := dbgResponseFx_granted hport hback hnonce hnow hsig
    exact ⟨hnone, fun _ ha => ⟨hyes ha, hoff⟩, fun _ ha => hno ha, fun h => (by cases h), hmask⟩

/-! ### Requests and unlocks -/

theorem dbgRequest_does {s : State} (hport : portDead s.dev = false) (hlife : s.dev.sec.life = .provisioned) :
    Does (.dbgRequest 1) s (fun e => e.sec.level = 1 ∧ e.sec.reqLevel = 1 ∧
      (s.dev.sec.level ≠ 1 → Noticed s.dev e 0x8006 (leN 1 s.dev.sec.level ++ leN 1 1 ++ leN 1 1 ++ zeros 1)) ∧
      SameBut (.sec :: reporting) s.dev e) := by
  obtain ⟨t, ht⟩ := tapPick_sec .dbgRequest s.dev
  have hfx : dbgRequestFx 1 s.dev = setLevel 1 1 (setSec (fun c => { c with reqLevel := 1 }) (tapPick .dbgRequest s.dev)) := by
    rw [dbgRequestFx, hport, hlife]
    rfl
  refine act_does (f := dbgRequestFx 1) rfl ?_
  refine ⟨?_, ?_, fun hne => ?_, sameBut_keepClk (mask_dbgRequestFx rfl 1 s.dev)⟩
  · rw [keepClk_sec, hfx, setLevel_sec]
  · rw [keepClk_sec, hfx, setLevel_sec]
    rfl
  · have hlevel : (setSec (fun c => { c with reqLevel := 1 }) (tapPick .dbgRequest s.dev)).sec.level = s.dev.sec.level := by
      rw [setSec_sec, ht]
    have hnotes : (tapPick .dbgRequest s.dev).notes = s.dev.notes :=
      notes_of_mask (ps := others .notes) (mask_tapPick rfl _ s.dev) rfl
    rw [Noticed, keepClk_notes, hfx, setLevel, hlevel, if_neg hne]
    exact noticed_raise (e := setSec _ (setSec _ (tapPick .dbgRequest s.dev))) hnotes _ _

theorem debugUnlock_does {s : State} {c : Cmd} (hop : opB c 0 ≤ 1) :
    (unlockAllows s.dev.sec.life (opB c 0) = true → s.dev.sec.level ≠ opB c 0 → Does (.debugUnlock c) s (fun e =>
      e.sec = { s.dev.sec with level := opB c 0 } ∧ Finished s.dev e 0x84 c s.dev.clk.rp [])) ∧
    (unlockAllows s.dev.sec.life (opB c 0) = false → Does (.debugUnlock c) s (fun e => e.sec = s.dev.sec ∧
      Completed s.dev e 0x84 c 6 none [])) := by
  refine ⟨fun hallow hne => ?_, fun hno => ?_⟩ <;> refine act_does (f := debugUnlockFx c) rfl ?_
  · have hfx : debugUnlockFx c s.dev = setLevel (opB c 0) 0 (finish 0x84 c s.dev.clk.rp [] s.dev) := by
      rw [debugUnlockFx, if_neg (by omega), if_neg (by simp [hallow, hne])]
    rw [hfx, keepClk_sec, setLevel_sec, finish_sec, Finished, Completed, keepClk_comps, setLevel_comps]
    exact ⟨rfl, finish_completed _ _ _ _ _⟩
  · have hfx : debugUnlockFx c s.dev = refuse 0x84 c 6 [] s.dev := by
      rw [debugUnlockFx, if_neg (by omega), if_pos (by simp [hno])]
    rw [hfx, keepClk_sec, refuse_sec, Completed, keepClk_comps]
    exact ⟨rfl, refuse_completed _ _ _ _ _⟩

/-! ### The test port -/

/-- The intrusive instruction a free value stands for (R505; log entry 97). -/
def entryInstr (v : Nat) : TapInstr := if v % 3 = 0 then .extest else if v % 3 = 1 then .clamp else .highz

theorem entryInstr_intrusive (v : Nat) : (entryInstr v).intrusive = true := by
  unfold entryInstr
  split
  · rfl
  · split <;> rfl

/-- An intrusive instruction takes every ball from the device's functions (R505). -/
theorem ball_taken {t : Tap} (h : t.ir.intrusive = true) (k : Nat) :
    (t.ir = .highz → t.ball k = some none) ∧ t.ball k ≠ none := by
  refine ⟨fun hz => if_pos hz, ?_⟩
  unfold Tap.ball
  rw [if_pos h]
  split <;> simp

theorem tapEntry_does (s : State) : Does .tapIntrusiveEntry s (fun e =>
    e.sec = { s.dev.sec with intrusive := true, tap := e.sec.tap } ∧ e.sec.tap.ir.intrusive = true ∧
    e.sec.tap.capture = 0x01 ∧ (∀ k, (e.sec.tap.ir = .highz → e.sec.tap.ball k = some none) ∧ e.sec.tap.ball k ≠ none) ∧
    e.tim = { s.dev.tim with fresh := s.dev.tim.fresh + 2 } ∧ SameBut [.sec, .tim] s.dev e) := by
  refine act_does (f := tapEntryFx) rfl ?_
  have hir : (tapEntryFx s.dev).sec.tap.ir.intrusive = true := entryInstr_intrusive _
  exact ⟨rfl, hir, rfl, fun k => ball_taken hir k, rfl, sameBut_keepClk (mask_tapEntryFx rfl s.dev)⟩

/-! ### Firmware updates -/

section
variable {c : Cmd} {d : Device}

/-- A FW_UPDATE with none before it is served at once (R500). -/
theorem fwUpdateFx_alone (hopen : secClosed d = false) (hop : ¬ (2 < opB c 0 ∨ (opB c 0 = 0 ∧ opN c 8 8 % 64 ≠ 0)))
    (himg : d.sec.stageImg = none) (hnone : d.sec.staging = []) : fwUpdateFx c d =
      let d1 := fwServe d.clk.rp c (setSec (fun s => { s with staging := [(d.clk.rp, c)] }) d)
      if d1.sec.stageImg.isSome then d1 else setSec (fun s => { s with staging := [] }) d1 := by
  have hqueue : setSec (fun s => { s with staging := queueFw s.stageImg.isSome (d.clk.rp, c) s.staging }) d =
      setSec (fun s => { s with staging := [(d.clk.rp, c)] }) d := by
    simp only [setSec, hnone]
    rfl
  rw [fwUpdateFx, if_neg (by simp [hopen]), if_neg hop, hqueue]
  simp only [setSec_sec, List.length_cons, List.length_nil, fwRun, himg, Option.isSome_none, Bool.false_eq_true, if_false]

/-- The device as a FW_UPDATE under way finds it. -/
def fwWaits (c : Cmd) (d : Device) : Device := setSec (fun s => { s with staging := [(d.clk.rp, c)] }) d

theorem fwUpdateFx_served (hopen : secClosed d = false) (hop : ¬ (2 < opB c 0 ∨ (opB c 0 = 0 ∧ opN c 8 8 % 64 ≠ 0)))
    (himg : d.sec.stageImg = none) (hnone : d.sec.staging = []) {e : Device} (he : fwServe d.clk.rp c (fwWaits c d) = e)
    (hend : e.sec.stageImg = none) : fwUpdateFx c d = setSec (fun s => { s with staging := [] }) e := by
  rw [fwUpdateFx_alone hopen hop himg hnone]
  simp only [show fwServe d.clk.rp c (setSec _ d) = e from he, hend, Option.isSome_none, Bool.false_eq_true, if_false]

theorem fwUpdateFx_staged (hopen : secClosed d = false) (hop : ¬ (2 < opB c 0 ∨ (opB c 0 = 0 ∧ opN c 8 8 % 64 ≠ 0)))
    (himg : d.sec.stageImg = none) (hnone : d.sec.staging = []) {e : Device} (he : fwServe d.clk.rp c (fwWaits c d) = e)
    (hend : e.sec.stageImg.isSome = true) : fwUpdateFx c d = e := by
  rw [fwUpdateFx_alone hopen hop himg hnone]
  simp only [show fwServe d.clk.rp c (setSec _ d) = e from he, hend, if_true]

theorem fwServe_stageGood {at_ : RP} {b : List Byte} {i : Image} (h0 : opB c 0 = 0) (hb : c.host = .data b)
    (hi : judgeImage b (opN c 0x10 4) d = .ok i) : fwServe at_ c d =
      setSec (fun s => { s with stageImg := some i, images := setAt s.images (1 - d.sec.running) none }) d := by
  rw [fwServe, if_pos h0, hb]
  simp only [hi]

theorem fwServe_stageBad {at_ : RP} {b : List Byte} {r : Nat} (h0 : opB c 0 = 0) (hb : c.host = .data b)
    (hr : judgeImage b (opN c 0x10 4) d = .error r) : fwServe at_ c d =
      refuse 0x83 c 4 (leN 1 r) (when (r == 3) (rollbackRefused (1 - d.sec.running) (le b 6 1)) d) := by
  rw [fwServe, if_pos h0, hb]
  simp only [hr]

theorem fwServe_select {at_ : RP} (h1 : opB c 0 = 1) (hv : imageValid d (1 - d.sec.running) = true) : fwServe at_ c d =
    finish 0x83 c at_ [] (setSec (fun s => { s with preferred := 1 - d.sec.running, trial := true, announce := true, fails := 0 }) d) := by
  rw [fwServe, if_neg (by omega), if_pos h1, if_pos hv]

theorem fwServe_selectBad {at_ : RP} (h1 : opB c 0 = 1) (hv : imageValid d (1 - d.sec.running) = false) :
    fwServe at_ c d = refuse 0x83 c 6 [] d := by
  rw [fwServe, if_neg (by omega), if_pos h1, if_neg (by simp [hv])]

theorem fwServe_rollback {at_ : RP} {i : Image} (h2 : opB c 0 = 2) (hi : imageOf d d.sec.running = some i)
    (hlt : d.sec.rollback < i.sec) : fwServe at_ c d = finish 0x83 c at_ [] (setSec (fun s => { s with rollback := i.sec }) d) := by
  rw [fwServe, if_neg (by omega), if_neg (by omega), hi]
  exact if_neg (by omega)

end

section
variable {s : State} {c : Cmd}

/-- A FW_UPDATE that only completes once it is served: what it does to the security state, and its completion. -/
theorem fwUpdate_served_does (hopen : secClosed s.dev = false) (hop : ¬ (2 < opB c 0 ∨ (opB c 0 = 0 ∧ opN c 8 8 % 64 ≠ 0)))
    (himg : s.dev.sec.stageImg = none) (hnone : s.dev.sec.staging = []) {e : Device} {x : Sec} {comps : List Completion}
    (he : fwServe s.dev.clk.rp c (fwWaits c s.dev) = e) (hsec : e.sec = { x with staging := [(s.dev.clk.rp, c)] })
    (hx : x.stageImg = none) (hxs : x.staging = []) (hcomps : e.comps = comps) :
    Does (.fwUpdate c) s (fun e => e.sec = x ∧ e.comps = comps) := by
  refine act_does (f := fwUpdateFx c) rfl ?_
  rw [fwUpdateFx_served hopen hop himg hnone he (by rw [hsec]; exact hx), keepClk_sec, setSec_sec, hsec, keepClk_comps,
    setSec_comps, hcomps]
  exact ⟨by rw [← hxs], rfl⟩

end

theorem fwUpdate_does {s : State} {c : Cmd} (hopen : secClosed s.dev = false) (himg : s.dev.sec.stageImg = none)
    (hnone : s.dev.sec.staging = []) :
    (∀ b, opB c 0 = 0 → opN c 8 8 % 64 = 0 → c.host = .data b → Does (.fwUpdate c) s (fun e =>
      (∀ i, judgeImage b (opN c 0x10 4) s.dev = .ok i → e.sec.stageImg = some i ∧ e.sec.staging = [(s.dev.clk.rp, c)] ∧
        e.sec.images = setAt s.dev.sec.images (1 - s.dev.sec.running) none ∧ e.comps = s.dev.comps) ∧
      (∀ r, judgeImage b (opN c 0x10 4) s.dev = .error r → Completed s.dev e 0x83 c 4 none (leN 1 r) ∧ e.sec = s.dev.sec))) ∧
    (opB c 0 = 1 → imageValid s.dev (1 - s.dev.sec.running) = true → Does (.fwUpdate c) s (fun e =>
      e.sec = { s.dev.sec with preferred := 1 - s.dev.sec.running, trial := true, announce := true, fails := 0 } ∧
      Finished s.dev e 0x83 c s.dev.clk.rp [])) ∧
    (opB c 0 = 1 → imageValid s.dev (1 - s.dev.sec.running) = false → Does (.fwUpdate c) s (fun e => e.sec = s.dev.sec ∧
      Completed s.dev e 0x83 c 6 none [])) ∧
    (∀ i, opB c 0 = 2 → imageOf s.dev s.dev.sec.running = some i → s.dev.sec.rollback < i.sec → Does (.fwUpdate c) s (fun e =>
      e.sec = { s.dev.sec with rollback := i.sec } ∧ Finished s.dev e 0x83 c s.dev.clk.rp [])) := by
  refine ⟨fun b h0 hal hb => ?_, fun h1 hv => ?_, fun h1 hv => ?_, fun i h2 hi hlt => ?_⟩
  · cases hj : judgeImage b (opN c 0x10 4) s.dev with
    | ok i =>
      have he := fwServe_stageGood (d := fwWaits c s.dev) (at_ := s.dev.clk.rp) h0 hb hj
      refine act_does (f := fwUpdateFx c) rfl ?_
      rw [fwUpdateFx_staged hopen (by omega) himg hnone he rfl]
      exact ⟨fun j hj => by cases hj; exact ⟨rfl, rfl, rfl, rfl⟩, fun r hr => (by cases hr)⟩
    | error r =>
      have he := fwServe_stageBad (d := fwWaits c s.dev) (at_ := s.dev.clk.rp) h0 hb hj
      have hsec : (when (r == 3) (rollbackRefused (1 - s.dev.sec.running) (le b 6 1)) (fwWaits c s.dev)).sec = (fwWaits c s.dev).sec :=
        sec_of_mask (ps := others .sec) (by simp (disch := decide) only [blank_when, mask_rollbackRefused, ite_self]) rfl
      have hcomps : (when (r == 3) (rollbackRefused (1 - s.dev.sec.running) (le b 6 1)) (fwWaits c s.dev)).comps = s.dev.comps :=
        comps_of_mask (d := fwWaits c s.dev) (ps := others .comps) (by simp (disch := decide) only [blank_when, mask_rollbackRefused, ite_self]) rfl
      refine does_mono (fwUpdate_served_does hopen (by omega) himg hnone he (x := s.dev.sec) ?_ himg hnone rfl)
        fun e ⟨hs, hc⟩ => ⟨fun i hi => (by cases hi), fun k hk => ?_⟩
      · rw [refuse_sec]
        exact hsec
      · cases hk
        exact ⟨hc.trans (completed_refuse hcomps _ _ _ _), hs⟩
  · have he := fwServe_select (d := fwWaits c s.dev) (at_ := s.dev.clk.rp) h1 hv
    refine does_mono (fwUpdate_served_does hopen (by omega) himg hnone he
      (x := { s.dev.sec with preferred := 1 - s.dev.sec.running, trial := true, announce := true, fails := 0 }) ?_ himg hnone rfl)
      fun e ⟨hs, hc⟩ => ⟨hs, hc.trans (finished_finish (d := s.dev) (e := setSec _ (fwWaits c s.dev)) rfl _ _ _ _)⟩
    rw [finish_sec]
    rfl
  · have he := fwServe_selectBad (d := fwWaits c s.dev) (at_ := s.dev.clk.rp) h1 hv
    refine does_mono (fwUpdate_served_does hopen (by omega) himg hnone he (x := s.dev.sec) ?_ himg hnone rfl)
      fun e ⟨hs, hc⟩ => ⟨hs, hc.trans (completed_refuse (d := s.dev) (e := fwWaits c s.dev) rfl _ _ _ _)⟩
    rw [refuse_sec]
    rfl
  · have he := fwServe_rollback (d := fwWaits c s.dev) (at_ := s.dev.clk.rp) h2 hi hlt
    refine does_mono (fwUpdate_served_does hopen (by omega) himg hnone he (x := { s.dev.sec with rollback := i.sec }) ?_ himg hnone rfl)
      fun e ⟨hs, hc⟩ => ⟨hs, hc.trans (finished_finish (d := s.dev) (e := setSec _ (fwWaits c s.dev)) rfl _ _ _ _)⟩
    rw [finish_sec]
    rfl

/-! ### A STAGE ends -/

theorem stageDone_does {s : State} {i : Image} {at_ : RP} {c : Cmd} (himg : s.dev.sec.stageImg = some i)
    (hstaging : s.dev.sec.staging = [(at_, c)]) :
    Does (.fwUpdateStageDone .written) s (fun e => e.sec = { s.dev.sec with stageImg := none, staging := [], images := setAt s.dev.sec.images (1 - s.dev.sec.running) (some i) } ∧
      Finished s.dev e 0x83 c at_ (leN 1 (1 - s.dev.sec.running) ++ leN 1 i.sec)) ∧
    Does (.fwUpdateStageDone .flashError) s (fun e => e.sec = { s.dev.sec with stageImg := none, staging := [] } ∧
      Completed s.dev e 0x83 c 0x0B none []) ∧
    Does (.fwUpdateStageDone .busError) s (fun e => e.sec = { s.dev.sec with stageImg := none, staging := [] } ∧
      Completed s.dev e 0x83 c 0x0A none []) := by
  let d := setSec (fun s => { s with stageImg := none, staging := [] }) s.dev
  have hrun : ∀ e : Device, e.sec.staging = [] → fwRun e.sec.staging.length e = e := fun e he => by rw [he]; rfl
  have hgood : stageDoneFx .written s.dev = finish 0x83 c at_ (leN 1 (1 - s.dev.sec.running) ++ leN 1 i.sec)
      (setSec (fun x => { x with images := setAt x.images (1 - s.dev.sec.running) (some i) }) d) := by
    rw [stageDoneFx, himg, hstaging]
    exact hrun _ (by rw [finish_sec]; rfl)
  have hbad : stageDoneFx .flashError s.dev = refuse 0x83 c 0x0B [] d ∧ stageDoneFx .busError s.dev = refuse 0x83 c 0x0A [] d := by
    constructor <;> (rw [stageDoneFx, himg, hstaging]; exact hrun _ (by rw [refuse_sec]; rfl))
  refine ⟨?_, ?_, ?_⟩
  · refine act_does (f := stageDoneFx .written) rfl ?_
    rw [hgood, keepClk_sec, finish_sec, Finished, Completed, keepClk_comps]
    exact ⟨rfl, finished_finish (e := setSec _ d) rfl _ _ _ _⟩
  · refine act_does (f := stageDoneFx .flashError) rfl ?_
    rw [hbad.1, keepClk_sec, refuse_sec, Completed, keepClk_comps]
    exact ⟨rfl, completed_refuse (e := d) rfl _ _ _ _⟩
  · refine act_does (f := stageDoneFx .busError) rfl ?_
    rw [hbad.2, keepClk_sec, refuse_sec, Completed, keepClk_comps]
    exact ⟨rfl, completed_refuse (e := d) rfl _ _ _ _⟩

/-- Settles O60: each challenge, response, request and update changes the security state as its row says, and completes. -/
theorem debugAndFirmware : Obligations.DebugAndFirmware := fun s =>
  ⟨fun nonce now hport => dbgChallenge_does nonce now hport,
    fun sig m now at_ hport hback hnonce hnow => dbgResponse_does sig m now at_ hport hback hnonce hnow,
    fun hport hlife => dbgRequest_does hport hlife, fun _ hop => debugUnlock_does hop, tapEntry_does s,
    fun _ hopen himg hnone => fwUpdate_does hopen himg hnone, fun _ _ _ himg hstaging => stageDone_does himg hstaging⟩

end Sys2Proof.Proofs
end

/-! ## Sys2Proof/Proofs/Records: an exposure save that ends while a RESET_REQUEST waits for it (R306, R311, R530) -/

section

namespace Sys2Proof.Proofs

open Machine Laws

/-- A command with nothing in it. -/
def plainCmd : Cmd :=
  { tag := 0, timing := 0, dueFrame := 0, dueLs := 0, ops := [], position := 0, seqWord := 0, late := false, host := .none }

/-- The exposure save that an EXPO_SAVE has begun. -/
def savedByCmd : ExpoSave :=
  { area := 0, cmd := some (RP.start 0, plainCmd),
    erec := { seq := 0, primaries := 0, width := 0, height := 0, runSecs := 0, begun := RP.start 0, counters := [] } }

/-- A device whose exposure save serves an EXPO_SAVE, while a RESET_REQUEST waits for that save. -/
def savingForBoth : Device :=
  { corr := { expoSave := some savedByCmd },
    pwr := { hostReset := some { cmds := [(plainCmd, RP.start 0)], expo := true, energy := false, failed := false, done := false } } }

/-- The end of the save completes both commands (R311, R530). -/
theorem saveEnds_completesBoth :
    (keepClk savingForBoth (hostResetSaved true true (expoDoneFx true savingForBoth))).comps.length = 2 := by
  decide

/-- Refutes O48: the end of an exposure save that serves an EXPO_SAVE also completes the RESET_REQUEST that waits for the save (R530), so
the EXPO_SAVE's completion is not the only one. -/
theorem not_recordsKept : ¬ Obligations.RecordsKept := by
  intro h
  obtain ⟨-, -, -, -, -, -, -, -, hend⟩ := h { dev := savingForBoth }
  obtain ⟨⟨t, ht, -, -, hfin⟩, -⟩ := hend savedByCmd (RP.start 0) plainCmd rfl rfl rfl rfl
  cases ht
  have hone : 2 = 1 := saveEnds_completesBoth.symm.trans (congrArg List.length hfin)
  exact absurd hone (by decide)

end Sys2Proof.Proofs
end

/-! ## Sys2Proof/Proofs/Correction: CCM_LOAD, ENC_LUT_LOAD, WEAR_SET and the exposure data register (R293 to R296, R308, R310) -/

section

namespace Sys2Proof.Proofs

open Machine Laws

/-! ### A command that changes the correction block and completes -/

section
variable {F : Device → Device} {s : State} {i : Instr} {op : Nat} {c : Cmd}

/-- A command that changes the correction block and completes writes nothing else. -/
theorem setCorr_finish_does {g : Corr → Corr} {effect : RP} (hi : exec i s = act F s)
    (h : F s.dev = finish op c effect [] (setCorr g s.dev)) :
    Does i s (fun e => e.corr = g s.dev.corr ∧ Finished s.dev e op c effect [] ∧ SameBut (.corr :: .comps :: reporting) s.dev e) := by
  refine act_does hi ?_
  rw [h, keepClk_corr, finish_corr, Finished, Completed, keepClk_comps]
  refine ⟨rfl, finished_finish (e := setCorr g s.dev) rfl _ _ _ _, sameBut_keepClk ?_⟩
  rw [mask_finish rfl, mask_setCorr rfl]

/-- A command refused keeps the correction block. -/
theorem corrRefused_does {status : Nat} {reason : List Byte} (hi : exec i s = act F s) (h : F s.dev = refuse op c status reason s.dev) :
    Does i s (fun e => Completed s.dev e op c status none reason ∧ e.corr = s.dev.corr) := by
  refine act_does hi ?_
  rw [h, keepClk_corr, refuse_corr, Completed, keepClk_comps]
  exact ⟨refuse_completed _ _ _ _ _, rfl⟩

end

section
variable {c : Cmd} {b : List Byte} {d : Device}

/-! ### CCM_LOAD and ENC_LUT_LOAD -/

/-- The matrix table of a node record put in force (R293, R305). -/
def matrixPut (n : NodeRecord) (b : List Byte) (x : Corr) : Corr :=
  { x with matrix := matrixTable n b, poison := x.poison.filter (fun w => calRegion n.primaries w != 0), corrDirty := true }

theorem ccmLoadFx_good (hnode : d.isNode = true) (ha : misaligned c = false) (hb : c.host = .data b)
    (hw : (recordNow d).width ≠ 0) (hfits : ccmFits none d = true) {f : BitVec 32}
    (hsame : sameWindow (some (recordNow d)) (recordAt d f) = true) :
    ccmLoadFx f none (recordNow d) c d = finish 0x33 c (RP.start f) [] (setCorr (matrixPut (recordAt d f) b) d) := by
  have hun : unstage none d = d := rfl
  rw [ccmLoadFx, hfits, hun, if_neg (by simp [hnode, hw]), if_neg (by simp [ha]), if_neg (by simp), hb]
  exact if_neg (by simp [hsame])

theorem ccmLoadFx_otherWindow (hnode : d.isNode = true) (ha : misaligned c = false) (hb : c.host = .data b)
    (hw : (recordNow d).width ≠ 0) (hfits : ccmFits none d = true) {f : BitVec 32}
    (hother : sameWindow (some (recordNow d)) (recordAt d f) = false) :
    ccmLoadFx f none (recordNow d) c d = refuse 0x33 c 4 (leN 1 2) d := by
  have hun : unstage none d = d := rfl
  rw [ccmLoadFx, hfits, hun, if_neg (by simp [hnode, hw]), if_neg (by simp [ha]), if_neg (by simp), hb]
  exact if_pos (by simp [hother])

theorem encLutFx_good (hnode : d.isNode = true) (ha : misaligned c = false) (hb : c.host = .data b) {f : BitVec 32}
    (hch : opB c 9 < (recordAt d f).primaries) : encLutFx f c d = finish 0x34 c (RP.start f) []
      (setCorr (fun x => { x with corrDirty := true, encLuts := setAt x.encLuts (opB c 9) (some (lutOf b)) }) d) := by
  rw [encLutFx, if_neg (by simp [hnode]), if_neg (by simp [ha]), hb]
  exact if_neg (by omega)

/-! ### WEAR_SET -/

/-- The wear settings of a record put in force over those before (R310). -/
def wearOf (p : Nat) (b : List Byte) (w : Wear) : Wear :=
  { w with
    frozen := le b 0 1 == 1
    target := (List.range 4).map (fun i => if i < p then le b (0x10 + 4 * i) 4 else nth w.target i)
    curves := (List.range 4).map (fun i => if i < p then keepCurve (curveOf b i) else w.curves.getD i none)
    kappa := if hasBit (le b 1 1) 0 then [32768, 32768, 32768, 32768] else w.kappa
    firstRun := if hasBit (le b 1 1) 0 then none else w.firstRun }

/-- A wear record in force, its command completed (R305, R310). -/
def wearPut (c : Cmd) (b : List Byte) (d : Device) : Device :=
  finish 0x35 c (boundaryRp d) [] (setCorr (fun x => { x with
    wear := wearOf (recordNow d).primaries b x.wear, active := x.active && !(hasBit (le b 1 1) 0),
    told := x.told && !(hasBit (le b 1 1) 0), corrDirty := true }) d)

theorem wearSetFx_good (hnode : d.isNode = true) (ha : misaligned c = false) (hb : c.host = .data b)
    (hgood : wearGood (recordNow d).primaries b = true) (hcal : d.cal.running.getD 1 none = none) :
    wearSetFx c d = if (wearPut c b d).corr.wear.frozen then wearPut c b d else wearPass (wearPut c b d) := by
  have habort : calAbort 1 3 (wearPut c b d) = wearPut c b d := by
    rw [calAbort, wearPut, finish_cal, setCorr_cal, hcal]
  rw [wearSetFx, if_neg (by simp [hnode]), if_neg (by simp [ha]), hb]
  simp only [hgood, Bool.not_true, Bool.false_eq_true, if_false]
  rw [← habort]
  rfl

theorem wearSetFx_bad (hnode : d.isNode = true) (ha : misaligned c = false) (hb : c.host = .data b)
    (hbad : wearGood (recordNow d).primaries b = false) : wearSetFx c d = refuse 0x35 c 4 [] d := by
  rw [wearSetFx, if_neg (by simp [hnode]), if_neg (by simp [ha]), hb]
  exact if_pos (by simp [hbad])

theorem sensorCheck_wear (d : Device) :
    (sensorCheck d).corr.wear = d.corr.wear ∧ (sensorCheck d).corr.corrDirty = d.corr.corrDirty := by
  unfold sensorCheck
  split
  · split
    · unfold when
      split
      · rw [raise_corr]
        exact ⟨rfl, rfl⟩
      · exact ⟨rfl, rfl⟩
    · exact ⟨rfl, rfl⟩
  · exact ⟨rfl, rfl⟩

/-- A pass due keeps the wear settings (R300). -/
theorem wearPass_wear (d : Device) : (wearPass d).corr.wear = d.corr.wear ∧ (wearPass d).corr.corrDirty = d.corr.corrDirty := by
  unfold wearPass
  split
  · exact ⟨rfl, rfl⟩
  · exact sensorCheck_wear _

/-- What WEAR_SET makes of the device: its settings in force and its completion, whether or not a pass follows. -/
theorem wearSetFx_part (hnode : d.isNode = true) (ha : misaligned c = false) (hb : c.host = .data b)
    (hgood : wearGood (recordNow d).primaries b = true) (hcal : d.cal.running.getD 1 none = none) :
    (wearSetFx c d).corr.wear = wearOf (recordNow d).primaries b d.corr.wear ∧ (wearSetFx c d).corr.corrDirty = true ∧
      (wearSetFx c d).comps = (wearPut c b d).comps ∧
      blank (.corr :: .comps :: reporting) (wearSetFx c d) = blank (.corr :: .comps :: reporting) d := by
  have hput : (wearPut c b d).corr.wear = wearOf (recordNow d).primaries b d.corr.wear ∧ (wearPut c b d).corr.corrDirty = true := by
    rw [wearPut, finish_corr]
    exact ⟨rfl, rfl⟩
  have hmask : blank (.corr :: .comps :: reporting) (wearPut c b d) = blank (.corr :: .comps :: reporting) d := by
    rw [wearPut, mask_finish rfl, mask_setCorr rfl]
  obtain ⟨hw, hd⟩ := wearPass_wear (wearPut c b d)
  rw [wearSetFx_good hnode ha hb hgood hcal]
  split
  · exact ⟨hput.1, hput.2, rfl, hmask⟩
  · exact ⟨hw.trans hput.1, hd.trans hput.2, comps_of_mask (ps := others .comps) (mask_wearPass rfl _) rfl,
      (mask_wearPass rfl _).trans hmask⟩

end

theorem getD_map_range {α : Type} {n i : Nat} (hi : i < n) (f : Nat → α) (x : α) : ((List.range n).map f).getD i x = f i := by
  simp [hi]

theorem wearSet_does {s : State} {c : Cmd} {b : List Byte} (hnode : s.dev.isNode = true) (ha : misaligned c = false)
    (hb : c.host = .data b) :
    (wearGood (recordNow s.dev).primaries b = true → s.dev.cal.running.getD 1 none = none →
      Does (.wearSet c) s (fun e => e.corr.wear.frozen = (le b 0 1 == 1) ∧
        (∀ i, i < 4 → i < (recordNow s.dev).primaries → nth e.corr.wear.target i = le b (0x10 + 4 * i) 4 ∧
          e.corr.wear.curves.getD i none = keepCurve (curveOf b i)) ∧
        e.corr.wear.kappa = (if hasBit (le b 1 1) 0 then [32768, 32768, 32768, 32768] else s.dev.corr.wear.kappa) ∧
        e.corr.corrDirty = true ∧ Finished s.dev e 0x35 c (boundaryRp s.dev) [] ∧
        SameBut (.corr :: .comps :: reporting) s.dev e)) ∧
    (wearGood (recordNow s.dev).primaries b = false →
      Does (.wearSet c) s (fun e => Completed s.dev e 0x35 c 4 none [] ∧ e.corr = s.dev.corr)) := by
  refine ⟨fun hgood hcal => ?_, fun hbad => corrRefused_does (F := wearSetFx c) rfl (wearSetFx_bad hnode ha hb hbad)⟩
  obtain ⟨hwear, hdirty, hcomps, hmask⟩ := wearSetFx_part hnode ha hb hgood hcal
  refine act_does (f := wearSetFx c) rfl ?_
  rw [keepClk_corr, hwear, hdirty, Finished, Completed, keepClk_comps, hcomps]
  refine ⟨rfl, fun i hi hp => ⟨?_, ?_⟩, rfl, rfl, finished_finish (e := setCorr _ s.dev) rfl _ _ _ _, sameBut_keepClk hmask⟩
  · have ht := getD_map_range hi
      (fun i => if i < (recordNow s.dev).primaries then le b (0x10 + 4 * i) 4 else nth s.dev.corr.wear.target i) 0
    exact ht.trans (if_pos hp)
  · have hc := getD_map_range hi
      (fun i => if i < (recordNow s.dev).primaries then keepCurve (curveOf b i) else s.dev.corr.wear.curves.getD i none) none
    exact hc.trans (if_pos hp)

/-! ### The exposure data register -/

theorem expoAdvance_word (d : Device) : (expoAdvance d).word 0x3844 = (d.field 0x3844 18 0 + 1) % 2 ^ 19 := by
  rw [expoAdvance, word_setWord_same _ _ (by omega)]

theorem expoReadFx_selected {k : Nat} {d : Device} (hnode : d.isNode = true) (hk : expoSelected d = some k) :
    expoReadFx d = expoAdvance { d with lastRead := BitVec.ofNat 32 (mget d.corr.expo k 0) } := by
  rw [expoReadFx, if_neg (by simp [hnode])]
  simp only [hk]

theorem expoWriteFx_selected {k v : Nat} {d : Device} (hnode : d.isNode = true) (hk : expoSelected d = some k) :
    expoWriteFx v d = expoAdvance (setCorr (fun c => { c with expo := mset c.expo k 0 v }) d) := by
  rw [expoWriteFx, if_neg (by simp [hnode])]
  simp only [hk]

theorem expoData_does {s : State} {k : Nat} (hnode : s.dev.isNode = true) (hk : expoSelected s.dev = some k) :
    Does .pxlExpoDataRead s (fun e => e.lastRead = BitVec.ofNat 32 (mget s.dev.corr.expo k 0) ∧
      e.word 0x3844 = (s.dev.field 0x3844 18 0 + 1) % 2 ^ 19 ∧ SameBut [.lastRead, .regs] s.dev e) ∧
    (∀ v, Does (.pxlExpoDataWrite v) s (fun e => mget e.corr.expo k 0 = v.toNat ∧
      (∀ j, j ≠ k → mget e.corr.expo j 0 = mget s.dev.corr.expo j 0) ∧
      e.word 0x3844 = (s.dev.field 0x3844 18 0 + 1) % 2 ^ 19 ∧ SameBut [.corr, .regs] s.dev e)) := by
  refine ⟨?_, fun v => ?_⟩
  · refine act_does (f := expoReadFx) rfl ?_
    rw [expoReadFx_selected hnode hk]
    exact ⟨rfl, expoAdvance_word _, sameBut_of_mask rfl⟩
  · refine act_does (f := expoWriteFx v.toNat) rfl ?_
    rw [expoWriteFx_selected hnode hk]
    exact ⟨mget_mset_same _ _ _, fun j hj => mget_mset_ne _ _ _ (Ne.symm hj) _, expoAdvance_word _, sameBut_of_mask rfl⟩

/-- Settles O49: each table or record is in force with its completion, or refused whole, and the data register's index moves on. -/
theorem correctionCommands : Obligations.CorrectionCommands := by
  refine fun s hnode => ⟨fun c b ha hb => ⟨fun hw hfits => ⟨fun hsame => ?_, fun hother => ?_⟩, fun hch => ?_, (wearSet_does hnode ha hb).1,
    (wearSet_does hnode ha hb).2⟩, fun k hk => expoData_does hnode hk⟩
  · refine does_mono (setCorr_finish_does (F := fun d => ccmLoadFx (nextDisplay d) none (recordNow d) c d) rfl
      (ccmLoadFx_good hnode ha hb hw hfits hsame)) fun e ⟨hcorr, hrest⟩ => ?_
    rw [hcorr]
    exact ⟨rfl, rfl, hrest⟩
  · exact corrRefused_does (F := fun d => ccmLoadFx (nextDisplay d) none (recordNow d) c d) rfl
      (ccmLoadFx_otherWindow hnode ha hb hw hfits hother)
  · exact setCorr_finish_does (F := fun d => encLutFx (nextDisplay d) c d)
      (g := fun x => { x with corrDirty := true, encLuts := setAt x.encLuts (opB c 9) (some (lutOf b)) }) rfl (encLutFx_good hnode ha hb hch)

end Sys2Proof.Proofs
end

/-! ## Sys2Proof/Proofs/Notices: notices are only ever added after those reported before (R400) -/

section

namespace Sys2Proof.Proofs

open Machine Laws

theorem prefix_raise (code : Nat) (payload : List Byte) (d : Device) : d.notes <+: (raise code payload d).notes := by
  rw [raise_notes]
  exact List.prefix_append _ _

theorem prefix_report (kind : Nat) (subject : Option (BitVec 12)) (code : Nat) (payload : List Byte) (d : Device) :
    d.notes <+: (report kind subject code payload d).notes := by
  unfold report
  split
  · exact prefix_raise _ _ _
  · dsimp only
    split <;> exact List.prefix_rfl

theorem prefix_eventLate (op : Nat) (c : Cmd) (effect : Option RP) (d : Device) : d.notes <+: (eventLate op c effect d).notes :=
  prefix_report _ _ _ _ _

theorem prefix_when {c : Bool} {f : Device → Device} {d : Device} (h : d.notes <+: (f d).notes) : d.notes <+: (when c f d).notes := by
  cases c
  · exact List.prefix_rfl
  · exact h

theorem prefix_finish (op : Nat) (c : Cmd) (effect : RP) (result : List Byte) (d : Device) :
    d.notes <+: (finish op c effect result d).notes := by
  have h := prefix_when (c := c.late) (prefix_eventLate op c (some effect) (complete op c (if c.late then 1 else 0) (some effect) result d))
  rwa [complete_notes] at h

/-- What is noticed first stays first, whatever is noticed after it. -/
theorem noticedFirst_of_prefix {d e f : Device} {code : Nat} {payload : List Byte} (hd : f.notes = d.notes)
    (h : (raise code payload f).notes <+: e.notes) : NoticedFirst d e code payload := by
  obtain ⟨r, hr⟩ := h
  exact ⟨r, by rw [← hr, raise_notes, hd, List.append_assoc]; rfl⟩

theorem told_of_prefix {e f : Device} {code : Nat} {payload : List Byte} (h : (raise code payload f).notes <+: e.notes) :
    Told e code payload := h.subset (by rw [raise_notes]; exact List.mem_append_right _ (List.mem_singleton.mpr rfl))

/-! ### The composition of a graph -/

theorem wmPut_notes (d : Device) (i : Nat) (w : Watermark) : (wmPut d i w).notes = d.notes :=
  notes_of_mask (ps := others .notes) (mask_wmPut rfl d i w) rfl

theorem prefix_sample (i level : Nat) (d : Device) : d.notes <+: (sample i level d).notes := by
  unfold sample
  extract_lets w w1 crossing w2
  split
  · rw [wmPut_notes]
    exact prefix_raise _ _ _
  · split <;> rw [wmPut_notes]

theorem prefix_poisonNote (g : Graph) (d : Device) : d.notes <+: (poisonNote g d).notes := by
  unfold poisonNote
  split
  · exact prefix_raise _ _ _
  · exact List.prefix_rfl

theorem prefix_shareNote (share : Nat) (d : Device) : d.notes <+: (shareNote share d).notes := by
  rw [shareNote, sampleLoad]
  exact prefix_sample 12 share (setPxl _ d)

theorem prefix_finishGraph (g : Graph) (cut : Bool) (d : Device) : d.notes <+: (finishGraph g cut d).notes := by
  have hload : ∀ (b : Bool) (e : Device), (loadReleased g.frame b g.record e).notes = e.notes := fun b e =>
    notes_of_mask (ps := others .notes) (mask_loadReleased rfl _ b _ e) rfl
  have hproof : ∀ e : Device, (sendProof g e).notes = e.notes := fun e => notes_of_mask (ps := others .notes) (mask_sendProof rfl g e) rfl
  have hpass : ∀ (c : BitVec 32) (e : Device), (passBuffers g c e).notes = e.notes := fun c e =>
    notes_of_mask (ps := others .notes) (mask_passBuffers rfl g c e) rfl
  unfold finishGraph
  extract_lets d1 d2 d3 d4 d5 d6
  rw [hpass, hproof]
  have h2 : d2.notes = d1.notes := hload _ _
  have h3 : d2.notes <+: d3.notes := prefix_poisonNote _ _
  have h4 : d3.notes <+: d4.notes := prefix_when (prefix_report _ _ _ _ _)
  have h5 : d4.notes <+: d5.notes := prefix_shareNote _ _
  have h := h3.trans (h4.trans h5)
  rwa [h2] at h

theorem prefix_finishIf (cut : Bool) (d : Device) : d.notes <+: (finishIf cut d).notes := by
  unfold finishIf
  split
  · split
    · exact prefix_finishGraph _ _ _
    · exact List.prefix_rfl
  · exact List.prefix_rfl

theorem queuesHeld_notes (d : Device) : (queuesHeld d).notes = d.notes := notes_of_mask (ps := others .notes) (mask_queuesHeld rfl d) rfl

theorem releaseTo_notes (n : Nat) (d : Device) : (releaseTo n d).notes = d.notes :=
  notes_of_mask (ps := others .notes) (mask_releaseTo rfl n d) rfl

theorem prefix_composeOn (d : Device) : d.notes <+: (composeOn d).notes := by
  unfold composeOn
  split
  case h_1 g hg =>
    split
    · rw [queuesHeld_notes]
    · have h := prefix_finishIf false (queuesHeld (releaseTo (heldAt d g) d))
      rwa [queuesHeld_notes, releaseTo_notes] at h
  case h_2 => exact List.prefix_rfl

/-! ### Health and spares -/

theorem prefix_judgeHealth (d : Device) : d.notes <+: (judgeHealth d).notes := by
  unfold judgeHealth
  extract_lets old bad h why e
  exact prefix_when (d := e) (prefix_report _ _ _ _ _)

theorem prefix_predict (d : Device) : d.notes <+: (predict d).notes := prefix_judgeHealth (setSpare _ d)

theorem prefix_judged (was d : Device) : d.notes <+: (judged was d).notes := by
  unfold judged
  split
  · exact prefix_judgeHealth d
  · exact prefix_predict d

theorem prefix_spareTaken (kind unit : Nat) (d : Device) : d.notes <+: (spareTaken kind unit d).notes := prefix_report _ _ _ _ (setSpare _ d)

theorem prefix_spareUsed (kind unit : Nat) (d : Device) : d.notes <+: (spareUsed kind unit d).notes :=
  (prefix_spareTaken kind unit d).trans (prefix_predict _)

end Sys2Proof.Proofs
end

/-! ## Sys2Proof/Proofs/Strings: strings, the boost supply, the photodiodes and the fixture record (R432 to R441, R449) -/

section

namespace Sys2Proof.Proofs

open Machine Laws

/-! ### The fixture state -/

section
variable {f : Device → Device} {y : Fix} {s : State} {i : Instr}

/-- A command that changes the fixture state and nothing else. -/
theorem setFix_does (hi : exec i s = act f s) (hf : f s.dev = { s.dev with fix := y }) :
    Does i s (fun e => e.fix = y ∧ SameBut [.fix] s.dev e) :=
  act_does_of_clk hi (by rw [hf]) (by rw [hf]; exact ⟨rfl, sameBut_of_mask rfl⟩)

/-- A command that changes the fixture state and reports it. -/
theorem setFix_raise_does {code : Nat} {payload : List Byte} (hi : exec i s = act f s)
    (hf : f s.dev = raise code payload { s.dev with fix := y }) : Does i s (fun e => e.fix = y ∧
      Noticed s.dev e code payload ∧ SameBut (.fix :: reporting) s.dev e) := by
  refine act_does_of_clk hi (by rw [hf, raise_clk]) ?_
  rw [hf]
  exact ⟨by rw [raise_fix], noticed_raise (d := s.dev) (by rfl) _ _, sameBut_of_mask (by rw [mask_raise rfl]; rfl)⟩

end

section
variable {d : Device} {ch : Nat} {x : StrChan}

theorem strOf_of_get (h : d.fix.strs[ch]? = some x) : strOf d ch = x := by
  rw [strOf, List.getD_eq_getElem?_getD, h, Option.getD_some]

theorem setStr_of_get (h : d.fix.strs[ch]? = some x) (f : StrChan → StrChan) :
    setStr ch f d = setFix (fun y => { y with strs := y.strs.set ch (f x) }) d := by
  rw [setStr, setFix, setFix, modAt_eq_set h]

theorem strOf_setStr (h : d.fix.strs[ch]? = some x) (f : StrChan → StrChan) : strOf (setStr ch f d) ch = f x := by
  have hlen := (List.getElem?_eq_some_iff.mp h).1
  rw [strOf, setStr, setFix_fix, getD_modAt_same hlen, List.getD_eq_getElem?_getD, h, Option.getD_some]

theorem strs_setStr (h : d.fix.strs[ch]? = some x) (f : StrChan → StrChan) : (setStr ch f d).fix.strs[ch]? = some (f x) := by
  have hlen := (List.getElem?_eq_some_iff.mp h).1
  rw [setStr_of_get h, setFix_fix, List.getElem?_set_self hlen]

end

/-! ### STRING_CONFIG, faults and retries -/

theorem fit_of_length {n : Nat} {b : List Byte} (h : b.length = n) : fit n b = b := by
  rw [fit, ← h, List.take_left]

/-- The channel as STRING_CONFIG sets it (R434, R439). -/
def strSet (b : List Byte) (x : StrChan) : StrChan :=
  let fl := le b 1 1
  { x with enable := hasBit fl 0, feedback := hasBit fl 1, sensor := bitsOf fl 3 2, iset := le b 2 2, drainMax := le b 6 2,
           v := if hasBit fl 5 then le b 4 2 else x.v, trim := if hasBit fl 1 then x.trim else 32768,
           rref := if hasBit fl 1 && !x.feedback || hasBit fl 6 then none else x.rref,
           missed := 0, fault := if hasBit fl 0 then x.fault else none }

/-- What STRING_CONFIG keeps in the record, where it keeps anything. -/
def strKept (b : List Byte) (ch : Nat) (save : Bool) (d : Device) : Device :=
  setFix (fun x => { x with
    dirty := true, image := { x.image with strs := modAt x.image.strs ch (fun e => (if save then b else e.1, (strOf d ch).rref)) } }) d

section
variable {c : Cmd} {d : Device} {x : StrChan}

theorem putStr_eq (ch : Nat) (b : List Byte) (d : Device) : putStr ch b d = setStr ch (strSet b) d := rfl

theorem stringConfigFx_good (hnode : d.isNode = true) (hch : opB c 0 ≤ 15) (hsensor : bitsOf (opB c 1) 3 2 ≠ 3) (hiset : opN c 2 2 ≤ 4095)
    (hlow : 100 ≤ opN c 6 2) (hhigh : opN c 6 2 ≤ 6000) (hlen : c.ops.length = 32) : ∃ keep : Bool,
      (hasBit (opB c 1) 4 = true → keep = true) ∧ stringConfigFx c d = finish 0x62 c (boundaryRp d) []
        (when keep (strKept c.ops (opB c 0) (hasBit (opB c 1) 4)) (setStr (opB c 0) (strSet c.ops) d)) := by
  refine ⟨hasBit (opB c 1) 4 || (strOf d (opB c 0)).rref != (strOf (setStr (opB c 0) (strSet c.ops) d) (opB c 0)).rref,
    fun h => by rw [h, Bool.true_or], ?_⟩
  rw [stringConfigFx, if_neg (by simp [hnode]), if_neg (by omega)]
  simp only [fit_of_length hlen, putStr_eq]
  unfold when
  split <;> rfl

theorem strOf_kept (b : List Byte) (ch : Nat) (keep save : Bool) (d : Device) : strOf (when keep (strKept b ch save) d) ch = strOf d ch := by
  cases keep <;> rfl

theorem stringConfig_does {s : State} (hnode : s.dev.isNode = true) (hch : opB c 0 ≤ 15) (hsensor : bitsOf (opB c 1) 3 2 ≠ 3)
    (hiset : opN c 2 2 ≤ 4095) (hlow : 100 ≤ opN c 6 2) (hhigh : opN c 6 2 ≤ 6000) (hx : s.dev.fix.strs[opB c 0]? = some x)
    (hlen : c.ops.length = 32) : Does (.stringConfig c) s (fun e => (strOf e (opB c 0)).enable = hasBit (opB c 1) 0 ∧
      (strOf e (opB c 0)).iset = opN c 2 2 ∧ (strOf e (opB c 0)).drainMax = opN c 6 2 ∧
      (strOf e (opB c 0)).v = (if hasBit (opB c 1) 5 then opN c 4 2 else x.v) ∧
      (hasBit (opB c 1) 4 = true → e.fix.dirty = true) ∧ Finished s.dev e 0x62 c (boundaryRp s.dev) [] ∧
      SameBut (.fix :: .comps :: reporting) s.dev e) := by
  obtain ⟨keep, hkeep, hfx⟩ := stringConfigFx_good hnode hch hsensor hiset hlow hhigh hlen
  have hstr : strOf (stringConfigFx c s.dev) (opB c 0) = strSet c.ops x := by
    rw [hfx, strOf, finish_fix]
    exact (strOf_kept _ _ _ _ _).trans (strOf_setStr hx _)
  refine act_does (f := stringConfigFx c) rfl ?_
  rw [strOf, keepClk_fix, ← strOf, hstr]
  refine ⟨rfl, rfl, rfl, rfl, fun h => ?_, ?_, sameBut_keepClk (mask_stringConfigFx rfl c s.dev)⟩
  · rw [hfx, finish_fix, hkeep h]
    rfl
  · rw [Finished, Completed, keepClk_comps, hfx]
    exact finished_finish (comps_of_mask (ps := [.fix]) (by cases keep <;> rfl) rfl) _ _ _ _

end

section
variable {s : State} {ch : Fin 16} {x : StrChan}

theorem stringFault_does {cause : Fin 2} (hx : s.dev.fix.strs[ch.val]? = some x) (hmay : strMay s.dev ch.val = true) :
    Does (.stringFault ch cause) s (fun e =>
      e.fix = { s.dev.fix with strs := s.dev.fix.strs.set ch.val { x with fault := some cause.val } } ∧
      Noticed s.dev e 0x6003 (leN 1 ch.val ++ leN 1 cause.val ++ zeros 2) ∧ SameBut (.fix :: reporting) s.dev e) :=
  setFix_raise_does (f := stringFaultFx ch.val cause.val) rfl
    (by rw [stringFaultFx, if_neg (by simp [hmay]), setStr_of_get hx]; rfl)

theorem stringRetry_good_does (hon : fixturesOn s.dev = true) (hx : s.dev.fix.strs[ch.val]? = some x) (hfault : x.fault.isSome = true) :
    Does (.stringRetry ch true) s (fun e =>
      e.fix = { s.dev.fix with strs := s.dev.fix.strs.set ch.val { x with fault := none } } ∧
      Noticed s.dev e 0x6003 (leN 1 ch.val ++ leN 1 5 ++ zeros 2)) := by
  refine does_mono (setFix_raise_does (f := stringRetryFx ch.val true) rfl ?_) fun _ h => ⟨h.1, h.2.1⟩
  rw [stringRetryFx, if_neg (by simp [hon, strOf_of_get hx, Option.isSome_iff_ne_none.mp hfault]), setStr_of_get hx]
  rfl

theorem stringRetry_bad_does : Does (.stringRetry ch false) s (fun e => e = s.dev) := by
  refine act_does (f := stringRetryFx ch.val false) rfl ?_
  rw [stringRetryFx, if_pos (by simp), keepClk_self]

end

/-! ### The boost supply -/

section
variable {s : State}

theorem boostStep_idle_does {m : BoostMeas} (hon : fixturesOn s.dev = true) (hstop : s.dev.fix.stopped = false)
    (hneed : neediest s.dev m = none) : Does (.boostStep m) s (fun e =>
      e.fix = { s.dev.fix with measured := railVolts s.dev m.fb } ∧ SameBut [.fix] s.dev e) := by
  refine setFix_does (f := boostStepFx m) rfl ?_
  have hneed' : neediest (setFix (fun x => { x with measured := railVolts s.dev m.fb }) s.dev) m = none := hneed
  rw [boostStepFx, if_neg (by simp [hon, hstop])]
  simp only [hneed']
  rfl

theorem boostStep_does {m : BoostMeas} {ch n : Nat} (hon : fixturesOn s.dev = true) (hstop : s.dev.fix.stopped = false)
    (hneed : neediest s.dev m = some (ch, n)) (hlim : s.dev.fix.limited = false) : Does (.boostStep m) s (fun e =>
      e.fix = { s.dev.fix with measured := railVolts s.dev m.fb, neediest := ch, setpoint := (clamp (clamp (n : Int) (vMin s.dev) (vMax s.dev)) ((s.dev.fix.setpoint : Int) - 1) (s.dev.fix.setpoint + 10)).toNat } ∧
      SameBut [.fix] s.dev e) := by
  refine setFix_does (f := boostStepFx m) rfl ?_
  have hneed' : neediest (setFix (fun x => { x with measured := railVolts s.dev m.fb }) s.dev) m = some (ch, n) := hneed
  rw [boostStepFx, if_neg (by simp [hon, hstop])]
  simp only [hneed']
  rw [if_neg (by simp [hlim])]
  rfl

theorem boostLimit_need_does {need : Nat} (hon : fixturesOn s.dev = true) (hstop : s.dev.fix.stopped = false)
    (hlim : s.dev.fix.limited = false) (hneed : vMax s.dev < need) : Does (.boostLimit 0 need) s (fun e =>
      e.fix = { s.dev.fix with limited := true, setpoint := vMax s.dev } ∧
      Noticed s.dev e 0x6004 (leN 1 0 ++ zeros 1 ++ leN 2 need)) := by
  refine does_mono (setFix_raise_does (f := boostLimitFx 0 need) rfl ?_) fun _ h => ⟨h.1, h.2.1⟩
  rw [boostLimitFx, if_neg (by simp [hon]), if_pos rfl, if_neg (by simp [hlim, hstop, hneed])]
  rfl

theorem boostLimit_end_does {need : Nat} (hon : fixturesOn s.dev = true) (hlim : s.dev.fix.limited = true) (hneed : need ≤ vMax s.dev) :
    Does (.boostLimit 3 need) s (fun e => e.fix = { s.dev.fix with limited := false } ∧
      Noticed s.dev e 0x6004 (leN 1 3 ++ zeros 1 ++ leN 2 need)) := by
  refine does_mono (setFix_raise_does (f := boostLimitFx 3 need) rfl ?_) fun _ h => ⟨h.1, h.2.1⟩
  rw [boostLimitFx, if_neg (by simp [hon]), if_neg (by decide), if_pos rfl, if_pos (by simp [hlim, hneed])]
  rfl

theorem boostLimit_fault_does {cause : Fin 4} {need : Nat} (hon : fixturesOn s.dev = true) (hstop : s.dev.fix.stopped = false)
    (hcause : cause.val = 1 ∨ cause.val = 2) : Does (.boostLimit cause need) s (fun e =>
      e.fix = { s.dev.fix with stopped := true } ∧ Noticed s.dev e 0x6004 (leN 1 cause.val ++ zeros 1 ++ leN 2 need)) := by
  refine does_mono (setFix_raise_does (f := boostLimitFx cause.val need) rfl ?_) fun _ h => ⟨h.1, h.2.1⟩
  rw [boostLimitFx, if_neg (by simp [hon]), if_neg (by omega), if_neg (by omega), if_neg (by simp [hstop])]
  rfl

theorem boostRestart_does (hon : fixturesOn s.dev = true) (hstop : s.dev.fix.stopped = true) : Does .boostRestart s (fun e =>
    e.fix = { s.dev.fix with stopped := false, setpoint := vMax s.dev } ∧
    Noticed s.dev e 0x6004 (leN 1 3 ++ zeros 1 ++ leN 2 0)) := by
  refine does_mono (setFix_raise_does (f := boostRestartFx) rfl ?_) fun _ h => ⟨h.1, h.2.1⟩
  rw [boostRestartFx, if_neg (by simp [hon, hstop])]
  rfl

end

/-! ### Probes of the string feedback -/

section
variable {dark r : Reading} {ch : Nat} {x : StrChan} {y : Int} {d : Device}

/-- A probe of one channel whose span fits: its response is judged. -/
theorem probeFx_one (hon : fixturesOn d = true) (hx : d.fix.strs[ch]? = some x)
    (hchs : (List.range 16).filter (fun k => (strOf d k).feedback && (strOf d k).enable) = [ch]) (hfits : probeFits d 1 = true)
    (hy : y = (inputOf r x.sensor : Int) - inputOf dark x.sensor) :
    probeFx dark [(ch, r)] false d = trimStep ch y (setStr ch (fun s => { s with missed := 0 }) d) := by
  rw [probeFx, if_neg (by simp [hon])]
  simp only [hchs, Bool.false_eq_true, if_false, List.length_singleton, hfits, Bool.not_true, List.foldl_cons, List.foldl_nil,
    List.find?_cons, beq_self_eq_true, strOf_of_get hx, hy]

theorem trimStep_first (hx : d.fix.strs[ch]? = some x) (href : x.rref = none) : trimStep ch y d = keepRef ch y d := by
  unfold trimStep
  simp only [strOf_of_get hx, href]

/-- The trim that a response asks for, moved in a bounded step (R439). -/
def trimFor (q y : Int) (trim : Nat) : Nat :=
  (clamp (clamp ((65536 * q + y) / (2 * y)) ((trim : Int) - 32) (trim + 32)) 16384 65535).toNat

theorem trimStep_next {q : Int} (hx : d.fix.strs[ch]? = some x) (href : x.rref = some q) (hq : q ≤ 8 * y) (hy : 0 < y) :
    ∃ told : Bool, trimStep ch y d = when told (stringNote ch 2) (setStr ch (fun s => { s with trim := trimFor q y x.trim }) d) := by
  refine ⟨(trimFor q y x.trim == 16384 || trimFor q y x.trim == 65535) && trimFor q y x.trim != x.trim, ?_⟩
  unfold trimStep
  simp only [strOf_of_get hx, href, if_neg (Int.not_lt.mpr hq), if_neg (Int.not_le.mpr hy)]
  rfl

theorem when_stringNote_fix (told : Bool) (ch cause : Nat) (d : Device) : (when told (stringNote ch cause) d).fix = d.fix := by
  cases told
  · rfl
  · exact raise_fix _ _ _

theorem keepRef_strOf (hx : d.fix.strs[ch]? = some x) : strOf (keepRef ch y d) ch = { x with rref := some y } :=
  (strOf_setStr hx (fun s => { s with rref := some y }) :)

end

section
variable {s : State} {dark r : Reading} {ch : Nat} {x : StrChan} {y : Int}

theorem probe_first_does (hon : fixturesOn s.dev = true) (hx : s.dev.fix.strs[ch]? = some x)
    (hchs : (List.range 16).filter (fun k => (strOf s.dev k).feedback && (strOf s.dev k).enable) = [ch])
    (hfits : probeFits s.dev 1 = true) (hy : y = (inputOf r x.sensor : Int) - inputOf dark x.sensor) (href : x.rref = none) :
    Does (.stringFeedbackProbe dark [(ch, r)] false) s (fun e => (strOf e ch).rref = some y ∧
      (strOf e ch).missed = 0 ∧ e.fix.dirty = true ∧ SameBut [.fix] s.dev e) := by
  have hx' := strs_setStr hx (fun s => { s with missed := 0 })
  have hfx := (probeFx_one hon hx hchs hfits hy).trans (trimStep_first hx' href)
  refine act_does_of_clk (f := probeFx dark [(ch, r)] false) rfl (by rw [hfx]; rfl) ?_
  rw [hfx, keepRef_strOf hx']
  exact ⟨rfl, rfl, rfl, sameBut_of_mask rfl⟩

theorem probe_next_does {q : Int} (hon : fixturesOn s.dev = true) (hx : s.dev.fix.strs[ch]? = some x)
    (hchs : (List.range 16).filter (fun k => (strOf s.dev k).feedback && (strOf s.dev k).enable) = [ch])
    (hfits : probeFits s.dev 1 = true) (hy : y = (inputOf r x.sensor : Int) - inputOf dark x.sensor) (href : x.rref = some q)
    (hq : q ≤ 8 * y) (hpos : 0 < y) : Does (.stringFeedbackProbe dark [(ch, r)] false) s (fun e =>
      (strOf e ch).trim = trimFor q y x.trim ∧ (strOf e ch).rref = some q ∧ SameBut (.fix :: reporting) s.dev e) := by
  have hx' := strs_setStr hx (fun s => { s with missed := 0 })
  obtain ⟨told, htrim⟩ := trimStep_next hx' href hq hpos
  have hfx := (probeFx_one hon hx hchs hfits hy).trans htrim
  have hmask : blank (.fix :: reporting) (probeFx dark [(ch, r)] false s.dev) = blank (.fix :: reporting) s.dev := by
    rw [hfx]
    simp (disch := decide) only [blank_when, mask_stringNote, ite_self]
    rfl
  have hstr : strOf (probeFx dark [(ch, r)] false s.dev) ch = { x with missed := 0, trim := trimFor q y x.trim } := by
    rw [hfx, strOf, when_stringNote_fix]
    exact strOf_setStr hx' (fun s => { s with trim := trimFor q y x.trim })
  refine act_does (f := probeFx dark [(ch, r)] false) rfl ?_
  rw [strOf, keepClk_fix, ← strOf, hstr]
  exact ⟨rfl, href, sameBut_keepClk hmask⟩

theorem probe_missed_does (hon : fixturesOn s.dev = true) (hx : s.dev.fix.strs[ch]? = some x)
    (hchs : (List.range 16).filter (fun k => (strOf s.dev k).feedback && (strOf s.dev k).enable) = [ch]) :
    Does (.stringFeedbackProbe dark [] true) s (fun e => (strOf e ch).missed = x.missed + 1 ∧ (strOf e ch).trim = x.trim) := by
  have hfx : probeFx dark [] true s.dev = when (x.missed + 1 == 3) (stringNote ch 4)
      (setStr ch (fun s => { s with missed := x.missed + 1 }) s.dev) := by
    rw [probeFx, if_neg (by simp [hon])]
    simp only [hchs, if_true, List.foldl_cons, List.foldl_nil, strOf_of_get hx]
  have hstr : strOf (probeFx dark [] true s.dev) ch = { x with missed := x.missed + 1 } := by
    rw [hfx, strOf, when_stringNote_fix]
    exact strOf_setStr hx (fun s => { s with missed := x.missed + 1 })
  refine act_does (f := probeFx dark [] true) rfl ?_
  rw [strOf, keepClk_fix, ← strOf, hstr]
  exact ⟨rfl, rfl⟩

end

/-! ### The photodiodes and the record -/

section
variable {s : State}

theorem sensorQuery_does {c : Cmd} (hnode : s.dev.isNode = true) (hlow : 1 ≤ opN c 0 4) (hhigh : opN c 0 4 ≤ s.dev.clk.raster.frameSub) :
    Does (.sensorQuery c) s (fun e => e.fix.sensor = s.dev.fix.sensor ++ [(s.dev.clk.rp, c)] ∧
      (s.dev.fix.sensor = [] → s.dev.cal.win = none → e.fix.sensorAt = queryStart s.dev c s.dev.clk.rp) ∧ SameBut [.fix] s.dev e) := by
  have hfx : sensorQueryFx c s.dev = setFix (fun x => { x with
      sensor := x.sensor ++ [(s.dev.clk.rp, c)],
      sensorAt := if s.dev.fix.sensor.isEmpty && s.dev.cal.win.isNone then queryStart s.dev c s.dev.clk.rp else x.sensorAt }) s.dev := by
    rw [sensorQueryFx, if_neg (by simp [hnode]), if_neg (by omega)]
  refine does_mono (setFix_does (f := sensorQueryFx c) rfl hfx) fun e h => ?_
  obtain ⟨hfix, hsame⟩ := h
  rw [hfix]
  exact ⟨rfl, fun hs hw => if_pos (by rw [hs, hw]; rfl), hsame⟩

theorem sensorWindowEnd_query_does {r : Reading} {at_ : RP} {c : Cmd} (hwin : s.dev.cal.win = none) (hq : s.dev.fix.sensor = [(at_, c)])
    (hsat : r.saturated = 0) : Does (.sensorWindowEnd r) s (fun e => e.fix = { s.dev.fix with sensor := [] } ∧
      Finished s.dev e 0x65 c at_ (leN 4 (r.x % 2 ^ 20) ++ leN 4 (r.y % 2 ^ 20) ++ leN 4 (r.z % 2 ^ 20) ++ leN 4 (r.dk % 2 ^ 20) ++
        s.dev.fix.sensorAt.bytes ++ leN 4 r.cycles)) := by
  have hbit : ∀ i, hasBit 0 i = false := by simp [hasBit, bitAt]
  have hfx : sensorEndFx r s.dev = finish 0x65 c at_ (leN 4 (r.x % 2 ^ 20) ++ leN 4 (r.y % 2 ^ 20) ++ leN 4 (r.z % 2 ^ 20) ++
      leN 4 (r.dk % 2 ^ 20) ++ s.dev.fix.sensorAt.bytes ++ leN 4 r.cycles) (setFix (fun x => { x with sensor := [] }) s.dev) := by
    unfold sensorEndFx
    simp only [hwin, hq, hsat, hbit, Bool.false_eq_true, if_false, Nat.add_zero]
    rfl
  refine act_does_of_clk (f := sensorEndFx r) rfl (by rw [hfx, finish_clk]; rfl) ?_
  rw [hfx]
  exact ⟨by rw [finish_fix]; rfl, finished_finish (d := s.dev) (by rfl) _ _ _ _⟩

theorem sensorWindowEnd_cal_does {r : Reading} {w : CalWin} (hwin : s.dev.cal.win = some w) (hlit : w.lit = none) :
    Does (.sensorWindowEnd r) s (fun e => e.cal = { s.dev.cal with win := some { w with lit := some r } } ∧ SameBut [.cal] s.dev e) := by
  have hfx : sensorEndFx r s.dev = setCal (fun c => { c with win := some { w with lit := some r } }) s.dev := by
    unfold sensorEndFx calWindow
    simp only [hwin, hlit]
    rfl
  refine act_does_of_clk (f := sensorEndFx r) rfl (by rw [hfx]; rfl) ?_
  rw [hfx]
  exact ⟨rfl, sameBut_of_mask rfl⟩

theorem fixtureRecordWrite_good_does (hnode : s.dev.isNode = true) (hdirty : s.dev.fix.dirty = true) :
    Does (.fixtureRecordWrite true) s (fun e => e.fix.dirty = false ∧ e.fix.recs = setAt s.dev.fix.recs (otherArea (newestFix s.dev.fix)) (some { s.dev.fix.image with seq := nextRecSeq FixRec.seq (newestFix s.dev.fix) }) ∧
      SameBut [.fix] s.dev e) := by
  have hfx : fixtureWriteFx true s.dev = setFix (fun x =>
      let r := { x.image with seq := nextRecSeq FixRec.seq (newestFix x) }
      { x with dirty := false, recs := setAt x.recs (otherArea (newestFix s.dev.fix)) (some r), image := r }) s.dev := by
    rw [fixtureWriteFx, if_neg (by simp [hnode, hdirty])]
    exact if_pos rfl
  refine does_mono (setFix_does (f := fixtureWriteFx true) rfl hfx) fun e h => ?_
  obtain ⟨hfix, hsame⟩ := h
  rw [hfix]
  exact ⟨rfl, rfl, hsame⟩

theorem fixtureRecordWrite_bad_does (hnode : s.dev.isNode = true) (hdirty : s.dev.fix.dirty = true) :
    Does (.fixtureRecordWrite false) s (fun e => e.fix = { s.dev.fix with recs := setAt s.dev.fix.recs (otherArea (newestFix s.dev.fix)) none } ∧
      Noticed s.dev e 0x3011 (leN 1 (otherArea (newestFix s.dev.fix)) ++ zeros 3)) := by
  refine does_mono (setFix_raise_does (f := fixtureWriteFx false) rfl ?_) fun _ h => ⟨h.1, h.2.1⟩
  rw [fixtureWriteFx, if_neg (by simp [hnode, hdirty])]
  exact if_neg (by decide)

end

/-- Settles O51: each command sets its part of the fixture state and completes or reports. -/
theorem stringsAndSensors : Obligations.StringsAndSensors := by
  refine fun s => ⟨fun c x hnode hch hsensor hiset hlow hhigh hx hlen => stringConfig_does hnode hch hsensor hiset hlow hhigh hx hlen,
    fun ch cause x hx hmay => stringFault_does hx hmay,
    fun hon ch x hx hfault => ⟨stringRetry_good_does hon hx hfault, stringRetry_bad_does⟩,
    fun hon hstop => ⟨fun m hneed => boostStep_idle_does hon hstop hneed, fun m ch n hneed hlim => boostStep_does hon hstop hneed hlim,
      fun need hlim hneed => boostLimit_need_does hon hstop hlim hneed, fun need hlim hneed => boostLimit_end_does hon hlim hneed,
      fun cause need hcause => boostLimit_fault_does hon hstop hcause⟩,
    fun hon hstop => boostRestart_does hon hstop,
    fun dark r ch x y hon hx hchs hfits hy => ⟨fun href => probe_first_does hon hx hchs hfits hy href,
      fun q href hq hpos => probe_next_does hon hx hchs hfits hy href hq hpos, probe_missed_does hon hx hchs⟩,
    fun c hnode hlow hhigh => sensorQuery_does hnode hlow hhigh,
    fun r at_ c hwin hq hsat => sensorWindowEnd_query_does hwin hq hsat,
    fun r w hwin hlit => sensorWindowEnd_cal_does hwin hlit,
    fun hnode hdirty => ⟨fixtureRecordWrite_good_does hnode hdirty, fixtureRecordWrite_bad_does hnode hdirty⟩⟩

end Sys2Proof.Proofs
end

/-! ## Sys2Proof/Proofs/Patterns: pattern engines loaded, started, halted and faulted (R442, R446 to R448) -/

section

namespace Sys2Proof.Proofs

open Machine Laws

/-! ### Engines changed, and devices on which no fade runs -/

section
variable {d : Device} {n : Nat} {x : PatEngine} {f : PatEngine → PatEngine}

theorem patOf_of_get (h : d.fix.pats[n]? = some x) : patOf d n = x := by
  rw [patOf, List.getD_eq_getElem?_getD, h, Option.getD_some]

theorem patOf_setPat (hn : n < d.fix.pats.length) : patOf (setPat n f d) n = f (patOf d n) := getD_modAt_same hn f _

theorem pats_length_setPat (n : Nat) (f : PatEngine → PatEngine) (d : Device) : (setPat n f d).fix.pats.length = d.fix.pats.length :=
  List.length_modify ..

theorem setPat_self (h : f (patOf d n) = patOf d n) : setPat n f d = d := by
  have hp : modAt d.fix.pats n f = d.fix.pats := by
    cases hx : d.fix.pats[n]? with
    | none => exact List.modify_eq_self (by simpa using hx)
    | some x =>
      rw [patOf_of_get hx] at h
      obtain ⟨hlen, hget⟩ := List.getElem?_eq_some_iff.mp hx
      rw [modAt_eq_set hx, h, ← hget, List.set_getElem_self]
  rw [setPat, setFix, hp]

theorem noFades_of_fix {e : Device} (h : e.fix = d.fix) (hd : NoFades d) : NoFades e := by
  rw [NoFades, h]
  exact hd

theorem noFades_setPat (hd : NoFades d) (hf : ∀ p : PatEngine, p.fades = [] ∧ p.fadeWait = none → (f p).fades = [] ∧ (f p).fadeWait = none) :
    NoFades (setPat n f d) := by
  intro p hp
  obtain ⟨i, hi⟩ := List.mem_iff_getElem?.mp hp
  rw [setPat, setFix_fix, modAt, List.getElem?_modify] at hi
  obtain ⟨q, hq, rfl⟩ := Option.map_eq_some_iff.mp hi
  have hnone := hd q (List.mem_of_getElem? hq)
  split
  · exact hf q hnone
  · exact hnone

theorem noFades_patOf (hd : NoFades d) (n : Nat) : (patOf d n).fades = [] ∧ (patOf d n).fadeWait = none := by
  rw [patOf, List.getD_eq_getElem?_getD]
  cases hx : d.fix.pats[n]? with
  | none => exact ⟨rfl, rfl⟩
  | some x => exact hd x (List.mem_of_getElem? hx)

/-- An engine without fades keeps what filtering them leaves. -/
theorem with_fades_nil {p : PatEngine} (h : p.fades = []) : { p with fades := [] } = p := by rw [← h]

theorem patSettle_noFades (hd : NoFades d) (at_ : RP) : patSettle at_ d = d :=
  List.foldl_fixed' (fun k => by simp only [(noFades_patOf hd k).2]) _

theorem sampleFades_noFades (hd : NoFades d) (mine : Target → Bool) (at_ : RP) : sampleFades mine at_ d = d := by
  refine List.foldl_fixed' (fun k => ?_) _
  have hk := (noFades_patOf hd k).1
  simp only [hk, List.filter_nil, List.foldl_nil]
  exact setPat_self (by simp only [hk, List.filter_nil, with_fades_nil])

theorem stopFades_noFades (hd : NoFades d) (n : Nat) (at_ : RP) : stopFades n at_ d = d := by
  have hn := (noFades_patOf hd n).1
  simp only [stopFades, hn, List.foldl_nil]
  exact setPat_self (with_fades_nil hn)

end

/-! ### Runs of an engine -/

section
variable {d : Device} {n k : Nat}

theorem patRun_stop (h : patOp ((patOf d n).prog.getD (patOf d n).pc 0).toNat = some .stop) :
    patRun (k + 1) n d = setPat n (fun p => { p with state := .stopped }) d := by
  simp only [patRun, patInstr, h]

theorem patRun_reserved (h : patOp ((patOf d n).prog.getD (patOf d n).pc 0).toNat = none) :
    patRun (k + 1) n d = patFault n 3 d := by
  simp only [patRun, patInstr, h]

theorem patRun_load {r v : Nat} (h : patOp ((patOf d n).prog.getD (patOf d n).pc 0).toNat = some (.load r v)) :
    patRun (k + 1) n d = patRun k n (nextPc n (setReg n r v d)) := by
  simp only [patRun, patInstr, h]

end

/-- An engine as a START sets it running (R448). -/
def started (at_ : RP) (a : Nat) (v : List Nat) (p : PatEngine) : PatEngine :=
  { p with t := at_, x := 0, v := v, pc := a, state := .running, fadeWait := none }

/-- The registers that PATTERN_CONTROL gives (R448). -/
def startRegs (c : Cmd) : List Nat := [opN c 6 2, opN c 8 2, opN c 10 2, opN c 12 2]

section
variable {c : Cmd} {d : Device} {n : Nat} {x : PatEngine}

theorem noFades_started (hd : NoFades d) (at_ : RP) (a : Nat) (v : List Nat) : NoFades (setPat n (started at_ a v) d) :=
  noFades_setPat hd fun _ hp => ⟨hp.1, rfl⟩

theorem startPat_noFades (hd : NoFades d) (at_ : RP) (a : Nat) (v : List Nat) :
    startPat n at_ a v d = patRun 256 n (setPat n (started at_ a v) d) := by
  rw [startPat, stopFades_noFades hd]
  rfl

theorem patOf_started (hx : d.fix.pats[n]? = some x) (at_ : RP) (a : Nat) (v : List Nat) :
    patOf (setPat n (started at_ a v) d) n = started at_ a v x := by
  rw [patOf_setPat (List.getElem?_eq_some_iff.mp hx).1, patOf_of_get hx]

/-- A START of one engine (R448). -/
theorem patternControlFx_start (hd : NoFades d) (hnode : d.isNode = true) (hns : (List.range 16).filter (hasBit (opN c 0 2)) = [n])
    (ha : opB c 4 ≤ 63) (hstart : opB c 2 = 0) : patternControlFx c d = finish 0x64 c d.clk.rp []
      (patSettle d.clk.rp (patRun 256 n (setPat n (started d.clk.rp (opB c 4) (startRegs c)) d))) := by
  rw [patternControlFx, if_neg (by simp [hnode]), if_neg (by omega), if_pos hstart]
  simp only [hns, List.isEmpty_cons, Bool.false_eq_true, if_false, List.foldl_cons, List.foldl_nil, startPat_noFades hd]
  rfl

/-- A START whose first instruction is STOP. -/
theorem patternControlFx_start_stop (hd : NoFades d) (hnode : d.isNode = true) (hx : d.fix.pats[n]? = some x)
    (hns : (List.range 16).filter (hasBit (opN c 0 2)) = [n]) (ha : opB c 4 ≤ 63) (hstart : opB c 2 = 0)
    (hop : patOp (x.prog.getD (opB c 4) 0).toNat = some .stop) : patternControlFx c d = finish 0x64 c d.clk.rp []
      (setPat n (fun p => { p with state := .stopped }) (setPat n (started d.clk.rp (opB c 4) (startRegs c)) d)) := by
  rw [patternControlFx_start hd hnode hns ha hstart, patRun_stop (by rw [patOf_started hx]; exact hop),
    patSettle_noFades]
  exact noFades_setPat (noFades_started hd _ _ _) fun _ hp => hp

/-- A START whose first instruction the table reserves. -/
theorem patternControlFx_start_reserved (hd : NoFades d) (hnode : d.isNode = true) (hx : d.fix.pats[n]? = some x)
    (hns : (List.range 16).filter (hasBit (opN c 0 2)) = [n]) (ha : opB c 4 ≤ 63) (hstart : opB c 2 = 0)
    (hop : patOp (x.prog.getD (opB c 4) 0).toNat = none) : patternControlFx c d = finish 0x64 c d.clk.rp []
      (patFault n 3 (setPat n (started d.clk.rp (opB c 4) (startRegs c)) d)) := by
  rw [patternControlFx_start hd hnode hns ha hstart, patRun_reserved (by rw [patOf_started hx]; exact hop), patSettle_noFades]
  exact noFades_of_fix (raise_fix _ _ _) (noFades_setPat (noFades_started hd _ _ _) fun _ hp => ⟨hp.1, rfl⟩)

/-- The device after a START whose first instruction loads a register: at the second. -/
def loaded (n : Nat) (c : Cmd) (r v : Nat) (d : Device) : Device :=
  nextPc n (setReg n r v (setPat n (started d.clk.rp (opB c 4) (startRegs c)) d))

theorem patOf_loaded (hx : d.fix.pats[n]? = some x) (ha : opB c 4 ≤ 62) (r v : Nat) : patOf (loaded n c r v d) n =
    { started d.clk.rp (opB c 4) (startRegs c) x with v := setAt (startRegs c) r (v % 65536), pc := opB c 4 + 1 } := by
  have hn : n < d.fix.pats.length := (List.getElem?_eq_some_iff.mp hx).1
  have hpc : (opB c 4 + 1) % 64 = opB c 4 + 1 := Nat.mod_eq_of_lt (by omega)
  rw [loaded, nextPc, patOf_setPat (by simpa only [setReg, pats_length_setPat] using hn), setReg,
    patOf_setPat (by simpa only [pats_length_setPat] using hn), patOf_started hx, ← hpc]
  rfl

theorem patternControlFx_start_load {r v : Nat} (hd : NoFades d) (hnode : d.isNode = true) (hx : d.fix.pats[n]? = some x)
    (hns : (List.range 16).filter (hasBit (opN c 0 2)) = [n]) (ha : opB c 4 ≤ 62) (hstart : opB c 2 = 0)
    (hop : patOp (x.prog.getD (opB c 4) 0).toNat = some (.load r v)) (hnext : patOp (x.prog.getD (opB c 4 + 1) 0).toNat = some .stop) :
    patternControlFx c d = finish 0x64 c d.clk.rp [] (setPat n (fun p => { p with state := .stopped }) (loaded n c r v d)) := by
  rw [patternControlFx_start hd hnode hns (by omega) hstart, patRun_load (by rw [patOf_started hx]; exact hop), ← loaded,
    patRun_stop (by rw [patOf_loaded hx ha]; exact hnext), patSettle_noFades]
  refine noFades_setPat (noFades_setPat (noFades_setPat (noFades_started hd _ _ _) ?_) ?_) ?_ <;> exact fun _ hp => hp

end

/-! ### PATTERN_LOAD -/

/-- An engine with a program loaded, at its start (R447). -/
def programmed (ws : List Word) (auto : Bool) (p : PatEngine) : PatEngine := { p with prog := ws, auto := auto, pc := 0, state := .stopped }

/-- The device with a program loaded, kept in the record where the command asks for it (R447, R449). -/
def patLoaded (c : Cmd) (n : Nat) (b : List Byte) (d : Device) : Device :=
  when (hasBit (opB c 9) 0) (setFix (fun x => { x with
    dirty := true,
    image := { x.image with auto := setAt x.image.auto n (hasBit (opB c 9) 1), progs := setAt x.image.progs n (progWords b) } }))
    (setPat n (programmed (progWords b) (hasBit (opB c 9) 1)) d)

section
variable {c : Cmd} {d : Device} {n : Nat} {b : List Byte}

/-- The engine halted first, where it ran. -/
def haltedFirst (n : Nat) (d : Device) : Device :=
  when ((patOf d n).state == .running || (patOf d n).state == .waiting) (setPat n (fun p => { p with state := .stopped, fadeWait := none })) d

theorem haltPat_noFades (hd : NoFades d) (at_ : RP) : haltPat n at_ d = setPat n (fun p => { p with state := .stopped, fadeWait := none }) d := by
  rw [haltPat, stopFades_noFades hd]

theorem noFades_halted (hd : NoFades d) : NoFades (haltedFirst n d) := by
  unfold haltedFirst when
  split
  · exact noFades_setPat hd fun _ hp => ⟨hp.1, rfl⟩
  · exact hd

theorem pats_length_halted : (haltedFirst n d).fix.pats.length = d.fix.pats.length := by
  unfold haltedFirst when
  split
  · exact pats_length_setPat _ _ _
  · rfl

theorem patternLoadFx_good (hd : NoFades d) (hnode : d.isNode = true) (ha : misaligned c = false) (hn : opB c 8 = n) (hlt : n < 16)
    (hb : c.host = .data b) (hgood : (progWords b).findIdx? (fun w => (patOp w.toNat).isNone) = none) :
    patternLoadFx c d = finish 0x63 c (boundaryRp d) [] (patLoaded c n b (haltedFirst n d)) := by
  have hcalm : NoFades (patLoaded c n b (haltedFirst n d)) := by
    have h := noFades_setPat (n := n) (f := programmed (progWords b) (hasBit (opB c 9) 1)) (noFades_halted (n := n) hd) fun _ hp => hp
    unfold patLoaded when
    split <;> exact h
  have hclk : (patLoaded c n b (haltedFirst n d)).clk = d.clk := by
    unfold patLoaded haltedFirst when
    split <;> split <;> rfl
  have hset := patSettle_noFades hcalm (patLoaded c n b (haltedFirst n d)).clk.rp
  have hhalt : haltedFirst n d =
      when ((patOf d n).state == .running || (patOf d n).state == .waiting) (haltPat n d.clk.rp) d := by
    rw [haltedFirst, when, when, haltPat_noFades hd]
  rw [hhalt] at hset hclk ⊢
  have hbound : boundaryRp (patLoaded c n b (when ((patOf d n).state == .running || (patOf d n).state == .waiting) (haltPat n d.clk.rp) d)) =
      boundaryRp d := by rw [boundaryRp, hclk, boundaryRp]
  unfold patternLoadFx
  rw [if_neg (by simp [hnode]), if_neg (by simp [ha, hn]; omega)]
  simp only [hb, hgood, hn]
  exact (congrArg₂ (fun p e => finish 0x63 c p [] e) hbound hset :)

theorem patternLoadFx_bad {i : Nat} (hnode : d.isNode = true) (ha : misaligned c = false) (hlt : opB c 8 < 16) (hb : c.host = .data b)
    (hbad : (progWords b).findIdx? (fun w => (patOp w.toNat).isNone) = some i) : patternLoadFx c d = refuse 0x63 c 4 (leN 1 i) d := by
  unfold patternLoadFx
  rw [if_neg (by simp [hnode]), if_neg (by simp [ha]; omega)]
  simp only [hb, hbad]

theorem patLoaded_fix (hn : n < d.fix.pats.length) : patOf (patLoaded c n b d) n = programmed (progWords b) (hasBit (opB c 9) 1) (patOf d n) ∧
    (hasBit (opB c 9) 0 = true → (patLoaded c n b d).fix.dirty = true) ∧ blank [.fix] (patLoaded c n b d) = blank [.fix] d := by
  have hpat := patOf_setPat (d := d) (f := programmed (progWords b) (hasBit (opB c 9) 1)) hn
  unfold patLoaded when
  split
  case isTrue => exact ⟨hpat, fun _ => rfl, rfl⟩
  case isFalse h => exact ⟨hpat, fun hc => absurd hc h, rfl⟩

end

section
variable {c : Cmd} {s : State} {n : Nat} {x : PatEngine}

theorem patternLoad_does {b : List Byte} (hd : NoFades s.dev) (hnode : s.dev.isNode = true) (hlt : n < 16)
    (hlen : s.dev.fix.pats.length = 16) (ha : misaligned c = false) (hn : opB c 8 = n) (hb : c.host = .data b) :
    ((progWords b).findIdx? (fun w => (patOp w.toNat).isNone) = none → Does (.patternLoad c) s (fun e =>
      (patOf e n).prog = progWords b ∧ (patOf e n).auto = hasBit (opB c 9) 1 ∧ (patOf e n).pc = 0 ∧ (patOf e n).state = .stopped ∧
      (hasBit (opB c 9) 0 = true → e.fix.dirty = true) ∧ Finished s.dev e 0x63 c (boundaryRp s.dev) [] ∧
      SameBut (.fix :: .comps :: reporting) s.dev e)) ∧
    (∀ i, (progWords b).findIdx? (fun w => (patOp w.toNat).isNone) = some i → Does (.patternLoad c) s (fun e =>
      Completed s.dev e 0x63 c 4 none (leN 1 i) ∧ e.fix = s.dev.fix)) := by
  refine ⟨fun hgood => ?_, fun i hbad => ?_⟩
  · have hfx := patternLoadFx_good hd hnode ha hn hlt hb hgood
    obtain ⟨hpat, hdirty, hmask⟩ := patLoaded_fix (c := c) (n := n) (b := b) (d := haltedFirst n s.dev)
      (by rw [pats_length_halted, hlen]; exact hlt)
    have hhalt : blank [.fix] (haltedFirst n s.dev) = blank [.fix] s.dev := by
      unfold haltedFirst when
      split <;> rfl
    have hsame := hmask.trans hhalt
    refine act_does (f := patternLoadFx c) rfl ?_
    rw [patOf, keepClk_fix, hfx, finish_fix, ← patOf, hpat]
    refine ⟨rfl, rfl, rfl, rfl, hdirty, ?_, sameBut_keepClk (mask_mono (ps := .fix :: .comps :: reporting) ?_ ?_)⟩
    · rw [Finished, Completed, keepClk_comps]
      exact finished_finish (comps_of_mask hsame rfl) _ _ _ _
    · rfl
    · rw [mask_finish rfl]
      exact mask_mono (by decide) hsame
  · have hfx := patternLoadFx_bad hnode ha (hn ▸ hlt) hb hbad
    refine act_does_of_clk (f := patternLoadFx c) rfl (by rw [hfx, refuse_clk]) ?_
    rw [hfx]
    exact ⟨completed_refuse (e := s.dev) rfl _ _ _ _, refuse_fix _ _ _ _ _⟩

/-! ### PATTERN_CONTROL -/

theorem patternControl_stop_does (hd : NoFades s.dev) (hnode : s.dev.isNode = true) (hx : s.dev.fix.pats[n]? = some x)
    (hns : (List.range 16).filter (hasBit (opN c 0 2)) = [n]) (ha : opB c 4 ≤ 63) (hstart : opB c 2 = 0)
    (hop : patOp (x.prog.getD (opB c 4) 0).toNat = some .stop) : Does (.patternControl c) s (fun e =>
      patOf e n = { x with t := s.dev.clk.rp, x := 0, v := [opN c 6 2, opN c 8 2, opN c 10 2, opN c 12 2], pc := opB c 4, state := .stopped, fadeWait := none } ∧
      Finished s.dev e 0x64 c s.dev.clk.rp [] ∧ SameBut (.fix :: .comps :: reporting) s.dev e) := by
  have hfx := patternControlFx_start_stop hd hnode hx hns ha hstart hop
  have hn : n < s.dev.fix.pats.length := (List.getElem?_eq_some_iff.mp hx).1
  refine act_does_of_clk (f := patternControlFx c) rfl (by rw [hfx, finish_clk]; rfl) ?_
  rw [hfx]
  refine ⟨?_, finished_finish (d := s.dev) (by rfl) _ _ _ _, sameBut_of_mask (by rw [mask_finish rfl]; rfl)⟩
  rw [patOf, finish_fix, ← patOf, patOf_setPat (by rw [pats_length_setPat]; exact hn), patOf_started hx]
  rfl

theorem patternControl_reserved_does (hd : NoFades s.dev) (hnode : s.dev.isNode = true) (hx : s.dev.fix.pats[n]? = some x)
    (hns : (List.range 16).filter (hasBit (opN c 0 2)) = [n]) (ha : opB c 4 ≤ 63) (hstart : opB c 2 = 0)
    (hop : patOp (x.prog.getD (opB c 4) 0).toNat = none) : Does (.patternControl c) s (fun e =>
      (patOf e n).state = .faulted ∧ (patOf e n).pc = opB c 4 ∧
      NoticedFirst s.dev e 0x6005 (leN 1 n ++ leN 1 3 ++ leN 1 (opB c 4) ++ zeros 1)) := by
  have hfx := patternControlFx_start_reserved hd hnode hx hns ha hstart hop
  have hn : n < s.dev.fix.pats.length := (List.getElem?_eq_some_iff.mp hx).1
  have hpat : patOf (patternControlFx c s.dev) n =
      { started s.dev.clk.rp (opB c 4) (startRegs c) x with state := .faulted, fadeWait := none } := by
    rw [hfx, patOf, finish_fix, patFault, raise_fix, ← patOf, patOf_setPat (by rw [pats_length_setPat]; exact hn), patOf_started hx]
  refine act_does (f := patternControlFx c) rfl ?_
  rw [patOf, keepClk_fix, ← patOf, hpat, NoticedFirst, keepClk_notes, hfx]
  have hpc : (patOf (setPat n (started s.dev.clk.rp (opB c 4) (startRegs c)) s.dev) n).pc = opB c 4 := by rw [patOf_started hx]; rfl
  have hfault := prefix_finish 0x64 c s.dev.clk.rp [] (patFault n 3 (setPat n (started s.dev.clk.rp (opB c 4) (startRegs c)) s.dev))
  unfold patFault at hfault ⊢
  simp only [hpc] at hfault ⊢
  exact ⟨trivial, rfl, noticedFirst_of_prefix (d := s.dev) (by rfl) hfault⟩

theorem patternControl_load_does {r v : Nat} (hd : NoFades s.dev) (hnode : s.dev.isNode = true) (hx : s.dev.fix.pats[n]? = some x)
    (hns : (List.range 16).filter (hasBit (opN c 0 2)) = [n]) (ha : opB c 4 ≤ 62) (hstart : opB c 2 = 0)
    (hop : patOp (x.prog.getD (opB c 4) 0).toNat = some (.load r v)) (hr : r < 4)
    (hnext : patOp (x.prog.getD (opB c 4 + 1) 0).toNat = some .stop) : Does (.patternControl c) s (fun e =>
      nth (patOf e n).v r = v % 65536 ∧ (patOf e n).state = .stopped) := by
  have hfx := patternControlFx_start_load hd hnode hx hns ha hstart hop hnext
  have hlen : n < (loaded n c r v s.dev).fix.pats.length := by
    simpa only [loaded, nextPc, setReg, pats_length_setPat] using (List.getElem?_eq_some_iff.mp hx).1
  have hpat : patOf (patternControlFx c s.dev) n = { patOf (loaded n c r v s.dev) n with state := .stopped } := by
    rw [hfx, patOf, finish_fix, ← patOf, patOf_setPat hlen]
  refine act_does (f := patternControlFx c) rfl ?_
  rw [patOf, keepClk_fix, ← patOf, hpat, patOf_loaded hx ha]
  exact ⟨nth_setAt_same hr _, rfl⟩

theorem patternControl_halt_does (hd : NoFades s.dev) (hnode : s.dev.isNode = true) (hx : s.dev.fix.pats[n]? = some x)
    (hns : (List.range 16).filter (hasBit (opN c 0 2)) = [n]) (ha : opB c 4 ≤ 63) (hstop : opB c 2 = 1)
    (hstate : x.state = .running ∨ x.state = .waiting) : Does (.patternControl c) s (fun e => (patOf e n).state = .stopped ∧
      Finished s.dev e 0x64 c s.dev.clk.rp []) := by
  have hn : n < s.dev.fix.pats.length := (List.getElem?_eq_some_iff.mp hx).1
  have hrest : ∀ rel, atRest s.dev rel n = false := by
    intro rel
    rcases hstate with h | h <;> simp [atRest, patOf_of_get hx, h]
  have hcalm : ∀ rel : Bool, NoFades (when rel (releaseSlots n) (setPat n (fun p => { p with state := .stopped, fadeWait := none }) s.dev)) := by
    have h := noFades_setPat (n := n) (f := fun p => { p with state := .stopped, fadeWait := none }) hd fun _ hp => ⟨hp.1, rfl⟩
    intro rel
    cases rel <;> exact h
  have hfx : patternControlFx c s.dev = finish 0x64 c s.dev.clk.rp [] (when (hasBit (opB c 3) 0) (releaseSlots n)
      (setPat n (fun p => { p with state := .stopped, fadeWait := none }) s.dev)) := by
    rw [patternControlFx, if_neg (by simp [hnode]), if_neg (by omega), if_neg (by omega), if_neg (by simp [hns, hrest])]
    simp only [hns, List.foldl_cons, List.foldl_nil, haltPat_noFades hd, patSettle_noFades (hcalm _)]
  have hpats : ∀ (rel : Bool) (d : Device), (when rel (releaseSlots n) d).fix.pats = d.fix.pats := by
    intro rel d
    cases rel <;> rfl
  have hcomps : ∀ rel : Bool, (when rel (releaseSlots n) (setPat n (fun p => { p with state := .stopped, fadeWait := none }) s.dev)).comps =
      s.dev.comps := by
    intro rel
    cases rel <;> rfl
  refine act_does (f := patternControlFx c) rfl ?_
  rw [patOf, keepClk_fix, Finished, Completed, keepClk_comps, hfx, finish_fix, hpats, ← patOf, patOf_setPat hn]
  exact ⟨rfl, finished_finish (hcomps _) _ _ _ _⟩

theorem patternControl_rest_does (hd : NoFades s.dev) (hnode : s.dev.isNode = true) (hx : s.dev.fix.pats[n]? = some x)
    (hns : (List.range 16).filter (hasBit (opN c 0 2)) = [n]) (ha : opB c 4 ≤ 63) (hstop : opB c 2 = 1)
    (hstate : x.state = .stopped) (hrel : hasBit (opB c 3) 0 = false) : Does (.patternControl c) s (fun e =>
      Completed s.dev e 0x64 c 6 none [] ∧ e.fix = s.dev.fix) := by
  have hfades := (hd x (List.mem_of_getElem? hx)).1
  have hfx : patternControlFx c s.dev = refuse 0x64 c 6 [] s.dev := by
    rw [patternControlFx, if_neg (by simp [hnode]), if_neg (by omega), if_neg (by omega),
      if_pos (by simp [hns, atRest, patOf_of_get hx, hstate, hfades, hrel])]
  exact does_mono (does_refuse (f := patternControlFx c) rfl hfx) fun e h => ⟨h.1, h.2.2.2.2.2.2.2.2.2.2.2.2.2.2.2.1 rfl⟩

/-! ### The wait ended -/

/-- An engine that goes on to a STOP is stopped. -/
theorem patRun_resumed {d : Device} (hx : d.fix.pats[n]? = some x) (hop : patOp (x.prog.getD x.pc 0).toNat = some .stop) :
    patRun 256 n (setPat n (fun p => { p with state := .running }) d) =
      setPat n (fun p => { p with state := .stopped }) (setPat n (fun p => { p with state := .running }) d) :=
  patRun_stop (by rw [patOf_setPat (List.getElem?_eq_some_iff.mp hx).1, patOf_of_get hx]; exact hop)

theorem patternWaitExpiry_does {k : Fin 16} (hd : NoFades s.dev) (hx : s.dev.fix.pats[n]? = some x) (hk : k.val = n)
    (hnext : nextEntry s.dev = none) (hon : fixturesOn s.dev = true) (hhold : s.dev.clk.hold = none) (hstate : x.state = .waiting)
    (hop : patOp (x.prog.getD x.pc 0).toNat = some .stop) : Does (.patternWaitExpiry k) s (fun e => e.clk = s.dev.clk.reach x.t ∧
      (patOf e n).state = .stopped ∧ SameBut [.clk, .fix] s.dev e) := by
  subst hk
  have hn : k.val < s.dev.fix.pats.length := (List.getElem?_eq_some_iff.mp hx).1
  have hwait := (hd x (List.mem_of_getElem? hx)).2
  have hrun := patRun_resumed (d := { s.dev with clk := s.dev.clk.reach x.t }) hx hop
  have hcalm : NoFades (setPat k.val (fun p => { p with state := .stopped }) (setPat k.val (fun p => { p with state := .running })
      { s.dev with clk := s.dev.clk.reach x.t })) :=
    noFades_setPat (noFades_setPat hd fun _ hp => hp) fun _ hp => hp
  have hfx : patExpiryFx k.val s.dev = setPat k.val (fun p => { p with state := .stopped })
      (setPat k.val (fun p => { p with state := .running }) { s.dev with clk := s.dev.clk.reach x.t }) := by
    rw [patExpiryFx, if_neg (by simp [hon, hhold, patOf_of_get hx, hstate, hwait])]
    simp only [patOf_of_get hx, quiet, hrun, patSettle_noFades hcalm]
    rfl
  refine clocked_does (f := fun d => patExpiryFx k.val (dueFirst (waitEnd k.val) d)) rfl ?_
  rw [dueFirst_of_none hnext, hfx]
  exact ⟨rfl, by rw [patOf_setPat (by rw [pats_length_setPat]; exact hn)], sameBut_of_mask rfl⟩

end

/-- Settles O52: with no fade running an engine does what its command or its instruction says, and nothing else goes on. -/
theorem patternsRun : Obligations.PatternsRun := by
  refine fun s n x hd hnode hlt hx hlen => ⟨fun c b ha hn hb => patternLoad_does hd hnode hlt hlen ha hn hb,
    fun c hns ha => ⟨fun hstart hop => patternControl_stop_does hd hnode hx hns ha hstart hop,
      fun hstart hop => patternControl_reserved_does hd hnode hx hns ha hstart hop,
      fun hstart ha' r v hop hr hnext => patternControl_load_does hd hnode hx hns ha' hstart hop hr hnext,
      fun hstop hstate => patternControl_halt_does hd hnode hx hns ha hstop hstate,
      fun hstop hstate hrel => patternControl_rest_does hd hnode hx hns ha hstop hstate hrel⟩,
    fun k hk hnext hon hhold hstate hop => patternWaitExpiry_does hd hx hk hnext hon hhold hstate hop⟩

end Sys2Proof.Proofs
end

/-! ## Sys2Proof/Proofs/Dmx: DMX ports and RDM (R421 to R431) -/

section

namespace Sys2Proof.Proofs

open Machine Laws

/-! ### A port changed -/

section
variable {d : Device} {p : Nat} {x : DmxPort}

theorem dmxOf_of_get (h : d.fix.ports[p]? = some x) : dmxOf d p = x := by
  rw [dmxOf, List.getD_eq_getElem?_getD, h, Option.getD_some]

theorem setDmx_of_get (h : d.fix.ports[p]? = some x) (f : DmxPort → DmxPort) :
    setDmx p f d = { d with fix := { d.fix with ports := d.fix.ports.set p (f x) } } := by
  rw [setDmx, setFix, modAt_eq_set h]

theorem ports_setDmx (h : d.fix.ports[p]? = some x) (f : DmxPort → DmxPort) : (setDmx p f d).fix.ports[p]? = some (f x) := by
  rw [setDmx_of_get h]
  exact List.getElem?_set_self (List.getElem?_eq_some_iff.mp h).1

theorem dmxOf_setDmx (h : d.fix.ports[p]? = some x) (f : DmxPort → DmxPort) : dmxOf (setDmx p f d) p = f x :=
  dmxOf_of_get (ports_setDmx h f)

end

/-! ### DMX_CONFIG -/

section
variable {c : Cmd} {d : Device} {n : NodeRecord} {x : DmxPort}

/-- A port record kept in the fixture record, where it says so (R449). -/
def dmxKept (p : Nat) (r : DmxRec) : Device → Device :=
  when r.persist (setFix (fun x => { x with dirty := true, image := { x.image with ports := setAt x.image.ports p r } }))

theorem putDmx_of_get {p : Nat} (hx : d.fix.ports[p]? = some x) (hjobs : x.jobs = []) (r : DmxRec) :
    putDmx p r d = { d with fix := { d.fix with ports := d.fix.ports.set p { x with drec := r, engSlots := [] } } } := by
  have hset := setDmx_of_get hx (fun x => { x with drec := r, engSlots := [] })
  have hx' := ports_setDmx hx (fun x => { x with drec := r, engSlots := [] })
  have hdrop : dropJobs p (setDmx p (fun x => { x with drec := r, engSlots := [] }) d) =
      setDmx p (fun x => { x with jobs := [] }) (setDmx p (fun x => { x with drec := r, engSlots := [] }) d) := by
    rw [dropJobs, dmxOf_of_get hx']
    simp only [hjobs, List.foldl_nil]
  have hnone : setDmx p (fun x => { x with jobs := [] }) (setDmx p (fun x => { x with drec := r, engSlots := [] }) d) =
      setDmx p (fun x => { x with drec := r, engSlots := [] }) d := by
    rw [setDmx_of_get hx', hset]
    simp only [List.set_set, hjobs]
  unfold putDmx when
  simp only [hdrop, hnone, ite_self]
  exact hset

theorem dmxConfigFx_checked (hnode : d.isNode = true) (hp : opB c 0 ≤ 15) (hrec : d.topo.record = some n)
    (hbit : hasBit n.dmxMask (opB c 0) = true) (hr : dmxRanges d.clk.raster (dmxRecOf c) = true) :
    dmxConfigFx c d = if dmxFits d.clk.raster (dmxRecOf c) then
      finish 0x60 c (boundaryRp (dmxKept (opB c 0) (dmxRecOf c) (putDmx (opB c 0) (dmxRecOf c) d))) []
        (dmxKept (opB c 0) (dmxRecOf c) (putDmx (opB c 0) (dmxRecOf c) d))
      else refuse 0x60 c 4 [2] d := by
  rw [dmxConfigFx, if_neg (by simp [hnode]), if_neg (by omega), if_neg (by simp [hrec, hbit]), if_neg (by simp [hr])]
  cases dmxFits d.clk.raster (dmxRecOf c) <;> rfl

theorem dmxKept_eq (p : Nat) (r : DmxRec) (d : Device) : ∃ y : Fix, dmxKept p r d = { d with fix := y } ∧ y.ports = d.fix.ports ∧
    (r.persist = true → y.dirty = true ∧ y.image.ports = setAt d.fix.image.ports p r) := by
  unfold dmxKept when
  split
  case isTrue => exact ⟨_, rfl, rfl, fun _ => ⟨rfl, rfl⟩⟩
  case isFalse h => exact ⟨d.fix, rfl, rfl, fun hp => absurd hp h⟩

theorem dmxConfig_does {s : State} (hnode : s.dev.isNode = true) (hp : opB c 0 ≤ 15) (hrec : s.dev.topo.record = some n)
    (hx : s.dev.fix.ports[opB c 0]? = some x) (hjobs : x.jobs = []) (hbit : hasBit n.dmxMask (opB c 0) = true)
    (hr : dmxRanges s.dev.clk.raster (dmxRecOf c) = true) :
    (dmxFits s.dev.clk.raster (dmxRecOf c) = true → Does (.dmxConfig c) s (fun e =>
      e.fix.ports = s.dev.fix.ports.set (opB c 0) { x with drec := dmxRecOf c, engSlots := [] } ∧
      ((dmxRecOf c).persist = true → e.fix.dirty = true ∧ e.fix.image.ports = setAt s.dev.fix.image.ports (opB c 0) (dmxRecOf c)) ∧
      Finished s.dev e 0x60 c (boundaryRp s.dev) [] ∧ SameBut (.fix :: .comps :: reporting) s.dev e)) ∧
    (dmxFits s.dev.clk.raster (dmxRecOf c) = false → Does (.dmxConfig c) s (fun e => Completed s.dev e 0x60 c 4 none [2] ∧
      SameBut (.comps :: reporting) s.dev e)) := by
  have hfx := dmxConfigFx_checked hnode hp hrec hbit hr
  constructor
  · intro hfits
    rw [if_pos hfits, putDmx_of_get hx hjobs] at hfx
    obtain ⟨y, hy, hports, hkept⟩ := dmxKept_eq (opB c 0) (dmxRecOf c)
      { s.dev with fix := { s.dev.fix with ports := s.dev.fix.ports.set (opB c 0) { x with drec := dmxRecOf c, engSlots := [] } } }
    rw [hy] at hfx
    refine act_does_of_clk (f := dmxConfigFx c) rfl (by rw [hfx, finish_clk]) ?_
    rw [hfx, finish_fix]
    exact ⟨hports, hkept, finished_finish (d := s.dev) (by rfl) _ _ _ _, sameBut_of_mask (by rw [mask_finish rfl]; rfl)⟩
  · intro hfits
    rw [if_neg (by simp [hfits])] at hfx
    exact does_refuse (f := dmxConfigFx c) rfl hfx

end

/-! ### A break -/

section
variable {d : Device} {p : Nat} {x : DmxPort} {r : RP} {bad : Bool}

/-- The port as a break at an RP finds it. -/
def broken (r : RP) (x : DmxPort) : DmxPort := { x with lastAt := some r }

theorem rxCompare_good (hx : d.fix.ports[p]? = some x) (hfault : x.fault = false) :
    rxCompare p false d = setDmx p (fun x => { x with mism := 0, fault := false }) d := by
  simp only [rxCompare, Bool.false_eq_true, if_false, dmxOf_of_get hx, hfault, when_false]

/-- A break at a port that neither sends nor waits, where no fade runs, is given to what its interval is for. -/
theorem breakWork_free (hd : NoFades d) (hx : d.fix.ports[p]? = some x) (hbusy : x.busyTo = none) (hrun : x.running = none) :
    breakWork p bad d = match rdmTurn x with
      | some (some j) => rdmSend p bad j (setDmx p (broken d.clk.rp) d)
      | some none => setDmx p (fun x => { x with since := 0 }) (setDmx p (broken d.clk.rp) d)
      | none => packetSend p bad (setDmx p (broken d.clk.rp) d) := by
  have hcalm : NoFades (setDmx p (broken d.clk.rp) d) := hd
  unfold breakWork
  simp only [dmxOf_of_get hx, hbusy, hrun, Option.isSome_none, when_false, Bool.false_eq_true, if_false, breakTurn]
  change (match rdmTurn x with
    | some (some j) => rdmSend p bad j (patSettle _ (sampleFades _ _ (setDmx p (broken d.clk.rp) d)))
    | some none => setDmx p (fun x => { x with since := 0 }) (patSettle _ (sampleFades _ _ (setDmx p (broken d.clk.rp) d)))
    | none => packetSend p bad (patSettle _ (sampleFades _ _ (setDmx p (broken d.clk.rp) d)))) = _
  rw [sampleFades_noFades hcalm, patSettle_noFades hcalm]

/-- The port as it sends a packet at an RP, and as its answer leaves it. -/
def packeted (r busy : RP) (b : List Byte) (x : DmxPort) : DmxPort :=
  { x with sent := b, since := satAdd 255 x.since 1, busyTo := some busy, packet := some (r, x.drec) }

theorem packetSend_good {b : List Byte} (hx : d.fix.ports[p]? = some x) (hfault : x.fault = false) (hb : packetBytes x d.clk.rp.frame = some b) :
    ∃ busy, packetSend p false d = setDmx p (fun x => { x with mism := 0, fault := false }) (setDmx p (packeted d.clk.rp busy b) d) := by
  have hx' := fun busy => ports_setDmx hx (packeted d.clk.rp busy b)
  refine ⟨RP.plus d.clk.raster d.clk.rp (d.clk.raster.subOf (packetUs x.drec * 1000)), ?_⟩
  unfold packetSend
  simp only [dmxOf_of_get hx, hb]
  exact rxCompare_good (hx' _) hfault

/-- The port as it sends an RDM request. -/
def requested (r : RP) (j : RdmJob) (sent : List Byte) (x : DmxPort) : DmxPort :=
  { x with running := some j, since := 0, tn := x.tn + 1, sent := sent, packet := some (r, x.drec),
           jobs := x.jobs.filter (fun y => y.at_ != j.at_ || y.cmd != j.cmd) }

theorem rdmSend_good {j : RdmJob} (hx : d.fix.ports[p]? = some x) (hfault : x.fault = false) (hcast : rdmBroadcast j.message = false) :
    rdmSend p false j d = setDmx p (fun x => { x with mism := 0, fault := false })
      (setDmx p (requested d.clk.rp j (rdmRequestBytes d p j.message)) d) := by
  simp only [rdmSend, hcast, when_false]
  exact rxCompare_good (ports_setDmx hx (requested d.clk.rp j (rdmRequestBytes d p j.message))) hfault

/-- A port whose comparison came out good. -/
def agreed (x : DmxPort) : DmxPort := { x with mism := 0, fault := false }

theorem breakWork_packet {b : List Byte} (hd : NoFades d) (hx : d.fix.ports[p]? = some x) (hbusy : x.busyTo = none) (hrun : x.running = none)
    (hfault : x.fault = false) (hrdm : x.drec.rdm = false) (hb : packetBytes x d.clk.rp.frame = some b) : ∃ busy,
      dmxOf (breakWork p false d) p = agreed (packeted d.clk.rp busy b (broken d.clk.rp x)) ∧
      blank [.fix] (breakWork p false d) = blank [.fix] d := by
  have hturn : rdmTurn x = none := if_pos (Or.inr (by simp [hrdm]))
  have hx1 := ports_setDmx hx (broken d.clk.rp)
  obtain ⟨busy, hsend⟩ := packetSend_good hx1 hfault hb
  have hport := dmxOf_setDmx (ports_setDmx hx1 (packeted d.clk.rp busy b)) agreed
  have hwork := breakWork_free (bad := false) hd hx hbusy hrun
  rw [hturn] at hwork
  have hall := hwork.trans hsend
  exact ⟨busy, by rw [hall]; exact hport, by rw [hall]; rfl⟩

theorem breakWork_request {j : RdmJob} (hd : NoFades d) (hx : d.fix.ports[p]? = some x) (hbusy : x.busyTo = none) (hrun : x.running = none)
    (hfault : x.fault = false) (hturn : rdmTurn x = some (some j)) (hcast : rdmBroadcast j.message = false) :
    dmxOf (breakWork p false d) p = agreed (requested d.clk.rp j (rdmRequestBytes d p j.message) (broken d.clk.rp x)) := by
  have hx1 := ports_setDmx hx (broken d.clk.rp)
  have hbytes : rdmRequestBytes (setDmx p (broken d.clk.rp) d) p j.message = rdmRequestBytes d p j.message := by
    rw [rdmRequestBytes, dmxOf_of_get hx1, rdmRequestBytes, dmxOf_of_get hx]
    rfl
  have hport := dmxOf_setDmx (ports_setDmx hx1 (requested d.clk.rp j (rdmRequestBytes d p j.message))) agreed
  have hsend := rdmSend_good hx1 hfault hcast
  have hwork := breakWork_free (bad := false) hd hx hbusy hrun
  rw [hturn] at hwork
  rw [hbytes] at hsend
  rw [hwork.trans hsend]
  exact hport

end

section
variable {s : State} {p : Fin 16} {x : DmxPort} {t : RP}

/-- The row of a break whose port can make it, where no command is due. -/
theorem dmxBreak_row {q : Device → Prop} (hnext : nextEntry s.dev = none) (hon : fixturesOn s.dev = true) (hhold : s.dev.clk.hold = none)
    (hx : s.dev.fix.ports[p.val]? = some x) (hen : x.drec.enable = true) (ht : nextBreak s.dev x = some t)
    (hq : q (quiet (breakWork p.val false) { s.dev with clk := s.dev.clk.reach t })) : Does (.dmxBreak p false) s q := by
  refine clocked_does (f := fun d => dmxBreakFx p.val false (dueFirst (breakAt p.val) d)) rfl ?_
  rw [dueFirst_of_none hnext, dmxBreakFx, if_neg (by simp [hon, hhold, dmxOf_of_get hx, hen])]
  simp only [dmxOf_of_get hx, ht]
  exact hq

theorem dmxBreak_packet_does {b : List Byte} (hd : NoFades s.dev) (hnext : nextEntry s.dev = none) (hon : fixturesOn s.dev = true)
    (hhold : s.dev.clk.hold = none) (hx : s.dev.fix.ports[p.val]? = some x) (hen : x.drec.enable = true) (ht : nextBreak s.dev x = some t)
    (hbusy : x.busyTo = none) (hrun : x.running = none) (hfault : x.fault = false) (hrdm : x.drec.rdm = false)
    (hb : packetBytes x (s.dev.clk.reach t).rp.frame = some b) : Does (.dmxBreak p false) s (fun e => e.clk = s.dev.clk.reach t ∧
      (dmxOf e p.val).sent = b ∧ (dmxOf e p.val).lastAt = some (s.dev.clk.reach t).rp ∧ (dmxOf e p.val).busyTo.isSome = true ∧
      (dmxOf e p.val).packet = some ((s.dev.clk.reach t).rp, x.drec) ∧
      (dmxOf e p.val).drec = x.drec ∧ SameBut [.clk, .fix] s.dev e) := by
  obtain ⟨busy, hport, hmask⟩ := breakWork_packet (d := { s.dev with clk := s.dev.clk.reach t }) hd hx hbusy hrun hfault hrdm hb
  refine dmxBreak_row hnext hon hhold hx hen ht ?_
  rw [show dmxOf (quiet (breakWork p.val false) { s.dev with clk := s.dev.clk.reach t }) p.val = _ from hport]
  exact ⟨rfl, rfl, rfl, rfl, rfl, rfl, sameBut_of_mask (mask_mono (ps := [.fix]) (qs := [.clk, .fix]) rfl hmask :)⟩

theorem dmxBreak_request_does {j : RdmJob} (hd : NoFades s.dev) (hnext : nextEntry s.dev = none) (hon : fixturesOn s.dev = true)
    (hhold : s.dev.clk.hold = none) (hx : s.dev.fix.ports[p.val]? = some x) (hen : x.drec.enable = true) (ht : nextBreak s.dev x = some t)
    (hbusy : x.busyTo = none) (hrun : x.running = none) (hfault : x.fault = false) (hrdm : x.drec.rdm = true)
    (hshare : x.drec.share ≤ x.since + 1) (hjobs : x.jobs = [j]) (hdisc : j.discover = false) (hcast : rdmBroadcast j.message = false) :
    Does (.dmxBreak p false) s (fun e => (dmxOf e p.val).running = some j ∧ (dmxOf e p.val).jobs = [] ∧
      (dmxOf e p.val).since = 0 ∧ (dmxOf e p.val).tn = x.tn + 1 ∧ (dmxOf e p.val).sent = rdmRequestBytes s.dev p.val j.message) := by
  refine dmxBreak_row hnext hon hhold hx hen ht ?_
  have hturn : rdmTurn x = some (some j) := by
    simp only [rdmTurn, hrdm, hjobs, Nat.not_lt.mpr hshare, Bool.not_true, Bool.false_eq_true, or_self, if_false]
    simp [hdisc]
  have hport := breakWork_request (d := { s.dev with clk := s.dev.clk.reach t }) hd hx hbusy hrun hfault hturn hcast
  rw [show dmxOf (quiet (breakWork p.val false) { s.dev with clk := s.dev.clk.reach t }) p.val = _ from hport]
  exact ⟨rfl, by simp [agreed, requested, broken, hjobs], rfl, rfl, rfl⟩

/-! ### Sources lost, and RDM -/

theorem dmxSourceLost_does {n : FixData} (hon : fixturesOn s.dev = true) (hx : s.dev.fix.ports[p.val]? = some x) (hen : x.drec.enable = true)
    (hlost : x.lost = false) (hnew : x.new = some n) : Does (.dmxSourceLost p) s (fun e =>
      e.fix = { s.dev.fix with ports := s.dev.fix.ports.set p.val { x with lost := true } } ∧
      Noticed s.dev e 0x6006 (leN 1 p.val ++ leN 1 0 ++ zeros 2 ++ leN 4 n.stamp.toNat) ∧ SameBut (.fix :: reporting) s.dev e) := by
  refine setFix_raise_does (f := dmxLostFx p.val) rfl ?_
  rw [dmxLostFx, if_neg (by simp [hon, dmxOf_of_get hx, hen, hlost, hnew]), sourceNote, dmxOf_setDmx hx, setDmx_of_get hx]
  simp only [hnew]

theorem rdmResponse_does {j : RdmJob} {o : Fin 4} {b : List Byte} (hon : fixturesOn s.dev = true) (hx : s.dev.fix.ports[p.val]? = some x)
    (hrun : x.running = some j) (hb : o.val = 0 ∨ b = []) : Does (.rdmResponse p o b) s (fun e =>
      e.fix = { s.dev.fix with ports := s.dev.fix.ports.set p.val { x with running := none, resp := b.take 257 } } ∧
      Finished s.dev e 0x61 j.cmd j.at_ (leN 1 o.val ++ zeros 1 ++ leN 2 (b.take 257).length ++ (b.take 257).take 24)) := by
  have hbytes : (if o.val = 0 then b else []) = b := by
    split
    · rfl
    next h => exact (hb.resolve_left h).symm
  have hfx : rdmResponseFx p.val o.val b s.dev = finish 0x61 j.cmd j.at_
      (leN 1 o.val ++ zeros 1 ++ leN 2 (b.take 257).length ++ (b.take 257).take 24)
      (setDmx p.val (fun x => { x with running := none, resp := b.take 257 }) s.dev) := by
    rw [rdmResponseFx, if_neg (by simp [hon]), hbytes]
    unfold endRdm
    simp only [dmxOf_of_get hx, hrun]
  rw [setDmx_of_get hx] at hfx
  refine act_does_of_clk (f := rdmResponseFx p.val o.val b) rfl (by rw [hfx, finish_clk]) ?_
  rw [hfx]
  exact ⟨finish_fix _ _ _ _ _, finished_finish (d := s.dev) (by rfl) _ _ _ _⟩

theorem rdmDiscovery_does {uids : List Nat} (hon : fixturesOn s.dev = true) (hx : s.dev.fix.ports[p.val]? = some x)
    (hen : x.drec.enable = true) (hrdm : x.drec.rdm = true) (hjobs : x.jobs = []) (hperiod : s.dev.field 0x4814 11 0 ≠ 0)
    (hne : uids ≠ x.uids) (hlen : uids.length ≤ 64) : Does (.rdmDiscoveryTimer p uids) s (fun e =>
      (dmxOf e p.val).uids = uids ∧ (dmxOf e p.val).overflow = false ∧
      Noticed s.dev e 0x6002 (leN 1 p.val ++ zeros 1 ++ leN 2 x.uids.length ++ leN 2 uids.length)) := by
  have hfx : rdmDiscoveryFx p.val uids s.dev = raise 0x6002 (leN 1 p.val ++ zeros 1 ++ leN 2 x.uids.length ++ leN 2 uids.length)
      (setDmx p.val (fun y => { y with uids := uids, overflow := false, jobs := y.jobs.filter (fun j => !j.discover) }) s.dev) := by
    rw [rdmDiscoveryFx, if_neg (by simp [hon, dmxOf_of_get hx, hen, hrdm, hperiod])]
    simp only [dmxOf_of_get hx, hjobs, List.filter_nil, List.foldl_nil, List.take_of_length_le hlen,
      decide_eq_false (Nat.not_lt.mpr hlen), bne_iff_ne.mpr hne, when_true]
  have hport := dmxOf_setDmx hx (fun y => { y with uids := uids, overflow := false, jobs := y.jobs.filter (fun j => !j.discover) })
  refine act_does_of_clk (f := rdmDiscoveryFx p.val uids) rfl (by rw [hfx, raise_clk]; rfl) ?_
  rw [hfx, dmxOf, raise_fix, ← dmxOf, hport]
  exact ⟨rfl, rfl, noticed_raise (d := s.dev) (by rfl) _ _⟩

theorem rdmRequest_does {c : Cmd} {x : DmxPort} {b : List Byte} (hnode : s.dev.isNode = true) (ha : misaligned c = false)
    (hp : opB c 8 ≤ 15) (hkind : opB c 9 = 0) (hx : s.dev.fix.ports[opB c 8]? = some x) (hb : c.host = .data b)
    (hstart : be b 0 1 = 0xCC) (hsub : be b 1 1 = 1) (hlen : 24 ≤ be b 2 1) :
    ((x.drec.enable && x.drec.rdm) = true → Does (.rdmRequest c) s (fun e =>
      e.fix = { s.dev.fix with ports := s.dev.fix.ports.set (opB c 8) { x with jobs := queueJob { cmd := c, at_ := s.dev.clk.rp, message := b.take 256, discover := false } x.jobs } } ∧
      SameBut [.fix] s.dev e)) ∧
    ((x.drec.enable && x.drec.rdm) = false → Does (.rdmRequest c) s (fun e => Completed s.dev e 0x61 c 6 none [] ∧
      e.fix = s.dev.fix)) := by
  have hgood : ¬(be b 0 1 ≠ 0xCC ∨ be b 1 1 ≠ 1 ∨ be b 2 1 < 24) := by omega
  have hfx : rdmRequestFx c s.dev = if !(x.drec.enable && x.drec.rdm) then refuse 0x61 c 6 [] s.dev else
      setDmx (opB c 8) (fun x => { x with jobs := queueJob { cmd := c, at_ := s.dev.clk.rp, message := b.take 256, discover := false } x.jobs }) s.dev := by
    unfold rdmRequestFx
    rw [if_neg (by simp [hnode]), if_neg (by simp [ha]; omega)]
    simp only [if_neg (show ¬opB c 9 = 1 by omega), hb, if_neg hgood, dmxOf_of_get hx]
  constructor
  · intro hok
    refine setFix_does (f := rdmRequestFx c) rfl ?_
    rw [hfx, if_neg (by simp [hok]), setDmx_of_get hx]
  · intro hok
    rw [if_pos (by simp [hok])] at hfx
    refine act_does_of_clk (f := rdmRequestFx c) rfl (by rw [hfx, refuse_clk]) ?_
    rw [hfx]
    exact ⟨completed_refuse (e := s.dev) rfl _ _ _ _, refuse_fix _ _ _ _ _⟩

end

/-- Settles O50: each row of a DMX port changes that port, and completes or reports what it says. -/
theorem dmxPortsServed : Obligations.DmxPortsServed := by
  refine ⟨fun c s n x hnode hp hrec hx _ hjobs hbit hr => dmxConfig_does hnode hp hrec hx hjobs hbit hr, fun p s x t r hd hnext hon hhold hx hen ht hr hbusy hrun hfault => ?_,
    fun p s x hon hx => ⟨fun n hen hlost hnew => dmxSourceLost_does hon hx hen hlost hnew, fun j o b hrun hb => rdmResponse_does hon hx hrun hb,
      fun uids hen hrdm hjobs hperiod hne hlen => rdmDiscovery_does hon hx hen hrdm hjobs hperiod hne hlen⟩,
    fun c s x b hnode ha hp hkind hx hb hstart hsub hlen => rdmRequest_does hnode ha hp hkind hx hb hstart hsub hlen⟩
  subst hr
  exact ⟨fun b hrdm hb => dmxBreak_packet_does hd hnext hon hhold hx hen ht hbusy hrun hfault hrdm hb,
    fun j hrdm hshare hjobs hdisc hcast => dmxBreak_request_does hd hnext hon hhold hx hen ht hbusy hrun hfault hrdm hshare hjobs hdisc hcast⟩

end Sys2Proof.Proofs
end

/-! ## Sys2Proof/Proofs/Engines: lockstep engines compared, arbitrated, retired and returned (R348 to R354) -/

section

namespace Sys2Proof.Proofs

open Machine Laws

/-! ### What composing a graph further keeps -/

section
variable {a : Nat}

theorem releaseTo_word (h : 0x380C ≠ a) (n : Nat) (d : Device) : (releaseTo n d).word a = d.word a := by
  unfold releaseTo
  split
  · rfl
  · extract_lets n' segs void gone row g1 buf proof
    split
    · rfl
    · unfold when
      split
      · exact word_setWord_ne _ h _
      · rfl

theorem word_of_others {d e : Device} (h : blank (others .regs) e = blank (others .regs) d) : e.word a = d.word a :=
  word_of_regs (regs_of_mask h rfl) a

theorem finishIf_word (cut : Bool) (d : Device) : (finishIf cut d).word a = d.word a := word_of_others (mask_finishIf rfl cut d)

theorem composeOn_word (h : 0x380C ≠ a) (d : Device) : (composeOn d).word a = d.word a := by
  unfold composeOn
  split
  case h_1 g hg =>
    split
    · exact word_of_others (mask_queuesHeld rfl d)
    · exact (finishIf_word _ _).trans ((word_of_others (mask_queuesHeld rfl _)).trans (releaseTo_word h _ _))
  case h_2 => rfl

theorem freeNext_word (d : Device) : (freeNext d).2.word a = d.word a := rfl

theorem cutGraph_word (h : 0x380C ≠ a) (d : Device) : (cutGraph d).word a = d.word a := by
  unfold cutGraph
  split
  case h_2 => rfl
  case h_1 g hg =>
    have hfetch : ∀ (k : Nat) (e : Device), (fetchErrors k e).word a = e.word a := fun k e => word_of_others (mask_fetchErrors rfl k e)
    have hset : ∀ (f : Pixel → Pixel) (e : Device), (setPxl f e).word a = e.word a := fun _ _ => rfl
    cases hc : g.computed <;>
      simp only [Bool.false_eq_true, if_false, if_true, finishIf_word, releaseTo_word h, hset, hfetch, freeNext_word]

theorem staleGraph_word (h : 0x380C ≠ a) (d : Device) : (staleGraph d).word a = d.word a := by
  unfold staleGraph when
  split
  · split
    · exact cutGraph_word h d
    · rfl
  · rfl

end

theorem staleGraph_red (d : Device) : (staleGraph d).red = d.red := red_of_mask (ps := others .red) (mask_staleGraph rfl d) rfl

theorem composeOn_red (d : Device) : (composeOn d).red = d.red := red_of_mask (ps := others .red) (mask_composeOn rfl d) rfl

theorem composeOn_comps (d : Device) : (composeOn d).comps = d.comps := comps_of_mask (ps := others .comps) (mask_composeOn rfl d) rfl

theorem judgeHealth_red (d : Device) : (judgeHealth d).red = d.red := red_of_mask (ps := others .red) (mask_judgeHealth rfl d) rfl

theorem judged_red (was d : Device) : (judged was d).red = d.red := red_of_mask (ps := others .red) (mask_judged rfl was d) rfl

theorem spareTaken_red (kind unit : Nat) (d : Device) : (spareTaken kind unit d).red = d.red :=
  red_of_mask (ps := others .red) (mask_spareTaken rfl kind unit d) rfl

/-! ### A mismatch -/

section
variable {m : Mismatch} {d : Device}

/-- The arbitration that a mismatch waits for (R348, R351). -/
def arbOf (m : Mismatch) (d : Device) : Arb :=
  { item := m, at_ := d.clk.rp, frame := composedFrame d, repeats := (standbyEngine d).isNone, testing := false, cmd := none }

theorem mismatchFx_untested (hnode : d.isNode = true) (hact : d.red.engines.any (fun e => e == .active) = true) (htest : d.red.testCmds = []) :
    mismatchFx m d = setRed (fun r => { r with arbs := r.arbs ++ [arbOf m d] }) (when m.parity (parityCount (10 + m.engine.val) 1) d) := by
  have hred : (when m.parity (parityCount (10 + m.engine.val) 1) d).red.testCmds = [] := by
    cases m.parity <;> exact htest
  have harb : ∀ p : Bool, arbOf m (when p (parityCount (10 + m.engine.val) 1) d) = arbOf m d := fun p => by cases p <;> rfl
  rw [mismatchFx, if_neg (by simp [hnode, hact])]
  simp only [hred, List.find?_nil, Option.map_none, ← harb m.parity]
  rfl

theorem queuesHeld_pxl (d : Device) : ∃ q, (queuesHeld d).pxl = { d.pxl with graphQ := q } := by
  unfold queuesHeld
  split
  · exact ⟨_, rfl⟩
  · exact ⟨d.pxl.graphQ, rfl⟩

theorem signatureMismatch_does {s : State} (hnode : s.dev.isNode = true) (hact : s.dev.red.engines.any (fun e => e == .active) = true)
    (htest : s.dev.red.testCmds = []) : Does (.signatureMismatch m) s (fun e =>
      e.red = { s.dev.red with arbs := s.dev.red.arbs ++ [arbOf m s.dev] } ∧
      e.pxl = { s.dev.pxl with graphQ := e.pxl.graphQ } ∧ (m.parity = false → SameBut [.red, .pxl] s.dev e) ∧
      (m.parity = true → e.spare.qParity = modAt s.dev.spare.qParity (10 + m.engine.val) (fun k => satAdd 255 k 1) ∧
        SameBut [.red, .pxl, .spare] s.dev e)) := by
  have hfx := mismatchFx_untested (m := m) hnode hact htest
  have hred : (queuesHeld (mismatchFx m s.dev)).red = (mismatchFx m s.dev).red :=
    red_of_mask (ps := others .red) (mask_queuesHeld rfl _) rfl
  have hspare : (queuesHeld (mismatchFx m s.dev)).spare = (mismatchFx m s.dev).spare :=
    spare_of_mask (ps := others .spare) (mask_queuesHeld rfl _) rfl
  obtain ⟨q, hq⟩ := queuesHeld_pxl (mismatchFx m s.dev)
  have hpxl : (mismatchFx m s.dev).pxl = s.dev.pxl := by
    rw [hfx]
    cases m.parity <;> rfl
  refine act_does (f := fun d => queuesHeld (mismatchFx m d)) rfl ?_
  rw [keepClk_red, keepClk_pxl, keepClk_spare, hred, hspare, hq, hpxl]
  refine ⟨?_, rfl, fun hp => sameBut_keepClk ?_, fun hp => ⟨?_, sameBut_keepClk ?_⟩⟩
  · rw [hfx]
    cases m.parity <;> rfl
  · rw [mask_queuesHeld rfl, hfx, hp]
    rfl
  · rw [hfx, hp]
    rfl
  · rw [mask_queuesHeld rfl, hfx, hp]
    rfl

end

/-! ### Arbitration -/

section
variable {d : Device} {a : Arb}

/-- The item that waits, out of the list. -/
def unlisted (a : Arb) (d : Device) : Device := setRed (fun r => { r with arbs := r.arbs.erase a }) d

theorem unlisted_red (h : d.red.arbs = [a]) : (unlisted a d).red = { d.red with arbs := [] } := by
  rw [unlisted, setRed_red, h]
  simp

theorem voidItem_red : (voidItem a d).red = d.red := rfl

/-- The item as it is decided, with the segments it may void. -/
def weighed (a : Arb) (d : Device) : Arb := { a with voided := (arbSegs a d).length }

theorem arbFx_outvoted {x : Fin 3} {k : Nat} (h : d.red.arbs = [a]) (htest : a.testing = false) (hrep : a.repeats = false)
    (hact : engineOf d x.val = .active) (hstandby : standbyEngine d = some k) :
    arbFx (some x) d = testDone a (some x.val) (switchover a x.val k (unlisted a d)) := by
  unfold arbFx
  simp only [h, List.find?_cons, htest, Bool.not_false, hrep, Bool.false_eq_true, if_false, hact, hstandby]
  rfl

theorem arbFx_unresolved (h : d.red.arbs = [a]) (htest : a.testing = false) (hrep : a.repeats = false) :
    arbFx none d = testDone a none (unresolvedNotice (weighed a d) (voidItem a (unlisted a d))) := by
  unfold arbFx
  simp only [h, List.find?_cons, htest, Bool.not_false, hrep, Bool.false_eq_true, if_false]
  rfl

theorem arbFx_agreed {x : Fin 3} (h : d.red.arbs = [a]) (htest : a.testing = false) (hrep : a.repeats = true) :
    arbFx (some x) d = testDone a none (unlisted a d) := by
  unfold arbFx
  simp only [h, List.find?_cons, htest, Bool.not_false, hrep, if_true]
  rfl

theorem arbFx_differing (h : d.red.arbs = [a]) (htest : a.testing = false) (hrep : a.repeats = true) (hpair : pairServes d = true) :
    arbFx none d = setRed (fun r => { r with arbs := r.arbs ++ [{ weighed a d with testing := true }] }) (voidItem a (unlisted a d)) := by
  have hpair' : pairServes (voidItem a (unlisted a d)) = true := hpair
  unfold arbFx
  simp only [h, List.find?_cons, htest, Bool.not_false]
  rw [if_pos hrep]
  exact if_pos hpair'

theorem testDone_none (h : a.cmd = none) (left : Option Nat) : testDone a left d = d := by
  unfold testDone
  simp only [h]

/-! ### A switchover -/

theorem standbyEngine_lt {k : Nat} (h : standbyEngine d = some k) : k < 3 ∧ engineOf d k = .standby := by
  have hmem := List.mem_of_find?_eq_some h
  have hk := List.find?_some h
  simp only [List.mem_cons, List.not_mem_nil, or_false] at hmem
  exact ⟨by omega, by simpa using hk⟩

theorem switchover_red (e k : Nat) : (switchover a e k d).red =
    { d.red with
      engines := setAt (setAt d.red.engines e .retired) k .active, passes := setAt d.red.passes e 0,
      retireLog := modAt d.red.retireLog e (fun l => l ++ [d.spare.run]), switches := satAdd 65535 d.red.switches 1 } := by
  unfold switchover
  rw [judgeHealth_red, raise_red]
  rfl

theorem switchover_word (e k : Nat) : (switchover a e k d).word 0x5810 = satAdd 0xFFFFFFFF (d.word 0x5810) 1 := by
  have hjudge : ∀ e : Device, (judgeHealth e).word 0x5810 = e.word 0x5810 := fun e => word_of_others (mask_judgeHealth rfl e)
  have hraise : ∀ (c : Nat) (p : List Byte) (e : Device), (raise c p e).word 0x5810 = e.word 0x5810 := fun c p e => word_of_others (mask_raise rfl c p e)
  unfold switchover
  rw [hjudge, hraise, word_bump]
  rfl

/-- SWITCHOVER's payload (R349). -/
def switchNote (a : Arb) (e k : Nat) : List Byte :=
  leN 1 e ++ leN 1 k ++ leN 1 a.item.op.val ++ zeros 1 ++ leN 4 a.frame.toNat ++ a.at_.bytes

theorem switchover_told (e k : Nat) : ∃ f : Device, (raise 0x5001 (switchNote a e k) f).notes <+: (switchover a e k d).notes :=
  ⟨_, prefix_judgeHealth _⟩

end

/-! ### ARBITRATION_DECIDED -/

section
variable {s : State} {a : Arb}

/-- An engine's state is the same where the redundancy state is. -/
theorem engineOf_of_red {d e : Device} (h : e.red = d.red) (n : Nat) : engineOf e n = engineOf d n := by rw [engineOf, h, engineOf]

theorem standbyEngine_of_red {d e : Device} (h : e.red = d.red) : standbyEngine e = standbyEngine d := by
  simp only [standbyEngine, engineOf_of_red h]

/-- What a switchover makes of the engines: the one outvoted retires and the standby takes its place. -/
theorem engines_switched {d e : Device} {x k : Nat} (hred : e.red.engines = setAt (setAt d.red.engines x .retired) k .active)
    (hlen : d.red.engines.length = 3) (hx : x < 3) (hk : k < 3) (hne : k ≠ x) : engineOf e x = .retired ∧ engineOf e k = .active := by
  rw [engineOf, engineOf, hred]
  exact ⟨by rw [getD_setAt_ne _ hne, getD_setAt_same (by omega)], getD_setAt_same (by rw [length_setAt]; omega) _ _⟩

theorem arbitration_outvoted_does {x : Fin 3} {k : Nat} (h : s.dev.red.arbs = [a]) (hcmd : a.cmd = none) (htest : a.testing = false)
    (hlen : s.dev.red.engines.length = 3) (hrep : a.repeats = false) (hact : engineOf s.dev x.val = .active)
    (hstandby : standbyEngine s.dev = some k) : Does (.arbitrationDecided (some x)) s (fun e => e.red.arbs = [] ∧
      engineOf e x.val = .retired ∧ engineOf e k = .active ∧
      e.red.switches = satAdd 65535 s.dev.red.switches 1 ∧ e.word 0x5810 = satAdd 0xFFFFFFFF (s.dev.word 0x5810) 1 ∧
      Told e 0x5001 (leN 1 x.val ++ leN 1 k ++ leN 1 a.item.op.val ++ zeros 1 ++ leN 4 a.frame.toNat ++ a.at_.bytes)) := by
  have hstale := staleGraph_red s.dev
  obtain ⟨hk, hkstate⟩ := standbyEngine_lt hstandby
  have hne : k ≠ x.val := fun heq => by rw [heq, hact] at hkstate; cases hkstate
  have hfx := arbFx_outvoted (d := staleGraph s.dev) (by rw [hstale]; exact h) htest hrep (by rw [engineOf_of_red hstale]; exact hact)
    (by rw [standbyEngine_of_red hstale]; exact hstandby)
  rw [testDone_none hcmd] at hfx
  have hun := unlisted_red (d := staleGraph s.dev) (by rw [hstale]; exact h)
  have hred : (composeOn (arbFx (some x) (staleGraph s.dev))).red = (switchover a x.val k (unlisted a (staleGraph s.dev))).red := by
    rw [composeOn_red, hfx]
  refine act_does (f := fun d => composeOn (arbFx (some x) (staleGraph d))) rfl ?_
  obtain ⟨hretired, hactive⟩ := engines_switched (d := s.dev) (e := composeOn (arbFx (some x) (staleGraph s.dev)))
    (by rw [hred, switchover_red, hun, hstale]) hlen x.isLt hk hne
  refine ⟨by rw [keepClk_red, hred, switchover_red, hun], hretired, hactive, by rw [keepClk_red, hred, switchover_red, hun, hstale], ?_, ?_⟩
  · have hword : (composeOn (arbFx (some x) (staleGraph s.dev))).word 0x5810 = satAdd 0xFFFFFFFF (s.dev.word 0x5810) 1 := by
      rw [composeOn_word (by decide), hfx, switchover_word]
      exact congrArg (satAdd 0xFFFFFFFF · 1) (staleGraph_word (by decide) s.dev)
    exact hword
  · obtain ⟨f, hf⟩ := switchover_told (d := unlisted a (staleGraph s.dev)) (a := a) x.val k
    have hcomp := prefix_composeOn (arbFx (some x) (staleGraph s.dev))
    rw [hfx] at hcomp
    rw [Told, keepClk_notes, hfx]
    exact told_of_prefix (hf.trans hcomp)

theorem arbitration_unresolved_does (h : s.dev.red.arbs = [a]) (hcmd : a.cmd = none) (htest : a.testing = false) (hrep : a.repeats = false) :
    Does (.arbitrationDecided none) s (fun e =>
      e.red = { s.dev.red with arbs := [], unresolved := satAdd 65535 s.dev.red.unresolved 1 } ∧
      Told e 0x5002 (leN 4 a.frame.toNat ++ leN 2 (min (arbSegs a (staleGraph s.dev)).length 65535) ++ zeros 2) ∧
      SameBut (.tim :: .pxl :: .red :: .out :: .spare :: .regs :: .proofIn :: reporting) s.dev e) := by
  have hstale := staleGraph_red s.dev
  have hfx := arbFx_unresolved (d := staleGraph s.dev) (by rw [hstale]; exact h) htest hrep
  rw [testDone_none hcmd] at hfx
  have hun := unlisted_red (d := staleGraph s.dev) (by rw [hstale]; exact h)
  refine act_does (f := fun d => composeOn (arbFx none (staleGraph d))) rfl ?_
  refine ⟨?_, ?_, sameBut_keepClk ?_⟩
  · rw [keepClk_red, composeOn_red, hfx, unresolvedNotice, raise_red, setRed_red]
    rw [voidItem_red, hun, hstale]
  · have hcomp := prefix_composeOn (arbFx none (staleGraph s.dev))
    rw [hfx, unresolvedNotice] at hcomp
    rw [Told, keepClk_notes, hfx]
    exact told_of_prefix hcomp
  · rw [mask_composeOn rfl, hfx, mask_unresolvedNotice rfl, mask_voidItem rfl, unlisted, mask_setRed rfl, mask_staleGraph rfl]

theorem arbitration_agreed_does {x : Fin 3} (h : s.dev.red.arbs = [a]) (hcmd : a.cmd = none) (htest : a.testing = false)
    (hrep : a.repeats = true) : Does (.arbitrationDecided (some x)) s (fun e => e.red = { s.dev.red with arbs := [] } ∧
      SameBut (.tim :: .pxl :: .red :: .out :: .spare :: .regs :: .proofIn :: reporting) s.dev e) := by
  have hstale := staleGraph_red s.dev
  have hfx := arbFx_agreed (d := staleGraph s.dev) (x := x) (by rw [hstale]; exact h) htest hrep
  rw [testDone_none hcmd] at hfx
  refine act_does (f := fun d => composeOn (arbFx (some x) (staleGraph d))) rfl ⟨?_, sameBut_keepClk ?_⟩
  · rw [keepClk_red, composeOn_red, hfx, unlisted_red (by rw [hstale]; exact h), hstale]
  · rw [mask_composeOn rfl, hfx, unlisted, mask_setRed rfl, mask_staleGraph rfl]

theorem arbitration_differing_does (h : s.dev.red.arbs = [a]) (htest : a.testing = false) (hrep : a.repeats = true)
    (hpair : pairServes s.dev = true) : Does (.arbitrationDecided none) s (fun e =>
      e.red = { s.dev.red with arbs := [{ a with testing := true, voided := (arbSegs a (staleGraph s.dev)).length }] } ∧
      SameBut (.tim :: .pxl :: .red :: .out :: .spare :: .regs :: .proofIn :: reporting) s.dev e) := by
  have hstale := staleGraph_red s.dev
  have hfx := arbFx_differing (d := staleGraph s.dev) (by rw [hstale]; exact h) htest hrep (by rw [pairServes, hstale]; exact hpair)
  refine act_does (f := fun d => composeOn (arbFx none (staleGraph d))) rfl ⟨?_, sameBut_keepClk ?_⟩
  · rw [keepClk_red, composeOn_red, hfx, setRed_red]
    rw [voidItem_red, unlisted_red (by rw [hstale]; exact h), hstale]
    rfl
  · rw [mask_composeOn rfl, hfx, mask_setRed rfl, mask_voidItem rfl, unlisted, mask_setRed rfl, mask_staleGraph rfl]

theorem arbitration_test_does {p : RP} {c : Cmd} {x : Fin 3} {k : Nat} (h : s.dev.red.arbs = [a]) (hcmd : a.cmd = some (p, c))
    (htest : a.testing = false) (hrep : a.repeats = false) (hlen : s.dev.red.engines.length = 3) (hact : engineOf s.dev x.val = .active)
    (hstandby : standbyEngine s.dev = some k) : Does (.arbitrationDecided (some x)) s (fun e =>
      engineOf e x.val = .retired ∧ engineOf e k = .active ∧ Reported e 0x51 c p (leN 1 x.val)) := by
  have hstale := staleGraph_red s.dev
  obtain ⟨hk, hkstate⟩ := standbyEngine_lt hstandby
  have hne : k ≠ x.val := fun heq => by rw [heq, hact] at hkstate; cases hkstate
  have hfx := arbFx_outvoted (d := staleGraph s.dev) (by rw [hstale]; exact h) htest hrep (by rw [engineOf_of_red hstale]; exact hact)
    (by rw [standbyEngine_of_red hstale]; exact hstandby)
  have hdone : ∀ e : Device, testDone a (some x.val) e = finish 0x51 c p (leN 1 x.val) e := fun e => by
    unfold testDone
    simp only [hcmd]
  rw [hdone] at hfx
  have hred : (composeOn (arbFx (some x) (staleGraph s.dev))).red.engines = setAt (setAt s.dev.red.engines x.val .retired) k .active := by
    rw [composeOn_red, hfx, finish_red, switchover_red, unlisted, setRed_red, hstale]
  obtain ⟨hretired, hactive⟩ := engines_switched (d := s.dev) hred hlen x.isLt hk hne
  refine act_does (f := fun d => composeOn (arbFx (some x) (staleGraph d))) rfl ⟨hretired, hactive, ?_⟩
  have hcomps := finish_completed 0x51 c p (leN 1 x.val) (switchover a x.val k (unlisted a (staleGraph s.dev)))
  rw [Finished, Completed] at hcomps
  rw [Reported, keepClk_comps, composeOn_comps, hfx, hcomps]
  refine List.mem_append_right _ (List.mem_singleton.mpr ?_)
  cases c.late <;> rfl

end

/-! ### Self-tests of the units -/

section
variable {s : State} {a : Arb} {kind : Nat}

theorem unitTest_passed_does (h : s.dev.red.arbs = [a]) (hcmd : a.cmd = none) (htest : a.testing = true) :
    Does (.unitSelftestDone [true, true, true] kind) s (fun e =>
      e.red = { s.dev.red with arbs := [], unresolved := satAdd 65535 s.dev.red.unresolved 1 } ∧
      Told e 0x5002 (leN 4 a.frame.toNat ++ leN 2 (min a.voided 65535) ++ zeros 2)) := by
  have hstale := staleGraph_red s.dev
  have harbs : (staleGraph s.dev).red.arbs = [a] := by rw [hstale]; exact h
  have hfx : unitTestFx [true, true, true] kind (staleGraph s.dev) = unresolvedNotice a (unlisted a (staleGraph s.dev)) := by
    unfold unitTestFx
    simp [harbs, htest, testDone_none hcmd, unlisted]
  refine act_does (f := fun d => composeOn (unitTestFx [true, true, true] kind (staleGraph d))) rfl ⟨?_, ?_⟩
  · rw [keepClk_red, composeOn_red, hfx, unresolvedNotice, raise_red, setRed_red, unlisted_red harbs, hstale]
  · have hcomp := prefix_composeOn (unitTestFx [true, true, true] kind (staleGraph s.dev))
    rw [hfx, unresolvedNotice] at hcomp
    rw [Told, keepClk_notes, hfx]
    exact told_of_prefix hcomp

/-- An engine made FAILED: its state, what the notices say first, and what is kept. -/
theorem engineGone_red (e kind : Nat) (d : Device) : (engineGone e kind d).red = { d.red with engines := setAt d.red.engines e .failed } := by
  unfold engineGone
  dsimp only
  split
  · exact raise_red _ _ _
  · rw [spareTaken_red]
    exact raise_red _ _ _

theorem prefix_engineGone (e kind : Nat) (d : Device) :
    (raise 0x5004 (leN 1 e ++ leN 1 kind ++ zeros 2) (setEngine e .failed d)).notes <+: (engineGone e kind d).notes := by
  unfold engineGone
  dsimp only
  split
  · exact List.prefix_rfl
  · exact prefix_spareTaken _ _ _

theorem unitTest_failed_does (h : s.dev.red.arbs = [a]) (hcmd : a.cmd = none) (htest : a.testing = true)
    (hlen : s.dev.red.engines.length = 3) (hact : engineOf s.dev 0 = .active) :
    Does (.unitSelftestDone [false, true, true] kind) s (fun e => e.red.arbs = [] ∧
      engineOf e 0 = .failed ∧ engineOf e 1 = engineOf s.dev 1 ∧ Told e 0x5004 (leN 1 0 ++ leN 1 kind ++ zeros 2)) := by
  have hstale := staleGraph_red s.dev
  have harbs : (staleGraph s.dev).red.arbs = [a] := by rw [hstale]; exact h
  have hun := unlisted_red harbs
  have hact' : engineOf (unlisted a (staleGraph s.dev)) 0 = .active := by
    rw [engineOf, hun, hstale]
    exact hact
  have hbad : [0, 1, 2].filter (fun e => engineOf (unlisted a (staleGraph s.dev)) e == .active && !([false, true, true].getD e true)) = [0] := by
    simp [hact']
  have hfx : unitTestFx [false, true, true] kind (staleGraph s.dev) =
      judged (unlisted a (staleGraph s.dev)) (engineGone 0 kind (unlisted a (staleGraph s.dev))) := by
    unfold unitTestFx
    simp only [harbs, List.find?_cons, htest, testDone_none hcmd]
    rw [unlisted] at hbad
    simp only [hbad, List.isEmpty_cons, Bool.false_eq_true, if_false, List.foldl_cons, List.foldl_nil]
    rfl
  have hred : (composeOn (unitTestFx [false, true, true] kind (staleGraph s.dev))).red =
      { s.dev.red with arbs := [], engines := setAt s.dev.red.engines 0 .failed } := by
    rw [composeOn_red, hfx, judged_red, engineGone_red, hun, hstale]
  refine act_does (f := fun d => composeOn (unitTestFx [false, true, true] kind (staleGraph d))) rfl ⟨?_, ?_, ?_, ?_⟩
  · rw [keepClk_red, hred]
  · rw [engineOf, keepClk_red, hred]
    exact getD_setAt_same (by omega) _ _
  · rw [engineOf, keepClk_red, hred]
    exact getD_setAt_ne _ (by decide) _ _
  · have hcomp := prefix_composeOn (unitTestFx [false, true, true] kind (staleGraph s.dev))
    rw [hfx] at hcomp
    rw [Told, keepClk_notes, hfx]
    exact told_of_prefix ((prefix_engineGone 0 kind _).trans ((prefix_judged _ _).trans hcomp))

end

/-! ### Rounds of self-test -/

section
variable {s : State} {x : Fin 3}

theorem round_returned_does (hlen : s.dev.red.engines.length = 3) (hret : engineOf s.dev x.val = .retired)
    (hthrice : thriceRetired s.dev (s.dev.red.retireLog.getD x.val []) = false) (hn : 999 ≤ nth s.dev.red.passes x.val) :
    Does (.selftestRoundDone x .pass) s (fun e => engineOf e x.val = .standby ∧ Noticed s.dev e 0x5003 (leN 1 x.val ++ zeros 3)) := by
  have hfx : roundFx x.val .pass s.dev = raise 0x5003 (leN 1 x.val ++ zeros 3)
      (setEngine x.val .standby (setRed (fun r => { r with passes := setAt r.passes x.val 0 }) s.dev)) := by
    unfold roundFx
    simp only [hret]
    rw [passRound, if_neg (by omega), if_neg (by rw [hthrice]; decide)]
  refine act_does (f := roundFx x.val .pass) rfl ⟨?_, ?_⟩
  · rw [engineOf, keepClk_red, hfx, raise_red]
    exact getD_setAt_same (by rw [setRed_red]; dsimp only; omega) _ _
  · rw [Noticed, keepClk_notes, hfx]
    exact noticed_raise (d := s.dev) (by rfl) _ _

theorem round_counted_does (hlen : s.dev.red.passes.length = 3) (hret : engineOf s.dev x.val = .retired)
    (hn : nth s.dev.red.passes x.val < 999) : Does (.selftestRoundDone x .pass) s (fun e => engineOf e x.val = .retired ∧
      nth e.red.passes x.val = nth s.dev.red.passes x.val + 1 ∧ SameBut [.red] s.dev e) := by
  have hfx : roundFx x.val .pass s.dev =
      setRed (fun r => { r with passes := setAt r.passes x.val (nth s.dev.red.passes x.val + 1) }) s.dev := by
    unfold roundFx
    simp only [hret]
    rw [passRound, if_pos (by omega)]
  refine act_does (f := roundFx x.val .pass) rfl ⟨?_, ?_, sameBut_keepClk ?_⟩
  · rw [engineOf, keepClk_red, hfx]
    exact hret
  · rw [keepClk_red, hfx]
    exact nth_setAt_same (by omega) _
  · rw [hfx]
    rfl

theorem round_failed_does {k : Nat} (hlen : s.dev.red.engines.length = 3)
    (hst : engineOf s.dev x.val = .standby ∨ engineOf s.dev x.val = .retired) :
    Does (.selftestRoundDone x (.fail k)) s (fun e => engineOf e x.val = .failed ∧
      NoticedFirst s.dev e 0x5004 (leN 1 x.val ++ leN 1 k ++ zeros 2)) := by
  have hfx : roundFx x.val (.fail k) s.dev = failEngine x.val k s.dev := by
    unfold roundFx
    rcases hst with h | h <;> simp only [h]
  refine act_does (f := roundFx x.val (.fail k)) rfl ⟨?_, ?_⟩
  · rw [engineOf, keepClk_red, hfx, failEngine, judged_red, engineGone_red]
    exact getD_setAt_same (by omega) _ _
  · rw [NoticedFirst, keepClk_notes, hfx]
    exact noticedFirst_of_prefix (d := s.dev) (f := setEngine x.val .failed s.dev) (by rfl) ((prefix_engineGone x.val k s.dev).trans (prefix_judged _ _))

theorem round_late_does (hst : engineOf s.dev x.val = .standby ∨ engineOf s.dev x.val = .retired) :
    Does (.selftestRoundDone x .late) s (fun e => e = s.dev.bump 0x5814 1) := by
  have hfx : roundFx x.val .late s.dev = s.dev.bump 0x5814 1 := by
    unfold roundFx
    rcases hst with h | h <;> simp only [h]
  refine act_does (f := roundFx x.val .late) rfl ?_
  rw [hfx]
  rfl

end

/-- Settles O43: an item waits, is decided, and moves the engines as the decision says; a round counts, returns or fails one. -/
theorem enginesArbitrated : Obligations.EnginesArbitrated := by
  refine ⟨fun m s hnode hact htest => signatureMismatch_does hnode hact htest,
    fun a s h hcmd htest hlen => ⟨fun x k hrep hact hstandby => arbitration_outvoted_does h hcmd htest hlen hrep hact hstandby,
      fun hrep => arbitration_unresolved_does h hcmd htest hrep,
      fun hrep => ⟨fun x => arbitration_agreed_does h hcmd htest hrep, fun hpair => arbitration_differing_does h htest hrep hpair⟩⟩,
    fun a p c s x k h hcmd htest hrep hlen hact hstandby => arbitration_test_does h hcmd htest hrep hlen hact hstandby,
    fun a s kind h hcmd htest hlen => ⟨unitTest_passed_does h hcmd htest, fun hact => unitTest_failed_does h hcmd htest hlen hact⟩,
    fun x s hlen hpass => ⟨fun hret hthrice => ⟨fun hn => round_returned_does hlen hret hthrice hn, fun hn => round_counted_does hpass hret hn⟩,
      fun hst => ⟨fun k => round_failed_does hlen hst, round_late_does hst⟩⟩⟩

end Sys2Proof.Proofs
end

/-! ## Sys2Proof/Proofs/Copies: output copies compared, output holds, and PLLs replaced (R357 to R361, R373, R375) -/

section

namespace Sys2Proof.Proofs

open Machine Laws

/-! ### An output hold -/

/-- A LOAD's place settled changes the LOAD alone of the output. -/
theorem settleLoad_out (d : Device) : { (settleLoad d).out with load := none } = { d.out with load := none } := by
  unfold settleLoad
  split
  case h_2 => rfl
  case h_1 l _ =>
    have hout := foldl_freeNext_out (fun ps e p => ps ++ [posNow e l (freeNext e).1 p]) l.pos (d, ([] : List LoadPos))
    exact (congrArg (fun o : Output => { o with load := none }) hout :)

theorem settleLoad_sections (d : Device) : (settleLoad d).out.sections = d.out.sections :=
  (congrArg Output.sections (settleLoad_out d) :)

theorem settleLoad_red (d : Device) : (settleLoad d).red = d.red := red_of_mask (ps := others .red) (mask_settleLoad rfl d) rfl

theorem heldNote_red (cause : Nat) (d : Device) : (heldNote cause d).red = d.red :=
  red_of_mask (ps := others .red) (mask_heldNote rfl cause d) rfl

/-- A hold begun where none is on (R359). -/
theorem holdBegin_red (cause : Nat) {d : Device} (h : d.red.hold = none) : (holdBegin cause d).red =
    { d.red with hold := some { cause := cause, onset := d.clk.rp }, holds := satAdd 65535 d.red.holds 1 } := by
  have hclk : (settleLoad d).clk = d.clk := clk_of_mask (ps := others .clk) (mask_settleLoad rfl d) rfl
  have hred : (setRed (fun r => { r with hold := some { cause := cause, onset := (settleLoad d).clk.rp }, holds := satAdd 65535 r.holds 1 })
      (settleLoad d)).red = { d.red with hold := some { cause := cause, onset := d.clk.rp }, holds := satAdd 65535 d.red.holds 1 } := by
    rw [setRed_red, settleLoad_red, hclk]
  unfold holdBegin
  simp only [h, Option.isSome_none, Bool.false_eq_true, if_false]
  split
  · rw [heldNote_red, hred]
  · exact hred

/-- A hold begun, or going on: only the hold and its count may differ. -/
theorem holdBegin_keeps (cause : Nat) (d : Device) : ∃ h n, h.isSome = true ∧ (holdBegin cause d).red = { d.red with hold := h, holds := n } := by
  cases hh : d.red.hold with
  | none => exact ⟨_, _, rfl, holdBegin_red cause hh⟩
  | some x =>
    refine ⟨some x, d.red.holds, rfl, ?_⟩
    unfold holdBegin
    simp only [hh, Option.isSome_some, if_true]
    split
    · rw [heldNote_red, ← hh]
    · rw [← hh]

/-! ### Copies -/

section
variable {d : Device}

/-- A copy's retirement noted (R359). -/
def retireNoted (c : Nat) (d : Device) : Device :=
  setRed (fun r => { r with
    copies := setAt r.copies c .retired, copyPass := setAt r.copyPass c 0, copyLog := modAt r.copyLog c (fun l => l ++ [d.spare.run]) }) d

/-- A first retirement does not fail the copy (R375). -/
theorem retireCopy_first {c : Nat} (hc : c < d.red.copyLog.length) (hlog : d.red.copyLog.getD c [] = []) :
    retireCopy c d = retireNoted c d := by
  have hone : (retireNoted c d).red.copyLog.getD c [] = [d.spare.run] := by
    rw [retireNoted, setRed_red, getD_modAt_same hc, hlog]
    rfl
  have honce : thriceRetired (retireNoted c d) ((retireNoted c d).red.copyLog.getD c []) = false := by
    rw [hone, thriceRetired, decide_eq_false_iff_not, Nat.not_le, recentLog]
    exact Nat.lt_of_le_of_lt (List.length_filter_le _ _) (by simp)
  exact if_neg (by rw [← retireNoted, honce]; exact Bool.false_ne_true)

end

section
variable {s : State} {x y : CopyState}

/-- The redundancy state with the hold of a mismatch begun. -/
def mismatched (d : Device) : Redund :=
  { d.red with hold := some { cause := 1, onset := d.clk.rp }, holds := satAdd 65535 d.red.holds 1 }

/-- Where both self-checks fail, both copies retire and output stops (R359). -/
theorem copyMismatchFx_failed {d : Device} (hserve : ¬((!(copyServes d 0 && copyServes d 1)) = true)) : ∃ v w e,
    copyMismatchFx false false d = engineFailedNotice 3 v (outStop w e) ∧
    e.red = (retireCopy 1 (retireCopy 0 (holdBegin 1 d))).red := by
  have hred := judged_red (holdBegin 1 d) (retireCopy 1 (retireCopy 0 (holdBegin 1 d)))
  rw [copyMismatchFx, if_neg hserve]
  simp only [Bool.and_self, Bool.false_eq_true, if_false]
  generalize judged (holdBegin 1 d) (retireCopy 1 (retireCopy 0 (holdBegin 1 d))) = j at hred ⊢
  exact ⟨_, _, _, rfl, hred⟩

theorem copyMismatch_does (hcopies : s.dev.red.copies = [x, y]) (h0 : copyServes s.dev 0 = true) (h1 : copyServes s.dev 1 = true)
    (hhold : s.dev.red.hold = none) (hlog : s.dev.red.copyLog = [[], []]) :
    Does (.outputCopyMismatch true true) s (fun e => e.red.copies = [.driving, .shadowing] ∧
      e.red.hold = some { cause := 1, onset := s.dev.clk.rp } ∧ e.red.holds = satAdd 65535 s.dev.red.holds 1) ∧
    Does (.outputCopyMismatch true false) s (fun e => e.red.copies = [.driving, .retired] ∧
      e.red.hold = some { cause := 1, onset := s.dev.clk.rp } ∧ e.red.copyLog = [[], [s.dev.spare.run]]) ∧
    Does (.outputCopyMismatch false true) s (fun e => e.red.copies = [.retired, .driving] ∧
      e.red.hold = some { cause := 1, onset := s.dev.clk.rp }) ∧
    Does (.outputCopyMismatch false false) s (fun e => e.red.copies = [.retired, .retired] ∧ e.out.running = false) := by
  have hbegin : (holdBegin 1 s.dev).red = mismatched s.dev := holdBegin_red 1 hhold
  have hspare : (holdBegin 1 s.dev).spare = s.dev.spare := spare_of_mask (ps := others .spare) (mask_holdBegin rfl 1 s.dev) rfl
  have hlog' : (holdBegin 1 s.dev).red.copyLog = [[], []] := by rw [hbegin]; exact hlog
  have hcopies' : (holdBegin 1 s.dev).red.copies = [x, y] := by rw [hbegin]; exact hcopies
  have hserve : ¬((!(copyServes s.dev 0 && copyServes s.dev 1)) = true) := by simp [h0, h1]
  have hret : ∀ c, c < 2 → (retireCopy c (holdBegin 1 s.dev)).red = { mismatched s.dev with
      copies := setAt [x, y] c .retired, copyPass := setAt s.dev.red.copyPass c 0, copyLog := modAt [[], []] c (fun l => l ++ [s.dev.spare.run]) } := by
    intro c hc
    have hnone : ([[], []] : List (List Nat)).getD c [] = [] := by
      rcases (by omega : c = 0 ∨ c = 1) with rfl | rfl <;> rfl
    rw [retireCopy_first (by rw [hlog']; exact hc) (by rw [hlog']; exact hnone), retireNoted, setRed_red, hlog', hcopies', hspare, hbegin]
    rfl
  refine ⟨?_, ?_, ?_, ?_⟩
  · refine act_does (f := copyMismatchFx true true) rfl ?_
    have hfx : copyMismatchFx true true s.dev = setRed (fun r => { r with copies := [.driving, .shadowing] }) (holdBegin 1 s.dev) := by
      rw [copyMismatchFx, if_neg hserve]
      exact if_pos rfl
    rw [keepClk_red, hfx, setRed_red, hbegin]
    exact ⟨rfl, rfl, rfl⟩
  · refine act_does (f := copyMismatchFx true false) rfl ?_
    have hfx : copyMismatchFx true false s.dev = setRed (fun r => { r with copies := setAt r.copies 0 .driving })
        (judged (holdBegin 1 s.dev) (retireCopy 1 (holdBegin 1 s.dev))) := by
      rw [copyMismatchFx, if_neg hserve]
      rfl
    rw [keepClk_red, hfx, setRed_red, judged_red, hret 1 (by decide)]
    exact ⟨rfl, rfl, rfl⟩
  · refine act_does (f := copyMismatchFx false true) rfl ?_
    have hfx : copyMismatchFx false true s.dev = setRed (fun r => { r with copies := setAt r.copies 1 .driving })
        (judged (holdBegin 1 s.dev) (retireCopy 0 (holdBegin 1 s.dev))) := by
      rw [copyMismatchFx, if_neg hserve]
      rfl
    rw [keepClk_red, hfx, setRed_red, judged_red, hret 0 (by decide)]
    exact ⟨rfl, rfl⟩
  · refine act_does (f := copyMismatchFx false false) rfl ?_
    have h0red := hret 0 (by decide)
    have h01red : (retireCopy 1 (retireCopy 0 (holdBegin 1 s.dev))).red.copies = [.retired, .retired] := by
      rw [retireCopy_first (by rw [h0red]; exact Nat.one_lt_two) (by rw [h0red]; rfl), retireNoted, setRed_red, h0red]
      rfl
    obtain ⟨v, w, e, hfx, hered⟩ := copyMismatchFx_failed hserve
    have hstop : (outStop w e).red = e.red := red_of_mask (ps := others .red) (mask_outStop rfl w e) rfl
    rw [keepClk_red, keepClk_out, hfx, engineFailedNotice, raise_red, raise_out, hstop, hered]
    exact ⟨h01red, outStop_running w e⟩

end

/-! ### PLLs -/

section
variable {s : State} {f : Fin 7}

/-- A PLL's standby in use (R358). -/
def pllSwitched (f : Nat) (d : Device) : Device :=
  setRed (fun r => { r with pllUse := setAt r.pllUse f (!(d.red.pllUse.getD f false)), pllStandby := setAt r.pllStandby f false }) d

/-- PLL_SWITCHED's payload (R358). -/
def pllNote (f : Nat) (d : Device) : List Byte := leN 1 f ++ leN 1 (bit (!(d.red.pllUse.getD f false))) ++ zeros 2

theorem spareUsed_red (kind unit : Nat) (d : Device) : (spareUsed kind unit d).red = d.red :=
  red_of_mask (ps := others .red) (mask_spareUsed rfl kind unit d) rfl

theorem pllFaultFx_eq {f : Nat} {d : Device} (h : d.red.pllStandby.getD f false = true) : pllFaultFx f d =
    spareUsed 9 f (if f = 2 then holdBegin 0 (raise 0x500A (pllNote f d) (pllSwitched f d)) else raise 0x500A (pllNote f d) (pllSwitched f d)) := by
  rw [pllFaultFx, if_neg (by rw [h]; decide)]
  rfl

theorem pllFault_does (hstandby : s.dev.red.pllStandby.getD f.val false = true) : Does (.pllFaultDetected f) s (fun e =>
    e.red.pllUse = s.dev.red.pllUse.set f.val (!(s.dev.red.pllUse.getD f.val false)) ∧
    e.red.pllStandby = s.dev.red.pllStandby.set f.val false ∧ (f.val = 2 → e.red.hold.isSome = true) ∧
    e.spare.uses = s.dev.spare.uses ++ [{ kind := 9, unit := f.val, at_ := s.dev.spare.run }] ∧
    NoticedFirst s.dev e 0x500A (leN 1 f.val ++ leN 1 (bit (!(s.dev.red.pllUse.getD f.val false))) ++ zeros 2)) := by
  have hfx := pllFaultFx_eq hstandby
  refine act_does (f := pllFaultFx f.val) rfl ?_
  have hsw : (raise 0x500A (pllNote f.val s.dev) (pllSwitched f.val s.dev)).red = (pllSwitched f.val s.dev).red := raise_red _ _ _
  have hsp : (raise 0x500A (pllNote f.val s.dev) (pllSwitched f.val s.dev)).spare = s.dev.spare := raise_spare _ _ _
  rw [NoticedFirst, keepClk_red, keepClk_spare, keepClk_notes, hfx, spareUsed_red, spareUsed_uses]
  have hfirst : ∀ e : Device, e.notes = (raise 0x500A (pllNote f.val s.dev) (pllSwitched f.val s.dev)).notes →
      NoticedFirst s.dev (spareUsed 9 f.val e) 0x500A (pllNote f.val s.dev) := fun e he =>
    noticedFirst_of_prefix (d := s.dev) (f := pllSwitched f.val s.dev) (by rfl) (he ▸ prefix_spareUsed 9 f.val e)
  split
  case isTrue h2 =>
    obtain ⟨x, n, hx, hred⟩ := holdBegin_keeps 0 (raise 0x500A (pllNote f.val s.dev) (pllSwitched f.val s.dev))
    have hspare : (holdBegin 0 (raise 0x500A (pllNote f.val s.dev) (pllSwitched f.val s.dev))).spare = s.dev.spare :=
      (spare_of_mask (ps := others .spare) (mask_holdBegin rfl 0 _) rfl).trans hsp
    rw [hred, hsw, useOf, hspare]
    exact ⟨rfl, rfl, fun _ => hx, rfl, hfirst _ (notes_of_mask (ps := others .notes) (mask_holdBegin rfl 0 _) rfl)⟩
  case isFalse h2 =>
    rw [hsw, useOf, hsp]
    exact ⟨rfl, rfl, fun h => absurd h h2, rfl, hfirst _ rfl⟩

theorem pllRetest_good_does : Does (.pllRetest f true) s (fun e =>
    e.red = { s.dev.red with pllStandby := s.dev.red.pllStandby.set f.val true } ∧ e.spare.uses = s.dev.spare.uses) := by
  have hfx : pllTested f.val true s.dev = setRed (fun r => { r with pllStandby := setAt r.pllStandby f.val true }) s.dev := by
    rw [pllTested]
    exact if_neg (by simp)
  refine act_does (f := pllRetestFx f.val true) rfl ?_
  rw [keepClk_red, keepClk_spare, pllRetestFx, judged_red, (judged_judged _ _).uses, hfx]
  exact ⟨rfl, rfl⟩

theorem pllRetest_bad_does (h : s.dev.red.pllStandby.getD f.val false = true) : Does (.pllRetest f false) s (fun e =>
    e.red = { s.dev.red with pllStandby := s.dev.red.pllStandby.set f.val false } ∧
    e.spare.uses = s.dev.spare.uses ++ [{ kind := 9, unit := f.val, at_ := s.dev.spare.run }]) := by
  have hfx : pllTested f.val false s.dev =
      spareTaken 9 f.val (setRed (fun r => { r with pllStandby := setAt r.pllStandby f.val false }) s.dev) := by
    rw [pllTested]
    exact if_pos (by rw [h]; rfl)
  refine act_does (f := pllRetestFx f.val false) rfl ?_
  rw [keepClk_red, keepClk_spare, pllRetestFx, judged_red, (judged_judged _ _).uses, hfx, spareTaken_red, spareTaken_spare]
  exact ⟨rfl, rfl⟩

end

/-! ### The end of a hold, and a copy out for a day -/

section
variable {s : State}

theorem outputHoldResume_does {gap : Nat} {h : OutHold} (hhold : s.dev.red.hold = some h) : Does (.outputHoldResume gap) s (fun e =>
    e.red = { s.dev.red with hold := none } ∧
    Noticed s.dev e 0x5005 (leN 1 h.cause ++ zeros 3 ++ leN 4 gap ++ h.onset.bytes) ∧ e.out.resumed = some s.dev.clk.rp ∧
    e.out.sections = s.dev.out.sections.map (fun x => { x with
      start := (if h.onset.before x.start then s.dev.clk.rp
        else RP.plus s.dev.clk.raster x.start (RP.dist s.dev.clk.raster s.dev.clk.rp h.onset)) }) ∧
    SameBut (.tim :: .out :: .red :: reporting) s.dev e) := by
  have hclk : (settleLoad s.dev).clk = s.dev.clk := clk_of_mask (ps := others .clk) (mask_settleLoad rfl s.dev) rfl
  have hfx : holdResumeFx gap s.dev = raise 0x5005 (leN 1 h.cause ++ zeros 3 ++ leN 4 gap ++ h.onset.bytes)
      (seqResume h.onset (RP.dist s.dev.clk.raster s.dev.clk.rp h.onset) (setRed (fun r => { r with hold := none }) (settleLoad s.dev))) := by
    unfold holdResumeFx
    simp only [hhold, hclk]
  have hnotes : (settleLoad s.dev).notes = s.dev.notes := notes_of_mask (ps := others .notes) (mask_settleLoad rfl s.dev) rfl
  refine act_does (f := holdResumeFx gap) rfl ?_
  refine ⟨?_, ?_, ?_, ?_, sameBut_keepClk ?_⟩
  · rw [keepClk_red, hfx, raise_red, seqResume, setOut_red, setRed_red, settleLoad_red]
  · rw [Noticed, keepClk_notes, hfx]
    exact noticed_raise (by rw [seqResume, setOut_notes, setRed_notes, hnotes]) _ _
  · rw [keepClk_out, hfx, raise_out, seqResume, setOut_out, setRed_clk, hclk]
  · rw [keepClk_out, hfx, raise_out, seqResume, setOut_out, setRed_clk, setRed_out, hclk, settleLoad_sections]
  · rw [hfx, mask_raise rfl, mask_seqResume rfl, mask_setRed rfl, mask_settleLoad rfl]

theorem outputCopyRetire24h_does {c : Fin 2} (hret : s.dev.red.copies.getD c.val .failed = .retired) (hout : s.dev.spare.out24.contains c.val = false) :
    Does (.outputCopyRetire24h c) s (fun e => e.spare.out24 = s.dev.spare.out24 ++ [c.val] ∧
      e.spare.uses = s.dev.spare.uses ++ [{ kind := 2, unit := c.val, at_ := s.dev.spare.run }] ∧
      SameBut (.spare :: reporting) s.dev e) := by
  have hfx : copy24Fx c.val s.dev = spareUsed 2 c.val (setSpare (fun x => { x with out24 := x.out24 ++ [c.val] }) s.dev) := by
    rw [copy24Fx, if_neg (by rw [hret, hout]; decide)]
  have hout24 : (spareUsed 2 c.val (setSpare (fun x => { x with out24 := x.out24 ++ [c.val] }) s.dev)).spare.out24 =
      s.dev.spare.out24 ++ [c.val] := by
    obtain ⟨_, _, _, hj⟩ := predict_judged (spareTaken 2 c.val (setSpare (fun x => { x with out24 := x.out24 ++ [c.val] }) s.dev))
    rw [spareUsed, hj, spareTaken_spare]
    rfl
  refine act_does (f := copy24Fx c.val) rfl ⟨?_, ?_, sameBut_keepClk (mask_copy24Fx rfl c.val s.dev)⟩
  · rw [keepClk_spare, hfx, hout24]
  · rw [keepClk_spare, hfx, spareUsed_uses]
    rfl

end

/-- Settles O44: the copies' self-checks and the PLLs' tests decide what goes on, and a hold's end makes its gap good. -/
theorem copiesAndPlls : Obligations.CopiesAndPlls :=
  ⟨fun _ _ _ hcopies h0 h1 hhold hlog => copyMismatch_does hcopies h0 h1 hhold hlog,
    fun _ _ _ _ => ⟨pllFault_does, fun _ => pllRetest_good_does, pllRetest_bad_does⟩,
    fun _ _ _ hhold => outputHoldResume_does hhold, fun _ _ hret hout => outputCopyRetire24h_does hret hout⟩

end Sys2Proof.Proofs
end

/-! ## Sys2Proof/Proofs/Calibration: CAL_LINK, CAL_COLOUR, CAL_METER and CAL_CANCEL (R453 to R468) -/

section

namespace Sys2Proof.Proofs

open Machine Laws

/-! ### Running and waiting -/

/-- A calibration of a command in effect now. -/
def jobOf (c : Cmd) (d : Device) : CalJob := { cmd := c, at_ := d.clk.rp, start := d.clk.rp }

section
variable {d : Device} {kind : Nat} {c : Cmd} {j : CalJob}

theorem calDrop_none (h : d.cal.waiting.getD kind none = none) (cause : Nat) : calDrop kind cause d = d := by
  unfold calDrop
  simp only [h]

theorem calStartFx_free (hw : d.cal.waiting.getD kind none = some j) (hr : d.cal.running.getD kind none = none)
    (hfree : calFree kind d = true) (hrun : d.pwr.state = .run) : calStartFx kind d = calBegin kind j d := by
  unfold calStartFx
  simp only [hw, hr, hfree, hrun]
  rfl

theorem calStartFx_busy {i : CalJob} (hr : d.cal.running.getD kind none = some i) : calStartFx kind d = d := by
  unfold calStartFx
  split
  · rw [if_pos (by rw [hr]; rfl)]
  · rfl

/-- What forgetting the work of a kind leaves of what runs and waits (R459). -/
theorem calClear_lists : (calClear kind d).cal.running = setAt d.cal.running kind none ∧ (calClear kind d).cal.waiting = d.cal.waiting ∧
    (calClear kind d).cal.marker = setAt d.cal.marker kind none := by
  rw [calClear, setCal_cal]
  dsimp only
  split
  · exact ⟨rfl, rfl, rfl⟩
  · split <;> exact ⟨rfl, rfl, rfl⟩

/-- What beginning a calibration makes of the state of its kind (R454, R459). -/
theorem calBegin_cal (hr : kind < d.cal.running.length) (hw : kind < d.cal.waiting.length) (hm : kind < d.cal.marker.length) :
    (calBegin kind j d).cal.running.getD kind none = some { j with start := d.clk.rp } ∧
    (calBegin kind j d).cal.waiting.getD kind none = none ∧
    (calBegin kind j d).cal.marker.getD kind none = some (j.cmd.tag, d.clk.rp) := by
  obtain ⟨hrun, hwait, hmark⟩ := calClear_lists (kind := kind) (d := d)
  have h1 : ∀ x, (setAt (calClear kind d).cal.running kind x).getD kind none = x := fun x =>
    getD_setAt_same (by rw [hrun, length_setAt]; exact hr) x none
  have h2 : ∀ x, (setAt (calClear kind d).cal.waiting kind x).getD kind none = x := fun x =>
    getD_setAt_same (by rw [hwait]; exact hw) x none
  have h3 : ∀ x, (setAt (calClear kind d).cal.marker kind x).getD kind none = x := fun x =>
    getD_setAt_same (by rw [hmark, length_setAt]; exact hm) x none
  unfold calBegin
  dsimp only
  split
  · exact ⟨h1 _, h2 _, h3 _⟩
  · split <;> exact ⟨h1 _, h2 _, h3 _⟩

theorem calBegin_mask : blank [.cal] (calBegin kind j d) = blank [.cal] d := by
  unfold calBegin
  dsimp only
  split
  · rfl
  · split <;> rfl

end

section
variable {s : State} {kind : Nat} {c : Cmd} {i : Instr} {f : Device → Device}

/-- The device with a calibration of a command waiting. -/
def calWaiting (kind : Nat) (c : Cmd) (d : Device) : Device :=
  setCal (fun x => { x with waiting := setAt x.waiting kind (some (jobOf c d)) }) d

theorem calPlace_eq {d : Device} (h : d.cal.waiting.getD kind none = none) : calPlace kind c d = calStartFx kind (calWaiting kind c d) := by
  rw [calPlace, calDrop_none h]
  rfl

theorem calWaiting_get {d : Device} (hw : kind < d.cal.waiting.length) :
    (calWaiting kind c d).cal.waiting.getD kind none = some (jobOf c d) := getD_setAt_same hw _ _

/-- A command whose calibration starts: it runs, and nothing of its kind waits. -/
theorem calPlace_starts {q : Device → Prop} (hi : exec i s = act f s) (hf : f s.dev = calPlace kind c s.dev)
    (hr : kind < s.dev.cal.running.length) (hw : kind < s.dev.cal.waiting.length) (hm : kind < s.dev.cal.marker.length)
    (hrun : s.dev.pwr.state = .run) (hwait : s.dev.cal.waiting.getD kind none = none) (hnone : s.dev.cal.running.getD kind none = none)
    (hfree : calFree kind s.dev = true)
    (hq : ∀ e, e = calBegin kind (jobOf c s.dev) (calWaiting kind c s.dev) → e.cal.running.getD kind none = some (jobOf c s.dev) →
      e.cal.waiting.getD kind none = none → e.cal.marker.getD kind none = some (c.tag, s.dev.clk.rp) → SameBut [.cal] s.dev e → q e) :
    Does i s q := by
  have hfree' : calFree kind (calWaiting kind c s.dev) = true := hfree
  have hfx := hf.trans ((calPlace_eq hwait).trans (calStartFx_free (calWaiting_get hw) hnone hfree' hrun))
  obtain ⟨h1, h2, h3⟩ := calBegin_cal (d := calWaiting kind c s.dev) (j := jobOf c s.dev) hr
    (by rw [calWaiting, setCal_cal]; simpa only [length_setAt] using hw) hm
  have hmask : blank [.cal] (calBegin kind (jobOf c s.dev) (calWaiting kind c s.dev)) = blank [.cal] s.dev := calBegin_mask
  refine act_does_of_clk hi (by rw [hfx]; exact clk_of_mask hmask rfl) ?_
  rw [hfx]
  exact hq _ rfl h1 h2 h3 (sameBut_of_mask hmask)

/-- A command whose kind runs waits. -/
theorem calPlace_waits {j : CalJob} (hi : exec i s = act f s) (hf : f s.dev = calPlace kind c s.dev)
    (hw : kind < s.dev.cal.waiting.length) (hwait : s.dev.cal.waiting.getD kind none = none)
    (hsome : s.dev.cal.running.getD kind none = some j) : Does i s (fun e =>
      e.cal.running = s.dev.cal.running ∧ (∃ w, e.cal.waiting.getD kind none = some w ∧ w.cmd = c) ∧ SameBut [.cal] s.dev e) := by
  have hfx := hf.trans ((calPlace_eq hwait).trans (calStartFx_busy (d := calWaiting kind c s.dev) hsome))
  refine act_does_of_clk hi (by rw [hfx]; rfl) ?_
  rw [hfx]
  exact ⟨rfl, ⟨_, calWaiting_get hw, rfl⟩, sameBut_of_mask rfl⟩

end

/-! ### The three commands -/

section
variable {s : State} {c : Cmd} {d : Device}

theorem calLinkFx_good (hrun : d.pwr.state = .run) (hsel : opN c 0 2 % 1024 ≠ 0) (hports : linkPorts d c ≠ []) :
    calLinkFx c d = calPlace 0 c d := by
  rw [calLinkFx, if_neg (by simp [hrun]), if_neg hsel, if_neg (by simp [hports])]

theorem calColourFx_good {b : List Byte} (hnode : d.isNode = true) (hwidth : (recordNow d).width ≠ 0) (ha : misaligned c = false)
    (hb : c.host = .data b) (hrun : d.pwr.state = .run) (hout : d.out.running = true)
    (hgood : colourGood (recordNow d) (colourRec b) = true) : calColourFx c d = calPlace 1 c d := by
  unfold calColourFx
  rw [if_neg (by simp [hnode, hwidth]), if_neg (by simp [ha])]
  simp only [hb]
  rw [if_neg (by simp [hrun, hout]), if_neg (by simp [hgood])]

theorem calMeterFx_good (hrun : d.pwr.state = .run) (hsel : opB c 0 % 64 ≠ 0) : calMeterFx c d = calPlace 2 c d := by
  rw [calMeterFx, if_neg (by simp [hrun]), if_neg hsel]

theorem calLink_refused_does (hrun : s.dev.pwr.state ≠ .run) : Does (.calLink c) s (fun e =>
    Completed s.dev e 0x70 c 6 none [] ∧ e.cal = s.dev.cal) := by
  have hfx : calLinkFx c s.dev = refuse 0x70 c 6 [] s.dev := by rw [calLinkFx, if_pos (by simp [hrun])]
  refine act_does_of_clk (f := calLinkFx c) rfl (by rw [hfx, refuse_clk]) ?_
  rw [hfx]
  exact ⟨completed_refuse (e := s.dev) rfl _ _ _ _, refuse_cal _ _ _ _ _⟩

theorem calStart_does {k : Fin 3} {j : CalJob} (hr : s.dev.cal.running.length = 3) (hw : s.dev.cal.waiting.length = 3)
    (hm : s.dev.cal.marker.length = 3) (hwait : s.dev.cal.waiting.getD k.val none = some j) (hnone : s.dev.cal.running.getD k.val none = none)
    (hfree : calFree k.val s.dev = true) (hrun : s.dev.pwr.state = .run) : Does (.calStart k) s (fun e =>
      e.cal.running.getD k.val none = some { j with start := s.dev.clk.rp } ∧ e.cal.waiting.getD k.val none = none ∧
      SameBut [.cal] s.dev e) := by
  have hfx := calStartFx_free hwait hnone hfree hrun
  obtain ⟨h1, h2, _⟩ := calBegin_cal (d := s.dev) (kind := k.val) (j := j) (by omega) (by omega) (by omega)
  refine act_does_of_clk (f := calStartFx k.val) rfl (by rw [hfx]; exact clk_of_mask calBegin_mask rfl) ?_
  rw [hfx]
  exact ⟨h1, h2, sameBut_of_mask calBegin_mask⟩

end

/-! ### The end of a calibration -/

theorem calEnd_cal (kind : Nat) (j : CalJob) (committed : Bool) (q : Nat) (result : List Byte) (d : Device) :
    (calEnd kind j committed q result d).cal = { (calClear kind d).cal with quality := setAt (calClear kind d).cal.quality kind q } := by
  rw [calEnd, calDone, raise_cal, setCal_cal, finish_cal]

theorem calEnd_finished (kind : Nat) (j : CalJob) (committed : Bool) (q : Nat) (result : List Byte) {d e : Device} (h : e.comps = d.comps) :
    Finished d (calEnd kind j committed q result e) (calOp kind) j.cmd j.at_ result := by
  rw [Finished, Completed, calEnd, calDone, raise_comps, setCal_comps]
  exact finished_finish (e := calClear kind e) h _ _ _ _

theorem calClear_running {kind : Nat} {d : Device} (h : kind < d.cal.running.length) : (calClear kind d).cal.running.getD kind none = none := by
  rw [calClear_lists.1]
  exact getD_setAt_same h _ _

/-! ### A port swept -/

section
variable {s : State} {r : LinkSweep} {j : CalJob} {p q : Nat} {rest : List Nat}

theorem portLanes_lt (hp : p < 8) : portLanes p = [p] := if_pos hp

theorem narrowest_lt (hp : p < 8) (ws : List Nat) : narrowest p ws = nth ws 0 := by
  rw [narrowest, portLanes_lt hp]
  rfl

/-- A port's sweep that found a better setting, committed. -/
def sweepBetter (p : Nat) (rest : List Nat) (r : LinkSweep) (d : Device) : Device :=
  let d := phaseBegin 0 p (d.cal.eqAt.getD p []) r.settings (setCal (fun c => { c with eq := setAt c.eq p r.settings, commits := c.commits + 2 ^ p }) d)
  setCal (fun c => { c with ports := rest, eyes := setAt c.eyes p (narrowest p r.newEyes), ended := c.ended + 0 }) d

theorem calPortFx_better {d : Device} (hrun : d.cal.running.getD 0 none = some j) (hports : d.cal.ports = p :: q :: rest) (hp : p < 8)
    (hup : (d.port p).up = true) (hlock : r.locked = true) (hbit : hasBit (opB j.cmd 2) 0 = true)
    (hwide : narrowest p r.oldEyes < narrowest p r.newEyes) (hok : r.writeOk = true) :
    calPortFx r d = sweepBetter p (q :: rest) r (eyeFx p (nth r.newEyes 0) d) := by
  unfold calPortFx
  simp only [hrun, hports, if_pos hp, hup, hlock, hbit, decide_eq_true hwide, hok, Bool.and_self, Bool.not_true, Bool.and_false,
    Bool.false_eq_true, if_false, if_true, when_true, portLanes_lt hp, List.isEmpty_cons]
  rfl

theorem sweepBetter_mask (p : Nat) (rest : List Nat) (r : LinkSweep) (d : Device) : blank [.cal] (sweepBetter p rest r d) = blank [.cal] d := rfl

theorem calLinkPort_better_does (hrun : s.dev.cal.running.getD 0 none = some j) (hports : s.dev.cal.ports = p :: q :: rest) (hp : p < 8)
    (hup : (s.dev.port p).up = true) (hlock : r.locked = true) (hbit : hasBit (opB j.cmd 2) 0 = true)
    (hwide : narrowest p r.oldEyes < narrowest p r.newEyes) (hgood : 200 ≤ narrowest p r.newEyes) (hok : r.writeOk = true)
    (heyes : s.dev.cal.eyes.length = 10) : Does (.calLinkPortDone r) s (fun e =>
      e.cal.eq = s.dev.cal.eq.set p r.settings ∧ e.cal.commits = s.dev.cal.commits + 2 ^ p ∧
      nth e.cal.eyes p = narrowest p r.newEyes ∧ e.cal.ports = q :: rest ∧ SameBut [.cal, .spare] s.dev e) := by
  have hfx := calPortFx_better hrun hports hp hup hlock hbit hwide hok
  have heye : blank [.spare] (eyeFx p (nth r.newEyes 0) s.dev) = blank [.spare] s.dev := by
    rw [eyeFx_good (by rw [← narrowest_lt hp]; exact hgood)]
    rfl
  have hcal : (eyeFx p (nth r.newEyes 0) s.dev).cal = s.dev.cal := cal_of_mask heye rfl
  refine act_does (f := calPortFx r) rfl ?_
  rw [keepClk_cal, hfx]
  refine ⟨?_, ?_, ?_, rfl, sameBut_keepClk ?_⟩
  · exact congrArg (fun c : Cal => setAt c.eq p r.settings) hcal
  · exact congrArg (fun c : Cal => c.commits + 2 ^ p) hcal
  · refine nth_setAt_same ?_ _
    change p < (eyeFx p (nth r.newEyes 0) s.dev).cal.eyes.length
    rw [hcal]
    omega
  · exact (mask_mono rfl (sweepBetter_mask _ _ _ _)).trans (mask_mono rfl heye)

/-- The last port's sweep ended without lock. -/
def sweepEnded (p : Nat) (d : Device) : Device :=
  setCal (fun c => { c with ports := [], eyes := setAt c.eyes p 0, ended := c.ended + 2 ^ p }) d

theorem calPortFx_last {d : Device} (hrun : d.cal.running.getD 0 none = some j) (hports : d.cal.ports = [p]) (hlock : r.locked = false) :
    ∃ committed quality result, calPortFx r d = calEnd 0 j committed quality result (sweepEnded p d) := by
  unfold calPortFx
  simp only [hrun, hports, hlock, Bool.false_and, Bool.false_eq_true, if_false, when_false, List.isEmpty_nil, if_true]
  exact ⟨_, _, _, rfl⟩

theorem calLinkPort_last_does (hlen : s.dev.cal.running.length = 3) (hrun : s.dev.cal.running.getD 0 none = some j)
    (hports : s.dev.cal.ports = [p]) (hlock : r.locked = false) : Does (.calLinkPortDone r) s (fun e =>
      e.cal.running.getD 0 none = none ∧ e.cal.eq = s.dev.cal.eq ∧ ∃ result, Finished s.dev e 0x70 j.cmd j.at_ result) := by
  obtain ⟨committed, quality, result, hfx⟩ := calPortFx_last (r := r) hrun hports hlock
  refine act_does (f := calPortFx r) rfl ?_
  rw [keepClk_cal, hfx, calEnd_cal]
  refine ⟨calClear_running (by change 0 < s.dev.cal.running.length; omega), rfl, result, ?_⟩
  rw [Finished, Completed, keepClk_comps]
  exact calEnd_finished 0 j committed quality result (e := sweepEnded p s.dev) rfl

end

/-! ### The end of a colour collection -/

theorem when_not (c : Bool) (f : Device → Device) (d : Device) : (if c = true then d else f d) = when (!c) f d := by cases c <;> rfl

section
variable {d : Device} {f : ColourFit} {j : CalJob}

/-- A fit takes free values alone (R465). -/
theorem fitRho_mask (n : NodeRecord) (r : ColourRec) (ps : List CalPair) (d : Device) : blank [.tim] (fitRho n r ps d).2 = blank [.tim] d :=
  mask_fitRho rfl n r ps d

/-- The device after the fit of a collection. -/
def fitDone (j : CalJob) (d : Device) : Device := (fitRho (recordNow d) (colourOf j.cmd) (d.cal.pairs.filter usable) d).2

theorem fitDone_mask (j : CalJob) (d : Device) : blank [.tim] (fitDone j d) = blank [.tim] d := fitRho_mask _ _ _ _

theorem calColourEndFx_few (hrun : d.cal.running.getD 1 none = some j) (hfew : (d.cal.pairs.filter usable).length < 16) :
    ∃ v, calColourEndFx f d = calEnd 1 j false v (colourResult 2 0 v (d.cal.pairs.filter usable).length (freeNext (fitDone j d)).2.corr.wear.kappa)
      (freeNext (fitDone j d)).2 := by
  refine ⟨(freeNext (fitDone j d)).1 % 65536, ?_⟩
  unfold calColourEndFx
  simp only [hrun]
  exact if_pos hfew

/-- Bits over places below 4, of which one is set, are not all clear. -/
theorem places_ne_zero {p : Nat → Bool} {c : Nat} (hc : c < 4) (hp : p c = true) :
    (List.range 4).foldl (fun w c => w + (if p c then 2 ^ c else 0)) 0 ≠ 0 := by
  rcases (by omega : c = 0 ∨ c = 1 ∨ c = 2 ∨ c = 3) with rfl | rfl | rfl | rfl <;>
    simp only [List.range, List.range.loop, List.foldl_cons, List.foldl_nil, hp, if_true] <;> omega

/-- The coefficients as a fit leaves them (R465, R466). -/
def fitted (j : CalJob) (rhos : List (Nat × Int)) (d : Device) : List Nat :=
  (List.range 4).map (fun c => (fitKappa d (colourOf j.cmd) rhos c).getD (nth d.corr.wear.kappa c))

/-- A fit accepted: its coefficients in force and in the record, before the command completes (R300, R457). -/
def fitCommitted (j : CalJob) (rhos : List (Nat × Int)) (d : Device) : Device :=
  corrCommit (setCorr (fun c => { c with
    wear := { c.wear with kappa := fitted j rhos d, firstRun := some (c.wear.firstRun.getD c.runSecs) }, lastRun := c.runSecs }) d)

theorem corrCommit_wear (d : Device) : (corrCommit d).corr.wear = d.corr.wear ∧ (corrCommit d).corr.lastRun = d.corr.lastRun := by
  have hwrite : (corrWrittenFx true d).corr.wear = d.corr.wear ∧ (corrWrittenFx true d).corr.lastRun = d.corr.lastRun := by
    unfold corrWrittenFx
    split <;> exact ⟨rfl, rfl⟩
  exact hwrite

theorem wearPass_lastRun (d : Device) : (wearPass d).corr.lastRun = d.corr.lastRun := by
  unfold wearPass
  split
  · rfl
  · unfold sensorCheck
    split
    · split
      · unfold when
        split
        · rw [raise_corr]
          rfl
        · rfl
      · rfl
    · rfl

theorem calColourEndFx_good (hrun : d.cal.running.getD 1 none = some j) (hmany : 16 ≤ (d.cal.pairs.filter usable).length)
    (hres : f.residual ≤ (colourOf j.cmd).limit) (hok : f.writeOk = true) {rhos : List (Nat × Int)}
    (hrhos : rhos = (fitRho (recordNow d) (colourOf j.cmd) (d.cal.pairs.filter usable) d).1) {c : Nat} (hc : c < 4)
    (hfit : (fitKappa (fitDone j d) (colourOf j.cmd) rhos c).isSome = true) : ∃ (q : Nat) (result : List Byte) (pass : Bool),
      calColourEndFx f d = when pass wearPass (calEnd 1 j true q result (fitCommitted j rhos (fitDone j d))) := by
  have hks : ∀ c, c < 4 → ((List.range 4).map (fitKappa (fitDone j d) (colourOf j.cmd) rhos)).getD c none =
      fitKappa (fitDone j d) (colourOf j.cmd) rhos c := fun c hc => getD_map_range hc _ _
  have hne := places_ne_zero (p := fun c => (((List.range 4).map (fitKappa (fitDone j d) (colourOf j.cmd) rhos)).getD c none).isSome) hc
    (by rw [hks c hc]; exact hfit)
  have hkappa : (List.range 4).map (fun c => (((List.range 4).map (fitKappa (fitDone j d) (colourOf j.cmd) rhos)).getD c none).getD
      (nth (fitDone j d).corr.wear.kappa c)) = fitted j rhos (fitDone j d) :=
    List.map_congr_left fun c hc => by rw [hks c (List.mem_range.mp hc)]
  have hdone : (fitRho (recordNow d) (colourOf j.cmd) (d.cal.pairs.filter usable) d).2 = fitDone j d := rfl
  unfold calColourEndFx
  simp only [hrun, ← hrhos, hdone]
  rw [if_neg (by omega), if_neg (by omega), if_neg hne, if_neg (by simp [hok]), hkappa]
  exact ⟨_, _, _, when_not _ _ _⟩

end

section
variable {s : State} {f : ColourFit} {j : CalJob}

theorem calColourEnd_few_does (hlen : s.dev.cal.running.length = 3) (hrun : s.dev.cal.running.getD 1 none = some j)
    (hfew : (s.dev.cal.pairs.filter usable).length < 16) : Does (.calColourCollectionEnd f) s (fun e => e.corr = s.dev.corr ∧
      e.cal.running.getD 1 none = none ∧ ∃ v, Finished s.dev e 0x71 j.cmd j.at_
        (colourResult 2 0 v (s.dev.cal.pairs.filter usable).length s.dev.corr.wear.kappa)) := by
  obtain ⟨v, hfx⟩ := calColourEndFx_few (f := f) hrun hfew
  have hmask : blank [.tim] (freeNext (fitDone j s.dev)).2 = blank [.tim] s.dev := fitDone_mask j s.dev
  have hcorr : (freeNext (fitDone j s.dev)).2.corr = s.dev.corr := corr_of_mask hmask rfl
  have hcal : (freeNext (fitDone j s.dev)).2.cal = s.dev.cal := cal_of_mask hmask rfl
  rw [hcorr] at hfx
  refine act_does (f := calColourEndFx f) rfl ?_
  rw [keepClk_corr, keepClk_cal, hfx, calEnd_cal]
  refine ⟨?_, calClear_running (by rw [hcal]; omega), v, ?_⟩
  · exact (corr_of_mask (ps := others .corr) (mask_calEnd rfl _ _ _ _ _ _) rfl).trans hcorr
  · rw [Finished, Completed, keepClk_comps]
    exact calEnd_finished 1 j _ _ _ (comps_of_mask hmask rfl)

theorem calColourEnd_good_does (hlen : s.dev.cal.running.length = 3) (hrun : s.dev.cal.running.getD 1 none = some j) {rhos : List (Nat × Int)}
    (hrhos : rhos = (fitRho (recordNow s.dev) (colourOf j.cmd) (s.dev.cal.pairs.filter usable) s.dev).1)
    (hmany : 16 ≤ (s.dev.cal.pairs.filter usable).length) (hres : f.residual ≤ (colourOf j.cmd).limit) (hok : f.writeOk = true)
    (hfit : ∃ c, c < 4 ∧ (fitKappa s.dev (colourOf j.cmd) rhos c).isSome = true) : Does (.calColourCollectionEnd f) s (fun e =>
      e.cal.running.getD 1 none = none ∧
      (∀ c k, c < 4 → fitKappa s.dev (colourOf j.cmd) rhos c = some k → nth e.corr.wear.kappa c = k) ∧
      e.corr.lastRun = s.dev.corr.runSecs ∧ ∃ result, Finished s.dev e 0x71 j.cmd j.at_ result) := by
  obtain ⟨c, hc, hsome⟩ := hfit
  have hmask := fitDone_mask j s.dev
  have hcorr : (fitDone j s.dev).corr = s.dev.corr := corr_of_mask hmask rfl
  have hkappa : ∀ c, fitKappa (fitDone j s.dev) (colourOf j.cmd) rhos c = fitKappa s.dev (colourOf j.cmd) rhos c := fun c => by
    rw [fitKappa, hcorr, recordNow, topo_of_mask hmask rfl]
    rfl
  obtain ⟨q, result, pass, hfx⟩ := calColourEndFx_good hrun hmany hres hok hrhos hc (by rw [hkappa]; exact hsome)
  have hcommit : blank (.corr :: reporting) (fitCommitted j rhos (fitDone j s.dev)) = blank (.corr :: reporting) (fitDone j s.dev) := by
    rw [fitCommitted, mask_corrCommit rfl, mask_setCorr rfl]
  have hcal : (fitCommitted j rhos (fitDone j s.dev)).cal = s.dev.cal := (cal_of_mask hcommit rfl).trans (cal_of_mask hmask rfl)
  have hcomps : (fitCommitted j rhos (fitDone j s.dev)).comps = s.dev.comps := (comps_of_mask hcommit rfl).trans (comps_of_mask hmask rfl)
  obtain ⟨hwear, hlast⟩ := corrCommit_wear (setCorr (fun c => { c with
    wear := { c.wear with kappa := fitted j rhos (fitDone j s.dev), firstRun := some (c.wear.firstRun.getD c.runSecs) }, lastRun := c.runSecs })
      (fitDone j s.dev))
  have hend : (calEnd 1 j true q result (fitCommitted j rhos (fitDone j s.dev))).corr = (fitCommitted j rhos (fitDone j s.dev)).corr :=
    corr_of_mask (ps := others .corr) (mask_calEnd rfl _ _ _ _ _ _) rfl
  have hpass : ∀ e : Device, (when pass wearPass e).corr.wear = e.corr.wear ∧ (when pass wearPass e).corr.lastRun = e.corr.lastRun ∧
      (when pass wearPass e).cal = e.cal ∧ (when pass wearPass e).comps = e.comps := fun e => by
    cases pass
    · exact ⟨rfl, rfl, rfl, rfl⟩
    · exact ⟨(wearPass_wear e).1, wearPass_lastRun e, cal_of_mask (ps := others .cal) (mask_wearPass rfl e) rfl,
        comps_of_mask (ps := others .comps) (mask_wearPass rfl e) rfl⟩
  obtain ⟨hpwear, hplast, hpcal, hpcomps⟩ := hpass (calEnd 1 j true q result (fitCommitted j rhos (fitDone j s.dev)))
  refine act_does (f := calColourEndFx f) rfl ?_
  rw [keepClk_cal, keepClk_corr, hfx, hpcal, hpwear, hplast, calEnd_cal, hend]
  refine ⟨calClear_running (by rw [hcal]; omega), fun c k hc hk => ?_, ?_, result, ?_⟩
  · rw [fitCommitted, hwear, setCorr_corr, nth, fitted, getD_map_range hc, hkappa, hk, Option.getD_some]
  · rw [fitCommitted, hlast, setCorr_corr, hcorr]
  · rw [Finished, Completed, keepClk_comps, hpcomps]
    exact calEnd_finished 1 j _ _ _ hcomps

end

/-! ### A meter channel handed over -/

section
variable {s : State} {m : MeterStep} {j : CalJob} {ch : Nat} {rest : List Nat}

theorem calMeterHandover_take_does (hrun : s.dev.cal.running.getD 2 none = some j) (hchans : s.dev.cal.chans = ch :: rest)
    (hspare : s.dev.cal.spare = none) : Does (.calMeterHandover m) s (fun e => e.cal = { s.dev.cal with spare := some ch } ∧
      SameBut [.cal] s.dev e) := by
  have hfx : calHandoverFx m s.dev = setCal (fun c => { c with spare := some ch }) s.dev := by
    unfold calHandoverFx
    simp only [hrun, hchans, hspare]
  refine act_does_of_clk (f := calHandoverFx m) rfl (by rw [hfx]; rfl) ?_
  rw [hfx]
  exact ⟨rfl, sameBut_of_mask rfl⟩

/-- The offsets of a channel set. -/
def offsSet (ch : Nat) (m : MeterStep) (xs : List Int) : List Int := setAt (setAt xs (2 * ch) m.newOffV) (2 * ch + 1) m.newOffI

theorem offsSet_get (hlen : 2 * ch + 1 < (xs : List Int).length) : nthI (offsSet ch m xs) (2 * ch) = m.newOffV ∧
    nthI (offsSet ch m xs) (2 * ch + 1) = m.newOffI := by
  refine ⟨?_, ?_⟩
  · rw [nthI, offsSet, getD_setAt_ne _ (by omega), getD_setAt_same (by omega)]
  · rw [nthI, offsSet, getD_setAt_same (by rw [length_setAt]; exact hlen)]

/-- A channel handed back with its new offsets (R468). -/
def handedBack (m : MeterStep) (ch : Nat) (rest : List Nat) (d : Device) : Device :=
  let d := phaseBegin 2 ch [nthI d.cal.offsAt (2 * ch + 0), nthI d.cal.offsAt (2 * ch + 1)] [m.newOffV, m.newOffI]
    (setCal (fun c => { c with offs := offsSet ch m c.offs, mCommit := c.mCommit + 2 ^ ch }) d)
  setCal (fun c => { c with
    chans := rest, spare := none, resids := setAt (setAt c.resids (2 * ch) (min 65535 m.residV)) (2 * ch + 1) (min 65535 m.residI) }) d

theorem handedBack_mask (m : MeterStep) (ch : Nat) (rest : List Nat) (d : Device) : blank [.cal] (handedBack m ch rest d) = blank [.cal] d := rfl

theorem handedBack_offs (m : MeterStep) (ch : Nat) (rest : List Nat) (d : Device) :
    (handedBack m ch rest d).cal.offs = offsSet ch m d.cal.offs ∧ (handedBack m ch rest d).cal.mCommit = d.cal.mCommit + 2 ^ ch := ⟨rfl, rfl⟩

theorem calMeterHandover_back_does (hrun : s.dev.cal.running.getD 2 none = some j) (hchans : s.dev.cal.chans = ch :: rest) (hch : ch < 6)
    (hspare : s.dev.cal.spare = some ch) (hrest : rest ≠ []) (hv : m.residV ≤ 4) (hi : m.residI ≤ 4) (hok : m.writeOk = true)
    (hlen : s.dev.cal.offs.length = 12) : Does (.calMeterHandover m) s (fun e => nthI e.cal.offs (2 * ch) = m.newOffV ∧
      nthI e.cal.offs (2 * ch + 1) = m.newOffI ∧ e.cal.chans = rest ∧ e.cal.spare = none ∧ e.cal.mCommit = s.dev.cal.mCommit + 2 ^ ch ∧
      SameBut [.cal] s.dev e) := by
  have hempty : rest.isEmpty = false := by simpa using hrest
  have hfx : calHandoverFx m s.dev = handedBack m ch rest s.dev := by
    unfold calHandoverFx
    simp only [hrun, hchans, hspare, decide_eq_true hv, decide_eq_true hi, hok, Bool.and_self, Bool.not_true, Bool.and_false,
      Bool.false_eq_true, if_false, when_true, hempty]
    rfl
  obtain ⟨hgetv, hgeti⟩ := offsSet_get (m := m) (ch := ch) (xs := s.dev.cal.offs) (by omega)
  obtain ⟨hoffs, hcommit⟩ := handedBack_offs m ch rest s.dev
  refine act_does_of_clk (f := calHandoverFx m) rfl (by rw [hfx]; exact clk_of_mask (handedBack_mask m ch rest s.dev) rfl) ?_
  rw [hfx, hoffs, hcommit]
  exact ⟨hgetv, hgeti, rfl, rfl, rfl, sameBut_of_mask (handedBack_mask m ch rest s.dev)⟩

end

/-! ### CAL_CANCEL -/

section
variable {s : State} {c : Cmd} {k : Fin 3}

theorem calAbort_some {d : Device} {kind cause : Nat} {j : CalJob} (h : d.cal.running.getD kind none = some j) :
    calAbort kind cause d = calAborted kind cause j.cmd.tag (some j.start) (complete (calOp kind) j.cmd 3 none [] (calClear kind d)) := by
  unfold calAbort
  simp only [h]

theorem calAborted_cal (kind cause : Nat) (tag : BitVec 32) (start : Option RP) (d : Device) : (calAborted kind cause tag start d).cal = d.cal :=
  raise_cal _ _ _

theorem complete_cal (op : Nat) (c : Cmd) (status : Nat) (effect : Option RP) (result : List Byte) (d : Device) :
    (complete op c status effect result d).cal = d.cal := cal_of_mask (ps := others .cal) (mask_complete rfl op c status effect result d) rfl

theorem calCancel_running_does {j : CalJob} (hlen : s.dev.cal.running.length = 3) (hks : (List.range 3).filter (hasBit (opB c 0)) = [k.val])
    (hrun : s.dev.cal.running.getD k.val none = some j) (hwait : s.dev.cal.waiting.getD k.val none = none) : Does (.calCancel c) s (fun e =>
      e.cal.running.getD k.val none = none ∧ ∃ x, Completed s.dev x (calOp k.val) j.cmd 3 none [] ∧
        Finished x e 0x73 c s.dev.clk.rp (leN 1 1)) := by
  have hcal : (calAbort k.val 1 s.dev).cal = (calClear k.val s.dev).cal := by
    rw [calAbort_some hrun, calAborted_cal, complete_cal]
  have hdrop : calDrop k.val 1 (calAbort k.val 1 s.dev) = calAbort k.val 1 s.dev :=
    calDrop_none (by rw [hcal, calClear_lists.2.1]; exact hwait) 1
  have hfx : calCancelFx c s.dev = finish 0x73 c s.dev.clk.rp (leN 1 1) (calAbort k.val 1 s.dev) := by
    unfold calCancelFx
    simp only [hks, List.foldl_cons, List.foldl_nil, hrun, hwait, hdrop]
    rfl
  refine act_does (f := calCancelFx c) rfl ?_
  rw [keepClk_cal, hfx, finish_cal, hcal]
  refine ⟨calClear_running (by omega), calAbort k.val 1 s.dev, ?_, ?_⟩
  · rw [Completed, calAbort_some hrun, calAborted, raise_comps, complete_comps]
    rfl
  · rw [Finished, Completed, keepClk_comps]
    exact finished_finish (e := calAbort k.val 1 s.dev) rfl _ _ _ _

theorem calCancel_none_does (hks : (List.range 3).filter (hasBit (opB c 0)) = [k.val]) (hrun : s.dev.cal.running.getD k.val none = none)
    (hwait : s.dev.cal.waiting.getD k.val none = none) : Does (.calCancel c) s (fun e =>
      e.cal = s.dev.cal ∧ Completed s.dev e 0x73 c 7 none []) := by
  have hfx : calCancelFx c s.dev = refuse 0x73 c 7 [] s.dev := by
    unfold calCancelFx
    simp only [hks, List.foldl_cons, List.foldl_nil, hrun, hwait]
    rfl
  refine act_does_of_clk (f := calCancelFx c) rfl (by rw [hfx, refuse_clk]) ?_
  rw [hfx]
  exact ⟨refuse_cal _ _ _ _ _, completed_refuse (e := s.dev) rfl _ _ _ _⟩

end

/-- Settles O53: a calibration starts or waits, and ends with what it committed, or cancelled. -/
theorem calibrations : Obligations.Calibrations := by
  refine fun s hr hw hm => ⟨fun c hrun hwait hsel hports => ⟨fun hnone => ?_, fun j hj => ?_⟩,
    fun c hrun => calLink_refused_does hrun,
    fun c b hnode hwidth ha hb hrun hout hgood hwait => ⟨fun hnone hfree => ?_, fun j hj => ?_⟩,
    fun c hrun hwait hsel => ⟨fun hnone => ?_, fun j hj => ?_⟩,
    fun k j hwait hnone hfree hrun => calStart_does hr hw hm hwait hnone hfree hrun,
    fun r j p q rest hrun => ⟨fun hports hp hup hlock hbit hwide hgood hok heyes _ =>
      calLinkPort_better_does hrun hports hp hup hlock hbit hwide hgood hok heyes, fun hports hlock => calLinkPort_last_does hr hrun hports hlock⟩,
    fun f j hrun => ⟨fun hfew => calColourEnd_few_does hr hrun hfew,
      fun rhos hrhos hmany hres hok hfit => calColourEnd_good_does hr hrun hrhos hmany hres hok hfit⟩,
    fun m j ch rest hrun hchans hch => ⟨fun hspare => calMeterHandover_take_does hrun hchans hspare,
      fun hspare hrest hv hi hok hlen => calMeterHandover_back_does hrun hchans hch hspare hrest hv hi hok hlen⟩,
    fun c j k hks => ⟨fun hrun hwait => calCancel_running_does hr hks hrun hwait, fun hrun hwait => calCancel_none_does hks hrun hwait⟩⟩
  · refine calPlace_starts (f := calLinkFx c) rfl (calLinkFx_good hrun hsel hports) (by omega) (by omega) (by omega) hrun hwait hnone rfl ?_
    rintro e rfl h1 h2 h3 hsame
    exact ⟨h1, rfl, h3, h2, hsame⟩
  · exact calPlace_waits (f := calLinkFx c) rfl (calLinkFx_good hrun hsel hports) (by omega) hwait hj
  · refine calPlace_starts (f := calColourFx c) rfl (calColourFx_good hnode hwidth ha hb hrun hout hgood) (by omega) (by omega) (by omega)
      hrun hwait hnone hfree ?_
    rintro e rfl h1 h2 h3 hsame
    exact ⟨h1, rfl, hsame⟩
  · exact calPlace_waits (f := calColourFx c) rfl (calColourFx_good hnode hwidth ha hb hrun hout hgood) (by omega) hwait hj
  · refine calPlace_starts (f := calMeterFx c) rfl (calMeterFx_good hrun hsel) (by omega) (by omega) (by omega) hrun hwait hnone rfl ?_
    rintro e rfl h1 h2 h3 hsame
    exact ⟨h1, rfl, hsame⟩
  · exact calPlace_waits (f := calMeterFx c) rfl (calMeterFx_good hrun hsel) (by omega) hwait hj

end Sys2Proof.Proofs
end

/-! ## Sys2Proof/Proofs/Streams: ST 2110 streams, their merge and losses, STREAM_SET and STREAM_QUERY (R182 to R190, R204, R205) -/

section

namespace Sys2Proof.Proofs

open Machine Laws

/-! ### Slots -/

section
variable {d : Device} {k j : Nat} {x : Slot}

theorem slotOf_of_get (h : d.gest.slots[k]? = some x) : slotOf d k = x := by
  rw [slotOf, List.getD_eq_getElem?_getD, h, Option.getD_some]

theorem slotOf_of_gest {e : Device} (h : e.gest = d.gest) (k : Nat) : slotOf e k = slotOf d k := by rw [slotOf, h, slotOf]

theorem slotOf_setSlot (hk : k < d.gest.slots.length) (f : Slot → Slot) : slotOf (setSlot k f d) k = f (slotOf d k) :=
  getD_modAt_same hk f _

theorem slotOf_setSlot_ne (h : j ≠ k) (f : Slot → Slot) : slotOf (setSlot k f d) j = slotOf d j := by
  have hne : k ≠ j := fun heq => h heq.symm
  simp [slotOf, setSlot, modAt, hne]

theorem slots_length_setSlot (k : Nat) (f : Slot → Slot) (d : Device) : (setSlot k f d).gest.slots.length = d.gest.slots.length :=
  List.length_modify ..

theorem setSlot_of_get (h : d.gest.slots[k]? = some x) (f : Slot → Slot) :
    setSlot k f d = { d with gest := { d.gest with slots := d.gest.slots.set k (f x) } } := by
  rw [setSlot, setGest, modAt_eq_set h]

theorem slotOf_setSlot_out (hk : ¬k < d.gest.slots.length) (f : Slot → Slot) : slotOf (setSlot k f d) k = slotOf d k := by
  have h1 : (modAt d.gest.slots k f).length ≤ k := by rw [modAt, List.length_modify]; omega
  rw [slotOf, setSlot, setGest, List.getD_eq_default _ _ h1, slotOf, List.getD_eq_default _ _ (by omega)]

end

/-! ### What a packet's pixels leave of the slots -/

/-- Two devices whose slots agree but for slot `k`, and there on how far its merge goes, on the paths that deliver, on whether
the stream is lost, and on its record. -/
structure SameStream (k : Nat) (d e : Device) : Prop where
  length : e.gest.slots.length = d.gest.slots.length
  others : ∀ j, j ≠ k → slotOf e j = slotOf d j
  here   : ((slotOf e k).merge.hi, (slotOf e k).deliver, (slotOf e k).lost, (slotOf e k).strm) =
    ((slotOf d k).merge.hi, (slotOf d k).deliver, (slotOf d k).lost, (slotOf d k).strm)

namespace SameStream

variable {k : Nat} {d e f : Device}

theorem of_gest (h : e.gest = d.gest) : SameStream k d e :=
  ⟨by rw [h], fun j _ => slotOf_of_gest h j, by rw [slotOf_of_gest h]⟩

theorem refl (k : Nat) (d : Device) : SameStream k d d := of_gest rfl

theorem trans (h : SameStream k d e) (h' : SameStream k e f) : SameStream k d f :=
  ⟨h'.length.trans h.length, fun j hj => (h'.others j hj).trans (h.others j hj), h'.here.trans h.here⟩

theorem ite {c : Prop} [Decidable c] (he : SameStream k d e) (hf : SameStream k d f) : SameStream k d (if c then e else f) := by
  split <;> assumption

theorem setSlot {g : Slot → Slot} (h : ∀ x : Slot, ((g x).merge.hi, (g x).deliver, (g x).lost, (g x).strm) = (x.merge.hi, x.deliver, x.lost, x.strm))
    (d : Device) : SameStream k d (setSlot k g d) := by
  refine ⟨slots_length_setSlot k g d, fun j hj => slotOf_setSlot_ne hj g, ?_⟩
  by_cases hk : k < d.gest.slots.length
  · rw [slotOf_setSlot hk, h]
  · rw [slotOf_setSlot_out hk]

end SameStream

section
variable {k : Nat} {d : Device}

theorem sameStream_releaseStep (k : Nat) (a : Assembly) (us : List (Run × Nat)) (blocked : List Nat) (d : Device) :
    SameStream k d (releaseStep k a us blocked d) := by
  induction us generalizing blocked d with
  | nil => exact .refl k d
  | cons u us ih =>
    obtain ⟨u, g⟩ := u
    rw [releaseStep]
    split
    · exact ih _ _
    · split
      · exact ih _ _
      next px _ =>
        have hend : SameStream k d (endRuns k a.content [(u, g)] d) := .setSlot (by intro x; rfl) d
        have hrun : SameStream k (endRuns k a.content [(u, g)] d)
            (releaseRun a.map k a.content u (slicePayload a.map a.record u px) g (endRuns k a.content [(u, g)] d)) :=
          .of_gest (gest_of_mask (ps := others .gest) (mask_releaseRun rfl _ _ _ _ _ _ _) rfl)
        exact (hend.trans hrun).trans (ih _ _)

theorem sameStream_release (k : Nat) (c : BitVec 32) (d : Device) : SameStream k d (release k c d) := by
  unfold release
  split
  · exact sameStream_releaseStep _ _ _ _ _
  · exact .refl k d

theorem sameStream_takeRows (k : Nat) (r : StreamRec) (c : BitVec 32) (stamp : Option (BitVec 32)) (rows : List Srd) (d : Device) :
    SameStream k d (takeRows k r c stamp rows d) := by
  unfold takeRows
  split
  · exact .refl k d
  · exact (SameStream.setSlot (by intro x; rfl) d).trans (sameStream_release _ _ _)

theorem sameStream_stampNote (k : Nat) (ts c : BitVec 32) (d : Device) : SameStream k d (stampNote k ts c d) := .setSlot (by intro x; rfl) d

theorem sameStream_keepSpan (k : Nat) (r : StreamRec) (x : Span) (d : Device) : SameStream k d (keepSpan k r false x d) :=
  .setSlot (by intro x; rfl) d

theorem sameStream_placePacket (k : Nat) (r : StreamRec) (p : RtpPacket) (c : BitVec 32) (d : Device) :
    SameStream k d (placePacket k r false p c d) := by
  refine (sameStream_stampNote k p.timestamp c d).trans ?_
  unfold placePacket
  generalize stampNote k p.timestamp c d = d
  extract_lets d0 s second d1 told d2 d3 cut
  refine .ite ?_ (.trans (sameStream_keepSpan k r _ d) (.ite ?_ (.ite ?_ (sameStream_takeRows _ _ _ _ _ _))))
  · have h2 : d2.gest = d.gest := by
      simp only [d2, when]
      split
      · exact raise_gest _ _ _
      · rfl
    exact (SameStream.of_gest h2).trans (.setSlot (by intro x; rfl) d2)
  · exact (SameStream.of_gest (d := d3) (e := d3.bump 0x2910 1) rfl).trans (.setSlot (by intro x; rfl) _)
  · exact (SameStream.of_gest (d := d3) (e := d3.bump 0x290C 1) rfl).trans (.setSlot (by intro x; rfl) _)

end

/-! ### The delivery of a path -/

/-- A slot whose path `p` delivers a packet (R187). -/
def delivered (p : Nat) (seq : BitVec 32) (s : Slot) : Slot :=
  let hi := match s.portHi.getD p none with | some h => if 0 < frameDiff seq h then seq else h | none => seq
  let ph := setAt s.portHi p (some hi)
  let skew := match ph.getD 0 none, ph.getD 1 none with | some a, some b => (frameDiff a b).natAbs | _, _ => 0
  { s with portHi := ph, deliver := setAt s.deliver p true, lostPath := setAt s.lostPath p false, lost := false
           skew := max s.skew (min 65535 skew) }

theorem pathDelivery_gest (k p : Nat) (seq : BitVec 32) (d : Device) : (pathDelivery k p seq d).gest = (setSlot k (delivered p seq) d).gest := by
  have hwhen : ∀ (b : Bool) (c : Nat) (q : List Byte) (e : Device), (when b (raise c q) e).gest = e.gest := fun b c q e => by
    cases b
    · rfl
    · exact raise_gest _ _ _
  unfold pathDelivery
  extract_lets s d0 d1 d2
  have h0 : d0.gest = d.gest := by
    simp only [d0]
    split
    · split <;> rfl
    · rfl
  have h2 : d2.gest = d.gest := (hwhen _ _ _ _).trans ((hwhen _ _ _ _).trans h0)
  change { d2.gest with slots := modAt d2.gest.slots k (delivered p seq) } = _
  rw [h2]
  rfl

theorem pathDelivery_regs (k p : Nat) (seq : BitVec 32) (d : Device) : (pathDelivery k p seq d).regs = d.regs :=
  regs_of_mask (ps := others .regs) (mask_pathDelivery rfl k p seq d) rfl

theorem delivered_merge (p : Nat) (seq : BitVec 32) (s : Slot) : (delivered p seq s).merge = s.merge ∧ (delivered p seq s).asm = s.asm ∧
    (delivered p seq s).strm = s.strm := ⟨rfl, rfl, rfl⟩

/-! ### ST2110_PACKET -/

theorem ingestIn_clk (x : IngRx) (d : Device) : (ingestIn x d).2.clk = d.clk := clk_of_mask (ps := others .clk) (mask_ingestIn rfl x d) rfl

/-- A frame that ingest takes is worked on the device its reception left. -/
theorem fromIngest_taken {x : IngRx} {d : Device} (h : (ingestIn x d).1 = true) (f : Device → Device) : fromIngest x f d = f (ingestIn x d).2 := by
  rw [fromIngest]
  exact if_pos h

/-- The packets of R181 at a head that takes them. -/
theorem ingest_act_does {x : IngRx} {i : Instr} {s : State} {f : Device → Device} {q : Device → Prop}
    (hi : exec i s = act (fun d => when (ingestOn d) (fromIngest x f) d) s) (hon : ingestOn s.dev = true) (hin : (ingestIn x s.dev).1 = true)
    (hclk : (f (ingestIn x s.dev).2).clk = (ingestIn x s.dev).2.clk) (hq : q (f (ingestIn x s.dev).2)) : Does i s q := by
  have hfx : when (ingestOn s.dev) (fromIngest x f) s.dev = f (ingestIn x s.dev).2 := by
    rw [hon, when_true, fromIngest_taken hin]
  exact act_does_of_clk hi (by rw [hfx, hclk, ingestIn_clk]) (by rw [hfx]; exact hq)

section
variable {d : Device} {p : RtpPacket} {k : Nat} {b : Belongs}

/-- What a packet is worth in the slots that it belongs to. -/
def packetFx (p : RtpPacket) (d : Device) : Device :=
  let hits := (List.range 16).filterMap (fun k => (packetRec d (slotOf d k) p).map (fun x => (k, x)))
  if hits.isEmpty then d.bump 0x2900 1 else hits.foldl (fun d x => slotPacket x.1 x.2 p d) d

theorem packetFx_one (h : (List.range 16).filterMap (fun k => (packetRec d (slotOf d k) p).map (fun x => (k, x))) = [(k, b)]) :
    packetFx p d = slotPacket k b p d := by
  rw [packetFx, h]
  rfl

theorem packetFx_none (h : ∀ k, k < 16 → packetRec d (slotOf d k) p = none) : packetFx p d = d.bump 0x2900 1 := by
  have hnil : (List.range 16).filterMap (fun k => (packetRec d (slotOf d k) p).map (fun x => (k, x))) = [] :=
    List.filterMap_eq_nil_iff.mpr fun k hk => by rw [h k (List.mem_range.mp hk)]; rfl
  rw [packetFx, hnil]
  rfl

theorem hit_lt (h : (List.range 16).filterMap (fun k => (packetRec d (slotOf d k) p).map (fun x => (k, x))) = [(k, b)]) : k < 16 := by
  have hmem : (k, b) ∈ (List.range 16).filterMap (fun k => (packetRec d (slotOf d k) p).map (fun x => (k, x))) := by
    rw [h]
    exact List.mem_singleton.mpr rfl
  obtain ⟨i, hi, hx⟩ := List.mem_filterMap.mp hmem
  obtain ⟨y, _, hy⟩ := Option.map_eq_some_iff.mp hx
  rw [← (Prod.mk.inj hy).1]
  exact List.mem_range.mp hi

theorem slotPacket_bad (h : packetGood d p b.strm = false) : slotPacket k b p d = d.bump 0x2904 1 := if_pos (by simp [h])

/-- The device once the path's delivery is noted. -/
def deliveredBy (k : Nat) (p : RtpPacket) (d : Device) : Device := pathDelivery k p.rx.port.val p.seq d

theorem slotOf_delivered (hk : k < d.gest.slots.length) : slotOf (deliveredBy k p d) k = delivered p.rx.port.val p.seq (slotOf d k) := by
  rw [deliveredBy, slotOf_of_gest (pathDelivery_gest k _ _ d), slotOf_setSlot hk]

theorem slotPacket_good (hgood : packetGood d p b.strm = true) (hnew : b.old = false) (hk : k < d.gest.slots.length) :
    slotPacket k b p d = match mergeOf (slotOf d k).merge b.strm p.seq with
      | .tooOld => setSlot k (fun s => { s with offTime := up16 s.offTime 1 }) ((deliveredBy k p d).bump 0x290C 1)
      | .duplicate => (deliveredBy k p d).bump 0x2908 1
      | .use => advanceHi k b.strm false p.seq (when b.cuts (placePacket k b.strm false p
          (contentOf (deliveredBy k p d) (slotOf (deliveredBy k p d) k) b.strm p)) (deliveredBy k p d)) := by
  have hmerge : (slotOf (deliveredBy k p d) k).merge = (slotOf d k).merge := by rw [slotOf_delivered hk, (delivered_merge _ _ _).1]
  have hslot : slotMerge (slotOf (deliveredBy k p d) k) false = (slotOf d k).merge := hmerge
  rw [slotPacket, if_neg (by simp [hgood])]
  have hdb : pathDelivery k p.rx.port.val p.seq d = deliveredBy k p d := rfl
  simp only [hdb, hnew, hslot] <;> rfl

theorem advanceHi_first {r : StreamRec} {seq : BitVec 32} (h : (slotOf d k).merge.hi = none) : advanceHi k r false seq d =
    setMerge k false (fun m => { m with hi := some seq, first := some seq, used := [seq] }) d := by
  have hm : (slotMerge (slotOf d k) false).hi = none := h
  unfold advanceHi
  simp only [hm]

/-- The first packet of a stream used: its merge stands at its number, and its path delivers (R186, R187). -/
theorem slotPacket_first (hgood : packetGood d p b.strm = true) (hnew : b.old = false) (hk : k < d.gest.slots.length)
    (hhi : (slotOf d k).merge.hi = none) (hdel : (slotOf d k).deliver.length = 2) :
    (slotOf (slotPacket k b p d) k).merge.hi = some p.seq ∧ (slotOf (slotPacket k b p d) k).merge.first = some p.seq ∧
    (slotOf (slotPacket k b p d) k).merge.used = [p.seq] ∧ (slotOf (slotPacket k b p d) k).deliver.getD p.rx.port.val false = true ∧
    (slotOf (slotPacket k b p d) k).lost = false ∧ (slotOf (slotPacket k b p d) k).strm = (slotOf d k).strm ∧
    ∀ j, j ≠ k → (slotOf (slotPacket k b p d) j).merge = (slotOf d j).merge := by
  have huse : mergeOf (slotOf d k).merge b.strm p.seq = .use := by
    unfold mergeOf
    rw [hhi]
  have hfx := slotPacket_good hgood hnew hk
  rw [huse] at hfx
  have hsame : SameStream k (deliveredBy k p d) (when b.cuts (placePacket k b.strm false p
      (contentOf (deliveredBy k p d) (slotOf (deliveredBy k p d) k) b.strm p)) (deliveredBy k p d)) := by
    unfold when
    exact .ite (sameStream_placePacket _ _ _ _ _) (.refl _ _)
  generalize when b.cuts (placePacket k b.strm false p
    (contentOf (deliveredBy k p d) (slotOf (deliveredBy k p d) k) b.strm p)) (deliveredBy k p d) = e at hfx hsame
  have hlen : k < (deliveredBy k p d).gest.slots.length := by
    rw [deliveredBy, pathDelivery_gest, slots_length_setSlot]
    exact hk
  obtain ⟨hlength, hothers, hhere⟩ := hsame
  simp only [slotOf_delivered hk, Prod.mk.injEq] at hhere
  obtain ⟨hehi, hedel, helost, hestrm⟩ := hhere
  rw [advanceHi_first (hehi.trans hhi)] at hfx
  have hslot : slotOf (slotPacket k b p d) k =
      { slotOf e k with merge := { (slotOf e k).merge with hi := some p.seq, first := some p.seq, used := [p.seq] } } := by
    rw [hfx, setMerge, slotOf_setSlot (by rw [hlength]; exact hlen)]
    rfl
  refine ⟨by rw [hslot], by rw [hslot], by rw [hslot], ?_, ?_, ?_, fun j hj => ?_⟩
  · rw [hslot, hedel]
    exact getD_setAt_same (by rw [hdel]; exact p.rx.port.isLt) _ _
  · rw [hslot, helost]
    rfl
  · rw [hslot, hestrm]
    rfl
  · rw [hfx, setMerge, slotOf_setSlot_ne hj, hothers j hj, deliveredBy, slotOf_of_gest (pathDelivery_gest _ _ _ _), slotOf_setSlot_ne hj]

theorem slotPacket_tooOld {h : BitVec 32} (hgood : packetGood d p b.strm = true) (hnew : b.old = false) (hk : k < d.gest.slots.length)
    (hhi : (slotOf d k).merge.hi = some h) (hfar : frameDiff p.seq h ≤ -(b.strm.window : Int)) :
    (slotPacket k b p d).word 0x290C = satAdd 0xFFFFFFFF (d.word 0x290C) 1 ∧
    (slotOf (slotPacket k b p d) k).merge = (slotOf d k).merge ∧ (slotOf (slotPacket k b p d) k).asm = (slotOf d k).asm := by
  have hold : mergeOf (slotOf d k).merge b.strm p.seq = .tooOld := by
    unfold mergeOf
    rw [hhi]
    exact if_pos hfar
  have hfx := slotPacket_good hgood hnew hk
  rw [hold] at hfx
  have hlen : k < ((deliveredBy k p d).bump 0x290C 1).gest.slots.length := by
    rw [bump_gest, deliveredBy, pathDelivery_gest, slots_length_setSlot]
    exact hk
  have hslot : slotOf (slotPacket k b p d) k =
      { delivered p.rx.port.val p.seq (slotOf d k) with offTime := up16 (delivered p.rx.port.val p.seq (slotOf d k)).offTime 1 } := by
    rw [hfx]
    dsimp only
    rw [slotOf_setSlot hlen, slotOf_of_gest (bump_gest _ _ _), slotOf_delivered hk]
  refine ⟨?_, by rw [hslot]; rfl, by rw [hslot]; rfl⟩
  rw [hfx]
  change ((deliveredBy k p d).bump 0x290C 1).word 0x290C = _
  rw [word_bump, deliveredBy, word_of_regs (pathDelivery_regs k _ _ d)]

theorem slotPacket_duplicate {h : BitVec 32} (hgood : packetGood d p b.strm = true) (hnew : b.old = false) (hk : k < d.gest.slots.length)
    (hhi : (slotOf d k).merge.hi = some h) (hnear : -(b.strm.window : Int) < frameDiff p.seq h)
    (hused : (slotOf d k).merge.used.contains p.seq = true) :
    (slotPacket k b p d).word 0x2908 = satAdd 0xFFFFFFFF (d.word 0x2908) 1 ∧
    (slotOf (slotPacket k b p d) k).merge = (slotOf d k).merge ∧ (slotOf (slotPacket k b p d) k).asm = (slotOf d k).asm := by
  have hdup : mergeOf (slotOf d k).merge b.strm p.seq = .duplicate := by
    unfold mergeOf
    rw [hhi]
    dsimp only
    rw [if_neg (by omega), if_pos hused]
  have hfx := slotPacket_good hgood hnew hk
  rw [hdup] at hfx
  have hslot : slotOf (slotPacket k b p d) k = delivered p.rx.port.val p.seq (slotOf d k) := by
    rw [hfx]
    dsimp only
    rw [slotOf_of_gest (bump_gest _ _ _), slotOf_delivered hk]
  refine ⟨?_, by rw [hslot]; rfl, by rw [hslot]; rfl⟩
  rw [hfx]
  change ((deliveredBy k p d).bump 0x2908 1).word 0x2908 = _
  rw [word_bump, deliveredBy, word_of_regs (pathDelivery_regs k _ _ d)]

end

section
variable {s : State} {p : RtpPacket} {d : Device}

theorem slotPacket_clk (k : Nat) (b : Belongs) (p : RtpPacket) (d : Device) : (slotPacket k b p d).clk = d.clk :=
  clk_of_mask (ps := others .clk) (mask_slotPacket rfl k b p d) rfl

theorem st2110_hit_does {k : Nat} {b : Belongs} {q : Device → Prop} (hon : ingestOn s.dev = true) (hin : (ingestIn p.rx s.dev).1 = true)
    (hd : d = (ingestIn p.rx s.dev).2)
    (hhit : (List.range 16).filterMap (fun k => (packetRec d (slotOf d k) p).map (fun x => (k, x))) = [(k, b)])
    (hq : q (slotPacket k b p d)) : Does (.st2110Packet p) s q := by
  have hfx := packetFx_one hhit
  refine ingest_act_does (f := packetFx p) rfl hon hin ?_ ?_
  · rw [← hd, hfx, slotPacket_clk]
  · rwa [← hd, hfx]

theorem st2110_none_does (hon : ingestOn s.dev = true) (hin : (ingestIn p.rx s.dev).1 = true) (hd : d = (ingestIn p.rx s.dev).2)
    (h : ∀ k, k < 16 → packetRec d (slotOf d k) p = none) : Does (.st2110Packet p) s (fun e => e = d.bump 0x2900 1) := by
  have hfx := packetFx_none h
  refine ingest_act_does (f := packetFx p) rfl hon hin ?_ ?_
  · rw [← hd, hfx, bump_clk]
  · rw [← hd, hfx]

end

/-! ### Losses -/

section
variable {f : Device → Device} {y : Ingest} {s : State} {i : Instr}

/-- A command that changes the ingest state and reports it. -/
theorem setGest_raise_does {code : Nat} {payload : List Byte} (hi : exec i s = act f s)
    (hf : f s.dev = raise code payload { s.dev with gest := y }) : Does i s (fun e => e.gest = y ∧
      Noticed s.dev e code payload ∧ SameBut (.gest :: reporting) s.dev e) := by
  refine act_does_of_clk hi (by rw [hf, raise_clk]) ?_
  rw [hf]
  exact ⟨by rw [raise_gest], noticed_raise (d := s.dev) (by rfl) _ _, sameBut_of_mask (by rw [mask_raise rfl]; rfl)⟩

end

section
variable {s : State} {i : Fin 16} {p : Fin 2} {r : StreamRec} {x : Slot}

theorem streamPathLost_does (hx : s.dev.gest.slots[i.val]? = some x) (hstrm : x.strm = some r) (hon : ingestOn s.dev = true) (hkind : r.kind ≠ 2)
    (hpaths : r.paths = 3) (hother : x.deliver.getD (1 - p.val) false = true) (hlost : x.lostPath.getD p.val false = false) :
    Does (.streamPathLost i p) s (fun e =>
      e.gest = { s.dev.gest with slots := s.dev.gest.slots.set i.val { x with deliver := setAt x.deliver p.val false, lostPath := setAt x.lostPath p.val true } } ∧
      Noticed s.dev e 0x2003 (leN 1 i.val ++ leN 1 (p.val + 8)) ∧ SameBut (.gest :: reporting) s.dev e) := by
  refine setGest_raise_does (f := pathLostFx i.val p.val) rfl ?_
  unfold pathLostFx
  simp only [slotOf_of_get hx, hstrm, hon, hpaths, hother, hlost, setSlot_of_get hx]
  exact if_pos (by simp [hkind])

theorem streamLost_does (hx : s.dev.gest.slots[i.val]? = some x) (hstrm : x.strm = some r) (hon : ingestOn s.dev = true) (hkind : r.kind ≠ 2)
    (hlost : x.lost = false) : Does (.streamLost i) s (fun e =>
      e.gest = { s.dev.gest with slots := s.dev.gest.slots.set i.val { x with lost := true, deliver := [false, false] } } ∧
      Noticed s.dev e 0x2001 (leN 1 i.val) ∧ SameBut (.gest :: reporting) s.dev e) := by
  refine setGest_raise_does (f := streamLostFx i.val) rfl ?_
  unfold streamLostFx
  simp only [slotOf_of_get hx, hstrm, hon, hlost, setSlot_of_get hx]
  exact if_pos (by simp [hkind])

end

/-! ### STREAM_SET and STREAM_QUERY -/

section
variable {s : State} {c : Cmd} {d : Device}

/-- A slot as its record is put there (R184). -/
def streamPut (r : Option StreamRec) (f : BitVec 32) (s : Slot) : Slot :=
  { s with
    strm := r, hist := ((f, r) :: s.hist.filter (fun h => h.1 != f)).take 32, merge := {}, before := s.merge,
    portHi := [none, none], deliver := [false, false], lostPath := [false, false], lost := false }

/-- STREAM_SET carried out: the record put, and the groups and the slices brought up to date. -/
def streamDone (c : Cmd) (r : Option StreamRec) (d : Device) : Device :=
  finish 0x20 c (boundaryRp d) [] (updateGroups (retryDeferred (putStream (opB c 8) r d.clk.rp.frame d)))

theorem streamDone_gest (r : Option StreamRec) : (streamDone c r d).gest = (setSlot (opB c 8) (streamPut r d.clk.rp.frame) d).gest := by
  rw [streamDone, finish_gest, gest_of_mask (ps := others .gest) (mask_updateGroups rfl _) rfl,
    gest_of_mask (ps := others .gest) (mask_retryDeferred rfl _) rfl]
  rfl

theorem streamDone_finished (r : Option StreamRec) : Finished d (streamDone c r d) 0x20 c (boundaryRp d) [] := by
  have hput : (putStream (opB c 8) r d.clk.rp.frame d).comps = d.comps := comps_of_mask (ps := others .comps) (mask_putStream rfl _ _ _ _) rfl
  have h : (updateGroups (retryDeferred (putStream (opB c 8) r d.clk.rp.frame d))).comps = d.comps := by
    rw [comps_of_mask (ps := others .comps) (mask_updateGroups rfl _) rfl, comps_of_mask (ps := others .comps) (mask_retryDeferred rfl _) rfl, hput]
  exact finished_finish h _ _ _ _

theorem streamDone_slot (hslot : opB c 8 ≤ 15) (hlen : d.gest.slots.length = 16) (r : Option StreamRec) :
    slotOf (streamDone c r d) (opB c 8) = streamPut r d.clk.rp.frame (slotOf d (opB c 8)) := by
  rw [slotOf_of_gest (streamDone_gest r), slotOf_setSlot (by omega)]

theorem streamSetFx_checked (hhead : d.isHead = true) (ha : misaligned c = false) (hslot : opB c 8 ≤ 15) : streamSetFx c d =
    if !(hasBit (opB c 9) 0) then streamDone c none d
    else match c.host with
      | .data b => (match streamReason d (opB c 8) (readStream b) with
        | some n => refuse 0x20 c 4 (leN 1 n) d
        | none => streamDone c (some (readStream b)) d)
      | _ => refuse 0x20 c 0x0A [] d := by
  rw [streamSetFx, if_neg (by simp [hhead]), if_neg (by simp [ha]; omega)]
  rfl

theorem streamSet_off_does (hhead : s.dev.isHead = true) (ha : misaligned c = false) (hslot : opB c 8 ≤ 15)
    (hlen : s.dev.gest.slots.length = 16) (hoff : hasBit (opB c 9) 0 = false) : Does (.streamSet c) s (fun e =>
      (slotOf e (opB c 8)).strm = none ∧ (slotOf e (opB c 8)).merge = {} ∧ Finished s.dev e 0x20 c (boundaryRp s.dev) []) := by
  have hfx := streamSetFx_checked (d := s.dev) hhead ha hslot
  rw [if_pos (by simp [hoff])] at hfx
  refine act_does (f := streamSetFx c) rfl ?_
  rw [slotOf_of_gest (keepClk_gest _ _), hfx, streamDone_slot hslot hlen]
  exact ⟨rfl, rfl, streamDone_finished none⟩

theorem streamSet_good_does {b : List Byte} (hhead : s.dev.isHead = true) (ha : misaligned c = false) (hslot : opB c 8 ≤ 15)
    (hlen : s.dev.gest.slots.length = 16) (hon : hasBit (opB c 9) 0 = true) (hb : c.host = .data b)
    (hgood : streamReason s.dev (opB c 8) (readStream b) = none) : Does (.streamSet c) s (fun e =>
      (slotOf e (opB c 8)).strm = some (readStream b) ∧ (slotOf e (opB c 8)).merge = {} ∧
      (slotOf e (opB c 8)).before = (slotOf s.dev (opB c 8)).merge ∧ Finished s.dev e 0x20 c (boundaryRp s.dev) [] ∧
      ∀ j, j ≠ opB c 8 → slotOf e j = slotOf s.dev j) := by
  have hfx := streamSetFx_checked (d := s.dev) hhead ha hslot
  rw [if_neg (by simp [hon])] at hfx
  simp only [hb, hgood] at hfx
  refine act_does (f := streamSetFx c) rfl ?_
  rw [slotOf_of_gest (keepClk_gest _ _), hfx, streamDone_slot hslot hlen]
  exact ⟨rfl, rfl, rfl, streamDone_finished _, fun j hj => by
    rw [slotOf_of_gest (keepClk_gest _ _), slotOf_of_gest (streamDone_gest _), slotOf_setSlot_ne hj]⟩

theorem streamSet_bad_does {b : List Byte} {n : Nat} (hhead : s.dev.isHead = true) (ha : misaligned c = false) (hslot : opB c 8 ≤ 15)
    (hon : hasBit (opB c 9) 0 = true) (hb : c.host = .data b) (hbad : streamReason s.dev (opB c 8) (readStream b) = some n) :
    Does (.streamSet c) s (fun e => Completed s.dev e 0x20 c 4 none (leN 1 n) ∧ e.gest = s.dev.gest) := by
  have hfx := streamSetFx_checked (d := s.dev) hhead ha hslot
  rw [if_neg (by simp [hon])] at hfx
  simp only [hb, hbad] at hfx
  refine act_does_of_clk (f := streamSetFx c) rfl (by rw [hfx, refuse_clk]) ?_
  rw [hfx]
  exact ⟨completed_refuse (e := s.dev) rfl _ _ _ _, refuse_gest _ _ _ _ _⟩

theorem streamQuery_does {x : Slot} (hhead : s.dev.isHead = true) (hslot : opB c 0 ≤ 15) (hx : s.dev.gest.slots[opB c 0]? = some x) :
    Does (.streamQuery c) s (fun e => Finished s.dev e 0x21 c s.dev.clk.rp
        (leN 1 (bit x.strm.isSome + 2 * bit (x.deliver.getD 0 false) + 4 * bit (x.deliver.getD 1 false)) ++ zeros 1 ++
          leN 2 x.lostCount ++ leN 4 x.lastC.toNat ++ leN 2 x.abandoned ++ leN 2 x.offTime ++ leN 2 x.collisions ++ leN 2 x.skew) ∧
      e.gest = { s.dev.gest with slots := s.dev.gest.slots.set (opB c 0) { x with lostCount := 0, abandoned := 0, offTime := 0, collisions := 0, skew := 0 } } ∧
      SameBut (.gest :: .comps :: reporting) s.dev e) := by
  have hfx : streamQueryFx c s.dev = finish 0x21 c s.dev.clk.rp
      (leN 1 (bit x.strm.isSome + 2 * bit (x.deliver.getD 0 false) + 4 * bit (x.deliver.getD 1 false)) ++ zeros 1 ++
        leN 2 x.lostCount ++ leN 4 x.lastC.toNat ++ leN 2 x.abandoned ++ leN 2 x.offTime ++ leN 2 x.collisions ++ leN 2 x.skew)
      { s.dev with gest := { s.dev.gest with slots := s.dev.gest.slots.set (opB c 0) { x with lostCount := 0, abandoned := 0, offTime := 0, collisions := 0, skew := 0 } } } := by
    rw [streamQueryFx, if_neg (by simp [hhead]), if_neg (by omega), setSlot_of_get hx, slotOf_of_get hx]
  refine act_does_of_clk (f := streamQueryFx c) rfl (by rw [hfx, finish_clk]) ?_
  rw [hfx]
  exact ⟨finished_finish (d := s.dev) (by rfl) _ _ _ _, finish_gest _ _ _ _ _, sameBut_of_mask (by rw [mask_finish rfl]; rfl)⟩

end

/-- Settles O40: a packet moves the merge of the slot it belongs to; losses and the commands change their slot alone. -/
theorem streamsReceived : Obligations.StreamsReceived := by
  refine ⟨fun p s d hon hin hd hlen => ⟨fun k b hhit => ?_, fun h => st2110_none_does hon hin hd h⟩,
    fun i p s r x hx hstrm hon hkind => ⟨fun hpaths hother hlost => streamPathLost_does hx hstrm hon hkind hpaths hother hlost,
      fun hlost => streamLost_does hx hstrm hon hkind hlost⟩,
    fun c s hhead ha hslot hlen => ⟨fun hoff => streamSet_off_does hhead ha hslot hlen hoff,
      fun b hon hb => ⟨fun hgood => streamSet_good_does hhead ha hslot hlen hon hb hgood, fun n hbad => streamSet_bad_does hhead ha hslot hon hb hbad⟩⟩,
    fun c s x hhead hslot hx => streamQuery_does hhead hslot hx⟩
  have hk : k < d.gest.slots.length := by rw [hlen]; exact hit_lt hhit
  exact ⟨fun hbad => st2110_hit_does hon hin hd hhit (slotPacket_bad hbad), fun hgood hnew =>
    ⟨fun hhi hdel => st2110_hit_does hon hin hd hhit (slotPacket_first hgood hnew hk hhi hdel),
      fun h hhi hfar => st2110_hit_does hon hin hd hhit (slotPacket_tooOld hgood hnew hk hhi hfar),
      fun h hhi hnear hused => st2110_hit_does hon hin hd hhit (slotPacket_duplicate hgood hnew hk hhi hnear hused)⟩⟩

end Sys2Proof.Proofs
end

/-! ## Sys2Proof/Proofs/Queues: what the port queues and counters are after packets written, rewound and sampled (R221 to R226, R233) -/

section

namespace Sys2Proof.Proofs

open Machine Laws

/-! ### One queue -/

namespace QueueFacts

variable {q : PortQueue} {ws : List FtqWord}

theorem hold_words (q : PortQueue) (ws : List FtqWord) : (q.hold ws).words = ws := List.take_append_drop _ _

theorem used_eq (q : PortQueue) : q.used = q.words.length := List.length_append.symm

theorem hold_used (q : PortQueue) (ws : List FtqWord) : (q.hold ws).used = ws.length := by rw [used_eq, hold_words]

theorem drain_gap (q : PortQueue) (n : Nat) : (q.drain n).gap = q.gap := rfl

theorem drain_used (q : PortQueue) (n : Nat) : (q.drain n).used ≤ q.used := by
  rw [PortQueue.drain, hold_used, List.length_drop, used_eq]
  exact Nat.sub_le _ _

theorem packetWords_length (bs : List Byte) (bad : List Nat) : (packetWords bs bad).length = ftqCount bs.length := by
  simp [packetWords]

theorem ftqCount_mono {a b : Nat} (h : a ≤ b) : ftqCount a ≤ ftqCount b := by
  simp only [ftqCount, ceilDiv]
  omega

/-- A queue but for its watermark. -/
def bare (q : PortQueue) : PortQueue := { q with high := {} }

theorem bare_get {α : Type} (g : PortQueue → α) (hg : ∀ x, g (bare x) = g x) {a b : PortQueue} (h : bare a = bare b) : g a = g b := by
  rw [← hg a, h, hg]

end QueueFacts

open QueueFacts

/-! ### All ports but for their watermarks -/

/-- A link port but for its waiting frames and its queue's watermark. -/
def linkBare (l : LinkPort) : LinkPort := { portCore l with queue := bare l.queue }

/-- An ingest port but for its queue's watermark. -/
def ingBare (l : IngPort) : IngPort := { l with queue := bare l.queue }

/-- A link port but for its waiting frames and its queue. -/
def linkRest (l : LinkPort) : LinkPort := { portCore l with queue := {} }

/-- An ingest port but for its queue. -/
def ingRest (l : IngPort) : IngPort := { l with queue := {} }

/-- Two devices whose ports agree under these views. -/
def Alike {α β : Type} (g : LinkPort → α) (h : IngPort → β) (d e : Device) : Prop :=
  e.link.map g = d.link.map g ∧ e.ing.map h = d.ing.map h

namespace Alike

variable {α β : Type} {g : LinkPort → α} {h : IngPort → β} {d e f : Device}

theorem refl (d : Device) : Alike g h d d := ⟨rfl, rfl⟩

theorem trans (hde : Alike g h d e) (hef : Alike g h e f) : Alike g h d f := ⟨hef.1.trans hde.1, hef.2.trans hde.2⟩

theorem ite {c : Prop} [Decidable c] (he : Alike g h d e) (hf : Alike g h d f) : Alike g h d (if c then e else f) := by
  split <;> assumption

theorem lengths (hde : Alike g h d e) : e.link.length = d.link.length ∧ e.ing.length = d.ing.length := by
  obtain ⟨hl, hi⟩ := hde
  exact ⟨by simpa using congrArg List.length hl, by simpa using congrArg List.length hi⟩

theorem port (hde : Alike g h d e) (p : Nat) : g (e.port p) = g (d.port p) := by
  have hget : ∀ l : List LinkPort, g (l.getD p {}) = (l.map g).getD p (g {}) := fun l => by
    simp only [List.getD_eq_getElem?_getD, List.getElem?_map]
    cases l[p]? <;> rfl
  rw [Device.port, hget, hde.1, ← hget]
  rfl

theorem ingPort (hde : Alike g h d e) (p : Nat) : h (e.ingPort p) = h (d.ingPort p) := by
  have hget : ∀ l : List IngPort, h (l.getD p {}) = (l.map h).getD p (h {}) := fun l => by
    simp only [List.getD_eq_getElem?_getD, List.getElem?_map]
    cases l[p]? <;> rfl
  rw [Device.ingPort, hget, hde.2, ← hget]
  rfl

theorem of_parts (hl : e.link = d.link) (hi : e.ing = d.ing) : Alike g h d e := ⟨by rw [hl], by rw [hi]⟩

theorem setPort {k : LinkPort → LinkPort} (hk : ∀ x, g (k x) = g x) (d : Device) (p : Nat) : Alike g h d (d.setPort p k) :=
  ⟨map_modAt g k hk d.link p, rfl⟩

theorem setIng {k : IngPort → IngPort} (hk : ∀ x, h (k x) = h x) (d : Device) (p : Nat) : Alike g h d (setIng p k d) :=
  ⟨rfl, map_modAt h k hk d.ing p⟩

end Alike

/-- Ports that agree but for waiting frames and watermarks. -/
def SameQueues (d e : Device) : Prop := Alike linkBare ingBare d e

/-- Ports that agree but for waiting frames and queues. -/
def SameRest (d e : Device) : Prop := Alike linkRest ingRest d e

theorem alike_through {α β γ δ : Type} {g : LinkPort → α} {h : IngPort → β} {g' : LinkPort → γ} {h' : IngPort → δ} {d e : Device}
    (u : α → γ) (v : β → δ) (hu : ∀ x, u (g x) = g' x) (hv : ∀ x, v (h x) = h' x) (hde : Alike g h d e) : Alike g' h' d e := by
  have hg : g' = u ∘ g := funext fun x => (hu x).symm
  have hh : h' = v ∘ h := funext fun x => (hv x).symm
  refine ⟨?_, ?_⟩
  · rw [hg, ← List.map_map, ← List.map_map, hde.1]
  · rw [hh, ← List.map_map, ← List.map_map, hde.2]

theorem SameQueues.rest {d e : Device} (h : SameQueues d e) : SameRest d e :=
  alike_through linkRest ingRest (by intro x; rfl) (by intro x; rfl) h

theorem sameQueues_of_ports {d e : Device} (h : SamePorts d e) (hi : e.ing = d.ing) : SameQueues d e :=
  alike_through (g := portCore) (h := id) linkBare ingBare (by intro x; rfl) (by intro x; rfl) ⟨h, by rw [hi]⟩

theorem SameQueues.queue {d e : Device} (h : SameQueues d e) (p : Nat) : bare (queueOf e p) = bare (queueOf d p) := by
  unfold queueOf
  split
  · exact congrArg LinkPort.queue (h.port p)
  · exact congrArg IngPort.queue (h.ingPort (p - 8))

section
variable {d e : Device} (h : SameQueues d e) (p : Nat)
include h

theorem SameQueues.words : (queueOf e p).words = (queueOf d p).words := bare_get PortQueue.words (by intro x; rfl) (h.queue p)

theorem SameQueues.gap : (queueOf e p).gap = (queueOf d p).gap := bare_get PortQueue.gap (by intro x; rfl) (h.queue p)

theorem SameQueues.used : (queueOf e p).used = (queueOf d p).used := by rw [used_eq, used_eq, h.words]

end

theorem SameRest.linkStat {d e : Device} (h : SameRest d e) (p : Nat) : (e.port p).stat = (d.port p).stat :=
  (congrArg LinkPort.stat (h.port p) :)

theorem SameRest.ingStat {d e : Device} (h : SameRest d e) (p : Nat) : (e.ingPort p).stat = (d.ingPort p).stat :=
  (congrArg IngPort.stat (h.ingPort p) :)

/-! ### Samples -/

theorem sameQueues_wmPut (d : Device) (i : Nat) (w : Watermark) : SameQueues d (wmPut d i w) := by
  unfold wmPut
  refine .ite (.refl d) (.ite (.setPort (by intro x; rfl) d _) (.ite ?_ (.ite (.refl d) (.ite (.refl d) (.refl d)))))
  exact .setIng (k := fun l => { l with queue := { l.queue with high := w } }) (by intro x; rfl) d (i - 9)

theorem sameQueues_raise (code : Nat) (payload : List Byte) (d : Device) : SameQueues d (raise code payload d) :=
  sameQueues_of_ports (samePorts_raise code payload d) (raise_ing code payload d)

theorem sameQueues_sample (i level : Nat) (d : Device) : SameQueues d (sample i level d) := by
  unfold sample
  extract_lets w w1 crossing w2
  exact .ite (.trans (sameQueues_raise _ _ d) (sameQueues_wmPut _ _ _)) (.ite (sameQueues_wmPut _ _ _) (sameQueues_wmPut _ _ _))

theorem sameQueues_queueSample (p level : Nat) (d : Device) : SameQueues d (queueSample p level d) := sameQueues_sample _ _ d

/-! ### A queue changed -/

/-- Whether the device has a port of this number. -/
def HasPort (d : Device) (p : Nat) : Prop := if p < 8 then p < d.link.length else p - 8 < d.ing.length

section
variable {d e : Device} {p : Nat}

theorem HasPort.alike {α β : Type} {g : LinkPort → α} {k : IngPort → β} (h : HasPort d p) (hde : Alike g k d e) : HasPort e p := by
  obtain ⟨hl, hi⟩ := hde.lengths
  rw [HasPort, hl, hi]
  exact h

theorem queueOf_setQueue (h : HasPort d p) (f : PortQueue → PortQueue) : queueOf (setQueue p f d) p = f (queueOf d p) := by
  unfold HasPort at h
  unfold queueOf setQueue
  split
  next hp =>
    rw [if_pos hp] at h
    rw [port_setPort_same h]
  next hp =>
    rw [if_neg hp] at h
    rw [Device.ingPort, setIng, getD_modAt_same h, Device.ingPort]

theorem sameRest_setQueue (p : Nat) (f : PortQueue → PortQueue) (d : Device) : SameRest d (setQueue p f d) := by
  unfold setQueue
  exact .ite (.setPort (by intro x; rfl) d p) (.setIng (by intro x; rfl) d _)

theorem sameRest_markerWrite (p : Nat) (d : Device) : SameRest d (markerWriteFx p d) := by
  unfold markerWriteFx
  extract_lets q
  split
  · exact .ite ((sameRest_setQueue _ _ d).trans (sameQueues_queueSample _ _ _).rest) (.refl d)
  · exact .refl d

theorem markerWriteFx_none (h : (queueOf d p).gap = none) : markerWriteFx p d = d := by
  unfold markerWriteFx
  simp only [h]

theorem sameRest_queueWrite (p : Nat) (bs : List Byte) (read : Nat) (bad : List Nat) (d : Device) :
    SameRest d (queueWrite p bs read bad d).dev := by
  unfold queueWrite
  extract_lets d0 d1 ws used d2
  have h2 : SameRest d d2 :=
    (((sameRest_setQueue _ _ d).trans (sameQueues_queueSample _ _ _).rest).trans (sameRest_markerWrite _ _)).trans (sameQueues_queueSample _ _ _).rest
  split
  · exact h2.trans (sameRest_setQueue _ _ _)
  · exact h2.trans (sameRest_setQueue _ _ _)

theorem sameRest_queueVerdict (p : Nat) (bs : List Byte) (bad : Bool) (a : Arrival) : SameRest a.dev (queueVerdict p bs bad a) := by
  unfold queueVerdict
  exact .ite (sameRest_setQueue _ _ _) (.refl _)

/-- A packet written into a queue with room and no gap stands behind the words that the parser has not read (R221 to R225). -/
theorem queueWrite_room (h : HasPort d p) (hgap : (queueOf d p).gap = none) {bs : List Byte} (read : Nat) (bad : List Nat)
    (hroom : (queueOf d p).used + ftqCount bs.length ≤ queueRoom) :
    (queueWrite p bs read bad d).full = false ∧
    (queueOf (queueWrite p bs read bad d).dev p).words = ((queueOf d p).drain read).words ++ packetWords bs bad ∧
    HasPort (queueWrite p bs read bad d).dev p := by
  unfold queueWrite
  extract_lets d0 d1 ws used d2
  have h0 : queueOf d0 p = (queueOf d p).drain read := queueOf_setQueue h _
  have hs0 : SameQueues d0 (queueSample p (queueOf d0 p).used d0) := sameQueues_queueSample _ _ _
  have h1 : d1 = queueSample p (queueOf d0 p).used d0 :=
    markerWriteFx_none (by rw [hs0.gap, h0, drain_gap, hgap])
  have hs1 : SameQueues d0 d1 := by rw [h1]; exact hs0
  have hs2 : SameQueues d0 d2 := hs1.trans (sameQueues_queueSample _ _ _)
  have hhas : HasPort d2 p := (h.alike (sameRest_setQueue p _ d)).alike hs2
  have hused : used = ((queueOf d p).drain read).used := by
    simp only [used]
    rw [hs1.used, h0]
  have hws : ws.length = ftqCount bs.length := packetWords_length bs bad
  have hle := drain_used (queueOf d p) read
  rw [if_neg (by omega)]
  refine ⟨rfl, ?_, hhas.alike (sameRest_setQueue _ _ _)⟩
  rw [queueOf_setQueue hhas, hold_words, hs2.words, h0]

/-- A packet that proves bad at its end leaves the queue as the parser's reading left it (R224). -/
theorem queueVerdict_bad_room (h : HasPort d p) (hgap : (queueOf d p).gap = none) {bs : List Byte} (read : Nat) (bad : List Nat)
    (hroom : (queueOf d p).used + ftqCount bs.length ≤ queueRoom) :
    (queueOf (queueVerdict p bs true (queueWrite p bs read bad d)) p).words = ((queueOf d p).drain read).words := by
  obtain ⟨hfull, hwords, hhas⟩ := queueWrite_room h hgap read bad hroom
  rw [queueVerdict, if_pos (by simp [hfull]), queueRewind, queueOf_setQueue hhas, hold_words, used_eq, hwords, List.length_append,
    packetWords_length, Nat.add_sub_cancel, List.take_left]

end

end Sys2Proof.Proofs

end

/-! ## Sys2Proof/Proofs/IngestServices: sACN sources, ARP, IGMP and foreign frames on the ingest ports (R180, R201 to R203) -/

section

namespace Sys2Proof.Proofs

open Machine Laws QueueFacts

/-! ### Sources of a universe -/

section
variable {d : Device} {u : Nat}

theorem find_filtered_out {us : List Universe} : (us.filter (fun x => x.univ != u)).find? (fun x => x.univ == u) = none :=
  List.find?_eq_none.mpr fun x hx => by simpa using (List.mem_filter.mp hx).2

theorem sourcesOf_of_gest {e : Device} (h : e.gest = d.gest) : sourcesOf e u = sourcesOf d u := by rw [sourcesOf, h, sourcesOf]

/-- A universe with its sources put back, its report apart. -/
def withSources (u : Nat) (ss : List SacnSource) (d : Device) : Device :=
  setGest (fun g => { g with univs :=
    if ss.isEmpty then d.gest.univs.filter (fun x => x.univ != u) else d.gest.univs.filter (fun x => x.univ != u) ++ [{ univ := u, sources := ss }] }) d

theorem sourcesOf_withSources (u : Nat) (ss : List SacnSource) (d : Device) : sourcesOf (withSources u ss d) u = ss := by
  unfold sourcesOf withSources setGest
  cases ss with
  | nil => simp only [List.isEmpty_nil, if_true, find_filtered_out]
  | cons x ss => simp only [List.isEmpty_cons, Bool.false_eq_true, if_false, List.find?_append, find_filtered_out, Option.none_or, List.find?_cons_of_pos, BEq.rfl]

theorem putSources_some {ss : List SacnSource} (h : ss ≠ []) : putSources u ss d = withSources u ss d := by
  cases ss with
  | nil => exact absurd rfl h
  | cons x ss => simp only [putSources, List.isEmpty_cons, Bool.and_false, when_false]; rfl

theorem putSources_last (h : sourcesOf d u ≠ []) : putSources u [] d = raise 0x2008 (leN 2 u) (withSources u [] d) := by
  have hhad : (sourcesOf d u).isEmpty = false := by simpa using h
  simp only [putSources, hhad]; rfl

theorem putSources_some_does {ss : List SacnSource} (h : ss ≠ []) :
    sourcesOf (putSources u ss d) u = ss ∧ SameBut [.gest] d (putSources u ss d) := by
  rw [putSources_some h]
  exact ⟨sourcesOf_withSources u ss d, sameBut_of_mask rfl⟩

theorem putSources_last_does (h : sourcesOf d u ≠ []) : sourcesOf (putSources u [] d) u = [] ∧
    Noticed d (putSources u [] d) 0x2008 (leN 2 u) ∧ SameBut (.gest :: reporting) d (putSources u [] d) := by
  refine ⟨?_, ?_, sameBut_of_mask (mask_putSources rfl u [] d)⟩
  · rw [putSources_last h, sourcesOf_of_gest (raise_gest _ _ _), sourcesOf_withSources]
  · rw [putSources_last h]
    exact noticed_raise rfl _ _

theorem putSources_clk (u : Nat) (ss : List SacnSource) (d : Device) : (putSources u ss d).clk = d.clk :=
  clk_of_mask (ps := others .clk) (mask_putSources rfl u ss d) rfl

end

/-! ### SACN_PACKET -/

section
variable {s : State} {d : Device} {p : SacnPacket} {x : SacnSource}

/-- What a packet that the port takes does. -/
def sacnTaken (p : SacnPacket) (d : Device) : Device :=
  if p.preview || p.syncOrDisc || p.slots.head? == some 0xDD || !((routed d).any (fun u => u.univ == p.univ)) then d
  else if !(sacnTo d p) then d.bump 0x2900 1
  else if 200 < p.priority ∨ p.slots.length < 1 ∨ 513 < p.slots.length then d.bump 0x2904 1
  else match (sourcesOf d p.univ).find? (fun x => x.cid == p.cid) with
    | some x => if -20 ≤ (p.seq - x.seq).toInt ∧ (p.seq - x.seq).toInt ≤ 0 then d else putSources p.univ (sourceSays p (sourcesOf d p.univ)) d
    | none => if 4 ≤ (sourcesOf d p.univ).length then d.bump 0x291C 1 else putSources p.univ (sourceSays p (sourcesOf d p.univ)) d

theorem sacnTaken_preview (h : p.preview = true) : sacnTaken p d = d := if_pos (by simp [h])

theorem sacnTaken_clk (p : SacnPacket) (d : Device) : (sacnTaken p d).clk = d.clk := by
  unfold sacnTaken
  split
  · rfl
  · split
    · rfl
    · split
      · rfl
      · split
        · split
          · rfl
          · exact putSources_clk _ _ _
        · split
          · rfl
          · exact putSources_clk _ _ _

theorem sacn_does {q : Device → Prop} (hon : ingestOn s.dev = true) (hin : (ingestIn p.rx s.dev).1 = true)
    (hd : d = (ingestIn p.rx s.dev).2) (hq : q (sacnTaken p d)) : Does (.sacnPacket p) s q :=
  ingest_act_does (f := sacnTaken p) rfl hon hin (sacnTaken_clk p _) (hd ▸ hq)

/-- An E1.31 packet of a routed universe that holds what R201 asks. -/
structure SacnGood (d : Device) (p : SacnPacket) : Prop where
  preview : p.preview = false
  sync    : p.syncOrDisc = false
  start   : p.slots.head? ≠ some 0xDD
  route   : (routed d).any (fun u => u.univ == p.univ) = true
  dst     : sacnTo d p = true
  prio    : p.priority ≤ 200
  least   : 1 ≤ p.slots.length
  most    : p.slots.length ≤ 513

/-- The source that a packet of its own makes (R202). -/
def sourceOf (p : SacnPacket) : SacnSource := { cid := p.cid, priority := p.priority, seq := p.seq, slots := p.slots, fresh := true }

theorem sacnTaken_good (h : SacnGood d p) : sacnTaken p d = match (sourcesOf d p.univ).find? (fun x => x.cid == p.cid) with
    | some x => if -20 ≤ (p.seq - x.seq).toInt ∧ (p.seq - x.seq).toInt ≤ 0 then d else putSources p.univ (sourceSays p (sourcesOf d p.univ)) d
    | none => if 4 ≤ (sourcesOf d p.univ).length then d.bump 0x291C 1 else putSources p.univ (sourceSays p (sourcesOf d p.univ)) d := by
  obtain ⟨hpre, hsync, hstart, hroute, hdst, hprio, hleast, hmost⟩ := h
  have hdd : (p.slots.head? == some 0xDD) = false := beq_eq_false_iff_ne.mpr hstart
  rw [sacnTaken, if_neg (by simp only [hpre, hsync, hdd, hroute]; decide), if_neg (by simp [hdst]), if_neg (by omega)]

theorem sacnTaken_new (h : SacnGood d p) (hnew : ∀ x ∈ sourcesOf d p.univ, x.cid ≠ p.cid) :
    sacnTaken p d = if 4 ≤ (sourcesOf d p.univ).length then d.bump 0x291C 1 else putSources p.univ (sourceSays p (sourcesOf d p.univ)) d := by
  have hnone : (sourcesOf d p.univ).find? (fun x => x.cid == p.cid) = none :=
    List.find?_eq_none.mpr fun x hx => by simpa using hnew x hx
  rw [sacnTaken_good h, hnone]

theorem sourceSays_new (hnew : ∀ x ∈ sourcesOf d p.univ, x.cid ≠ p.cid) (hterm : p.terminated = false) :
    sourceSays p (sourcesOf d p.univ) = sourcesOf d p.univ ++ [sourceOf p] := by
  have hany : (sourcesOf d p.univ).any (fun y => y.cid == p.cid) = false := by
    rw [List.any_eq_false]
    exact fun x hx => by simpa using hnew x hx
  simp only [sourceSays, hterm, hany]; rfl

theorem sacnTaken_one (h : SacnGood d p) (hx : sourcesOf d p.univ = [x]) (hcid : x.cid = p.cid) : sacnTaken p d =
    if -20 ≤ (p.seq - x.seq).toInt ∧ (p.seq - x.seq).toInt ≤ 0 then d else putSources p.univ (sourceSays p [x]) d := by
  have hfind : (sourcesOf d p.univ).find? (fun x => x.cid == p.cid) = some x := by simp [hx, hcid]
  rw [sacnTaken_good h, hfind, hx]

theorem sourceSays_one (hcid : x.cid = p.cid) : sourceSays p [x] = if p.terminated then [] else [sourceOf p] := by
  cases hterm : p.terminated <;> simp [sourceSays, sourceOf, hterm, hcid]

end

/-! ### SACN_SOURCE_TIMEOUT -/

theorem sacnSourceTimeout_does {s : State} {u : Nat} {x : SacnSource} (hon : ingestOn s.dev = true) (hx : sourcesOf s.dev u = [x]) :
    Does (.sacnSourceTimeout u x.cid) s (fun e => sourcesOf e u = [] ∧ Noticed s.dev e 0x2008 (leN 2 u) ∧
      SameBut (.gest :: reporting) s.dev e) := by
  have hfx : sacnTimeoutFx u x.cid s.dev = putSources u [] s.dev := by
    rw [sacnTimeoutFx, if_neg (by simp [hon]), hx]
    simp
  refine act_does_of_clk (f := sacnTimeoutFx u x.cid) rfl (by rw [hfx, putSources_clk]) ?_
  rw [hfx]
  exact putSources_last_does (by simp [hx])

/-! ### ARP_REQUEST and IGMP_QUERY -/

/-- An ingest port that sends its frames at once and as they are (R160, R177). -/
structure PlainPort (d : Device) (p : Nat) : Prop where
  up    : (d.ingPort p).up = true
  clear : macsecOn d p = false
  free  : (d.ingPort p).pause = 0

section
variable {s : State} {d : Device} {p : Nat} {x : IngRx}

theorem sendIngest_plain (h : PlainPort d p) (bs : List Byte) : sendIngest p bs d = { d with sent := d.sent ++ [{ port := p + 8, bytes := bs ++ fcs bs }] } := by
  obtain ⟨hup, hclear, hfree⟩ := h
  have hport : ¬p + 8 < 8 := by omega
  simp [sendIngest, startIngest, tx, hup, hclear, hfree, hport]

theorem sendIgmp_foldl_plain (p : Nat) (gs : List (BitVec 32)) {d : Device} (h : PlainPort d p) :
    ∃ fs, gs.foldl (sendIgmp p 2) d = { d with sent := d.sent ++ fs } ∧ fs.length = gs.length ∧ ∀ f ∈ fs, f.port = p + 8 := by
  induction gs generalizing d with
  | nil => exact ⟨[], by simp, rfl, by simp⟩
  | cons g gs ih =>
    have hone : sendIgmp p 2 d g = { d with sent := d.sent ++ [{ port := p + 8, bytes := igmpFrame d p 2 g ++ fcs (igmpFrame d p 2 g) }] } :=
      sendIngest_plain h _
    obtain ⟨hup, hclear, hfree⟩ := h
    obtain ⟨fs, hfs, hlen, hports⟩ := ih (d := { d with sent := d.sent ++ [{ port := p + 8, bytes := igmpFrame d p 2 g ++ fcs (igmpFrame d p 2 g) }] })
      ⟨hup, hclear, hfree⟩
    refine ⟨{ port := p + 8, bytes := igmpFrame d p 2 g ++ fcs (igmpFrame d p 2 g) } :: fs, ?_, by simp [hlen], by simpa using hports⟩
    rw [List.foldl_cons, hone, hfs]
    simp

/-- The answer to an ARP request for the port's address (R180). -/
def arpAnswer (p : Nat) (ip : BitVec 32) (mac : BitVec 48) (from_ : BitVec 32) (d : Device) : List Byte :=
  fit 60 (beN 6 mac.toNat ++ portMac d p ++ [0x08, 0x06, 0, 1, 8, 0, 6, 4, 0, 2] ++ portMac d p ++ beN 4 ip.toNat ++ beN 6 mac.toNat ++ beN 4 from_.toNat)

/-- The device once that answer has left. -/
def arpAnswered (p : Nat) (ip : BitVec 32) (mac : BitVec 48) (from_ : BitVec 32) (d : Device) : Device :=
  { d with sent := d.sent ++ [{ port := p + 8, bytes := arpAnswer p ip mac from_ d ++ fcs (arpAnswer p ip mac from_ d) }] }

theorem portMac_length (d : Device) (p : Nat) : (portMac d p).length = 6 := beN_length _ _

theorem cut_append_left {as bs : List Byte} {off n : Nat} (h : off + n ≤ as.length) : cut (as ++ bs) off n = cut as off n := by
  rw [cut, cut, List.drop_append_of_le_length (by omega), List.take_append_of_le_length (by rw [List.length_drop]; omega)]

theorem cut_append_right {as bs : List Byte} {off n : Nat} (h : as.length = off) : cut (as ++ bs) off n = bs.take n := by
  rw [cut, List.drop_left' h]

theorem arpAnswer_starts (p : Nat) (ip : BitVec 32) (mac : BitVec 48) (from_ : BitVec 32) (d : Device) :
    ∃ tail, arpAnswer p ip mac from_ d ++ fcs (arpAnswer p ip mac from_ d) = beN 6 mac.toNat ++ (portMac d p ++ ([0x08, 0x06] ++ tail)) := by
  have hfit : ∃ t, arpAnswer p ip mac from_ d = beN 6 mac.toNat ++ (portMac d p ++ ([0x08, 0x06] ++ t)) := by
    unfold arpAnswer fit
    refine ⟨([0, 1, 8, 0, 6, 4, 0, 2] ++ portMac d p ++ beN 4 ip.toNat ++ beN 6 mac.toNat ++ beN 4 from_.toNat ++ zeros 60).take 46, ?_⟩
    have hmac : (beN 6 mac.toNat).take 60 = beN 6 mac.toNat := List.take_of_length_le (by rw [beN_length]; decide)
    have hown : (portMac d p).take 54 = portMac d p := List.take_of_length_le (by rw [portMac_length]; decide)
    simp [List.take_append, beN_length, portMac_length, hmac, hown]
  obtain ⟨t, ht⟩ := hfit
  exact ⟨t ++ fcs (arpAnswer p ip mac from_ d), by rw [ht]; simp⟩

theorem arpRequest_does {d : Device} {mac : BitVec 48} {from_ : BitVec 32} (hon : ingestOn s.dev = true) (hin : (ingestIn x s.dev).1 = true)
    (hd : d = (ingestIn x s.dev).2) (h : PlainPort d x.port.val) : Does (.arpRequest x (portIp d x.port.val) mac from_) s (fun e =>
      ∃ f, e.sent = d.sent ++ [f] ∧ f.port = x.port.val + 8 ∧ cut f.bytes 0 6 = beN 6 mac.toNat ∧
        cut f.bytes 6 6 = portMac d x.port.val ∧ cut f.bytes 12 2 = [0x08, 0x06] ∧ SameBut [.sent] d e) := by
  have hfx : (if portIp d x.port.val != portIp d x.port.val then d
      else sendIngest x.port.val (arpAnswer x.port.val (portIp d x.port.val) mac from_ d) d) = arpAnswered x.port.val (portIp d x.port.val) mac from_ d := by
    rw [if_neg (by simp), sendIngest_plain h, arpAnswered]
  refine ingest_act_does (f := fun e => if portIp d x.port.val != portIp e x.port.val then e
      else sendIngest x.port.val (arpAnswer x.port.val (portIp d x.port.val) mac from_ e) e) rfl hon hin ?_ ?_ <;>
    rw [← hd] <;> beta_reduce <;> rw [hfx]
  · rfl
  · obtain ⟨tail, htail⟩ := arpAnswer_starts x.port.val (portIp d x.port.val) mac from_ d
    refine ⟨_, rfl, rfl, ?_, ?_, ?_, sameBut_of_mask rfl⟩
    · rw [htail, cut_append_left (by rw [beN_length]), cut, List.drop_zero, List.take_of_length_le (by rw [beN_length])]
    · rw [htail, cut_append_right (beN_length _ _), List.take_left' (portMac_length _ _)]
    · rw [htail, ← List.append_assoc, cut_append_right (by simp [beN_length, portMac_length])]
      rfl

theorem arpRequest_other_does {d : Device} {ip : BitVec 32} {mac : BitVec 48} {from_ : BitVec 32} (hon : ingestOn s.dev = true)
    (hin : (ingestIn x s.dev).1 = true) (hd : d = (ingestIn x s.dev).2) (hip : ip ≠ portIp d x.port.val) :
    Does (.arpRequest x ip mac from_) s (fun e => e = d) := by
  have hfx : (if ip != portIp d x.port.val then d else sendIngest x.port.val (arpAnswer x.port.val ip mac from_ d) d) = d :=
    if_pos (by simp [hip])
  refine ingest_act_does (f := fun e => if ip != portIp e x.port.val then e else sendIngest x.port.val (arpAnswer x.port.val ip mac from_ e) e)
    rfl hon hin ?_ ?_ <;> rw [← hd] <;> beta_reduce <;> rw [hfx]

theorem igmpQuery_does {d : Device} (hon : ingestOn s.dev = true) (hin : (ingestIn x s.dev).1 = true) (hd : d = (ingestIn x s.dev).2)
    (h : PlainPort d x.port.val) : Does (.igmpQuery x) s (fun e => (∃ fs, e.sent = d.sent ++ fs ∧
      fs.length = (d.ingPort x.port.val).groups.length ∧ ∀ f ∈ fs, f.port = x.port.val + 8) ∧ SameBut [.sent] d e) := by
  obtain ⟨fs, hfs, hlen, hports⟩ := sendIgmp_foldl_plain x.port.val (d.ingPort x.port.val).groups h
  refine ingest_act_does (f := fun e => (e.ingPort x.port.val).groups.foldl (sendIgmp x.port.val 2) e) rfl hon hin ?_ ?_ <;>
    rw [← hd] <;> beta_reduce <;> rw [hfs]
  exact ⟨⟨fs, rfl, hlen, hports⟩, sameBut_of_mask rfl⟩

end

/-! ### INGEST_FOREIGN_FRAME -/

section
variable {s : State} {d : Device} {x : IngRx} {why : IngestOdd}

theorem ingestOn_of_parts {d e : Device} (hp : e.pwr = d.pwr) (hs : e.sec = d.sec) : ingestOn e = ingestOn d := by
  simp only [ingestOn, forwardOnly, Device.isHead, hp, hs]

theorem ingestIn_on (x : IngRx) (d : Device) : ingestOn (ingestIn x d).2 = ingestOn d :=
  ingestOn_of_parts
    (pwr_of_mask (ps := others .pwr) (mask_ingestIn rfl x d) rfl) (sec_of_mask (ps := others .sec) (mask_ingestIn rfl x d) rfl)

theorem head_of_ingestOn (h : ingestOn d = true) : d.isHead = true := by
  simp only [ingestOn, Bool.and_eq_true] at h
  exact h.1.2

/-- A frame that the port takes and then counts in one register. -/
theorem ingestOdd_taken_does {f : Device → Device} {q : Device → Prop} (hin : (ingestIn x s.dev).1 = true)
    (hfx : ingestOddFx x why s.dev = fromIngest x f s.dev) (hclk : ∀ e, (f e).clk = e.clk) (hq : q (f (ingestIn x s.dev).2)) :
    Does (.ingestForeignFrame x why) s q := by
  rw [fromIngest_taken hin] at hfx
  exact act_does_of_clk (f := ingestOddFx x why) rfl (by rw [hfx, hclk, ingestIn_clk]) (by rw [hfx]; exact hq)

theorem when_clk (c : Bool) {f : Device → Device} (h : ∀ e, (f e).clk = e.clk) (d : Device) : (when c f d).clk = d.clk := by
  cases c
  · rfl
  · exact h d

/-- A port's counter of bad frames goes up and its queue is left as the parser's reading left it (R151, R152, R224). -/
theorem ingestBroken_does {cls : Nat} (hup : (s.dev.ingPort x.port.val).up = true)
    (hgap : (s.dev.ingPort x.port.val).queue.gap = none) (hlen : s.dev.ing.length = 2) (hfx : ingestOddFx x why s.dev = ingestBroken x cls s.dev) :
    Does (.ingestForeignFrame x why) s (fun e =>
      (e.ingPort x.port.val).stat = modAt (s.dev.ingPort x.port.val).stat cls (fun n => satAdd 16 n 1) ∧
      ((s.dev.ingPort x.port.val).queue.used + ftqCount x.bytes.length ≤ queueRoom →
        (e.ingPort x.port.val).queue.words = ((s.dev.ingPort x.port.val).queue.drain x.read).words) ∧
      SameBut (.ing :: reporting) s.dev e) := by
  have hlt : x.port.val < s.dev.ing.length := by omega
  have hmask := mask_ingestBroken (ps := [.link, .ing, .flows, .hif, .sent, .host, .notes]) rfl x cls s.dev
  refine act_does_of_clk (f := ingestOddFx x why) rfl (by rw [hfx]; exact clk_of_mask hmask rfl) ?_
  rw [hfx]
  have hbroken : ingestBroken x cls s.dev = queueVerdict (x.port.val + 8) (x.bytes.take 9212) true
      (queueWrite (x.port.val + 8) (x.bytes.take 9212) x.read x.bad (countIng x.port.val cls s.dev)) := if_neg (by simp [hup])
  have hcount : (countIng x.port.val cls s.dev).ingPort x.port.val =
      { s.dev.ingPort x.port.val with stat := modAt (s.dev.ingPort x.port.val).stat cls (fun n => satAdd 16 n 1) } := by
    rw [countIng, countStat, if_neg (by omega)]
    exact getD_modAt_same hlt _ _
  have hq : ∀ e : Device, queueOf e (x.port.val + 8) = (e.ingPort x.port.val).queue := fun e => if_neg (by omega)
  have hqueue : queueOf (countIng x.port.val cls s.dev) (x.port.val + 8) = (s.dev.ingPort x.port.val).queue := by rw [hq, hcount]
  have hhas : HasPort (countIng x.port.val cls s.dev) (x.port.val + 8) := by
    rw [HasPort, if_neg (by omega), countIng, countStat, if_neg (by omega)]
    simpa [modAt] using hlt
  refine ⟨?_, fun hroom => ?_, sameBut_of_mask hmask⟩
  · rw [hbroken, SameRest.ingStat ((sameRest_queueWrite _ _ _ _ _).trans (sameRest_queueVerdict _ _ _ _)), hcount]
  · have hshort : ftqCount (x.bytes.take 9212).length ≤ ftqCount x.bytes.length := ftqCount_mono (List.length_take_le' _ _)
    have hwords := queueVerdict_bad_room (bs := x.bytes.take 9212) hhas (by rw [hqueue]; exact hgap) x.read x.bad (by rw [hqueue]; omega)
    rw [hbroken, ← hq, hwords, hqueue]

end

/-! ### The obligation -/

/-- Settles O41: the packets of universes case by case, the answers to ARP and IGMP, and the counters of odd frames. -/
theorem ingestServices : Obligations.IngestServices := by
  unfold Obligations.IngestServices
  intro s hon
  have hhead := head_of_ingestOn hon
  refine ⟨fun p d hin hd => ⟨fun hpre => sacn_does hon hin hd (sacnTaken_preview hpre), ?_⟩, ?_, fun x d hin hd => ⟨?_, ?_, ?_, ?_, ?_⟩, ?_⟩
  · intro hpre hsync hstart hroute hto hprio hleast hmost
    have hgood : SacnGood d p := ⟨hpre, hsync, hstart, hroute, hto, hprio, hleast, hmost⟩
    refine ⟨fun hnew => ⟨fun hterm hroom => sacn_does hon hin hd ?_, fun hfull => sacn_does hon hin hd ?_⟩, fun x hx hcid =>
      ⟨fun hlow hhigh => sacn_does hon hin hd ?_, fun hseq => ⟨fun hterm => sacn_does hon hin hd ?_, fun hterm => sacn_does hon hin hd ?_⟩⟩⟩
    · rw [sacnTaken_new hgood hnew, if_neg (by omega), sourceSays_new hnew hterm]
      exact putSources_some_does (by simp)
    · rw [sacnTaken_new hgood hnew, if_pos hfull]
    · rw [sacnTaken_one hgood hx hcid, if_pos ⟨hlow, hhigh⟩]
    · rw [sacnTaken_one hgood hx hcid, if_neg (by omega), sourceSays_one hcid, hterm]
      exact putSources_some_does (by simp)
    · rw [sacnTaken_one hgood hx hcid, if_neg (by omega), sourceSays_one hcid, if_pos hterm]
      obtain ⟨hnone, hnote, _⟩ := putSources_last_does (d := d) (u := p.univ) (by simp [hx])
      exact ⟨hnone, hnote⟩
  · rintro u cid x hx rfl
    exact sacnSourceTimeout_does hon hx
  · exact fun hup hclear hfree => ⟨fun mac from_ => arpRequest_does hon hin hd ⟨hup, hclear, hfree⟩, igmpQuery_does hon hin hd ⟨hup, hclear, hfree⟩⟩
  · exact fun ip mac from_ hip => arpRequest_other_does hon hin hd hip
  · have hone : when (ingestOn (ingestIn x s.dev).2) (fun e => e.bump 0x2900 1) (ingestIn x s.dev).2 = d.bump 0x2900 1 := by
      rw [ingestIn_on, hon, when_true, hd]
    rintro why (rfl | rfl)
    · exact ingestOdd_taken_does (f := fun e => when (ingestOn e) (fun e => e.bump 0x2900 1) e) hin
        (if_neg (by simp [hhead])) (fun e => when_clk _ (by intro e; rfl) e) hone
    · exact ingestOdd_taken_does (f := fun e => when (ingestOn e) (fun e => e.bump 0x2900 1) e) hin
        (if_neg (by simp [hhead])) (fun e => when_clk _ (by intro e; rfl) e) hone
  · have hone : when (ingestOn (ingestIn x s.dev).2) (fun e => e.bump 0x2904 1) (ingestIn x s.dev).2 = d.bump 0x2904 1 := by
      rw [ingestIn_on, hon, when_true, hd]
    exact ingestOdd_taken_does (f := fun e => when (ingestOn e) (fun e => e.bump 0x2904 1) e) hin
      (if_neg (by simp [hhead])) (fun e => when_clk _ (by intro e; rfl) e) hone
  · exact ingestOdd_taken_does (f := id) hin (if_neg (by simp [hhead])) (by intro e; rfl) hd.symm
  · rintro x why cls hup hgap hlen (⟨rfl, rfl⟩ | ⟨rfl, rfl⟩ | ⟨rfl, rfl⟩) <;>
      exact ingestBroken_does hup hgap hlen (if_neg (by simp [hhead]))

end Sys2Proof.Proofs

end

/-! ## Sys2Proof/Proofs/HostParts: what a notice and a watermark's sample leave of the host interface (R400, R233) -/

section

namespace Sys2Proof.Proofs

open Machine Laws

theorem mask_when {ps : List Part} {c : Bool} {f : Device → Device} {d : Device} (h : blank ps (f d) = blank ps d) :
    blank ps (when c f d) = blank ps d := by
  cases c
  · rfl
  · exact h

/-- The host interface but for what its notices and posts move: messages, posted records, and the event ring. -/
def hifRest (h : Hif) : Hif :=
  { h with msix := 0, posted := [], toPost := [], kept := [], dropped := 0, dropFirst := none, e := 0, unacked := [] }

/-- What the rest of the host interface says is read from it. -/
theorem rest_get {α : Type} (g : Hif → α) (hg : ∀ h, g (hifRest h) = g h) {a b : Hif} (h : hifRest a = hifRest b) : g a = g b := by
  rw [← hg a, h, hg]

section
variable (d : Device)

theorem vector_rest (v : Nat) : hifRest (vector v d).hif = hifRest d.hif := by
  unfold vector
  split <;> rfl

theorem post_rest (addr : Nat) (bs : List Byte) : hifRest (post addr bs d).hif = hifRest d.hif := by
  have hpost : (post addr bs d).hif = { d.hif with posted := mins d.hif.posted addr d.clk.rp } :=
    hif_of_mask (ps := others .hif) (mask_nodeSend rfl _ _ _ _ _) rfl
  rw [hpost]
  rfl

theorem writeOut_rest (addr : Nat) (bs : List Byte) : hifRest (writeOut addr bs d).hif = hifRest d.hif := by
  unfold writeOut
  split
  · rfl
  · split
    · exact post_rest d addr bs
    · rfl

theorem writeNotice_rest (n : Notice) : hifRest (writeNotice n d).hif = hifRest d.hif := by
  unfold writeNotice
  extract_lets e d1 hif2 d2 d3
  have h2 : hifRest d2.hif = hifRest d.hif := writeOut_rest d (evtAddr d e) (noticeBytes d n e)
  have h3 : hifRest d3.hif = hifRest d.hif := (vector_rest d2 1).trans h2
  split
  · exact (vector_rest d3 5).trans h3
  · exact h3

theorem raise_rest (code : Nat) (payload : List Byte) : hifRest (raise code payload d).hif = hifRest d.hif := by
  unfold raise record
  extract_lets n
  split
  · exact writeNotice_rest _ n
  · split <;> rfl

theorem wmPut_rest (i : Nat) (w : Watermark) : hifRest (wmPut d i w).hif = hifRest d.hif :=
  congrArg hifRest (hif_of_mask (ps := others .hif) (mask_wmPut rfl d i w) rfl)

theorem sample_rest (i level : Nat) : hifRest (sample i level d).hif = hifRest d.hif := by
  unfold sample
  extract_lets w w1 crossing w2
  split
  · exact (wmPut_rest _ _ _).trans (raise_rest _ _ _)
  · split <;> exact wmPut_rest _ _ _

end

/-! ### Notices at a head -/

section
variable {d : Device} (h : d.isHead = true)
include h

/-- A head writes its notices into host memory: they move no port and send no frame (R400). -/
theorem raise_mask_head (code : Nat) (payload : List Byte) : blank [.hif, .host, .notes] (raise code payload d) = blank [.hif, .host, .notes] d := by
  have hwrite : ∀ (e : Device) (n : Notice), e.isHead = true → blank [.hif, .host, .notes] (writeNotice n e) = blank [.hif, .host, .notes] e := by
    intro e n he
    unfold writeNotice
    extract_lets k d1 hif2 d2 d3
    have hd1 : d1 = hostWrite (evtAddr e k) (noticeBytes e n k) e := if_pos he
    have h1 : blank [.hif, .host, .notes] d1 = blank [.hif, .host, .notes] e := by rw [hd1]; rfl
    have h3 : blank [.hif, .host, .notes] d3 = blank [.hif, .host, .notes] e := (mask_vector rfl 1 d2).trans h1
    split
    · exact (mask_vector rfl 5 d3).trans h3
    · exact h3
  unfold raise record
  extract_lets n
  split
  · exact hwrite _ n h
  · split <;> rfl

theorem raise_sent_head (code : Nat) (payload : List Byte) : (raise code payload d).sent = d.sent :=
  sent_of_mask (raise_mask_head h code payload) rfl

theorem raise_link_head (code : Nat) (payload : List Byte) : (raise code payload d).link = d.link :=
  link_of_mask (raise_mask_head h code payload) rfl

end

end Sys2Proof.Proofs

end

/-! ## Sys2Proof/Proofs/BulkEntries: bulk entries taken, refused, read and completed (R199, R409) -/

section

namespace Sys2Proof.Proofs

open Machine Laws

/-! ### What a content frame's pixels leave of the bulk queue -/

theorem bulk_of_rest {d e : Device} (h : hifRest e.hif = hifRest d.hif) : e.hif.bulk = d.hif.bulk ∧ e.hif.fetchB = d.hif.fetchB :=
  ⟨rest_get Hif.bulk (by intro h; rfl) h, rest_get Hif.fetchB (by intro h; rfl) h⟩

theorem raise_bulk (code : Nat) (payload : List Byte) (d : Device) :
    (raise code payload d).hif.bulk = d.hif.bulk ∧ (raise code payload d).hif.fetchB = d.hif.fetchB := bulk_of_rest (raise_rest d code payload)

/-- Two devices that agree on the bulk queue and its fetch position, on the maps and registers that a content frame's cut and
lines are read from, and on the newest content frame of slot `k`. -/
structure SameBulk (k : Nat) (d e : Device) : Prop where
  bulk   : e.hif.bulk = d.hif.bulk
  fetch  : e.hif.fetchB = d.hif.fetchB
  maps   : e.gest.maps = d.gest.maps
  newest : (slotOf e k).lastC = (slotOf d k).lastC
  topo   : e.topo = d.topo
  pwr    : e.pwr = d.pwr
  tim    : e.tim = d.tim
  head   : e.word 0x18 = d.word 0x18
  path   : e.word 0x3030 = d.word 0x3030

namespace SameBulk

variable {k : Nat} {d e f : Device}

theorem refl (k : Nat) (d : Device) : SameBulk k d d := ⟨rfl, rfl, rfl, rfl, rfl, rfl, rfl, rfl, rfl⟩

theorem trans (h : SameBulk k d e) (h' : SameBulk k e f) : SameBulk k d f :=
  ⟨h'.bulk.trans h.bulk, h'.fetch.trans h.fetch, h'.maps.trans h.maps, h'.newest.trans h.newest, h'.topo.trans h.topo, h'.pwr.trans h.pwr,
    h'.tim.trans h.tim, h'.head.trans h.head, h'.path.trans h.path⟩

theorem ite {c : Prop} [Decidable c] (he : SameBulk k d e) (hf : SameBulk k d f) : SameBulk k d (if c then e else f) := by
  split <;> assumption

theorem foldl {α : Type} {g : Device → α → Device} (h : ∀ d x, SameBulk k d (g d x)) (xs : List α) (d : Device) : SameBulk k d (xs.foldl g d) := by
  induction xs generalizing d with
  | nil => exact refl k d
  | cons x xs ih => exact (h d x).trans (ih _)

/-- A change of ports, frames, notices and the pixel store alone. -/
theorem of_mask {ps : List Part} (h : blank ps e = blank ps d) (hps : sub ps [.link, .flows, .pxl, .sent, .host, .notes] = true) : SameBulk k d e := by
  have hm : blank [.link, .flows, .pxl, .sent, .host, .notes] e = blank [.link, .flows, .pxl, .sent, .host, .notes] d := mask_mono hps h
  have hh := hif_of_mask hm rfl
  have hg := gest_of_mask hm rfl
  have hr := regs_of_mask hm rfl
  exact ⟨by rw [hh], by rw [hh], by rw [hg], by rw [slotOf_of_gest hg], topo_of_mask hm rfl, pwr_of_mask hm rfl, tim_of_mask hm rfl,
    word_of_regs hr _, word_of_regs hr _⟩

theorem raise (code : Nat) (payload : List Byte) (d : Device) : SameBulk k d (raise code payload d) := by
  obtain ⟨hb, hf⟩ := raise_bulk code payload d
  have hm := mask_raise (ps := [.link, .flows, .hif, .sent, .host, .notes]) rfl code payload d
  have hg := gest_of_mask hm rfl
  have hr := regs_of_mask hm rfl
  exact ⟨hb, hf, by rw [hg], by rw [slotOf_of_gest hg], topo_of_mask hm rfl, pwr_of_mask hm rfl, tim_of_mask hm rfl,
    word_of_regs hr _, word_of_regs hr _⟩

theorem bump {a : Nat} (h18 : a ≠ 0x18) (h30 : a ≠ 0x3030) (n : Nat) (d : Device) : SameBulk k d (d.bump a n) :=
  ⟨rfl, rfl, rfl, rfl, rfl, rfl, rfl, word_setWord_ne d h18 _, word_setWord_ne d h30 _⟩

theorem setSlot {g : Slot → Slot} (h : ∀ x : Slot, (g x).lastC = x.lastC) (j : Nat) (d : Device) : SameBulk k d (setSlot j g d) := by
  refine ⟨rfl, rfl, rfl, ?_, rfl, rfl, rfl, rfl, rfl⟩
  by_cases hjk : k = j
  · subst hjk
    by_cases hk : k < d.gest.slots.length
    · rw [slotOf_setSlot hk, h]
    · rw [slotOf_setSlot_out hk]
  · rw [slotOf_setSlot_ne hjk]

end SameBulk

section
variable {k : Nat}

theorem sameBulk_sendOwn (d : Device) (f : TxFrame) (twin : Bool) (proof : Option (BitVec 32)) : SameBulk k d (sendOwn d f twin proof) :=
  .of_mask (mask_sendOwn (ps := [.link, .sent]) rfl d f twin proof) rfl

theorem sameBulk_runMismatch (c : BitVec 32) (s : SliceHdr) (d : Device) : SameBulk k d (runMismatch c s d) := by
  unfold runMismatch
  extract_lets d1
  have h1 : SameBulk k d d1 := .bump (by decide) (by decide) 1 d
  have h2 : SameBulk k d1 (setPxl (fun p => { p with mismatchTold := lastN 16 (p.mismatchTold ++ [c]) }) d1) :=
    .of_mask (ps := [.pxl]) rfl rfl
  exact h1.trans (.ite (.refl k _) (h2.trans (.raise _ _ _)))

theorem sameBulk_storeRun (c : BitVec 32) (s : SliceHdr) (data : List Byte) (d : Device) : SameBulk k d (storeRun c s data d) := by
  unfold storeRun
  extract_lets mine run
  exact .ite (.of_mask (ps := [.pxl]) rfl rfl) (.ite (.bump (by decide) (by decide) 1 d) (sameBulk_runMismatch c s d))

theorem sameBulk_releaseRun (m : SysMap) (slot : Nat) (c : BitVec 32) (u : Run) (b : List Byte) (g : Nat) (d : Device) :
    SameBulk k d (releaseRun m slot c u b g d) := by
  unfold releaseRun
  refine .ite (.ite (sameBulk_storeRun _ _ _ d) (.refl k d)) ?_
  split
  · exact .ite (.refl k d) (.foldl (fun d x => sameBulk_sendOwn _ _ _ _) _ d)
  · exact .refl k d

theorem sameBulk_endRuns (slot : Nat) (c : BitVec 32) (us : List (Run × Nat)) (d : Device) : SameBulk k d (endRuns slot c us d) :=
  .setSlot (by intro x; rfl) slot d

theorem sameBulk_releaseStep (slot : Nat) (a : Assembly) (us : List (Run × Nat)) (blocked : List Nat) (d : Device) :
    SameBulk k d (releaseStep slot a us blocked d) := by
  induction us generalizing blocked d with
  | nil => exact .refl k d
  | cons u us ih =>
    obtain ⟨u, g⟩ := u
    rw [releaseStep]
    split
    · exact ih _ _
    · split
      · exact ih _ _
      · exact ((sameBulk_endRuns _ _ _ d).trans (sameBulk_releaseRun _ _ _ _ _ _ _)).trans (ih _ _)

theorem sameBulk_release (slot : Nat) (c : BitVec 32) (d : Device) : SameBulk k d (release slot c d) := by
  unfold release
  split
  · exact sameBulk_releaseStep _ _ _ _ d
  · exact .refl k d

theorem sameBulk_abandon (slot : Nat) (c : BitVec 32) (p : Run → Bool) (d : Device) : SameBulk k d (abandon slot c p d) := by
  unfold abandon
  split
  · exact .refl k d
  · exact ((SameBulk.bump (by decide) (by decide) _ d).trans (sameBulk_endRuns _ _ _ _)).trans (.setSlot (by intro x; rfl) slot _)

theorem sameBulk_takeRows (slot : Nat) (r : StreamRec) (c : BitVec 32) (stamp : Option (BitVec 32)) (rows : List Srd) (d : Device) :
    SameBulk k d (takeRows slot r c stamp rows d) := by
  unfold takeRows
  split
  · exact .refl k d
  · exact (SameBulk.setSlot (by intro x; rfl) slot d).trans (sameBulk_release _ _ _)

theorem sameBulk_openFrame (slot : Nat) (c : BitVec 32) (d : Device) : SameBulk k d (openFrame slot c d) := by
  unfold openFrame
  refine .ite (.refl k d) ?_
  split
  · exact sameBulk_takeRows _ _ _ _ _ d
  · exact .refl k d

theorem sameBulk_when {c : Bool} {f : Device → Device} {d : Device} (h : SameBulk k d (f d)) : SameBulk k d (when c f d) := .ite h (.refl k d)

end

section
variable {k : Nat} {d e : Device} (h : SameBulk k d e)
include h

theorem SameBulk.cutMap (c : BitVec 32) : cutMap e c = cutMap d c := by
  have hp : presentP e = presentP d := by rw [presentP, h.pwr, h.tim, Device.field, h.path, presentP, Device.field]
  rw [Machine.cutMap, h.maps, hp, mapGoverning, h.topo, Machine.cutMap, mapGoverning]

theorem SameBulk.lines (slot : Nat) (r : StreamRec) (m : SysMap) : bulkLines e slot r m = bulkLines d slot r m := by
  have hh : e.headIndex = d.headIndex := by rw [Device.headIndex, Device.field, h.head, Device.headIndex, Device.field]
  rw [bulkLines, hh, bulkLines]

end

/-! ### An entry's lines -/

section
variable {d : Device} {pos : BitVec 32} {xs : List BulkEntry} {y : BulkEntry}

/-- The last entry of the queue, the only one at its position, changed. -/
theorem setBulk_last (hb : d.hif.bulk = xs ++ [y]) (hxs : ∀ x ∈ xs, x.pos ≠ pos) (hy : y.pos = pos) (f : BulkEntry → BulkEntry) :
    (setBulk pos f d).hif.bulk = xs ++ [f y] := by
  have hmap : xs.map (fun e => if e.pos = pos then f e else e) = xs :=
    (List.map_congr_left fun x hx => if_neg (hxs x hx)).trans (List.map_id xs)
  change d.hif.bulk.map (fun e => if e.pos = pos then f e else e) = _
  rw [hb, List.map_append, hmap, List.map_singleton, if_pos hy]

/-- A line read leaves the entry as it was, or ended for a host bus error (R199). -/
theorem bulkLine_entry {e : BulkEntry} (he : e.pos = pos) (r : StreamRec) (n : Nat) {x : HostRead} (hx : x ≠ .none)
    (hb : d.hif.bulk = xs ++ [y]) (hxs : ∀ x ∈ xs, x.pos ≠ pos) (hy : y.pos = pos) :
    (bulkLine e r n x d).hif.bulk = xs ++ [if x = .busError then { y with status := 0x0A } else y] ∧
    (bulkLine e r n x d).hif.fetchB = d.hif.fetchB ∧ (slotOf (bulkLine e r n x d) e.slot).lastC = (slotOf d e.slot).lastC := by
  have herr : ∀ open_ : Bool, ∃ f : Device, SameBulk e.slot (setBulk e.pos (fun e => { e with status := 0x0A }) d) f ∧ f =
      when open_ (fun d => release e.slot e.content (abandon e.slot e.content (runOnLine n) (takeRows e.slot r e.content none [] d)))
        (setBulk e.pos (fun e => { e with status := 0x0A }) d) := fun open_ =>
    ⟨_, sameBulk_when (((sameBulk_takeRows _ _ _ _ _ _).trans (sameBulk_abandon _ _ _ _)).trans (sameBulk_release _ _ _)), rfl⟩
  cases x with
  | none => exact absurd rfl hx
  | data b =>
    have h : SameBulk e.slot d (bulkLine e r n (.data b) d) := sameBulk_when (sameBulk_takeRows _ _ _ _ _ _)
    exact ⟨by rw [h.bulk, hb]; rfl, h.fetch, h.newest⟩
  | busError =>
    obtain ⟨f, hf, heq⟩ := herr (!(d.clk.rp.reached { frame := e.content + BitVec.ofNat 32 (presentP d) - 1, line := cutLine d, sub := 0 }))
    have hline : bulkLine e r n .busError d = f := heq.symm
    rw [hline]
    refine ⟨?_, hf.fetch, hf.newest⟩
    rw [hf.bulk, he, setBulk_last hb hxs hy]
    rfl

/-- The lines read by now: the entry's status says whether one of them ended in a bus error. -/
theorem bulkLines_entry {e : BulkEntry} (he : e.pos = pos) (r : StreamRec) (got : Nat → HostRead) (ns : List Nat) (hns : ∀ n ∈ ns, got n ≠ .none)
    (hb : d.hif.bulk = xs ++ [y]) (hxs : ∀ x ∈ xs, x.pos ≠ pos) (hy : y.pos = pos) :
    ∃ st, (ns.foldl (fun d n => bulkLine e r n (got n) d) d).hif.bulk = xs ++ [{ y with status := st }] ∧
      ((∃ n ∈ ns, got n = .busError) → st = 0x0A) ∧ ((∀ n ∈ ns, got n ≠ .busError) → st = y.status) ∧
      (st = 0x0A ∨ st = y.status) ∧
      (ns.foldl (fun d n => bulkLine e r n (got n) d) d).hif.fetchB = d.hif.fetchB ∧
      (slotOf (ns.foldl (fun d n => bulkLine e r n (got n) d) d) e.slot).lastC = (slotOf d e.slot).lastC := by
  induction ns generalizing d y with
  | nil => exact ⟨y.status, hb, by simp, by simp, .inr rfl, rfl, rfl⟩
  | cons n ns ih =>
    obtain ⟨hbulk, hfetch, hnew⟩ := bulkLine_entry he r n (hns n (List.mem_cons_self ..)) hb hxs hy
    obtain ⟨st, hst, herr, hgood, hor, hf, hl⟩ := ih (fun m hm => hns m (List.mem_cons_of_mem _ hm)) hbulk (by split <;> exact hy)
    refine ⟨st, ?_, ?_, ?_, ?_, hf.trans hfetch, hl.trans hnew⟩
    · rw [List.foldl_cons, hst]
      split <;> rfl
    · rintro ⟨m, hm, hm'⟩
      rcases List.mem_cons.mp hm with rfl | hm
      · rcases hor with h | h
        · exact h
        · rw [h, if_pos hm']
      · exact herr ⟨m, hm, hm'⟩
    · intro hall
      rw [hgood fun m hm => hall m (List.mem_cons_of_mem _ hm), if_neg (hall n (List.mem_cons_self ..))]
    · rcases hor with h | h
      · exact .inl h
      · rw [h]
        split
        · exact .inl rfl
        · exact .inr rfl

end

/-! ### BULK_ENTRY_READ -/

/-- What lets a head take the entry at the fetch position (R199, R409). -/
structure BulkReady (b : List Byte) (d : Device) : Prop where
  on     : ingestOn d = true
  served : served d = true
  slots  : bulkSlots d ≠ 0
  good   : d.hif.badB = none
  behind : d.hif.fetchB ≠ d.hif.b
  locked : d.tim.firstLock = true
  word   : le b 0x1C 4 = d.hif.fetchB.toNat

/-- The entry that the fetched words make. -/
def bulkOf (b : List Byte) (status : Nat) (waits : Bool) (d : Device) : BulkEntry :=
  { pos := d.hif.fetchB, slot := le b 0 1, content := BitVec.ofNat 32 (le b 4 4), addr := le b 8 8, tag := BitVec.ofNat 32 (le b 0x10 4),
    status := BitVec.ofNat 8 status, done := !waits, waits := waits }

section
variable {b : List Byte} {lines : List HostRead} {d : Device} {s : State}

theorem bulkReadFx_ready (h : BulkReady b d) : bulkReadFx b lines d =
    if le b 8 8 % 64 ≠ 0 then queueBulk b 4 false d
    else if 16777216 < frameDiff (BitVec.ofNat 32 (le b 4 4)) d.clk.rp.frame then queueBulk b 8 false d
    else if d.clk.rp.reached (cutoffOf d (BitVec.ofNat 32 (le b 4 4))) then
      raise 0x2007 (leN 1 (le b 0 1) ++ zeros 3 ++ leN 4 (BitVec.ofNat 32 (le b 4 4)).toNat) (queueBulk b 2 false d)
    else if 15 < le b 0 1 then queueBulk b 0 false d
    else if d.clk.rp.before (RP.start (BitVec.ofNat 32 (le b 4 4))) then
      (if bulkTwice (le b 0 1) (BitVec.ofNat 32 (le b 4 4)) d then queueBulk b 2 false d else queueBulk b 0 true d)
    else match recFor (slotOf d (le b 0 1)) (BitVec.ofNat 32 (le b 4 4)) with
      | some r =>
        if r.kind ≠ 2 then queueBulk b 0 false d
        else if bulkTwice (le b 0 1) (BitVec.ofNat 32 (le b 4 4)) d then queueBulk b 2 false d
        else readBulk d.hif.fetchB (le b 0 1) r (BitVec.ofNat 32 (le b 4 4)) lines (queueBulk b 0 false d)
      | none => queueBulk b 0 false d := by
  obtain ⟨hon, hserved, hslots, hgood, hbehind, hlock, hword⟩ := h
  rw [bulkReadFx, if_neg (by simp [hon, hserved, hslots, hgood, hbehind, hlock, hword])] <;> rfl

theorem bulkRead_does {q : Device → Prop} (hq : q (bulkReadFx b lines s.dev)) : Does (.bulkEntryRead b lines) s q :=
  act_does_of_clk (f := bulkReadFx b lines) rfl (clk_of_mask (ps := others .clk) (mask_bulkReadFx rfl b lines s.dev) rfl) hq

/-- An entry whose lines are read (R199): those not read by now wait, and a bus error ends it. -/
theorem readBulk_entry {slot : Nat} {r : StreamRec} {c : BitVec 32} {m : SysMap} {xs : List BulkEntry} {e : BulkEntry}
    (hslot : slot < d.gest.slots.length) (hb : d.hif.bulk = xs ++ [e]) (hxs : ∀ x ∈ xs, x.pos ≠ e.pos) (he : e.slot = slot)
    (hm : cutMap d c = some m) :
    (readBulk e.pos slot r c lines d).hif.fetchB = d.hif.fetchB ∧ (slotOf (readBulk e.pos slot r c lines d) slot).lastC = c ∧
    ∃ later st, (readBulk e.pos slot r c lines d).hif.bulk =
        xs ++ [{ e with reads := later, strm := some r, done := later.isEmpty, status := st }] ∧
      later.map (fun l => l.2) = (bulkLines d slot r m).filter (fun y => lines.getD y .none == .none) ∧
      ((∃ y ∈ bulkLines d slot r m, lines.getD y .none = .busError) → st = 0x0A) ∧
      ((∀ y ∈ bulkLines d slot r m, lines.getD y .none ≠ .busError) → st = e.status) := by
  have hopen : SameBulk slot (stampNote slot 0 c d) (openFrame slot c (stampNote slot 0 c d)) := sameBulk_openFrame _ _ _
  have hnew : (slotOf (openFrame slot c (stampNote slot 0 c d)) slot).lastC = c := by
    rw [hopen.newest, stampNote, slotOf_setSlot hslot]
  have hlines := hopen.lines slot r m
  have hcut : Machine.cutMap (openFrame slot c (stampNote slot 0 c d)) c = some m := (hopen.cutMap c).trans hm
  have hbulk : (openFrame slot c (stampNote slot 0 c d)).hif.bulk = xs ++ [e] := hopen.bulk.trans hb
  have hfetch : (openFrame slot c (stampNote slot 0 c d)).hif.fetchB = d.hif.fetchB := hopen.fetch
  unfold readBulk
  generalize openFrame slot c (stampNote slot 0 c d) = d1 at *
  have hfind : d1.hif.bulk.find? (fun x => x.pos == e.pos) = some e := by
    rw [hbulk, List.find?_append, List.find?_eq_none.mpr fun x hx => by simpa using hxs x hx]
    simp
  simp only [hfind, hcut]
  have hsame : bulkLines d1 slot r m = bulkLines d slot r m := hlines
  rw [hsame]
  generalize bulkLines d slot r m = ys
  generalize hlater : ((ys.filter (fun y => lines.getD y .none == .none)).zipIdx.map (fun (y, i) => (d1.hif.readId + i, y))) = later
  have hlmap : later.map (fun l => l.2) = ys.filter (fun y => lines.getD y .none == .none) := by
    rw [← hlater, List.map_map]
    exact List.zipIdx_map_fst _ _
  have hput := setBulk_last (d := setHif (fun h => { h with readId := h.readId + later.length }) d1) (pos := e.pos) hbulk hxs rfl
    (fun e => { e with reads := later, strm := some r, done := later.isEmpty })
  obtain ⟨st, hst, herr, hgood, _, hf, hl⟩ := bulkLines_entry (e := e) rfl r (fun y => lines.getD y .none)
    (ys.filter (fun y => lines.getD y .none != .none)) (fun n hn => by simpa using (List.mem_filter.mp hn).2) hput hxs rfl
  refine ⟨hf.trans hfetch, ?_, later, st, hst, hlmap, ?_, ?_⟩
  · rw [← he] at hnew ⊢
    exact hl.trans hnew
  · rintro ⟨y, hy, hye⟩
    exact herr ⟨y, List.mem_filter.mpr ⟨hy, by simp only [hye]; rfl⟩, hye⟩
  · intro hall
    exact hgood fun y hy => hall y (List.mem_filter.mp hy).1

end

/-! ### BULK_ENTRY_COMPLETE -/

/-- The front entry's completion word written, with its message (R409, R415). -/
theorem bulkEntryComplete_does {s : State} {x : BulkEntry} {r : List BulkEntry} (hb : s.dev.hif.bulk = x :: r) (hdone : x.done = true) :
    Does .bulkEntryComplete s (fun e => e.hif.bulk = r ∧
      e.host = s.dev.host ++
        [{ addr := s.dev.hif.ring.bulkBase + 32 * (x.pos.toNat % max 1 (bulkSlots s.dev)) + 0x14, bytes := [x.status] },
         { addr := s.dev.hif.ring.bulkBase + 32 * (x.pos.toNat % max 1 (bulkSlots s.dev)) + 0x18, bytes := leN 4 x.pos.toNat }] ∧
      SameBut [.hif, .host] s.dev e) := by
  have hmask := mask_bulkDoneFx (ps := [.hif, .host]) rfl s.dev
  refine act_does_of_clk (f := bulkDoneFx) rfl (clk_of_mask hmask rfl) ⟨?_, ?_, sameBut_of_mask hmask⟩
  · unfold bulkDoneFx
    simp only [hb, hdone, Bool.not_true, Bool.false_eq_true, if_false]
    rw [(bulk_of_rest (vector_rest _ 4)).1]
    rfl
  · unfold bulkDoneFx
    simp only [hb, hdone, Bool.not_true, Bool.false_eq_true, if_false]
    rw [host_of_mask (ps := [.hif]) (mask_vector rfl 4 _) rfl]
    simp [hostWrite, setHif]

theorem bulkEntryComplete_waits {s : State} {x : BulkEntry} {r : List BulkEntry} (hb : s.dev.hif.bulk = x :: r) (hdone : x.done = false) :
    Does .bulkEntryComplete s (fun e => e = s.dev) := by
  have hfx : bulkDoneFx s.dev = s.dev := by
    unfold bulkDoneFx
    simp only [hb, hdone, Bool.not_false, if_true]
  exact act_does_of_clk (f := bulkDoneFx) rfl (by rw [hfx]) hfx

/-! ### The obligation -/

/-- Settles O42: each verdict on the entry at the fetch position, the lines of one whose frame has begun, and its completion. -/
theorem bulkEntries : Obligations.BulkEntries := by
  unfold Obligations.BulkEntries
  intro s _
  refine ⟨?_, fun x r hb => ⟨bulkEntryComplete_does hb, bulkEntryComplete_waits hb⟩⟩
  rintro b lines slot c out hon hserved hslots hgood hbehind hlock hword rfl rfl rfl
  have hfx := bulkReadFx_ready (lines := lines) ⟨hon, hserved, hslots, hgood, hbehind, hlock, hword⟩
  refine ⟨fun hodd => bulkRead_does ?_, fun heven hearly => bulkRead_does ?_, fun heven hfar hlate => bulkRead_does ?_,
    fun heven hfar hcut hslot hbefore htwice => bulkRead_does ?_, fun r m ys heven hfar hcut hbegun hslot hrec hkind hlen hfresh hm hys => ⟨fun htwice =>
      bulkRead_does ?_, fun htwice => bulkRead_does ?_⟩⟩
  · rw [hfx, if_pos hodd]
    exact ⟨rfl, sameBut_of_mask rfl⟩
  · rw [hfx, if_neg (by omega), if_pos hearly]
    exact ⟨rfl, sameBut_of_mask rfl⟩
  · rw [hfx, if_neg (by omega), if_neg (by omega), if_pos (show s.dev.clk.rp.reached (cutoffOf s.dev _) = true from hlate)]
    exact ⟨(raise_bulk _ _ _).1, noticed_raise rfl _ _⟩
  · rw [hfx, if_neg (by omega), if_neg (by omega), if_neg (by rw [cutoffOf, hcut]; decide), if_neg (by omega), if_pos hbefore,
      if_neg (by rw [htwice]; decide)]
    exact ⟨rfl, sameBut_of_mask rfl⟩
  · rw [hfx, if_neg (by omega), if_neg (by omega), if_neg (by rw [cutoffOf, hcut]; decide), if_neg (by omega), if_neg (by rw [hbegun]; decide)]
    simp only [hrec, hkind, ne_eq, not_true_eq_false, if_false, htwice, if_true]
    rfl
  · rw [hfx, if_neg (by omega), if_neg (by omega), if_neg (by rw [cutoffOf, hcut]; decide), if_neg (by omega), if_neg (by rw [hbegun]; decide)]
    simp only [hrec, hkind, ne_eq, not_true_eq_false, if_false, htwice, Bool.false_eq_true]
    obtain ⟨hfetch, hnew, later, st, hbulk, hlater, herr, hok⟩ := readBulk_entry (lines := lines) (d := queueBulk b 0 false s.dev) (r := r)
      (e := bulkOf b 0 false s.dev) (xs := s.dev.hif.bulk) (slot := le b 0 1) (c := BitVec.ofNat 32 (le b 4 4)) (m := m)
      (by change le b 0 1 < s.dev.gest.slots.length; omega) rfl hfresh rfl hm
    subst hys
    exact ⟨hfetch, hnew, _, hbulk, rfl, rfl, rfl, rfl, rfl, hlater, rfl, herr, hok⟩

end Sys2Proof.Proofs

end

/-! ## Sys2Proof/Proofs/Markers: dead-letter markers, the window of a notice, and the ports' commands (R168, R176 to R178, R226, R227, R578) -/

section

namespace Sys2Proof.Proofs

open Machine Laws QueueFacts

/-! ### A marker's word -/

theorem fromBe_append (as bs : List Byte) : fromBe (as ++ bs) = 256 ^ bs.length * fromBe as + fromBe bs := by
  have hgo : ∀ (bs : List Byte) (n : Nat), bs.foldl (fun a b => 256 * a + b.toNat) n = 256 ^ bs.length * n + fromBe bs := by
    intro bs
    induction bs with
    | nil => intro n; simp [fromBe]
    | cons b bs ih =>
      intro n
      simp only [fromBe, List.foldl_cons, List.length_cons]
      rw [ih, ih (256 * 0 + b.toNat), Nat.pow_succ]
      ring
  rw [fromBe, List.foldl_append, hgo]
  rfl

theorem fromBe_beN (n v : Nat) : fromBe (beN n v) = v % 256 ^ n := by
  induction n generalizing v with
  | zero => simp [beN, leN, fromBe, Nat.mod_one]
  | succ n ih =>
    have hbe : beN (n + 1) v = beN n (v / 256) ++ [BitVec.ofNat 8 v] := by simp [beN, leN]
    rw [hbe, fromBe_append, ih, Nat.pow_succ', Nat.mod_mul]
    simp [fromBe]
    omega

/-- A number written big-endian amid other bytes reads back. -/
theorem be_mid {a c : List Byte} {n v off : Nat} (hoff : off = a.length) (hv : v < 256 ^ n) : be (a ++ (beN n v ++ c)) off n = v := by
  rw [be, cut_mid _ _ _ _ _ hoff (beN_length n v).symm, fromBe_beN, Nat.mod_eq_of_lt hv]

theorem ls_lt {a : RP} (hl : a.line < 2 ^ 13) (hs : a.sub < 2 ^ 16) : a.ls < 2 ^ 32 := by
  rw [RP.ls]
  omega

theorem ofWords_ls {a : RP} (hl : a.line < 2 ^ 13) (hs : a.sub < 2 ^ 16) :
    RP.ofWords (BitVec.ofNat 32 a.frame.toNat) (BitVec.ofNat 32 a.ls) = a := by
  obtain ⟨frame, line, sub⟩ := a
  have hls : 65536 * line + sub < 2 ^ 32 := ls_lt (a := ⟨frame, line, sub⟩) hl hs
  simp only at hl hs
  have hline : (65536 * line + sub) / 65536 % 8192 = line := by omega
  simp only [RP.ofWords, RP.ls, BitVec.toNat_ofNat, Nat.mod_eq_of_lt hls, bitsOf, BitVec.ofNat_toNat, BitVec.setWidth_eq]
  norm_num
  exact ⟨hline, hs⟩

section
variable {p : Nat} {m : Marker}

theorem markerWord_data (p : Nat) (m : Marker) : (markerWord p m).data =
    zeros 19 ++ leN 1 p ++ beN 4 m.first.ls ++ beN 4 m.first.frame.toNat ++ beN 4 m.count := by
  have hlen : (zeros 19 ++ leN 1 p ++ beN 4 m.first.ls ++ beN 4 m.first.frame.toNat ++ beN 4 m.count).length = 32 := by
    simp [zeros, leN_length, beN_length]
  rw [markerWord, ftqWord]
  exact List.take_left' hlen

theorem markerOf_markerWord (hc : m.count < 2 ^ 32) (hl : m.first.line < 2 ^ 13) (hs : m.first.sub < 2 ^ 16) :
    markerOf (markerWord p m) = m := by
  have h20 : be (markerWord p m).data 20 4 = m.first.ls := by
    rw [markerWord_data, List.append_assoc, List.append_assoc]
    exact be_mid (by simp [zeros, leN_length]) (ls_lt hl hs)
  have h24 : be (markerWord p m).data 24 4 = m.first.frame.toNat := by
    rw [markerWord_data, List.append_assoc]
    exact be_mid (by simp [zeros, leN_length, beN_length]) m.first.frame.isLt
  have h28 : be (markerWord p m).data 28 4 = m.count := by
    rw [markerWord_data, ← List.append_nil (beN 4 m.count)]
    exact be_mid (by simp [zeros, leN_length, beN_length]) hc
  rw [markerOf, h20, h24, h28, ofWords_ls hl hs]

theorem ftqWord_fails (data : List Byte) (sop eop mark : Bool) : (ftqWord data sop eop mark).fails = false := bne_self_eq_false _

theorem markerWord_fails (p : Nat) (m : Marker) : (markerWord p m).fails = false := by
  rw [markerWord]
  exact ftqWord_fails _ _ _ _

end

/-! ### QUEUE_MARKER_WRITE and QUEUE_MARKER_READ -/

section
variable {s : State} {p : Fin 10}

theorem hasPort_of_lengths {d : Device} (hl : d.link.length = 8) (hi : d.ing.length = 2) (p : Fin 10) : HasPort d p.val := by
  have hp := p.isLt
  unfold HasPort
  split <;> omega

/-- A queue with a marker's word at its gap. -/
def markerPut (p : Nat) (m : Marker) (q : PortQueue) : PortQueue := { q.hold (q.words ++ [markerWord p m]) with gap := none }

theorem markerWriteFx_room {d : Device} {p : Nat} {m : Marker} (hgap : (queueOf d p).gap = some m) (hroom : (queueOf d p).used < queueRoom) :
    markerWriteFx p d = queueSample p ((queueOf d p).used + 1) (setQueue p (markerPut p m) d) := by
  unfold markerWriteFx
  simp only [hgap, hroom, if_true]
  rfl

theorem queueMarkerWrite_does {m : Marker} (hhas : HasPort s.dev p.val) (hgap : (queueOf s.dev p.val).gap = some m)
    (hroom : (queueOf s.dev p.val).used < 608) : Does (.queueMarkerWrite p) s (fun e => (queueOf e p.val).gap = none ∧
      (queueOf e p.val).words = (queueOf s.dev p.val).words ++ [markerWord p.val m] ∧ SameBut (.ing :: reporting) s.dev e) := by
  have hfx := markerWriteFx_room hgap hroom
  have hmask := mask_markerWriteFx (ps := [.link, .ing, .flows, .hif, .sent, .host, .notes]) rfl p.val s.dev
  refine act_does_of_clk (f := markerWriteFx p.val) rfl (clk_of_mask hmask rfl) ⟨?_, ?_, sameBut_of_mask hmask⟩
  · rw [hfx, (sameQueues_queueSample _ _ _).gap, queueOf_setQueue hhas, markerPut]
  · rw [hfx, (sameQueues_queueSample _ _ _).words, queueOf_setQueue hhas]
    exact hold_words (queueOf s.dev p.val) _

theorem queueMarkerWrite_waits (h : (queueOf s.dev p.val).gap = none ∨ 608 ≤ (queueOf s.dev p.val).used) :
    Does (.queueMarkerWrite p) s (fun e => e = s.dev) := by
  have hfx : markerWriteFx p.val s.dev = s.dev := by
    cases hgap : (queueOf s.dev p.val).gap with
    | none => exact markerWriteFx_none hgap
    | some m =>
      have hfull : ¬(queueOf s.dev p.val).used < queueRoom := by
        rcases h with h | h
        · exact absurd (hgap.symm.trans h) (by simp)
        · exact Nat.not_lt.mpr h
      unfold markerWriteFx
      simp only [hgap, hfull, if_false]
  exact act_does_of_clk (f := markerWriteFx p.val) rfl (by rw [hfx]) hfx

/-- The number of dropped packets that a marker's word stands for as it is read (R227, R229). -/
def markedDrops (poison : Bool) (w : FtqWord) : Nat := if poison then 1 else (markerOf w).count

/-- The device once a marker's count is added to its port's register. -/
def markerCounted (p : Nat) (poison : Bool) (w : FtqWord) (r : List FtqWord) (d : Device) : Device :=
  queueSample p r.length ((setQueue p (fun q => q.hold r) d).bump (qdropReg p) (markedDrops poison w))

theorem markerReadFx_some {d : Device} {p : Nat} {w : FtqWord} {r : List FtqWord} (poison : Bool)
    (h : (queueOf d p).words.dropWhile (fun w => !w.mark) = w :: r) : markerReadFx p poison d =
      rateEvent 0x1030 p (leN 1 p ++ zeros 3) (markerOf w).first.bytes (markedDrops poison w) poison (markerCounted p poison w r d) := by
  unfold markerReadFx
  simp only [h]
  rfl

theorem rateEvent_opens {d : Device} (h : d.hif.wins = []) (code subject : Nat) (detail tail : List Byte) (n : Nat) (allOnes : Bool) :
    (rateEvent code subject detail tail n allOnes d).hif.wins =
      [{ code := BitVec.ofNat 16 code, subject := subject, detail := detail, tail := tail, count := satAdd 0xFFFFFFFF 0 n, allOnes := allOnes }] := by
  unfold rateEvent
  simp only [h]
  rfl

theorem markerCounted_word (p : Nat) (poison : Bool) (w : FtqWord) (r : List FtqWord) (d : Device) :
    (markerCounted p poison w r d).word (qdropReg p) = satAdd 0xFFFFFFFF (d.word (qdropReg p)) (markedDrops poison w) := by
  have hq : (setQueue p (fun q => q.hold r) d).word (qdropReg p) = d.word (qdropReg p) :=
    word_of_regs (by unfold setQueue; split <;> rfl) _
  rw [markerCounted, queueSample, word_of_regs (regs_of_mask (ps := others .regs) (mask_sample rfl _ _ _) rfl), word_bump, hq]

theorem markerCounted_wins (p : Nat) (poison : Bool) (w : FtqWord) (r : List FtqWord) (d : Device) :
    (markerCounted p poison w r d).hif.wins = d.hif.wins := by
  have hq : (setQueue p (fun q => q.hold r) d).hif = d.hif := by
    unfold setQueue
    split <;> rfl
  exact (rest_get Hif.wins (by intro h; rfl) (sample_rest _ _ _)).trans (congrArg Hif.wins hq)

theorem any_mark {ws r : List FtqWord} {w : FtqWord} (h : ws.dropWhile (fun w => !w.mark) = w :: r) : ws.any (fun w => w.mark) = true := by
  by_contra hno
  have hall : ∀ x ∈ ws, (!x.mark) = true := fun x hx => by
    have := List.any_eq_false.mp (Bool.eq_false_iff.mpr hno) x hx
    simpa using this
  rw [List.dropWhile_eq_nil_iff.mpr hall] at h
  cases h

/-- A marker read, with the parity failure that a poisoned one counts (R229). -/
def markerRead (p : Nat) (poison : Bool) (d : Device) : Device := when poison (parityCount p 1) (markerReadFx p poison d)

theorem markerRead_parts (p : Nat) (poison : Bool) (d : Device) : blank [.spare] (markerRead p poison d) = blank [.spare] (markerReadFx p poison d) := by
  cases poison <;> rfl

theorem queueMarkerRead_does {w : FtqWord} {r : List FtqWord} {poison : Bool} (hhas : HasPort s.dev p.val)
    (h : (queueOf s.dev p.val).words.dropWhile (fun w => !w.mark) = w :: r) :
    Does (.queueMarkerRead p poison) s (fun e => (queueOf e p.val).words = r ∧
      e.word (qdropReg p.val) = satAdd 0xFFFFFFFF (s.dev.word (qdropReg p.val)) (markedDrops poison w) ∧
      (s.dev.hif.wins = [] → ∃ x, e.hif.wins = [x] ∧ x.code = 0x1030 ∧ x.subject = p.val ∧
        x.count = satAdd 0xFFFFFFFF 0 (markedDrops poison w) ∧ x.tail = (markerOf w).first.bytes ∧ x.allOnes = poison)) := by
  have hfx := markerReadFx_some poison h
  have hspare := markerRead_parts p.val poison s.dev
  have hrate : blank [.hif, .spare] (markerRead p.val poison s.dev) = blank [.hif, .spare] (markerCounted p.val poison w r s.dev) := by
    refine (mask_mono rfl hspare).trans ?_
    rw [hfx]
    exact mask_rateEvent rfl _ _ _ _ _ _ _
  have hqueue : SameQueues (markerCounted p.val poison w r s.dev) (markerRead p.val poison s.dev) :=
    .of_parts (link_of_mask hrate rfl) (ing_of_mask hrate rfl)
  have hwhen : when ((queueOf s.dev p.val).words.any (fun w => w.mark)) (fun d => when poison (parityCount p.val 1) (markerReadFx p.val poison d)) s.dev =
      markerRead p.val poison s.dev := by
    rw [any_mark h, when_true, markerRead]
  have hclk : (markerRead p.val poison s.dev).clk = s.dev.clk :=
    (clk_of_mask hspare rfl).trans (clk_of_mask (ps := others .clk) (mask_markerReadFx rfl _ _ _) rfl)
  refine act_does_of_clk (f := fun d => when ((queueOf d p.val).words.any (fun w => w.mark))
    (fun d => when poison (parityCount p.val 1) (markerReadFx p.val poison d)) d) rfl ?_ ?_ <;> rw [hwhen]
  · exact hclk
  · refine ⟨?_, ?_, fun hwins => ?_⟩
    · rw [hqueue.words, markerCounted, (sameQueues_queueSample _ _ _).words]
      exact (congrArg PortQueue.words (queueOf_setQueue hhas _)).trans (hold_words _ _)
    · rw [word_of_regs (regs_of_mask hrate rfl), markerCounted_word]
    · rw [hif_of_mask hspare rfl, hfx, rateEvent_opens ((markerCounted_wins _ _ _ _ _).trans hwins)]
      exact ⟨_, rfl, rfl, rfl, rfl, rfl, rfl⟩

end

/-! ### NOTICE_WINDOW_CLOSE -/

/-- The device once a window is closed, its notice apart. -/
def windowClosed (code : BitVec 16) (subject : Nat) (d : Device) : Device :=
  setHif (fun h => { h with wins := h.wins.filter (fun x => !(x.code == code && x.subject == subject)) }) d

theorem windowCloseFx_raise {d : Device} {code : BitVec 16} {subject : Nat} {w : RateWin} (hcode : code ≠ 0x1030 ∨ d.isHead = true)
    (h : d.hif.wins.find? (fun x => x.code == code && x.subject == subject) = some w) :
    windowCloseFx code subject d = raise code.toNat (windowBytes w) (windowClosed code subject d) := by
  have hdb : ∀ k, setHif (fun h => { h with wins := h.wins.filter (fun x => !(x.code == k && x.subject == subject)) }) d = windowClosed k subject d :=
    fun k => rfl
  unfold windowCloseFx
  simp only [h, hdb]
  by_cases hc : code = 0x1030
  · subst hc
    have hh : (windowClosed 0x1030 subject d).isHead = true := hcode.resolve_left fun hne => hne rfl
    exact (if_pos rfl).trans (report_head hh _ _ _ _)
  · rw [if_neg hc]

theorem noticeWindowClose_does {s : State} {code : BitVec 16} {subject : Nat} {w : RateWin} (hcode : code ≠ 0x1030 ∨ s.dev.isHead = true)
    (h : s.dev.hif.wins.find? (fun x => x.code == code && x.subject == subject) = some w) :
    Does (.noticeWindowClose code subject) s (fun e => Noticed s.dev e code.toNat (windowBytes w) ∧
      e.hif.wins = s.dev.hif.wins.filter (fun x => !(x.code == code && x.subject == subject)) ∧ SameBut reporting s.dev e) := by
  have hfx := windowCloseFx_raise hcode h
  have hmask : blank reporting (windowCloseFx code subject s.dev) = blank reporting s.dev := by
    rw [hfx]
    exact (mask_raise rfl _ _ _).trans rfl
  refine act_does_of_clk (f := windowCloseFx code subject) rfl (clk_of_mask hmask rfl) ⟨?_, ?_, sameBut_of_mask hmask⟩
  · rw [hfx]
    exact noticed_raise rfl _ _
  · rw [hfx]
    exact rest_get Hif.wins (by intro h; rfl) (raise_rest _ _ _)

/-! ### PORT_THRESHOLD_SET and PORT_STATS_QUERY -/

theorem samePorts_finish (op : Nat) (c : Cmd) (effect : RP) (result : List Byte) (d : Device) : SamePorts d (finish op c effect result d) := by
  unfold finish
  extract_lets d1
  have h1 : SamePorts d d1 := samePorts_complete _ _ _ _ _ _
  unfold when
  split
  · unfold eventLate
    exact h1.trans (samePorts_report _ _ _ _ _)
  · exact h1

section
variable {s : State} {c : Cmd}

theorem portThresholdSet_does (hlen : opB c 0 < s.dev.link.length) (hp : opB c 0 ≤ 7) (hmod : opN c 2 2 % 256 = 0) (hlow : 512 ≤ opN c 2 2)
    (hhigh : opN c 2 2 ≤ 9216) : Does (.portThresholdSet c) s (fun e => (e.port (opB c 0)).thresh = opN c 2 2 ∧
      Finished s.dev e 0x10 c (boundaryRp s.dev) [] ∧ SameBut (.comps :: reporting) s.dev e) := by
  have hfx : portThresholdFx c s.dev = finish 0x10 c (boundaryRp s.dev) [] (s.dev.setPort (opB c 0) (fun l => { l with thresh := opN c 2 2 })) :=
    if_neg (by omega)
  have hmask := mask_portThresholdFx (ps := .comps :: reporting) rfl c s.dev
  refine act_does_of_clk (f := portThresholdFx c) rfl (clk_of_mask hmask rfl) ⟨?_, ?_, sameBut_of_mask hmask⟩
  · rw [hfx]
    refine (core_get LinkPort.thresh (by intro x; rfl) (samePorts_port (samePorts_finish _ _ _ _ _) _)).trans ?_
    rw [port_setPort_same hlen]
  · rw [hfx]
    exact finished_finish (d := s.dev) (by rfl) _ _ _ _

theorem portThresholdSet_refused (h : 7 < opB c 0 ∨ opN c 2 2 % 256 ≠ 0 ∨ opN c 2 2 < 512 ∨ 9216 < opN c 2 2) :
    Does (.portThresholdSet c) s (fun e => Completed s.dev e 0x10 c 4 none [] ∧ SameBut (.comps :: reporting) s.dev e ∧
      ∀ p, (e.port p).thresh = (s.dev.port p).thresh) := by
  have hfx : portThresholdFx c s.dev = refuse 0x10 c 4 [] s.dev := if_pos h
  have hmask := mask_portThresholdFx (ps := .comps :: reporting) rfl c s.dev
  refine act_does_of_clk (f := portThresholdFx c) rfl (clk_of_mask hmask rfl) ⟨?_, sameBut_of_mask hmask, fun p => ?_⟩
  · rw [hfx]
    exact completed_refuse (d := s.dev) (by rfl) _ _ _ _
  · rw [hfx]
    exact core_get LinkPort.thresh (by intro x; rfl) (samePorts_port (samePorts_complete _ _ _ _ _ _) p)

/-- The device with all ports' classes cleared (R168). -/
def statsCleared (d : Device) : Device :=
  { d with link := d.link.map (fun l => { l with stat := List.replicate 8 0 }), ing := d.ing.map (fun l => { l with stat := List.replicate 8 0 }) }

theorem statsCleared_port {d : Device} {p : Nat} (hp : p < d.link.length) : ((statsCleared d).port p).stat = List.replicate 8 0 := by
  simp [statsCleared, Device.port, hp]

theorem statsCleared_ingPort {d : Device} {p : Nat} (hp : p < d.ing.length) : ((statsCleared d).ingPort p).stat = List.replicate 8 0 := by
  simp [statsCleared, Device.ingPort, hp]

theorem portStatsQuery_does (s : State) (c : Cmd) : Does (.portStatsQuery c) s (fun e =>
    (∀ p, p < s.dev.link.length → (e.port p).stat = List.replicate 8 0) ∧
    (∀ p, p < s.dev.ing.length → (e.ingPort p).stat = List.replicate 8 0) ∧ SameBut (.ing :: .comps :: reporting) s.dev e ∧
    Finished s.dev e 0x11 c s.dev.clk.rp (s.dev.link.flatMap (fun l => leN 2 (statWord l.stat)) ++
      s.dev.ing.flatMap (fun l => leN 2 (if s.dev.isHead then statWord l.stat else 0)))) := by
  have hmask := mask_portStatsFx (ps := .ing :: .comps :: reporting) rfl c s.dev
  have hfx : portStatsFx c s.dev = finish 0x11 c s.dev.clk.rp (s.dev.link.flatMap (fun l => leN 2 (statWord l.stat)) ++
      s.dev.ing.flatMap (fun l => leN 2 (if s.dev.isHead then statWord l.stat else 0))) (statsCleared s.dev) := rfl
  refine act_does_of_clk (f := portStatsFx c) rfl (clk_of_mask hmask rfl) ⟨fun p hp => ?_, fun p hp => ?_, sameBut_of_mask hmask, ?_⟩
  · rw [hfx, ← statsCleared_port hp]
    exact core_get LinkPort.stat (by intro x; rfl) (samePorts_port (samePorts_finish _ _ _ _ _) p)
  · rw [hfx, Device.ingPort, finish_ing]
    exact statsCleared_ingPort hp
  · rw [hfx]
    exact finished_finish (d := s.dev) (by rfl) _ _ _ _

/-! ### MACSEC_SA_INSTALL -/

/-- The association that a record makes (R178). -/
def saOf (c : Cmd) (b : List Byte) : Sa :=
  { sak := cut b 0 32, sci := BitVec.ofNat 64 (le b 0x20 8),
    pn := if hasBit (opB c 9) 0 then nearest 1 0xFFFFFFFF (le b 0x28 4) else le b 0x28 4,
    an := bitsOf (opB c 9) 2 1, low := if hasBit (opB c 9) 0 then 0 else le b 0x28 4 }

/-- The port with that association. -/
def saPut (c : Cmd) (b : List Byte) (l : IngPort) : IngPort :=
  if hasBit (opB c 9) 0 then installTx (saOf c b) (hasBit (opB c 9) 3) l else { l with rxSa := setAt l.rxSa (bitsOf (opB c 9) 2 1) (some (saOf c b)) }

theorem macsecFx_good {d : Device} {b : List Byte} (hhead : d.isHead = true) (ha : misaligned c = false) (hp : opB c 8 ≤ 1)
    (hflags : hasBit (opB c 9) 3 = true → hasBit (opB c 9) 0 = true) (hb : c.host = .data b) :
    macsecFx c d = finish 0x12 c (boundaryRp d) [] (setIng (opB c 8) (saPut c b) d) := by
  have hbad : ¬(misaligned c = true ∨ 1 < opB c 8 ∨ (hasBit (opB c 9) 3 && !hasBit (opB c 9) 0) = true) := by
    rintro (h | h | h)
    · rw [ha] at h
      cases h
    · omega
    · simp only [Bool.and_eq_true, Bool.not_eq_true'] at h
      rw [hflags h.1] at h
      cases h.2
  unfold macsecFx
  simp only [hhead, Bool.not_true, Bool.false_eq_true, if_false, if_neg hbad, hb]
  rfl

/-- A record that is good is installed on its port. -/
theorem macsec_installs {b : List Byte} {q : Device → Prop} (hhead : s.dev.isHead = true) (ha : misaligned c = false) (hp : opB c 8 ≤ 1)
    (hflags : hasBit (opB c 9) 3 = true → hasBit (opB c 9) 0 = true) (hb : c.host = .data b)
    (hq : ∀ e : Device, e.ing = (setIng (opB c 8) (saPut c b) s.dev).ing → Finished s.dev e 0x12 c (boundaryRp s.dev) [] →
      SameBut (.ing :: .comps :: reporting) s.dev e → q e) : Does (.macsecSaInstall c) s q := by
  have hfx := macsecFx_good (d := s.dev) hhead ha hp hflags hb
  have hmask := mask_macsecFx (ps := .ing :: .comps :: reporting) rfl c s.dev
  refine act_does_of_clk (f := macsecFx c) rfl (clk_of_mask hmask rfl) (hq _ ?_ ?_ (sameBut_of_mask hmask))
  · rw [hfx, finish_ing]
  · rw [hfx]
    exact finished_finish (d := s.dev) (by rfl) _ _ _ _

theorem ingPort_put {e : Device} {p : Nat} {f : IngPort → IngPort} {d : Device} (h : e.ing = (setIng p f d).ing) (hp : p < d.ing.length) :
    e.ingPort p = f (d.ingPort p) := by
  rw [Device.ingPort, h]
  exact getD_modAt_same hp _ _

theorem saOf_tx {b : List Byte} (h : hasBit (opB c 9) 0 = true) : saOf c b =
    { sak := cut b 0 32, sci := BitVec.ofNat 64 (le b 0x20 8), pn := nearest 1 0xFFFFFFFF (le b 0x28 4), an := bitsOf (opB c 9) 2 1, low := 0 } := by
  simp only [saOf, h, if_true]

theorem saPut_rx {b : List Byte} {l : IngPort} (h : hasBit (opB c 9) 0 = false) : saPut c b l =
    { l with rxSa := setAt l.rxSa (bitsOf (opB c 9) 2 1) (some
        { sak := cut b 0 32, sci := BitVec.ofNat 64 (le b 0x20 8), pn := le b 0x28 4, an := bitsOf (opB c 9) 2 1, low := le b 0x28 4 }) } := by
  simp only [saPut, saOf, h, Bool.false_eq_true, if_false]

theorem saPut_active {b : List Byte} {l : IngPort} (h : hasBit (opB c 9) 0 = true) (hact : hasBit (opB c 9) 3 = true) (hw : l.txWait = none) :
    saPut c b l = { l with txSa := some (saOf c b) } := by
  simp only [saPut, installTx, h, hact, hw, if_true, Bool.not_true, Bool.false_eq_true, if_false]

theorem saPut_waits {b : List Byte} {l : IngPort} (h : hasBit (opB c 9) 0 = true) (hact : hasBit (opB c 9) 3 = false) :
    saPut c b l = { l with txWait := some (saOf c b) } := by
  simp only [saPut, installTx, h, hact, if_true, Bool.not_false]

theorem macsec_refused {status : Nat} (hfx : macsecFx c s.dev = refuse 0x12 c status [] s.dev) :
    Does (.macsecSaInstall c) s (fun e => Completed s.dev e 0x12 c status none [] ∧ e.ing = s.dev.ing) := by
  refine act_does_of_clk (f := macsecFx c) rfl (by rw [hfx, refuse_clk]) ?_
  rw [hfx]
  exact ⟨completed_refuse (d := s.dev) (by rfl) _ _ _ _, refuse_ing _ _ _ _ _⟩

end

/-! ### The obligation -/

/-- Settles O31: the marker's word and its two events, the close of a window, and the three commands of the ports. -/
theorem markersAndPortCommands : Obligations.MarkersAndPortCommands := by
  unfold Obligations.MarkersAndPortCommands
  refine ⟨⟨fun p m hc hl hs => ⟨markerOf_markerWord hc hl hs, rfl, markerWord_fails p m⟩, fun s p hlink hing =>
      have hhas := hasPort_of_lengths hlink hing p
      ⟨fun m hgap hroom => queueMarkerWrite_does hhas hgap hroom, queueMarkerWrite_waits,
        fun w r poison h => queueMarkerRead_does hhas h, fun code subject w hcode h => noticeWindowClose_does hcode h⟩⟩,
    fun s c => ⟨portThresholdSet_does, portThresholdSet_refused, portStatsQuery_does s c, ?_, ?_, ?_⟩⟩
  · intro b hhead ha hp hb hlen
    refine ⟨fun hrx hact => macsec_installs hhead ha hp (by simp [hact]) hb fun e hing hfin hsame => ⟨hfin, fun l hl => ?_, hsame⟩, fun htx =>
      ⟨fun hact hwait => macsec_installs hhead ha hp (fun _ => htx) hb fun e hing hfin hsame => ⟨hfin, ?_, hsame⟩,
        fun hact => macsec_installs hhead ha hp (fun _ => htx) hb fun e hing hfin hsame => ⟨hfin, ?_, ?_, hsame⟩⟩⟩
    · rw [hing, ← saPut_rx hrx]
      simp [setIng, modAt, hl]
    · rw [ingPort_put hing (by omega), saPut_active htx hact hwait, saOf_tx htx]
    · rw [ingPort_put hing (by omega), saPut_waits htx hact]
    · rw [ingPort_put hing (by omega), saPut_waits htx hact, saOf_tx htx]
  · intro hhead hbad
    refine macsec_refused ?_
    have hbad' : misaligned c = true ∨ 1 < opB c 8 ∨ (hasBit (opB c 9) 3 && !hasBit (opB c 9) 0) = true := by simpa using hbad
    unfold macsecFx
    simp only [hhead, Bool.not_true, Bool.false_eq_true, if_false, if_pos hbad']
  · intro hnode
    refine macsec_refused ?_
    unfold macsecFx
    simp only [hnode, Bool.not_false, if_true]

end Sys2Proof.Proofs

end

/-! ## Sys2Proof/Proofs/Breaks: transmit underruns, broken frames, frames of no known class, and backlogs (R108, R113, R146, R155, R157) -/

section

namespace Sys2Proof.Proofs

open Machine Laws QueueFacts

/-! ### TRANSMIT_UNDERRUN -/

section
variable {s : State} {p : Fin 8} {c : CutFrame} {d : Device} {q : Nat} {sent frame : List Byte}

/-- The device once the bytes sent have left with a stomped FCS. -/
def cutSent (p : Nat) (sent : List Byte) (d : Device) : Device :=
  { d with sent := d.sent ++ [{ port := p, bytes := sent ++ stompedFcs sent, stomped := true }] }

/-- The device once the cut frame has left and is counted (R157). -/
def cutOff (p : Nat) (sent frame : List Byte) (d : Device) : Device :=
  countStat ((cutSent p sent d).setPort p (fun l => { l with cutShort := some frame })) p 3

theorem cutOff_length : (cutOff q sent frame d).link.length = d.link.length := by
  unfold cutOff countStat
  split
  · rw [setPort_length, setPort_length, cutSent]
  · exact setPort_length (cutSent q sent d) q _

theorem cutOff_port (hq : q < 8) (hlen : q < d.link.length) : (cutOff q sent frame d).port q =
    { d.port q with cutShort := some frame, stat := modAt (d.port q).stat 3 (fun n => satAdd 16 n 1) } := by
  unfold cutOff countStat
  rw [if_pos hq, port_setPort_same (by rw [setPort_length]; exact hlen), port_setPort_same (d := cutSent q sent d) hlen]
  rfl

theorem cutOff_sent : (cutOff q sent frame d).sent = d.sent ++ [{ port := q, bytes := sent ++ stompedFcs sent, stomped := true }] := by
  unfold cutOff countStat
  split <;> rfl

theorem underrunFx_up (hup : (d.port q).up = true) (hlpi : (d.port q).lpiTx = false) : underrunFx q sent frame d =
    if 9216 ≤ ((cutOff q sent frame d).port q).thresh then cutOff q sent frame d
    else raise 0x1002 (leN 1 q ++ zeros 1 ++ leN 2 (((cutOff q sent frame d).port q).thresh + 256))
      ((cutOff q sent frame d).setPort q (fun l => { l with thresh := ((cutOff q sent frame d).port q).thresh + 256 })) := by
  have htx : tx d { port := q, bytes := sent ++ stompedFcs sent, stomped := true } =
      cutSent q sent d := tx_sends ⟨hup, hlpi⟩
  rw [underrunFx, if_neg (by simp [hup]), htx]
  rfl

theorem transmitUnderrun_raises (hlen : s.dev.link.length = 8) (hhead : s.dev.isHead = true) (hup : (s.dev.port p.val).up = true)
    (hlpi : (s.dev.port p.val).lpiTx = false) (ht : (s.dev.port p.val).thresh < 9216) :
    Does (.transmitUnderrun p c) s (fun e => (e.port p.val).thresh = (s.dev.port p.val).thresh + 256 ∧
      (e.port p.val).cutShort = some c.frame ∧
      Noticed s.dev e 0x1002 (leN 1 p.val ++ zeros 1 ++ leN 2 ((s.dev.port p.val).thresh + 256)) ∧
      e.sent = s.dev.sent ++ [{ port := p.val, bytes := c.sent ++ stompedFcs c.sent, stomped := true }] ∧ SameBut reporting s.dev e) := by
  have hlt : p.val < s.dev.link.length := by omega
  have hport := cutOff_port (sent := c.sent) (frame := c.frame) p.isLt hlt
  have hthresh : ((cutOff p.val c.sent c.frame s.dev).port p.val).thresh = (s.dev.port p.val).thresh := by rw [hport]
  have hcut : blank [.link, .sent] (cutOff p.val c.sent c.frame s.dev) = blank [.link, .sent] s.dev := by
    rw [cutOff, countStat, if_pos p.isLt]
    rfl
  have hfx := underrunFx_up (sent := c.sent) (frame := c.frame) hup hlpi
  rw [if_neg (by omega), hthresh] at hfx
  have hh : ((cutOff p.val c.sent c.frame s.dev).setPort p.val (fun l => { l with thresh := (s.dev.port p.val).thresh + 256 })).isHead = true := by
    rw [Device.isHead, setPort_pwr, pwr_of_mask hcut rfl]
    exact hhead
  have hset : blank [.link, .sent] ((cutOff p.val c.sent c.frame s.dev).setPort p.val (fun l => { l with thresh := (s.dev.port p.val).thresh + 256 })) =
      blank [.link, .sent] s.dev := hcut
  have hnew : ((cutOff p.val c.sent c.frame s.dev).setPort p.val (fun l => { l with thresh := (s.dev.port p.val).thresh + 256 })).port p.val =
      { (cutOff p.val c.sent c.frame s.dev).port p.val with thresh := (s.dev.port p.val).thresh + 256 } :=
    port_setPort_same (by rw [cutOff_length]; exact hlt) _
  have hsent : ((cutOff p.val c.sent c.frame s.dev).setPort p.val (fun l => { l with thresh := (s.dev.port p.val).thresh + 256 })).sent =
      s.dev.sent ++ [{ port := p.val, bytes := c.sent ++ stompedFcs c.sent, stomped := true }] := cutOff_sent
  generalize (cutOff p.val c.sent c.frame s.dev).setPort p.val (fun l => { l with thresh := (s.dev.port p.val).thresh + 256 }) = d2 at *
  have hkeep : ∀ e, (raise 0x1002 e d2).port p.val = d2.port p.val := fun e => by rw [Device.port, raise_link_head hh, Device.port]
  have hmask : ∀ e, blank reporting (raise 0x1002 e d2) = blank reporting s.dev := fun e =>
    (mask_mono rfl (raise_mask_head hh 0x1002 e)).trans (mask_mono rfl hset)
  refine act_does_of_clk (f := underrunFx p.val c.sent c.frame) rfl (by rw [hfx]; exact clk_of_mask (hmask _) rfl) ?_
  rw [hfx]
  refine ⟨?_, ?_, noticed_raise (notes_of_mask hset rfl) _ _, (raise_sent_head hh _ _).trans hsent, sameBut_of_mask (hmask _)⟩
  · rw [hkeep, hnew]
  · rw [hkeep, hnew, hport]

theorem transmitUnderrun_stays (hlen : s.dev.link.length = 8) (hup : (s.dev.port p.val).up = true)
    (hlpi : (s.dev.port p.val).lpiTx = false) (ht : 9216 ≤ (s.dev.port p.val).thresh) :
    Does (.transmitUnderrun p c) s (fun e => (e.port p.val).thresh = (s.dev.port p.val).thresh ∧
      (e.port p.val).cutShort = some c.frame ∧ e.notes = s.dev.notes ∧
      e.sent = s.dev.sent ++ [{ port := p.val, bytes := c.sent ++ stompedFcs c.sent, stomped := true }] ∧ SameBut [.link, .sent] s.dev e) := by
  have hlt : p.val < s.dev.link.length := by omega
  have hport := cutOff_port (sent := c.sent) (frame := c.frame) p.isLt hlt
  have hfx := underrunFx_up (sent := c.sent) (frame := c.frame) hup hlpi
  rw [if_pos (by rw [hport]; exact ht)] at hfx
  have hcut : blank [.link, .sent] (cutOff p.val c.sent c.frame s.dev) = blank [.link, .sent] s.dev := by
    rw [cutOff, countStat, if_pos p.isLt]
    rfl
  refine act_does_of_clk (f := underrunFx p.val c.sent c.frame) rfl (by rw [hfx]; exact clk_of_mask hcut rfl) ?_
  rw [hfx]
  refine ⟨?_, ?_, notes_of_mask hcut rfl, cutOff_sent, sameBut_of_mask hcut⟩ <;> rw [hport]

end

/-! ### RX_BLOCK_ERROR -/

theorem rxBlockError_does {f : RxFrame} {s : State} (hlen : f.port.val < s.dev.link.length) (hup : (s.dev.port f.port.val).up = true)
    (henv : silnalEnvelope f = false) : Does (.rxBlockError f) s (fun e =>
      (e.port f.port.val).stat = modAt (s.dev.port f.port.val).stat 0 (fun n => satAdd 16 n 1) ∧ SameBut (.ing :: reporting) s.dev e) := by
  have hfx : rxBlockFx f s.dev = queueVerdict f.port.val (f.bytes.take 9212) true
      (queueWrite f.port.val (f.bytes.take 9212) f.read f.bad (countStat s.dev f.port.val 0)) := by
    rw [rxBlockFx, if_neg (by simp [hup])]
    exact if_pos (by simp [henv])
  have hcount : countStat s.dev f.port.val 0 = s.dev.setPort f.port.val (fun l => { l with stat := modAt l.stat 0 (fun n => satAdd 16 n 1) }) :=
    if_pos f.port.isLt
  have hmask : blank (.ing :: reporting) (rxBlockFx f s.dev) = blank (.ing :: reporting) s.dev := by
    rw [hfx]
    refine (mask_queueVerdict rfl _ _ _ _).trans ((mask_queueWrite rfl _ _ _ _ _).trans ?_)
    rw [hcount]
    rfl
  refine act_does_of_clk (f := rxBlockFx f) rfl (clk_of_mask hmask rfl) ⟨?_, sameBut_of_mask hmask⟩
  rw [hfx, SameRest.linkStat ((sameRest_queueWrite _ _ _ _ _).trans (sameRest_queueVerdict _ _ _ _)), hcount, port_setPort_same hlen]

/-! ### FOREIGN_FRAME -/

theorem failing_nil (bs : List Byte) : failing bs [] = 0 := by
  have hall : ∀ w ∈ packetWords bs [], ¬(FtqWord.fails w) = true := by
    intro w hw
    obtain ⟨i, _, rfl⟩ := List.mem_map.mp hw
    exact Bool.eq_false_iff.mp (ftqWord_fails _ _ _ _)
  rw [failing, List.filter_eq_nil_iff.mpr hall]
  rfl

theorem foreignFrame_does {f : RxFrame} {s : State} (hup : (s.dev.port f.port.val).up = true) (hwire : wireCheck f = .good)
    (henv : silnalEnvelope f = false) (hlldp : isLldp f = false) (hmac : isMacControl f = false)
    (hroom : (queueWrite f.port.val (queueBytes f) f.read f.bad s.dev).full = false) (hbad : f.bad = []) :
    Does (.foreignFrame f) s (fun e => e.word (lnkReg f.port.val 0x0C) = satAdd 0xFFFFFFFF (s.dev.word (lnkReg f.port.val 0x0C)) 1 ∧
      SameBut (.ing :: .regs :: reporting) s.dev e) := by
  have htake : takeFrame f id s.dev = ⟨(queueWrite f.port.val (queueBytes f) f.read f.bad s.dev).dev.bump (lnkReg f.port.val 0x0C) 1, none⟩ := by
    rw [takeFrame, if_neg (by simp [hup])]
    simp only [hbad] at hroom
    simp only [hwire, countWire, hlldp, henv, hmac, hroom, when_false, leave, hbad, failing_nil, Bool.not_false, Bool.false_eq_true, and_false,
      and_self, if_false, if_true, Nat.lt_irrefl]
  have hfx : (takeClass f id s.dev).dev = (queueWrite f.port.val (queueBytes f) f.read f.bad s.dev).dev.bump (lnkReg f.port.val 0x0C) 1 := by
    rw [takeClass, htake]
  have hq := mask_queueWrite (ps := [.link, .ing, .flows, .hif, .sent, .host, .notes]) rfl f.port.val (queueBytes f) f.read f.bad s.dev
  have hmask : blank (.ing :: .regs :: reporting) (takeClass f id s.dev).dev = blank (.ing :: .regs :: reporting) s.dev := by
    rw [hfx]
    exact (mask_dev_bump rfl _ _ _).trans (mask_mono rfl hq)
  refine act_does_of_clk (f := fun d => (takeClass f id d).dev) rfl (clk_of_mask hmask rfl) ⟨?_, sameBut_of_mask hmask⟩
  rw [hfx, word_bump, word_of_regs (regs_of_mask hq rfl)]

/-! ### RESERVED_CLASS_FRAME -/

section
variable {d e : Device} {f : RxFrame} {x : TxFrame}

theorem tx_mem (h : x ∈ d.sent) (y : TxFrame) : x ∈ (tx d y).sent := by
  unfold tx
  extract_lets l
  split
  · split
    · exact h
    · split
      · exact h
      · exact List.mem_append_left _ h
  · exact List.mem_append_left _ h

theorem tx_foldl_mem (ys : List TxFrame) (h : x ∈ d.sent) : x ∈ (ys.foldl tx d).sent := by
  induction ys generalizing d with
  | nil => exact h
  | cons y ys ih => exact ih (tx_mem h y)

theorem runPassed_mem (p n : Nat) (h : x ∈ d.sent) : x ∈ (runPassed p n d).sent := by
  unfold runPassed
  extract_lets l
  split
  · exact h
  · split
    · exact tx_foldl_mem _ h
    · exact h

theorem forwardFrame_mem (hfw : forwards d = true) (hb : (rxHdr f).bcast = true) (h0 : (rxHdr f).hop ≠ 0) (h255 : (rxHdr f).hop ≠ 255)
    (hsend : Sends d (otherPort f.port.val)) (hcut : (d.port (otherPort f.port.val)).cutShort ≠ some f.bytes) :
    forwarded f .good id (otherPort f.port.val) ∈ (forwardFrame f .good id d).sent := by
  have huni : unicastTo d (rxHdr f) = false := by simp [unicastTo, hb]
  have hbeq : ((rxHdr f).hop == 0) = false := by simpa using h0
  rw [forwardFrame, if_neg (by rw [hfw, huni, hbeq]; decide), if_neg hcut, if_neg h255]
  refine runPassed_mem _ _ ?_
  rw [tx_sends (f := forwarded f .good id (otherPort f.port.val)) hsend]
  exact List.mem_append_right _ (List.mem_singleton.mpr rfl)

theorem leave_sent (full : Bool) {count : Device → Device} (hc : (count d).sent = d.sent) : (leave f full count d).dev.sent = d.sent := by
  unfold leave
  extract_lets n
  split
  · rfl
  · split
    · exact sent_of_mask (ps := others .sent) (mask_poisoned rfl _ _ _) rfl
    · exact hc

/-- A frame of no known class is left at the checks (R113, R114). -/
theorem frameChecks_unknown (h : classKnown (rxHdr f) = false) (full : Bool) (d : Device) :
    (frameChecks f full d).got = none ∧ (frameChecks f full d).dev.sent = d.sent := by
  have hcarry : closingCarries d (rxHdr f) = false := by simp [closingCarries, h]
  unfold frameChecks
  extract_lets p hd closing
  by_cases hclose : closing = true
  · rw [if_pos (by simp [hclose, hd, hcarry])]
    exact ⟨rfl, leave_sent full rfl⟩
  · split
    · exact ⟨rfl, leave_sent full rfl⟩
    · rw [if_pos (by simp [hclose, hd, h])]
      exact ⟨rfl, leave_sent full rfl⟩

theorem isLldp_of_envelope (h : silnalEnvelope f = true) : isLldp f = false := by
  simp only [silnalEnvelope, Bool.and_eq_true, beq_iff_eq] at h
  rw [isLldp, h.2]
  simp

theorem reservedClassFrame_does {s : State} (hup : (s.dev.port f.port.val).up = true) (hwire : wireCheck f = .good)
    (henv : silnalEnvelope f = true) (hcls : classKnown (rxHdr f) = false) (h255 : (rxHdr f).hop ≠ 255) :
    Does (.reservedClassFrame f) s (fun e => SameBut (.ing :: .topo :: .regs :: .spare :: reporting) s.dev e ∧
      (forwards s.dev = true → (rxHdr f).bcast = true → (rxHdr f).hop ≠ 0 → (s.dev.port (otherPort f.port.val)).up = true →
        (s.dev.port (otherPort f.port.val)).lpiTx = false → (s.dev.port (otherPort f.port.val)).cutShort ≠ some f.bytes →
        forwarded f .good id (otherPort f.port.val) ∈ e.sent)) := by
  have hmask := mask_takeClass (ps := .ing :: .topo :: .regs :: .spare :: reporting) rfl f id s.dev
  refine act_does_of_clk (f := fun d => (takeClass f id d).dev) rfl (clk_of_mask hmask rfl) ⟨sameBut_of_mask hmask, ?_⟩
  intro hfw hb h0 hou holpi hocut
  have hlldp := isLldp_of_envelope henv
  have htake : takeFrame f id s.dev = frameChecks f (queueWrite f.port.val (queueBytes f) f.read f.bad s.dev).full
      (learnDir f (forwardFrame f .good id (queueWrite f.port.val (queueBytes f) f.read f.bad s.dev).dev)) := by
    rw [takeFrame, if_neg (by simp [hup])]
    simp only [hwire, countWire, hlldp, henv, framePassed, Bool.not_true, Bool.false_eq_true, and_false, if_false, if_true, ne_eq, reduceCtorEq,
      not_true_eq_false]
  have hrest := sameRest_queueWrite f.port.val (queueBytes f) f.read f.bad s.dev
  have hparts := mask_queueWrite (ps := [.link, .ing, .flows, .hif, .sent, .host, .notes]) rfl f.port.val (queueBytes f) f.read f.bad s.dev
  have hq : linkRest ((queueWrite f.port.val (queueBytes f) f.read f.bad s.dev).dev.port (otherPort f.port.val)) =
      linkRest (s.dev.port (otherPort f.port.val)) := hrest.port _
  generalize queueWrite f.port.val (queueBytes f) f.read f.bad s.dev = a at *
  have hfwa : forwards a.dev = true := by
    rw [← hfw]
    simp only [forwards, forwardOnly, Device.isHead, pwr_of_mask hparts rfl, sec_of_mask hparts rfl]
  have hmem := forwardFrame_mem (f := f) hfwa hb h0 h255 ⟨(congrArg LinkPort.up hq :).trans hou, (congrArg LinkPort.lpiTx hq :).trans holpi⟩
    (fun heq => hocut ((congrArg LinkPort.cutShort hq :).symm.trans heq))
  obtain ⟨hnone, hsent⟩ := frameChecks_unknown hcls a.full (learnDir f (forwardFrame f .good id a.dev))
  have hfx : (takeClass f id s.dev).dev = (frameChecks f a.full (learnDir f (forwardFrame f .good id a.dev))).dev := by
    rw [takeClass, htake]
    simp only [hnone]
  have hlearn : (learnDir f (forwardFrame f .good id a.dev)).sent = (forwardFrame f .good id a.dev).sent := by
    unfold learnDir when
    split <;> rfl
  rw [hfx, hsent, hlearn]
  exact hmem

end

/-! ### INSERT_BACKLOG -/

section
variable {s : State} {pair : Fin 4} {dir : Fin 2} {p : Nat}

theorem otherPort_ne (p : Nat) : otherPort p ≠ p := by
  unfold otherPort
  split <;> omega

/-- The ports once the frames whose copy goes the other way have left (R146). -/
def backlogCut (p : Nat) (d : Device) : Device :=
  let gone := ((d.port p).backlog.filter (fun w => w.twin)).length
  ((d.setPort p (fun l => { l with backlog := l.backlog.filter (fun w => !w.twin), reported := true })).setPort (otherPort p)
    (fun l => { l with backlog := (untwin gone l.backlog.reverse).reverse })).setPort p (fun l => { l with reported := !l.backlog.isEmpty })

theorem backlogCut_port {d : Device} (hp : p < d.link.length) : (backlogCut p d).port p =
    { d.port p with backlog := (d.port p).backlog.filter (fun w => !w.twin), reported := !((d.port p).backlog.filter (fun w => !w.twin)).isEmpty } := by
  rw [backlogCut, port_setPort_same (by rw [setPort_length, setPort_length]; exact hp), port_setPort_ne (otherPort_ne p).symm, port_setPort_same hp]

/-- A node's fault report of a kind that no window holds back (R412). -/
theorem report_opens {d : Device} (hnode : d.isHead = false) {kind : Nat} (hwins : ∀ r ∈ d.hif.repWins, r.kind ≠ BitVec.ofNat 8 kind)
    (subject : Option (BitVec 12)) (code : Nat) (payload : List Byte) : (report kind subject code payload d).hif.reports =
      d.hif.reports ++ [{ kind := BitVec.ofNat 8 kind, subject := subject, first := d.clk.rp }] ∧
    (report kind subject code payload d).link = d.link ∧ blank [.hif] (report kind subject code payload d) = blank [.hif] d := by
  have hany : d.hif.repWins.any (fun r => r.kind == BitVec.ofNat 8 kind && r.subject == subject && inWindow d r) = false := by
    rw [List.any_eq_false]
    exact fun r hr => by simp [hwins r hr]
  unfold report
  simp only [hnode, Bool.false_eq_true, if_false, hany]
  exact ⟨trivial, trivial, rfl⟩

theorem insertBacklog_does (hnode : s.dev.isHead = false) (hout : outPort s.dev pair.val dir.val = some p) (hrep : (s.dev.port p).reported = false)
    (hlate : ∃ w ∈ (s.dev.port p).backlog, 16 ≤ w.waits) (hwins : s.dev.hif.repWins = []) :
    Does (.insertBacklog pair dir) s (fun e => (e.port p).backlog = (s.dev.port p).backlog.filter (fun w => !w.twin) ∧
      (e.port p).reported = !((s.dev.port p).backlog.filter (fun w => !w.twin)).isEmpty ∧
      e.hif.reports = s.dev.hif.reports ++ [{ kind := 4, subject := none, first := s.dev.clk.rp }] ∧ SameBut [.link, .hif] s.dev e) := by
  have hp : p < s.dev.link.length := by
    by_contra hge
    obtain ⟨w, hw, _⟩ := hlate
    rw [Device.port, List.getD_eq_default _ _ (by omega)] at hw
    cases hw
  have hany : (s.dev.port p).backlog.any (fun w => decide (16 ≤ w.waits)) = true := by
    obtain ⟨w, hw, h16⟩ := hlate
    exact List.any_eq_true.mpr ⟨w, hw, by simpa using h16⟩
  have hfx : ∃ payload, insertBacklogFx pair.val dir.val s.dev = report 4 none 0x1020 payload (backlogCut p s.dev) := by
    unfold insertBacklogFx
    simp only [hout, hnode, hrep, hany, Bool.or_self, Bool.not_true, Bool.false_eq_true, if_false]
    exact ⟨_, rfl⟩
  obtain ⟨payload, hfx⟩ := hfx
  obtain ⟨hreps, hlink, hmask⟩ := report_opens (d := backlogCut p s.dev) (kind := 4) hnode
    (fun r hr => absurd (hwins ▸ hr : r ∈ []) (List.not_mem_nil)) none 0x1020 payload
  have hall : blank [.link, .hif] (insertBacklogFx pair.val dir.val s.dev) = blank [.link, .hif] s.dev := by
    rw [hfx]
    exact (mask_mono rfl hmask).trans rfl
  have hport : (insertBacklogFx pair.val dir.val s.dev).port p = (backlogCut p s.dev).port p := by rw [hfx, Device.port, hlink, Device.port]
  refine act_does_of_clk (f := insertBacklogFx pair.val dir.val) rfl (clk_of_mask hall rfl) ⟨?_, ?_, ?_, sameBut_of_mask hall⟩
  · rw [hport, backlogCut_port hp]
  · rw [hport, backlogCut_port hp]
  · rw [hfx]
    exact hreps

theorem insertBacklog_early (hout : outPort s.dev pair.val dir.val = some p) (hearly : ∀ w ∈ (s.dev.port p).backlog, w.waits < 16) :
    Does (.insertBacklog pair dir) s (fun e => e = s.dev) := by
  have hany : (s.dev.port p).backlog.any (fun w => decide (16 ≤ w.waits)) = false := by
    rw [List.any_eq_false]
    exact fun w hw => by simpa using hearly w hw
  have hfx : insertBacklogFx pair.val dir.val s.dev = s.dev := by
    unfold insertBacklogFx
    simp only [hout, hany, Bool.not_false, Bool.or_true, if_true]
  exact act_does_of_clk (f := insertBacklogFx pair.val dir.val) rfl (by rw [hfx]) hfx

end

/-! ### The obligation -/

/-- Settles O32: the underrun below and at the highest threshold, the frames that no class takes, and the backlog. -/
theorem framesThatBreak : Obligations.FramesThatBreak := by
  unfold Obligations.FramesThatBreak
  exact ⟨fun p c s hlen hhead hup hlpi ht => transmitUnderrun_raises hlen hhead hup hlpi ht,
    fun p c s hlen hup hlpi ht => transmitUnderrun_stays hlen hup hlpi ht,
    fun f s hlen hup henv => rxBlockError_does hlen hup henv,
    fun f s hup hwire henv hlldp hmac hroom hbad => foreignFrame_does hup hwire henv hlldp hmac hroom hbad,
    fun f s hup hwire henv hcls h255 => reservedClassFrame_does hup hwire henv hcls h255,
    fun pair dir p s hnode hout => ⟨fun _ hrep hlate hwins => insertBacklog_does hnode hout hrep hlate hwins, insertBacklog_early hout⟩⟩

end Sys2Proof.Proofs

end

/-! ## Sys2Proof/Proofs/PortLinks: ports that come up and go down, and the RS-FEC mode of a pair (R149, R150, R171, R179, R384) -/

section

namespace Sys2Proof.Proofs

open Machine Laws

/-! ### Link ports -/

section
variable {s : State} {p : Nat}

/-- A link port come up (R149, R150). -/
def portRisen (p : Nat) (d : Device) : Device :=
  d.setPort p (fun l => { l with up := true, fec := if d.isHead then headFec d p else (d.port p).fec, fecSeen := true })

theorem portUpFx_rises {d : Device} (hp : p < 8) (hen : (d.port p).enabled = true) (hup : (d.port p).up = false) (hmis : (d.port p).mismatch = false)
    (hslice : sliceLost d p = false) (skews : List Nat) :
    portUpFx p skews d = raise 0x1001 (leN 1 p ++ leN 1 1 ++ leN 1 0) (portRisen p d) := by
  rw [portUpFx, if_pos hp]
  exact if_neg (by simp [hen, hup, hmis, hslice])

theorem portUpFx_stays {d : Device} (hp : p < 8) (h : (d.port p).enabled = false ∨ (d.port p).mismatch = true ∨ sliceLost d p = true) (skews : List Nat) :
    portUpFx p skews d = d := by
  rw [portUpFx, if_pos hp]
  refine if_pos ?_
  rcases h with h | h | h <;> simp [h]

theorem up_raise (code : Nat) (payload : List Byte) (d : Device) (q : Nat) : ((raise code payload d).port q).up = (d.port q).up :=
  core_get LinkPort.up (by intro x; rfl) (samePorts_port (samePorts_raise _ _ _) q)

theorem portUp_does {r : PortRise} (hlen : s.dev.link.length = 8) (hp : r.port.val < 8) (hen : (s.dev.port r.port.val).enabled = true)
    (hup : (s.dev.port r.port.val).up = false) (hmis : (s.dev.port r.port.val).mismatch = false) (hslice : sliceLost s.dev r.port.val = false) :
    Does (.portUp r) s (fun e => (e.port r.port.val).up = true ∧ Noticed s.dev e 0x1001 (leN 1 r.port.val ++ leN 1 1 ++ leN 1 0) ∧
      (e.port r.port.val).fec = (if s.dev.isHead then headFec s.dev r.port.val else (s.dev.port r.port.val).fec) ∧
      (∀ q, q ≠ r.port.val → (e.port q).up = (s.dev.port q).up) ∧ SameBut reporting s.dev e) := by
  have hfx := portUpFx_rises hp hen hup hmis hslice r.skews
  have hmask : blank reporting (portUpFx r.port.val r.skews s.dev) = blank reporting s.dev := by
    rw [hfx]
    exact (mask_raise rfl _ _ _).trans rfl
  have hport : (portRisen r.port.val s.dev).port r.port.val = _ := port_setPort_same (by omega) _
  refine act_does_of_clk (f := portUpFx r.port.val r.skews) rfl (clk_of_mask hmask rfl) ⟨?_, ?_, ?_, fun q hq => ?_, sameBut_of_mask hmask⟩
  · rw [hfx, up_raise, hport]
  · rw [hfx]
    exact noticed_raise rfl _ _
  · rw [hfx]
    refine (core_get LinkPort.fec (by intro x; rfl) (samePorts_port (samePorts_raise _ _ _) _)).trans ?_
    rw [hport]
  · rw [hfx, up_raise, portRisen, port_setPort_ne hq]

theorem portUp_stays {r : PortRise} (hp : r.port.val < 8)
    (h : (s.dev.port r.port.val).enabled = false ∨ (s.dev.port r.port.val).mismatch = true ∨ sliceLost s.dev r.port.val = true) :
    Does (.portUp r) s (fun e => e = s.dev) := by
  have hfx := portUpFx_stays hp h r.skews
  exact act_does_of_clk (f := portUpFx r.port.val r.skews) rfl (by rw [hfx]) hfx

/-- A link port gone down, with what it held (R150). -/
def portFallen (p : Nat) (d : Device) : Device :=
  d.setPort p (fun l => { l with up := false, fecSeen := false, mismatch := false, lpiTx := false, held := [] })

theorem portDownFx_falls {d : Device} (hp : p < 8) (hup : (d.port p).up = true) (cause : Nat) : portDownFx p cause d =
    report 3 ((portFallen p d).port p).neighbour 0x1001 (leN 1 p ++ leN 1 0 ++ leN 1 cause) (portFallen p d) := by
  rw [portDownFx, if_pos hp]
  exact if_neg (by simp [hup])

theorem portFallen_port {d : Device} (hp : p < d.link.length) : (portFallen p d).port p =
    { d.port p with up := false, fecSeen := false, mismatch := false, lpiTx := false, held := [] } := port_setPort_same hp _

theorem portDown_does {q : Fin 10} {cause : Nat} (hlen : s.dev.link.length = 8) (hp : q.val < 8) (hup : (s.dev.port q.val).up = true) :
    Does (.portDown q cause) s (fun e => (e.port q.val).up = false ∧ (e.port q.val).lpiTx = false ∧
      (e.port q.val).fecSeen = false ∧ (e.port q.val).mismatch = false ∧
      (s.dev.isHead = true → (e.port q.val).held = [] ∧ Noticed s.dev e 0x1001 (leN 1 q.val ++ leN 1 0 ++ leN 1 cause)) ∧
      (s.dev.isHead = false → (∀ r ∈ s.dev.hif.repWins, r.kind ≠ 3) → (e.port q.val).held = [] ∧
        e.hif.reports = s.dev.hif.reports ++ [{ kind := 3, subject := (s.dev.port q.val).neighbour, first := s.dev.clk.rp }]) ∧
      (∀ j, j ≠ q.val → (e.port j).up = (s.dev.port j).up) ∧ SameBut reporting s.dev e) := by
  have hfx := portDownFx_falls hp hup cause
  have hport := portFallen_port (p := q.val) (d := s.dev) (by omega)
  have hif : (if q.val < 8 then portDownFx q.val cause s.dev else ingestDown (q.val - 8) cause s.dev) = portDownFx q.val cause s.dev := if_pos hp
  have hmask : blank reporting (portDownFx q.val cause s.dev) = blank reporting s.dev := by
    rw [hfx]
    exact (mask_report rfl _ _ _ _ _).trans rfl
  have hcore : ∀ j, portCore ((portDownFx q.val cause s.dev).port j) = portCore ((portFallen q.val s.dev).port j) := fun j => by
    rw [hfx]
    exact samePorts_port (samePorts_report _ _ _ _ _) j
  refine act_does_of_clk (f := fun d => if q.val < 8 then portDownFx q.val cause d else ingestDown (q.val - 8) cause d) rfl
    (by rw [hif]; exact clk_of_mask hmask rfl) ?_
  rw [hif]
  refine ⟨?_, ?_, ?_, ?_, fun hh => ?_, fun hn hwins => ?_, fun j hj => ?_, sameBut_of_mask hmask⟩
  · rw [core_get LinkPort.up (by intro x; rfl) (hcore _), hport]
  · rw [core_get LinkPort.lpiTx (by intro x; rfl) (hcore _), hport]
  · rw [core_get LinkPort.fecSeen (by intro x; rfl) (hcore _), hport]
  · rw [core_get LinkPort.mismatch (by intro x; rfl) (hcore _), hport]
  · have hhead : (portFallen q.val s.dev).isHead = true := hh
    rw [hfx, report_head hhead]
    exact ⟨by rw [Device.port, raise_link_head hhead, ← Device.port, hport], noticed_raise rfl _ _⟩
  · obtain ⟨hreps, hlink, _⟩ := report_opens (d := portFallen q.val s.dev) (kind := 3) hn hwins ((portFallen q.val s.dev).port q.val).neighbour 0x1001
      (leN 1 q.val ++ leN 1 0 ++ leN 1 cause)
    rw [hfx]
    refine ⟨by rw [Device.port, hlink, ← Device.port, hport], ?_⟩
    rw [hreps, hport]
    rfl
  · rw [core_get LinkPort.up (by intro x; rfl) (hcore _), portFallen, port_setPort_ne hj]

end

/-! ### Ingest ports -/

/-- Ingest ports of which the same are up. -/
def SameUp (d e : Device) : Prop := Alike (fun _ => ()) IngPort.up d e

section
variable {s : State} {p : Nat}

theorem sameUp_of_ing {d e : Device} (hl : e.link.length = d.link.length) (hi : e.ing = d.ing) : SameUp d e :=
  ⟨by rw [List.map_const', List.map_const', hl], by rw [hi]⟩

theorem sameUp_raise (code : Nat) (payload : List Byte) (d : Device) : SameUp d (raise code payload d) :=
  sameUp_of_ing (samePorts_length (samePorts_raise code payload d)) (raise_ing code payload d)

theorem sameUp_tx (d : Device) (f : TxFrame) : SameUp d (tx d f) :=
  sameUp_of_ing (samePorts_length (samePorts_tx d f)) (ing_of_mask (ps := others .ing) (mask_tx rfl d f) rfl)

theorem sameUp_setIng {k : IngPort → IngPort} (hk : ∀ x, (k x).up = x.up) (p : Nat) (d : Device) : SameUp d (setIng p k d) := Alike.setIng hk d p

theorem sameUp_when {c : Bool} {f : Device → Device} {d : Device} (h : SameUp d (f d)) : SameUp d (when c f d) := Alike.ite h (.refl d)

theorem sameUp_usePn (p : Nat) (d : Device) : SameUp d (usePn p d) := by
  unfold usePn
  split
  · refine .ite (.refl d) ?_
    exact ((sameUp_setIng (by intro x; rfl) p d).trans (sameUp_when (sameUp_raise _ _ _))).trans (sameUp_when (sameUp_raise _ _ _))
  · exact .refl d

theorem sameUp_startIngest (p : Nat) (bs : List Byte) (d : Device) : SameUp d (startIngest p bs d) := by
  unfold startIngest
  refine .ite ?_ (sameUp_tx _ _)
  split
  · exact .ite (.refl d) ((sameUp_tx _ _).trans (sameUp_usePn _ _))
  · exact .refl d

theorem sameUp_sendIgmp (p kind : Nat) (d : Device) (g : BitVec 32) : SameUp d (sendIgmp p kind d g) := by
  unfold sendIgmp sendIngest
  exact .ite (.refl d) (.ite (sameUp_setIng (by intro x; rfl) p d) (sameUp_startIngest _ _ _))

theorem sameUp_foldl {α : Type} {f : Device → α → Device} (h : ∀ d a, SameUp d (f d a)) (xs : List α) (d : Device) : SameUp d (xs.foldl f d) := by
  induction xs generalizing d with
  | nil => exact .refl d
  | cons x xs ih => exact (h d x).trans (ih _)

theorem sameUp_groupsAt (d : Device) (p : Nat) : SameUp d (groupsAt d p) := by
  unfold groupsAt
  exact .ite (.refl d) (((sameUp_foldl (sameUp_sendIgmp p 4) _ d).trans (sameUp_foldl (sameUp_sendIgmp p 3) _ _)).trans (sameUp_setIng (by intro x; rfl) p _))

theorem sameUp_port {d e : Device} (h : SameUp d e) (p : Nat) : (e.ingPort p).up = (d.ingPort p).up := h.ingPort p

/-! ### Notices that bringing groups up to date adds -/

theorem prefix_usePn (p : Nat) (d : Device) : d.notes <+: (usePn p d).notes := by
  unfold usePn
  split
  · split
    · exact List.prefix_rfl
    · extract_lets told high d1 d2
      have h1 : d.notes <+: d2.notes := prefix_when (d := d1) (prefix_raise _ _ _)
      exact h1.trans (prefix_when (prefix_raise _ _ _))
  · exact List.prefix_rfl

theorem tx_notes (d : Device) (f : TxFrame) : (tx d f).notes = d.notes := notes_of_mask (ps := others .notes) (mask_tx rfl d f) rfl

theorem prefix_tx (d : Device) (f : TxFrame) : d.notes <+: (tx d f).notes := by rw [tx_notes]

theorem prefix_startIngest (p : Nat) (bs : List Byte) (d : Device) : d.notes <+: (startIngest p bs d).notes := by
  unfold startIngest
  split
  · split
    · split
      · exact List.prefix_rfl
      · exact (prefix_tx d _).trans (prefix_usePn _ _)
    · exact List.prefix_rfl
  · exact prefix_tx d _

theorem prefix_sendIgmp (p kind : Nat) (d : Device) (g : BitVec 32) : d.notes <+: (sendIgmp p kind d g).notes := by
  unfold sendIgmp sendIngest
  extract_lets l
  split
  · exact List.prefix_rfl
  · split
    · exact List.prefix_rfl
    · exact prefix_startIngest _ _ _

theorem prefix_foldl {α : Type} {f : Device → α → Device} (h : ∀ d a, d.notes <+: (f d a).notes) (xs : List α) (d : Device) :
    d.notes <+: (xs.foldl f d).notes := by
  induction xs generalizing d with
  | nil => exact List.prefix_rfl
  | cons x xs ih => exact (h d x).trans (ih _)

theorem prefix_groupsAt (d : Device) (p : Nat) : d.notes <+: (groupsAt d p).notes := by
  unfold groupsAt
  split
  · exact List.prefix_rfl
  · exact (prefix_foldl (prefix_sendIgmp p 4) _ d).trans (prefix_foldl (prefix_sendIgmp p 3) _ _)

/-! ### PORT_UP and PORT_DOWN on an ingest port -/

/-- An ingest port with the skews of its lanes. -/
def skewed (p : Nat) (skews : List Nat) (d : Device) : Device := setIng p (fun l => { l with skew := (List.range 20).map (nth skews) }) d

theorem skewed_up (p j : Nat) (skews : List Nat) (d : Device) : ((skewed p skews d).ingPort j).up = (d.ingPort j).up :=
  sameUp_port (sameUp_setIng (by intro x; rfl) p d) j

theorem portUpFx_ingest {d : Device} (hp : 8 ≤ p) (skews : List Nat) : portUpFx p skews d =
    if !(d.ingPort (p - 8)).enabled || (d.ingPort (p - 8)).up || sliceLost (skewed (p - 8) skews d) p || skews.any (fun s => decide (skewLimit < s))
    then skewed (p - 8) skews d
    else groupsAt (linkChange p 1 0 (setIng (p - 8) (fun l => { l with up := true, groups := [], reports := [] }) (skewed (p - 8) skews d))) (p - 8) :=
  if_neg (by omega)

theorem portUp_ingest_stays {r : PortRise} (hp : 8 ≤ r.port.val)
    (h : (s.dev.ingPort (r.port.val - 8)).enabled = false ∨ sliceLost s.dev r.port.val = true ∨ (∃ k ∈ r.skews, 180000 < k)) :
    Does (.portUp r) s (fun e => (e.ingPort (r.port.val - 8)).up = (s.dev.ingPort (r.port.val - 8)).up ∧ SameBut [.ing] s.dev e) := by
  have hfx : portUpFx r.port.val r.skews s.dev = skewed (r.port.val - 8) r.skews s.dev := by
    rw [portUpFx_ingest hp]
    refine if_pos ?_
    rcases h with h | h | ⟨k, hk, hlim⟩
    · rw [h]
      rfl
    · have hs : sliceLost (skewed (r.port.val - 8) r.skews s.dev) r.port.val = true := h
      rw [hs]
      simp
    · have hany : r.skews.any (fun s => decide (skewLimit < s)) = true := List.any_eq_true.mpr ⟨k, hk, decide_eq_true hlim⟩
      rw [hany]
      simp
  refine act_does_of_clk (f := portUpFx r.port.val r.skews) rfl (by rw [hfx]; rfl) ?_
  rw [hfx]
  exact ⟨skewed_up _ _ _ _, sameBut_of_mask rfl⟩

theorem portUp_ingest_does {r : PortRise} (hlen : s.dev.ing.length = 2) (hp : 8 ≤ r.port.val) (hen : (s.dev.ingPort (r.port.val - 8)).enabled = true)
    (hup : (s.dev.ingPort (r.port.val - 8)).up = false) (hskew : ∀ k ∈ r.skews, k ≤ 180000) (hslice : sliceLost s.dev r.port.val = false) :
    Does (.portUp r) s (fun e => (e.ingPort (r.port.val - 8)).up = true ∧
      NoticedFirst s.dev e 0x1001 (leN 1 r.port.val ++ leN 1 1 ++ leN 1 0) ∧ SameBut (.ing :: reporting) s.dev e) := by
  have hany : r.skews.any (fun s => decide (skewLimit < s)) = false := by
    rw [List.any_eq_false]
    exact fun k hk hlt => Nat.not_lt.mpr (hskew k hk) (of_decide_eq_true hlt)
  have hs : sliceLost (skewed (r.port.val - 8) r.skews s.dev) r.port.val = false := hslice
  have hfx : portUpFx r.port.val r.skews s.dev = groupsAt (raise 0x1001 (leN 1 r.port.val ++ leN 1 1 ++ leN 1 0)
      (setIng (r.port.val - 8) (fun l => { l with up := true, groups := [], reports := [] }) (skewed (r.port.val - 8) r.skews s.dev))) (r.port.val - 8) := by
    rw [portUpFx_ingest hp, hen, hup, hs, hany]
    rfl
  have hmask := mask_portUpFx (ps := .ing :: reporting) rfl r.port.val r.skews s.dev
  refine act_does_of_clk (f := portUpFx r.port.val r.skews) rfl (clk_of_mask hmask rfl) ⟨?_, ?_, sameBut_of_mask hmask⟩
  · rw [hfx, sameUp_port (sameUp_groupsAt _ _), sameUp_port (sameUp_raise _ _ _), Device.ingPort]
    have hlt : r.port.val - 8 < (skewed (r.port.val - 8) r.skews s.dev).ing.length := by
      have := r.port.isLt
      simp only [skewed, setIng, modAt, List.length_modify]
      omega
    exact (congrArg IngPort.up (getD_modAt_same hlt _ _) :)
  · rw [hfx]
    exact noticedFirst_of_prefix (d := s.dev) (by rfl) (prefix_groupsAt _ _)

theorem portDown_ingest_does {q : Fin 10} {cause : Nat} (hlen : s.dev.ing.length = 2) (hp : 8 ≤ q.val) (hup : (s.dev.ingPort (q.val - 8)).up = true)
    (hhead : s.dev.isHead = true) (hmasters : s.dev.tim.masters = []) (hdef : s.dev.spare.deferred = []) :
    Does (.portDown q cause) s (fun e => (e.ingPort (q.val - 8)).up = false ∧ (e.ingPort (q.val - 8)).held = [] ∧
      Noticed s.dev e 0x1001 (leN 1 q.val ++ leN 1 0 ++ leN 1 cause) ∧ SameBut (.ing :: reporting) s.dev e) := by
  have hq : q.val - 8 + 8 = q.val := by omega
  have hh : (setIng (q.val - 8) (fun l => { l with up := false, held := [], pause := 0 }) s.dev).isHead = true := hhead
  have hing : (setIng (q.val - 8) (fun l => { l with up := false, held := [], pause := 0 }) s.dev).ingPort (q.val - 8) =
      { s.dev.ingPort (q.val - 8) with up := false, held := [], pause := 0 } :=
    getD_modAt_same (by have := q.isLt; omega) _ _
  have hnotes : (setIng (q.val - 8) (fun l => { l with up := false, held := [], pause := 0 }) s.dev).notes = s.dev.notes := rfl
  have hset : blank [.ing] (setIng (q.val - 8) (fun l => { l with up := false, held := [], pause := 0 }) s.dev) = blank [.ing] s.dev := rfl
  have hdown : portDownFx (q.val - 8 + 8) cause s.dev = mastersGone (q.val - 8) (linkChange q.val 0 cause
      (setIng (q.val - 8) (fun l => { l with up := false, held := [], pause := 0 }) s.dev)) := by
    rw [hq, portDownFx, if_neg (by omega)]
    exact if_neg (by simp [hup])
  generalize setIng (q.val - 8) (fun l => { l with up := false, held := [], pause := 0 }) s.dev = d1 at *
  have hchange : linkChange q.val 0 cause d1 = raise 0x1001 (leN 1 q.val ++ leN 1 0 ++ leN 1 cause) d1 :=
    by rw [linkChange, if_neg (by decide), report_head hh]
  rw [hchange] at hdown
  have hr : blank reporting (raise 0x1001 (leN 1 q.val ++ leN 1 0 ++ leN 1 cause) d1) = blank reporting d1 := mask_raise rfl _ _ _
  have hmask : blank (.ing :: reporting) (raise 0x1001 (leN 1 q.val ++ leN 1 0 ++ leN 1 cause) d1) = blank (.ing :: reporting) s.dev :=
    (mask_mono rfl hr).trans (mask_mono rfl hset)
  have hgone : ∀ e : Device, e.tim.masters = [] → mastersGone (q.val - 8) e = e := fun e he => by
    rw [mastersGone, he]
    rfl
  have hsub : ∀ e : Device, e.spare.deferred = [] → applyDeferred (q.val - 8) e = e := fun e he => by
    rw [applyDeferred, deferredOn, he]
    rfl
  have hfx : (if q.val < 8 then portDownFx q.val cause s.dev else ingestDown (q.val - 8) cause s.dev) =
      raise 0x1001 (leN 1 q.val ++ leN 1 0 ++ leN 1 cause) d1 := by
    rw [if_neg (by omega), ingestDown, hdown, hgone _ (by rw [tim_of_mask hmask rfl, hmasters]), hsub _ (by rw [spare_of_mask hmask rfl, hdef])]
  refine act_does_of_clk (f := fun d => if q.val < 8 then portDownFx q.val cause d else ingestDown (q.val - 8) cause d) rfl
    (by rw [hfx]; exact clk_of_mask hmask rfl) ?_
  rw [hfx]
  have hkeep : (raise 0x1001 (leN 1 q.val ++ leN 1 0 ++ leN 1 cause) d1).ingPort (q.val - 8) = d1.ingPort (q.val - 8) := by
    rw [Device.ingPort, raise_ing, Device.ingPort]
  refine ⟨by rw [hkeep, hing], by rw [hkeep, hing], noticed_raise hnotes _ _, sameBut_of_mask hmask⟩

end

/-! ### FEC_MODE_DETECTED -/

section
variable {s : State} {p : Fin 8} {fec : Bool}

theorem otherPort_lt {p : Nat} (hp : p < 8) : otherPort p < 8 := by
  unfold otherPort
  split <;> omega

/-- Whether the other port of the pair keeps a mode of its own. -/
def otherKeeps (d : Device) (p : Nat) (fec : Bool) : Bool :=
  ((d.port (otherPort p)).up || ((d.port (otherPort p)).fecSeen && !(d.port (otherPort p)).mismatch)) && (d.port (otherPort p)).fec != fec

/-- Both ports of a pair in their partner's mode (R149). -/
def fecTaken (p : Nat) (fec : Bool) (d : Device) : Device :=
  (d.setPort p (fun l => { l with fec := fec, fecSeen := true, mismatch := false })).setPort (otherPort p) (fun l => { l with fec := fec })

/-- A port whose partner has another mode than its pair. -/
def fecOther (p : Nat) (d : Device) : Device := d.setPort p (fun l => { l with fecSeen := true, mismatch := true })

theorem fecDetectedFx_eq {d : Device} (hnode : d.isHead = false) (hen : (d.port p.val).enabled = true) (hup : (d.port p.val).up = false) :
    fecDetectedFx p.val fec d = if otherKeeps d p.val fec then when (!(d.port p.val).mismatch) (linkChange p.val 0 5) (fecOther p.val d)
      else fecTaken p.val fec d := by
  rw [fecDetectedFx, if_neg (by simp [hnode, hen, hup])]
  rfl

theorem fecModeDetected_taken (hlen : s.dev.link.length = 8) (hnode : s.dev.isHead = false) (hen : (s.dev.port p.val).enabled = true)
    (hup : (s.dev.port p.val).up = false) (h : ((s.dev.port (otherPort p.val)).up = false ∧ (s.dev.port (otherPort p.val)).fecSeen = false) ∨
      (s.dev.port (otherPort p.val)).fec = fec) :
    Does (.fecModeDetected p fec) s (fun e => (e.port p.val).fec = fec ∧ (e.port (otherPort p.val)).fec = fec ∧
      (e.port p.val).mismatch = false ∧ SameBut [.link] s.dev e) := by
  have hkeeps : otherKeeps s.dev p.val fec = false := by
    rcases h with ⟨hoff, hseen⟩ | hsame
    · simp [otherKeeps, hoff, hseen]
    · simp [otherKeeps, hsame]
  have hfx : fecDetectedFx p.val fec s.dev = fecTaken p.val fec s.dev := by
    rw [fecDetectedFx_eq hnode hen hup, hkeeps]
    rfl
  have hlt : p.val < s.dev.link.length := by omega
  have hport : (fecTaken p.val fec s.dev).port p.val = { s.dev.port p.val with fec := fec, fecSeen := true, mismatch := false } := by
    rw [fecTaken, port_setPort_ne (otherPort_ne p.val).symm, port_setPort_same hlt]
  refine act_does_of_clk (f := fecDetectedFx p.val fec) rfl (by rw [hfx]; rfl) ?_
  rw [hfx, hport]
  refine ⟨rfl, ?_, rfl, sameBut_of_mask rfl⟩
  rw [fecTaken, port_setPort_same (by rw [setPort_length, hlen]; exact otherPort_lt p.isLt)]

theorem otherKeeps_up {d : Device} {p : Nat} (hup : (d.port (otherPort p)).up = true) (hfec : (d.port (otherPort p)).fec ≠ fec) : otherKeeps d p fec = true := by
  simp [otherKeeps, hup, hfec]

theorem fecOther_port {d : Device} {p : Nat} (hp : p < d.link.length) : (fecOther p d).port p = { d.port p with fecSeen := true, mismatch := true } :=
  port_setPort_same hp _

theorem fecModeDetected_again (hlen : s.dev.link.length = 8) (hnode : s.dev.isHead = false) (hen : (s.dev.port p.val).enabled = true)
    (hup : (s.dev.port p.val).up = false) (houp : (s.dev.port (otherPort p.val)).up = true) (hfec : (s.dev.port (otherPort p.val)).fec ≠ fec)
    (htold : (s.dev.port p.val).mismatch = true) :
    Does (.fecModeDetected p fec) s (fun e => (e.port p.val).mismatch = true ∧ SameBut [.link] s.dev e) := by
  have hfx : fecDetectedFx p.val fec s.dev = fecOther p.val s.dev := by
    rw [fecDetectedFx_eq hnode hen hup, otherKeeps_up houp hfec, htold]
    rfl
  refine act_does_of_clk (f := fecDetectedFx p.val fec) rfl (by rw [hfx]; rfl) ?_
  rw [hfx, fecOther_port (by omega)]
  exact ⟨rfl, sameBut_of_mask rfl⟩

theorem fecModeDetected_told (hlen : s.dev.link.length = 8) (hnode : s.dev.isHead = false) (hen : (s.dev.port p.val).enabled = true)
    (hup : (s.dev.port p.val).up = false) (houp : (s.dev.port (otherPort p.val)).up = true) (hfec : (s.dev.port (otherPort p.val)).fec ≠ fec)
    (hnew : (s.dev.port p.val).mismatch = false) (hwins : s.dev.hif.repWins = []) :
    Does (.fecModeDetected p fec) s (fun e => (e.port p.val).mismatch = true ∧ e.hif.reports = s.dev.hif.reports ++
      [{ kind := 3, subject := (s.dev.port p.val).neighbour, first := s.dev.clk.rp }] ∧ SameBut [.link, .hif] s.dev e) := by
  have hfx : fecDetectedFx p.val fec s.dev = report 3 ((fecOther p.val s.dev).port p.val).neighbour 0x1001 (leN 1 p.val ++ leN 1 0 ++ leN 1 5)
      (fecOther p.val s.dev) := by
    rw [fecDetectedFx_eq hnode hen hup, otherKeeps_up houp hfec, hnew]
    rfl
  obtain ⟨hreps, hlink, hmask⟩ := report_opens (d := fecOther p.val s.dev) (kind := 3) hnode
    (fun r hr => absurd (hwins ▸ hr : r ∈ []) List.not_mem_nil) ((fecOther p.val s.dev).port p.val).neighbour 0x1001 (leN 1 p.val ++ leN 1 0 ++ leN 1 5)
  have hall : blank [.link, .hif] (fecDetectedFx p.val fec s.dev) = blank [.link, .hif] s.dev := by
    rw [hfx]
    exact (mask_mono rfl hmask).trans rfl
  refine act_does_of_clk (f := fecDetectedFx p.val fec) rfl (clk_of_mask hall rfl) ⟨?_, ?_, sameBut_of_mask hall⟩
  · rw [hfx, Device.port, hlink, ← Device.port, fecOther_port (by omega)]
  · rw [hfx, hreps, fecOther_port (by omega)]
    rfl

end

/-! ### The obligation -/

/-- Settles O29: a link port's rise and fall, an ingest port's, and the mode of a pair in its three cases. -/
theorem portsUpAndDown : Obligations.PortsUpAndDown := by
  unfold Obligations.PortsUpAndDown
  intro s hlen hing
  refine ⟨?_, ?_, ?_, ?_, fun p cause hp hup => portDown_does hlen hp hup,
    fun p cause hp hup hhead hmasters hdef => portDown_ingest_does hing hp hup hhead hmasters hdef, fun p fec hnode hen hup =>
      ⟨fecModeDetected_taken hlen hnode hen hup, fecModeDetected_again hlen hnode hen hup, fecModeDetected_told hlen hnode hen hup⟩⟩
  · rintro r p rfl hp hen hup hmis hslice
    exact portUp_does hlen hp hen hup hmis hslice
  · rintro r p rfl hp h
    exact portUp_stays hp h
  · rintro r p rfl hp h
    exact portUp_ingest_stays hp (h.imp_right .inl)
  · rintro r p rfl hp hen hup
    refine ⟨fun hskew hslice => portUp_ingest_does hing hp hen hup hskew hslice, fun hskew => ?_⟩
    have h := portUp_ingest_stays (s := s) hp (.inr (.inr hskew))
    rwa [hup] at h

end Sys2Proof.Proofs

end

/-! ## Sys2Proof/Proofs/PortIdle: low-power idle and LLDP on a link port, PAUSE on an ingest port (R144, R160 to R167, R178) -/

section

namespace Sys2Proof.Proofs

open Machine Laws QueueFacts

/-! ### A link port's settings -/

section
variable {α : Type} {g : LinkPort → α} {d : Device}

theorem port_setPort_get {k : LinkPort → LinkPort} (hk : ∀ x, g (k x) = g x) (d : Device) (p q : Nat) : g ((d.setPort p k).port q) = g (d.port q) :=
  (Alike.setPort (g := g) (h := fun _ : IngPort => ()) hk d p).port q

theorem setPort_same {k : LinkPort → LinkPort} {p : Nat} (hp : p < d.link.length) (hk : k (d.port p) = d.port p) : d.setPort p k = d := by
  have hport : d.port p = d.link[p] := by simp [Device.port, hp]
  have hmod : modAt d.link p k = d.link := by
    rw [modAt_eq_set (List.getElem?_eq_getElem hp) k, ← hport, hk, hport, List.set_getElem_self]
  rw [Device.setPort, hmod]

/-- A check of low-power idle leaves a port's settings but for its idle (R163). -/
theorem lpiCheck_get (hg : ∀ x, g (portCore x) = g x) (hl : ∀ (x : LinkPort) b, g { x with lpiTx := b } = g x) (p q : Nat) (d : Device) :
    g ((lpiCheck p d).port q) = g (d.port q) := by
  unfold lpiCheck when
  split
  · exact (core_get g hg (samePorts_port (samePorts_wakePort p d) q)).trans (port_setPort_get (by intro x; exact hl x false) d p q)
  · rfl

theorem lpiCheck_notes (p : Nat) (d : Device) : (lpiCheck p d).notes = d.notes := notes_of_mask (ps := others .notes) (mask_lpiCheck rfl p d) rfl

end

/-! ### LLDP_RECEIVED -/

section
variable {s : State} {p : Fin 8} {bs : List Byte} {q : QueueUse} {f : RxFrame} {d : Device}

theorem lldpReceivedFx_read (hf : f.port = p) (hup : (s.dev.port p.val).up = true) (hwire : wireCheck f = .good) (hlldp : isLldp f = true)
    (hbad : f.bad = []) (hq : queueWrite p.val (queueBytes f) f.read f.bad s.dev = { full := false, dev := d }) :
    lldpReceivedFx f s.dev = lldpRead p.val (queueBytes f) d := by
  subst hf
  rw [hbad] at hq
  rw [lldpReceivedFx, if_pos ⟨hwire, hlldp, hup⟩]
  simp only [hq, leave, hbad, failing_nil, Nat.lt_irrefl, Bool.false_eq_true, if_false]

theorem wakeTaken_port {p : Nat} (hp : p < d.link.length) (rx tx : Nat) : ((wakeTaken p rx tx d).port p).partnerTw = some rx ∧
    ((wakeTaken p rx tx d).port p).partnerTx = tx ∧ ((wakeTaken p rx tx d).port p).eeeOk = decide (rx ≤ 20) := by
  unfold wakeTaken
  extract_lets was ok d1
  have hport : d1.port p = { d.port p with partnerTw := some rx, partnerTx := tx, eeeOk := ok } := port_setPort_same hp _
  have hsame : SamePorts d1 (when (was != ok) (eeeNotice p) d1) := by
    unfold when
    split
    · exact samePorts_raise _ _ _
    · exact .refl d1
  have hcore := samePorts_port hsame p
  refine ⟨?_, ?_, ?_⟩
  · rw [lpiCheck_get (g := LinkPort.partnerTw) (by intro x; rfl) (by intro x b; rfl), core_get LinkPort.partnerTw (by intro x; rfl) hcore, hport]
  · rw [lpiCheck_get (g := LinkPort.partnerTx) (by intro x; rfl) (by intro x b; rfl), core_get LinkPort.partnerTx (by intro x; rfl) hcore, hport]
  · rw [lpiCheck_get (g := LinkPort.eeeOk) (by intro x; rfl) (by intro x b; rfl), core_get LinkPort.eeeOk (by intro x; rfl) hcore, hport]

theorem lldpReceived_does (hlen : s.dev.link.length = 8) (hf : f = lldpFrame p bs q) (hup : (s.dev.port p.val).up = true) (hwire : wireCheck f = .good)
    (hlldp : isLldp f = true) (hbad : f.bad = []) (hq : queueWrite p.val (queueBytes f) f.read f.bad s.dev = { full := false, dev := d }) :
    (eeeTlv (queueBytes f).length ((queueBytes f).drop 14) = none → Does (.lldpReceived p bs q) s (fun e => e = keepClk s.dev d)) ∧
    (∀ tx rx, eeeTlv (queueBytes f).length ((queueBytes f).drop 14) = some (tx, rx) →
      Does (.lldpReceived p bs q) s (fun e => (e.port p.val).partnerTw = some rx ∧ (e.port p.val).partnerTx = tx ∧
        (e.port p.val).eeeOk = decide (rx ≤ 20) ∧ SameBut (.ing :: reporting) s.dev e)) := by
  have hfx := lldpReceivedFx_read (by rw [hf]; rfl) hup hwire hlldp hbad hq
  have hd : (queueWrite p.val (queueBytes f) f.read f.bad s.dev).dev = d := by rw [hq]
  have hmask : blank (.ing :: reporting) d = blank (.ing :: reporting) s.dev := by
    rw [← hd]
    exact mask_queueWrite rfl _ _ _ _ _
  have hlend : p.val < d.link.length := by
    have := (sameRest_queueWrite p.val (queueBytes f) f.read f.bad s.dev).lengths.1
    rw [hd] at this
    omega
  rw [hf] at hfx
  refine ⟨fun hnone => act_does (f := lldpReceivedFx (lldpFrame p bs q)) rfl ?_, fun tx rx htlv => ?_⟩
  · rw [hfx, lldpRead, ← hf, hnone]
  · have hread : lldpRead p.val (queueBytes (lldpFrame p bs q)) d = wakeTaken p.val rx tx d := by
      rw [lldpRead, ← hf, htlv]
    have hall : blank (.ing :: reporting) (wakeTaken p.val rx tx d) = blank (.ing :: reporting) s.dev := (mask_wakeTaken rfl _ _ _ _).trans hmask
    refine act_does_of_clk (f := lldpReceivedFx (lldpFrame p bs q)) rfl (by rw [hfx, hread]; exact clk_of_mask hall rfl) ?_
    rw [hfx, hread]
    obtain ⟨htw, htx, hok⟩ := wakeTaken_port hlend rx tx
    exact ⟨htw, htx, hok, sameBut_of_mask hall⟩

end

/-! ### LLDP_SEND -/

section
variable {s : State} {p : Fin 8} {d : Device} {f : TxFrame}

theorem releasePort_idle {p : Nat} (hp : p < d.link.length) (hq : (d.port p).quietTo = none) (hb : (d.port p).backlog = []) : releasePort d p = d := by
  rw [releasePort, if_neg (by rw [silent_none hq]; decide), hb]
  refine setPort_same hp ?_
  rw [← hb, ← hq]

theorem sendOwn_head_sends (hh : d.isHead = true) (hp : f.port < d.link.length) (hs : Sends d f.port) (hq : (d.port f.port).quietTo = none)
    (hb : (d.port f.port).backlog = []) : sendOwn d f false none = { d with sent := d.sent ++ [f] } := by
  unfold sendOwn
  simp only [hh, if_true, releasePort_idle hp hq hb, silent_none hq, Bool.false_eq_true, if_false]
  exact tx_sends hs

theorem sendOwn_head_silent (hh : d.isHead = true) (hs : silent d f.port = true) : sendOwn d f false none =
    d.setPort f.port (fun l => { l with backlog := l.backlog ++ [{ frame := f, twin := false, proof := none }] }) := by
  have hrel : releasePort d f.port = d := if_pos hs
  unfold sendOwn
  simp only [hh, if_true, hrel, hs]

theorem lldpSend_does (hlen : s.dev.link.length = 8) : Does (.lldpSend p) s (fun e => SameBut [.link, .sent] s.dev e ∧
    (s.dev.isHead = true → (s.dev.port p.val).up = true → (s.dev.port p.val).lpiTx = false →
      (s.dev.port p.val).quietTo = none → (s.dev.port p.val).backlog = [] →
      e.sent = s.dev.sent ++ [{ port := p.val, bytes := lldpdu s.dev p.val }] ∧ e.link = s.dev.link) ∧
    (s.dev.isHead = true → silent s.dev p.val = true → e.sent = s.dev.sent ∧
      (e.port p.val).backlog.map (fun w => w.frame) = (s.dev.port p.val).backlog.map (fun w => w.frame) ++
        [{ port := p.val, bytes := lldpdu s.dev p.val }])) := by
  have hlt : p.val < s.dev.link.length := by omega
  have hmask := mask_sendOwn (ps := [.link, .sent]) rfl s.dev { port := p.val, bytes := lldpdu s.dev p.val } false none
  refine act_does_of_clk (f := fun d => sendOwn d { port := p.val, bytes := lldpdu d p.val } false none) rfl (clk_of_mask hmask rfl)
    ⟨sameBut_of_mask hmask, fun hh hup hlpi hq hb => ?_, fun hh hs => ?_⟩
  · rw [sendOwn_head_sends (f := { port := p.val, bytes := lldpdu s.dev p.val }) hh hlt ⟨hup, hlpi⟩ hq hb]
    exact ⟨rfl, rfl⟩
  · rw [sendOwn_head_silent (f := { port := p.val, bytes := lldpdu s.dev p.val }) hh hs]
    refine ⟨rfl, ?_⟩
    rw [port_setPort_same hlt, List.map_append, List.map_singleton]

end

/-! ### Low-power idle -/

section
variable {s : State} {p : Fin 8}

/-- A port whose wake time is no longer resolved (R165). -/
def unresolved (p : Nat) (d : Device) : Device := d.setPort p (fun l => { l with eeeOk := false, partnerTw := none })

theorem eeeUnresolved_does (hlen : s.dev.link.length = 8) : Does (.eeeUnresolved p) s (fun e => (e.port p.val).eeeOk = false ∧
    (e.port p.val).partnerTw = none ∧
    ((s.dev.port p.val).eeeOk = true → Noticed s.dev e 0x1003 (leN 1 p.val ++ zeros 1 ++ leN 2 0)) ∧ SameBut reporting s.dev e) := by
  have hport : (unresolved p.val s.dev).port p.val = { s.dev.port p.val with eeeOk := false, partnerTw := none } := port_setPort_same (by omega) _
  have hmask := mask_eeeUnresolvedFx (ps := reporting) rfl p.val s.dev
  have hfx : eeeUnresolvedFx p.val s.dev = lpiCheck p.val (when (s.dev.port p.val).eeeOk (eeeNotice p.val) (unresolved p.val s.dev)) := rfl
  have hsame : SamePorts (unresolved p.val s.dev) (when (s.dev.port p.val).eeeOk (eeeNotice p.val) (unresolved p.val s.dev)) := by
    unfold when
    split
    · exact samePorts_raise _ _ _
    · exact .refl _
  have hcore := samePorts_port hsame p.val
  refine act_does_of_clk (f := eeeUnresolvedFx p.val) rfl (clk_of_mask hmask rfl) ⟨?_, ?_, fun hok => ?_, sameBut_of_mask hmask⟩
  · rw [hfx, lpiCheck_get (g := LinkPort.eeeOk) (by intro x; rfl) (by intro x b; rfl), core_get LinkPort.eeeOk (by intro x; rfl) hcore, hport]
  · rw [hfx, lpiCheck_get (g := LinkPort.partnerTw) (by intro x; rfl) (by intro x b; rfl), core_get LinkPort.partnerTw (by intro x; rfl) hcore, hport]
  · have hnote : eeeNotice p.val (unresolved p.val s.dev) = raise 0x1003 (leN 1 p.val ++ zeros 1 ++ leN 2 0) (unresolved p.val s.dev) := by
      rw [eeeNotice, hport]
      rfl
    rw [Noticed, hfx, lpiCheck_notes, hok, when_true, hnote]
    exact noticed_raise (d := s.dev) (by rfl) _ _

theorem lpiEntry_does (hlen : s.dev.link.length = 8) : Does (.lpiEntry p) s (fun e =>
    (e.port p.val).lpiTx = ((s.dev.port p.val).lpiTx || ((s.dev.port p.val).up &&
      (s.dev.port p.val).eeeOk && (s.dev.pwr.state == .quiet || s.dev.pwr.state == .standby || s.dev.pwr.state == .startUp) &&
      (s.dev.port p.val).backlog.isEmpty && (s.dev.port p.val).held.isEmpty)) ∧ SameBut [.link] s.dev e) := by
  have hmask := mask_lpiEntryFx (ps := [.link]) rfl p.val s.dev
  refine act_does_of_clk (f := lpiEntryFx p.val) rfl (clk_of_mask hmask rfl) ⟨?_, sameBut_of_mask hmask⟩
  change ((when (mayIdle s.dev p.val && (s.dev.port p.val).backlog.isEmpty && (s.dev.port p.val).held.isEmpty)
    (fun d => d.setPort p.val (fun l => { l with lpiTx := true })) s.dev).port p.val).lpiTx =
    ((s.dev.port p.val).lpiTx || (mayIdle s.dev p.val && (s.dev.port p.val).backlog.isEmpty && (s.dev.port p.val).held.isEmpty))
  cases mayIdle s.dev p.val && (s.dev.port p.val).backlog.isEmpty && (s.dev.port p.val).held.isEmpty with
  | false => rw [when_false, Bool.or_false]
  | true => rw [when_true, Bool.or_true, port_setPort_same (by omega)]

theorem lpiReceived_does (hup : (s.dev.port p.val).up = true) :
    Does (.lpiReceived ⟨p.val, by omega⟩) s (fun e => e = countStat s.dev p.val 7 ∧ SameBut [.link] s.dev e) := by
  have hcount : blank [.link] (countStat s.dev p.val 7) = blank [.link] s.dev := by
    rw [countStat, if_pos p.isLt]
    rfl
  have hfx : when (portIsUp s.dev p.val) (fun d => countStat d p.val 7) s.dev = countStat s.dev p.val 7 := by
    rw [portIsUp, if_pos p.isLt, hup, when_true]
  refine act_does_of_clk (f := fun d => when (portIsUp d p.val) (fun d => countStat d p.val 7) d) rfl
    (by rw [hfx]; exact clk_of_mask hcount rfl) ?_
  rw [hfx]
  exact ⟨rfl, sameBut_of_mask hcount⟩

theorem tx_foldl_sends {d : Device} {p : Nat} (hs : Sends d p) (fs : List TxFrame) (hfs : ∀ f ∈ fs, f.port = p) :
    fs.foldl tx d = { d with sent := d.sent ++ fs } := by
  induction fs generalizing d with
  | nil => simp
  | cons f fs ih =>
    have hone : tx d f = { d with sent := d.sent ++ [f] } := tx_sends (by rw [hfs f (List.mem_cons_self ..)]; exact hs)
    rw [List.foldl_cons, hone, ih (d := { d with sent := d.sent ++ [f] }) hs fun g hg => hfs g (List.mem_cons_of_mem _ hg)]
    simp

theorem lpiWakeDone_does (hlen : s.dev.link.length = 8) (hup : (s.dev.port p.val).up = true) (hheld : ∀ f ∈ (s.dev.port p.val).held, f.port = p.val) :
    Does (.lpiWakeDone p) s (fun e => (e.port p.val).lpiTx = false ∧ (e.port p.val).held = [] ∧
      e.sent = s.dev.sent ++ (s.dev.port p.val).held ∧ SameBut [.link, .sent] s.dev e) := by
  have hport : (s.dev.setPort p.val (fun l => { l with lpiTx := false, held := [] })).port p.val =
      { s.dev.port p.val with lpiTx := false, held := [] } := port_setPort_same (by omega) _
  have hfx : wakePort p.val s.dev = { s.dev.setPort p.val (fun l => { l with lpiTx := false, held := [] }) with
      sent := s.dev.sent ++ (s.dev.port p.val).held } :=
    tx_foldl_sends (p := p.val) ⟨by rw [hport]; exact hup, by rw [hport]⟩ _ hheld
  refine act_does_of_clk (f := wakePort p.val) rfl (by rw [hfx]; rfl) ?_
  rw [hfx]
  exact ⟨(congrArg LinkPort.lpiTx hport :), (congrArg LinkPort.held hport :), rfl, sameBut_of_mask rfl⟩

end

/-! ### PAUSE -/

section
variable {s : State} {d : Device} {p : Nat} {m : MacControl}

theorem startIngest_clear {d : Device} (h : macsecOn d p = false) (bs : List Byte) :
    startIngest p bs d = { d with sent := d.sent ++ [{ port := p + 8, bytes := bs ++ fcs bs }] } := by
  have hport : ¬p + 8 < 8 := by omega
  simp [startIngest, tx, h, hport]

/-- A frame that a pause held, as it leaves without MACsec. -/
def unheld (p : Nat) (f : TxFrame) : TxFrame := { port := p + 8, bytes := f.bytes ++ fcs f.bytes }

theorem startIngest_foldl_clear {d : Device} (h : macsecOn d p = false) (fs : List TxFrame) :
    fs.foldl (fun d f => startIngest p f.bytes d) d = { d with sent := d.sent ++ fs.map (unheld p) } := by
  induction fs generalizing d with
  | nil => simp
  | cons f fs ih =>
    rw [List.foldl_cons, startIngest_clear h, ih (d := { d with sent := d.sent ++ [{ port := p + 8, bytes := f.bytes ++ fcs f.bytes }] }) h]
    simp [unheld]

/-- The port with its pause over. -/
def unpaused (p : Nat) (d : Device) : Device := setIng p (fun l => { l with pause := 0, held := [] }) d

theorem unpaused_port (hp : p < d.ing.length) : (unpaused p d).ingPort p = { d.ingPort p with pause := 0, held := [] } := getD_modAt_same hp _ _

theorem pauseOver_clear (h : macsecOn d p = false) : pauseOver p d = { unpaused p d with sent := d.sent ++ (d.ingPort p).held.map (unheld p) } :=
  startIngest_foldl_clear (d := unpaused p d) h _

theorem pauseExpiry_does {q : Fin 2} (hp : q.val < s.dev.ing.length) (h : macsecOn s.dev q.val = false) :
    Does (.pauseExpiry q) s (fun e => (e.ingPort q.val).pause = 0 ∧ (e.ingPort q.val).held = [] ∧
      e.sent = s.dev.sent ++ (s.dev.ingPort q.val).held.map (fun f => { port := q.val + 8, bytes := f.bytes ++ fcs f.bytes }) ∧
      SameBut [.ing, .sent] s.dev e) := by
  have hfx := pauseOver_clear h
  have hport := unpaused_port (d := s.dev) hp
  refine act_does_of_clk (f := pauseOver q.val) rfl (by rw [hfx]; rfl) ?_
  rw [hfx]
  exact ⟨(congrArg IngPort.pause hport :), (congrArg IngPort.held hport :), rfl, sameBut_of_mask rfl⟩

theorem usePn_low {sa : Sa} (hsec : macsecOn d p = true) (hsa : (d.ingPort p).txSa = some sa) (hlow : sa.pn < 0xC0000000) :
    usePn p d = setIng p (fun l => { l with txSa := some { sa with pn := sa.pn + 1 } }) d := by
  have hwear : decide (0xC0000000 ≤ sa.pn) = false := decide_eq_false (by omega)
  have hover : decide (0xFFFFFFFF < sa.pn) = false := decide_eq_false (by omega)
  have hlast : (sa.pn == 0xFFFFFFFF) = false := by
    rw [beq_eq_false_iff_ne]
    omega
  unfold usePn
  simp only [hsa, hsec, hwear, hover, hlast, Bool.not_true, Bool.or_false, Bool.false_eq_true, if_false, Bool.false_and, when_false]

/-- The port with a number of its transmit association used (R175). -/
def pnUsed (p : Nat) (sa : Sa) (d : Device) : Device := setIng p (fun l => { l with txSa := some { sa with pn := sa.pn + 1 } }) d

theorem pauseExpiry_protects {q : Fin 2} {f : TxFrame} {sa : Sa} (hp : q.val < s.dev.ing.length) (hsec : macsecOn s.dev q.val = true)
    (hheld : (s.dev.ingPort q.val).held = [f]) (hsa : (s.dev.ingPort q.val).txSa = some sa) (hlow : sa.pn < 0xC0000000) :
    Does (.pauseExpiry q) s (fun e => (e.ingPort q.val).held = [] ∧ (e.ingPort q.val).txSa = some { sa with pn := sa.pn + 1 } ∧
      e.sent = s.dev.sent ++ [{ port := q.val + 8, bytes := protectFrame sa f.bytes ++ fcs (protectFrame sa f.bytes) }] ∧
      SameBut [.ing, .sent] s.dev e) := by
  have hport := unpaused_port (d := s.dev) hp
  have hsa' : ((unpaused q.val s.dev).ingPort q.val).txSa = some sa := by rw [hport]; exact hsa
  have hlen : (unpaused q.val s.dev).ing.length = s.dev.ing.length := List.length_modify ..
  have hfx : pauseOver q.val s.dev = pnUsed q.val sa { unpaused q.val s.dev with
      sent := s.dev.sent ++ [{ port := q.val + 8, bytes := protectFrame sa f.bytes ++ fcs (protectFrame sa f.bytes) }] } := by
    have hfold : pauseOver q.val s.dev = startIngest q.val f.bytes (unpaused q.val s.dev) := by
      unfold pauseOver
      rw [hheld]
      rfl
    have hsec' : macsecOn (unpaused q.val s.dev) q.val = true := hsec
    have htx : ∀ x : TxFrame, x.port = q.val + 8 → tx (unpaused q.val s.dev) x = { unpaused q.val s.dev with sent := s.dev.sent ++ [x] } := fun x hx =>
      if_neg (by omega)
    rw [hfold, startIngest, if_pos hsec', hsa']
    refine (if_neg (by omega)).trans ?_
    refine (congrArg (usePn q.val) (htx _ rfl)).trans ?_
    exact usePn_low (d := { unpaused q.val s.dev with
      sent := s.dev.sent ++ [{ port := q.val + 8, bytes := protectFrame sa f.bytes ++ fcs (protectFrame sa f.bytes) }] }) hsec hsa' hlow
  refine act_does_of_clk (f := pauseOver q.val) rfl (by rw [hfx]; rfl) ?_
  rw [hfx]
  generalize hdef : ({ unpaused q.val s.dev with
      sent := s.dev.sent ++ [{ port := q.val + 8, bytes := protectFrame sa f.bytes ++ fcs (protectFrame sa f.bytes) }] } : Device) = d1
  have hing : d1.ing = (unpaused q.val s.dev).ing := by rw [← hdef]
  have hput : (pnUsed q.val sa d1).ingPort q.val = { d1.ingPort q.val with txSa := some { sa with pn := sa.pn + 1 } } :=
    getD_modAt_same (by rw [hing, hlen]; exact hp) _ _
  have hheld1 : (d1.ingPort q.val).held = [] := by
    have : d1.ingPort q.val = (unpaused q.val s.dev).ingPort q.val := by rw [Device.ingPort, hing, Device.ingPort]
    rw [this, hport]
  refine ⟨by rw [hput]; exact hheld1, by rw [hput], ?_, ?_⟩
  · rw [← hdef]
    rfl
  · rw [← hdef]
    exact sameBut_of_mask rfl

/-! ### PAUSE_RECEIVED -/

theorem countIng_parts (p cls : Nat) (d : Device) : blank [.ing] (countIng p cls d) = blank [.ing] d := by
  rw [countIng, countStat, if_neg (by omega)]
  rfl

/-- What a good control frame's passage through the queue leaves of the port that takes it (R220): its pause, held frames and
associations, and the settings of its address and MACsec. -/
theorem controlQueued_keeps (x : IngRx) (d : Device) :
    ingRest ((controlQueued x d).ingPort x.port.val) = ingRest (d.ingPort x.port.val) ∧ (controlQueued x d).ing.length = d.ing.length ∧
    ∀ off, off ≠ 0x2C → (controlQueued x d).word (ingReg x.port.val off) = d.word (ingReg x.port.val off) := by
  unfold controlQueued
  extract_lets p n a
  have ha : SameRest d a.dev := sameRest_queueWrite _ _ _ _ _
  have hregs : a.dev.regs = d.regs := regs_of_mask (ps := others .regs) (mask_queueWrite rfl _ _ _ _ _) rfl
  have hwhen : (when (!a.full && decide (0 < n)) (poisoned p n) a.dev).ing = a.dev.ing := by
    unfold when
    split
    · exact ing_of_mask (ps := others .ing) (mask_poisoned rfl _ _ _) rfl
    · rfl
  refine ⟨?_, by rw [hwhen]; exact ha.lengths.2, fun off hoff => ?_⟩
  · rw [Device.ingPort, hwhen]
    exact ha.ingPort _
  · rw [← word_of_regs hregs]
    unfold when
    split
    · have hp : qpoisonReg p = ingReg x.port.val 0x2C := if_neg (by omega)
      have hne : qpoisonReg p ≠ ingReg x.port.val off := by
        rw [hp]
        simp only [ingReg]
        omega
      have hpoison : (poisoned p n a.dev).word (ingReg x.port.val off) = ((parityCount p n a.dev).bump (qpoisonReg p) 1).word (ingReg x.port.val off) :=
        word_of_regs (regs_of_mask (ps := others .regs) (mask_rateEvent rfl _ _ _ _ _ _ _) rfl) _
      rw [hpoison, Device.bump, word_setWord_ne _ hne]
      rfl
    · rfl

/-- The device once a good MAC control frame is counted and queued. -/
def controlTaken (m : MacControl) (d : Device) : Device := controlQueued m.rx (countIng m.rx.port.val 4 d)

theorem controlTaken_keeps (hp : m.rx.port.val < d.ing.length) : ((controlTaken m d).ingPort m.rx.port.val).held = (d.ingPort m.rx.port.val).held ∧
    (controlTaken m d).ing.length = d.ing.length ∧ macsecOn (controlTaken m d) m.rx.port.val = macsecOn d m.rx.port.val ∧
    isPause (controlTaken m d) m = isPause d m := by
  obtain ⟨hrest, hlen, hword⟩ := controlQueued_keeps m.rx (countIng m.rx.port.val 4 d)
  have hcount : countIng m.rx.port.val 4 d = setIng m.rx.port.val (fun l => { l with stat := modAt l.stat 4 (fun n => satAdd 16 n 1) }) d := by
    rw [countIng, countStat, if_neg (by omega)]
    rfl
  have hw : ∀ off, off ≠ 0x2C → (controlTaken m d).word (ingReg m.rx.port.val off) = d.word (ingReg m.rx.port.val off) := fun off hoff =>
    (hword off hoff).trans (word_of_regs (regs_of_mask (countIng_parts _ _ d) rfl) _)
  have hmac : portMac (controlTaken m d) m.rx.port.val = portMac d m.rx.port.val := by
    rw [portMac, hw 4 (by decide), hw 8 (by decide), portMac]
  refine ⟨?_, ?_, by rw [macsecOn, hw 0x1C (by decide), macsecOn], by rw [isPause, hmac, isPause]⟩
  · refine (congrArg IngPort.held hrest :).trans ?_
    rw [hcount]
    exact (congrArg IngPort.held (getD_modAt_same hp _ _) :)
  · refine hlen.trans ?_
    rw [hcount]
    exact List.length_modify ..

theorem macControlFx_good (hup : (d.ingPort m.rx.port.val).up = true) (hlen : m.rx.bytes.length + 4 = 64) (hfcs : m.fcsOk = true) :
    macControlFx m d = pauseTaken m (controlTaken m d) := by
  have hctl : ctlLength m = 64 := hlen
  rw [macControlFx, if_neg (by simp [hup]), if_neg (by omega), if_neg (by omega), if_neg (by simp [hfcs])]
  rfl

theorem isPause_eq (hlen : m.rx.bytes.length + 4 = 64) : isPause d m = (cut m.rx.bytes 12 2 == [0x88, 0x08] && be m.rx.bytes 14 2 == 1 &&
    (cut m.rx.bytes 0 6 == [0x01, 0x80, 0xC2, 0x00, 0x00, 0x01] || cut m.rx.bytes 0 6 == portMac d m.rx.port.val)) := by
  have hctl : (ctlLength m == 64) = true := beq_iff_eq.mpr hlen
  rw [isPause, hctl, Bool.and_true]
  rfl

variable (hup : (s.dev.ingPort m.rx.port.val).up = true) (hlen : m.rx.bytes.length + 4 = 64) (hfcs : m.fcsOk = true)
  (hp : m.rx.port.val < s.dev.ing.length)
include hup hlen hfcs hp

theorem pauseReceived_sets (hpause : isPause s.dev m = true) (hq : be m.rx.bytes 16 2 ≠ 0) :
    Does (.pauseReceived m) s (fun e => (e.ingPort m.rx.port.val).pause = be m.rx.bytes 16 2 ∧
      (e.ingPort m.rx.port.val).held = (s.dev.ingPort m.rx.port.val).held ∧ e.sent = (controlTaken m s.dev).sent ∧
      SameBut (.ing :: .regs :: .spare :: reporting) s.dev e) := by
  obtain ⟨hheld, hlen1, _, hsame⟩ := controlTaken_keeps hp
  have hq' : ctlQuanta m ≠ 0 := hq
  have hfx : macControlFx m s.dev = setIng m.rx.port.val (fun l => { l with pause := ctlQuanta m }) (controlTaken m s.dev) := by
    rw [macControlFx_good hup hlen hfcs, pauseTaken, if_neg (by simp [hsame, hpause]), if_neg hq']
  have hmask := mask_macControlFx (ps := .ing :: .regs :: .spare :: reporting) rfl m s.dev
  have hport : (setIng m.rx.port.val (fun l => { l with pause := ctlQuanta m }) (controlTaken m s.dev)).ingPort m.rx.port.val =
      { (controlTaken m s.dev).ingPort m.rx.port.val with pause := ctlQuanta m } := getD_modAt_same (by rw [hlen1]; exact hp) _ _
  refine act_does_of_clk (f := macControlFx m) rfl (clk_of_mask hmask rfl) ⟨?_, ?_, by rw [hfx]; rfl, sameBut_of_mask hmask⟩
  · rw [hfx, hport]
    rfl
  · rw [hfx, hport]
    exact hheld

theorem pauseReceived_ends (hsec : macsecOn s.dev m.rx.port.val = false) (hpause : isPause s.dev m = true) (hq : be m.rx.bytes 16 2 = 0) :
    Does (.pauseReceived m) s (fun e => (e.ingPort m.rx.port.val).pause = 0 ∧ (e.ingPort m.rx.port.val).held = [] ∧
      e.sent = (controlTaken m s.dev).sent ++
        (s.dev.ingPort m.rx.port.val).held.map (fun f => { port := m.rx.port.val + 8, bytes := f.bytes ++ fcs f.bytes }) ∧
      SameBut (.ing :: .regs :: .spare :: reporting) s.dev e) := by
  obtain ⟨hheld, hlen1, hmac, hsame⟩ := controlTaken_keeps hp
  have hq' : ctlQuanta m = 0 := hq
  have hfx : macControlFx m s.dev = pauseOver m.rx.port.val (controlTaken m s.dev) := by
    rw [macControlFx_good hup hlen hfcs, pauseTaken, if_neg (by simp [hsame, hpause]), if_pos hq']
  rw [pauseOver_clear (hmac.trans hsec), hheld] at hfx
  have hmask := mask_macControlFx (ps := .ing :: .regs :: .spare :: reporting) rfl m s.dev
  have hport := unpaused_port (d := controlTaken m s.dev) (p := m.rx.port.val) (by rw [hlen1]; exact hp)
  refine act_does_of_clk (f := macControlFx m) rfl (clk_of_mask hmask rfl) ⟨?_, ?_, by rw [hfx]; rfl, sameBut_of_mask hmask⟩
  · rw [hfx]
    exact (congrArg IngPort.pause hport :)
  · rw [hfx]
    exact (congrArg IngPort.held hport :)

theorem pauseReceived_other (hpause : isPause s.dev m = false) : Does (.pauseReceived m) s (fun e => e = keepClk s.dev (controlTaken m s.dev)) := by
  obtain ⟨_, _, _, hsame⟩ := controlTaken_keeps hp
  have hfx : macControlFx m s.dev = controlTaken m s.dev := by
    rw [macControlFx_good hup hlen hfcs, pauseTaken, if_pos (by simp [hsame, hpause])]
  exact act_does (f := macControlFx m) rfl (by rw [hfx])

end

/-! ### The obligation -/

/-- Settles O30: an LLDPDU read and sent, idle's entry and end, and a pause set, ended and expired. -/
theorem portIdleAndPause : Obligations.PortIdleAndPause := by
  unfold Obligations.PortIdleAndPause
  refine ⟨fun s p hlen => ⟨fun bs q f d hf hup hwire hlldp hbad hq => lldpReceived_does hlen hf hup hwire hlldp hbad hq, lldpSend_does hlen,
    eeeUnresolved_does hlen, lpiEntry_does hlen, lpiReceived_does, lpiWakeDone_does hlen⟩, ?_⟩
  rintro s m p d rfl hup hlen hfcs hp rfl
  exact ⟨isPause_eq hlen, pauseReceived_sets hup hlen hfcs hp,
    fun hsec => ⟨pauseReceived_ends hup hlen hfcs hp hsec, pauseExpiry_does hp hsec⟩,
    fun f sa hsec hheld hsa _ hlow => pauseExpiry_protects hp hsec hheld hsa hlow, pauseReceived_other hup hlen hfcs hp⟩

end Sys2Proof.Proofs

end

/-! ## Sys2Proof/Proofs/HostReads: a host read that serves a node's REQUEST and a line of a bulk frame at once (R199, R405, R406) -/

section

namespace Sys2Proof.Proofs

open Machine Laws

/-- A node's REQUEST that the head reads for under the identifier 0. -/
def readRequest : HeldReq := { id := 0, node := 0, seq := 0, addr := 0, length := 0, pair := 0, dir := 0, waits := false }

/-- A bulk entry one of whose lines is read under the same identifier. -/
def readEntry : BulkEntry := { pos := 0, slot := 0, content := 0, addr := 0, tag := 0, status := 0, done := false, reads := [(0, 0)] }

/-- A device that waits for both reads. -/
def readingForBoth : Device := { hif := { held := [readRequest], bulk := [readEntry] } }

/-- The end of the read takes the line off the bulk entry too (R199). -/
theorem readEnds_bulk :
    (keepClk readingForBoth (bulkReadDone 0 (.data []) (hostReadFx 0 (.data []) readingForBoth))).hif.bulk = [{ readEntry with reads := [], done := true }] := by
  decide

/-- Refutes O33: the completion of a read that serves a held REQUEST also ends the line of a bulk entry read under the same
identifier, so the held REQUEST is not all of the host interface that it changes. -/
theorem not_remoteReadsServed : ¬ Obligations.RemoteReadsServed := by
  intro h
  obtain ⟨⟨-, hserved⟩, -⟩ := h
  obtain ⟨-, -, hdata, -⟩ := hserved { dev := readingForBoth } readRequest rfl
  obtain ⟨t, ht, -, hhif, -⟩ := hdata rfl []
  cases ht
  have hsame : [{ readEntry with reads := [], done := true }] = [readEntry] := readEnds_bulk.symm.trans (congrArg Hif.bulk hhif)
  exact absurd hsame (by decide)

end Sys2Proof.Proofs

end

/-! ## Sys2Proof/Proofs/Letters: letterbox rounds, a node's MAILBAG entry and the sorting office (R393, R402, R403, R412 to R414) -/

section

namespace Sys2Proof.Proofs

open Machine Laws

/-! ### LETTERBOX_ROUND -/

section
variable {s : State} {r : RoundRead} {n : Nat} {w : LetterWords} {d : Device}

/-- The device once a member's entry is taken (R401, R402). -/
def letterTaken (n : Nat) (w : LetterWords) (d : Device) : Device :=
  let old := mfind d.hif.letters n
  let ask := (match old with | some o => o.seq != w.seq | none => false) && !(d.hif.dirAsk.contains n)
  setHif (fun h => { h with letters := mins h.letters n w, dirAsk := if ask then h.dirAsk ++ [n] else h.dirAsk }) d

theorem takeLetters_one (hn : n ∈ allMembers d) : ∃ changed, takeLetters [(n, some w)] d = (changed, letterTaken n w d) := by
  have hms : (allMembers d).contains n = true := List.contains_iff_mem.mpr hn
  simp only [takeLetters, List.foldl_cons, List.foldl_nil, takeLetter, hms, Bool.not_true, Bool.false_eq_true, if_false]
  exact ⟨_, rfl⟩

theorem serveHeld_none (h : d.hif.held = []) : serveHeld d = setHif (fun h => { h with held := [] }) d := by
  have hf : ∀ p : HeldReq → Bool, d.hif.held.filter p = [] := fun p => by rw [h]; rfl
  unfold serveHeld setHif
  simp only [hf, List.foldl_nil]

theorem sendMail_foldl_mask (changed : List Nat) (rs : List (RingEntry × Nat × Bool)) (d : Device) :
    blank [.link, .flows, .sent] (rs.foldl (fun d x => sendMail changed x.1 x.2.1 x.2.2 d) d) = blank [.link, .flows, .sent] d :=
  mask_foldl (fun _ _ => mask_sendMail rfl _ _ _ _ _) rs d

/-- A round's entries taken and its MAILBAGs sent, before it counts itself. -/
def roundWorked (changed : List Nat) (n : Nat) (w : LetterWords) (d : Device) : Device :=
  (fedRings (serveHeld (letterTaken n w d))).foldl (fun d x => sendMail changed x.1 x.2.1 x.2.2 d) (serveHeld (letterTaken n w d))

/-- The round counted (R402, R403). -/
def roundCounted (d : Device) : Device := signalMsix (setHif (fun h => { h with round := h.round + 1, rotate := h.rotate + 1, mailAll := false }) d)

theorem letterboxFx_one (hhead : d.isHead = true) (hrounds : d.hif.rounds = true) (he : r.entries = [(n, some w)]) (hdirs : r.dirs = [])
    (hown : n ≠ d.nodeNo) (hn : n ∈ allMembers d) : ∃ changed, letterboxFx r d =
      roundCounted (when r.overrun (raise 6 (leN 4 (roundWorked changed n w d).hif.round.toNat ++ leN 4 r.durUs)) (roundWorked changed n w d)) := by
  obtain ⟨changed, htake⟩ := takeLetters_one (w := w) hn
  have hbeq : (n == d.nodeNo) = false := beq_eq_false_iff_ne.mpr hown
  refine ⟨changed, ?_⟩
  rw [letterboxFx, if_neg (by simp [hhead, hrounds])]
  simp only [he, hdirs, List.find?_cons, List.find?_nil, Option.isNone_some, hbeq, Option.bind_none, htake, List.filter_nil, List.foldl_nil]
  rfl

theorem roundWorked_mask (changed : List Nat) (n : Nat) (w : LetterWords) (d : Device) :
    blank [.link, .flows, .sent] (roundWorked changed n w d) = blank [.link, .flows, .sent] (serveHeld (letterTaken n w d)) :=
  sendMail_foldl_mask _ _ _

theorem letterboxRound_does (hhead : s.dev.isHead = true) (hrounds : s.dev.hif.rounds = true) (he : r.entries = [(n, some w)]) (hdirs : r.dirs = [])
    (hown : n ≠ s.dev.nodeNo) (hn : n ∈ allMembers s.dev) (hheld : s.dev.hif.held = []) :
    Does (.letterboxRound r) s (fun e => mfind e.hif.letters n = some w ∧ e.hif.round = s.dev.hif.round + 1 ∧
      e.hif.rotate = s.dev.hif.rotate + 1 ∧ e.hif.mailAll = false ∧
      (r.overrun = true → Noticed s.dev e 6 (leN 4 s.dev.hif.round.toNat ++ leN 4 r.durUs)) ∧
      (r.overrun = false → e.notes = s.dev.notes) ∧ SameBut reporting s.dev e) := by
  obtain ⟨changed, hfx⟩ := letterboxFx_one hhead hrounds he hdirs hown hn
  have hserve : serveHeld (letterTaken n w s.dev) = setHif (fun h => { h with held := [] }) (letterTaken n w s.dev) := serveHeld_none hheld
  have hwork := roundWorked_mask changed n w s.dev
  have hhif : (roundWorked changed n w s.dev).hif = { (letterTaken n w s.dev).hif with held := [] } := by
    rw [hif_of_mask hwork rfl, hserve]
    rfl
  have hnotes : (roundWorked changed n w s.dev).notes = s.dev.notes := by
    rw [notes_of_mask hwork rfl, hserve]
    rfl
  have hmask : blank reporting (roundWorked changed n w s.dev) = blank reporting s.dev := by
    refine (mask_mono rfl hwork).trans ?_
    rw [hserve]
    rfl
  have hround : (roundWorked changed n w s.dev).hif.round = s.dev.hif.round := by rw [hhif]; rfl
  have hletter : mfind (roundWorked changed n w s.dev).hif.letters n = some w := by
    rw [hhif]
    exact mfind_mins_same _ _ _
  have hrotate : (roundWorked changed n w s.dev).hif.rotate = s.dev.hif.rotate := by rw [hhif]; rfl
  rw [hround] at hfx
  generalize roundWorked changed n w s.dev = d1 at *
  have hraise : hifRest (when r.overrun (raise 6 (leN 4 s.dev.hif.round.toNat ++ leN 4 r.durUs)) d1).hif = hifRest d1.hif := by
    unfold when
    split
    · exact raise_rest _ _ _
    · rfl
  have hover : r.overrun = true → Noticed s.dev (when r.overrun (raise 6 (leN 4 s.dev.hif.round.toNat ++ leN 4 r.durUs)) d1) 6
      (leN 4 s.dev.hif.round.toNat ++ leN 4 r.durUs) := fun ho => by
    rw [ho, when_true]
    exact noticed_raise hnotes _ _
  have hquiet : r.overrun = false → (when r.overrun (raise 6 (leN 4 s.dev.hif.round.toNat ++ leN 4 r.durUs)) d1).notes = s.dev.notes := fun ho => by
    rw [ho, when_false, hnotes]
  have hrest : blank reporting (when r.overrun (raise 6 (leN 4 s.dev.hif.round.toNat ++ leN 4 r.durUs)) d1) = blank reporting s.dev :=
    (mask_when (mask_raise rfl 6 _ d1)).trans hmask
  generalize when r.overrun (raise 6 (leN 4 s.dev.hif.round.toNat ++ leN 4 r.durUs)) d1 = d2 at *
  have hall : blank reporting (letterboxFx r s.dev) = blank reporting s.dev := by
    rw [hfx]
    exact hrest
  refine act_does_of_clk (f := letterboxFx r) rfl (clk_of_mask hall rfl) ?_
  rw [hfx] at hall ⊢
  refine ⟨?_, ?_, ?_, rfl, hover, hquiet, sameBut_of_mask hall⟩
  · exact (congrArg (mfind · n) (rest_get Hif.letters (by intro h; rfl) hraise)).trans hletter
  · exact congrArg (· + 1) ((rest_get Hif.round (by intro h; rfl) hraise).trans hround)
  · exact congrArg (· + 1) ((rest_get Hif.rotate (by intro h; rfl) hraise).trans hrotate)

end

/-! ### MAILBAG -/

section
variable (d : Device)

theorem flushKept_rest (n : Nat) : hifRest (flushKept n d).hif = hifRest d.hif := by
  induction n generalizing d with
  | zero => rfl
  | succ n ih =>
    rw [flushKept]
    split
    · split
      · exact (ih _).trans (writeNotice_rest _ _)
      · rfl
    · rfl

theorem flushEvents_rest : hifRest (flushEvents d).hif = hifRest d.hif := by
  unfold flushEvents
  split
  · extract_lets d1
    split
    · exact (writeNotice_rest _ _).trans (flushKept_rest d 64)
    · exact flushKept_rest d 64
  · rfl

theorem wmAck_rest (i : Nat) : hifRest (wmAck i d).hif = hifRest d.hif := by
  unfold wmAck
  extract_lets w
  split
  · rfl
  · split
    · exact (wmPut_rest _ _ _).trans (raise_rest _ _ _)
    · exact wmPut_rest _ _ _

theorem ackMarks_rest : hifRest (ackMarks d).hif = hifRest d.hif := by
  have hone : ∀ (is : List Nat) (d : Device), hifRest (is.foldl (fun d i => match (wmGet d i).note with
      | some p => if 0 < frameDiff d.hif.c p then wmAck i d else d
      | none => d) d).hif = hifRest d.hif := by
    intro is
    induction is with
    | nil => intro d; rfl
    | cons i is ih =>
      intro d
      rw [List.foldl_cons, ih]
      split
      · split
        · exact wmAck_rest _ _
        · rfl
      · rfl
  exact hone _ d

end

theorem mailbag_does {f : RxFrame} {s : State} {h : Hdr} {b : List Byte} {d : Device} {n : BitVec 12} {w : LetterWords} (ha : Accepted f s 5 h b d)
    (hnode : s.dev.isHead = false) (hid : d.topo.nodeId = some n) (hw : mailFor n.toNat b = some w) (hcfg : d.hif.cfgPending = false)
    (hstart : d.hif.started = true) (hseq : d.hif.seqWord = some w.seq) (hc : (d.hif.e - w.c).toNat ≤ evtSlots d) :
    Does (.mailbag f) s (fun e => e.hif.c = w.c ∧ e.hif.started = true) := by
  have hcls := ha.1
  have hfx : mailbagFx f s.dev = seeC w.c d := by
    rw [mailbagFx, takeNumbered_accepted ha _ _ (by simp [hcls, hnode])]
    simp only [hid, hw, nodeLetter, hcfg, hseq, hstart, bne_self_eq_false, Bool.false_and, Bool.or_self, Bool.false_eq_true, if_false, if_true]
  have hsee : hifRest (seeC w.c d).hif = hifRest { d.hif with c := w.c, badE := none, unacked := [] } := by
    rw [seeC, if_neg (by omega)]
    exact (ackMarks_rest _).trans (flushEvents_rest _)
  refine act_does (f := mailbagFx f) rfl ?_
  rw [hfx]
  exact ⟨rest_get Hif.c (by intro h; rfl) hsee, (rest_get Hif.started (by intro h; rfl) hsee).trans hstart⟩

/-! ### REPLY_CARD -/

section
variable {f : RxFrame} {s : State} {h : Hdr} {b : List Byte} {d : Device}

/-- The RP of a card's first report. -/
def cardRp (b : List Byte) : RP := { frame := BitVec.ofNat 32 (be b 80 4), line := bitsOf (be b 84 4) 28 16, sub := be b 84 4 % 65536 }

/-- The head with a node's card noted, its first report apart (R39, R415). -/
def cardNoted (pair : Nat) (h : Hdr) (b : List Byte) (d : Device) : Device :=
  when (be b 1 1 == 2) (vector 6) (setPair pair (fun p => { p with cards := mins p.cards h.src (BitVec.ofNat 32 (be b 0x14 4), d.clk.rp) }) d)

theorem takeCard_one (hone : be b 0x4A 1 = 1) (pair : Nat) : takeCard pair h b d =
    sortReport (BitVec.ofNat 12 h.src) (BitVec.ofNat 8 (be b 78 1)) (BitVec.ofNat 12 (be b 76 2)) (cardRp b) (cardNoted pair h b d) := by
  unfold takeCard
  rw [hone]
  rfl

theorem cardNoted_parts (pair : Nat) : (cardNoted pair h b d).hif.sort = d.hif.sort ∧
    (cardNoted pair h b d).topo = (setPair pair (fun p => { p with cards := mins p.cards h.src (BitVec.ofNat 32 (be b 0x14 4), d.clk.rp) }) d).topo ∧
    blank [.topo, .hif] (cardNoted pair h b d) = blank [.topo, .hif] d := by
  have hmask : blank [.hif] (cardNoted pair h b d) =
      blank [.hif] (setPair pair (fun p => { p with cards := mins p.cards h.src (BitVec.ofNat 32 (be b 0x14 4), d.clk.rp) }) d) :=
    mask_when (mask_vector rfl 6 _)
  refine ⟨?_, topo_of_mask hmask rfl, (mask_mono rfl hmask).trans rfl⟩
  unfold cardNoted when
  split
  · exact rest_get Hif.sort (by intro h; rfl) (vector_rest _ 6)
  · rfl

theorem sortReport_mask (witness : BitVec 12) (kind : BitVec 8) (subject : BitVec 12) (first : RP) (d : Device) :
    blank [.hif] (sortReport witness kind subject first d) = blank [.hif] d := by
  unfold sortReport
  simp only [mask_ite]
  split
  · rfl
  · split <;> rfl

theorem replyCard_takes {q : Device → Prop} (ha : Accepted f s 4 h b d) (hhead : s.dev.isHead = true) (hkind : be b 0 1 ≠ 2) (hone : be b 0x4A 1 = 1)
    (hq : ∀ e : Device, e.hif.sort = (sortReport (BitVec.ofNat 12 h.src) (BitVec.ofNat 8 (be b 78 1)) (BitVec.ofNat 12 (be b 76 2)) (cardRp b)
        (cardNoted (pairOf f.port.val) h b d)).hif.sort →
      e.topo = (setPair (pairOf f.port.val) (fun p => { p with cards := mins p.cards h.src (BitVec.ofNat 32 (be b 0x14 4), d.clk.rp) }) d).topo →
      SameBut [.topo, .hif] d e → q e) : Does (.replyCard f) s q := by
  have hcls := ha.1
  have hfx : replyCardFx f s.dev = sortReport (BitVec.ofNat 12 h.src) (BitVec.ofNat 8 (be b 78 1)) (BitVec.ofNat 12 (be b 76 2)) (cardRp b)
      (cardNoted (pairOf f.port.val) h b d) := by
    rw [replyCardFx, takeNumbered_accepted ha _ _ (by simp [hcls, hhead, hkind]), takeCard_one hone]
  obtain ⟨_, htopo, hnoted⟩ := cardNoted_parts (h := h) (b := b) (d := d) (pairOf f.port.val)
  have hsort := sortReport_mask (BitVec.ofNat 12 h.src) (BitVec.ofNat 8 (be b 78 1)) (BitVec.ofNat 12 (be b 76 2)) (cardRp b)
    (cardNoted (pairOf f.port.val) h b d)
  have hmask : blank [.topo, .hif] (replyCardFx f s.dev) = blank [.topo, .hif] d := by
    rw [hfx]
    exact (mask_mono rfl hsort).trans hnoted
  refine act_does_of_clk (f := replyCardFx f) rfl ((clk_of_mask hmask rfl).trans (accepted_clk ha)) (hq _ ?_ ?_ (sameBut_of_mask hmask))
  · rw [hfx]
  · rw [hfx, topo_of_mask hsort rfl, htopo]

end

/-! ### SORTING_WINDOW_CLOSE and STORM -/

theorem sortingWindowClose_does {s : State} {k : SortKey}
    (h : s.dev.hif.sort.find? (fun x => x.kind == k.kind && x.subject == k.subject) = some k) :
    Does (.sortingWindowClose k.kind k.subject) s (fun e =>
      e.hif.sort = s.dev.hif.sort.filter (fun x => !(x.kind == k.kind && x.subject == k.subject)) ∧
      Noticed s.dev e 4 (leN 1 k.kind.toNat ++ zeros 1 ++ leN 2 k.subject.toNat ++ leN 2 k.count ++ leN 2 k.firstW.toNat ++
        leN 2 k.lastW.toNat ++ zeros 2 ++ k.first.bytes) ∧ SameBut reporting s.dev e) := by
  have hfx : sortCloseFx k.kind k.subject s.dev = raise 4 (leN 1 k.kind.toNat ++ zeros 1 ++ leN 2 k.subject.toNat ++ leN 2 k.count ++
      leN 2 k.firstW.toNat ++ leN 2 k.lastW.toNat ++ zeros 2 ++ k.first.bytes)
      (setHif (fun h => { h with sort := h.sort.filter (fun x => !(x.kind == k.kind && x.subject == k.subject)) }) s.dev) := by
    unfold sortCloseFx
    simp only [h]
    rfl
  have hmask := mask_sortCloseFx (ps := reporting) rfl k.kind k.subject s.dev
  refine act_does_of_clk (f := sortCloseFx k.kind k.subject) rfl (clk_of_mask hmask rfl) ⟨?_, ?_, sameBut_of_mask hmask⟩
  · rw [hfx]
    exact rest_get Hif.sort (by intro h; rfl) (raise_rest _ _ _)
  · rw [hfx]
    exact noticed_raise rfl _ _

theorem storm_does {s : State} (h : s.dev.hif.lostReps ≠ 0) :
    Does .storm s (fun e => e.hif.lostReps = 0 ∧ e.hif.lostKeys = [] ∧ e.hif.lostFirst = none ∧
      Noticed s.dev e 5 (leN 4 s.dev.hif.lostKeys.length ++ leN 4 s.dev.hif.lostReps ++ rpOr s.dev.hif.lostFirst) ∧ SameBut reporting s.dev e) := by
  have hfx : stormFx s.dev = raise 5 (leN 4 s.dev.hif.lostKeys.length ++ leN 4 s.dev.hif.lostReps ++ rpOr s.dev.hif.lostFirst)
      (setHif (fun h => { h with lostReps := 0, lostKeys := [], lostFirst := none }) s.dev) := if_neg h
  have hmask := mask_stormFx (ps := reporting) rfl s.dev
  have hrest := raise_rest (setHif (fun h => { h with lostReps := 0, lostKeys := [], lostFirst := none }) s.dev) 5
    (leN 4 s.dev.hif.lostKeys.length ++ leN 4 s.dev.hif.lostReps ++ rpOr s.dev.hif.lostFirst)
  refine act_does_of_clk (f := stormFx) rfl (clk_of_mask hmask rfl) ?_
  rw [hfx] at hmask ⊢
  exact ⟨rest_get Hif.lostReps (by intro h; rfl) hrest, rest_get Hif.lostKeys (by intro h; rfl) hrest,
    rest_get Hif.lostFirst (by intro h; rfl) hrest, noticed_raise rfl _ _, sameBut_of_mask hmask⟩

/-! ### The obligation -/

/-- Settles O34: a head's round, a node's entry, and a fault report from its card to the notice that coalesces it. -/
theorem lettersAndReports : Obligations.LettersAndReports := by
  unfold Obligations.LettersAndReports
  refine ⟨⟨fun s r n w hhead hrounds he hdirs hown hn hheld => letterboxRound_does hhead hrounds he hdirs hown hn hheld,
    fun f s h b d n w ha hnode hid hw hcfg hstart hseq hc => mailbag_does ha hnode hid hw hcfg hstart hseq hc⟩,
    fun f s h b d ha hhead hkind hone => ⟨fun k hk hkk hks => ?_, fun hnone => ?_⟩, fun s k h => sortingWindowClose_does h, fun s h => storm_does h⟩
  · obtain ⟨hsort, _, _⟩ := cardNoted_parts (h := h) (b := b) (d := d) (pairOf f.port.val)
    refine replyCard_takes ha hhead hkind hone fun e he _ hsame => ⟨cardRp b, rfl, ?_, hsame⟩
    rw [he, sortReport]
    simp only [hsort, hk, ← hkk, ← hks, List.any_cons, List.any_nil, beq_self_eq_true, Bool.and_self, Bool.or_false, if_true, List.map_cons, List.map_nil]
  · obtain ⟨hsort, _, _⟩ := cardNoted_parts (h := h) (b := b) (d := d) (pairOf f.port.val)
    refine replyCard_takes ha hhead hkind hone fun e he htopo hsame => ⟨?_, fun x hx => ?_, hsame⟩
    · rw [he, sortReport]
      simp only [hsort, hnone, List.any_nil, Bool.false_eq_true, if_false, List.length_nil, Nat.reduceLT, if_true, List.nil_append]
      rfl
    · rw [htopo]
      simp [setPair, modAt, hx]

end Sys2Proof.Proofs

end

/-! ## Sys2Proof/Proofs/Slices: PIX_SLICE frames stored, discarded as too late or too early, and counted as duplicates (R91, R133, R267) -/

section

namespace Sys2Proof.Proofs

open Machine Laws

section
variable {f : RxFrame} {s : State} {h : Hdr} {b : List Byte} {x : Device} {c : BitVec 32}

/-! ### The sequences taken for a content frame -/

theorem find_map_key {l : List (BitVec 32 × List Nat)} {ys : List Nat → List Nat} (hp : l.any (fun y => y.1 == c) = true) :
    ∃ y, l.find? (fun y => y.1 == c) = some y ∧
      (l.map (fun y => if y.1 == c then (c, ys y.2) else y)).find? (fun y => y.1 == c) = some (c, ys y.2) := by
  induction l with
  | nil => simp at hp
  | cons y l ih =>
    by_cases hy : (y.1 == c) = true
    · exact ⟨y, List.find?_cons_of_pos hy, by rw [List.map_cons, if_pos hy, List.find?_cons_of_pos (by simp)]⟩
    · rw [List.any_cons, Bool.or_eq_true, or_iff_right hy] at hp
      obtain ⟨z, hz, hm⟩ := ih hp
      exact ⟨z, by rw [List.find?_cons_of_neg (p := fun y : BitVec 32 × List Nat => y.1 == c) hy, hz], by
        rw [List.map_cons, if_neg hy, List.find?_cons_of_neg (p := fun y : BitVec 32 × List Nat => y.1 == c) hy, hm]⟩

theorem find_append_key {l : List (BitVec 32 × List Nat)} {ns : List Nat} (hp : l.any (fun y => y.1 == c) = false) :
    l.find? (fun y => y.1 == c) = none ∧ (l ++ [(c, ns)]).find? (fun y => y.1 == c) = some (c, ns) := by
  have hnone : l.find? (fun y => y.1 == c) = none :=
    List.find?_eq_none.mpr fun y hy => by simpa using List.any_eq_false.mp hp y hy
  exact ⟨hnone, by rw [List.find?_append, hnone]; simp⟩

theorem pixSeen_pixMark (c : BitVec 32) (n : Nat) (d : Device) : pixSeen (pixMark c n d) c = pixSeen d c ++ [n] := by
  unfold pixSeen pixMark
  cases hp : d.flows.pix.any (fun y => y.1 == c) with
  | true =>
    obtain ⟨y, hy, hm⟩ := find_map_key (ys := (· ++ [n])) hp
    simp only [hp, if_true, hm, hy]
  | false =>
    obtain ⟨hnone, hm⟩ := find_append_key (ns := [n]) hp
    simp only [hp, Bool.false_eq_true, if_false, hm, hnone, List.nil_append]

/-! ### The slice's window and its buffer -/

/-- A good slice for this device is its window's and its buffer's business alone. -/
theorem pixSliceFx_accepted (ha : Accepted f s 1 h b x) : pixSliceFx f s.dev = sliceTake f.port.val h b x :=
  takeNumbered_accepted ha _ _ (by simp [ha.1])

variable (hnode : x.isNode = true) (hc : c = h.stamp.frame) (hgen : (sliceHdr b).gen = (recordFor x (c + BitVec.ofNat 32 (presentP x))).2)
include hnode hc hgen

theorem sliceTake_late (hl : sliceLate x c = true) (p : Nat) : sliceTake p h b x = outOfWindow c false x := by
  subst hc
  simp [sliceTake, hnode, hgen, hl]

theorem sliceTake_early (hl : sliceLate x c = false) (he : sliceEarly x c = true) (p : Nat) :
    sliceTake p h b x = outOfWindow c true x := by
  subst hc
  simp [sliceTake, hnode, hgen, hl, he]

variable (hl : sliceLate x c = false) (he : sliceEarly x c = false)
include hl he

theorem sliceTake_seen (hseen : (pixSeen x c).contains h.seq = true) (p : Nat) : sliceTake p h b x = x.bump (lnkReg p 0x14) 1 := by
  subst hc
  simp only [sliceTake, hnode, hgen, hl, he, hseen, Bool.not_true, bne_self_eq_false, Bool.or_self, Bool.false_eq_true, if_false, if_true]

theorem sliceTake_stored (hnew : (pixSeen x c).contains h.seq = false) (p : Nat) :
    sliceTake p h b x = storeRun c (sliceHdr b) (cut b 26 (sliceHdr b).bytes) (pixMark c h.seq x) := by
  subst hc
  simp only [sliceTake, hnode, hgen, hl, he, hnew, Bool.not_true, bne_self_eq_false, Bool.or_self, Bool.false_eq_true, if_false]

omit hnode hc hgen hl he

/-- A buffer with a run of fill written to it (R266). -/
def runStored (r : SliceHdr) (data : List Byte) (k : Buffer) : Buffer :=
  { k with fill := k.fill ++ [{ first := r.first, count := r.count, data := data }], fillN := k.fillN + r.count }

theorem storeRun_one {k : Buffer} {r : SliceHdr} {data : List Byte} {d : Device} (hb : d.pxl.buffers = [k]) (hk : k.content = c) (hh : k.hold = false)
    (hs : runSuits r k.fmt = true) (hlay : r.layout ≠ 3) :
    storeRun c r data d = setPxl (fun p => { p with buffers := [runStored r data k] }) d := by
  have hmine : (k.content == c && !k.hold && runSuits r k.fmt) = true := by simp [hk, hh, hs]
  have hany : d.pxl.buffers.any (fun b : Buffer => b.content == c && !b.hold && runSuits r b.fmt) = true := by
    rw [hb]
    simp [hk, hh, hs]
  simp only [storeRun]
  rw [if_pos hany]
  simp only [setPxl, hb, List.map_cons, List.map_nil, hmine, Bool.not_true, Bool.false_eq_true, if_false, if_neg hlay]
  rfl

/-! ### The four ends of a slice -/

variable (ha : Accepted f s 1 h b x)
include ha

theorem pixSlice_does {p : Device → Prop} (hclk : (sliceTake f.port.val h b x).clk = x.clk) (hp : p (sliceTake f.port.val h b x)) :
    Does (.pixSlice f) s p := by
  rw [← pixSliceFx_accepted ha] at hclk hp
  exact act_does_of_clk (f := pixSliceFx f) rfl (hclk.trans (accepted_clk ha)) hp

include hnode hc hgen

theorem slice_late (hl : sliceLate x c = true) :
    Does (.pixSlice f) s (fun e => e.word 0x305C = satAdd 0xFFFFFFFF (x.word 0x305C) 1 ∧
      e.tim.lateCount = satAdd 65535 x.tim.lateCount 1 ∧ SameBut [.regs, .tim] x e) := by
  have ht := sliceTake_late hnode hc hgen hl f.port.val
  refine pixSlice_does ha (by rw [ht]; rfl) ?_
  rw [ht]
  exact ⟨word_bump x 0x305C 1, rfl, sameBut_of_mask (mask_outOfWindow rfl c false x)⟩

theorem slice_early (hl : sliceLate x c = false) (he : sliceEarly x c = true) :
    Does (.pixSlice f) s (fun e => e.word 0x3058 = satAdd 0xFFFFFFFF (x.word 0x3058) 1 ∧
      e.tim.earlyCount = satAdd 65535 x.tim.earlyCount 1 ∧ SameBut [.regs, .tim] x e) := by
  have ht := sliceTake_early hnode hc hgen hl he f.port.val
  refine pixSlice_does ha (by rw [ht]; rfl) ?_
  rw [ht]
  exact ⟨word_bump x 0x3058 1, rfl, sameBut_of_mask (mask_outOfWindow rfl c true x)⟩

include hl he

theorem slice_seen (hseen : (pixSeen x c).contains h.seq = true) :
    Does (.pixSlice f) s (fun e => e.word (lnkReg f.port.val 0x14) = satAdd 0xFFFFFFFF (x.word (lnkReg f.port.val 0x14)) 1 ∧
      SameBut [.regs] x e) := by
  have ht := sliceTake_seen hnode hc hgen hl he hseen f.port.val
  refine pixSlice_does ha (by rw [ht]; rfl) ?_
  rw [ht]
  exact ⟨word_bump x _ 1, sameBut_of_mask rfl⟩

theorem slice_stored {k : Buffer} (hnew : (pixSeen x c).contains h.seq = false) (hb : x.pxl.buffers = [k]) (hk : k.content = c)
    (hh : k.hold = false) (hs : runSuits (sliceHdr b) k.fmt = true) (hlay : (sliceHdr b).layout ≠ 3) :
    Does (.pixSlice f) s (fun e => e.pxl = { x.pxl with buffers := [runStored (sliceHdr b) (cut b 26 (sliceHdr b).bytes) k] } ∧
      pixSeen e c = pixSeen x c ++ [h.seq] ∧ SameBut [.pxl, .flows] x e) := by
  have ht := (sliceTake_stored hnode hc hgen hl he hnew f.port.val).trans (storeRun_one (d := pixMark c h.seq x) hb hk hh hs hlay)
  refine pixSlice_does ha (by rw [ht]; rfl) ?_
  rw [ht]
  exact ⟨rfl, pixSeen_pixMark c h.seq x, sameBut_of_mask rfl⟩

end

/-- Settles O36: a good slice of the node's own map goes by its window (R91), by its sequence (R133), and then into the one buffer it
suits (R267). -/
theorem slicesStored : Obligations.SlicesStored := by
  unfold Obligations.SlicesStored
  intro f s h b x c ha hnode hc hgen
  exact ⟨fun k hl he hnew hb hk hh hs hlay => slice_stored hnode hc hgen hl he ha hnew hb hk hh hs hlay,
    slice_late hnode hc hgen ha, slice_early hnode hc hgen ha, fun hl he => slice_seen hnode hc hgen hl he ha⟩

end Sys2Proof.Proofs
end

/-! ## Sys2Proof/Proofs/CtrlFrames: FIX, PROOF and CTRL frames taken (R119, R120, R129, R424, R521) -/

section

namespace Sys2Proof.Proofs

open Machine Laws

section
variable {f : RxFrame} {s : State} {h : Hdr} {b : List Byte} {d : Device}

/-! ### FIX, PROOF, READ_RESP and WRITE_ACK -/

/-- A DMX port that has data of the greatest stamp (R424). -/
def dataNewest (stamp : BitVec 32) (data : List Byte) (x : DmxPort) : DmxPort :=
  { x with prev := x.new, new := some { stamp := stamp, data := data }, lost := false }

theorem keepFix_newest {p : Nat} {x : DmxPort} {stamp : BitVec 32} (hx : d.fix.ports[p]? = some x)
    (hnew : ∀ n, x.new = some n → 0 < frameDiff stamp n.stamp) (data : List Byte) :
    keepFix p stamp data d = when (x.new.isSome && x.lost) (sourceNote p 1) (setDmx p (dataNewest stamp data) d) := by
  rw [keepFix, dmxOf_of_get hx]
  cases hn : x.new with
  | none => rfl
  | some n =>
    have hpos := hnew n hn
    simp only [if_neg (show ¬ frameDiff stamp n.stamp < 0 by omega), if_neg (show ¬ frameDiff stamp n.stamp = 0 by omega),
      Option.isSome_some, Bool.true_and]
    rfl

theorem fix_kept {x : DmxPort} (ha : Accepted f s 7 h b d) (hnode : s.dev.isNode = true) (hx : d.fix.ports[be b 0 1]? = some x)
    (hnew : ∀ n, x.new = some n → 0 < frameDiff h.stamp.frame n.stamp) :
    Does (.fix f) s (fun e => e.fix = { d.fix with ports := d.fix.ports.set (be b 0 1) (dataNewest h.stamp.frame (b.drop 10) x) } ∧
      (x.lost = false → SameBut [.fix] d e) ∧ SameBut (.fix :: reporting) d e) := by
  have hfx : fixFx f s.dev = when (x.new.isSome && x.lost) (sourceNote (be b 0 1) 1) (setDmx (be b 0 1) (dataNewest h.stamp.frame (b.drop 10)) d) :=
    (takeNumbered_accepted ha _ _ (by simp [ha.1, hnode])).trans (keepFix_newest hx hnew _)
  have hnote : blank reporting (fixFx f s.dev) = blank reporting (setDmx (be b 0 1) (dataNewest h.stamp.frame (b.drop 10)) d) := by
    rw [hfx]
    exact mask_when (mask_sourceNote rfl _ _ _)
  have hset := setDmx_of_get hx (dataNewest h.stamp.frame (b.drop 10))
  refine act_does_of_clk (f := fixFx f) rfl ?_ ⟨?_, fun hlost => ?_, ?_⟩
  · rw [clk_of_mask hnote rfl, hset]
    exact (accepted_clk ha :)
  · rw [fix_of_mask hnote rfl, hset]
  · rw [hfx, hlost, Bool.and_false, when_false, hset]
    exact sameBut_of_mask rfl
  · refine sameBut_of_mask ((mask_mono rfl hnote).trans ?_)
    rw [hset]
    rfl

theorem proof_taken (ha : Accepted f s 6 h b d) (hhead : s.dev.isHead = true) :
    Does (.proof f) s (fun e => e.proofIn = d.proofIn ++ [(BitVec.ofNat 12 h.src, h.stamp.frame, b)] ∧ SameBut [.proofIn] d e) := by
  have hfx : proofFx f s.dev = { d with proofIn := d.proofIn ++ [(BitVec.ofNat 12 h.src, h.stamp.frame, b)] } :=
    takeNumbered_accepted ha _ _ (by simp [ha.1, hhead])
  refine act_does_of_clk (f := proofFx f) rfl (by rw [hfx]; exact (accepted_clk ha :)) ?_
  rw [hfx]
  exact ⟨rfl, sameBut_of_mask rfl⟩

/-- The answers a head takes to its own CTRL requests change nothing more (R119). -/
theorem answer_taken {op : Nat} {i : Instr} (ha : Accepted f s 2 h b d) (hop : be b 0 1 = op)
    (hi : exec i s = act (takeNumbered f (ctrlIs op) (fun _ _ d => d)) s) : Does i s (fun e => e = d) := by
  have hfx : takeNumbered f (ctrlIs op) (fun _ _ d => d) s.dev = d := takeNumbered_accepted ha _ _ (by simp [ctrlIs, ha.1, hop])
  exact act_does_of_clk hi (by rw [hfx]; exact accepted_clk ha) hfx

/-! ### The answer to a request -/

theorem nextSeq_usedSeq (d : Device) (cls origin pair : Nat) : nextSeq (usedSeq d cls origin pair) cls origin pair = nextSeq d cls origin pair + 1 :=
  mget_mset_same (m := d.flows.next) (k := flowKey cls origin pair) (a := mget d.flows.next (flowKey cls origin pair) 0 + 1) (d := 0)

theorem nextSeq_of_flows {e : Device} (hf : e.flows = d.flows) (cls origin pair : Nat) : nextSeq e cls origin pair = nextSeq d cls origin pair := by
  rw [nextSeq, nextSeq, hf]

theorem nextSeq_ctrlRespond (p : Nat) (h : Hdr) (payload : List Byte) (d : Device) :
    nextSeq (ctrlRespond p h payload d) 2 1 (pairOf p) = nextSeq d 2 1 (pairOf p) + 1 := by
  unfold ctrlRespond
  extract_lets pair n outs
  rw [nextSeq_usedSeq]
  exact congrArg (· + 1) (nextSeq_of_flows (flows_of_mask (mask_foldl (fun _ _ => mask_sendOwn (ps := [.link, .sent]) rfl _ _ _ _) outs d) rfl) 2 1 pair)

theorem ctrlRespond_answers (p : Nat) (h : Hdr) (payload : List Byte) (d : Device) :
    nextSeq (ctrlRespond p h payload d) 2 1 (pairOf p) = nextSeq d 2 1 (pairOf p) + 1 ∧
      SameBut [.flows, .link, .sent] d (ctrlRespond p h payload d) :=
  ⟨nextSeq_ctrlRespond p h payload d, sameBut_of_mask (mask_ctrlRespond rfl p h payload d)⟩

theorem ctrlRespond_clk (p : Nat) (h : Hdr) (payload : List Byte) (d : Device) : (ctrlRespond p h payload d).clk = d.clk :=
  clk_of_mask (mask_ctrlRespond (ps := [.flows, .link, .sent]) rfl p h payload d) rfl

theorem readReg_clk (keep : Bool) (a : Nat) (d : Device) : (readReg keep a d).clk = d.clk :=
  clk_of_mask (mask_readReg (ps := [.tim, .link, .ing, .pxl, .fix, .mtr, .regs, .snap, .lastRead]) rfl keep a d) rfl

/-! ### CTRL_READ and CTRL_UNLISTED_OP -/

theorem ctrlReadFx_single {a v : Nat} (ha : Accepted f s 2 h b d) (hserved : ctrlServed d = true) (hnode : s.dev.isHead = false)
    (hop : be b 0 1 = 0) (hes : ctrlEntries b = [(a, v)]) (hgood : entryGood a = true) :
    ∃ ack, ctrlReadFx f s.dev = ctrlRespond f.port.val h ack (readReg false a d) := by
  rw [ctrlReadFx, takeNumbered_accepted ha _ _ (by simp [ctrlIs, ha.1, hop, hnode])]
  simp only [hserved, hes, ctrlReadAll, List.foldl_cons, List.foldl_nil, hgood, Bool.not_true, Bool.false_eq_true, if_false, if_true]
  exact ⟨_, rfl⟩

theorem ctrlRead_single {a v : Nat} (ha : Accepted f s 2 h b d) (hserved : ctrlServed d = true) (hnode : s.dev.isHead = false)
    (hop : be b 0 1 = 0) (hes : ctrlEntries b = [(a, v)]) (hgood : entryGood a = true) :
    Does (.ctrlRead f) s (fun e => e.lastRead = (readReg false a d).lastRead ∧
      nextSeq e 2 1 (pairOf f.port.val) = nextSeq (readReg false a d) 2 1 (pairOf f.port.val) + 1 ∧
      SameBut [.flows, .link, .sent] (readReg false a d) e) := by
  obtain ⟨ack, hfx⟩ := ctrlReadFx_single ha hserved hnode hop hes hgood
  refine act_does_of_clk (f := ctrlReadFx f) rfl (by rw [hfx, ctrlRespond_clk, readReg_clk, accepted_clk ha]) ?_
  rw [hfx]
  exact ⟨lastRead_of_mask (mask_ctrlRespond (ps := [.flows, .link, .sent]) rfl _ _ _ _) rfl, ctrlRespond_answers _ _ _ _⟩

theorem ctrlUnlisted_answered (ha : Accepted f s 2 h b d) (hserved : ctrlServed d = true) (hop : 7 ≤ be b 0 1) (horigin : h.origin = 0)
    (hdst : unicastTo d h = true) : Does (.ctrlUnlistedOp f) s (fun e =>
      nextSeq e 2 1 (pairOf f.port.val) = nextSeq d 2 1 (pairOf f.port.val) + 1 ∧ SameBut [.flows, .link, .sent] d e) := by
  have hfx : ctrlUnlistedFx f s.dev = ctrlRespond f.port.val h (ctrlHead 3 3 0 (be b 4 4)) d := by
    rw [ctrlUnlistedFx, takeNumbered_accepted ha _ _ (by simp [ha.1, hop])]
    simp [horigin, hdst, hserved]
  refine act_does_of_clk (f := ctrlUnlistedFx f) rfl (by rw [hfx, ctrlRespond_clk, accepted_clk ha]) ?_
  rw [hfx]
  exact ctrlRespond_answers _ _ _ _

/-! ### CTRL_WRITE -/

theorem applySetting_pwr (a v : Nat) (d : Device) : (applySetting a v d).pwr = d.pwr :=
  pwr_of_mask (mask_applySetting (ps := [.tim, .link, .ing, .flows, .hif, .out, .red, .spare, .mtr, .regs, .wideHold, .sent, .host, .notes])
    rfl a v d) rfl

/-- No register write asks for a reset: only the key written to PWR_RESET does (R521). -/
theorem writeReg_resetAsked (a v : Nat) (d : Device) : (writeReg a v d).pwr.resetAsked = d.pwr.resetAsked := by
  have hlocked : (lockedWrite a d).pwr = d.pwr := pwr_of_mask (mask_lockedWrite (ps := [.hif, .sec]) rfl a d) rfl
  have hstart : (pwrStartFx v d).pwr.resetAsked = d.pwr.resetAsked := by
    unfold pwrStartFx
    split <;> rfl
  have hring : (ringCfgFx v d).pwr = d.pwr := pwr_of_mask (mask_ringCfgFx (ps := [.hif]) rfl v d) rfl
  have hexpo : (expoWriteFx v d).pwr = d.pwr := pwr_of_mask (mask_expoWriteFx (ps := [.corr, .regs]) rfl v d) rfl
  have hout : (outCtrlFx v d).pwr = d.pwr := pwr_of_mask (mask_outCtrlFx (ps := [.out, .regs]) rfl v d) rfl
  simp only [writeReg, apply_ite Device.pwr, apply_ite Power.resetAsked, hlocked, hstart, hring, hexpo, hout, applySetting_pwr, ite_self,
    setSec, setPwr, setHif, setMtr]

theorem ctrlWrite_single {a v : Nat} (ha : Accepted f s 2 h b d) (hserved : ctrlServed d = true) (hnode : s.dev.isHead = false)
    (hop : be b 0 1 = 1) (hes : ctrlEntries b = [(a, v)]) (hgood : entryGood a = true) (hkey : a ≠ 0x0C08) (hreset : d.pwr.resetAsked = false) :
    Does (.ctrlWrite f) s (fun e => nextSeq e 2 1 (pairOf f.port.val) = nextSeq (writeReg a v d) 2 1 (pairOf f.port.val) + 1 ∧
      SameBut [.flows, .link, .sent] (writeReg a v d) e) := by
  obtain ⟨ack, hfx⟩ := ctrlWriteFx_single ha hserved hnode hop hes hgood hkey ((writeReg_resetAsked a v d).trans hreset)
  refine clocked_does (f := ctrlWriteFx f) rfl ?_
  rw [hfx]
  exact ctrlRespond_answers _ _ _ _

/-- The key itself is no setting: PWR_RESET reads as it did (R521). -/
theorem writeReg_pwrReset (d : Device) (v : Nat) : writeReg 0x0C08 v d = d := by
  have hmask : settingMask d 0x0C08 = none := by simp [settingMask]
  have hlacks : lacks d 0x0C08 = false := by simp [lacks]
  have hopen : rwlLocked 0x0C08 d = false := by simp [rwlLocked, hmask, outRwl]
  have hwide : wideOf 0x0C08 = none := by decide
  have hbase : ringBase 0x0C08 = false := by decide
  have hout : outRwl 0x0C08 = false := by decide
  simp only [writeReg, hlacks, hopen, hbase, applySetting, hwide, putWord, hout, hmask, Bool.false_eq_true, if_false]
  simp

theorem ctrlWriteCore_reset (ha : Accepted f s 2 h b d) (hserved : ctrlServed d = true) (hnode : s.dev.isHead = false)
    (hop : be b 0 1 = 1) (hes : ctrlEntries b = [(0x0C08, 0x5A4C5253)]) :
    ∃ ack, ctrlWriteCore f s.dev = setPwr (fun p => { p with resetAsked := true }) (ctrlRespond f.port.val h ack d) := by
  have hw := writeReg_pwrReset d 0x5A4C5253
  have hgood : entryGood 0x0C08 = true := by decide
  rw [ctrlWriteCore, takeNumbered_accepted ha _ _ (by simp [ctrlIs, ha.1, hop, hnode])]
  simp only [hserved, hes, ctrlWriteAll, List.foldl_cons, List.foldl_nil, hgood, hw, List.any_cons, List.any_nil,
    Bool.not_true, Bool.false_eq_true, if_false, if_true, beq_self_eq_true, Bool.and_self, Bool.or_false]
  exact ⟨_, rfl⟩

theorem ctrlWrite_reset (ha : Accepted f s 2 h b d) (hserved : ctrlServed d = true) (hnode : s.dev.isHead = false)
    (hop : be b 0 1 = 1) (hes : ctrlEntries b = [(0x0C08, 0x5A4C5253)]) :
    Does (.ctrlWrite f) s (fun e => ∃ d1, AfterReset 4 d1 e ∧
      nextSeq d1 2 1 (pairOf f.port.val) = nextSeq d 2 1 (pairOf f.port.val) + 1) := by
  obtain ⟨ack, hcore⟩ := ctrlWriteCore_reset ha hserved hnode hop hes
  have hfx : ctrlWriteFx f s.dev = resetDevice 4 (quiet (ctrlWriteCore f) s.dev) := by
    simp only [ctrlWriteFx]
    rw [if_pos]
    rw [quiet, hcore]
    rfl
  refine clocked_does (f := ctrlWriteFx f) rfl ⟨quiet (ctrlWriteCore f) s.dev, hfx ▸ afterReset_resetDevice 4 _, ?_⟩
  rw [quiet, hcore]
  exact nextSeq_ctrlRespond f.port.val h ack d

end

/-- Settles O37: the frames that carry data are kept as they come, and a CTRL request of one entry is served by that register and answered
once (R120). -/
theorem dataAndRegisterFrames : Obligations.DataAndRegisterFrames := by
  unfold Obligations.DataAndRegisterFrames
  refine ⟨fun f s h b d => ⟨fun ha hnode x hx hnew => fix_kept ha hnode hx hnew, proof_taken, fun ha hop => answer_taken ha hop rfl,
    fun ha hop => answer_taken ha hop rfl⟩, ?_⟩
  rintro f s h b d pair rfl ha hserved
  exact ⟨fun hnode => ⟨fun hop a v hes hgood => ctrlRead_single ha hserved hnode hop hes hgood,
    fun hop a v hes hgood hkey hreset => ctrlWrite_single ha hserved hnode hop hes hgood hkey hreset,
    fun hop hes => ctrlWrite_reset ha hserved hnode hop hes⟩, ctrlUnlisted_answered ha hserved⟩

end Sys2Proof.Proofs
end

/-! ## Sys2Proof/Proofs/Maps: PARTNER frames heard, and system maps loaded, checked and given up (R22, R34 to R40, R122, R575) -/

section

namespace Sys2Proof.Proofs

open Machine Laws

/-! ### PARTNER -/

section
variable {d : Device} {pair : Nat} {hp : HeadPair}

theorem setPair_of_get (h : d.topo.pairs[pair]? = some hp) (f : HeadPair → HeadPair) :
    setPair pair f d = { d with topo := { d.topo with pairs := d.topo.pairs.set pair (f hp) } } := by
  rw [setPair, modAt_eq_set h]

theorem pairs_setPair (h : d.topo.pairs[pair]? = some hp) (f : HeadPair → HeadPair) :
    (setPair pair f d).topo.pairs[pair]? = some (f hp) := by
  rw [setPair_of_get h]
  exact List.getElem?_set_self (List.getElem?_eq_some_iff.mp h).1

/-- A pair whose partner's values and links are those of another; only its comparison of R344 may differ. -/
def SameLink (x y : HeadPair) : Prop :=
  y.partner = x.partner ∧ y.boundaries = x.boundaries ∧ y.closeDown = x.closeDown ∧ y.bound = x.bound ∧ y.feeding = x.feeding

theorem partnerStep_sameLink (h : d.topo.pairs[pair]? = some hp) (o i : PartnerInfo) :
    ∃ y, (partnerStep pair o i d).topo.pairs[pair]? = some y ∧ SameLink hp y := by
  unfold partnerStep
  extract_lets x n k d1
  split
  · exact ⟨_, pairs_setPair h _, rfl, rfl, rfl, rfl, rfl⟩
  next item _ =>
    have htopo : (when (decide (8 ≤ k) && !x.stepTold) (raise 0x500B (leN 1 pair ++ leN 1 item ++ zeros 2)) d1).topo = d1.topo :=
      topo_of_mask (mask_when (ps := reporting) (mask_raise rfl _ _ _)) rfl
    rw [htopo]
    exact ⟨_, pairs_setPair h _, rfl, rfl, rfl, rfl, rfl⟩

theorem partnerCompare_sameLink (h : d.topo.pairs[pair]? = some hp) :
    ∃ y, (partnerCompare pair d).topo.pairs[pair]? = some y ∧ SameLink hp y := by
  unfold partnerCompare
  extract_lets x
  split
  · split
    · exact partnerStep_sameLink h _ _
    · exact ⟨hp, h, rfl, rfl, rfl, rfl, rfl⟩
  · exact ⟨hp, h, rfl, rfl, rfl, rfl, rfl⟩

theorem partner_taken {f : RxFrame} {s : State} {h : Hdr} {b : List Byte} (ha : Accepted f s 2 h b d) (hop : be b 0 1 = 6)
    (hx : d.topo.pairs[pairOf f.port.val]? = some hp) :
    Does (.partner f) s (fun e => ∃ y, e.topo.pairs[pairOf f.port.val]? = some y ∧
      y.partner = some { partnerInfo (b.drop 8) with stamp := h.stamp.frame } ∧ y.boundaries = 0 ∧ y.closeDown = false ∧
      y.bound = hp.bound ∧ y.feeding = hp.feeding ∧ SameBut (.topo :: reporting) d e) := by
  have hfx : partnerFx f s.dev = partnerTake (pairOf f.port.val) h b d := takeNumbered_accepted ha _ _ (by simp [ctrlIs, ha.1, hop])
  have hmask : blank (.topo :: reporting) (partnerFx f s.dev) = blank (.topo :: reporting) d := by
    rw [hfx]
    exact mask_partnerTake rfl _ _ _ _
  obtain ⟨y, hy, hpartner, hcount, hdown, hbound, hfeed⟩ := partnerCompare_sameLink (pairs_setPair hx (fun p =>
    { p with partner := some { partnerInfo (b.drop 8) with stamp := h.stamp.frame }, boundaries := 0, closeDown := false }))
  refine act_does_of_clk (f := partnerFx f) rfl ((clk_of_mask hmask rfl).trans (accepted_clk ha))
    ⟨y, ?_, hpartner, hcount, hdown, hbound, hfeed, sameBut_of_mask hmask⟩
  rw [hfx]
  exact hy

end

/-! ### CLOSING_LINK_DOWN -/

section
variable {s : State} {pair : Nat} {m : SysMap} {i q : Nat} {r : RingEntry} {isX : Bool} {hp : HeadPair}
variable (hmap : mapKnown s.dev = some m)
  (hring : (headRings s.dev m).find? (fun (_, r, q, _) => q == pair && r.dual) = some (i, r, q, isX))
  (hx : s.dev.topo.pairs[pair]? = some hp)
include hmap hring hx

theorem closingDownFx_eq : closingDownFx pair s.dev =
    if hp.closeDown || decide (hp.boundaries < 4) then s.dev
    else raise 0x1011 (leN 2 i ++ leN 1 (if isX then r.headY else r.headX) ++ zeros 1)
      (setPair pair (fun p => { p with closeDown := true }) s.dev) := by
  have hget : s.dev.topo.pairs.getD pair {} = hp := by rw [List.getD_eq_getElem?_getD, hx]; rfl
  rw [closingDownFx, hmap]
  simp only [hget]
  split
  case h_1 heq =>
    cases heq.symm.trans hring
    rfl
  case h_2 heq => cases heq.symm.trans hring

theorem closingLink_reported (hup : hp.closeDown = false) (hlong : 4 ≤ hp.boundaries) {p : Fin 4} (hp4 : p.val = pair) :
    Does (.closingLinkDown p) s (fun e =>
      e.topo = { s.dev.topo with pairs := s.dev.topo.pairs.set pair { hp with closeDown := true } } ∧
      Noticed s.dev e 0x1011 (leN 2 i ++ leN 1 (if isX then r.headY else r.headX) ++ zeros 1) ∧
      SameBut (.topo :: reporting) s.dev e) := by
  subst hp4
  have hfx := closingDownFx_eq hmap hring hx
  rw [if_neg (by simp [hup]; omega), setPair_of_get hx] at hfx
  have hmask : blank (.topo :: reporting) (closingDownFx p.val s.dev) = blank (.topo :: reporting) s.dev := by
    rw [hfx, mask_raise rfl]
    rfl
  refine act_does_of_clk (f := closingDownFx p.val) rfl (clk_of_mask hmask rfl) ⟨?_, ?_, sameBut_of_mask hmask⟩
  · rw [hfx, raise_topo]
  · rw [hfx]
    exact noticed_raise (d := s.dev) (by rfl) _ _

theorem closingLink_kept (h : hp.closeDown = true ∨ hp.boundaries < 4) {p : Fin 4} (hp4 : p.val = pair) :
    Does (.closingLinkDown p) s (fun e => e = s.dev) := by
  subst hp4
  have hfx := closingDownFx_eq hmap hring hx
  rw [if_pos (by simpa using h)] at hfx
  exact act_does_of_clk (f := closingDownFx p.val) rfl (congrArg Device.clk hfx) hfx

end

/-! ### MAP_LOAD -/

section
variable {c : Cmd} {s : State}

/-- A waiting map given up leaves the maps as they are but that none waits (R40). -/
theorem withdrawMap_topo (d : Device) : (withdrawMap d).topo = { d.topo with load := none } := by
  unfold withdrawMap
  extract_lets _ e
  split
  · split
    · exact topo_of_mask (ps := others .topo) (mask_assignBound rfl _ _ e) rfl
    · rfl
  · rfl

theorem withdrawMap_notes (d : Device) : (withdrawMap d).notes = d.notes :=
  notes_of_mask (ps := others .notes) (mask_withdrawMap rfl d) rfl

theorem schedSample_topo (d : Device) : (schedSample d).topo = d.topo :=
  topo_of_mask (ps := others .topo) (mask_schedSample rfl d) rfl

theorem schedSample_adm (d : Device) : (schedSample d).sched.adm = d.sched.adm := by
  obtain ⟨w, hw⟩ := sampleSched_sched (schedPlaces d) d
  rw [schedSample, hw]

/-- What a MAP_LOAD finds waiting is cancelled (R40). -/
def earlierCancelled (d : Device) : Device :=
  match d.topo.load with
  | some l => complete 0x1F l.cmd 3 none [] (withdrawMap d)
  | none => d

theorem earlierCancelled_none {d : Device} (h : d.topo.load = none) : earlierCancelled d = d := by
  rw [earlierCancelled, h]

theorem earlierCancelled_some {d : Device} {l : MapLoad} (h : d.topo.load = some l) :
    earlierCancelled d = complete 0x1F l.cmd 3 none [] (withdrawMap d) := by
  rw [earlierCancelled, h]

theorem earlierCancelled_map (d : Device) : (earlierCancelled d).topo.map = d.topo.map := by
  cases h : d.topo.load with
  | none => rw [earlierCancelled_none h]
  | some l => rw [earlierCancelled_some h, complete_topo, withdrawMap_topo]

theorem earlierCancelled_mask (d : Device) :
    blank [.link, .topo, .flows, .hif, .sent, .host, .comps] (earlierCancelled d) =
      blank [.link, .topo, .flows, .hif, .sent, .host, .comps] d := by
  cases h : d.topo.load with
  | none => rw [earlierCancelled_none h]
  | some l => rw [earlierCancelled_some h, mask_complete rfl, mask_withdrawMap rfl]

/-- A MAP_LOAD waiting for its check, numbered by its place in the order of admission (R86). -/
def loadWaits (l : MapLoad) (d : Device) : Device :=
  { d with sched := { d.sched with adm := d.sched.adm + 1 }, topo := { d.topo with load := some l, triesOver := true } }

theorem mapLoadFx_waits {d : Device} (hhead : d.isHead = true) (hal : misaligned c = false)
    (hdue : d.tim.firstLock = true → loadRefusal c d = none) :
    mapLoadFx c d = schedSample (loadWaits (MapLoad.mk (if d.tim.firstLock then loadTimed c d else c) (earlierCancelled d).sched.adm
      (earlierCancelled d).tim.firstLock false none 0 0) (earlierCancelled d)) := by
  have hnone : (if d.tim.firstLock then loadRefusal c d else none) = none := by
    split
    case isTrue h => exact hdue h
    case isFalse => rfl
  rw [mapLoadFx, if_neg (by simp [hhead]), if_neg (by simp [hal]), hnone]
  rfl

theorem mapLoad_waits (hhead : s.dev.isHead = true) (hal : misaligned c = false)
    (hdue : s.dev.tim.firstLock = true → loadRefusal c s.dev = none) :
    Does (.mapLoad c) s (fun e => e.topo.load = some
        { cmd := if s.dev.tim.firstLock then loadTimed c s.dev else c, adm := s.dev.sched.adm, judged := s.dev.tim.firstLock } ∧
      e.topo.map = s.dev.topo.map ∧ e.sched.adm = s.dev.sched.adm + 1 ∧
      (s.dev.topo.load = none → e.comps = s.dev.comps) ∧
      (∀ l, s.dev.topo.load = some l → Completed s.dev e 0x1F l.cmd 3 none [])) := by
  have hfx := mapLoadFx_waits hhead hal hdue
  have hearly := earlierCancelled_mask s.dev
  rw [sched_of_mask hearly rfl, tim_of_mask hearly rfl] at hfx
  have hcomps : (mapLoadFx c s.dev).comps = (earlierCancelled s.dev).comps := by
    rw [hfx, schedSample_comps]
    rfl
  refine act_does_of_clk (f := mapLoadFx c) rfl ?_ ⟨?_, ?_, ?_, fun hn => ?_, fun l hl => ?_⟩
  · rw [hfx, clk_of_mask (ps := others .clk) (mask_schedSample rfl _) rfl]
    exact (clk_of_mask hearly rfl :)
  · rw [hfx, schedSample_topo]
    rfl
  · rw [hfx, schedSample_topo]
    exact earlierCancelled_map s.dev
  · rw [hfx, schedSample_adm]
    exact congrArg (·.adm + 1) (sched_of_mask hearly rfl :)
  · rw [hcomps, earlierCancelled_none hn]
  · rw [Completed, hcomps, earlierCancelled_some hl, complete_comps, withdrawMap_comps]

theorem mapLoad_refused {st : Nat} {reason : List Byte} (hfx : mapLoadFx c s.dev = refuse 0x1F c st reason s.dev) :
    Does (.mapLoad c) s (fun e => Completed s.dev e 0x1F c st none reason ∧ e.topo = s.dev.topo) := by
  refine act_does_of_clk (f := mapLoadFx c) rfl (by rw [hfx, refuse_clk]) ?_
  rw [hfx]
  exact ⟨refuse_completed _ _ _ _ _, refuse_topo _ _ _ _ _⟩

/-- A MAP_LOAD that its own due RP refuses leaves the earlier one waiting (R40). -/
theorem mapLoad_mistimed {st : Nat} (hhead : s.dev.isHead = true) (hal : misaligned c = false) (hlock : s.dev.tim.firstLock = true)
    (href : loadRefusal c s.dev = some st) :
    Does (.mapLoad c) s (fun e => Completed s.dev e 0x1F c st none [] ∧ e.topo = s.dev.topo) := by
  have hfx : mapLoadFx c s.dev = loadRefused st c s.dev := by
    rw [mapLoadFx, if_neg (by simp [hhead]), if_neg (by simp [hal]), hlock, if_pos rfl, href]
  by_cases h2 : st = 2
  · subst h2
    have hlate : mapLoadFx c s.dev = eventLate 0x1F c none (refuse 0x1F c 2 [] s.dev) := hfx.trans (if_pos rfl)
    have hmask : blank reporting (mapLoadFx c s.dev) = blank reporting (refuse 0x1F c 2 [] s.dev) := by
      rw [hlate]
      exact mask_eventLate rfl _ _ _ _
    refine act_does_of_clk (f := mapLoadFx c) rfl ((clk_of_mask hmask rfl).trans (refuse_clk _ _ _ _ _))
      ⟨?_, (topo_of_mask hmask rfl).trans (refuse_topo _ _ _ _ _)⟩
    rw [Completed, comps_of_mask hmask rfl]
    exact refuse_completed 0x1F c 2 [] s.dev
  · exact mapLoad_refused (hfx.trans (if_neg h2))

end

/-! ### MAP_CHECK_COMPLETE and MAP_SWITCH_TIMEOUT -/

section
variable {s : State} {l : MapLoad} {b : List Byte} {m : SysMap}

/-- A map that has failed: it waits no more, its command completes INVALID_OPERAND, and MAP_REJECTED names the check (R34). -/
theorem map_rejected {i : Instr} {fx : Device → Device} {code idx gen : Nat} (hi : exec i s = act fx s)
    (hfx : fx s.dev = schedSample (rejectMap l.cmd code idx gen s.dev)) :
    Does i s (fun e => e.topo = { s.dev.topo with load := none } ∧
      Completed s.dev e 0x1F l.cmd 4 none (leN 1 code ++ zeros 3 ++ leN 4 idx) ∧
      NoticedFirst s.dev e 0x1010 (leN 1 code ++ zeros 3 ++ leN 4 idx ++ leN 4 gen)) := by
  have hclk : (fx s.dev).clk = s.dev.clk := by
    rw [hfx, clk_of_mask (ps := others .clk) (mask_schedSample rfl _) rfl]
    exact clk_of_mask (ps := others .clk) (mask_rejectMap rfl _ _ _ _ _) rfl
  refine act_does_of_clk hi hclk ?_
  rw [hfx, rejectMap, mapRejected]
  refine ⟨?_, ?_, noticedFirst_of_prefix ?_ (prefix_sample _ _ _)⟩
  · rw [schedSample_topo, raise_topo, complete_topo, withdrawMap_topo]
  · rw [Completed, schedSample_comps, raise_comps, complete_comps, withdrawMap_comps]
  · rw [complete_notes, withdrawMap_notes]

theorem mapCheck_good (hl : s.dev.topo.load = some l) (hm : l.map = none) (hb : l.cmd.host = .data b)
    (hgood : checkMap s.dev b (opN l.cmd 8 4) = .good m) (hj : l.judged = false) :
    Does .mapCheckComplete s (fun e => e.topo = { s.dev.topo with load := some { l with map := some m } } ∧ SameBut [.topo] s.dev e) := by
  have hfx : mapCheckFx s.dev = { s.dev with topo := { s.dev.topo with load := some { l with map := some m } } } := by
    simp only [mapCheckFx, hl, hm, hb, hgood, announceMap, hj, Bool.not_false, Bool.or_true, Bool.true_or, if_true]
  refine act_does_of_clk (f := mapCheckFx) rfl (by rw [hfx]) ?_
  rw [hfx]
  exact ⟨rfl, sameBut_of_mask rfl⟩

theorem mapCheckFx_bad {code idx : Nat} (hl : s.dev.topo.load = some l) (hm : l.map = none) (hb : l.cmd.host = .data b)
    (hbad : checkMap s.dev b (opN l.cmd 8 4) = .bad code idx) :
    mapCheckFx s.dev = schedSample (rejectMap l.cmd code idx (le b 0x0C 4) s.dev) := by
  simp only [mapCheckFx, hl, hm, hb, hbad]

theorem mapCheck_busError (hl : s.dev.topo.load = some l) (hm : l.map = none) (hb : l.cmd.host = .busError) :
    Does .mapCheckComplete s (fun e => e.topo = { s.dev.topo with load := none } ∧ Completed s.dev e 0x1F l.cmd 0x0A none []) := by
  have hfx : mapCheckFx s.dev = schedSample (complete 0x1F l.cmd 0x0A none [] (withdrawMap s.dev)) := by
    simp only [mapCheckFx, hl, hm, hb]
  have hclk : (mapCheckFx s.dev).clk = s.dev.clk := by
    rw [hfx, clk_of_mask (ps := others .clk) (mask_schedSample rfl _) rfl, complete_clk]
    exact clk_of_mask (ps := others .clk) (mask_withdrawMap rfl _) rfl
  refine act_does_of_clk (f := mapCheckFx) rfl hclk ?_
  rw [hfx, Completed, schedSample_topo, schedSample_comps, complete_topo, complete_comps, withdrawMap_topo, withdrawMap_comps]
  exact ⟨rfl, rfl⟩

theorem mapTimeoutFx_late (hl : s.dev.topo.load = some l) (hm : l.map = some m) (ht : 64 ≤ l.tries) :
    mapTimeoutFx s.dev = schedSample (rejectMap l.cmd 0x0E noIndex m.generation.toNat s.dev) := by
  simp only [mapTimeoutFx, hl, hm]
  exact if_pos ht

theorem mapTimeout_early (hl : s.dev.topo.load = some l) (hm : l.map = some m) (ht : l.tries < 64) :
    Does .mapSwitchTimeout s (fun e => e = s.dev) := by
  have hfx : mapTimeoutFx s.dev = s.dev := by
    simp only [mapTimeoutFx, hl, hm]
    exact if_neg (Nat.not_le.mpr ht)
  exact act_does_of_clk (f := mapTimeoutFx) rfl (by rw [hfx]) hfx

end

/-- Settles O39: the closing link is up while PARTNER frames come by it, and a map load ends in the map kept, a refusal or the map's
rejection. -/
theorem partnersAndMaps : Obligations.PartnersAndMaps := by
  unfold Obligations.PartnersAndMaps
  refine ⟨⟨fun f s h b d hp ha hop hx => partner_taken ha hop hx, fun s pair m i q r isX hp hmap hring hx =>
    ⟨fun hup hlong => closingLink_reported hmap hring hx hup hlong rfl, fun h => closingLink_kept hmap hring hx h rfl⟩⟩, ?_⟩
  intro c s
  refine ⟨mapLoad_waits, fun hnode => mapLoad_refused (if_pos (by simp [hnode])), fun hhead hal => mapLoad_refused ?_,
    fun st => mapLoad_mistimed, fun l b hl hm hb => ⟨fun m => mapCheck_good hl hm hb, fun code idx hbad _ => ?_⟩,
    fun l => mapCheck_busError, fun l m hl hm => ⟨fun ht => ?_, mapTimeout_early hl hm⟩⟩
  · rw [mapLoadFx, if_neg (by simp [hhead]), if_pos hal]
  · exact map_rejected rfl (mapCheckFx_bad hl hm hb hbad)
  · exact map_rejected rfl (mapTimeoutFx_late hl hm ht)

end Sys2Proof.Proofs
end

/-! ## Sys2Proof/Proofs/Binding: binding devices to node IDs (R26 to R28, R34, R90, R121, R126, R127) -/

section

namespace Sys2Proof.Proofs

open Machine Laws

/-! ### BIND_REQUEST_TIMER -/

/-- Each frame a head sends on a ring takes one number of that ring (R111). -/
theorem nextSeq_headSend (bcast : Bool) (dst : Nat) (payload : List Byte) (stamp : RP) (r : RingEntry) (pair : Nat) (isX : Bool) (d : Device) :
    nextSeq (headSend 2 bcast dst payload stamp r pair isX d) 2 0 pair = nextSeq d 2 0 pair + 1 := by
  unfold headSend
  extract_lets n
  rw [nextSeq_usedSeq]
  exact congrArg (· + 1) (nextSeq_of_flows (flows_of_mask (mask_foldl (fun _ _ => mask_sendOwn (ps := [.link, .sent]) rfl _ _ _ _) _ d) rfl) 2 0 pair)

theorem headSend_wins (bcast : Bool) (dst : Nat) (payload : List Byte) (stamp : RP) (r : RingEntry) (pair : Nat) (isX : Bool) (d : Device) :
    (headSend 2 bcast dst payload stamp r pair isX d).flows.wins = d.flows.wins := by
  unfold headSend
  extract_lets n
  exact (congrArg Flows.wins (flows_of_mask (mask_foldl (fun _ _ => mask_sendOwn (ps := [.link, .sent]) rfl _ _ _ _) _ d) rfl) :)

section
variable {s : State} {pair : Nat}

theorem request_sent {p : Fin 4} {r : RingEntry} {isX : Bool} (hp : p.val = pair)
    (hfx : bindTimerFx pair s.dev = sendRequestOn r pair isX s.dev) :
    Does (.bindRequestTimer p) s (fun e => nextSeq e 2 0 pair = nextSeq s.dev 2 0 pair + 1 ∧
      SameBut [.flows, .link, .sent] s.dev e) := by
  subst hp
  have hmask : blank [.flows, .link, .sent] (bindTimerFx p.val s.dev) = blank [.flows, .link, .sent] s.dev := by
    rw [hfx]
    exact mask_headSend rfl _ _ _ _ _ _ _ _ _
  refine act_does_of_clk (f := bindTimerFx p.val) rfl (clk_of_mask hmask rfl) ⟨?_, sameBut_of_mask hmask⟩
  rw [hfx]
  exact nextSeq_headSend _ _ _ _ _ _ _ _

theorem bindTimerFx_mapped {m : SysMap} {i : Nat} {r : RingEntry} {isX : Bool} (hhead : s.dev.isHead = true) (hm : s.dev.topo.map = some m)
    (hr : pairRing s.dev pair = some (i, r, isX)) (hb : binds s.dev r pair isX = true) :
    bindTimerFx pair s.dev =
      when ((List.range r.members.length).any (fun k => unboundAt s.dev r pair (k + 1))) (sendRequestOn r pair isX) s.dev := by
  simp only [bindTimerFx, hhead, hm, hr, hb, Bool.not_true, Bool.false_eq_true, if_false, Bool.true_and]

theorem bindTimer_mapped {p : Fin 4} {m : SysMap} {i : Nat} {r : RingEntry} {isX : Bool} (hp : p.val = pair) (hhead : s.dev.isHead = true)
    (hm : s.dev.topo.map = some m) (hr : pairRing s.dev pair = some (i, r, isX)) (hb : binds s.dev r pair isX = true) :
    (∀ k, k < r.members.length → unboundAt s.dev r pair (k + 1) = true →
      Does (.bindRequestTimer p) s (fun e => nextSeq e 2 0 pair = nextSeq s.dev 2 0 pair + 1 ∧
        SameBut [.flows, .link, .sent] s.dev e)) ∧
    ((∀ k, k < r.members.length → unboundAt s.dev r pair (k + 1) = false) →
      Does (.bindRequestTimer p) s (fun e => e = s.dev)) := by
  have hfx := bindTimerFx_mapped hhead hm hr hb
  refine ⟨fun k hk hu => request_sent (r := r) (isX := isX) hp ?_, fun hall => ?_⟩
  · rw [List.any_eq_true.mpr ⟨k, List.mem_range.mpr hk, hu⟩, when_true] at hfx
    exact hfx
  · have hnone : (List.range r.members.length).any (fun k => unboundAt s.dev r pair (k + 1)) = false :=
      List.any_eq_false.mpr fun k hk => by rw [hall k (List.mem_range.mp hk)]; simp
    rw [hnone, when_false] at hfx
    subst hp
    exact act_does_of_clk (f := bindTimerFx p.val) rfl (congrArg Device.clk hfx) hfx

theorem bindTimer_unmapped {p : Fin 4} (hp : p.val = pair) (hhead : s.dev.isHead = true) (hm : s.dev.topo.map = none) :
    Does (.bindRequestTimer p) s (fun e => nextSeq e 2 0 pair = nextSeq s.dev 2 0 pair + 1 ∧
      SameBut [.flows, .link, .sent] s.dev e) := by
  cases hr : ringOn s.dev pair with
  | some x =>
    exact request_sent (r := x.1) (isX := x.2) hp (by simp only [bindTimerFx, hhead, hm, hr, Bool.not_true, Bool.false_eq_true, if_false])
  | none =>
    exact request_sent (r := bareRing) (isX := true) hp (by simp only [bindTimerFx, hhead, hm, hr, Bool.not_true, Bool.false_eq_true, if_false])

end

/-! ### BIND_REQUEST -/

section
variable {f : RxFrame} {s : State} {h : Hdr} {b : List Byte} {x : Device}

/-- The hop counts of the copy that came, and the answer to it (R126). -/
def hopsTaken (h : Hdr) (x : Device) : Device :=
  { x with topo := { x.topo with hopA := if h.dir = 0 then h.hop else x.topo.hopA, hopB := if h.dir = 1 then h.hop else x.topo.hopB } }

theorem mayAnswer (hhead : x.isHead = false) (hnode : x.topo.nodeId = none) :
    ¬ ((hopsTaken h x).isHead || (hopsTaken h x).topo.nodeId.isSome) = true := by
  have h1 : (hopsTaken h x).isHead = false := hhead
  have h2 : (hopsTaken h x).topo.nodeId = none := hnode
  simp [h1, h2]

variable (hx : x = (takeClass f id s.dev).dev) (hgot : (takeClass f id s.dev).got = some (h, b)) (hcls : h.cls = 2) (hop : be b 0 1 = 4)
include hx hgot hcls hop

theorem bindRequestFx_eq : bindRequestFx f s.dev =
    sendAnswer { port := f.port.val, head := h.head, dir := 1 - h.dir, dst := h.src, pair := pairOf f.port.val } (hopsTaken h x) := by
  subst hx
  simp only [bindRequestFx, hgot, ctrlIs, hcls, hop, beq_self_eq_true, Bool.and_self, Bool.not_true, Bool.false_eq_true, if_false]
  rfl

omit hx hgot hcls hop in
theorem bindRequest_clk (f : RxFrame) (s : State) : (bindRequestFx f s.dev).clk = s.dev.clk :=
  clk_of_mask (ps := others .clk) (mask_bindRequestFx rfl f s.dev) rfl

variable (hhead : x.isHead = false) (hnode : x.topo.nodeId = none)
include hhead hnode

theorem bindRequest_answered (hcard : (x.port f.port.val).cardFrame ≠ some x.clk.rp.frame) (hup : (x.port f.port.val).up = true)
    (hlpi : (x.port f.port.val).lpiTx = false) :
    Does (.bindRequest f) s (fun e => (∃ a, e.sent = x.sent ++ [a] ∧ a.port = f.port.val) ∧
      (e.port f.port.val).cardFrame = some x.clk.rp.frame ∧ (h.dir = 0 → e.topo.hopA = h.hop) ∧
      (h.dir = 1 → e.topo.hopB = h.hop) ∧ SameBut [.topo, .link, .sent] x e) := by
  have hlen : f.port.val < x.link.length := by
    by_contra hout
    have hnone : x.link.getD f.port.val {} = {} := List.getD_eq_default _ _ (Nat.le_of_not_lt hout)
    rw [Device.port, hnone] at hup
    exact absurd hup (by decide)
  have hport := port_setPort_same (d := hopsTaken h x) hlen (fun l => { l with cardFrame := some x.clk.rp.frame })
  obtain ⟨a, ha, hfx⟩ : ∃ a, a.port = f.port.val ∧ bindRequestFx f s.dev =
      tx ((hopsTaken h x).setPort f.port.val (fun l => { l with cardFrame := some x.clk.rp.frame })) a := by
    rw [bindRequestFx_eq hx hgot hcls hop]
    exact ⟨_, sealFrame_port _ _ _ _, (if_neg (mayAnswer hhead hnode)).trans (if_neg hcard)⟩
  have hsends : Sends ((hopsTaken h x).setPort f.port.val (fun l => { l with cardFrame := some x.clk.rp.frame })) a.port := by
    rw [ha, Sends, hport]
    exact ⟨hup, hlpi⟩
  rw [tx_sends hsends] at hfx
  refine act_does_of_clk (f := bindRequestFx f) rfl (bindRequest_clk f s) ?_
  rw [hfx]
  refine ⟨⟨a, rfl, ha⟩, (congrArg LinkPort.cardFrame hport :), fun h0 => if_pos h0, fun h1 => if_pos h1, sameBut_of_mask rfl⟩

theorem bindRequest_waits (hcard : (x.port f.port.val).cardFrame = some x.clk.rp.frame) :
    Does (.bindRequest f) s (fun e => e.topo.answers = x.topo.answers ++
      [{ port := f.port.val, head := h.head, dir := 1 - h.dir, dst := h.src, pair := pairOf f.port.val }] ∧ SameBut [.topo] x e) := by
  have hfx := (bindRequestFx_eq hx hgot hcls hop).trans ((if_neg (mayAnswer hhead hnode)).trans (if_pos hcard))
  refine act_does_of_clk (f := bindRequestFx f) rfl (bindRequest_clk f s) ?_
  rw [hfx]
  exact ⟨rfl, sameBut_of_mask rfl⟩

end

/-! ### BIND_ANSWER -/

section
variable {f : RxFrame} {s : State} {h : Hdr} {b : List Byte} {x : Device} {m : SysMap} {ring : Nat} {r : RingEntry} {isX : Bool} {pos : Nat}
  {n : NodeRecord} {hp : HeadPair}

/-- A device taken for the node a position has (R27): bound there, its frame windows cleared, its directory asked for. -/
def deviceBound (pair pos : Nat) (fp : List Byte) (id : Nat) (d : Device) : Device :=
  let e := clearSource id (setPair pair (fun p => { p with bound := mins p.bound pos fp, cards := mdel p.cards id }) d)
  { e with hif := { e.hif with dirAsk := e.hif.dirAsk ++ [id] } }

theorem bindDevice_bound {pair : Nat} {fp : List Byte} (hn : memberAt m r pos = some n) (hfp : fpZero n.fingerprint = true ∨ n.fingerprint = fp)
    (hload : x.topo.load = none) :
    bindDevice m ring r pair isX pos fp x = sendAssign m r pair isX n fp x.clk.rp.frame (deviceBound pair pos fp n.nodeId.toNat x) := by
  have hpend : ∀ d : Device, d.topo.load = none → assignPending pair pos fp d = d := fun d hd => by rw [assignPending, hd]
  simp only [bindDevice, hn, if_pos hfp]
  refine hpend _ ?_
  rw [topo_of_mask (ps := others .topo) (mask_sendAssign rfl _ _ _ _ _ _ _ _) rfl]
  exact hload

variable (ha : Accepted f s 4 h b x) (hhead : x.isHead = true) (hop : be b 0 1 = 2) (hm : x.topo.map = some m)
  (hr : pairRing x (pairOf f.port.val) = some (ring, r, isX)) (hpos : answerPos r b = some pos)
  (hb : binds x r (pairOf f.port.val) isX = true)
include ha hhead hop hm hr hpos hb

theorem bindAnswerFx_eq : bindAnswerFx f s.dev = bindDevice m ring r (pairOf f.port.val) isX pos (cut b 4 8) x := by
  rw [bindAnswerFx, takeNumbered_accepted ha _ _ (by simp [ha.1, hop, (accepted_isHead ha).symm.trans hhead])]
  simp only [bindAt, hm, hr, hpos, hb, when_true]

variable (hn : memberAt m r pos = some n)
include hn

theorem bindAnswer_bound (hload : x.topo.load = none) (hx : x.topo.pairs[pairOf f.port.val]? = some hp)
    (hfp : fpZero n.fingerprint = true ∨ n.fingerprint = cut b 4 8) : Does (.bindAnswer f) s (fun e =>
      e.topo.pairs[pairOf f.port.val]? = some { hp with bound := mins hp.bound pos (cut b 4 8), cards := mdel hp.cards n.nodeId.toNat } ∧
      e.hif.dirAsk = x.hif.dirAsk ++ [n.nodeId.toNat] ∧ (∀ w ∈ e.flows.wins, ¬(w.origin = 1 ∧ w.peer = n.nodeId.toNat)) ∧
      nextSeq e 2 0 (pairOf f.port.val) = nextSeq x 2 0 (pairOf f.port.val) + 1) := by
  have hfx := (bindAnswerFx_eq ha hhead hop hm hr hpos hb).trans (bindDevice_bound hn hfp hload)
  have hmask : blank [.link, .flows, .sent] (bindAnswerFx f s.dev) =
      blank [.link, .flows, .sent] (deviceBound (pairOf f.port.val) pos (cut b 4 8) n.nodeId.toNat x) := by
    rw [hfx]
    exact mask_sendAssign rfl _ _ _ _ _ _ _ _
  refine act_does_of_clk (f := bindAnswerFx f) rfl ((clk_of_mask hmask rfl).trans (accepted_clk ha :)) ⟨?_, ?_, ?_, ?_⟩
  · rw [topo_of_mask hmask rfl]
    exact pairs_setPair hx _
  · rw [hif_of_mask hmask rfl]
    rfl
  · rw [hfx]
    refine fun w hw => ?_
    rw [sendAssign, headSend_wins] at hw
    have hkeep := (List.mem_filter.mp hw).2
    rintro ⟨ho, hpeer⟩
    simp [ho, hpeer] at hkeep
  · rw [hfx]
    exact nextSeq_headSend _ _ _ _ _ _ _ _

theorem bindAnswer_mismatch (hz : fpZero n.fingerprint = false) (hne : n.fingerprint ≠ cut b 4 8) :
    Does (.bindAnswer f) s (fun e =>
      Noticed x e 0x1012 (leN 2 ring ++ leN 1 pos ++ zeros 1 ++ n.fingerprint ++ cut b 4 8) ∧ e.topo = x.topo) := by
  have hfx := bindAnswerFx_eq ha hhead hop hm hr hpos hb
  simp only [bindDevice, hn, hz, Bool.false_eq_true, hne, or_self, if_false] at hfx
  refine act_does_of_clk (f := bindAnswerFx f) rfl (by rw [hfx, raise_clk, accepted_clk ha]) ?_
  rw [hfx]
  exact ⟨noticed_raise rfl _ _, raise_topo _ _ _⟩

end

/-! ### What taking a frame learns of the rings (R120, R138) -/

section
variable {f : RxFrame} {s : State} {h : Hdr} {b : List Byte} {d : Device} {cls : Nat}

/-- Topology without the ends learnt from the frames that travel the rings. -/
def topoRest (t : Topo) : Topo := { t with ends := [] }

theorem topoRest_of_mask {d e : Device} (hm : blank (others .topo) e = blank (others .topo) d) : topoRest e.topo = topoRest d.topo :=
  congrArg topoRest (topo_of_mask hm rfl)

theorem learnEnd_rest (p : Nat) (h : Hdr) (d : Device) : topoRest (learnEnd p h d).topo = topoRest d.topo := by
  unfold learnEnd when
  split <;> rfl

theorem frameChecks_rest (f : RxFrame) (full : Bool) (d : Device) : topoRest (frameChecks f full d).dev.topo = topoRest d.topo := by
  have hleave : ∀ fx : Device → Device, (∀ d, blank (others .topo) (fx d) = blank (others .topo) d) →
      topoRest (leave f full fx d).dev.topo = topoRest d.topo := fun fx hf => topoRest_of_mask (mask_leave rfl f full fx d hf)
  have hback : ∀ fx : Device → Device, (∀ d, blank (others .topo) (fx d) = blank (others .topo) d) →
      topoRest (rewound f full fx d).dev.topo = topoRest d.topo := fun fx hf => topoRest_of_mask (mask_rewound rfl f full fx d hf)
  unfold frameChecks
  dsimp only
  split
  · exact hleave _ fun d => mask_malformed rfl _ d
  split
  · exact hleave _ fun _ => rfl
  split
  · exact hback _ fun d => mask_when (mask_malformed rfl _ d)
  split
  · exact hback _ fun d => mask_countStat rfl d _ _
  split
  · exact hleave _ fun _ => rfl
  split
  · rfl
  · exact learnEnd_rest _ _ _

theorem takeFrame_rest (f : RxFrame) (edit : List Byte → List Byte) (d : Device) :
    topoRest (takeFrame f edit d).dev.topo = topoRest d.topo := by
  have hq : ∀ x, blank (others .topo) (queueWrite f.port.val (queueBytes f) f.read f.bad (countWire f.port.val x d)).dev =
      blank (others .topo) d := fun x => (mask_queueWrite rfl _ _ _ _ _).trans (mask_countWire rfl _ _ _)
  unfold takeFrame
  dsimp only
  split
  · rfl
  split
  · exact topoRest_of_mask ((mask_leave rfl _ _ _ _ fun _ => rfl).trans (hq _))
  split
  · refine topoRest_of_mask ((mask_leave rfl _ _ _ _ fun e => mask_dev_bump rfl e _ _).trans (Eq.trans ?_ (hq (wireCheck f))))
    exact mask_when (mask_countStat rfl _ _ _)
  split
  · exact topoRest_of_mask ((mask_rewound rfl _ _ _ _ fun _ => rfl).trans (hq _))
  split
  · refine topoRest_of_mask ((mask_rewound rfl _ _ _ _ fun _ => rfl).trans (Eq.trans ?_ (hq (wireCheck f))))
    exact mask_framePassed rfl _ _ _ _
  · refine (frameChecks_rest _ _ _).trans (topoRest_of_mask ((mask_learnDir rfl _ _).trans (Eq.trans ?_ (hq (wireCheck f)))))
    exact mask_framePassed rfl _ _ _ _

theorem takeClass_rest (f : RxFrame) (edit : List Byte → List Byte) (d : Device) :
    topoRest (takeClass f edit d).dev.topo = topoRest d.topo := by
  have ht := takeFrame_rest f edit d
  unfold takeClass
  dsimp only
  split
  · split
    · exact ht
    split
    · exact (topoRest_of_mask (mask_dedupHdr rfl _ _ _)).trans ht
    · exact ht
  · exact ht

/-- A frame taken leaves the node's record as it is. -/
theorem accepted_record (ha : Accepted f s cls h b d) : d.topo.record = s.dev.topo.record := by
  have hrest := takeClass_rest f id s.dev
  rw [ha.2] at hrest
  exact (congrArg Topo.record hrest :)

end

/-! ### ASSIGN -/

section
variable {n : NextRecord} {d : Device}

theorem presentBy_topo (n : NextRecord) (d : Device) : (presentBy n d).topo = d.topo :=
  topo_of_mask (ps := others .topo) (mask_presentBy rfl n d) rfl

theorem enforce_topo (n : NextRecord) (d : Device) :
    (enforce n d).topo = { d.topo with record := some n.record, gen := n.gen, headSet := n.headSet, nodeId := some n.record.nodeId } := by
  unfold enforce
  extract_lets moved e
  rw [topo_of_mask (mask_when (ps := [.tim]) (mask_setTime rfl _ _)) rfl]
  exact presentBy_topo _ _

/-- Two devices whose rasters followed and kept presentation values are as many. -/
def SamePresents (d e : Device) : Prop := e.tim.follow = d.tim.follow ∧ e.tim.presents.length = d.tim.presents.length

theorem presentOf_tim (pair : Nat) (d : Device) : (presentOf pair d).tim.follow = d.tim.follow ∧ (presentOf pair d).tim.presents = d.tim.presents := by
  unfold presentOf
  split <;> exact ⟨rfl, rfl⟩

theorem presentBy_same (n : NextRecord) (d : Device) : SamePresents d (presentBy n d) := by
  unfold presentBy
  extract_lets e
  have he : SamePresents d e := ⟨rfl, List.length_set⟩
  unfold when
  split
  · obtain ⟨hf, hp⟩ := presentOf_tim n.pair e
    exact ⟨hf.trans he.1, (congrArg List.length hp).trans he.2⟩
  · exact he

/-- P and C of the ring pair whose raster the node follows are in force (R90). -/
theorem presentBy_followed (hlen : n.pair < d.tim.presents.length) (hf : d.tim.follow.getD n.pair = n.pair) :
    (presentBy n d).tim.presentP = n.p ∧ (presentBy n d).tim.presentC = n.c := by
  have hget : (setAt d.tim.presents n.pair (some (n.p, n.c))).getD n.pair none = some (n.p, n.c) := getD_setAt_same hlen _ _
  unfold presentBy
  extract_lets e
  rw [show (e.tim.follow.getD n.pair == n.pair) = true from beq_iff_eq.mpr hf, when_true]
  have hpres : presentOf n.pair e = setTime (fun t => { t with presentP := n.p, presentC := n.c }) e := by
    rw [presentOf, show e.tim.presents.getD n.pair none = some (n.p, n.c) from hget]
  rw [hpres]
  exact ⟨rfl, rfl⟩

/-- The lambdas cleared by a move are all that follows the presentation values (R68). -/
theorem enforce_tim (n : NextRecord) (d : Device) : ∃ e : Device, e.tim = d.tim ∧
    (enforce n d).tim.presentP = (presentBy n e).tim.presentP ∧ (enforce n d).tim.presentC = (presentBy n e).tim.presentC ∧
    (enforce n d).tim.follow = (presentBy n e).tim.follow ∧ (enforce n d).tim.presents = (presentBy n e).tim.presents := by
  unfold enforce
  extract_lets moved e
  refine ⟨{ d with topo := { d.topo with record := some n.record, gen := n.gen, headSet := n.headSet, nodeId := some n.record.nodeId } }, rfl, ?_⟩
  unfold when
  split <;> exact ⟨rfl, rfl, rfl, rfl⟩

theorem enforce_same (n : NextRecord) (d : Device) : SamePresents d (enforce n d) := by
  obtain ⟨e, he, -, -, hf, hp⟩ := enforce_tim n d
  obtain ⟨hf', hp'⟩ := presentBy_same n e
  exact ⟨hf.trans (hf'.trans (congrArg Time.follow he)), (congrArg List.length hp).trans (hp'.trans (congrArg (·.presents.length) he))⟩

theorem enforce_foldl_same (ns : List NextRecord) (d : Device) : SamePresents d (ns.foldl (fun d n => enforce n d) d) := by
  induction ns generalizing d with
  | nil => exact ⟨rfl, rfl⟩
  | cons n ns ih =>
    obtain ⟨hf, hp⟩ := ih (enforce n d)
    obtain ⟨hf', hp'⟩ := enforce_same n d
    exact ⟨hf.trans hf', hp.trans hp'⟩

end

/-! The records due by the present frame, the last one appended, put in force (R121). -/

section
variable {n : NextRecord} {d : Device}

/-- A record queued for its frame, in the place of an earlier one of that frame and ring pair. -/
def recordQueued (n : NextRecord) (d : Device) : Device :=
  { d with topo := { d.topo with next := d.topo.next.filter (fun x => x.frame != n.frame || x.pair != n.pair) ++ [n] } }

/-- The queues of records and of other devices' switches without those due (R121). -/
def dueTaken (f : BitVec 32) (d : Device) : Device :=
  { d with topo := { d.topo with next := d.topo.next.filter (fun n => !(decide (frameDiff n.frame f ≤ 0))),
                                 others := d.topo.others.filter (fun o => !(decide (frameDiff o.1 f ≤ 0))) } }

theorem enforceDue_eq (f : BitVec 32) (d : Device) : enforceDue f d =
    when ((((d.topo.next.filter (fun n => decide (frameDiff n.frame f ≤ 0))).foldl (fun d n => enforce n d) (dueTaken f d)).topo.nodeId.isSome) &&
      (d.topo.others.filter (fun o => decide (frameDiff o.1 f ≤ 0))).any (fun o =>
        o.2 != ((d.topo.next.filter (fun n => decide (frameDiff n.frame f ≤ 0))).foldl (fun d n => enforce n d) (dueTaken f d)).topo.gen))
      leaveNode ((d.topo.next.filter (fun n => decide (frameDiff n.frame f ≤ 0))).foldl (fun d n => enforce n d) (dueTaken f d)) := rfl

/-- A record due now is the last put in force; a device that only its own generation's switches have passed by stays bound (R40). -/
theorem enforceDue_last {f : BitVec 32} (hdue : frameDiff n.frame f ≤ 0) (hothers : ∀ o ∈ d.topo.others, o.2 = n.gen) :
    ∃ e, SamePresents d e ∧ enforceDue f (recordQueued n d) = enforce n e := by
  have hfilter : (recordQueued n d).topo.next.filter (fun n => decide (frameDiff n.frame f ≤ 0)) =
      (d.topo.next.filter (fun x => x.frame != n.frame || x.pair != n.pair)).filter (fun n => decide (frameDiff n.frame f ≤ 0)) ++ [n] := by
    rw [recordQueued, List.filter_append, List.filter_cons_of_pos (by simpa using hdue), List.filter_nil]
  rw [enforceDue_eq, hfilter, List.foldl_append, List.foldl_cons, List.foldl_nil]
  have hsame := enforce_foldl_same ((d.topo.next.filter (fun x => x.frame != n.frame || x.pair != n.pair)).filter
    (fun n => decide (frameDiff n.frame f ≤ 0))) (dueTaken f (recordQueued n d))
  refine ⟨_, hsame, ?_⟩
  have hstays : ((recordQueued n d).topo.others.filter (fun o => decide (frameDiff o.1 f ≤ 0))).any (fun o => o.2 != n.gen) = false :=
    List.any_eq_false.mpr fun o ho => by simp [hothers o (List.mem_of_mem_filter ho)]
  rw [enforce_topo]
  simp only [hstays, Bool.and_false, when_false]

end

section
variable {f : RxFrame} {s : State} {h : Hdr} {b : List Byte} {d : Device}

/-- What binding or a move clears before the record is queued (R134). -/
def assigned (b : List Byte) (d : Device) : Device :=
  when d.topo.nodeId.isNone (fun d => { d with topo := { d.topo with nodeId := some (assignNode (cut b 0x10 48)).nodeId } })
    (when (d.topo.nodeId.isNone || !(sameRings d.topo.record (assignNode (cut b 0x10 48))))
      (fun d => { d with flows := { d.flows with wins := [], pix := [], answered := [] } }) d)

theorem assigned_mask (b : List Byte) (d : Device) : blank [.topo, .flows] (assigned b d) = blank [.topo, .flows] d := by
  rw [assigned, mask_when (ps := [.topo, .flows]) rfl, mask_when (ps := [.topo, .flows]) rfl]

theorem assigned_topo (b : List Byte) (d : Device) : (assigned b d).topo = { d.topo with nodeId := (assigned b d).topo.nodeId } := by
  unfold assigned when
  split <;> split <;> rfl

theorem assigned_bound (b : List Byte) (d : Device) : (assigned b d).topo.nodeId.isSome = true := by
  unfold assigned when
  cases hn : d.topo.nodeId with
  | none => simp
  | some n =>
    simp only [Option.isNone_some, Bool.false_or, Bool.false_eq_true, if_false]
    split <;> simp [hn]

/-- A device that has a node ID has not left one (R19). -/
theorem leftDark_bound {was : Option (BitVec 12)} (hn : d.topo.nodeId.isSome = true) : leftDark was d = d := by
  obtain ⟨n, hn⟩ := Option.isSome_iff_exists.mp hn
  simp [leftDark, hn]

theorem recordHook_same (d : Device) : recordHook d.topo.record d = d := by
  unfold recordHook
  split
  next n hn => exact if_pos hn
  next => rfl

theorem assigned_unbound (b : List Byte) (hn : d.topo.nodeId = none) :
    (assigned b d).topo.nodeId = some (assignNode (cut b 0x10 48)).nodeId ∧ (assigned b d).flows.wins = [] := by
  unfold assigned
  simp only [hn, Option.isNone_none, Bool.true_or, when_true, and_self]

variable (ha : Accepted f s 2 h b d) (hhead : s.dev.isHead = false) (hop : be b 0 1 = 5)
include ha hhead hop

omit hhead in
/-- An ASSIGN is its record taken, and what a change of record brings (R19, R307). -/
theorem assign_does {p : Device → Prop} (hp : p (leftDark s.dev.topo.nodeId (recordHook s.dev.topo.record
    (assignTake (pairOf f.port.val) h b d)))) : Does (.assign f) s p := by
  have hfx : assignFx f s.dev = assignTake (pairOf f.port.val) h b d := takeNumbered_accepted ha _ _ (by simp [ctrlIs, ha.1, hop])
  rw [← hfx] at hp
  refine act_does_of_clk (f := fun d => leftDark d.topo.nodeId (recordHook d.topo.record (assignFx f d))) rfl ?_ hp
  have hclk : (assignTake (pairOf f.port.val) h b d).clk = d.clk := clk_of_mask (ps := others .clk) (mask_assignTake rfl _ _ _ _) rfl
  rw [clk_of_mask (ps := others .clk) (mask_leftDark rfl _ _) rfl, clk_of_mask (ps := others .clk) (mask_recordHook rfl _ _) rfl, hfx,
    hclk, accepted_clk ha]

omit hop in
theorem assignTake_mine (hfp : cut b 8 8 = d.sec.fingerprint) : assignTake (pairOf f.port.val) h b d =
    if 0 ≤ frameDiff d.clk.rp.frame h.stamp.frame then
      enforceDue d.clk.rp.frame (recordQueued (assignNext (pairOf f.port.val) h b) (assigned b d))
    else recordQueued (assignNext (pairOf f.port.val) h b) (assigned b d) := by
  have hclk : (recordQueued (assignNext (pairOf f.port.val) h b) (assigned b d)).clk = d.clk := (clk_of_mask (assigned_mask b d) rfl :)
  rw [assignTake, if_neg (by simp [accepted_isHead ha, hhead]), if_neg (by simp [hfp]), ← hclk]
  rfl

theorem assign_queued (hfp : cut b 8 8 = d.sec.fingerprint) (hlater : frameDiff d.clk.rp.frame h.stamp.frame < 0) :
    Does (.assign f) s (fun e =>
      e.topo.next = d.topo.next.filter (fun x => x.frame != h.stamp.frame || x.pair != pairOf f.port.val) ++ [assignNext (pairOf f.port.val) h b] ∧
      e.topo.record = d.topo.record ∧
      (d.topo.nodeId = none → e.topo.nodeId = some (assignNode (cut b 0x10 48)).nodeId ∧ e.flows.wins = []) ∧
      SameBut [.topo, .flows] d e) := by
  have htopo := assigned_topo b d
  have htake := assignTake_mine ha hhead hfp
  rw [if_neg (by omega)] at htake
  have hrec : (recordQueued (assignNext (pairOf f.port.val) h b) (assigned b d)).topo.record = s.dev.topo.record := by
    rw [← accepted_record ha]
    exact (congrArg Topo.record htopo :)
  refine assign_does ha hop ?_
  rw [htake, ← hrec, recordHook_same, leftDark_bound (d := recordQueued _ _) (assigned_bound b d)]
  refine ⟨?_, (congrArg Topo.record htopo :), assigned_unbound b, sameBut_of_mask (assigned_mask b d)⟩
  exact (congrArg (fun t : Topo => t.next.filter (fun x => x.frame != h.stamp.frame || x.pair != pairOf f.port.val) ++
    [assignNext (pairOf f.port.val) h b]) htopo :)

theorem assign_enforced (hfp : cut b 8 8 = d.sec.fingerprint) (hnow : 0 ≤ frameDiff d.clk.rp.frame h.stamp.frame)
    (hothers : ∀ o ∈ d.topo.others, o.2 = BitVec.ofNat 32 (be b 0x4C 4)) :
    Does (.assign f) s (fun e =>
      e.topo.record = some (assignNode (cut b 0x10 48)) ∧ e.topo.gen = BitVec.ofNat 32 (be b 0x4C 4) ∧
      e.topo.nodeId = some (assignNode (cut b 0x10 48)).nodeId ∧
      (d.tim.presents.length = 4 → d.tim.follow.getD (pairOf f.port.val) = pairOf f.port.val →
        e.tim.presentP = be b 0x48 1 ∧ e.tim.presentC = be b 0x4A 2)) := by
  have hdue : frameDiff (assignNext (pairOf f.port.val) h b).frame d.clk.rp.frame ≤ 0 := by
    have := frameDiff_swap_of_ordered (a := d.clk.rp.frame) (b := h.stamp.frame) (by omega)
    show frameDiff h.stamp.frame d.clk.rp.frame ≤ 0
    omega
  have htopo := assigned_topo b d
  have htim : (assigned b d).tim = d.tim := tim_of_mask (assigned_mask b d) rfl
  obtain ⟨e, ⟨hfollow, hlen⟩, hlast⟩ := enforceDue_last (d := assigned b d) hdue (by rw [htopo]; exact hothers)
  have htake := assignTake_mine ha hhead hfp
  rw [if_pos hnow, hlast] at htake
  refine assign_does ha hop ?_
  rw [htake]
  have htopoE := enforce_topo (assignNext (pairOf f.port.val) h b) e
  have hhook := mask_recordHook (ps := others .topo) rfl s.dev.topo.record (enforce (assignNext (pairOf f.port.val) h b) e)
  have hhookT := mask_recordHook (ps := others .tim) rfl s.dev.topo.record (enforce (assignNext (pairOf f.port.val) h b) e)
  have hbound : (recordHook s.dev.topo.record (enforce (assignNext (pairOf f.port.val) h b) e)).topo.nodeId.isSome = true := by
    rw [topo_of_mask hhook rfl, htopoE]
    rfl
  rw [leftDark_bound hbound, topo_of_mask hhook rfl, tim_of_mask hhookT rfl, htopoE]
  refine ⟨rfl, rfl, rfl, fun h4 hf => ?_⟩
  obtain ⟨e', he', hp, hc, -, -⟩ := enforce_tim (assignNext (pairOf f.port.val) h b) e
  have hpair : pairOf f.port.val < 4 := by
    have := f.port.isLt
    rw [pairOf]
    omega
  rw [hp, hc]
  refine presentBy_followed ?_ ?_
  · rw [he', hlen, htim, h4]
    exact hpair
  · rw [he', hfollow, htim]
    exact hf

theorem assign_other (hfp : cut b 8 8 ≠ d.sec.fingerprint) : Does (.assign f) s (fun e => e.topo = { d.topo with others := e.topo.others } ∧
    (h.stamp.frame, BitVec.ofNat 32 (be b 0x4C 4)) ∈ e.topo.others ∧ e.topo.record = d.topo.record) := by
  refine assign_does ha hop ?_
  rw [topo_of_mask (ps := others .topo) (mask_leftDark rfl _ _) rfl, topo_of_mask (ps := others .topo) (mask_recordHook rfl _ _) rfl,
    assignTake, if_neg (by simp [accepted_isHead ha, hhead]), if_pos hfp]
  exact ⟨rfl, List.mem_append_right _ (List.mem_singleton.mpr rfl), rfl⟩

end

/-- Settles O38: binding requests go out while a position is unbound, an answer binds or is reported, and an ASSIGN is queued for its frame
or in force at once. -/
theorem devicesBound : Obligations.DevicesBound := by
  unfold Obligations.DevicesBound
  refine ⟨fun s pair hhead => ⟨fun m i r isX hm hr hb => bindTimer_mapped rfl hhead hm hr hb, bindTimer_unmapped rfl hhead⟩,
    fun f s h b x hx hgot hcls hop hhead hnode => ⟨bindRequest_answered hx hgot hcls hop hhead hnode,
      bindRequest_waits hx hgot hcls hop hhead hnode⟩,
    fun f s h b x m ring r isX pos n hp ha hhead hop hm hload hr hpos hb hn hx =>
      ⟨bindAnswer_bound ha hhead hop hm hr hpos hb hn hload hx, bindAnswer_mismatch ha hhead hop hm hr hpos hb hn⟩,
    fun f s h b d ha hhead hop => ⟨fun hfp => ⟨assign_queued ha hhead hop hfp, assign_enforced ha hhead hop hfp⟩, assign_other ha hhead hop⟩⟩

end Sys2Proof.Proofs
end

/-! ## Sys2Proof/Proofs/HeldRepeats: HOLD run again while a backward step holds the RP (R334) -/

section

namespace Sys2Proof.Proofs

open Machine Laws

/-- A device whose output runs while a backward step holds the RP, in a sub-refresh that has counted as held. -/
def heldAlready : Device := { clk := { hold := some 0 }, out := { running := true, heldNow := true } }

/-- The row scan begun anew takes the sub-refresh for one not held yet, so it is counted once more. -/
theorem heldAlready_counted : (keepClk heldAlready (heldRepeatFx heldAlready)).out.heldN = 1 := by
  decide

/-- Refutes O28: HELD_REPEAT_START begins the row scan anew, which forgets that the sub-refresh counts as held, and so counts it a second
time. -/
theorem not_shuttersAndHolds : ¬ Obligations.ShuttersAndHolds := by
  rintro ⟨-, hrepeat⟩
  obtain ⟨t, ht, -, -, -, -, -, hsame, -⟩ := hrepeat { dev := heldAlready } rfl rfl
  cases ht
  exact absurd (heldAlready_counted.symm.trans (hsame rfl)) (by decide)

end Sys2Proof.Proofs
end

/-! ## Sys2Proof/Proofs/Instants: what the work of a boundary leaves of the instants worked (R93, R98) -/

section

namespace Sys2Proof.Proofs

open Machine Laws

/-- The boundary worked last, and the one still owed. -/
def instants (t : Time) : Option (BitVec 32) × Option (BitVec 32) := (t.boundary, t.owed)

/-- Two devices that have worked the same boundary. -/
def SameInstants (d e : Device) : Prop := instants e.tim = instants d.tim

namespace SameInstants

theorem refl (d : Device) : SameInstants d d := rfl

theorem trans {d e f : Device} (h : SameInstants d e) (h' : SameInstants e f) : SameInstants d f := Eq.trans h' h

theorem of_mask {d e : Device} (h : blank (others .tim) e = blank (others .tim) d) : SameInstants d e :=
  congrArg instants (tim_of_mask h rfl)

theorem ite {c : Prop} [Decidable c] {d e f : Device} (he : SameInstants d e) (hf : SameInstants d f) :
    SameInstants d (if c then e else f) := by
  split
  · exact he
  · exact hf

theorem when {c : Bool} {f : Device → Device} {d : Device} (h : SameInstants d (f d)) : SameInstants d (when c f d) := by
  cases c
  · exact refl d
  · exact h

theorem foldl {α : Type} {f : Device → α → Device} (h : ∀ d a, SameInstants d (f d a)) (as : List α) (d : Device) :
    SameInstants d (as.foldl f d) := by
  induction as generalizing d with
  | nil => exact refl d
  | cons a as ih => exact (h d a).trans (ih _)

end SameInstants

section
variable (d : Device)

/-! ### Ports, links and spare slices -/

theorem sameInstants_selectMaster (ms : List Master) : SameInstants d (selectMaster ms d) := by
  unfold selectMaster
  split
  · rfl
  · extract_lets gm e
    have he : SameInstants d e := rfl
    split
    · exact he.trans (.when (.of_mask (mask_raise rfl _ _ _)))
    · exact he

theorem sameInstants_mastersGone (p : Nat) : SameInstants d (mastersGone p d) :=
  .ite (sameInstants_selectMaster d _) (.refl d)

theorem sameInstants_portDownFx (p cause : Nat) : SameInstants d (portDownFx p cause d) := by
  unfold portDownFx
  refine .ite (.ite (.of_mask (mask_dev_setPort rfl _ _ _)) ?_) (.ite (.refl d) ?_)
  · exact .trans (.of_mask (mask_dev_setPort rfl _ _ _)) (.of_mask (mask_linkChange rfl _ _ _ _))
  · exact .trans (.trans (.of_mask (mask_setIng rfl _ _ _)) (.of_mask (mask_linkChange rfl _ _ _ _))) (sameInstants_mastersGone _ _)

theorem sameInstants_fecSwitch : SameInstants d (fecSwitch d) :=
  .foldl (fun d _ => .when (sameInstants_portDownFx d _ _)) _ d

theorem sameInstants_sliceDue (lane : Nat) : SameInstants d (sliceDue lane d) :=
  .trans (sameInstants_portDownFx d _ _) (.ite (.of_mask (mask_setSpare rfl _ _)) (.of_mask (mask_spareTaken rfl _ _ _)))

theorem sameInstants_eyeSwapFx (lane : Nat) : SameInstants d (eyeSwapFx lane d) := by
  unfold eyeSwapFx
  extract_lets e
  have he : SameInstants d e := rfl
  exact .ite (he.trans (sameInstants_sliceDue e lane)) (.trans (he.trans (sameInstants_sliceDue e lane)) (.of_mask (mask_setSpare rfl _ _)))

theorem sameInstants_deferredMade (p : Nat) : SameInstants d (deferredMade p d) :=
  .foldl (fun d lane => sameInstants_eyeSwapFx d lane) _ d

theorem sameInstants_judged {e : Device} (h : SameInstants d e) (was : Device) : SameInstants d (judged was e) :=
  h.trans (.of_mask (mask_judged rfl was e))

theorem sameInstants_applyDeferred (p : Nat) : SameInstants d (applyDeferred p d) :=
  .ite (.refl d) (sameInstants_judged d (sameInstants_deferredMade d p) d)

theorem sameInstants_retryDeferred : SameInstants d (retryDeferred d) :=
  .foldl (fun d p => .ite (.refl d) (sameInstants_applyDeferred d p)) _ d

theorem sameInstants_takeSlice (lane : Nat) (eye : Bool) : SameInstants d (takeSlice lane eye d) := by
  unfold takeSlice
  extract_lets e
  have he : SameInstants d e := .ite (sameInstants_eyeSwapFx d lane) (sameInstants_sliceDue d lane)
  exact sameInstants_judged d (.ite he (he.trans (sameInstants_deferredMade e _))) d

theorem sameInstants_paritySubst : SameInstants d (paritySubst d) := by
  refine .foldl (fun d q => ?_) _ d
  unfold parityJudge
  exact .ite (.trans (.of_mask (mask_setSpare rfl _ _)) (sameInstants_takeSlice _ _ _)) (.refl d)

/-! ### The map and the node's record -/

theorem sameInstants_recheckSlots (f : BitVec 32) : SameInstants d (recheckSlots f d) := by
  unfold recheckSlots
  extract_lets fails e us
  have he : SameInstants d e := .foldl (fun d i => .ite (.trans (.of_mask (mask_putStream rfl _ _ _ _)) (.of_mask (mask_raise rfl _ _ _)))
    (.ite (.trans (.of_mask (mask_putStream rfl _ _ _ _)) (.of_mask (mask_raise rfl _ _ _))) (.refl d))) _ d
  exact .trans (he.trans (.trans (.of_mask (mask_setGest rfl _ _)) (sameInstants_retryDeferred _))) (.of_mask (mask_updateGroups rfl _))

theorem sameInstants_mapInForce (l : MapLoad) (m : SysMap) : SameInstants d (mapInForce l m d) := by
  unfold mapInForce
  extract_lets oldMap oldRec own moved rings _ d1 mine ask d2 d3 d4 d5
  have h2 : SameInstants d d2 := .trans (e := schedSample d1) (.trans (e := d1) rfl (.of_mask (mask_schedSample rfl _))) rfl
  have h3 : SameInstants d2 d3 := .trans (.trans (.foldl (fun d id => .of_mask (mask_clearSource rfl id d)) moved d2)
    (.of_mask (mask_recordHook rfl _ _))) (sameInstants_fecSwitch _)
  have h4 : SameInstants d3 d4 := sameInstants_recheckSlots _ _
  have h5 : SameInstants d4 d5 := .foldl (fun d _ => .when (.of_mask (mask_sendRequestOn rfl _ _ _ _))) rings d4
  exact (((h2.trans h3).trans h4).trans h5).trans (.of_mask (mask_finish rfl _ _ _ _ _))

theorem sameInstants_mapBoundary (f : BitVec 32) : SameInstants d (mapBoundary f d) := by
  unfold mapBoundary
  extract_lets e
  have he : SameInstants d e := .of_mask (mask_announceMap rfl d)
  refine he.trans ?_
  clear_value e
  split
  · split
    · exact .ite (.refl e) (.ite (sameInstants_mapInForce e _ _) (.of_mask (mask_mapPutOff rfl _ _ _ _)))
    · exact .refl e
  · exact .refl e

theorem sameInstants_presentOf (pair : Nat) : SameInstants d (presentOf pair d) := by
  unfold presentOf
  split <;> rfl

theorem sameInstants_presentBy (n : NextRecord) : SameInstants d (presentBy n d) := by
  unfold presentBy
  extract_lets e
  exact .trans (e := e) rfl (.when (sameInstants_presentOf e _))

theorem sameInstants_enforce (n : NextRecord) : SameInstants d (enforce n d) := by
  unfold enforce
  extract_lets moved src e
  have he : SameInstants d e := .trans (e := { d with topo := src }) rfl (sameInstants_presentBy _ n)
  exact he.trans (.when rfl)

theorem sameInstants_enforceDue (f : BitVec 32) : SameInstants d (enforceDue f d) := by
  rw [enforceDue_eq]
  exact .trans (.trans (e := dueTaken f d) rfl (.foldl (fun d n => sameInstants_enforce d n) _ _)) (.when (.of_mask (mask_leaveNode rfl _)))

theorem sameInstants_leftDark (was : Option (BitVec 12)) : SameInstants d (leftDark was d) := by
  unfold leftDark
  extract_lets z
  have hz : SameInstants d z.2 := rfl
  exact .ite (.trans (hz.trans (.of_mask (mask_readoptDark rfl _ _))) (.of_mask (mask_setOut rfl _ _))) (.refl d)

theorem sameInstants_recordBoundary (f : BitVec 32) : SameInstants d (recordBoundary f d) :=
  .ite (.refl d) (.trans (.trans (sameInstants_enforceDue d f) (.of_mask (mask_recordHook rfl _ _))) (sameInstants_leftDark _ _))

/-! ### Patterns -/

theorem sameInstants_targetValue (t : Target) (at_ : RP) : SameInstants d (targetValue t at_ d).2 := by
  unfold targetValue
  split
  · rfl
  · split <;> rfl

theorem sameInstants_startFade (n : Nat) (t : Target) (e u : Nat) (ms : Bool) : SameInstants d (startFade n t e u ms d).2 := by
  unfold startFade
  dsimp only
  split
  · exact .of_mask (mask_patFault rfl _ _ _)
  · refine (sameInstants_targetValue d t (patOf d n).t).trans (.of_mask ?_)
    exact (mask_nextPc rfl _ _).trans ((mask_setPat rfl _ _ _).trans (mask_endFades rfl _ _))

theorem sameInstants_patInstr (n : Nat) : SameInstants d (patInstr n d).2 := by
  have hfault : ∀ k, SameInstants d (patFault n k d) := fun k => .of_mask (mask_patFault rfl _ _ _)
  have hnext : ∀ {e}, SameInstants d e → SameInstants d (nextPc n e) := fun h => h.trans (.of_mask (mask_nextPc rfl _ _))
  have hwait : ∀ (t : RP) {e}, SameInstants d e → SameInstants d (waitFor n t e).2 := fun t _ h => h.trans (.of_mask (mask_waitFor rfl _ _ _))
  have hpat : ∀ (f : PatEngine → PatEngine) {e}, SameInstants d e → SameInstants d (setPat n f e) :=
    fun f _ h => h.trans (.of_mask (mask_setPat rfl _ _ _))
  have hreg : ∀ r v, SameInstants d (setReg n r v d) := fun r v => .of_mask (mask_setReg rfl _ _ _ _)
  unfold patInstr
  dsimp only
  split
  case h_1 => exact hfault 3
  case h_2 => exact hnext (hreg _ _)
  case h_3 =>
    split
    · exact hnext (.trans (.of_mask (mask_endFades rfl _ _)) (.of_mask (mask_writeTarget rfl _ _ _ _)))
    · exact hfault 0
  case h_4 =>
    split
    · exact sameInstants_startFade d n _ _ _ _
    · exact hfault 0
  case h_5 =>
    split
    · exact hpat _ (hnext (.refl d))
    · exact hwait _ (hnext (.refl d))
  case h_6 =>
    split
    · exact hfault 4
    · exact hwait _ (hnext (.refl d))
  case h_7 =>
    split
    · exact hnext (hpat _ (.refl d))
    · exact hnext (hreg _ _)
  case h_8 =>
    split
    · exact hpat _ (.refl d)
    · split
      · exact hnext (hreg _ _)
      · exact hpat _ (hreg _ _)
  case h_9 => exact hpat _ (.refl d)

theorem sameInstants_patRun (k n : Nat) : SameInstants d (patRun k n d) := by
  induction k generalizing d with
  | zero => exact .of_mask (mask_patFault rfl _ _ _)
  | succ k ih =>
    have h := sameInstants_patInstr d n
    rw [patRun]
    split
    next e heq =>
      rw [heq] at h
      exact h.trans (ih e)
    next e heq =>
      rw [heq] at h
      exact h

theorem sameInstants_startPat (n : Nat) (at_ : RP) (a : Nat) (v : List Nat) : SameInstants d (startPat n at_ a v d) :=
  .trans (.trans (.of_mask (mask_stopFades rfl _ _ _)) (.of_mask (mask_setPat rfl _ _ _))) (sameInstants_patRun _ _ _)

theorem sameInstants_patSettle (at_ : RP) : SameInstants d (patSettle at_ d) := by
  refine .foldl (fun d n => ?_) _ d
  dsimp only
  split
  next ms k _ =>
    refine .ite (.refl d) ?_
    have h : SameInstants d (waitFor n (advanceT d at_ ms k) (setPat n (fun p => { p with fadeWait := none, t := at_ }) d)).2 :=
      .trans (.of_mask (mask_setPat rfl _ _ _)) (.of_mask (mask_waitFor rfl _ _ _))
    split
    next e heq =>
      rw [heq] at h
      exact h.trans (sameInstants_patRun e _ _)
    next e heq =>
      rw [heq] at h
      exact h
  next => exact .refl d

theorem sameInstants_autostart : SameInstants d (autostart d) := by
  unfold autostart
  extract_lets r e ns e'
  have he : SameInstants d e' := rfl
  exact .ite (.refl d) (he.trans (.trans (.foldl (fun d n => sameInstants_startPat d n _ _ _) ns e') (sameInstants_patSettle _ _)))

/-! ### Output, exposure, cards and the frame's marks -/

theorem sameInstants_settleLoad : SameInstants d (settleLoad d) := by
  have hfold : ∀ (l : Load) (ps : List LoadPos) (x : Device × List LoadPos), SameInstants x.1 (ps.foldl (fun (x : Device × List LoadPos) p =>
      ((freeNext x.1).2, x.2 ++ [posNow x.1 l (freeNext x.1).1 p])) x).1 := by
    intro l ps
    induction ps with
    | nil => exact fun x => .refl x.1
    | cons p ps ih => exact fun x => .trans (e := (freeNext x.1).2) rfl (ih _)
  unfold settleLoad
  split
  · next l _ => exact hfold l l.pos (d, [])
  · rfl

theorem sameInstants_layoutFx (f : BitVec 32) : SameInstants d (layoutFx f d) := by
  unfold layoutFx
  extract_lets e e1
  have he : SameInstants d e := rfl
  have he1 : SameInstants e e1 := sameInstants_settleLoad e
  refine he.trans (.ite (he1.trans (.of_mask ?_)) (.refl e))
  exact (mask_outputState rfl _ _ _).trans ((mask_runInit rfl _).trans (mask_setOut rfl _ _))

theorem sameInstants_frameMarks : SameInstants d (frameMarks d) := .ite rfl (.refl d)

theorem sameInstants_windowBoundary : SameInstants d (windowBoundary d) := by
  unfold windowBoundary
  split
  · refine .trans (e := setTime (fun t => { t with earlyFirst := none, earlyCount := 0, lateCount := 0 }) d) rfl (.of_mask (mask_report rfl _ _ _ _ _))
  · rfl

theorem sameInstants_expoFrame (f : BitVec 32) : SameInstants d (expoFrame f d) := by
  have hfree : SameInstants d (if pairServes d then ((d.pxl.expoQueue ++ [(f, d.pxl.outBuf)]).length, d) else freeNext d).2 := by
    split <;> rfl
  unfold expoFrame
  dsimp only
  generalize (if pairServes d then ((d.pxl.expoQueue ++ [(f, d.pxl.outBuf)]).length, d) else freeNext d) = z at *
  obtain ⟨v, e⟩ := z
  refine hfree.trans (.ite ?_ ?_)
  · exact .trans (.of_mask (mask_expose rfl _ _ _)) (.of_mask (mask_raise rfl _ _ _))
  · exact .trans (.foldl (fun d x => .of_mask (mask_expose rfl _ x d)) _ e) (.of_mask (mask_setPxl rfl _ _))

theorem sameInstants_cardBoundary (f : BitVec 32) : SameInstants d (cardBoundary f d) := by
  unfold cardBoundary
  extract_lets waiting _ e now moved _ e1
  have he : SameInstants d e := .trans (e := { d with topo := { d.topo with answers := [] } }) rfl
    (.foldl (fun d a => .of_mask (mask_sendAnswer rfl a d)) waiting _)
  have he1 : SameInstants e e1 := rfl
  exact he.trans (.ite (.refl e) (he1.trans (.ite (.of_mask (mask_sendCard rfl _ _)) (.ite (.of_mask (mask_sendCard rfl _ _)) (.refl e1)))))

/-! ### The work of a boundary -/

/-- With no power command waiting, a boundary's power work is a sample of the schedule at most (R519). -/
theorem powerBoundary_idle (hq : d.pwr.queued = []) (hr : d.pwr.runNext = none) (hw : d.pwr.wdQueued = false) :
    powerBoundary d = if d.pwr.trans.isSome || d.pwr.powerOff || d.pwr.inReset then d
      else schedSample (setPwr (fun p => { p with queued := [] }) d) := by
  have hpwr : (schedSample (setPwr (fun p => { p with queued := [] }) d)).pwr = { d.pwr with queued := [] } :=
    pwr_of_mask (ps := others .pwr) (mask_schedSample rfl _) rfl
  unfold powerBoundary
  dsimp only
  by_cases hc : (d.pwr.trans.isSome || d.pwr.powerOff || d.pwr.inReset) = true
  · simp only [if_pos hc]
  · simp only [if_neg hc, hq, List.foldl_nil, hpwr, hr, hw, Bool.false_and, Bool.false_eq_true, if_false]

theorem sameInstants_powerBoundary (hq : d.pwr.queued = []) (hr : d.pwr.runNext = none) (hw : d.pwr.wdQueued = false) :
    SameInstants d (powerBoundary d) ∧ (powerBoundary d).pwr.state = d.pwr.state := by
  rw [powerBoundary_idle d hq hr hw]
  split
  · exact ⟨.refl d, rfl⟩
  · refine ⟨.trans (.of_mask (mask_setPwr rfl _ d)) (.of_mask (mask_schedSample rfl _)), ?_⟩
    rw [pwr_of_mask (ps := others .pwr) (mask_schedSample rfl _) rfl]
    rfl

/-- A boundary's work before that of the power states. -/
def boundaryHead (f : BitVec 32) (d : Device) : Device :=
  let d := releasePorts (setTime (fun t => { t with boundary := some f, owed := none }) d)
  let d := frameMarks (when d.out.joint.isSome (layoutFx f) d)
  let d := recordBoundary f (mapBoundary f d)
  let d := startBulk (fixMap f (rollEnd d))
  let d := feedBoundary (partnerBoundary d)
  let d := windowBoundary (flushPosts d)
  let d := phaseEnd f (runBoundary (sendFix f d))
  paritySubst (when d.isHead repeatReports d)

/-- A boundary's work after that of the power states. -/
def boundaryTail (f : BitVec 32) (d : Device) : Device :=
  cardBoundary f (wakeOver (expoBoundary f (autostart (outBoundary f d))))

theorem boundaryWork_eq (f : BitVec 32) : boundaryWork f d = boundaryTail f (powerBoundary (boundaryHead f d)) := rfl

theorem boundaryHead_instants (f : BitVec 32) : instants (boundaryHead f d).tim = (some f, none) := by
  unfold boundaryHead
  extract_lets d1 d2 d3 d4 d5 d6 d7
  have h1 : instants d1.tim = (some f, none) := congrArg instants (tim_of_mask (ps := others .tim) (mask_releasePorts rfl _) rfl)
  have h2 : SameInstants d1 d2 := .trans (.when (sameInstants_layoutFx d1 f)) (sameInstants_frameMarks _)
  have h3 : SameInstants d2 d3 := .trans (sameInstants_mapBoundary d2 f) (sameInstants_recordBoundary _ f)
  have h4 : SameInstants d3 d4 := .of_mask ((mask_startBulk rfl _).trans ((mask_fixMap rfl _ _).trans (mask_rollEnd rfl _)))
  have h5 : SameInstants d4 d5 := .of_mask ((mask_feedBoundary rfl _).trans (mask_partnerBoundary rfl _))
  have h6 : SameInstants d5 d6 := .trans (.of_mask (mask_flushPosts rfl d5)) (sameInstants_windowBoundary _)
  have h7 : SameInstants d6 d7 := .of_mask ((mask_phaseEnd rfl _ _).trans ((mask_runBoundary rfl _).trans (mask_sendFix rfl _ _)))
  have h8 : SameInstants d7 (paritySubst (when d7.isHead repeatReports d7)) :=
    .trans (.when (.of_mask (mask_repeatReports rfl d7))) (sameInstants_paritySubst _)
  exact Eq.trans ((((((h2.trans h3).trans h4).trans h5).trans h6).trans h7).trans h8) h1

theorem boundaryHead_pwr (f : BitVec 32) : (boundaryHead f d).pwr = d.pwr := by
  have hkeep : ∀ {a b : Device}, blank (others .pwr) b = blank (others .pwr) a → b.pwr = a.pwr := fun h => pwr_of_mask h rfl
  unfold boundaryHead
  extract_lets d1 d2 d3 d4 d5 d6 d7
  have h1 : d1.pwr = d.pwr := hkeep ((mask_releasePorts rfl _).trans (mask_setTime rfl _ d))
  have h2 : d2.pwr = d1.pwr := hkeep ((mask_frameMarks rfl _).trans (mask_when (mask_layoutFx rfl f d1)))
  have h3 : d3.pwr = d2.pwr := hkeep ((mask_recordBoundary rfl f _).trans (mask_mapBoundary rfl f d2))
  have h4 : d4.pwr = d3.pwr := hkeep ((mask_startBulk rfl _).trans ((mask_fixMap rfl _ _).trans (mask_rollEnd rfl d3)))
  have h5 : d5.pwr = d4.pwr := hkeep ((mask_feedBoundary rfl _).trans (mask_partnerBoundary rfl d4))
  have h6 : d6.pwr = d5.pwr := hkeep ((mask_windowBoundary rfl _).trans (mask_flushPosts rfl d5))
  have h7 : d7.pwr = d6.pwr := hkeep ((mask_phaseEnd rfl f _).trans ((mask_runBoundary rfl _).trans (mask_sendFix rfl f d6)))
  have h8 : (paritySubst (when d7.isHead repeatReports d7)).pwr = d7.pwr :=
    hkeep ((mask_paritySubst rfl _).trans (mask_when (mask_repeatReports rfl d7)))
  rw [h8, h7, h6, h5, h4, h3, h2, h1]

theorem boundaryTail_same (f : BitVec 32) : SameInstants d (boundaryTail f d) ∧ (boundaryTail f d).pwr.state = d.pwr.state := by
  have hexpo : SameInstants d (expoBoundary f (autostart (outBoundary f d))) :=
    .trans (.trans (.of_mask (mask_outBoundary rfl f d)) (sameInstants_autostart _)) (.when (sameInstants_expoFrame _ f))
  have hpwr : (expoBoundary f (autostart (outBoundary f d))).pwr = d.pwr := pwr_of_mask (ps := others .pwr)
    ((mask_expoBoundary rfl f _).trans ((mask_autostart rfl _).trans (mask_outBoundary rfl f d))) rfl
  unfold boundaryTail
  generalize expoBoundary f (autostart (outBoundary f d)) = e at *
  have hwoke : (wakeOver e).pwr.state = e.pwr.state := by
    unfold wakeOver when
    split <;> rfl
  refine ⟨.trans (hexpo.trans (.of_mask (mask_wakeOver rfl e))) (sameInstants_cardBoundary _ f), ?_⟩
  rw [pwr_of_mask (ps := others .pwr) (mask_cardBoundary rfl f _) rfl, hwoke, hpwr]

/-- A boundary's work with no power command waiting: the boundary is worked, none is owed, and the power state stays (R93). -/
theorem boundaryWork_worked (f : BitVec 32) (hq : d.pwr.queued = []) (hr : d.pwr.runNext = none) (hw : d.pwr.wdQueued = false) :
    (boundaryWork f d).tim.boundary = some f ∧ (boundaryWork f d).tim.owed = none ∧ (boundaryWork f d).pwr.state = d.pwr.state := by
  have hhead := boundaryHead_instants d f
  have hpwr := boundaryHead_pwr d f
  rw [boundaryWork_eq]
  generalize boundaryHead f d = e at *
  rw [← hpwr] at hq hr hw
  obtain ⟨hsame, hstate⟩ := sameInstants_powerBoundary e hq hr hw
  obtain ⟨hsame', hstate'⟩ := boundaryTail_same (powerBoundary e) f
  have hall : instants (boundaryTail f (powerBoundary e)).tim = (some f, none) := Eq.trans (hsame.trans hsame') hhead
  exact ⟨congrArg Prod.fst hall, congrArg Prod.snd hall, by rw [hstate', hstate, hpwr]⟩

end

end Sys2Proof.Proofs
end

/-! ## Sys2Proof/Proofs/FrameInstants: the instants of a frame, and the end of composition (R89, R92, R93, R99, R211, R240, R241, R245) -/

section

namespace Sys2Proof.Proofs

open Machine Laws

/-! ### The boundary -/

section
variable {d : Device} {p q : RP} {f : BitVec 32}

theorem before_self (p : RP) : p.before p = false := by
  rw [Bool.eq_false_iff, ne_eq, before_iff]
  simp [frameDiff]

theorem next_not_before (p : RP) : (RP.start (p.frame + 1)).before p = false := by
  have hdiff : frameDiff (p.frame + 1) p.frame = 1 := by
    rw [frameDiff, BitVec.add_comm, BitVec.add_sub_cancel]
    decide
  rw [Bool.eq_false_iff, ne_eq, before_iff, RP.start, hdiff]
  omega

/-- The boundary to be worked next does not lie behind the RP, unless it is owed (R98). -/
theorem dueBoundary_ahead (d : Device) : ((RP.start (dueBoundary d)).before d.clk.rp && d.tim.owed != some (dueBoundary d)) = false := by
  rw [dueBoundary]
  cases ho : d.tim.owed with
  | some f => simp
  | none =>
    have hnext : (RP.start (nextBoundary d)).before d.clk.rp = false := by
      unfold nextBoundary
      dsimp only
      split
      next h =>
        obtain ⟨hline, hsub, -⟩ := h
        have hstart : RP.start d.clk.rp.frame = d.clk.rp := by
          cases hrp : d.clk.rp
          simp_all [RP.start]
        rw [hstart, before_self]
      next => exact next_not_before _
    simp [hnext]

theorem counting_hold (hc : counting d = true) : d.clk.hold.isSome = false := by
  unfold counting at hc
  simp only [Bool.and_eq_true] at hc
  simpa using hc.2

theorem boundaryFx_worked (hc : counting d = true) (hd : nextEntry d = none) :
    boundaryFx d = quiet (boundaryWork (dueBoundary d)) (reached (RP.start (dueBoundary d)) d) := by
  rw [boundaryFx, if_neg (by simp [hc])]
  simp only [dueBy_of_none hd, counting_hold hc, dueBoundary_ahead, Bool.or_self, Bool.false_eq_true, if_false, reached]

theorem boundary_worked {s : State} (hc : counting s.dev = true) (hd : nextEntry s.dev = none) (hq : s.dev.pwr.queued = [])
    (hr : s.dev.pwr.runNext = none) (hw : s.dev.pwr.wdQueued = false) :
    Does .frameBoundary s (fun e => e.clk = s.dev.clk.reach (RP.start (dueBoundary s.dev)) ∧
      e.tim.boundary = some (dueBoundary s.dev) ∧ e.tim.owed = none ∧ e.pwr.state = s.dev.pwr.state) := by
  obtain ⟨hb, ho, hs⟩ := boundaryWork_worked (reached (RP.start (dueBoundary s.dev)) s.dev) (dueBoundary s.dev) hq hr hw
  refine clocked_does (f := boundaryFx) rfl ?_
  rw [boundaryFx_worked hc hd, quiet_clk, quiet, keepClk_tim, keepClk_pwr]
  exact ⟨rfl, hb, ho, hs⟩

/-! ### Cut-off, deadline and sub-refresh start -/

/-- Where no command is due, a recurring event reaches its point and does its work (R96). -/
theorem comeTo_works (hc : counting d = true) (hd : nextEntry d = none) (p : RP) (work : Device → Device) :
    comeTo p work d = quiet work { d with clk := d.clk.reach p } := by
  rw [comeTo_of_none hd]
  simp [counting_hold hc]

theorem cutoff_worked {s : State} (hc : counting s.dev = true) (hd : nextEntry s.dev = none) :
    Does .cutoffLineReached s (fun e => e.tim.cutoff = some (cutoffFrame s.dev) ∧
      e.clk = s.dev.clk.reach { frame := cutoffFrame s.dev - 1, line := cutLine s.dev, sub := 0 }) := by
  refine clocked_does (f := cutoffFx) rfl ?_
  rw [cutoffFx, if_neg (by simp [hc])]
  simp only [comeTo_works hc hd]
  exact ⟨rfl, rfl⟩

theorem deadlineFx_deadline (f : BitVec 32) (d : Device) : (deadlineFx f d).tim.deadline = some f := by
  unfold deadlineFx
  extract_lets d1 d2 _ d3
  have h3 : d3.tim.deadline = some f := rfl
  clear_value d3
  split
  · rw [tim_of_mask (ps := others .tim) (mask_storeStep1 rfl _ _ _) rfl, tim_of_mask (ps := others .tim) (mask_layersFor rfl _ _) rfl]
    exact h3
  · exact h3

theorem deadline_worked {s : State} (hc : counting s.dev = true) (hd : nextEntry s.dev = none) :
    Does .compositionDeadline s (fun e => e.tim.deadline = some (deadlineFrame s.dev) ∧
      e.clk = s.dev.clk.reach { frame := deadlineFrame s.dev - 1, line := s.dev.clk.raster.lines - 1, sub := 0 }) := by
  refine clocked_does (f := deadlineStep) rfl ?_
  rw [deadlineStep, if_neg (by simp [hc]), comeTo_works hc hd]
  refine ⟨?_, rfl⟩
  rw [quiet, keepClk_tim, tim_of_mask (ps := others .tim) (mask_calBlanking rfl _ _) rfl, deadlineFx_deadline]

/-- The display frame and the number of the present sub-refresh. -/
def subNow (o : Output) : BitVec 32 × Nat := (o.subFrame, o.sub)

theorem subNow_heldNote (cause : Nat) (d : Device) : subNow (heldNote cause d).out = subNow d.out := by
  unfold heldNote
  split <;> rfl

theorem subNow_runSections (list : List Nat) (d : Device) : subNow (runSections list d).out = subNow d.out := by
  rfl

theorem subStartFx_sub (f : BitVec 32) (k : Nat) (d : Device) : subNow (subStartFx f k d).out = (f, k) := by
  unfold subStartFx
  extract_lets d1 d2 o d3 waits
  have h3 : subNow d3.out = (f, k) := rfl
  clear_value d3
  split
  next cs _ =>
    have hout : ∀ e : Device, subNow (when (k != 0) (lateSwap f k) e).out = subNow e.out := fun e =>
      congrArg subNow (out_of_mask (ps := others .out) (mask_when (mask_lateSwap rfl f k e)) rfl)
    rw [hout, subNow_runSections]
    exact h3
  next =>
    split
    · rw [subNow_heldNote, subNow_runSections]
      exact h3
    · rw [subNow_runSections, h3]

theorem subWork_sub (f : BitVec 32) (k : Nat) (d : Device) : subNow (subWork f k d).out = (f, k) := by
  unfold subWork
  extract_lets d1 d2
  have h1 : subNow d1.out = (f, k) := by
    simp only [d1]
    split
    · exact subStartFx_sub f k d
    · rfl
  have h2 : subNow d2.out = subNow d1.out := congrArg subNow (out_of_mask (ps := others .out)
    ((mask_darkGapCheck rfl _).trans (mask_strSample rfl d1)) rfl)
  split
  · exact (congrArg subNow (out_of_mask (ps := others .out) (mask_calPairBegin rfl f d2) rfl)).trans (h2.trans h1)
  · exact h2.trans h1

theorem subrefresh_started {s : State} {k : Nat} (hc : counting s.dev = true) (hd : nextEntry s.dev = none) (hnode : s.dev.isNode = true)
    (hn : nextSub s.dev = some (f, k, p)) :
    Does .subrefreshStart s (fun e => e.clk = s.dev.clk.reach p ∧ e.out.subFrame = f ∧ e.out.sub = k) := by
  refine clocked_does (f := subRow) rfl ?_
  rw [subRow, if_neg (by simp [hc, hnode])]
  simp only [subDue_of_none hd, hn, comeTo_works hc hd]
  have hsub := subWork_sub f k { s.dev with clk := s.dev.clk.reach p }
  exact ⟨rfl, congrArg Prod.fst hsub, congrArg Prod.snd hsub⟩

/-- Nothing is worked while the raster does not count (R98). -/
theorem instants_rest {s : State} (hc : counting s.dev = false) :
    Does .frameBoundary s (fun e => e = s.dev) ∧ Does .cutoffLineReached s (fun e => e = s.dev) ∧
      Does .compositionDeadline s (fun e => e = s.dev) ∧ Does .subrefreshStart s (fun e => e = s.dev) :=
  ⟨clocked_does (f := boundaryFx) rfl (if_pos (by simp [hc])), clocked_does (f := cutoffFx) rfl (if_pos (by simp [hc])),
    clocked_does (f := deadlineStep) rfl (if_pos (by simp [hc])), clocked_does (f := subRow) rfl (if_pos (by simp [hc]))⟩

end

/-! ### Composition -/

section
variable {d : Device} {g x : Graph}

/-- A graph that differs from another at most in the words its buffers hold poisoned (R217). -/
def LikeGraph (g x : Graph) : Prop :=
  x.frame = g.frame ∧ x.record = g.record ∧ x.released = g.released ∧ ∀ m, itemSegs x m = itemSegs g m

theorem LikeGraph.refl (g : Graph) : LikeGraph g g := ⟨rfl, rfl, rfl, fun _ => rfl⟩

theorem LikeGraph.trans {y : Graph} (h : LikeGraph g x) (h' : LikeGraph x y) : LikeGraph g y := by
  obtain ⟨hf, hr, hrel, hi⟩ := h
  obtain ⟨hf', hr', hrel', hi'⟩ := h'
  exact ⟨hf'.trans hf, hr'.trans hr, hrel'.trans hrel, fun m => (hi' m).trans (hi m)⟩

/-- A layer as the lines read of it go: its number, the format of what it reads, and where it is shown. -/
def layerShape (l : GraphLayer) : Nat × Option SrcFmt × Disp := (l.idx, (fetchBuf l.what).map Buffer.fmt, l.disp)

/-- Whether segment `m.s` of row `y` reads the line of a mismatch from a layer of this shape (R347). -/
def lineReads (n : NodeRecord) (m : Mismatch) (y : Nat) (x : Nat × Option SrcFmt × Disp) : Bool :=
  x.1 == m.layer.val && (match x.2.1 with
    | some f => (match segSpan x.2.2 (geomOf n f x.2.2) n y m.s with
      | some p => decide (p.j0 ≤ m.line) && decide (m.line ≤ p.j1)
      | none => false)
    | none => false)

theorem lineReads_shape (n : NodeRecord) (m : Mismatch) (y : Nat) (l : GraphLayer) : lineReads n m y (layerShape l) =
    (l.idx == m.layer.val && (match fetchBuf l.what with
      | some b => (match segSpan l.disp (geomOf n b.fmt l.disp) n y m.s with
        | some p => decide (p.j0 ≤ m.line) && decide (m.line ≤ p.j1)
        | none => false)
      | none => false)) := by
  rw [lineReads, layerShape]
  cases fetchBuf l.what <;> rfl

/-- The segments a mismatch keeps back go by the shapes of the layers alone (R241). -/
theorem itemSegs_like (hr : x.record = g.record) (hl : x.layers.map layerShape = g.layers.map layerShape) (m : Mismatch) :
    itemSegs x m = itemSegs g m := by
  have hany : ∀ (n : NodeRecord) (y : Nat), x.layers.any (fun l => lineReads n m y (layerShape l)) =
      g.layers.any (fun l => lineReads n m y (layerShape l)) := by
    intro n y
    have h := congrArg (List.any · (lineReads n m y)) hl
    rwa [List.any_map, List.any_map] at h
  simp only [lineReads_shape] at hany
  unfold itemSegs
  dsimp only
  rw [hr]
  split
  · rfl
  · split
    · exact List.filterMap_congr fun y _ => congrArg (fun c : Bool => if c = true then some (y, m.s) else none) (hany g.record y)
    · rfl

theorem poisonGraph_shapes (e : StoreError) (g : Graph) : (poisonGraph e g).layers.map layerShape = g.layers.map layerShape := by
  unfold poisonGraph
  rw [List.map_map]
  refine List.map_congr_left fun l _ => ?_
  rw [Function.comp_apply]
  split
  · rfl
  · split <;> cases hw : l.what <;> simp [layerShape, fetchBuf, hw]

theorem poisonGraph_like (e : StoreError) (g : Graph) : LikeGraph g (poisonGraph e g) :=
  ⟨rfl, rfl, rfl, itemSegs_like rfl (poisonGraph_shapes e g)⟩

theorem poisonGraph_foldl_like (es : List StoreError) (g : Graph) : LikeGraph g (es.foldl (fun g e => poisonGraph e g) g) := by
  induction es generalizing g with
  | nil => exact .refl g
  | cons e es ih => exact (poisonGraph_like e g).trans (ih _)

/-- The graph in progress, the layers and the display frame composed last. -/
def composed (p : Pixel) : Option Graph × List Layer × Option (BitVec 32) := (p.graph, p.layers, p.last)

theorem composed_ite {c : Prop} [Decidable c] {e f : Device} (he : composed e.pxl = composed d.pxl) (hf : composed f.pxl = composed d.pxl) :
    composed (if c then e else f).pxl = composed d.pxl := by
  split
  · exact he
  · exact hf

theorem composed_fsError (e : StoreError) (d : Device) : composed (fsError e d).pxl = composed d.pxl := by
  have hused : ∀ (kind unit : Nat) (d : Device), (spareUsed kind unit d).pxl = d.pxl := fun kind unit d =>
    pxl_of_mask (ps := others .pxl) (mask_spareUsed rfl kind unit d) rfl
  have hbank : ∀ (bank : Nat) (d : Device), composed (fsBank bank d).pxl = composed d.pxl := by
    intro bank d
    unfold fsBank
    split
    · rfl
    · rw [hused]
      rfl
  have hrow : ∀ (d : Device), composed (fsRow e d).pxl = composed d.pxl := by
    intro d
    unfold fsRow
    split
    · rfl
    · exact hbank _ _
  unfold fsError
  dsimp only
  refine composed_ite rfl (composed_ite (hbank _ _) ?_)
  unfold when
  exact composed_ite (hrow _) rfl

theorem composed_fsErrors (es : List StoreError) (d : Device) : composed (es.foldl (fun d e => fsError e d) d).pxl = composed d.pxl := by
  induction es generalizing d with
  | nil => rfl
  | cons e es ih => exact (ih _).trans (composed_fsError e d)

/-- What fetching leaves of a graph, of the layers and of the frame composed last (R217). -/
def Fetched (g : Graph) (d e : Device) : Prop :=
  (∃ x, e.pxl.graph = some x ∧ LikeGraph g x) ∧ e.pxl.layers = d.pxl.layers ∧ e.pxl.last = d.pxl.last

theorem fetchPass_fetched (hg : d.pxl.graph = some g) (hold : Bool) (xs : List (Nat × Nat)) : Fetched g d (fetchPass hold xs d) := by
  unfold fetchPass
  simp only [hg]
  have hes := composed_fsErrors (d.pxl.upsets.filter (fun e => e.hold == hold && xs.any (fetchReads g e))) d
  generalize (d.pxl.upsets.filter (fun e => e.hold == hold && xs.any (fetchReads g e))) = es at *
  have hgraph : (es.foldl (fun d e => fsError e d) d).pxl.graph = some g := (congrArg Prod.fst hes).trans hg
  refine ⟨⟨_, ?_, poisonGraph_foldl_like (es.filter (fun e => e.uncorrected)) g⟩, congrArg (·.2.1) hes, congrArg (·.2.2) hes⟩
  rw [setPxl, hgraph]
  rfl

theorem fetchErrors_fetched (hg : d.pxl.graph = some g) (k : Nat) : Fetched g d (fetchErrors k d) := by
  unfold fetchErrors
  simp only [hg]
  obtain ⟨⟨x, hx, hlike⟩, hl, ht⟩ := fetchPass_fetched hg false ((segments g.record).take k)
  obtain ⟨⟨y, hy, hlike'⟩, hl', ht'⟩ := fetchPass_fetched hx true ((segments g.record).take k)
  exact ⟨⟨y, hy, hlike.trans hlike'⟩, hl'.trans hl, ht'.trans ht⟩

theorem heldAt_like {e : Device} (hred : e.red = d.red) (h : LikeGraph g x) : heldAt e x = heldAt d g := by
  obtain ⟨hf, hr, -, hi⟩ := h
  rw [heldAt, heldAt, hred, hf, hr]
  simp only [hi]

theorem heldAt_none (h : ∀ a ∈ d.red.arbs, a.frame ≠ g.frame) : heldAt d g = segCount g.record := by
  have hnone : d.red.arbs.filter (fun a => a.frame == g.frame && !a.testing) = [] :=
    List.filter_eq_nil_iff.mpr fun a ha => by simp [h a ha]
  rw [heldAt, hnone]
  rfl

/-- Segments are released as far as asked, those released before stay so (R240). -/
theorem releaseTo_graph (hg : d.pxl.graph = some g) (n : Nat) : ∃ y, (releaseTo n d).pxl.graph = some y ∧ y.frame = g.frame ∧
    y.record = g.record ∧ y.computed = g.computed ∧ y.released = max g.released (min n (segCount g.record)) ∧
    (releaseTo n d).pxl.layers = d.pxl.layers ∧ (releaseTo n d).pxl.last = d.pxl.last := by
  unfold releaseTo
  simp only [hg]
  split
  next h => exact ⟨g, hg, rfl, rfl, rfl, by omega, rfl, rfl⟩
  next h =>
    unfold when
    split <;> exact ⟨_, rfl, rfl, rfl, rfl, by dsimp only; omega, rfl, rfl⟩

theorem composed_wmPut (d : Device) (i : Nat) (w : Watermark) : composed (wmPut d i w).pxl = composed d.pxl := by
  unfold wmPut
  repeat' split
  all_goals rfl

theorem composed_shareNote (share : Nat) (d : Device) : composed (shareNote share d).pxl = composed d.pxl := by
  have hnotice : ∀ (w : Watermark) (e : Device), (wmNotice 12 w share 1 0 e).pxl = e.pxl := fun w e => raise_pxl _ _ _
  unfold shareNote sampleLoad sample
  extract_lets w w1 crossing w2
  split
  · rw [composed_wmPut, hnotice]
    rfl
  · split <;> exact composed_wmPut _ _ _

/-- A graph that ends is the last composed; the layers stay as they are (R240). -/
theorem composed_finishGraph (g : Graph) (cut : Bool) (d : Device) :
    composed (finishGraph g cut d).pxl = (none, d.pxl.layers, some g.frame) := by
  unfold finishGraph
  extract_lets d1 d2 d3 d4 d5 d6
  have h1 : composed d1.pxl = (none, d.pxl.layers, some g.frame) := rfl
  have h2 : d2.pxl = d1.pxl := pxl_of_mask (ps := others .pxl) (mask_loadReleased rfl _ _ _ _) rfl
  have h3 : d3.pxl = d2.pxl := pxl_of_mask (ps := others .pxl) (mask_poisonNote rfl _ _) rfl
  have h4 : d4.pxl = d3.pxl := pxl_of_mask (ps := others .pxl) (mask_when (mask_report rfl _ _ _ _ _)) rfl
  have h5 : composed d5.pxl = composed d4.pxl := composed_shareNote _ _
  have h6 : d6.pxl = d5.pxl := pxl_of_mask (ps := others .pxl) (mask_sendProof rfl _ _) rfl
  refine Eq.trans (b := composed d6.pxl) rfl ?_
  rw [h6, h5, h4, h3, h2, h1]

/-- A graph being released: computed, with what is held back still to be decided. -/
theorem composeOn_releases (hg : d.pxl.graph = some g) (hcomp : g.computed = true) :
    ∃ y e, composeOn d = finishIf false e ∧ e.pxl.graph = some y ∧ y.frame = g.frame ∧ y.record = g.record ∧ y.computed = true ∧
      y.released = max g.released (min (heldAt d g) (segCount g.record)) ∧ e.pxl.layers = d.pxl.layers ∧ e.pxl.last = d.pxl.last := by
  obtain ⟨y, hy, hf, hr, hc, hrel, hl, ht⟩ := releaseTo_graph hg (heldAt d g)
  obtain ⟨q, hq⟩ := queuesHeld_pxl (releaseTo (heldAt d g) d)
  refine ⟨y, queuesHeld (releaseTo (heldAt d g) d), ?_, ?_, hf, hr, hc.trans hcomp, hrel, ?_, ?_⟩
  · simp only [composeOn, hg, hcomp, Bool.not_true, Bool.false_eq_true, if_false]
  · rw [hq]
    exact hy
  · rw [hq]
    exact hl
  · rw [hq]
    exact ht

theorem composeDoneFx_eq (hg : d.pxl.graph = some g)
    (ht : d.clk.rp.passed { frame := g.frame - 1, line := d.clk.raster.lines - 1, sub := 0 } = false) :
    composeDoneFx d = if g.computed then d
      else composeOn (setPxl (fun p => { p with graph := p.graph.map (fun g => { g with computed := true }) }) (fetchErrors (segCount g.record) d)) := by
  have hstale : staleGraph d = d := by
    rw [staleGraph, hg]
    simp only [ht, when_false]
  rw [composeDoneFx, hstale]
  simp only [hg]

/-- A graph whose segments have all finished, with those that await no decision released. -/
theorem composeDone_releases (hg : d.pxl.graph = some g)
    (ht : d.clk.rp.passed { frame := g.frame - 1, line := d.clk.raster.lines - 1, sub := 0 } = false) (hcomp : g.computed = false) :
    ∃ y e, composeDoneFx d = finishIf false e ∧ e.pxl.graph = some y ∧ y.frame = g.frame ∧ y.record = g.record ∧ y.computed = true ∧
      y.released = max g.released (min (heldAt d g) (segCount g.record)) ∧ e.pxl.layers = d.pxl.layers ∧ e.pxl.last = d.pxl.last := by
  have hfx := composeDoneFx_eq hg ht
  rw [hcomp, if_neg Bool.false_ne_true] at hfx
  obtain ⟨⟨x, hx, hlike⟩, hl, htl⟩ := fetchErrors_fetched hg (segCount g.record)
  have hred : (fetchErrors (segCount g.record) d).red = d.red := red_of_mask (ps := others .red) (mask_fetchErrors rfl _ _) rfl
  generalize fetchErrors (segCount g.record) d = d1 at *
  have hgraph : (setPxl (fun p => { p with graph := p.graph.map (fun g => { g with computed := true }) }) d1).pxl.graph =
      some { x with computed := true } := by
    rw [setPxl, hx]
    rfl
  obtain ⟨y, e, hon, hy, hf, hr, hc, hrel, hl', ht'⟩ := composeOn_releases hgraph rfl
  have hheld : heldAt (setPxl (fun p => { p with graph := p.graph.map (fun g => { g with computed := true }) }) d1) { x with computed := true } =
      heldAt d g := heldAt_like hred ⟨hlike.1, hlike.2.1, hlike.2.2.1, hlike.2.2.2⟩
  obtain ⟨hframe, hrecord, hreleased, -⟩ := hlike
  refine ⟨y, e, hfx.trans hon, hy, hf.trans hframe, hr.trans hrecord, hc, ?_, hl'.trans hl, ht'.trans htl⟩
  rw [hrel, hheld]
  simp only [hreleased, hrecord]

theorem composeDoneFx_clk (d : Device) : (composeDoneFx d).clk = d.clk := clk_of_mask (ps := others .clk) (mask_composeDoneFx rfl d) rfl

variable {s : State}

theorem composition_ends (hg : s.dev.pxl.graph = some g)
    (ht : s.dev.clk.rp.passed { frame := g.frame - 1, line := s.dev.clk.raster.lines - 1, sub := 0 } = false) (hcomp : g.computed = false)
    (hfree : ∀ a ∈ s.dev.red.arbs, a.frame ≠ g.frame) :
    Does .compositionDone s (fun e => e.pxl.graph = none ∧ e.pxl.last = some g.frame ∧ e.pxl.layers = s.dev.pxl.layers) := by
  obtain ⟨y, e, hfx, hy, hf, hr, -, hrel, hl, -⟩ := composeDone_releases hg ht hcomp
  rw [heldAt_none hfree, Nat.min_self] at hrel
  have hend : composeDoneFx s.dev = finishGraph y false e := by
    rw [hfx, finishIf, hy]
    exact if_pos (by rw [hr, hrel]; exact Nat.le_max_right _ _)
  have hall := composed_finishGraph y false e
  rw [hf, hl] at hall
  refine act_does_of_clk (f := composeDoneFx) rfl (composeDoneFx_clk _) ?_
  rw [hend]
  exact ⟨congrArg Prod.fst hall, congrArg (·.2.2) hall, congrArg (·.2.1) hall⟩

theorem composition_waits (hg : s.dev.pxl.graph = some g)
    (ht : s.dev.clk.rp.passed { frame := g.frame - 1, line := s.dev.clk.raster.lines - 1, sub := 0 } = false) (hcomp : g.computed = false)
    (hrel : g.released ≤ heldAt s.dev g) (hheld : heldAt s.dev g < segCount g.record) :
    Does .compositionDone s (fun e => e.pxl.last = s.dev.pxl.last ∧
      ∃ x, e.pxl.graph = some x ∧ x.frame = g.frame ∧ x.computed = true ∧ x.released = heldAt s.dev g) := by
  obtain ⟨y, e, hfx, hy, hf, hr, hc, hy', -, hlast⟩ := composeDone_releases hg ht hcomp
  have hreleased : y.released = heldAt s.dev g := by omega
  have hstay : composeDoneFx s.dev = e := by
    rw [hfx, finishIf, hy]
    exact if_neg (by rw [hr]; omega)
  refine act_does_of_clk (f := composeDoneFx) rfl (composeDoneFx_clk _) ?_
  rw [hstay]
  exact ⟨hlast, y, hy, hf, hc, hreleased⟩

theorem composition_computed (hg : s.dev.pxl.graph = some g)
    (ht : s.dev.clk.rp.passed { frame := g.frame - 1, line := s.dev.clk.raster.lines - 1, sub := 0 } = false) (hcomp : g.computed = true) :
    Does .compositionDone s (fun e => e = s.dev) :=
  act_does_of_clk (f := composeDoneFx) rfl (composeDoneFx_clk _) ((composeDoneFx_eq hg ht).trans (if_pos hcomp))

theorem composition_none (hg : s.dev.pxl.graph = none) : Does .compositionDone s (fun e => e = s.dev) := by
  have hstale : staleGraph s.dev = s.dev := by rw [staleGraph, hg]
  refine act_does_of_clk (f := composeDoneFx) rfl (composeDoneFx_clk _) ?_
  rw [composeDoneFx, hstale]
  simp only [hg]

end

/-- Settles O27: with no command due each instant is reached and worked, and a composition in time releases its segments up to the first that
awaits a decision. -/
theorem frameInstants : Obligations.FrameInstants := by
  unfold Obligations.FrameInstants
  refine ⟨fun s => ⟨fun hc hd => ⟨boundary_worked hc hd, cutoff_worked hc hd, deadline_worked hc hd,
    fun hnode f k p => subrefresh_started hc hd hnode⟩, instants_rest⟩, fun s => ⟨fun g hg ht => ⟨composition_ends hg ht, composition_waits hg ht,
      composition_computed hg ht⟩, composition_none⟩⟩

end Sys2Proof.Proofs
end
